-- ==== Sys2Proof/Word.lean ====
section
/-!
DEFINITION. The words of the block: bytes, 32-bit registers, and the shapes of the register and dictionary tables.
-/
namespace Sys2Proof

/-- A byte of a frame, a message, an entry or a buffer. -/
abbrev Byte := BitVec 8

/-- A register of BAR0: 32 bits, little-endian (R5). -/
abbrev Word := BitVec 32

/-- One field of one register: its BAR0 offset and its bits [hi:lo]. -/
structure FieldRef where
  addr : Nat
  hi : Nat
  lo : Nat
  deriving DecidableEq, Repr

/-- Access codes of R8 (RSV fields are those that no `RegField` names). -/
inductive Access where
  | ro | rw | rwl | w1c | w1s | rc | wo
  deriving DecidableEq, Repr

/-- The Host column of R9: `y` writable in every life-cycle state, `m` in Manufacture and Returned, `n` never. -/
inductive HostCol where
  | y | m | n
  deriving DecidableEq, Repr

/-- A field of a register table: bits [hi:lo], access code, Host column, reset value. -/
structure RegField where
  hi : Nat
  lo : Nat
  acc : Access
  host : HostCol
  reset : Nat
  deriving DecidableEq, Repr

/-- A register or an array of `count` registers `stride` bytes apart, in unit `unit` (index of R34). -/
structure RegRow where
  unit : Nat
  base : Nat
  count : Nat
  stride : Nat
  fields : List RegField
  deriving DecidableEq, Repr

/-- Types of dictionary entries (R568), in the order of their codes. -/
inductive DictType where
  | bool | u8 | u16 | u32 | u64 | i16 | i32 | q15 | q31 | str | blob | key128
  deriving DecidableEq, Repr

/-- Access rights of dictionary entries (R569), in the order of their codes. -/
inductive DictAcc where
  | ro | rw | rwp | wo | rwm
  deriving DecidableEq, Repr

/-- How an entry's value becomes the content of its register field. -/
inductive DictConv where
  | same            -- the value itself
  | less1           -- the value less 1 (FCL_CTRL.PINTH, FCL_SEVn)
  | times16         -- 16 times the value (SPM_TARGET.SPEED)
  | div10           -- the value divided by 10 (BMC_MERGE.HOLD)
  | share512        -- ceil(512 × value / 1,000) (TNT_MTk.SHARE, R103)
  | pitch           -- 0.1 % of PITCH in 1/256 servo track (SRV thresholds)
  | sstep           -- the servo interpolation step of R273
  | period          -- the patrol period of R362
  | pack            -- bytes of a blob, laid over consecutive registers
  deriving DecidableEq, Repr

/-- A block of dictionary entries: indices `idx .. idx + idxCount - 1`, subindices `sub .. sub + subCount - 1`. `lo` and
`hi` bound numeric values (R570 step 4); `len` is the size of a STR or BLOB; `drives` names the register field of the
first entry, with the address steps per index and per subindex. -/
structure DictRow where
  idx : Nat
  idxCount : Nat
  sub : Nat
  subCount : Nat
  ty : DictType
  acc : DictAcc
  dflt : Nat
  lo : Nat
  hi : Nat
  len : Nat
  drives : Option FieldRef
  idxStep : Nat
  subStep : Nat
  conv : DictConv
  deriving DecidableEq, Repr

end Sys2Proof
end

