-- ==== Sys2Proof/Syntax.lean ====
section
/-!
DEFINITION. The commands and events the block takes, whole: one constructor per row of spec/opcode_table.json, with the
records their operands are made of.
-/
namespace Sys2Proof

/-- What Slate finds as it runs its steps (R62, R77): the results of checks the model does not compute. -/
structure SlateInputs where
  refOk : Bool              -- step 1: the root within ±2 %
  pllsLocked : Bool         -- step 1: every PLL locked
  sramOk : Bool             -- step 2: on-die SRAM repairable
  softRepairs : Nat         -- step 2: soft repairs made
  bootLoaderOk : Bool       -- step 3: boot loader passes its integrity check
  eraseOk : Bool            -- step 6: an interrupted erase repeated with success (R631)
  checkerFails : List Nat   -- step 5: codewords with a wrong result, rising
  image1Ok : Bool           -- step 6: the image in bank 1 verifies
  image2Ok : Bool           -- step 6: the image in bank 2 verifies
  recordOk : Bool           -- step 3: the copies of the life-cycle record agree (R662)
  lockstepOk : Bool         -- no lockstep mismatch during boot
  linkUp : Bool             -- step 7: the die-to-die link comes up
  ddr0Ok : Bool             -- step 8: channel 0 trained
  ddr1Ok : Bool             -- step 8: channel 1 trained
  installed : Nat           -- step 8: GiB of each channel (R347, R348)
  dramOk : Bool             -- step 8: no bank group needs more repairs than it has spare rows (R352)
  badRows : List Nat        -- step 8: lines of the rows that fail the self-test (R352)
  deriving DecidableEq, Repr

/-- What a command finds in host memory (R465 to R467): its scatter-gather list, and the bytes at the host addresses it
reads, in the order of its buffer. -/
structure HostData where
  sgl : List Byte           -- the list of BUFKIND 3, 16 B per entry
  sglOk : Bool              -- the list was read without error
  data : List Byte          -- bytes read from host memory
  dataOk : Bool             -- no transfer met an error (R474)
  held : List (Nat × List Byte) -- lines of the HDM window that the host holds modified (R374)
  deriving DecidableEq, Repr

/-- What a DMA channel finds for the lines still to come: bytes of host memory for its source and its destination, and lines of the HDM
window that the host holds modified (R374, R519). -/
structure DmaData where
  src : List Byte
  dst : List Byte
  held : List (Nat × List Byte)
  deriving DecidableEq, Repr


/-- What the demodulator of an actuator takes from one wedge (R275 to R279): the positions of possible marks relative to the predicted one
in servo bits with the ten bits read there; the mark-to-mark interval in 1/256 ADC sample period; for each dibit of the track id, the
wedge id with its parity, and the runout field with its parity and its 0 bit, the correlations of its two servo bits; the correlations of
bursts N and Q and the preamble amplitude. -/
structure WedgeData where
  marks : List (Int × Nat)
  tw : Nat
  tid : List (Int × Int)
  wid : List (Int × Int)
  n : Int
  q : Int
  a : Nat
  rro : List (Int × Int)
  deriving DecidableEq, Repr

/-- A sector as it passes under the heads, from the read gate on: the energy at the 4-bit period over the last 16 bits, at each bit, in
1/256 of the AGC target energy; the timing errors from the start of acquisition on, in 1/64 bit; the tentative soft values y from mark
start −W on; the interpolated samples of readers A, B and C of each part between servo fields, the first from the read gate on, the
others from the start of their resync window; for each resync field the timing errors over its pattern and the soft values of its window;
the gain of reader A at the end in 0.25 dB; the SNR estimate in 0.01 dB that goes with the samples. -/
structure Capture where
  energy : List Nat
  errs : List Int
  soft : List Int
  pieces : List (List (List Int))
  resync : List (List Int × List Int)
  gain : Nat
  snr : Nat
  deriving DecidableEq, Repr

/-- A datagram as it arrives at the migration port: the IPv6 addresses of its packet, the destination port, whether its UDP
checksum holds, and its bytes from the header of R543 on. -/
structure Dgram where
  src : List Byte
  dst : List Byte
  port : Nat
  sumOk : Bool
  bytes : List Byte
  deriving DecidableEq, Repr

/-- What a write that starts work finds or is given (R571): what Slate finds after the reset it ends in (0x7000:02, 0x7020:04), the
fuses blown before a supply failure (R661), the self-check before an unformatted drive spins up (R247, R671), the
DRIVE_ID of a format (R138), and whether the preamp implements TEST (R669). -/
structure ActIn where
  slate : SlateInputs
  cut : Option Nat
  selfOk : Bool
  driveId : List Byte
  testImpl : Bool
  deriving DecidableEq, Repr


/-- The commands and events of the block, one constructor per row of spec/opcode_table.json. Operands are what the
environment supplies with the event: measured values, bytes read outside the part, results of analogue checks. -/
inductive Instr where
  /-- SUPPLY_GOOD (R46): V12 and VDD_3V3 reach their good thresholds, and the motion die enters Ash. -/
  | supplyGood (v12 v33 : Nat) (node : BitVec 7) (i : SlateInputs)
  /-- SUPPLY_LOST (R46): V12 or VDD_3V3 falls below its loss threshold, which resets the motion die. -/
  | supplyLost (v12 v33 : Nat)
  /-- VDD_AO_POWER_ON (R50): VDD_AO rises through its power-on threshold; the whole core die resets, including the unlock count and lockout. -/
  | vddAoPowerOn (i : SlateInputs)
  /-- PORST_N_LOW (R50): PORST_N is driven low; the core die takes a power-on reset that clears the sticky bits. -/
  | porstNLow
  /-- PORST_N_RELEASE (R62): PORST_N is released and Slate starts running its steps in order. -/
  | porstNRelease (i : SlateInputs)
  /-- SLATE_DEADLINE (R68): 120 ms pass after PORST_N release without Slate completing, and Slate fails with code 0x0C. -/
  | slateDeadline
  /-- SLATE_COMPLETE (R62): Slate step 10 completes: the CAN node runs, the beacon is handed over and the dictionary becomes reachable. -/
  | slateComplete
  /-- PWR_GOOD_FALL (R51): PWR_GOOD falls; the write gates deassert and the core die, except the always-on island, is held in reset. -/
  | pwrGoodFall
  /-- RAIL_OUT_OF_RANGE (R51): A die-level supply monitor reports a core-die rail out of range, and the core die is held in reset. -/
  | railOutOfRange (src : Nat)
  /-- SUPPLY_RESTORED (R51): PWR_GOOD and every rail monitor have been good without interruption for 1 ms, and the core die leaves reset as a warm reset. -/
  | supplyRestored (i : SlateInputs)
  /-- ROOT_REFERENCE_LOSS (R82): The root reference is lost; the core die stops and the motion die acts on the link loss. -/
  | rootReferenceLoss
  /-- ROOT_REFERENCE_RETURN (R82): The reference has been within ±2 % for 10 ms, and the part performs a warm reset or retries Slate. -/
  | rootReferenceReturn (i : SlateInputs)
  /-- RSTREQ_WARM (R79): A write to PLT_RSTREQ.WARM with the unlock value requests a warm reset. -/
  | rstreqWarm (i : SlateInputs)
  /-- RSTREQ_BUFFER (R28): A write to PLT_RSTREQ.BUFFER requests a Buffer domain reset, which is carried out as a warm reset. -/
  | rstreqBuffer (i : SlateInputs)
  /-- RSTREQ_HOST (R81): A write to PLT_RSTREQ.HOST resets the Host domain with the effects of a CXL reset. -/
  | rstreqHost
  /-- RSTREQ_OBJECT (R81): A write to PLT_RSTREQ.OBJECT resets the Object domain: commands in slots are aborted and the index is recovered. -/
  | rstreqObject
  /-- RSTREQ_MEDIA0 (R81): A write to PLT_RSTREQ.MEDIA0 resets Media 0: actuator 0 is parked and its commands are held. -/
  | rstreqMedia0 (both : Bool)
  /-- RSTREQ_MEDIA1 (R81): A write to PLT_RSTREQ.MEDIA1 resets Media 1: actuator 1 is parked and its commands are held. -/
  | rstreqMedia1 (both : Bool)
  /-- RSTREQ_MOTION (R81): A write to PLT_RSTREQ.MOTION resets the Motion domain: both actuators retract and the spindle coasts. -/
  | rstreqMotion
  /-- MEDIA_SERVICE_TIMEOUT (R32): A media domain has been out of service for 30 s, and the commands that wait on it complete with a media-class status. -/
  | mediaServiceTimeout (k : Nat)
  /-- BEACON (R57): Every 100 ms the beacon frame with stage, flags, voltages, speed and SEQ is queued for sending. -/
  | beacon (v12 vbus : Nat) (temp : BitVec 8) (wins : Bool)
  /-- BEACON_DROP (R59): A beacon frame that has not been sent within 100 ms is dropped. -/
  | beaconDrop
  /-- SPIN_UP_DELAY_END (R69): The automatic spin-up delay of 0x2100:07 expires, allowing Ochre to begin. -/
  | spinUpDelayEnd
  /-- SPIN_UP_NOW (R69): A write of 1 to 0x2100:08 requests spin-up while the part waits in Slate. -/
  | spinUpNow
  /-- OCHRE_START (R70): Once Slate is complete, the retract profile has ended and spin-up is allowed, Ochre runs spin-up, head load, Ivory reads, tables and index recovery. -/
  | ochreStart (selfOk : Bool)
  /-- OCHRE_DEADLINE (R71): Ochre runs past the deadline of 0x2100:05 and fails with code 0x25. -/
  | ochreDeadline
  /-- OCHRE_RETRY (R71): The 5 s wait after a failed Ochre attempt ends, and Ochre restarts. -/
  | ochreRetry (selfOk : Bool)
  /-- RESTART_OCHRE (R72): A write of 1 to 0x2100:04 restarts Ochre with a fresh attempt count. -/
  | restartOchre
  /-- COBALT (R75): Ochre completes; the object service opens, every queue is fetched and the time to Cobalt is recorded. -/
  | cobalt (lost : List (Nat × Nat)) (stale : List Nat) (offsets : Nat × Nat)
  /-- D2D_FLIT_RECEIVE (R16): A die-to-die flit arrives and its CRC-8 is checked; a flit with a CRC error is resent. -/
  | d2dFlitReceive (motion crcOk : Bool)
  /-- D2D_RESEND_LIMIT (R16): One flit fails 4 resends, and the die-to-die link goes down. -/
  | d2dResendLimit
  /-- D2D_LINK_TIMEOUT (R17): The motion die receives no valid flit for 10 µs and declares the link down. -/
  | d2dLinkTimeout
  /-- D2D_LINK_UP (R21): The die-to-die link comes up again, and the motion domain is brought back only through a repeated Ochre. -/
  | d2dLinkUp
  /-- CLOCK_MONITOR_GATE (R90): A 5 µs monitor gate ends; a domain outside ±2 % for two gates raises its group source and may force the write gates low. -/
  | clockMonitorGate (out gated : List Nat)
  /-- REFERENCE_DEVIATION (R88): CKM finds the root beyond ±300 ppm over a 100 µs window, and ETH holds its link down. -/
  | referenceDeviation
  /-- TINT_PERIOD (R95): At the 1 µs period boundary, tokens expire and reload and budget changes take effect. -/
  | tintPeriod (firmware : Nat) (upset : Option (Nat × Nat))
  /-- FLOOR_RECOMPUTE (R105): Every hour firmware recomputes the scrub media-time FLOOR of each actuator and raises source 33 when the deadline is unreachable. -/
  | floorRecompute (k milliRevs : Nat)
  /-- CORE_WINDOW (R106): A new 100 µs object-core window begins and the core-time counts restart. -/
  | coreWindow
  /-- HOST_SHARE_SWITCH (R106): At 100 − HOST_PCT µs into a window, a core with pending host work that has run less than its share is switched to host work. -/
  | hostShareSwitch (c ran : Nat) (waits : Bool)
  /-- MIGRATION_CAP (R107): Migration work reaches MIG_PCT of the window and is suspended until the next window. -/
  | migrationCap (ran : Nat)
  /-- SECTOR_WRITE (R262): The sequencer samples write-inhibit and, when it is clear, asserts PAk_WGATE and writes the sector. -/
  | sectorWrite (k : Nat) (cut : Option (Nat × Nat))
  /-- JOURNAL_RECORD_WRITE (R154): A journal record that has become ready is written in SEQ order in the next journal block of its stream. -/
  | journalRecordWrite (k : Nat) (cuts : List Nat)
  /-- JOURNAL_RESUME (R704): A journal sector becomes free, and the waiting records are written in SEQ order. -/
  | journalResume (k : Nat)
  /-- CHECKPOINT (R158): After 256 MiB of journal or 60 s, the part snapshots the index, writes the checkpoint tiles and closes their stripes. -/
  | checkpoint (cut : Option (Nat × List Nat))
  /-- REALLOCATION (R161): A data tile is written to a spare sector, then its RELOC and DEFECT records are written. -/
  | reallocation (wedges : Nat) (foreground : Bool) (cuts : List Nat)
  /-- SECTOR_READ (R175): The read gate asserts for a sector; the channel acquires on the preamble, searches for the mark and hands the chosen alignment to the detector. -/
  | sectorRead (k psa kind : Nat) (cap : Capture) (copied : Bool) (follow : Option Nat)
  /-- DECODE_COMPLETE (R207): An LDPC decode converges or reaches its limits, and the result goes to the CRC-64 and object-tag checks. -/
  | decodeComplete (n upset : Nat)
  /-- SPILL_DRAIN_DONE (R212): A spill buffer finishes draining to DRAM under class 13, and the instance may spill again. -/
  | spillDrainDone (n : Nat)
  /-- DECODE_OVERTIME (R249): An instance has not finished within 4 times its limit time, raising source 242. -/
  | decodeOvertime (n : Nat)
  /-- SAMPLE_COPY_DONE (R216): A sector's samples reach a sample-store slot and its ring space is released. -/
  | sampleCopyDone (k : Nat)
  /-- RECOVERY_STEP_END (R222): A ladder decode returns or a re-read is stored and decoded; erasures are recounted and L1 runs again or the stripe moves on. -/
  | recoveryStepEnd (psa wedges : Nat) (foreground : Bool) (cap : Option Capture)
  /-- RECOVERY_LIMIT (R224): A foreground ladder reaches RECOVERY_REVS revolutions, so the sector is unrecovered and source 245 is raised. -/
  | recoveryLimit (psa : Nat)
  /-- SCRUB_READ (R236): Scrub reads a sector within its media-time share and judges its margin. -/
  | scrubRead (k wedges : Nat) (foreground : Bool) (cap : Capture) (cuts : List Nat)
  /-- SCRUB_RECHECK (R238): A rewritten sector is read again, and its tile is relocated with REASON 3 when the margin is still low. -/
  | scrubRecheck (psa wedges : Nat) (foreground : Bool) (cap : Capture) (cuts : List Nat)
  /-- SCRUB_POSITION_STORE (R241): Every hour firmware stores each actuator's scrub position in bank 3. -/
  | scrubPositionStore
  /-- COMPUTE_EFFICIENCY (R43): A write of 1 to 0x3300:04 computes η for every surface and zone. -/
  | computeEfficiency
  /-- START_QUALIFICATION (R244): A write of 1 to 0x3400:01 in Manufacture starts qualification of every head and zone, bringing up an unformatted drive when needed. -/
  | startQualification (selfOk : Bool)
  /-- QUALIFICATION_RATE_RESULT (R244): The test sectors at one rate have been read back; the rate passes, or RATE steps down by 0.5 %, or status 2 follows after 20 steps. -/
  | qualificationRateResult (h z beyond snr : Nat) (fails : List Nat)
  /-- FORMAT_DRIVE (R247): A write of 1 to 0x3400:05 writes the Ivory slots, defect list and first root, then restarts Ochre. -/
  | formatDrive (id : List Byte)
  /-- GATE_MONITOR_MISMATCH (R195): PAk_WGATE is high while the sequencer expects it low, so the gate is forced low and source 211 or 227 is raised. -/
  | gateMonitorMismatch (k : Nat)
  /-- WRITE_INHIBIT (R263): A write-inhibit source becomes active and takes PAk_WGATE low within its latency. -/
  | writeInhibit (k bit : Nat)
  /-- INHIBIT_RELEASE (R263): Every inhibit source has been released, so the cut sector, the later sectors and the stripe parity are rewritten. -/
  | inhibitRelease (k : Nat)
  /-- WRITE_RETRIES_EXHAUSTED (R267): A sector is cut again after WRITE_RETRIES rewrites, so its tile is relocated with REASON 4. -/
  | writeRetriesExhausted (k : Nat)
  /-- PREAMP_FAULT (R269): PAk_FLT_N goes low; the part reads the preamp FAULT register within 2 µs and raises PRE sources. -/
  | preampFault (k fault : Nat) (answered : Bool)
  /-- PRE_SCMD_GO (R250): A write with GO sends one 16-bit serial frame to the preamp and returns the read data. -/
  | preScmdGo (k : Nat) (read : Bool) (addr data : Nat) (answer : Option Nat) (back : List Nat)
  /-- HEAD_SWITCH (R293): A HEAD write selects a new head, and servo and tables switch to it. -/
  | headSwitch (k head : Nat) (back : List Nat) (offsets : List Nat)
  /-- HEAD_SWITCH_SETTLE (R257): HS_SETTLE expires after a head switch, and the gates may assert again. -/
  | headSwitchSettle (k : Nat)
  /-- SERVO_WEDGE (R280): A servo address mark is found; the wedge is demodulated into P, and the PES and CLE outputs are computed. -/
  | servoWedge (k : Nat) (w : WedgeData) (trajEnd : Bool) (dac : Int)
  /-- WEDGE_PREDICTED (R297): A wedge is missed or defective, so P is predicted, write-inhibit bit 1 is asserted and source 289 or 305 is raised. -/
  | wedgePredicted (k : Nat) (trajEnd : Bool) (dac : Int)
  /-- WEDGE_SEQUENCE_LOST (R298): A missed wedge beyond PRED_MAX declares the sequence lost; sectors abort with SERVO_LOST and marks are searched. -/
  | wedgeSequenceLost (k : Nat)
  /-- REACQUIRE_TIMEOUT (R298): No run of 4 valid wedges is found within REACQ wedges, so the actuator is parked and source 290 is raised. -/
  | reacquireTimeout (k : Nat)
  /-- CLE_OVERRUN (R287): CLE outputs are not complete 1.0 µs after the PES, so source 321 is raised and the previous outputs are kept. -/
  | cleOverrun (k : Nat)
  /-- SRV_TARGET_WRITE (R289): A target write starts a ramp of the track-follow loop or a seek. -/
  | srvTargetWrite (k : Nat) (target : BitVec 32)
  /-- CLE_LOOP_ENABLE (R285): Enabling a loop clears its state and starts the soft-start ramp. -/
  | cleLoopEnable (l : Nat)
  /-- HEAD_LOAD (R292): The actuator leaves the ramp and servo locks after 4 consecutive valid marks, seeding the model. -/
  | headLoad (k : Nat) (ws : List WedgeData) (ident : Option Nat) (rcoil : Nat)
  /-- LOAD_NO_LOCK (R292): No mark run is found within 2 revolutions; the part unloads and retries, and Ochre fails with 0x21 after LOAD_TRIES. -/
  | loadNoLock (k rcoil : Nat)
  /-- RUNOUT_LEARN_TIMEOUT (R299): A head is not learned within 4 × LRN_REVS revolutions, raising source 324. -/
  | runoutLearnTimeout (h : Nat)
  /-- INJECTION_START (R300): A start of 0x4140:09 or CLE_INJCTL.START begins a test-signal injection and capture at the selected node. -/
  | injectionStart
  /-- CAPTURE_COMPLETE (R302): Capture ends; the injection stops and firmware computes the open-loop response and margins. -/
  | captureComplete
  /-- PWM_PERIOD (R309): At each 20 µs PWM period the duty set is applied, phase currents are sampled or reconstructed and the current loop runs. -/
  | pwmPeriod (arrived : Bool) (isamp emf : List Int) (angle speed : Nat)
  /-- DUTY_SET_LOSS (R310): No duty set arrives for two periods while FOC runs, so the bridge is turned off and unparked actuators retract. -/
  | dutySetLoss
  /-- SAMPLE_SHIFT_TIMEOUT (R312): The PWM pattern shift gives no valid sample within 8 periods, raising source 338. -/
  | sampleShiftTimeout
  /-- SPEED_LOOP (R315): Every 10 PWM periods the spindle speed loop computes the q-axis target. -/
  | speedLoop (speed : Nat) (rev revEnd : Bool)
  /-- STANDSTILL_START_TIMEOUT (R317): FOC has not taken over within 2 s of the first pulse, so source 340 is raised and Ochre fails with 0x20. -/
  | standstillStartTimeout
  /-- BEMF_ZERO_CROSSING (R318): A phase-voltage crossing arrives; six consistent crossings seed the observer and FOC resumes. -/
  | bemfZeroCrossing (interval c : Nat)
  /-- CATCH_TIMEOUT (R318): A catch-spin attempt gets no crossing within 20 ms, or no reacquisition within 2 electrical revolutions, and fails. -/
  | catchTimeout
  /-- LOSS_OF_SYNCHRONISM (R320): Three implausible electrical periods declare loss of synchronism, and retract, coast and catch-spin follow. -/
  | lossOfSynchronism (p1 p2 p3 : Nat × Nat × Nat)
  /-- SPIN_DOWN_UNPARKED (R339): A write of 1 to 0x4000:0E spins the spindle down with an actuator that cannot be parked. -/
  | spinDownUnparked
  /-- SPINDLE_STOPPED (R323): The measured speed falls below 30 rpm; the spindle is declared stopped and the bridge goes to high impedance. -/
  | spindleStopped (speed : Nat)
  /-- VBUS_ABOVE_13V8 (R324): VBUS rises to 13.8 V and BRK_G drives the chopper clamp. -/
  | vbusAbove13v8 (vbus : Nat)
  /-- VBUS_BELOW_13V6 (R324): VBUS falls below 13.6 V and BRK_G is released. -/
  | vbusBelow13v6 (vbus : Nat)
  /-- VBUS_ABOVE_14V2 (R324): VBUS exceeds 14.2 V, so regeneration stops and source 359 is raised. -/
  | vbusAbove14v2 (vbus : Nat)
  /-- VBUS_ABOVE_15V (R330): VBUS exceeds 15.0 V; the spindle bridge turns off, unparked actuators retract and source 360 is raised. -/
  | vbusAbove15v (vbus : Nat)
  /-- VBUS_BELOW_14V2_AGAIN (R324): VBUS falls below 14.2 V after exceeding 15.0 V; the spindle bridge becomes available and a turning spindle is caught. -/
  | vbusBelow14v2Again (vbus : Nat)
  /-- IDEAL_DIODE_SWITCH (R325): IDF_G turns the ideal-diode FET on or off from the comparison of V12_SNS and VBUS. -/
  | idealDiodeSwitch (v12 : Int) (vbus : Nat)
  /-- FET_NOT_CONDUCTING (R325): V12_SNS exceeds VBUS by 0.5 V for 100 µs with IDF_G on, raising source 362. -/
  | fetNotConducting
  /-- CHOPPER_OPEN (R327): After CHOP_TDET with BRK_G driven, low BRK_IS and a rising bus latch an open chopper; regeneration is disabled and source 357 raised. -/
  | chopperOpen (amps vbus : Nat)
  /-- CHOPPER_SHORT (R328): BRK_IS stays above CHOP_IMIN for CHOP_TDET with BRK_G off, latching a short; source 358 and a spin-down follow. -/
  | chopperShort (amps : Nat)
  /-- CLEAR_LATCHES (R327): A write of 1 to 0x4010:06 clears the chopper and phase latches that block restart or regeneration. -/
  | clearLatches
  /-- VCM_SETPOINT_LOSS (R332): No VCM set point arrives within two wedge periods while the actuator is off the ramp, so it retracts. -/
  | vcmSetpointLoss (k : Nat)
  /-- RETRACT_VELOCITY_END (R335): The retract velocity phase ends on a low back-EMF or at 250 ms, and the push toward the stop begins. -/
  | retractVelocityEnd (k : Nat) (mv ma : Int) (late : Bool)
  /-- RETRACT_END (R335): At 300 ms the coil is shorted and the actuator is parked. -/
  | retractEnd (k : Nat)
  /-- SUPPLY_BELOW_THRESHOLD (R336): V12_SNS or VDD_3V3 falls below its threshold, and write-inhibit bit 5 is raised within 100 ns. -/
  | supplyBelowThreshold
  /-- POWER_LOSS_CONFIRM (R336): The supply has stayed low for 5 µs; the FET opens, the bridge rectifies, both actuators retract and source 363 is raised. -/
  | powerLossConfirm
  /-- PHASE_SHORT (R338): An overcurrent or desaturation on a phase turns the bridge off within 2 µs; retract, coast and source 353 follow. -/
  | phaseShort (ma : Int) (mv : Nat)
  /-- OPEN_PHASE (R338): A phase current stays below 10 % of expectation for one electrical period; bridge off, retract and source 354 follow. -/
  | openPhase (ma want : Nat)
  /-- VCM_SHORT (R338): A VCM overcurrent or desaturation turns that VCM bridge off and raises source 355 or 356. -/
  | vcmShort (k : Nat) (ma : Int) (desat : Bool)
  /-- VCM_OPEN (R338): A VCM command above 10 % with current below 2 % for 100 µs raises source 355 or 356. -/
  | vcmOpen (k : Nat) (ma : Int)
  /-- GATE_DRIVE_SUPPLY_LOW (R338): The bootstrap or charge-pump supply falls below its limit; all bridges turn off and source 365 is raised. -/
  | gateDriveSupplyLow
  /-- REVERSED_INPUT (R338): V12_SNS falls below 0 V, so the FET is held off and source 362 is raised. -/
  | reversedInput
  /-- SHOCK (R338): SHOCK_X or SHOCK_Y crosses SHK_TH, asserting write-inhibit bit 4 and raising source 361. -/
  | shock (mv : Int)
  /-- SHOCK_HOLD_END (R340): SHK_HOLD passes after the last crossing, and write-inhibit bit 4 is released. -/
  | shockHoldEnd
  /-- DRAM_ACCESS (R355): A DRAM line is read and decoded: it is clean, corrected and queued for repair, or uncorrectable or poisoned. -/
  | dramAccess (l : Nat) (err : List (Nat × Nat)) (what cls : Nat)
  /-- PATROL_STEP (R362): Every PERIOD × 10 ns the patrol serves the repair queue or reads the next line, and rewrites a correctable line. -/
  | patrolStep (what : Nat)
  /-- MERGE_WRITE (R364): A partial-line write enters or merges into the merge buffer, and a full mask writes the line. -/
  | mergeWrite (l cls : Nat) (cells : List Host.Cell)
  /-- MERGE_HOLD_EXPIRE (R365): HOLD passes after an entry was allocated, so the line is read, merged, encoded and written. -/
  | mergeHoldExpire (l : Nat) (parityOk : Bool)
  /-- INIT_BLOCK_DONE (R367): Background initialisation finishes a 2 MiB block; waiting accesses proceed and at the end class 6 is restored and the patrol starts. -/
  | initBlockDone
  /-- DQS_OSCILLATOR_READ (R353): Every 100 ms the DQS interval oscillator is read and delays updated, with source 134 on excess drift. -/
  | dqsOscillatorRead (sub drift : Nat)
  /-- ZQ_CALIBRATION (R353): Every 128 ms BMC runs ZQ calibration. -/
  | zqCalibration
  /-- DRAM_TEMPERATURE_READ (R353): Every 32 ms BMC reads MR4 and selects 1x or 2x refresh. -/
  | dramTemperatureRead (hot : List Nat)
  /-- BIAS_REQUEST (R375): A write of BMC_BIASCMD.GO sets device bias for COUNT pages from PAGE and then sets DONE. -/
  | biasRequest (count : Nat)
  /-- CXL_MEM_ACCESS (R373): A host CXL.mem access to the HDM window is served at window base + offset. -/
  | cxlMemAccess (hpa : Nat) (write : Option (List Host.Cell)) (poison : Bool)
  /-- LINK_TRAINING (R383): The CXL link trains to DL_Active at the negotiated width, rate and mode, raising event 576. -/
  | linkTraining (width rate : Nat) (cxl : Bool) (presets : List Nat)
  /-- SURPRISE_LINK_DOWN (R385): DL_Active is lost, and the Host domain resets as for PERST_N. -/
  | surpriseLinkDown
  /-- HOT_RESET (R385): A hot reset from the host resets the Host domain as for PERST_N. -/
  | hotReset
  /-- PERST_N_ASSERT (R79): PERST_N resets the Host domain, CXL link and HDM decoders, tears down queues and reinitialises the window. -/
  | perstNAssert
  /-- PERST_N_DEASSERT (R411): PERST_N is deasserted and link training and configuration readiness begin. -/
  | perstNDeassert
  /-- CONFIG_REQUEST (R64): A configuration request is answered, or receives a retry completion before readiness. -/
  | configRequest (off be : Nat) (write : Option Nat) (ready : Bool) (tails : List (Nat × Option Nat))
  /-- FUNCTION_LEVEL_RESET (R708): A function-level reset resets configuration space, tears down queues, clears MSI-X and writes back HCC. -/
  | functionLevelReset
  /-- CXL_RESET (R412): A CXL reset resets the Host domain and HDM decoders, invalidates HCC and reports completion within 1 s. -/
  | cxlReset
  /-- HDM_COMMIT (R390): A Commit to the HDM decoder is checked and committed, or Error Not Committed is set. -/
  | hdmCommit (base size : Nat) (lock : Bool)
  /-- DOORBELL_WRITE (R427): A BAR2 doorbell write gives a queue's TAIL, checked for range, and notifies its new entries. -/
  | doorbellWrite (off width data : Nat) (mb : Option Nat)
  /-- MSIX_UNMASK (R399): A vector is unmasked, and its pending message is sent. -/
  | msixUnmask (v : Nat)
  /-- IDE_KM_MESSAGE (R402): An IDE_KM message in an SPDM session over DOE loads or refreshes stream keys. -/
  | ideKmMessage (stream action : Nat) (skid : Bool)
  /-- IDE_INTEGRITY_FAIL (R406): A stream fails its integrity check, enters Insecure, discards its traffic and raises source 371 and event 578. -/
  | ideIntegrityFail (stream : Nat) (flit : List Byte)
  /-- COMPLETION_TIMEOUT (R409): A CXL.io read times out; the issuing DMA channel halts and source 372 is raised. -/
  | completionTimeout (ch : Option Nat) (l : Nat) (onDst : Bool) (x : DmaData) (more : List Nat)
  /-- POISON_RECEIVED (R410): A poisoned completion or CXL.cache return is not used as data, and source 374 is raised. -/
  | poisonReceived (cache : Bool) (ch : Option Nat) (l : Nat) (onDst : Bool) (x : DmaData) (more : List Nat)
  /-- D3HOT_ENTRY (R413): The function enters D3hot; fetching stops and completions are held. -/
  | d3hotEntry
  /-- D0_RETURN (R413): The function returns to D0, keeping its queues, and held completions are posted. -/
  | d0Return
  /-- HCC_DISABLE (R509): Disable Caching with writeback and invalidate walks HCC, writes back dirty lines and sets Cache Invalid. -/
  | hccDisable
  /-- HCC_WALK_OVERTIME (R511): The disable walk passes 70 µs, raising source 164. -/
  | hccWalkOvertime
  /-- HCC_ENABLE (R510): Disable Caching is cleared, and each armed mailbox is reread, pinned and acted on. -/
  | hccEnable (tails : List (Nat × Option Nat))
  /-- HOST_SNOOP (R502): A host snoop hits an HCC line; a mailbox is reread and a modified line's data is returned. -/
  | hostSnoop (addr : Nat) (inv : Bool) (old : List Byte) (tail : Option Nat)
  /-- WRITEBACK_GO (R513): A writeback receives its GO, and requests held on that line are reissued. -/
  | writebackGo (addr : Nat)
  /-- UNPLACED_MAILBOX_POLL (R503): Every 2 µs an unplaced mailbox is read with RdCurr and its TAIL acted on. -/
  | unplacedMailboxPoll (qid : Nat) (tail : Option Nat)
  /-- HCC_PARITY_SWEEP (R508): The background sweep checks one set's parity and handles errors by line state. -/
  | hccParitySweep (set : Nat) (errors : List (Nat × Nat × Nat))
  /-- ADMIN_QUEUE_ENABLE (R422): A write of 1 to QMG_ACTL.EN checks the admin registers and creates queue 0 and ring 0, or sets SETUPERR. -/
  | adminQueueEnable
  /-- ADMIN_QUEUE_DISABLE (R422): A write of 0 to QMG_ACTL.EN resets queue 0 and deletes ring 0. -/
  | adminQueueDisable (entries : List (Option (List Byte)))
  /-- MAILBOX_SNOOP (R430): A host store to an armed mailbox reaches the part as a snoop, and the line is reread for its TAIL. -/
  | mailboxSnoop (qid : Nat) (tail : Option Nat)
  /-- ENTRY_ACCEPT (R432): A fetched submission entry enters a command slot and is accepted in the device-wide order. -/
  | entryAccept (entry : Option (List Byte)) (head : Option Nat)
  /-- HEAD_WORD_REREAD (R436): The head word is reread after invalidation or every 10 µs, and waiting completions are posted into free space. -/
  | headWordReread (ring head : Option Nat)
  /-- RING_FULL_TIMEOUT (R436): A completion ring stays full for more than 1 s, raising source 178. -/
  | ringFullTimeout (ring : Nat)
  /-- COALESCING_TIMEOUT (R437): The oldest uncounted entry of an interrupt group becomes older than CTIME, raising event 768 + g. -/
  | coalescingTimeout (g : Nat)
  /-- IDENTIFY (R496): The command writes the 4,096 B identity structure. -/
  | identify (t : Nat) (h : HostData)
  /-- CREATE_QUEUE (R494): The command creates an I/O submission queue bound to a completion ring. -/
  | createQueue (t : Nat)
  /-- DELETE_QUEUE (R451): The command deletes a queue after its last completion is posted. -/
  | deleteQueue (t : Nat) (entries : List (Option (List Byte)))
  /-- RESET_QUEUE (R452): The command aborts a queue's commands that have not passed their commit point and takes it out of the error state. -/
  | resetQueue (t : Nat) (entries : List (Option (List Byte)))
  /-- CREATE_CRING (R418): The command creates a completion ring with its head word and interrupt group. -/
  | createCring (t : Nat)
  /-- DELETE_CRING (R453): The command deletes a completion ring to which no queue is bound. -/
  | deleteCring (t : Nat)
  /-- ARM (R431): The command arms a queue on a mailbox line, reading it once. -/
  | arm (t : Nat) (old new : Option Nat)
  /-- DISARM (R431): The command drops the mailbox from HCC, reads it once more and returns the queue to doorbell notification. -/
  | disarm (t : Nat) (tail : Option Nat)
  /-- FW_DOWNLOAD (R645): The command checks the header and writes a piece of an image into the download bank. -/
  | fwDownload (t : Nat) (h : HostData) (fail : Option (Nat × Bool))
  /-- FW_COMMIT (R646): With ACTION 0, the command verifies the image and writes its commit record. -/
  | fwCommit (t : Nat) (verifies programOk : Bool)
  /-- FW_COMMIT_TRIAL (R646): With ACTION 1, the command commits the image and makes it pending as the trial for the next reset. -/
  | fwCommitTrial (t : Nat) (verifies programOk : Bool)
  /-- FW_COMMIT_BOOT_LOADER (R646): With ACTION 2, the command copies a boot-loader image to both bank 0 copies. -/
  | fwCommitBootLoader (t : Nat) (verifies : Bool)
  /-- FW_ACTIVATE (R454): The command starts activation with an implicit flush of the commands accepted before it. -/
  | fwActivate (t : Nat)
  /-- ACTIVATION_FETCH_STOP (R454): The implicit flush completes, so fetching stops and event 513 is raised. -/
  | activationFetchStop
  /-- ACTIVATION_SWITCH (R648): Accepted commands have completed, so the trial record is written, images switch, fetching resumes and event 514 is raised. -/
  | activationSwitch
  /-- TRIAL_CONFIRM (R650): 60 s after Slate without a disqualifying reset, the trial image is confirmed and the SVN floor is raised. -/
  | trialConfirm
  /-- DICT_READ (R495): The command returns a dictionary entry's value in RESULT or the buffer. -/
  | dictRead (t : Nat) (h : HostData)
  /-- DICT_WRITE (R495): The command writes a dictionary entry through the checks of R570 and applies it under R571. -/
  | dictWrite (t : Nat) (h : HostData) (a : ActIn)
  /-- EVENT_RING_SETUP (R456): The command creates, replaces or removes the event ring. -/
  | eventRingSetup (t : Nat)
  /-- PUT_SEGMENT (R472): The command ingests up to 1 MiB as checked tiles and enters the segment in the DRAM index. -/
  | putSegment (q t : Nat) (h : HostData)
  /-- TILE_POOL_SLOT_FREE (R474): Media writes free tile slots, and PUT_SEGMENTs waiting for the pool proceed. -/
  | tilePoolSlotFree
  /-- SEAL (R476): The command hashes the version and writes its SEAL record, plus a RETENTION record when its class sets one. -/
  | seal (q t : Nat) (h : HostData) (ends : Bool)
  /-- GET_RANGE (R479): The command reads a checked byte range of a version into the buffer. -/
  | getRange (q t : Nat) (h : HostData)
  /-- STAT (R481): The command writes the 128 B record of a version. -/
  | stat (q t : Nat) (h : HostData)
  /-- LIST (R482): The command lists the versions that match a key prefix from a cookie position. -/
  | list (q t : Nat) (h : HostData)
  /-- COOKIE_EXPIRY (R484): A cookie unused for 600 s is released. -/
  | cookieExpiry
  /-- DELETE (R485): The command writes a TOMBSTONE for a version that has no unexpired lock. -/
  | delete (q t : Nat) (h : HostData)
  /-- SET_RETENTION (R486): The command extends the lock on a sealed version with a RETENTION record. -/
  | setRetention (q t : Nat) (h : HostData)
  /-- VERIFY (R488): The command reads and checks every tile of a sealed version and compares its SHA-256. -/
  | verify (q t : Nat) (h : HostData) (laddered : Nat)
  /-- FLUSH (R445): The command takes its coverage of every command accepted before it. -/
  | flush (q t : Nat) (h : HostData)
  /-- FLUSH_COMPLETE (R446): Every covered write is on the media with its journal record, or has failed, and the FLUSH completes. -/
  | flushComplete (q t : Nat)
  /-- MIGRATE (R559): The command migrates the matching sealed versions to a paired peer over the migration port. -/
  | migrate (q t : Nat) (h : HostData) (session : Nat) (ns : List Byte)
  /-- MIGRATE_TO_HOST (R561): The command writes the matching sealed versions as segment, seal and end units into the host buffer. -/
  | migrateToHost (q t : Nat) (h : HostData)
  /-- ABORT (R449): The command names a target queue and tag and waits until the target's notified entries are accepted. -/
  | abort (q t : Nat)
  /-- ABORT_RESOLVE (R449): The ABORT finds its target and cancels it, or completes with TOO_LATE or NOT_FOUND. -/
  | abortResolve (q t : Nat)
  /-- DMA_GO (R526): A write of DMA_CTLn.GO checks the operation and starts a copy, fill or compare. -/
  | dmaGo (n : Nat) (srcL dstL : List Byte) (listsOk : Bool)
  /-- DMA_ABORT (R531): A write of ABORT ends a busy or halted channel with STATE aborted. -/
  | dmaAbort (n l : Nat) (x : DmaData) (error : Option (Bool × Nat))
  /-- DMA_RESUME (R531): A write of RESUME restarts a halted channel from its latched element. -/
  | dmaResume (n : Nat)
  /-- DMA_HALT (R530): A channel transfer meets a bus error, so the channel halts, latches the failure and raises source 145. -/
  | dmaHalt (n l : Nat) (onDst : Bool) (cause : Nat) (x : DmaData) (more : List Nat)
  /-- DMA_DONE (R532): An operation ends; the done word is written and the group event raised as configured. -/
  | dmaDone (n : Nat) (x : DmaData)
  /-- DMA_STALL (R536): A busy channel issues no line for 100 ms with tokens available, raising source 146. -/
  | dmaStall (n : Nat)
  /-- MODULE_PRESENCE_CHANGE (R538): MOD_PRES_N changes; the module is identified and the link brought up, or the link goes down. -/
  | modulePresenceChange (present : Bool) (mode : Nat)
  /-- ETH_LINK_CHANGE (R537): The Ethernet PCS link comes up or goes down, raising event 544 or 545. -/
  | ethLinkChange (up : Bool)
  /-- NEIGHBOR_SOLICITATION (R540): The port answers an ICMPv6 neighbour solicitation. -/
  | neighborSolicitation (dst target : List Byte)
  /-- ECHO_REQUEST (R540): The port answers an ICMPv6 echo request. -/
  | echoRequest (dst body : List Byte)
  /-- HELLO (R545): A receiver checks the pairing slot of a HELLO, derives the session key and sends HELLO_ACK or CLOSE. -/
  | hello (d : Dgram) (nr : List Byte)
  /-- HELLO_ACK (R545): The sender checks the MAC and sends CONFIRM or CLOSE. -/
  | helloAck (d : Dgram)
  /-- CONFIRM (R545): The receiver checks the MAC, and the session is established. -/
  | confirm (d : Dgram)
  /-- OFFER (R547): The receiver checks an object offer's MAC and answers CODE 1 at once when the version is present. -/
  | offer (d : Dgram)
  /-- DATA (R554): The receiver ingests a tile and compares its CRC-64, key hash, position and structure. -/
  | data (d : Dgram)
  /-- RECEIVE_DURABLE (R555): The received object is on the media, and RESULT CODE 0 is sent. -/
  | receiveDurable (p obj : Nat)
  /-- SACK (R548): The sender takes ACKBASE, MAP and WINDOW and resends after three later PSEQs have arrived. -/
  | sack (d : Dgram)
  /-- RESULT (R556): The sender checks the MAC of an object's RESULT and ends or fails MIGRATE by its CODE. -/
  | result (d : Dgram)
  /-- KEEPALIVE (R549): A KEEPALIVE arrives and is answered with a SACK. -/
  | keepalive (d : Dgram)
  /-- CLOSE (R544): A CLOSE with a REASON ends the session. -/
  | close (d : Dgram)
  /-- SACK_TIMER (R548): 100 µs pass after the last DATA without a SACK, and a SACK is sent. -/
  | sackTimer (p : Nat)
  /-- RETRANSMIT_TIMEOUT (R549): A DATA stays unacknowledged for RTO and is resent. -/
  | retransmitTimeout (pseq : Nat)
  /-- KEEPALIVE_TIMER (R549): While WINDOW is 0, the sender sends a KEEPALIVE every 10 ms. -/
  | keepaliveTimer
  /-- PEER_SILENCE (R551): Nothing has been heard for 1 s, so a new session starts and objects without a RESULT are re-offered. -/
  | peerSilence (p : Option Nat) (session : Nat) (ns : List Byte)
  /-- MIG_TIMEOUT (R551): No session completes its handshake within MIG_TO, and MIGRATE ends with MIG_TIMEOUT. -/
  | migTimeout
  /-- READ (R588): A GDP expedited read returns a value of up to 56 B. -/
  | read (f : List Byte)
  /-- WRITE (R588): A GDP expedited write of up to 56 B is checked and applied. -/
  | write (f : List Byte) (a : ActIn)
  /-- READ_INIT (R589): A GDP frame opens a segmented read and returns SIZE. -/
  | readInit (f : List Byte)
  /-- WRITE_INIT (R589): A GDP frame opens a segmented write of SIZE bytes and returns WINDOW. -/
  | writeInit (f : List Byte) (a : ActIn)
  /-- SEGMENT (R589): A client segment is stored, acknowledged every 16 or out of order, and after the last one the value is written and WRITE_DONE sent. -/
  | segment (f : List Byte) (a : ActIn)
  /-- SEG_ACK (R589): A client acknowledgement advances a segmented read and ends it at the final NEXT. -/
  | segAck (f : List Byte)
  /-- GDP_ABORT (R586): A client ABORT ends the open session. -/
  | gdpAbort (f : List Byte)
  /-- KEEP (R591): A client KEEP keeps a session open and is answered with 0x88. -/
  | keep (f : List Byte)
  /-- SESSION_TIMEOUT (R591): No frame arrives within SESS_TO, so the session ends with ABORT TIMEOUT and a partial write is discarded. -/
  | sessionTimeout
  /-- SEGMENT_RESEND (R591): After SESS_TO / 2, the unacknowledged segments of a read are resent once. -/
  | segmentResend
  /-- BUS_OFF (R593): The CAN node goes bus-off, raising source 416. -/
  | busOff
  /-- BUS_OFF_RECOVERY (R593): After 128 occurrences of 11 recessive bits the node recovers from bus-off. -/
  | busOffRecovery
  /-- RESTORE_DEFAULTS (R575): A write of 0x0DEF_A017 to 0x1011:01 stores RWP defaults for the next warm reset. -/
  | restoreDefaults
  /-- LIFECYCLE_TRANSITION (R660): A transition request to 0x7000:02 records PENDING, clears keys, blows fuses and warm-resets. -/
  | lifecycleTransition (req : Nat) (cut : Option Nat) (i : SlateInputs)
  /-- UNLOCK (R635): A password via 0x2410:01 or NVC_UNLOCK.GO is hashed and compared, unlocking the regions or counting a failure. -/
  | unlock (pw : List Byte)
  /-- NEW_PASSWORD (R635): A write of 0x2410:02 programs a new password hash into block 16. -/
  | newPassword (pw : List Byte)
  /-- RELOCK (R634): A write of 0x2410:03 or NVC_UNLOCK.RELOCK relocks every region. -/
  | relock
  /-- TEST_START (R667): A start of 0x7010:02 or TST_CTRL.GO isolates a unit and runs the selected test. -/
  | testStart (test unit : Nat)
  /-- EXTENDED_MEMORY_TEST (R665): A write of 0x7030:01 runs March SS on every array and records repairs in fuses. -/
  | extendedMemoryTest
  /-- LOOPBACK_START (R669): A start of 0x7020:02 or TST_LBCTL.GO runs the selected loopback, refusing one that would cut its own path. -/
  | loopbackStart (cfg path : Nat) (testImpl : Bool)
  /-- LOOPBACK_STOP (R669): A write of TST_LBCTL.STOP ends a loopback early. -/
  | loopbackStop (errors bits : Nat) (ok : Bool)
  /-- LOOPBACK_END (R669): A loopback's DURATION expires and its result is recorded. -/
  | loopbackEnd (errors bits : Nat) (ok : Bool)
  /-- TEST_HOLD (R670): A write of 0x7020:04 enters or leaves test hold through a warm reset. -/
  | testHold (enter : Bool) (i : SlateInputs)
  /-- SCAN_ENABLE (R663): A JTAG instruction clears secrets, gates the key fuses and opens scan, stopping functional operation. -/
  | scanEnable
  /-- NVC_PROGRAM (R625): Firmware starts a program of 32 B units within one page from NVC_BUFn. -/
  | nvcProgram (block page first : Nat) (data : List Byte)
  /-- NVC_ERASE (R626): Firmware starts an erase of one block. -/
  | nvcErase (block : Nat)
  /-- NVC_OPERATION_DONE (R627): A program or erase ends with its result, and failing blocks are marked bad. -/
  | nvcOperationDone (ok : Bool) (pulses : Nat)
  /-- FAULT_MESSAGE (R601): A fault message reaches FCL; it is CRC-checked, sets or merges with the sticky bit and starts or joins a reaction. -/
  | faultMessage (src kind addr : Nat) (ok1 ok2 : Bool)
  /-- REACTION_END (R613): Every part of the running reaction has ended, so the reaction ends. -/
  | reactionEnd
  /-- REACTION_TIMEOUT (R608): A Vermilion reaction has not completed within 100 ms, so source 50 is raised and it escalates to Black. -/
  | reactionTimeout
  /-- STORAGE_COMPARE (R601): Every microsecond the duplicated sticky and severity storage is compared, raising source 48 on a difference. -/
  | storageCompare (agree : Bool)
  /-- CLEAR_STICKY (R605): A W1C to FCL_STICKYn or a write of 0x2002:01 clears a sticky bit unless its reaction is running. -/
  | clearSticky (src : Nat)
  /-- CLEAR_ALL_STICKY (R605): A write of 1 to 0x2002:02 clears every clearable sticky bit. -/
  | clearAllSticky
  /-- WATCHDOG_EXPIRY (R617): A watchdog window expires, resetting its domain and raising its source. -/
  | watchdogExpiry (w : Nat) (i : SlateInputs)
  /-- LOCKSTEP_MISMATCH (R26): A lockstep pair's outputs differ, raising its source and resetting its domain. -/
  | lockstepMismatch (p : Nat) (i : SlateInputs)
  /-- COUNTER_ACCUMULATE (R197): Once per second firmware reads the RC counters and adds them to the statistics entries. -/
  | counterAccumulate (links : Nat × Nat × Nat × Nat)
  /-- STATISTICS_STORE (R574): Every hour firmware stores the statistics counters in bank 3. -/
  | statisticsStore
  /-- RC_REGISTER_READ (R8): A read that includes an RC field returns it and clears it. -/
  | rcRegisterRead (bar off width : Nat)
  /-- REGISTER_WRITE (R10): A host write to a register without a row of its own changes only the fields that its access code and Host column permit, aborting bad widths. -/
  | registerWrite (bar off width data : Nat)
  /-- INIT_PATROL_STALL (R378): Background initialisation or the patrol makes no progress for 1 s while tokens are available, raising BMC source 135. -/
  | initPatrolStall
  /-- ERROR_PASSIVE_TIMEOUT (R595): The CAN node has been error passive for more than 1 s, raising source 417. -/
  | errorPassiveTimeout
  /-- REFERENCE_DEVIATION_CLEARED (R88): CKM finds the root back within ±300 ppm, so ETH_STATUS.REFOK returns to 1 and ETH may bring its link up again. -/
  | referenceDeviationCleared
  /-- FLT_N_RELEASE (R263): PAk_FLT_N returns high after FAULT has been read, releasing write-inhibit bit 9 on that actuator. -/
  | fltNRelease (k : Nat)
  /-- TEST_COMPLETE (R666): A running self-test, such as logic BIST, a memory test, the extended memory test or a fault-path test, ends; its result is recorded and the unit under test is reset and returned to service. -/
  | testComplete (pass : Bool) (detail entries : Nat)
  /-- SPDM_REQUEST (R402): An SPDM or CMA request arrives on the DOE mailbox, for authentication, measurements, session set-up or a CDAT table read, and is answered. -/
  | spdmRequest (kind : Nat) (signed : List Byte)
  /-- RNG_HEALTH_TEST (R673): The random generator's continuous health test fails, raising source 432 and refusing HELLO and key exchange, or passes again and lifts that refusal. -/
  | rngHealthTest (pass : Bool)
  deriving DecidableEq, Repr

end Sys2Proof
end

