-- ==== Sys2Proof/Decode.lean ====
section
/-!
DEFINITION. The command that a word spells by the bits of the opcode table. The table gives no row any bits: the block takes commands,
not instruction words.
-/
namespace Sys2Proof

/-- No word spells a command (assumption log 3). -/
def decodeTableWord (_nbits _w : Nat) : Option Instr := none

end Sys2Proof
end

