-- ==== Sys2Proof/Machine/Bits.lean ====
section
/-!
DEFINITION. Helpers every part of the model uses: sparse maps in canonical form, little-endian bytes, fields of words,
signed numbers, saturation and the checks of the formats (CRC-8 has no stated bit order and stays with its users).
-/
namespace Sys2Proof.Machine
open Sys2Proof

/-- The value a sparse map lists for `k`. -/
def Assoc.find {α : Type} (m : List (Nat × α)) (k : Nat) : Option α :=
  match m with
  | [] => none
  | (i, v) :: t => if i = k then some v else Assoc.find t k

/-- A sparse map without `k`. -/
def Assoc.del {α : Type} (m : List (Nat × α)) (k : Nat) : List (Nat × α) :=
  match m with
  | [] => []
  | (i, v) :: t => if i = k then Assoc.del t k else (i, v) :: Assoc.del t k

/-- A sparse map with `(k, v)` put before the first higher key. -/
def Assoc.ins {α : Type} (m : List (Nat × α)) (k : Nat) (v : α) : List (Nat × α) :=
  match m with
  | [] => [(k, v)]
  | (i, w) :: t => if k < i then (k, v) :: (i, w) :: t else (i, w) :: Assoc.ins t k v

/-- A sparse map with `k` at `v`, every other key as before. -/
def Assoc.put {α : Type} (m : List (Nat × α)) (k : Nat) (v : α) : List (Nat × α) :=
  Assoc.ins (Assoc.del m k) k v

/-- Keys rise strictly: the canonical form of a sparse map. -/
def Assoc.rising {α : Type} (m : List (Nat × α)) : Bool :=
  match m with
  | [] => true
  | (i, _) :: t =>
    match t with
    | [] => true
    | (j, w) :: u => i < j && Assoc.rising ((j, w) :: u)

/-- `n` bytes of `v`, least significant first (R568). -/
def leBytes (n v : Nat) : List Byte :=
  match n with
  | 0 => []
  | k + 1 => BitVec.ofNat 8 v :: leBytes k (v / 256)

/-- The number that little-endian bytes spell. -/
def leNat (bs : List Byte) : Nat :=
  match bs with
  | [] => 0
  | b :: t => b.toNat + 256 * leNat t

/-- `n` zero bytes. -/
def zeros (n : Nat) : List Byte := List.replicate n 0

/-- Bytes `i` to `i + n - 1` of `bs`, zero beyond its end. -/
def slice (bs : List Byte) (i n : Nat) : List Byte :=
  let t := (bs.drop i).take n
  t ++ zeros (n - t.length)

/-- The little-endian number in bytes `i` to `i + n - 1`. -/
def numAt (bs : List Byte) (i n : Nat) : Nat := leNat (slice bs i n)

/-- Bits [hi:lo] of a number. -/
def bitsOf (v hi lo : Nat) : Nat := v / 2 ^ lo % 2 ^ (hi + 1 - lo)

/-- Bit `i` of a number. -/
def bitOf (v i : Nat) : Bool := v / 2 ^ i % 2 == 1

/-- 1 for true, 0 for false. -/
def b2n (b : Bool) : Nat := if b then 1 else 0

/-- Bits [hi:lo] of a register. -/
def Word.get (w : Word) (hi lo : Nat) : Nat := bitsOf w.toNat hi lo

/-- A register with bits [hi:lo] replaced by the low bits of `v`. -/
def Word.set (w : Word) (hi lo v : Nat) : Word :=
  let mask : Word := BitVec.ofNat 32 ((2 ^ (hi + 1 - lo) - 1) * 2 ^ lo)
  (w &&& ~~~mask) ||| (BitVec.ofNat 32 (v % 2 ^ (hi + 1 - lo) * 2 ^ lo))

/-- The two's complement value of the low `n` bits of `v`. -/
def signed (n v : Nat) : Int :=
  let w := v % 2 ^ n
  if 2 * w ≥ 2 ^ n then (w : Int) - (2 ^ n : Nat) else w

/-- The low `n` bits of an integer. -/
def unsigned (n : Nat) (v : Int) : Nat := (v % (2 ^ n : Nat)).toNat

/-- `v` limited to [lo, hi]. -/
def clampInt (lo hi v : Int) : Int := if v < lo then lo else if v > hi then hi else v

/-- `v` limited to the signed range of `n` bits. -/
def satInt (n : Nat) (v : Int) : Int := clampInt (-(2 ^ (n - 1) : Nat)) ((2 ^ (n - 1) : Nat) - 1) v

/-- `a / b` rounded to the nearest integer, halves up. -/
def divRound (a b : Nat) : Nat := (2 * a + b) / (2 * b)

/-- `a / b` rounded up. -/
def ceilDiv (a b : Nat) : Nat := a / b + b2n (a % b != 0)

/-- A counter of `n` bits that saturates at all ones. -/
def satAdd (n v d : Nat) : Nat := if v + d > 2 ^ n - 1 then 2 ^ n - 1 else v + d

/-- Bits set in a number of `n` bits. -/
def popCount (n v : Nat) : Nat :=
  match n with
  | 0 => 0
  | k + 1 => v % 2 + popCount k (v / 2)

/-- The lowest bit set below `n`, `n` when there is none. -/
def lowestBit (n v : Nat) : Nat :=
  ((List.range n).find? (fun i => bitOf v i)).getD n

/-- A list with `x` put in rising order, once. -/
def insertNat (x : Nat) (l : List Nat) : List Nat :=
  match l with
  | [] => [x]
  | y :: t => if x < y then x :: y :: t else if x = y then y :: t else y :: insertNat x t

/-- A list with element `i` replaced, unchanged when there is none. -/
def setAt {α : Type} (l : List α) (i : Nat) (v : α) : List α := l.set i v

/-- The ASCII bytes of a character list. -/
def asciiBytes (cs : List Char) : List Byte := cs.map (fun c => BitVec.ofNat 8 c.toNat)

end Sys2Proof.Machine
end

