-- ==== Sys2Proof/Machine/Crc.lean ====
section
/-!
DEFINITION. The reflected CRCs of the formats (R114): CRC-32 and CRC-64, initial value and final XOR all ones.
-/
namespace Sys2Proof.Machine
open Sys2Proof

/-- One bit of a reflected CRC register of `n` bits with reflected polynomial `poly`. -/
def crcBit {n : Nat} (poly c : BitVec n) : BitVec n :=
  if c.getLsbD 0 then (c >>> 1) ^^^ poly else c >>> 1

/-- One byte of a reflected CRC. -/
def crcByte {n : Nat} (poly c : BitVec n) (b : Byte) : BitVec n :=
  let x := c ^^^ (BitVec.ofNat n b.toNat)
  crcBit poly (crcBit poly (crcBit poly (crcBit poly (crcBit poly (crcBit poly (crcBit poly (crcBit poly x)))))))

/-- CRC-32, IEEE 802.3, reflected (R114). -/
def crc32 (bs : List Byte) : BitVec 32 := ~~~(bs.foldl (crcByte 0xEDB88320#32) (BitVec.allOnes 32))

/-- CRC-64, ECMA-182, reflected (R114). -/
def crc64 (bs : List Byte) : BitVec 64 := ~~~(bs.foldl (crcByte 0xC96C5795D7870F42#64) (BitVec.allOnes 64))

end Sys2Proof.Machine
end

