-- ==== Sys2Proof/Config.lean ====
section
/-!
DEFINITION. What the spec leaves open: values with no body, so that nothing in Lean can know one of them.
-/
namespace Sys2Proof

/-- Free values, one for each count of `State.free` (assumption log 1). -/
opaque Config.freeValue : Nat → BitVec 32

/-- What a read-only field or entry returns where the spec states no value, by its place (assumption log 1). -/
opaque Config.unstated : Nat → BitVec 32

/-- The bytes that a part leaves Poreavas with in its flash die, by address: the boot loader and the firmware image (R3; assumption
log 78). -/
opaque Config.shippedByte : Nat → BitVec 8

/-- The metric units of one LLR step of the detector, which the spec does not state (R201; assumption log 71). -/
opaque Config.llrUnit : Nat

/-- How many quarter turns the tones of a multi-sine stand from a cosine (R301; assumption log 79). -/
opaque Config.toneQuarter : Nat

/-- The swept sine between frequencies of which one is 0, which no logarithmic sweep has: by F0, F1, the capture length and the sample, in 48
fraction bits (R301; assumption log 79). -/
opaque Config.sweepSine : Nat → Nat → Nat → Nat → Int

/-- The chips of the PRBS of an order (R301; assumption log 79). -/
opaque Config.prbsChip : Nat → Nat → Bool

/-- The information rate that the estimate of R43 gives for an equaliser target at an SNR (assumption log 18). -/
opaque Config.infoRate : List Int → Nat → Nat

/-- The domain whose working memory a line of the firmware region is, and the place among the spilled decodes of the one a line of the
control region holds: the spec lays neither out (R349, R361; assumption log 84). -/
opaque Config.lineDomain : Nat → Nat
opaque Config.spillPlace : Nat → Nat

/-- What a dibit with equal correlations reads as (R276; assumption log 21). -/
opaque Config.evenDibit : Bool

/-- What is added to all three phase voltages, in mV, before the duties are formed, by those voltages and the bus (R313; assumption
log 24). -/
opaque Config.commonMode : List Int → Nat → Int

end Sys2Proof
end

