-- ==== Sys2Proof/Machine/RegMap.lean ====
section
/-!
DEFINITION. The place of every register field of the spec: unit base plus offset, and the bits (the register tables of
spec/02 to spec/20). `k` is the actuator of a unit that exists twice; further arguments are the register's own index.
-/
namespace Sys2Proof.Machine.Fld
open Sys2Proof

def PLT_ID_PART : FieldRef := ⟨0, 31, 16⟩
def PLT_ID_GRADE : FieldRef := ⟨0, 15, 8⟩
def PLT_ID_STEPPING : FieldRef := ⟨0, 7, 0⟩
def PLT_STAGE_ATTEMPT : FieldRef := ⟨0x10, 23, 16⟩
def PLT_STAGE_FAILCODE : FieldRef := ⟨0x10, 15, 8⟩
def PLT_STAGE_OCHRE_FAIL : FieldRef := ⟨0x10, 2, 2⟩
def PLT_STAGE_STAGE : FieldRef := ⟨0x10, 1, 0⟩
def PLT_RSTCAUSE_FIRMWARE : FieldRef := ⟨0x14, 12, 12⟩
def PLT_RSTCAUSE_LOCKSTEP : FieldRef := ⟨0x14, 11, 11⟩
def PLT_RSTCAUSE_CXL_RESET : FieldRef := ⟨0x14, 10, 10⟩
def PLT_RSTCAUSE_FLR : FieldRef := ⟨0x14, 9, 9⟩
def PLT_RSTCAUSE_PERST : FieldRef := ⟨0x14, 8, 8⟩
def PLT_RSTCAUSE_DOMAIN : FieldRef := ⟨0x14, 7, 7⟩
def PLT_RSTCAUSE_ROOT_LOSS : FieldRef := ⟨0x14, 6, 6⟩
def PLT_RSTCAUSE_SUPPLY : FieldRef := ⟨0x14, 5, 5⟩
def PLT_RSTCAUSE_WDOG : FieldRef := ⟨0x14, 4, 4⟩
def PLT_RSTCAUSE_WARM_REQ : FieldRef := ⟨0x14, 3, 3⟩
def PLT_RSTCAUSE_PORST : FieldRef := ⟨0x14, 2, 2⟩
def PLT_RSTCAUSE_MOTION_POR : FieldRef := ⟨0x14, 1, 1⟩
def PLT_RSTCAUSE_POWER_ON : FieldRef := ⟨0x14, 0, 0⟩
def PLT_RSTREQ_UNLOCK : FieldRef := ⟨0x18, 31, 16⟩
def PLT_RSTREQ_MOTION : FieldRef := ⟨0x18, 6, 6⟩
def PLT_RSTREQ_MEDIA1 : FieldRef := ⟨0x18, 5, 5⟩
def PLT_RSTREQ_MEDIA0 : FieldRef := ⟨0x18, 4, 4⟩
def PLT_RSTREQ_OBJECT : FieldRef := ⟨0x18, 3, 3⟩
def PLT_RSTREQ_HOST : FieldRef := ⟨0x18, 2, 2⟩
def PLT_RSTREQ_BUFFER : FieldRef := ⟨0x18, 1, 1⟩
def PLT_RSTREQ_WARM : FieldRef := ⟨0x18, 0, 0⟩
def TNT_TOTAL_TOTAL : FieldRef := ⟨0x200000, 10, 0⟩
def TNT_CLASS_MEDIA (n : Nat) : FieldRef := ⟨0x200100 + 4 * n, 17, 17⟩
def TNT_CLASS_SLACK (n : Nat) : FieldRef := ⟨0x200100 + 4 * n, 16, 16⟩
def TNT_CLASS_TOKENS (n : Nat) : FieldRef := ⟨0x200100 + 4 * n, 10, 0⟩
def TNT_STAT_WAITS (n : Nat) : FieldRef := ⟨0x200200 + 4 * n, 31, 16⟩
def TNT_STAT_USED (n : Nat) : FieldRef := ⟨0x200200 + 4 * n, 10, 0⟩
def TNT_MT_SLACK (n : Nat) : FieldRef := ⟨0x200400 + 16 * n, 31, 31⟩
def TNT_MT_FLOOR (n : Nat) : FieldRef := ⟨0x200400 + 16 * n, 25, 16⟩
def TNT_MT_SHARE (n : Nat) : FieldRef := ⟨0x200400 + 16 * n, 9, 0⟩
def TNT_MTSTAT_HELD (n : Nat) : FieldRef := ⟨0x200404 + 16 * n, 31, 16⟩
def TNT_MTSTAT_BG_USED (n : Nat) : FieldRef := ⟨0x200404 + 16 * n, 9, 0⟩
def TNT_CORE_MIG_PCT : FieldRef := ⟨0x200500, 14, 8⟩
def TNT_CORE_HOST_PCT : FieldRef := ⟨0x200500, 6, 0⟩
def FCL_CTRL_PINTH : FieldRef := ⟨0x300000, 1, 0⟩
def FCL_STATUS_COUNT : FieldRef := ⟨0x300004, 25, 16⟩
def FCL_STATUS_SAFE : FieldRef := ⟨0x300004, 15, 15⟩
def FCL_STATUS_HIGHEST : FieldRef := ⟨0x300004, 14, 12⟩
def FCL_STATUS_REACT : FieldRef := ⟨0x300004, 11, 11⟩
def FCL_STATUS_REACTSEV : FieldRef := ⟨0x300004, 10, 9⟩
def FCL_STATUS_FIRST : FieldRef := ⟨0x300004, 8, 0⟩
def FCL_SEV_SEV (n : Nat) : FieldRef := ⟨0x300100 + 4 * n, 31, 0⟩
def FCL_STICKY_STICKY (n : Nat) : FieldRef := ⟨0x300200 + 4 * n, 31, 0⟩
def FCL_CNT_CORRUPT : FieldRef := ⟨0x300300, 31, 16⟩
def FCL_CNT_MERGED : FieldRef := ⟨0x300300, 15, 0⟩
def EVT_STAT_DROPS : FieldRef := ⟨0x400000, 15, 0⟩
def EVT_ROUTE_GREY (n : Nat) : FieldRef := ⟨0x401000 + 4 * n, 11, 11⟩
def EVT_ROUTE_TO_RING (n : Nat) : FieldRef := ⟨0x401000 + 4 * n, 10, 10⟩
def EVT_ROUTE_TO_VEC (n : Nat) : FieldRef := ⟨0x401000 + 4 * n, 9, 9⟩
def EVT_ROUTE_VECTOR (n : Nat) : FieldRef := ⟨0x401000 + 4 * n, 8, 0⟩
def LCM_STATE_RECOK : FieldRef := ⟨0x500000, 16, 16⟩
def LCM_STATE_PENDING : FieldRef := ⟨0x500000, 15, 8⟩
def LCM_STATE_STATE : FieldRef := ⟨0x500000, 2, 0⟩
def LCM_FUSE_FIELDS : FieldRef := ⟨0x500004, 31, 0⟩
def LCM_DEBUG_SCAN_OPEN : FieldRef := ⟨0x500008, 2, 2⟩
def LCM_DEBUG_UART : FieldRef := ⟨0x500008, 1, 1⟩
def LCM_DEBUG_JTAG : FieldRef := ⟨0x500008, 0, 0⟩
def TST_CTRL_GO : FieldRef := ⟨0x600000, 31, 31⟩
def TST_CTRL_UNIT : FieldRef := ⟨0x600000, 20, 16⟩
def TST_CTRL_TEST : FieldRef := ⟨0x600000, 3, 0⟩
def TST_STATUS_BUSY : FieldRef := ⟨0x600004, 31, 31⟩
def TST_STATUS_RESULT : FieldRef := ⟨0x600004, 30, 28⟩
def TST_STATUS_DETAIL : FieldRef := ⟨0x600004, 15, 0⟩
def TST_MREP_FUSE : FieldRef := ⟨0x600010, 31, 16⟩
def TST_MREP_SOFT : FieldRef := ⟨0x600010, 15, 0⟩
def TST_LBCTL_GO : FieldRef := ⟨0x600100, 31, 31⟩
def TST_LBCTL_STOP : FieldRef := ⟨0x600100, 30, 30⟩
def TST_LBCTL_IF : FieldRef := ⟨0x600100, 26, 24⟩
def TST_LBCTL_DEPTH : FieldRef := ⟨0x600100, 21, 20⟩
def TST_LBCTL_LANE : FieldRef := ⟨0x600100, 19, 16⟩
def TST_LBCTL_PATTERN : FieldRef := ⟨0x600100, 15, 14⟩
def TST_LBCTL_DURATION : FieldRef := ⟨0x600100, 11, 0⟩
def TST_LBSTAT_BUSY : FieldRef := ⟨0x600104, 31, 31⟩
def TST_LBSTAT_RESULT : FieldRef := ⟨0x600104, 30, 28⟩
def TST_LBSTAT_ERRORS : FieldRef := ⟨0x600104, 27, 0⟩
def TST_FAULTCAP_VALID : FieldRef := ⟨0x600200, 31, 31⟩
def TST_FAULTCAP_KIND : FieldRef := ⟨0x600200, 14, 9⟩
def TST_FAULTCAP_SOURCE : FieldRef := ⟨0x600200, 8, 0⟩
def NVC_STATUS_PULSES : FieldRef := ⟨0x700000, 15, 11⟩
def NVC_STATUS_RESULT : FieldRef := ⟨0x700000, 10, 8⟩
def NVC_STATUS_OP : FieldRef := ⟨0x700000, 5, 4⟩
def NVC_STATUS_BUSY : FieldRef := ⟨0x700000, 0, 0⟩
def NVC_CMD_GO : FieldRef := ⟨0x700004, 31, 31⟩
def NVC_CMD_OP : FieldRef := ⟨0x700004, 30, 29⟩
def NVC_CMD_PAGE : FieldRef := ⟨0x700004, 28, 21⟩
def NVC_CMD_UNITS : FieldRef := ⟨0x700004, 20, 18⟩
def NVC_CMD_FIRST : FieldRef := ⟨0x700004, 17, 15⟩
def NVC_CMD_BLOCK : FieldRef := ⟨0x700004, 10, 0⟩
def NVC_FETCHLOCK_LOCK : FieldRef := ⟨0x700008, 3, 0⟩
def NVC_LASTOP_INTERRUPTED : FieldRef := ⟨0x70000C, 31, 31⟩
def NVC_LASTOP_OP : FieldRef := ⟨0x70000C, 13, 12⟩
def NVC_LASTOP_BLOCK : FieldRef := ⟨0x70000C, 10, 0⟩
def NVC_PROT_LOCKOUT : FieldRef := ⟨0x700010, 20, 20⟩
def NVC_PROT_ATTEMPTS : FieldRef := ⟨0x700010, 19, 16⟩
def NVC_PROT_LOCKED : FieldRef := ⟨0x700010, 15, 0⟩
def NVC_PWD_PWD (n : Nat) : FieldRef := ⟨0x700020 + 4 * n, 31, 0⟩
def NVC_UNLOCK_GO : FieldRef := ⟨0x700030, 31, 31⟩
def NVC_UNLOCK_RELOCK : FieldRef := ⟨0x700030, 30, 30⟩
def NVC_REGION_LOCK (n : Nat) : FieldRef := ⟨0x700040 + 4 * n, 31, 31⟩
def NVC_REGION_LAST (n : Nat) : FieldRef := ⟨0x700040 + 4 * n, 26, 16⟩
def NVC_REGION_FIRST (n : Nat) : FieldRef := ⟨0x700040 + 4 * n, 10, 0⟩
def NVC_BUF_DATA (n : Nat) : FieldRef := ⟨0x700100 + 4 * n, 31, 0⟩
def BMC_CFG_REF2X : FieldRef := ⟨0x1000000, 8, 8⟩
def BMC_CFG_DENS : FieldRef := ⟨0x1000000, 4, 4⟩
def BMC_CFG_CHSIZE : FieldRef := ⟨0x1000000, 1, 0⟩
def BMC_STATUS_HDM_READY : FieldRef := ⟨0x1000004, 3, 3⟩
def BMC_STATUS_INIT_DONE : FieldRef := ⟨0x1000004, 2, 2⟩
def BMC_STATUS_TRAINED1 : FieldRef := ⟨0x1000004, 1, 1⟩
def BMC_STATUS_TRAINED0 : FieldRef := ⟨0x1000004, 0, 0⟩
def BMC_INITPOS_BLOCK : FieldRef := ⟨0x1000008, 14, 0⟩
def BMC_ECCCNT_UNCORR : FieldRef := ⟨0x1000010, 31, 16⟩
def BMC_ECCCNT_CORR : FieldRef := ⟨0x1000010, 15, 0⟩
def BMC_ECCLOG_TYPE : FieldRef := ⟨0x1000014, 31, 30⟩
def BMC_ECCLOG_LINE : FieldRef := ⟨0x1000014, 29, 0⟩
def BMC_REPQ_DROPPED : FieldRef := ⟨0x1000018, 31, 16⟩
def BMC_REPQ_USED : FieldRef := ⟨0x1000018, 7, 0⟩
def BMC_PATROL_EN : FieldRef := ⟨0x1000020, 31, 31⟩
def BMC_PATROL_PERIOD : FieldRef := ⟨0x1000020, 23, 0⟩
def BMC_PATROLPOS_LINE : FieldRef := ⟨0x1000024, 29, 0⟩
def BMC_MERGE_USED : FieldRef := ⟨0x1000030, 22, 16⟩
def BMC_MERGE_HOLD : FieldRef := ⟨0x1000030, 9, 0⟩
def BMC_CHKTEST_DONE : FieldRef := ⟨0x1000040, 31, 31⟩
def BMC_CHKTEST_PASS : FieldRef := ⟨0x1000040, 30, 30⟩
def BMC_CHKTEST_FAILCNT : FieldRef := ⟨0x1000040, 15, 8⟩
def BMC_CHKTEST_FAILIDX : FieldRef := ⟨0x1000040, 7, 0⟩
def BMC_HDM_POOL : FieldRef := ⟨0x1000050, 24, 16⟩
def BMC_HDM_SIZE : FieldRef := ⟨0x1000050, 6, 0⟩
def BMC_BIASPAGE_PAGE : FieldRef := ⟨0x1000060, 17, 0⟩
def BMC_BIASCMD_GO : FieldRef := ⟨0x1000064, 31, 31⟩
def BMC_BIASCMD_BUSY : FieldRef := ⟨0x1000064, 30, 30⟩
def BMC_BIASCMD_DONE : FieldRef := ⟨0x1000064, 29, 29⟩
def BMC_BIASCMD_COUNT : FieldRef := ⟨0x1000064, 18, 0⟩
def BMC_BIASCNT_FLIPS : FieldRef := ⟨0x1000068, 31, 0⟩
def BMC_TILE_FAILS : FieldRef := ⟨0x1000070, 31, 24⟩
def BMC_TILE_SLOT : FieldRef := ⟨0x1000070, 23, 0⟩
def DMA_ARB_HOSTOWN : FieldRef := ⟨0x1200000, 15, 8⟩
def DMA_ARB_HOSTPCT : FieldRef := ⟨0x1200000, 6, 0⟩
def DMA_BUSY_BUSY : FieldRef := ⟨0x1200004, 31, 0⟩
def DMA_CTL_GO (n : Nat) : FieldRef := ⟨0x1210000 + 256 * n, 31, 31⟩
def DMA_CTL_ABORT (n : Nat) : FieldRef := ⟨0x1210000 + 256 * n, 30, 30⟩
def DMA_CTL_RESUME (n : Nat) : FieldRef := ⟨0x1210000 + 256 * n, 29, 29⟩
def DMA_CTL_GROUP (n : Nat) : FieldRef := ⟨0x1210000 + 256 * n, 23, 16⟩
def DMA_CTL_IRQ (n : Nat) : FieldRef := ⟨0x1210000 + 256 * n, 15, 15⟩
def DMA_CTL_DONEW (n : Nat) : FieldRef := ⟨0x1210000 + 256 * n, 14, 14⟩
def DMA_CTL_CHECK (n : Nat) : FieldRef := ⟨0x1210000 + 256 * n, 13, 13⟩
def DMA_CTL_MODE (n : Nat) : FieldRef := ⟨0x1210000 + 256 * n, 12, 12⟩
def DMA_CTL_ESIZE (n : Nat) : FieldRef := ⟨0x1210000 + 256 * n, 11, 11⟩
def DMA_CTL_DSTSP (n : Nat) : FieldRef := ⟨0x1210000 + 256 * n, 7, 6⟩
def DMA_CTL_SRCSP (n : Nat) : FieldRef := ⟨0x1210000 + 256 * n, 5, 4⟩
def DMA_CTL_OP (n : Nat) : FieldRef := ⟨0x1210000 + 256 * n, 1, 0⟩
def DMA_STAT_CODE (n : Nat) : FieldRef := ⟨0x1210004 + 256 * n, 27, 24⟩
def DMA_STAT_CAUSE (n : Nat) : FieldRef := ⟨0x1210004 + 256 * n, 23, 22⟩
def DMA_STAT_DIR (n : Nat) : FieldRef := ⟨0x1210004 + 256 * n, 21, 21⟩
def DMA_STAT_FSP (n : Nat) : FieldRef := ⟨0x1210004 + 256 * n, 20, 19⟩
def DMA_STAT_STATE (n : Nat) : FieldRef := ⟨0x1210004 + 256 * n, 2, 0⟩
def DMA_SRC_LO_V (n : Nat) : FieldRef := ⟨0x1210008 + 256 * n, 31, 0⟩
def DMA_SRC_HI_V (n : Nat) : FieldRef := ⟨0x121000C + 256 * n, 31, 0⟩
def DMA_DST_LO_V (n : Nat) : FieldRef := ⟨0x1210010 + 256 * n, 31, 0⟩
def DMA_DST_HI_V (n : Nat) : FieldRef := ⟨0x1210014 + 256 * n, 31, 0⟩
def DMA_CNT0_COUNT (n : Nat) : FieldRef := ⟨0x1210018 + 256 * n, 24, 0⟩
def DMA_CNT1_COUNT (n : Nat) : FieldRef := ⟨0x121001C + 256 * n, 24, 0⟩
def DMA_CNT2_COUNT (n : Nat) : FieldRef := ⟨0x1210020 + 256 * n, 24, 0⟩
def DMA_SSTEP0_STEP (n : Nat) : FieldRef := ⟨0x1210024 + 256 * n, 31, 0⟩
def DMA_SSTEP1_STEP (n : Nat) : FieldRef := ⟨0x1210028 + 256 * n, 31, 0⟩
def DMA_SSTEP2_STEP (n : Nat) : FieldRef := ⟨0x121002C + 256 * n, 31, 0⟩
def DMA_DSTEP0_STEP (n : Nat) : FieldRef := ⟨0x1210030 + 256 * n, 31, 0⟩
def DMA_DSTEP1_STEP (n : Nat) : FieldRef := ⟨0x1210034 + 256 * n, 31, 0⟩
def DMA_DSTEP2_STEP (n : Nat) : FieldRef := ⟨0x1210038 + 256 * n, 31, 0⟩
def DMA_SG_DNENT (n : Nat) : FieldRef := ⟨0x121003C + 256 * n, 24, 16⟩
def DMA_SG_SNENT (n : Nat) : FieldRef := ⟨0x121003C + 256 * n, 8, 0⟩
def DMA_FILL_LO_V (n : Nat) : FieldRef := ⟨0x1210040 + 256 * n, 31, 0⟩
def DMA_FILL_HI_V (n : Nat) : FieldRef := ⟨0x1210044 + 256 * n, 31, 0⟩
def DMA_DONEADDR_LO_V (n : Nat) : FieldRef := ⟨0x1210048 + 256 * n, 31, 0⟩
def DMA_DONEADDR_HI_V (n : Nat) : FieldRef := ⟨0x121004C + 256 * n, 31, 0⟩
def DMA_IDX0_IDX (n : Nat) : FieldRef := ⟨0x1210050 + 256 * n, 23, 0⟩
def DMA_IDX1_IDX (n : Nat) : FieldRef := ⟨0x1210054 + 256 * n, 23, 0⟩
def DMA_IDX2_IDX (n : Nat) : FieldRef := ⟨0x1210058 + 256 * n, 23, 0⟩
def DMA_FAILADDR_LO_V (n : Nat) : FieldRef := ⟨0x121005C + 256 * n, 31, 0⟩
def DMA_FAILADDR_HI_V (n : Nat) : FieldRef := ⟨0x1210060 + 256 * n, 31, 0⟩
def DMA_CMPOFF_LO_V (n : Nat) : FieldRef := ⟨0x1210064 + 256 * n, 31, 0⟩
def DMA_CMPOFF_HI_V (n : Nat) : FieldRef := ⟨0x1210068 + 256 * n, 31, 0⟩
def HCC_STATUS_WALK : FieldRef := ⟨0x1400000, 3, 3⟩
def HCC_STATUS_DISABLED : FieldRef := ⟨0x1400000, 2, 2⟩
def HCC_STATUS_INVAL : FieldRef := ⟨0x1400000, 1, 1⟩
def HCC_STATUS_READY : FieldRef := ⟨0x1400000, 0, 0⟩
def HCC_OCC_PINNED : FieldRef := ⟨0x1400004, 31, 17⟩
def HCC_OCC_UNPLACED : FieldRef := ⟨0x1400004, 16, 10⟩
def HCC_OCC_DIRTY : FieldRef := ⟨0x1400004, 9, 0⟩
def HCC_PARLOG_VALID : FieldRef := ⟨0x1400010, 31, 31⟩
def HCC_PARLOG_WHAT : FieldRef := ⟨0x1400010, 30, 28⟩
def HCC_PARLOG_DIRTY : FieldRef := ⟨0x1400010, 27, 27⟩
def HCC_PARLOG_WAY : FieldRef := ⟨0x1400010, 15, 12⟩
def HCC_PARLOG_SET : FieldRef := ⟨0x1400010, 11, 0⟩
def HCC_PARADDR_ADDR : FieldRef := ⟨0x1400014, 31, 0⟩
def HCC_CNT_MISSES : FieldRef := ⟨0x1400020, 31, 16⟩
def HCC_CNT_HITS : FieldRef := ⟨0x1400020, 15, 0⟩
def QMG_ACTL_SETUPERR : FieldRef := ⟨0x1600000, 2, 2⟩
def QMG_ACTL_RDY : FieldRef := ⟨0x1600000, 1, 1⟩
def QMG_ACTL_EN : FieldRef := ⟨0x1600000, 0, 0⟩
def QMG_STATUS_ACTSTOP : FieldRef := ⟨0x1600004, 19, 19⟩
def QMG_STATUS_ALLQ : FieldRef := ⟨0x1600004, 18, 18⟩
def QMG_STATUS_SLOTS : FieldRef := ⟨0x1600004, 17, 0⟩
def QMG_ASQ_LO_BASE : FieldRef := ⟨0x1600010, 31, 11⟩
def QMG_ASQ_HI_BASE : FieldRef := ⟨0x1600014, 31, 0⟩
def QMG_ACR_LO_BASE : FieldRef := ⟨0x1600018, 31, 6⟩
def QMG_ACR_HI_BASE : FieldRef := ⟨0x160001C, 31, 0⟩
def QMG_ACRHEAD_LO_ADDR : FieldRef := ⟨0x1600020, 31, 2⟩
def QMG_ACRHEAD_HI_ADDR : FieldRef := ⟨0x1600024, 31, 0⟩
def QMG_ACRCFG_CTIME : FieldRef := ⟨0x1600028, 31, 24⟩
def QMG_ACRCFG_CTHRESH : FieldRef := ⟨0x1600028, 23, 16⟩
def QMG_ACRCFG_GROUP : FieldRef := ⟨0x1600028, 15, 8⟩
def QMG_ACRCFG_DEPTHLOG : FieldRef := ⟨0x1600028, 3, 0⟩
def QMG_SLOTS_ADMIN : FieldRef := ⟨0x1600030, 10, 0⟩
def QMG_CTXSEL_QID : FieldRef := ⟨0x1600100, 19, 0⟩
def QMG_CTXVIEW_ERRPOS : FieldRef := ⟨0x1600104, 29, 24⟩
def QMG_CTXVIEW_TAIL : FieldRef := ⟨0x1600104, 21, 16⟩
def QMG_CTXVIEW_FETCH : FieldRef := ⟨0x1600104, 13, 8⟩
def QMG_CTXVIEW_ERR : FieldRef := ⟨0x1600104, 7, 4⟩
def QMG_CTXVIEW_ARMED : FieldRef := ⟨0x1600104, 3, 3⟩
def QMG_CTXVIEW_STATE : FieldRef := ⟨0x1600104, 2, 0⟩
def QMG_CTXOUT_OUT : FieldRef := ⟨0x1600108, 31, 0⟩
def QMG_QERR_VALID : FieldRef := ⟨0x1600200, 31, 31⟩
def QMG_QERR_POS : FieldRef := ⟨0x1600200, 29, 24⟩
def QMG_QERR_CODE : FieldRef := ⟨0x1600200, 23, 20⟩
def QMG_QERR_QID : FieldRef := ⟨0x1600200, 19, 0⟩
def QMG_CTXCACHE_ARMED : FieldRef := ⟨0x1600210, 31, 16⟩
def QMG_CTXCACHE_CACHED : FieldRef := ⟨0x1600210, 14, 0⟩
def QMG_MISSCNT_MISSES : FieldRef := ⟨0x1600214, 31, 0⟩
def CHN_STATUS_RING (k : Nat) : FieldRef := ⟨0x2000004 + 0x200000 * k, 15, 8⟩
def CHN_STATUS_LOCKED (k : Nat) : FieldRef := ⟨0x2000004 + 0x200000 * k, 4, 4⟩
def CHN_STATUS_PROFILE (k : Nat) : FieldRef := ⟨0x2000004 + 0x200000 * k, 3, 2⟩
def CHN_STATUS_STATE (k : Nat) : FieldRef := ⟨0x2000004 + 0x200000 * k, 1, 0⟩
def CHN_AFE_PD (k n : Nat) : FieldRef := ⟨0x2000040 + 0x200000 * k + 4 * n, 18, 18⟩
def CHN_AFE_HPF (k n : Nat) : FieldRef := ⟨0x2000040 + 0x200000 * k + 4 * n, 17, 16⟩
def CHN_AFE_BOOST (k n : Nat) : FieldRef := ⟨0x2000040 + 0x200000 * k + 4 * n, 15, 12⟩
def CHN_AFE_FC (k n : Nat) : FieldRef := ⟨0x2000040 + 0x200000 * k + 4 * n, 11, 7⟩
def CHN_AFE_VGA (k n : Nat) : FieldRef := ⟨0x2000040 + 0x200000 * k + 4 * n, 6, 0⟩
def CHN_AGC_GAIN_NOW (k : Nat) : FieldRef := ⟨0x2000050 + 0x200000 * k, 22, 16⟩
def CHN_AGC_TARGET (k : Nat) : FieldRef := ⟨0x2000050 + 0x200000 * k, 7, 0⟩
def CHN_TSTEP_STEP (k : Nat) : FieldRef := ⟨0x2000100 + 0x200000 * k, 22, 0⟩
def CHN_TLOOP_KI_TRK (k : Nat) : FieldRef := ⟨0x2000104 + 0x200000 * k, 15, 12⟩
def CHN_TLOOP_KP_TRK (k : Nat) : FieldRef := ⟨0x2000104 + 0x200000 * k, 11, 8⟩
def CHN_TLOOP_KI_ACQ (k : Nat) : FieldRef := ⟨0x2000104 + 0x200000 * k, 7, 4⟩
def CHN_TLOOP_KP_ACQ (k : Nat) : FieldRef := ⟨0x2000104 + 0x200000 * k, 3, 0⟩
def CHN_TLOCK_PDTH (k : Nat) : FieldRef := ⟨0x2000108 + 0x200000 * k, 23, 16⟩
def CHN_TLOCK_ACQLEN (k : Nat) : FieldRef := ⟨0x2000108 + 0x200000 * k, 15, 8⟩
def CHN_TLOCK_LOCKTH (k : Nat) : FieldRef := ⟨0x2000108 + 0x200000 * k, 7, 0⟩
def CHN_RDOFF_OFF_C (k : Nat) : FieldRef := ⟨0x2000110 + 0x200000 * k, 27, 16⟩
def CHN_RDOFF_OFF_B (k : Nat) : FieldRef := ⟨0x2000110 + 0x200000 * k, 11, 0⟩
def CHN_MARKWIN_PRED_WIDEN (k : Nat) : FieldRef := ⟨0x2000140 + 0x200000 * k, 21, 16⟩
def CHN_MARKWIN_RESYNC_HALF (k : Nat) : FieldRef := ⟨0x2000140 + 0x200000 * k, 12, 8⟩
def CHN_MARKWIN_HALF (k : Nat) : FieldRef := ⟨0x2000140 + 0x200000 * k, 6, 0⟩
def CHN_MARKTHR_TRIES (k : Nat) : FieldRef := ⟨0x2000144 + 0x200000 * k, 26, 24⟩
def CHN_MARKTHR_MARGIN (k : Nat) : FieldRef := ⟨0x2000144 + 0x200000 * k, 22, 16⟩
def CHN_MARKTHR_THRESH (k : Nat) : FieldRef := ⟨0x2000144 + 0x200000 * k, 8, 0⟩
def CHN_MARKPAT_PATTERN (k : Nat) : FieldRef := ⟨0x2000148 + 0x200000 * k, 31, 0⟩
def CHN_CAND_CHOSEN (k n : Nat) : FieldRef := ⟨0x2000180 + 0x200000 * k + 4 * n, 21, 21⟩
def CHN_CAND_RESULT (k n : Nat) : FieldRef := ⟨0x2000180 + 0x200000 * k + 4 * n, 20, 19⟩
def CHN_CAND_ALIKE (k n : Nat) : FieldRef := ⟨0x2000180 + 0x200000 * k + 4 * n, 18, 18⟩
def CHN_CAND_VALID (k n : Nat) : FieldRef := ⟨0x2000180 + 0x200000 * k + 4 * n, 17, 17⟩
def CHN_CAND_METRIC (k n : Nat) : FieldRef := ⟨0x2000180 + 0x200000 * k + 4 * n, 16, 8⟩
def CHN_CAND_OFFSET (k n : Nat) : FieldRef := ⟨0x2000180 + 0x200000 * k + 4 * n, 7, 0⟩
def CHN_GATE_RG_LAG (k : Nat) : FieldRef := ⟨0x2000204 + 0x200000 * k, 7, 0⟩
def CHN_ERRCNT0_ALT_USED (k : Nat) : FieldRef := ⟨0x2000300 + 0x200000 * k, 31, 16⟩
def CHN_ERRCNT0_MARK_MISS (k : Nat) : FieldRef := ⟨0x2000300 + 0x200000 * k, 15, 0⟩
def CHN_ERRCNT1_REV_SLIP (k : Nat) : FieldRef := ⟨0x2000304 + 0x200000 * k, 31, 16⟩
def CHN_ERRCNT1_RESYNC_MISS (k : Nat) : FieldRef := ⟨0x2000304 + 0x200000 * k, 15, 0⟩
def CHN_ERRCNT2_LOCK_FAIL (k : Nat) : FieldRef := ⟨0x2000308 + 0x200000 * k, 15, 0⟩
def CHN_DETCFG_ADAPT (k : Nat) : FieldRef := ⟨0x2000400 + 0x200000 * k, 16, 16⟩
def CHN_DETCFG_MU_TGT (k : Nat) : FieldRef := ⟨0x2000400 + 0x200000 * k, 15, 12⟩
def CHN_DETCFG_MU_EQ (k : Nat) : FieldRef := ⟨0x2000400 + 0x200000 * k, 11, 8⟩
def CHN_DETCFG_EQSET (k : Nat) : FieldRef := ⟨0x2000400 + 0x200000 * k, 2, 0⟩
def CHN_TARGET0_G (k : Nat) : FieldRef := ⟨0x2000410 + 0x200000 * k, 15, 0⟩
def CHN_TARGET_G (k n : Nat) : FieldRef := ⟨0x2000410 + 0x200000 * k + 4 * n, 15, 0⟩
def CHN_SNR_ITER_AVG (k : Nat) : FieldRef := ⟨0x2000440 + 0x200000 * k, 31, 24⟩
def CHN_SNR_SNR (k : Nat) : FieldRef := ⟨0x2000440 + 0x200000 * k, 15, 0⟩
def CHN_EQTAP_F (k n : Nat) : FieldRef := ⟨0x2000800 + 0x200000 * k + 4 * n, 11, 0⟩
def CHN_ZSLOT_WORD (k n : Nat) : FieldRef := ⟨0x2010000 + 0x200000 * k + 4 * n, 31, 0⟩
def DEC_CTRL_EN : FieldRef := ⟨0x2400000, 3, 0⟩
def DEC_LIMITS_EXT_GLOBAL : FieldRef := ⟨0x2400010, 27, 24⟩
def DEC_LIMITS_EXT_LOCAL : FieldRef := ⟨0x2400010, 21, 16⟩
def DEC_LIMITS_OTF_GLOBAL : FieldRef := ⟨0x2400010, 11, 8⟩
def DEC_LIMITS_OTF_LOCAL : FieldRef := ⟨0x2400010, 5, 0⟩
def DEC_ALLOC_REC_MAX : FieldRef := ⟨0x2400014, 10, 8⟩
def DEC_ALLOC_RESERVE1 : FieldRef := ⟨0x2400014, 5, 4⟩
def DEC_ALLOC_RESERVE0 : FieldRef := ⟨0x2400014, 1, 0⟩
def DEC_NORM_SW_MAX0 : FieldRef := ⟨0x2400018, 27, 16⟩
def DEC_NORM_SW_MAX1 : FieldRef := ⟨0x2400018, 15, 4⟩
def DEC_NORM_SCALE : FieldRef := ⟨0x2400018, 3, 0⟩
def DEC_LIMITS1_EXT_GLOBAL : FieldRef := ⟨0x2400020, 27, 24⟩
def DEC_LIMITS1_EXT_LOCAL : FieldRef := ⟨0x2400020, 21, 16⟩
def DEC_LIMITS1_OTF_GLOBAL : FieldRef := ⟨0x2400020, 11, 8⟩
def DEC_LIMITS1_OTF_LOCAL : FieldRef := ⟨0x2400020, 5, 0⟩
def DEC_INST_ITER (n : Nat) : FieldRef := ⟨0x2400100 + 4 * n, 13, 8⟩
def DEC_INST_KIND (n : Nat) : FieldRef := ⟨0x2400100 + 4 * n, 5, 3⟩
def DEC_INST_OWNER (n : Nat) : FieldRef := ⟨0x2400100 + 4 * n, 2, 2⟩
def DEC_INST_RESUMED (n : Nat) : FieldRef := ⟨0x2400100 + 4 * n, 1, 1⟩
def DEC_INST_BUSY (n : Nat) : FieldRef := ⟨0x2400100 + 4 * n, 0, 0⟩
def DEC_STORE_USED1 : FieldRef := ⟨0x2400200, 26, 16⟩
def DEC_STORE_USED0 : FieldRef := ⟨0x2400200, 10, 0⟩
def DEC_RECCNT_UNRECOVERED (n : Nat) : FieldRef := ⟨0x2400300 + 4 * n, 31, 16⟩
def DEC_RECCNT_RECOVERED (n : Nat) : FieldRef := ⟨0x2400300 + 4 * n, 15, 0⟩
def PRE_SCTL_BUSY (k : Nat) : FieldRef := ⟨0x2600000 + 0x100000 * k, 8, 8⟩
def PRE_SCTL_RATE (k : Nat) : FieldRef := ⟨0x2600000 + 0x100000 * k, 1, 0⟩
def PRE_SCMD_GO (k : Nat) : FieldRef := ⟨0x2600004 + 0x100000 * k, 31, 31⟩
def PRE_SCMD_READ (k : Nat) : FieldRef := ⟨0x2600004 + 0x100000 * k, 15, 15⟩
def PRE_SCMD_ADDR (k : Nat) : FieldRef := ⟨0x2600004 + 0x100000 * k, 14, 8⟩
def PRE_SCMD_DATA (k : Nat) : FieldRef := ⟨0x2600004 + 0x100000 * k, 7, 0⟩
def PRE_HEAD_READERS (k : Nat) : FieldRef := ⟨0x2600010 + 0x100000 * k, 10, 8⟩
def PRE_HEAD_MODE (k : Nat) : FieldRef := ⟨0x2600010 + 0x100000 * k, 5, 4⟩
def PRE_HEAD_HEAD (k : Nat) : FieldRef := ⟨0x2600010 + 0x100000 * k, 3, 0⟩
def PRE_WSYN_FRAC (k : Nat) : FieldRef := ⟨0x2600020 + 0x100000 * k, 23, 0⟩
def PRE_PRECOMP_PCR (k : Nat) : FieldRef := ⟨0x2600024 + 0x100000 * k, 20, 16⟩
def PRE_PRECOMP_PC2 (k : Nat) : FieldRef := ⟨0x2600024 + 0x100000 * k, 12, 8⟩
def PRE_PRECOMP_PC1 (k : Nat) : FieldRef := ⟨0x2600024 + 0x100000 * k, 4, 0⟩
def PRE_WGT_SETTLE (k : Nat) : FieldRef := ⟨0x2600028 + 0x100000 * k, 31, 24⟩
def PRE_WGT_LAG (k : Nat) : FieldRef := ⟨0x2600028 + 0x100000 * k, 19, 16⟩
def PRE_WGT_LEAD (k : Nat) : FieldRef := ⟨0x2600028 + 0x100000 * k, 7, 0⟩
def PRE_WINH_CUT (k : Nat) : FieldRef := ⟨0x2600030 + 0x100000 * k, 21, 21⟩
def PRE_WINH_FIRST (k : Nat) : FieldRef := ⟨0x2600030 + 0x100000 * k, 20, 16⟩
def PRE_WINH_SW (k : Nat) : FieldRef := ⟨0x2600030 + 0x100000 * k, 12, 12⟩
def PRE_WINH_ACTIVE (k : Nat) : FieldRef := ⟨0x2600030 + 0x100000 * k, 11, 0⟩
def PRE_FLT_COUNT (k : Nat) : FieldRef := ⟨0x2600040 + 0x100000 * k, 31, 16⟩
def PRE_FLT_HEAD (k : Nat) : FieldRef := ⟨0x2600040 + 0x100000 * k, 11, 8⟩
def PRE_FLT_FAULT (k : Nat) : FieldRef := ⟨0x2600040 + 0x100000 * k, 7, 0⟩
def SRV_CTRL_TID_WIN (k : Nat) : FieldRef := ⟨0x2800000 + 0x200000 * k, 23, 20⟩
def SRV_CTRL_SAMWIN (k : Nat) : FieldRef := ⟨0x2800000 + 0x200000 * k, 19, 16⟩
def SRV_CTRL_RROF_EN (k : Nat) : FieldRef := ⟨0x2800000 + 0x200000 * k, 4, 4⟩
def SRV_CTRL_MODE (k : Nat) : FieldRef := ⟨0x2800000 + 0x200000 * k, 2, 0⟩
def SRV_STATUS_WINH (k : Nat) : FieldRef := ⟨0x2800004 + 0x200000 * k, 27, 24⟩
def SRV_STATUS_PRED (k : Nat) : FieldRef := ⟨0x2800004 + 0x200000 * k, 21, 20⟩
def SRV_STATUS_LEARNED (k : Nat) : FieldRef := ⟨0x2800004 + 0x200000 * k, 19, 19⟩
def SRV_STATUS_WR_OK (k : Nat) : FieldRef := ⟨0x2800004 + 0x200000 * k, 18, 18⟩
def SRV_STATUS_RD_OK (k : Nat) : FieldRef := ⟨0x2800004 + 0x200000 * k, 17, 17⟩
def SRV_STATUS_LOST (k : Nat) : FieldRef := ⟨0x2800004 + 0x200000 * k, 16, 16⟩
def SRV_STATUS_WEDGE (k : Nat) : FieldRef := ⟨0x2800004 + 0x200000 * k, 8, 0⟩
def SRV_AFE_HPF (k : Nat) : FieldRef := ⟨0x2800008 + 0x200000 * k, 17, 16⟩
def SRV_AFE_BOOST (k : Nat) : FieldRef := ⟨0x2800008 + 0x200000 * k, 15, 12⟩
def SRV_AFE_FC (k : Nat) : FieldRef := ⟨0x2800008 + 0x200000 * k, 11, 7⟩
def SRV_AFE_VGA (k : Nat) : FieldRef := ⟨0x2800008 + 0x200000 * k, 6, 0⟩
def SRV_FMT_SSTEP (k : Nat) : FieldRef := ⟨0x280000C + 0x200000 * k, 25, 0⟩
def SRV_TW_TW (k : Nat) : FieldRef := ⟨0x2800010 + 0x200000 * k, 31, 0⟩
def SRV_POS_POS (k : Nat) : FieldRef := ⟨0x2800020 + 0x200000 * k, 31, 0⟩
def SRV_PES_RESID (k : Nat) : FieldRef := ⟨0x2800024 + 0x200000 * k, 31, 16⟩
def SRV_PES_PES (k : Nat) : FieldRef := ⟨0x2800024 + 0x200000 * k, 15, 0⟩
def SRV_TARGET_TARGET (k : Nat) : FieldRef := ⟨0x2800028 + 0x200000 * k, 31, 0⟩
def SRV_THR_RES_TH (k : Nat) : FieldRef := ⟨0x2800030 + 0x200000 * k, 31, 16⟩
def SRV_THR_WI_TH (k : Nat) : FieldRef := ⟨0x2800030 + 0x200000 * k, 15, 0⟩
def SRV_SETTLE_RD_N (k : Nat) : FieldRef := ⟨0x2800034 + 0x200000 * k, 31, 28⟩
def SRV_SETTLE_RD_TH (k : Nat) : FieldRef := ⟨0x2800034 + 0x200000 * k, 27, 16⟩
def SRV_SETTLE_WR_N (k : Nat) : FieldRef := ⟨0x2800034 + 0x200000 * k, 15, 12⟩
def SRV_SETTLE_WR_TH (k : Nat) : FieldRef := ⟨0x2800034 + 0x200000 * k, 11, 0⟩
def SRV_MODEL_COEF (k n : Nat) : FieldRef := ⟨0x2800040 + 0x200000 * k + 4 * n, 31, 0⟩
def SRV_LIN_CORR (k n : Nat) : FieldRef := ⟨0x2800100 + 0x200000 * k + 4 * n, 7, 0⟩
def CLE_CTRL_RUN : FieldRef := ⟨0x2C00000, 16, 16⟩
def CLE_CTRL_EN : FieldRef := ⟨0x2C00000, 8, 0⟩
def CLE_LCFG_RAMP_N (n : Nat) : FieldRef := ⟨0x2C00100 + 16 * n, 31, 24⟩
def CLE_LCFG_IN_SHIFT (n : Nat) : FieldRef := ⟨0x2C00100 + 16 * n, 19, 16⟩
def CLE_LCFG_NSEC (n : Nat) : FieldRef := ⟨0x2C00100 + 16 * n, 4, 0⟩
def CLE_LLIM_OUT_MAX (n : Nat) : FieldRef := ⟨0x2C00104 + 16 * n, 31, 16⟩
def CLE_LLIM_ILIM (n : Nat) : FieldRef := ⟨0x2C00104 + 16 * n, 15, 0⟩
def CLE_LSTAT_OUT (n : Nat) : FieldRef := ⟨0x2C00108 + 16 * n, 31, 16⟩
def CLE_LSTAT_RAMP (n : Nat) : FieldRef := ⟨0x2C00108 + 16 * n, 3, 3⟩
def CLE_LSTAT_CLAMPED (n : Nat) : FieldRef := ⟨0x2C00108 + 16 * n, 2, 2⟩
def CLE_LSTAT_SATURATED (n : Nat) : FieldRef := ⟨0x2C00108 + 16 * n, 1, 1⟩
def CLE_LSTAT_RUNNING (n : Nat) : FieldRef := ⟨0x2C00108 + 16 * n, 0, 0⟩
def CLE_SEEKA_ACC_MAX (n : Nat) : FieldRef := ⟨0x2C00400 + 16 * n, 31, 16⟩
def CLE_SEEKA_VEL_MAX (n : Nat) : FieldRef := ⟨0x2C00400 + 16 * n, 15, 0⟩
def CLE_SEEKB_ACC_FF (n : Nat) : FieldRef := ⟨0x2C00404 + 16 * n, 31, 16⟩
def CLE_SEEKB_JERK_N (n : Nat) : FieldRef := ⟨0x2C00404 + 16 * n, 15, 8⟩
def CLE_SEEKB_SHORT (n : Nat) : FieldRef := ⟨0x2C00404 + 16 * n, 7, 0⟩
def CLE_MA_STROKE (n : Nat) : FieldRef := ⟨0x2C00408 + 16 * n, 15, 0⟩
def CLE_LRN_GAIN (n : Nat) : FieldRef := ⟨0x2C00500 + 4 * n, 31, 16⟩
def CLE_LRN_ADV (n : Nat) : FieldRef := ⟨0x2C00500 + 4 * n, 15, 8⟩
def CLE_LRN_REVS (n : Nat) : FieldRef := ⟨0x2C00500 + 4 * n, 7, 0⟩
def CLE_LRNSTAT_LEARNED : FieldRef := ⟨0x2C00510, 23, 0⟩
def CLE_INJCTL_ACTIVE : FieldRef := ⟨0x2C00600, 31, 31⟩
def CLE_INJCTL_START : FieldRef := ⟨0x2C00600, 30, 30⟩
def CLE_INJCTL_NODE : FieldRef := ⟨0x2C00600, 27, 24⟩
def CLE_INJCTL_TYPE : FieldRef := ⟨0x2C00600, 23, 22⟩
def CLE_INJCTL_ORDER : FieldRef := ⟨0x2C00600, 19, 16⟩
def CLE_INJCTL_AMP : FieldRef := ⟨0x2C00600, 15, 0⟩
def CLE_INJFREQ_F1 : FieldRef := ⟨0x2C00604, 31, 16⟩
def CLE_INJFREQ_F0 : FieldRef := ⟨0x2C00604, 15, 0⟩
def CLE_CAPCTL_LENLOG : FieldRef := ⟨0x2C00610, 19, 16⟩
def CLE_CAPCTL_DONE : FieldRef := ⟨0x2C00610, 0, 0⟩
def CLE_TONE_AMP (n : Nat) : FieldRef := ⟨0x2C00680 + 4 * n, 31, 16⟩
def CLE_TONE_BIN (n : Nat) : FieldRef := ⟨0x2C00680 + 4 * n, 11, 0⟩
def CLE_SECA_B1 (n : Nat) : FieldRef := ⟨0x2C01000 + 16 * n, 31, 16⟩
def CLE_SECA_B0 (n : Nat) : FieldRef := ⟨0x2C01000 + 16 * n, 15, 0⟩
def CLE_SECB_A1 (n : Nat) : FieldRef := ⟨0x2C01004 + 16 * n, 31, 16⟩
def CLE_SECB_B2 (n : Nat) : FieldRef := ⟨0x2C01004 + 16 * n, 15, 0⟩
def CLE_SECC_INTEG (n : Nat) : FieldRef := ⟨0x2C01008 + 16 * n, 19, 19⟩
def CLE_SECC_SHIFT (n : Nat) : FieldRef := ⟨0x2C01008 + 16 * n, 18, 16⟩
def CLE_SECC_A2 (n : Nat) : FieldRef := ⟨0x2C01008 + 16 * n, 15, 0⟩
def CLE_FF_ODD (n : Nat) : FieldRef := ⟨0x2C40000 + 4 * n, 31, 16⟩
def CLE_FF_EVEN (n : Nat) : FieldRef := ⟨0x2C40000 + 4 * n, 15, 0⟩
def CLE_CAP_RET (n : Nat) : FieldRef := ⟨0x2D00000 + 4 * n, 31, 16⟩
def CLE_CAP_SUM (n : Nat) : FieldRef := ⟨0x2D00000 + 4 * n, 15, 0⟩
def SPM_CTRL_DIR : FieldRef := ⟨0x3000000, 8, 8⟩
def SPM_CTRL_MODE : FieldRef := ⟨0x3000000, 2, 0⟩
def SPM_STATUS_CATCHFAIL : FieldRef := ⟨0x3000004, 25, 24⟩
def SPM_STATUS_SKIPRUN : FieldRef := ⟨0x3000004, 23, 16⟩
def SPM_STATUS_STOPPED : FieldRef := ⟨0x3000004, 5, 5⟩
def SPM_STATUS_SHIFT : FieldRef := ⟨0x3000004, 4, 4⟩
def SPM_STATUS_OBS_VALID : FieldRef := ⟨0x3000004, 3, 3⟩
def SPM_STATUS_AT_SPEED : FieldRef := ⟨0x3000004, 2, 2⟩
def SPM_STATUS_LOS : FieldRef := ⟨0x3000004, 1, 1⟩
def SPM_SPEED_REV : FieldRef := ⟨0x3000008, 31, 31⟩
def SPM_SPEED_SPEED : FieldRef := ⟨0x3000008, 19, 0⟩
def SPM_TARGET_SPEED : FieldRef := ⟨0x300000C, 19, 0⟩
def SPM_MOTOR_RES : FieldRef := ⟨0x3000010, 31, 16⟩
def SPM_MOTOR_IND : FieldRef := ⟨0x3000010, 15, 4⟩
def SPM_MOTOR_POLES : FieldRef := ⟨0x3000010, 3, 0⟩
def SPM_MECH_J : FieldRef := ⟨0x3000014, 31, 16⟩
def SPM_MECH_KT : FieldRef := ⟨0x3000014, 15, 8⟩
def SPM_MECH_KE : FieldRef := ⟨0x3000014, 7, 0⟩
def SPM_CURLIM_BRK_IQ : FieldRef := ⟨0x3000018, 31, 16⟩
def SPM_CURLIM_IQ_MAX : FieldRef := ⟨0x3000018, 15, 0⟩
def SPM_CURPI_KI : FieldRef := ⟨0x300001C, 31, 16⟩
def SPM_CURPI_KP : FieldRef := ⟨0x300001C, 15, 0⟩
def SPM_LOS_PERIODS : FieldRef := ⟨0x3000020, 17, 16⟩
def SPM_LOS_ACC_MARGIN : FieldRef := ⟨0x3000020, 15, 8⟩
def SPM_LOS_EMF_TOL : FieldRef := ⟨0x3000020, 7, 0⟩
def SPM_SPDLIM_CATCH_MIN : FieldRef := ⟨0x3000024, 31, 16⟩
def SPM_SPDLIM_OBS_MIN : FieldRef := ⟨0x3000024, 15, 0⟩
def SPM_CNT_SKIPS : FieldRef := ⟨0x3000030, 31, 16⟩
def SPM_CNT_LOS : FieldRef := ⟨0x3000030, 15, 8⟩
def SPM_CNT_CATCHES : FieldRef := ⟨0x3000030, 7, 0⟩
def MFE_STATUS_BUS : FieldRef := ⟨0x3200000, 9, 8⟩
def MFE_STATUS_IDF_ON : FieldRef := ⟨0x3200000, 7, 7⟩
def MFE_STATUS_PWRLOSS : FieldRef := ⟨0x3200000, 6, 6⟩
def MFE_STATUS_RETRACT1 : FieldRef := ⟨0x3200000, 5, 5⟩
def MFE_STATUS_RETRACT0 : FieldRef := ⟨0x3200000, 4, 4⟩
def MFE_STATUS_PARKED1 : FieldRef := ⟨0x3200000, 3, 3⟩
def MFE_STATUS_PARKED0 : FieldRef := ⟨0x3200000, 2, 2⟩
def MFE_STATUS_SPIN_ON : FieldRef := ⟨0x3200000, 1, 1⟩
def MFE_STATUS_LINK : FieldRef := ⟨0x3200000, 0, 0⟩
def MFE_VSENSE_V12 : FieldRef := ⟨0x3200004, 31, 16⟩
def MFE_VSENSE_VBUS : FieldRef := ⟨0x3200004, 15, 0⟩
def MFE_BUSTH0_CHOP_OFF : FieldRef := ⟨0x3200008, 26, 16⟩
def MFE_BUSTH0_CHOP_ON : FieldRef := ⟨0x3200008, 10, 0⟩
def MFE_BUSTH1_BRIDGE_OFF : FieldRef := ⟨0x320000C, 26, 16⟩
def MFE_BUSTH1_NO_REGEN : FieldRef := ⟨0x320000C, 10, 0⟩
def MFE_CHOP_TDET : FieldRef := ⟨0x3200010, 31, 24⟩
def MFE_CHOP_IMIN : FieldRef := ⟨0x3200010, 15, 0⟩
def MFE_BRAKE_ZV_ILIM : FieldRef := ⟨0x3200014, 31, 16⟩
def MFE_BRAKE_MODE : FieldRef := ⟨0x3200014, 0, 0⟩
def MFE_GATE_DT : FieldRef := ⟨0x3200018, 24, 16⟩
def MFE_GATE_ISGAIN : FieldRef := ⟨0x3200018, 1, 0⟩
def MFE_RET_RET_IMAX (n : Nat) : FieldRef := ⟨0x3200020 + 16 * n, 31, 16⟩
def MFE_RET_RET_VEL (n : Nat) : FieldRef := ⟨0x3200020 + 16 * n, 15, 0⟩
def MFE_PUSH_LOAD_VEL (n : Nat) : FieldRef := ⟨0x3200024 + 16 * n, 31, 16⟩
def MFE_PUSH_RET_PUSH (n : Nat) : FieldRef := ⟨0x3200024 + 16 * n, 15, 0⟩
def MFE_VCM_KP (n : Nat) : FieldRef := ⟨0x3200028 + 16 * n, 31, 16⟩
def MFE_VCM_KI (n : Nat) : FieldRef := ⟨0x3200028 + 16 * n, 15, 0⟩
def MFE_SHOCK_HOLD : FieldRef := ⟨0x3200040, 31, 16⟩
def MFE_SHOCK_TH : FieldRef := ⟨0x3200040, 15, 0⟩
def MFE_PROT_SHOCK : FieldRef := ⟨0x3200050, 11, 11⟩
def MFE_PROT_REVERSE : FieldRef := ⟨0x3200050, 10, 10⟩
def MFE_PROT_PWRLOSS : FieldRef := ⟨0x3200050, 9, 9⟩
def MFE_PROT_BUS15 : FieldRef := ⟨0x3200050, 8, 8⟩
def MFE_PROT_BUS142 : FieldRef := ⟨0x3200050, 7, 7⟩
def MFE_PROT_CHOP_SHORT : FieldRef := ⟨0x3200050, 6, 6⟩
def MFE_PROT_CHOP_OPEN : FieldRef := ⟨0x3200050, 5, 5⟩
def MFE_PROT_VCM1 : FieldRef := ⟨0x3200050, 4, 4⟩
def MFE_PROT_VCM0 : FieldRef := ⟨0x3200050, 3, 3⟩
def MFE_PROT_OPEN : FieldRef := ⟨0x3200050, 2, 2⟩
def MFE_PROT_SHORT : FieldRef := ⟨0x3200050, 1, 1⟩
def CXC_LINK_LTSSM : FieldRef := ⟨0x4000000, 21, 16⟩
def CXC_LINK_UP : FieldRef := ⟨0x4000000, 12, 12⟩
def CXC_LINK_MEM : FieldRef := ⟨0x4000000, 11, 11⟩
def CXC_LINK_CACHE : FieldRef := ⟨0x4000000, 10, 10⟩
def CXC_LINK_CXL : FieldRef := ⟨0x4000000, 9, 9⟩
def CXC_LINK_WIDTH : FieldRef := ⟨0x4000000, 7, 4⟩
def CXC_LINK_RATE : FieldRef := ⟨0x4000000, 3, 0⟩
def CXC_LINKCAP_CRC_TH : FieldRef := ⟨0x4000004, 31, 16⟩
def CXC_LINKCAP_MAXWIDTH : FieldRef := ⟨0x4000004, 7, 4⟩
def CXC_LINKCAP_MAXRATE : FieldRef := ⟨0x4000004, 3, 0⟩
def CXC_HDM_LOCKED : FieldRef := ⟨0x4000010, 18, 18⟩
def CXC_HDM_ERROR : FieldRef := ⟨0x4000010, 17, 17⟩
def CXC_HDM_COMMITTED : FieldRef := ⟨0x4000010, 16, 16⟩
def CXC_HDM_SIZE : FieldRef := ⟨0x4000010, 6, 0⟩
def CXC_HDMBASE_BASE : FieldRef := ⟨0x4000014, 23, 0⟩
def CXC_IDE_FAILED : FieldRef := ⟨0x4000020, 8, 8⟩
def CXC_IDE_CM_MODE : FieldRef := ⟨0x4000020, 4, 4⟩
def CXC_IDE_CM_SECURE : FieldRef := ⟨0x4000020, 1, 1⟩
def CXC_IDE_IO_SECURE : FieldRef := ⟨0x4000020, 0, 0⟩
def CXC_ERRCNT_REPLAY : FieldRef := ⟨0x4000030, 31, 16⟩
def CXC_ERRCNT_CRCRETRY : FieldRef := ⟨0x4000030, 15, 0⟩
def ETH_CFG_FEC : FieldRef := ⟨0x4200000, 3, 2⟩
def ETH_CFG_MODE : FieldRef := ⟨0x4200000, 1, 0⟩
def ETH_STATUS_MODPRES : FieldRef := ⟨0x4200004, 3, 3⟩
def ETH_STATUS_REFOK : FieldRef := ⟨0x4200004, 2, 2⟩
def ETH_STATUS_LOCK : FieldRef := ⟨0x4200004, 1, 1⟩
def ETH_STATUS_UP : FieldRef := ⟨0x4200004, 0, 0⟩
def ETH_FECCNT_UNCORR : FieldRef := ⟨0x4200010, 31, 16⟩
def ETH_FECCNT_CORR : FieldRef := ⟨0x4200010, 15, 0⟩
def MIG_STATUS_INFLIGHT : FieldRef := ⟨0x4400000, 19, 16⟩
def MIG_STATUS_RXSESS : FieldRef := ⟨0x4400000, 10, 8⟩
def MIG_STATUS_TX : FieldRef := ⟨0x4400000, 2, 0⟩
def MIG_CNT_RETX : FieldRef := ⟨0x4400010, 31, 16⟩
def MIG_CNT_AUTHFAIL : FieldRef := ⟨0x4400010, 15, 0⟩
def CAN_STATUS_TID : FieldRef := ⟨0x4600000, 23, 16⟩
def CAN_STATUS_SESSION : FieldRef := ⟨0x4600000, 11, 11⟩
def CAN_STATUS_BEACON : FieldRef := ⟨0x4600000, 10, 10⟩
def CAN_STATUS_STATE : FieldRef := ⟨0x4600000, 9, 8⟩
def CAN_STATUS_NODE : FieldRef := ⟨0x4600000, 6, 0⟩
def CAN_CFG_EVTH : FieldRef := ⟨0x4600004, 10, 8⟩
def CAN_CFG_GDPRO : FieldRef := ⟨0x4600004, 5, 5⟩
def CAN_CFG_BRS : FieldRef := ⟨0x4600004, 4, 4⟩
def CAN_CFG_DRATE : FieldRef := ⟨0x4600004, 2, 0⟩
def CAN_ERR_TDC : FieldRef := ⟨0x4600008, 21, 16⟩
def CAN_ERR_REC : FieldRef := ⟨0x4600008, 15, 8⟩
def CAN_ERR_TEC : FieldRef := ⟨0x4600008, 7, 0⟩
def CAN_CNT_ERRFRM : FieldRef := ⟨0x4600010, 31, 16⟩
def CAN_CNT_BUSOFF : FieldRef := ⟨0x4600010, 15, 0⟩
def KEY_STATUS_PAIRED : FieldRef := ⟨0x4800000, 23, 8⟩
def KEY_STATUS_IDE : FieldRef := ⟨0x4800000, 7, 4⟩
def KEY_STATUS_ROOT_GATED : FieldRef := ⟨0x4800000, 3, 3⟩
def KEY_STATUS_ZEROISED : FieldRef := ⟨0x4800000, 2, 2⟩
def KEY_STATUS_RNG_OK : FieldRef := ⟨0x4800000, 1, 1⟩
def KEY_STATUS_READY : FieldRef := ⟨0x4800000, 0, 0⟩
def KEY_RNG_FAILS : FieldRef := ⟨0x4800004, 15, 0⟩

end Sys2Proof.Machine.Fld
end

