-- ==== Sys2Proof/Machine/Sha.lean ====
section
/-!
DEFINITION. SHA-256 and HMAC-SHA-256, which the spec names by their standards (FIPS 180-4, RFC 2104; assumption log 12).
-/
namespace Sys2Proof.Machine
open Sys2Proof

/-- The largest number whose `d`-th power is at most `n`, found bit by bit below `2 ^ bits` on top of `r`. -/
def floorRoot (bits d n r : Nat) : Nat :=
  match bits with
  | 0 => r
  | b + 1 => floorRoot b d n (if (r + 2 ^ b) ^ d ≤ n then r + 2 ^ b else r)

/-- The first 64 primes. -/
def shaPrimes : List Nat := (List.range 312).filter (fun n => n ≥ 2 && (List.range 18).all (fun d => d < 2 || n ≤ d || n % d != 0))

/-- The first 32 bits of the fraction of the `d`-th root of `p`, from which the standard takes its constants. -/
def rootFraction (d p : Nat) : BitVec 32 := BitVec.ofNat 32 (floorRoot 37 d (p * 2 ^ (32 * d)) 0)

/-- The round constants: cube roots of the first 64 primes. -/
def shaK : List (BitVec 32) := shaPrimes.map (rootFraction 3)

/-- The initial digest: square roots of the first 8 primes. -/
def shaH0 : List (BitVec 32) := (shaPrimes.take 8).map (rootFraction 2)

/-- Bytes as a big-endian number. -/
def beNat (bs : List Byte) : Nat := bs.foldl (fun a b => 256 * a + b.toNat) 0

/-- `n` bytes of `v`, most significant first. -/
def beBytes (n v : Nat) : List Byte := (leBytes n v).reverse

/-- The padded message: one bit, zeros, the length in bits. -/
def shaPad (m : List Byte) : List Byte :=
  let l := m.length
  m ++ [0x80] ++ zeros ((119 - l % 64) % 64) ++ beBytes 8 (8 * l)

/-- The message schedule, newest word first, extended by `n` words. -/
def shaSchedule (n : Nat) (w : List (BitVec 32)) : List (BitVec 32) :=
  match n with
  | 0 => w
  | k + 1 =>
    let a := w.getD 14 0
    let b := w.getD 1 0
    let s0 := a.rotateRight 7 ^^^ a.rotateRight 18 ^^^ (a >>> 3)
    let s1 := b.rotateRight 17 ^^^ b.rotateRight 19 ^^^ (b >>> 10)
    shaSchedule k ((s1 + w.getD 6 0 + s0 + w.getD 15 0) :: w)

/-- One round over the eight working words. -/
def shaRound (v : List (BitVec 32)) (kw : BitVec 32 × BitVec 32) : List (BitVec 32) :=
  let a := v.getD 0 0
  let b := v.getD 1 0
  let c := v.getD 2 0
  let e := v.getD 4 0
  let f := v.getD 5 0
  let g := v.getD 6 0
  let s1 := e.rotateRight 6 ^^^ e.rotateRight 11 ^^^ e.rotateRight 25
  let ch := (e &&& f) ^^^ ((~~~e) &&& g)
  let t1 := v.getD 7 0 + s1 + ch + kw.1 + kw.2
  let s0 := a.rotateRight 2 ^^^ a.rotateRight 13 ^^^ a.rotateRight 22
  let mj := (a &&& b) ^^^ (a &&& c) ^^^ (b &&& c)
  [t1 + s0 + mj, a, b, c, v.getD 3 0 + t1, e, f, g]

/-- One block of 64 bytes. -/
def shaBlock (h : List (BitVec 32)) (blk : List Byte) : List (BitVec 32) :=
  let w0 := ((List.range 16).map (fun i => BitVec.ofNat 32 (beNat (slice blk (4 * i) 4)))).reverse
  let w := (shaSchedule 48 w0).reverse
  List.zipWith (· + ·) h ((shaK.zip w).foldl shaRound h)

/-- SHA-256 of a message, 32 bytes. -/
def sha256 (m : List Byte) : List Byte :=
  let p := shaPad m
  let h := (List.range (p.length / 64)).foldl (fun h i => shaBlock h (slice p (64 * i) 64)) shaH0
  h.flatMap (fun w => beBytes 4 w.toNat)

/-- HMAC-SHA-256 with a key of at most 64 bytes. -/
def hmac256 (key msg : List Byte) : List Byte :=
  let k := key ++ zeros (64 - key.length)
  let x (c : Byte) := k.map (fun b => b ^^^ c)
  sha256 (x 0x5C ++ sha256 (x 0x36 ++ msg))

end Sys2Proof.Machine
end

