-- ==== Sys2Proof/Machine/Codec.lean ====
section
/-!
DEFINITION. The bits on the track: physical sector addresses, sector framing, the scrambler, the two LDPC codes and the
track stripe code (R112 to R132). Bit strings are numbers, bit 0 first on the track unless a rule says otherwise.
Choices: assumption log 8.
-/
namespace Sys2Proof.Machine
open Sys2Proof

-- ---------------------------------------------------------------------------------------------------------------
-- Physical sector addresses (R112, R44)

def psaOf (surface track sector : Nat) : Nat := 2 ^ 35 * surface + 2 ^ 12 * track + sector
def psaSurface (p : Nat) : Nat := bitsOf p 39 35
def psaTrack (p : Nat) : Nat := bitsOf p 34 12
def psaSector (p : Nat) : Nat := bitsOf p 11 0
/-- The actuator that carries a head (R44). -/
def actuatorOf (head : Nat) : Nat := if head < 12 then 0 else 1
/-- The heads that carry surfaces on a drive of `n` surfaces (R112). -/
def headsOf (n : Nat) : List Nat := List.range ((n + 1) / 2) ++ (List.range (n / 2)).map (· + 12)
/-- The first sector of the stripe that holds `p`, and the position of `p` within it (R126). -/
def stripeOf (p : Nat) : Nat := p - psaSector p % 32
def stripePos (p : Nat) : Nat := psaSector p % 32

-- ---------------------------------------------------------------------------------------------------------------
-- Scrambler (R120, R135)

/-- The seed of a data sector (R120). -/
def scramblerSeed (psa : Nat) : Nat :=
  let s := (psa % 2 ^ 31) ^^^ bitsOf psa 39 31
  if s = 0 then 0x7FFFFFFF else s

/-- The seed of an Ivory codeword (R135). -/
def ivorySeed (surface slot wedge : Nat) : Nat := 0x2D000000 + 0x10000 * surface + 0x200 * slot + wedge

/-- `n` output bits of the register from state `s`, the first one in bit 0. -/
def scramblerBits (n s : Nat) : Nat :=
  match n with
  | 0 => 0
  | k + 1 =>
    let b := (s / 2 ^ 30 + s / 2 ^ 27) % 2
    b + 2 * scramblerBits k (2 * s % 2 ^ 31 + b)

/-- A codeword as it is written, or as it was before (R120). -/
def scramble (bits seed word : Nat) : Nat := word ^^^ scramblerBits bits seed

-- ---------------------------------------------------------------------------------------------------------------
-- LDPC codes (R121 to R125)

/-- The numbers that fix a code (R125). -/
structure Ldpc where
  z : Nat
  m : Nat
  n : Nat
  wc : Nat
  seed : Nat
  deriving DecidableEq, Repr

def dataCode : Ldpc := ⟨384, 9, 95, 3, 0x4D7A1C05⟩
def ivoryCode : Ldpc := ⟨384, 11, 22, 3, 0x6A1D0B05⟩
def Ldpc.k (c : Ldpc) : Nat := c.n - c.m
def Ldpc.infoBits (c : Ldpc) : Nat := c.k * c.z
def Ldpc.codeBits (c : Ldpc) : Nat := c.n * c.z

def lcg (x : Nat) : Nat := (1103515245 * x + 12345) % 2 ^ 32

/-- Draw rows until `want` different ones are found (R122); the state of the generator and the rows in the order drawn. -/
def drawRows (fuel m want x : Nat) (rows : List Nat) : Nat × List Nat :=
  match fuel with
  | 0 => (x, rows)
  | f + 1 =>
    if rows.length ≥ want then (x, rows)
    else
      let x1 := lcg x
      let r := x1 / 2 ^ 16 % m
      drawRows f m want x1 (if rows.contains r then rows else rows ++ [r])

/-- The shifts of the rows drawn for one column (R122). -/
def drawShifts (z x : Nat) (rows : List Nat) : Nat × List (Nat × Nat) :=
  match rows with
  | [] => (x, [])
  | r :: t =>
    let x1 := lcg x
    let (x2, l) := drawShifts z x1 t
    (x2, (r, x1 / 2 ^ 16 % z) :: l)

/-- The non-zero blocks of the information part, column by column: (row, shift) pairs (R122). -/
def infoColumns (c : Ldpc) (cols x : Nat) : List (List (Nat × Nat)) :=
  match cols with
  | 0 => []
  | j + 1 =>
    let (x1, rows) := drawRows 256 c.m c.wc x []
    let (x2, col) := drawShifts c.z x1 rows
    col :: infoColumns c j x2

/-- The non-zero blocks of the parity part, column by column (R123). -/
def parityColumns (c : Ldpc) : List (List (Nat × Nat)) :=
  [(0, 1), (c.m / 2, 0), (c.m - 1, 1)] :: (List.range (c.m - 1)).map (fun j => [(j, 0), (j + 1, 0)])

/-- rot(v, s)[i] = v[(i + s) mod Z] (R124). -/
def rot (z v s : Nat) : Nat := v / 2 ^ s + v % 2 ^ s * 2 ^ (z - s)

/-- Block `i` of a bit string. -/
def block (z v i : Nat) : Nat := v / 2 ^ (z * i) % 2 ^ z

/-- Row r of H times a word, for all rows: the syndrome blocks (R121). -/
def syndromeRow (c : Ldpc) (cols : List (List (Nat × Nat))) (word r : Nat) : Nat :=
  (cols.foldl (fun (acc : Nat × Nat) col =>
    (col.foldl (fun a p => if p.1 = r then a ^^^ rot c.z (block c.z word acc.2) p.2 else a) acc.1, acc.2 + 1)) (0, 0)).1

/-- The syndrome of a word: M blocks. -/
def syndrome (c : Ldpc) (word : Nat) : List Nat :=
  let cols := infoColumns c c.k c.seed ++ parityColumns c
  (List.range c.m).map (fun r => syndromeRow c cols word r)

/-- Whether a word is a codeword (R207). -/
def isCodeword (c : Ldpc) (word : Nat) : Bool := (syndrome c word).all (· == 0)

/-- Parity checks that fail (R228). -/
def syndromeWeight (c : Ldpc) (word : Nat) : Nat := (syndrome c word).foldl (fun a b => a + popCount c.z b) 0

/-- Parity blocks from p[r] on (R124). -/
def parityTail (m : Nat) (lam : List Nat) (p0 : Nat) (fuel r p : Nat) : List Nat :=
  match fuel with
  | 0 => []
  | f + 1 =>
    let q := (lam.getD r 0) ^^^ p ^^^ (if r = m / 2 then p0 else 0)
    q :: parityTail m lam p0 f (r + 1) q

/-- Join blocks into a bit string, the first lowest. -/
def joinBlocks (z : Nat) (l : List Nat) : Nat := l.foldr (fun b a => b + 2 ^ z * a) 0

/-- The codeword of an information word (R124). -/
def ldpcEncode (c : Ldpc) (info : Nat) : Nat :=
  let cols := infoColumns c c.k c.seed
  let lam := (List.range c.m).map (fun r => syndromeRow c cols info r)
  let p0 := lam.foldl (fun a b => a ^^^ b) 0
  let p1 := (lam.getD 0 0) ^^^ rot c.z p0 1
  info + 2 ^ c.infoBits * joinBlocks c.z (p0 :: p1 :: parityTail c.m lam p0 (c.m - 2) 1 p1)

-- ---------------------------------------------------------------------------------------------------------------
-- The data sector (R113, R115 to R118)

/-- The sync mark, bit 31 written first (R116). -/
def syncMark : Nat := 0x9D2B3C47

/-- `n` bits of `v` in reverse order. -/
def reverseBits (n v : Nat) : Nat :=
  match n with
  | 0 => 0
  | k + 1 => v / 2 ^ k % 2 + 2 * reverseBits k (v % 2 ^ k)

/-- `n` bits of the pattern 1100 repeated, the first written in bit 0. -/
def pattern1100 (n : Nat) : Nat := (2 ^ n - 1) / 15 * 3

/-- The 36,672 channel bits of a data sector: preamble, mark, scrambled codeword, pad (R116). -/
def sectorBits (psa : Nat) (info : List Byte) : Nat :=
  pattern1100 128 + 2 ^ 128 * (reverseBits 32 syncMark
    + 2 ^ 32 * (scramble 36480 (scramblerSeed psa) (ldpcEncode dataCode (leNat (slice info 0 4128)))
      + 2 ^ 36480 * pattern1100 32))

/-- A resync field: RESYNC bits of the pattern, then the mark (R118). -/
def resyncBits (resync : Nat) : Nat := pattern1100 resync + 2 ^ resync * reverseBits 32 syncMark

/-- The channel bits of an Ivory sector (R134). -/
def ivoryBits (surface slot wedge : Nat) (info : List Byte) : Nat :=
  pattern1100 512 + 2 ^ 512 * (reverseBits 32 syncMark
    + 2 ^ 32 * (scramble 8448 (ivorySeed surface slot wedge) (ldpcEncode ivoryCode (leNat (slice info 0 528)))
      + 2 ^ 8448 * pattern1100 32))

-- ---------------------------------------------------------------------------------------------------------------
-- Track stripes (R126 to R129)

/-- Doubling in GF(2^16) with polynomial 0x1100B (R127). -/
def gfDouble (v : Nat) : Nat := if v ≥ 0x8000 then (2 * v) ^^^ 0x1100B else 2 * v

/-- α^i × v. -/
def gfShift (i v : Nat) : Nat :=
  match i with
  | 0 => v
  | k + 1 => gfShift k (gfDouble v)

/-- Product in GF(2^16), over the low `n` bits of `b`. -/
def gfMulAux (n a b : Nat) : Nat :=
  match n with
  | 0 => 0
  | k + 1 => (if b % 2 = 1 then a else 0) ^^^ gfMulAux k (gfDouble a) (b / 2)
def gfMul (a b : Nat) : Nat := gfMulAux 16 a b

/-- `a` to the power 2^16 − 2: its inverse. -/
def gfInvAux (n a acc : Nat) : Nat :=
  match n with
  | 0 => acc
  | k + 1 =>
    let s := gfMul a a
    gfInvAux k s (gfMul acc s)
def gfInv (a : Nat) : Nat := gfInvAux 15 a 1

/-- Symbols of an information block (R127). -/
def blockSymbols (info : List Byte) : List Nat := (List.range 2064).map (fun k => numAt info (2 * k) 2)
/-- The bytes of symbols. -/
def symbolBytes (l : List Nat) : List Byte := l.flatMap (fun v => leBytes 2 v)

/-- S0 and S1 of R129 for one symbol position: sums over the positions given. -/
def stripeSums (l : List (Nat × Nat)) : Nat × Nat :=
  l.foldl (fun (a : Nat × Nat) p => (a.1 ^^^ p.2, a.2 ^^^ gfShift p.1 p.2)) (0, 0)

/-- The symbols of one erased position `a` or two, `a` and `b`, from the sums (R129). -/
def stripeSolve (a : Nat) (b : Option Nat) (sums : Nat × Nat) : Nat × Nat :=
  match b with
  | none => (sums.1, 0)
  | some b =>
    let ca := gfMul (sums.2 ^^^ gfShift b sums.1) (gfInv (gfShift a 1 ^^^ gfShift b 1))
    (ca, sums.1 ^^^ ca)

/-- Rebuild the erased positions of a stripe from the others, each given with its position (R129). -/
def stripeRebuild (present : List (Nat × List Byte)) (a : Nat) (b : Option Nat) : List Byte × List Byte :=
  let syms := present.map (fun p => (p.1, blockSymbols p.2))
  let out := (List.range 2064).map (fun k => stripeSolve a b (stripeSums (syms.map (fun p => (p.1, p.2.getD k 0)))))
  (symbolBytes (out.map (·.1)), symbolBytes (out.map (·.2)))

/-- The two parity blocks of a stripe from its 30 data blocks (R129). -/
def stripeParity (data : List (List Byte)) : List Byte × List Byte :=
  stripeRebuild ((List.range 30).map (fun i => (i, data.getD i (zeros 4128)))) 30 (some 31)

end Sys2Proof.Machine
end

