-- ==== Sys2Proof/Machine/Detector.lean ====
section
/-!
DEFINITION. From samples to a codeword: equaliser, detector with noise prediction, min-sum decoder, adaptation, SNR, combining of
revolutions (R179, R180, R183, R198 to R207, R226, R228). Lists of LLRs run over the bits of a codeword, first bit first; a positive
LLR favours a 1.
Choices: assumption log 71, 72.
-/
namespace Sys2Proof.Machine
open Sys2Proof

-- ---------------------------------------------------------------------------------------------------------------
-- Numbers

/-- A value held to ±`m`. -/
def clampTo (m : Nat) (x : Int) : Int := max (-(m : Int)) (min (m : Int) x)

/-- Sum of products of two lists. -/
def dot (a b : List Int) : Int :=
  match a, b with
  | x :: s, y :: t => x * y + dot s t
  | _, _ => 0

/-- Sums of two lists; the shorter one goes on with zeros. -/
def addLists (a b : List Int) : List Int :=
  match a, b with
  | x :: s, y :: t => (x + y) :: addLists s t
  | [], l => l
  | l, [] => l

/-- The greatest n below 2^16 with 10^(n / 1000) at most num / den: a power ratio in 0.01 dB (R204). -/
def ratioCb (num den : Nat) : Nat :=
  ((List.range 16).reverse).foldl (fun n i => if 10 ^ (n + 2 ^ i) * den ^ 1000 ≤ num ^ 1000 then n + 2 ^ i else n) 0

/-- The power ratio of `n` in 0.01 dB, in 1/256, rounded down (R226). -/
def linearOf (n : Nat) : Nat :=
  ((List.range 32).reverse).foldl (fun x i => if (x + 2 ^ i) ^ 1000 ≤ 256 ^ 1000 * 10 ^ n then x + 2 ^ i else x) 0

-- ---------------------------------------------------------------------------------------------------------------
-- Mark search (R179 to R181, R187)

/-- The 32 terms m_j of the sync mark: +1 for a 1, −1 for a 0, first written first (R179). -/
def markTerms : List Int := (List.range 32).map (fun j => if bitOf syncMark (31 - j) then 1 else -1)

/-- M(p) for the first `n` mark starts of a list of tentative soft values (R179). -/
def markMetrics (n : Nat) (y : List Int) : List Int :=
  match n with
  | 0 => []
  | m + 1 => if y.length < 32 then [] else dot markTerms ((y.take 32).map (clampTo 15)) :: markMetrics m y.tail

/-- A mark candidate (R180): offset, metric, and the result of its decode as CHN_CANDk encodes it. -/
structure Cand where
  offset : Int
  metric : Nat
  result : Nat
  deriving DecidableEq, Repr

/-- Candidates of R180 among metrics from position `p` on; `prev` is the metric before. Positions outside the window have a metric below
every other one, so that the window's ends can be candidates (DESIGN CHOICE, log 73). -/
def markPeaks (thresh : Nat) (l : List Int) (p prev : Int) : List Cand :=
  match l with
  | [] => []
  | m :: t =>
    let next := t.headD (-481)
    let rest := markPeaks thresh t (p + 1) m
    if m ≥ thresh && m ≥ prev && m > next then ⟨p, m.toNat, 0⟩ :: rest else rest

/-- One candidate ranks before another: higher metric, then smaller |p|, then earlier (R180). -/
def Cand.before (a b : Cand) : Bool :=
  a.metric > b.metric || (a.metric == b.metric && (a.offset.natAbs < b.offset.natAbs
    || (a.offset.natAbs == b.offset.natAbs && a.offset < b.offset)))

def insertCand (l : List Cand) (c : Cand) : List Cand :=
  match l with
  | [] => [c]
  | x :: t => if c.before x then c :: x :: t else x :: insertCand t c

/-- The four candidates with the highest metric, in rank order (R180). -/
def rankCands (l : List Cand) : List Cand := (l.foldl insertCand []).take 4

/-- A candidate is alike to the best (R183). -/
def alike (margin : Nat) (l : List Cand) (c : Cand) : Bool := c.metric + margin ≥ (l.headD ⟨0, 0, 0⟩).metric

/-- The ranked candidates of a window of half-width `w`, of which `skip` positions at the late end are not searched. -/
def searchMark (thresh w skip : Nat) (y : List Int) : List Cand :=
  rankCands (markPeaks thresh (markMetrics (2 * w + 1 - skip) y) (-(w : Int)) (-481))

-- ---------------------------------------------------------------------------------------------------------------
-- Equaliser (R198)

/-- The 16 samples x(k + 7 − i), i from 0, that the taps weigh at each bit k: tap 7 weighs the sample of the bit itself. -/
def slide (n : Nat) (x : List Int) : List (List Int) :=
  match n with
  | 0 => []
  | m + 1 => (x.take 16).reverse :: slide m x.tail

def tapWindows (x : List Int) : List (List Int) :=
  slide x.length (List.replicate 8 0 ++ x ++ List.replicate 7 0)

def joinWindows (a b : List (List Int)) : List (List Int) :=
  match a, b with
  | x :: s, y :: t => (x ++ y) :: joinWindows s t
  | _, _ => []

/-- The 48 samples that the three filters weigh at each bit of a piece, given as the samples of readers A, B and C. -/
def pieceWindows (rows : List (List Int)) : List (List Int) :=
  joinWindows (joinWindows (tapWindows (rows.getD 0 [])) (tapWindows (rows.getD 1 []))) (tapWindows (rows.getD 2 []))

/-- z in 2^−9 (R198). -/
def equalise (taps : List Int) (ws : List (List Int)) : List Int := ws.map (dot taps)

-- ---------------------------------------------------------------------------------------------------------------
-- Detector (R199, R201)

/-- Target g0 to g4 and the 8 predictor sets of 2 taps, with 13 fraction bits. -/
structure Target where
  g : List Int
  preds : List Int
  deriving DecidableEq, Repr

/-- A bit as the level written. -/
def level (b : Nat) : Int := if b = 0 then -1 else 1

/-- z less what the target makes of bit `b` after the four bits of state `st`, the latest in bit 0; in 2^−13. -/
def targetError (t : Target) (z : Int) (st b : Nat) : Int :=
  16 * z - dot t.g [level b, level (st % 2), level (st / 2 % 2), level (st / 4 % 2), level (st / 8 % 2)]

/-- The noise that the set of the three latest bits predicts from the two errors before (R201). -/
def predicted (t : Target) (st b : Nat) (e1 e2 : Int) : Int :=
  let j := b + 2 * (st % 4)
  (t.preds.getD (2 * j) 0 * e1 + t.preds.getD (2 * j + 1) 0 * e2) / 8192

/-- A survivor: metric and its last two errors. -/
structure Path where
  metric : Int
  e1 : Int
  e2 : Int
  deriving DecidableEq, Repr

/-- A branch: its own metric, and the survivor it extends to. -/
def branch (t : Target) (alpha : List Path) (z la : Int) (st b : Nat) : Int × Path :=
  let p := alpha.getD st ⟨0, 0, 0⟩
  let e := targetError t z st b
  let d := e - predicted t st b p.e1 p.e2
  let gm := (if b = 1 then Config.llrUnit * la else 0) - d * d
  (gm, ⟨p.metric + gm, e, p.e1⟩)

/-- The survivor into a state: the better of its two branches. -/
def survivor (t : Target) (alpha : List Path) (z la : Int) (st : Nat) : Path :=
  let x := (branch t alpha z la (st / 2) (st % 2)).2
  let y := (branch t alpha z la (st / 2 + 8) (st % 2)).2
  if y.metric > x.metric then y else x

def maxOf (l : List Int) : Int := l.tail.foldl max (l.headD 0)

/-- Max-log-MAP over (z, a-priori LLR) pairs from survivors `alpha`: the extrinsic LLRs, and the backward metrics at the start (R201). -/
def siso (t : Target) (alpha : List Path) (l : List (Int × Int)) : List Int × List Int :=
  match l with
  | [] => ([], List.replicate 16 0)
  | (z, la) :: rest =>
    let r := siso t ((List.range 16).map (survivor t alpha z la)) rest
    let beta (st b : Nat) : Int := r.2.getD ((2 * st + b) % 16) 0
    let back := (List.range 16).map (fun st =>
      max ((branch t alpha z la st 0).1 + beta st 0) ((branch t alpha z la st 1).1 + beta st 1))
    let best (b : Nat) : Int := maxOf ((List.range 16).map (fun st => (branch t alpha z la st b).2.metric + beta st b))
    (clampTo 31 ((best 1 - best 0) / Config.llrUnit - la) :: r.1, back)

def pairUp (z la : List Int) : List (Int × Int) :=
  match z, la with
  | [], _ => []
  | x :: s, [] => (x, 0) :: pairUp s []
  | x :: s, y :: t => (x, y) :: pairUp s t

/-- One detector pass over the parts of a codeword between servo fields, with a-priori LLRs. -/
def detectPass (t : Target) (parts : List (List Int)) (la : List Int) : List Int :=
  match parts with
  | [] => []
  | z :: rest => (siso t (List.replicate 16 ⟨0, 0, 0⟩) (pairUp z la)).1 ++ detectPass t rest (la.drop z.length)

-- ---------------------------------------------------------------------------------------------------------------
-- Decoder (R205 to R207)

/-- LLRs with the sign turned where the scrambler bit is 1 (R120). -/
def turnSigns (bits : Nat) (l : List Int) : List Int :=
  match l with
  | [] => []
  | x :: t => (if bits % 2 = 1 then -x else x) :: turnSigns (bits / 2) t

/-- The hard decision: 1 for a positive LLR. -/
def hardBits (l : List Int) : Nat :=
  match l with
  | [] => 0
  | x :: t => (if x > 0 then 1 else 0) + 2 * hardBits t

/-- rot of R124 on a list. -/
def rotList (s : Nat) (l : List Int) : List Int := l.drop s ++ l.take s

/-- The two least magnitudes of a check and whether an odd number of its inputs favour a 1. -/
structure Check where
  m1 : Nat
  m2 : Nat
  odd : Bool
  deriving DecidableEq, Repr

def Check.join (c : Check) (q : Int) : Check :=
  let a := q.natAbs
  ⟨min c.m1 a, if a < c.m1 then c.m1 else min c.m2 a, c.odd != decide (q > 0)⟩

def joinChecks (cs : List Check) (qs : List Int) : List Check :=
  match cs, qs with
  | c :: s, q :: t => c.join q :: joinChecks s t
  | [], q :: t => (Check.mk 31 31 false).join q :: joinChecks [] t
  | l, [] => l

/-- The message of a check to one of its inputs, scaled by SCALE / 16, rounded down (R205). -/
def checkMessage (scale : Nat) (c : Check) (q : Int) : Int :=
  let m : Int := ((if q.natAbs = c.m1 then c.m2 else c.m1) * scale / 16 : Nat)
  clampTo 31 (if c.odd != decide (q > 0) then m else -m)

def checkMessages (scale : Nat) (cs : List Check) (qs : List Int) : List Int :=
  match cs, qs with
  | c :: s, q :: t => checkMessage scale c q :: checkMessages scale s t
  | _, _ => []

/-- What the decoder holds: the LLR blocks of the columns, and the check messages by row and column. -/
structure MinSum where
  post : List (List Int)
  msgs : List (List (List Int))
  iters : Nat                 -- local iterations begun
  ok : Bool                   -- the syndrome is zero
  deriving DecidableEq, Repr

/-- The blocks of row r of H: column and shift. -/
def rowBlocks (c : Ldpc) (r : Nat) : List (Nat × Nat) :=
  let cols := infoColumns c c.k c.seed ++ parityColumns c
  (List.range c.n).flatMap (fun j => ((cols.getD j []).filter (fun p => p.1 == r)).map (fun p => (j, p.2)))

/-- One layer: every check of row r, then the syndrome (R205, R207). -/
def layer (c : Ldpc) (scale : Nat) (d : MinSum) (r : Nat) : MinSum :=
  if d.ok then d
  else
    let bs := rowBlocks c r
    let old := d.msgs.getD r []
    let wide := bs.mapIdx (fun i (p : Nat × Nat) => addLists (rotList p.2 (d.post.getD p.1 [])) ((old.getD i []).map (fun x => -x)))
    let qs := wide.map (fun l => l.map (clampTo 31))
    let cs := qs.foldl joinChecks []
    let new := qs.map (checkMessages scale cs)
    let post := (bs.mapIdx (fun i (p : Nat × Nat) => (p, addLists (wide.getD i []) (new.getD i [])))).foldl
      (fun (ps : List (List Int)) x => ps.set x.1.1 (rotList (c.z - x.1.2) x.2)) d.post
    { d with post := post, msgs := d.msgs.set r new, ok := isCodeword c (joinBlocks c.z (post.map hardBits)) }

/-- `n` local iterations, each over every layer (R205). -/
def localIterations (c : Ldpc) (scale n : Nat) (d : MinSum) : MinSum :=
  match n with
  | 0 => d
  | m + 1 => if d.ok then d else localIterations c scale m ((List.range c.m).foldl (layer c scale) { d with iters := d.iters + 1 })

/-- A list in `n` blocks of `z`. -/
def blocksOf (z n : Nat) (l : List Int) : List (List Int) := (List.range n).map (fun i => (l.drop (z * i)).take z)

/-- Local iterations of global iteration j of g with l local ones in all (R206). -/
def localShare (l g j : Nat) : Nat := l * (j + 1) / g - l * j / g

/-- A decode: what the decoder holds, and its extrinsic LLRs, descrambled. -/
structure Decode where
  ms : MinSum
  ext : List Int
  deriving DecidableEq, Repr

/-- What a detector and decoder work on: target, the parts of z, scrambler bits, scale, and the limits L and G. -/
structure Job0 where
  target : Target
  parts : List (List Int)
  bits : Nat
  scale : Nat
  l : Nat
  g : Nat
  deriving DecidableEq, Repr

/-- Global iteration j: a detector pass with the decoder's extrinsic LLRs as a-priori input, then its local iterations (R206). -/
def globalIteration (w : Job0) (d : Decode) (j : Nat) : Decode :=
  if d.ms.ok then d
  else
    let chan := turnSigns w.bits (detectPass w.target w.parts (turnSigns w.bits (d.ext.map (clampTo 31))))
    let start := { d.ms with post := blocksOf dataCode.z dataCode.n (addLists chan d.ext) }
    let ms := localIterations dataCode w.scale (localShare w.l w.g j) start
    ⟨ms, addLists ms.post.flatten (chan.map (fun x => -x))⟩

/-- A decode after `n` global iterations. -/
def decodeAfter (w : Job0) (n : Nat) : Decode :=
  (List.range n).foldl (globalIteration w) ⟨⟨[], List.replicate dataCode.m [], 0, false⟩, []⟩

/-- The decode at its limits or at a zero syndrome (R206, R207). -/
def Job0.run (w : Job0) : MinSum := (decodeAfter w w.g).ms

/-- The hard decision of a decode. -/
def MinSum.word (d : MinSum) : Nat := joinBlocks dataCode.z (d.post.map hardBits)

/-- The parity checks that fail on the hard decision of one detector pass (R228). -/
def Job0.weight (w : Job0) : Nat :=
  syndromeWeight dataCode (hardBits (turnSigns w.bits (detectPass w.target w.parts [])))

-- ---------------------------------------------------------------------------------------------------------------
-- Adaptation and SNR (R203, R204)

/-- The levels of the `n` channel bits of a confirmed codeword. -/
def levels (n bits : Nat) : List Int :=
  match n with
  | 0 => []
  | m + 1 => level (bits % 2) :: levels m (bits / 2)

/-- The equaliser taps, the target and the last four levels and two errors as adaptation goes over a codeword. -/
structure Lms where
  taps : List Int
  target : Target
  past : List Int
  e1 : Int
  e2 : Int
  deriving DecidableEq, Repr

/-- Move each of `v` by `d` times its input, shifted right, held to ±`m`. -/
def lmsMove (m sh : Nat) (d : Int) (v x : List Int) : List Int :=
  match v, x with
  | a :: s, b :: t => clampTo m (a + d * b / 2 ^ sh) :: lmsMove m sh d s t
  | l, _ => l

/-- One LMS step on a bit: its 48 samples and its level (R203). Equaliser taps step by MU_EQ, target taps and predictors by MU_TGT. -/
def lmsStep (muEq muTgt : Nat) (s : Lms) (x : List Int) (a : Int) : Lms :=
  let av := a :: s.past
  let e := 16 * dot s.taps x - dot s.target.g av
  let bit (y : Int) : Nat := if y > 0 then 1 else 0
  let j := bit a + 2 * bit (av.getD 1 (-1)) + 4 * bit (av.getD 2 (-1))
  let d := e - (s.target.preds.getD (2 * j) 0 * s.e1 + s.target.preds.getD (2 * j + 1) 0 * s.e2) / 8192
  let free := lmsMove 32767 muTgt e (s.target.g.drop 1) (av.drop 1)
  let preds := (s.target.preds.set (2 * j) ((lmsMove 32767 (muTgt + 13) d [s.target.preds.getD (2 * j) 0] [s.e1]).headD 0)).set (2 * j + 1)
    ((lmsMove 32767 (muTgt + 13) d [s.target.preds.getD (2 * j + 1) 0] [s.e2]).headD 0)
  { taps := lmsMove 2047 muEq (-e / 16) s.taps x, target := ⟨s.target.g.headD 0 :: free, preds⟩, past := av.take 4, e1 := e, e2 := s.e1 }

def lmsRun (muEq muTgt : Nat) (s : Lms) (ws : List (List Int)) (as : List Int) : Lms :=
  match ws, as with
  | x :: t, a :: u => lmsRun muEq muTgt (lmsStep muEq muTgt s x a) t u
  | _, _ => s

/-- Σ of the squared errors of z against the target over a confirmed codeword, in 2^−26 (R204). -/
def squaredError (g : List Int) (z as past : List Int) : Nat :=
  match z, as with
  | x :: s, a :: t =>
    let av := a :: past
    (16 * x - dot g av).natAbs ^ 2 + squaredError g s t (av.take 4)
  | _, _ => 0

/-- The SNR estimate in 0.01 dB of `n` bits with squared errors `e` (R204); none where the quotient has no value. -/
def snrOf (g : List Int) (n e : Nat) : Option Nat :=
  if e = 0 then none else some (ratioCb (((dot g g).natAbs) * n) e)

-- ---------------------------------------------------------------------------------------------------------------
-- Combining (R226)

/-- The shift within ±w that gives a reader the greatest correlation with a reference over `n` bits, from index `o` of the reference
and index `q` of the reader; the earliest among equals. -/
def bestShift (w n : Nat) (o q : Int) (ref x : List Int) : Int :=
  let corr (d : Int) : Int := dot ((ref.drop o.toNat).take n) ((x.drop (q + d).toNat).take n)
  ((List.range (2 * w + 1)).map (fun (i : Nat) => (i : Int) - w)).foldl (fun b d => if corr d > corr b then d else b) (-(w : Int))

/-- A reader's samples moved by `d`. -/
def moveBy (d : Int) (x : List Int) : List Int := if d ≥ 0 then x.drop d.toNat else List.replicate d.natAbs 0 ++ x

/-- The weighted mean of samples, each list with its weight, bit by bit over the length of the first. -/
def weightedMean (l : List (Nat × List Int)) : List Int :=
  let total : Nat := l.foldl (fun a p => a + p.1) 0
  let sum := l.foldl (fun acc p => addLists acc (p.2.map (fun v => (p.1 : Int) * v))) []
  (sum.take ((l.head?.map (fun p => p.2.length)).getD 0)).map (fun v => v / total)

end Sys2Proof.Machine
end

