-- ==== Sys2Proof/Machine/DictTable.lean ====
section
/-!
DEFINITION. Every dictionary entry of the spec (R567 to R579 and the entry tables of each chapter): index, subindex,
type, access right, default, range, size, and the register field it drives. Defaults that depend on the grade or on a
source table, and sections of 0x4100 + L, are in Machine/Ops.lean (`dictDefault`).
-/
namespace Sys2Proof.Machine
open Sys2Proof

/-- Entries from 0x1000 to 0x1FFF, identity and communication. -/
def dict1000 : List DictRow := [
  ⟨0x1008, 1, 0, 1, .str, .ro, 0, 0, 0, 8, none, 0, 0, .same⟩,
  ⟨0x100A, 1, 0, 1, .str, .ro, 0, 0, 0, 16, none, 0, 0, .same⟩,
  ⟨0x1011, 1, 1, 1, .u32, .wo, 0, 0xDEFA017, 0xDEFA017, 0, none, 0, 0, .same⟩,
  ⟨0x1018, 1, 1, 1, .u16, .ro, 0x1FD4, 0, 0xFFFF, 0, none, 0, 0, .same⟩,
  ⟨0x1018, 1, 2, 1, .u16, .ro, 0x480, 0, 0xFFFF, 0, some ⟨0, 31, 16⟩, 0, 0, .same⟩,
  ⟨0x1018, 1, 3, 1, .u8, .ro, 0xB0, 0, 0xFF, 0, some ⟨0, 7, 0⟩, 0, 0, .same⟩,
  ⟨0x1018, 1, 4, 1, .u16, .rwm, 0x1FD4, 0, 0xFFFF, 0, none, 0, 0, .same⟩,
  ⟨0x1018, 1, 5, 1, .u16, .rwm, 0, 0, 0xFFFF, 0, none, 0, 0, .same⟩,
  ⟨0x1018, 1, 6, 1, .blob, .ro, 0, 0, 0, 16, none, 0, 0, .same⟩,
  ⟨0x1018, 1, 7, 1, .u64, .ro, 0, 0, 0xFFFFFFFFFFFFFFFF, 0, none, 0, 0, .same⟩,
  ⟨0x1200, 1, 1, 1, .u16, .ro, 0x3E8, 0, 0xFFFF, 0, none, 0, 0, .same⟩,
  ⟨0x1200, 1, 2, 1, .u8, .rwp, 3, 1, 4, 0, some ⟨0x4600004, 2, 0⟩, 0, 0, .same⟩,
  ⟨0x1200, 1, 3, 1, .u8, .ro, 0, 0, 0xFF, 0, some ⟨0x4600000, 6, 0⟩, 0, 0, .same⟩,
  ⟨0x1200, 1, 4, 1, .bool, .rwp, 1, 0, 1, 0, some ⟨0x4600004, 4, 4⟩, 0, 0, .same⟩,
  ⟨0x1200, 1, 5, 1, .u16, .rwp, 0x1F4, 0x64, 0x2710, 0, none, 0, 0, .same⟩,
  ⟨0x1200, 1, 6, 1, .bool, .rwp, 0, 0, 1, 0, some ⟨0x4600004, 5, 5⟩, 0, 0, .same⟩,
  ⟨0x1200, 1, 7, 1, .u8, .rwp, 2, 0, 4, 0, some ⟨0x4600004, 10, 8⟩, 0, 0, .same⟩,
  ⟨0x1200, 1, 8, 1, .u16, .rwp, 0xA, 1, 0x3E8, 0, none, 0, 0, .same⟩,
  ⟨0x1F00, 1, 1, 1, .u32, .rw, 0, 0, 0xFFFFFFFF, 0, none, 0, 0, .same⟩,
  ⟨0x1F00, 1, 2, 1, .blob, .ro, 0, 0, 0, 48, none, 0, 0, .same⟩,
  ⟨0x1F00, 1, 3, 1, .u32, .ro, 0, 0, 0xFFFFFFFF, 0, none, 0, 0, .same⟩]

/-- Entries from 0x2000 to 0x2FFF, device. -/
def dict2000 : List DictRow := [
  ⟨0x2000, 1, 1, 1, .u8, .rwp, 2, 1, 4, 0, some ⟨0x300000, 1, 0⟩, 0, 0, .less1⟩,
  ⟨0x2000, 1, 2, 1, .bool, .ro, 0, 0, 1, 0, none, 0, 0, .same⟩,
  ⟨0x2001, 1, 1, 16, .u32, .ro, 0, 0, 0xFFFFFFFF, 0, some ⟨0x300200, 31, 0⟩, 0, 4, .same⟩,
  ⟨0x2002, 1, 1, 1, .u16, .wo, 0, 0, 0x1FF, 0, none, 0, 0, .same⟩,
  ⟨0x2002, 1, 2, 1, .bool, .wo, 0, 0, 1, 0, none, 0, 0, .same⟩,
  ⟨0x2010, 8, 1, 64, .u8, .rwp, 1, 1, 4, 0, none, 0, 0, .same⟩,
  ⟨0x2020, 1, 1, 1, .i16, .rwp, 0, 0, 0xFFFF, 0, none, 0, 0, .same⟩,
  ⟨0x2020, 1, 2, 1, .i16, .rwp, 0, 0, 0xFFFF, 0, none, 0, 0, .same⟩,
  ⟨0x2100, 1, 1, 1, .u8, .ro, 0, 0, 0xFF, 0, some ⟨0x10, 1, 0⟩, 0, 0, .same⟩,
  ⟨0x2100, 1, 2, 1, .u8, .ro, 0, 0, 0xFF, 0, some ⟨0x10, 15, 8⟩, 0, 0, .same⟩,
  ⟨0x2100, 1, 3, 1, .u8, .rwp, 3, 1, 8, 0, none, 0, 0, .same⟩,
  ⟨0x2100, 1, 4, 1, .bool, .wo, 0, 0, 1, 0, none, 0, 0, .same⟩,
  ⟨0x2100, 1, 5, 1, .u32, .rwp, 0x78, 0x1E, 0x4B0, 0, none, 0, 0, .same⟩,
  ⟨0x2100, 1, 6, 1, .u8, .rwp, 0, 0, 1, 0, none, 0, 0, .same⟩,
  ⟨0x2100, 1, 7, 1, .u32, .rwp, 0, 0, 0xEA60, 0, none, 0, 0, .same⟩,
  ⟨0x2100, 1, 8, 1, .bool, .wo, 0, 0, 1, 0, none, 0, 0, .same⟩,
  ⟨0x2100, 1, 9, 1, .u16, .ro, 0, 0, 0xFFFF, 0, some ⟨0x14, 12, 0⟩, 0, 0, .same⟩,
  ⟨0x2100, 1, 0xA, 1, .u32, .ro, 0, 0, 0xFFFFFFFF, 0, none, 0, 0, .same⟩,
  ⟨0x2100, 1, 0xB, 1, .u8, .ro, 0, 0, 0xFF, 0, none, 0, 0, .same⟩,
  ⟨0x2200, 1, 1, 1, .u16, .rwp, 0xA0, 0, 0x600, 0, some ⟨0x200100, 10, 0⟩, 0, 0, .same⟩,
  ⟨0x2200, 1, 2, 1, .u16, .rwp, 0xA0, 0, 0x600, 0, some ⟨0x200104, 10, 0⟩, 0, 0, .same⟩,
  ⟨0x2200, 1, 3, 1, .u16, .rwp, 0xA0, 0, 0x600, 0, some ⟨0x200108, 10, 0⟩, 0, 0, .same⟩,
  ⟨0x2200, 1, 4, 1, .u16, .rwp, 0x20, 0, 0x600, 0, some ⟨0x20010C, 10, 0⟩, 0, 0, .same⟩,
  ⟨0x2200, 1, 5, 1, .u16, .rwp, 0x20, 0, 0x600, 0, some ⟨0x200110, 10, 0⟩, 0, 0, .same⟩,
  ⟨0x2200, 1, 6, 1, .u16, .rwp, 0xC0, 0, 0x600, 0, some ⟨0x200114, 10, 0⟩, 0, 0, .same⟩,
  ⟨0x2200, 1, 7, 1, .u16, .rwp, 4, 0, 0x600, 0, some ⟨0x200118, 10, 0⟩, 0, 0, .same⟩,
  ⟨0x2200, 1, 8, 1, .u16, .rwp, 4, 0, 0x600, 0, some ⟨0x20011C, 10, 0⟩, 0, 0, .same⟩,
  ⟨0x2200, 1, 9, 1, .u16, .rwp, 0x10, 0, 0x600, 0, some ⟨0x200120, 10, 0⟩, 0, 0, .same⟩,
  ⟨0x2200, 1, 0xA, 1, .u16, .rwp, 0x10, 0, 0x600, 0, some ⟨0x200124, 10, 0⟩, 0, 0, .same⟩,
  ⟨0x2200, 1, 0xB, 1, .u16, .rwp, 0x20, 0, 0x600, 0, some ⟨0x200128, 10, 0⟩, 0, 0, .same⟩,
  ⟨0x2200, 1, 0xC, 1, .u16, .rwp, 0x80, 0, 0x600, 0, some ⟨0x20012C, 10, 0⟩, 0, 0, .same⟩,
  ⟨0x2200, 1, 0xD, 1, .u16, .rwp, 0x40, 0, 0x600, 0, some ⟨0x200130, 10, 0⟩, 0, 0, .same⟩,
  ⟨0x2200, 1, 0xE, 1, .u16, .rwp, 0x20, 0, 0x600, 0, some ⟨0x200134, 10, 0⟩, 0, 0, .same⟩,
  ⟨0x2200, 1, 0xF, 1, .u16, .rwp, 0, 0, 0x600, 0, some ⟨0x200138, 10, 0⟩, 0, 0, .same⟩,
  ⟨0x2200, 1, 0x10, 1, .u16, .rwp, 0, 0, 0x600, 0, some ⟨0x20013C, 10, 0⟩, 0, 0, .same⟩,
  ⟨0x2201, 1, 1, 1, .bool, .rwp, 1, 0, 1, 0, some ⟨0x200100, 16, 16⟩, 0, 0, .same⟩,
  ⟨0x2201, 1, 2, 1, .bool, .rwp, 1, 0, 1, 0, some ⟨0x200104, 16, 16⟩, 0, 0, .same⟩,
  ⟨0x2201, 1, 3, 1, .bool, .rwp, 1, 0, 1, 0, some ⟨0x200108, 16, 16⟩, 0, 0, .same⟩,
  ⟨0x2201, 1, 4, 1, .bool, .rwp, 0, 0, 1, 0, some ⟨0x20010C, 16, 16⟩, 0, 0, .same⟩,
  ⟨0x2201, 1, 5, 1, .bool, .rwp, 0, 0, 1, 0, some ⟨0x200110, 16, 16⟩, 0, 0, .same⟩,
  ⟨0x2201, 1, 6, 1, .bool, .rwp, 0, 0, 1, 0, some ⟨0x200114, 16, 16⟩, 0, 0, .same⟩,
  ⟨0x2201, 1, 7, 1, .bool, .rwp, 0, 0, 1, 0, some ⟨0x200118, 16, 16⟩, 0, 0, .same⟩,
  ⟨0x2201, 1, 8, 1, .bool, .rwp, 0, 0, 1, 0, some ⟨0x20011C, 16, 16⟩, 0, 0, .same⟩,
  ⟨0x2201, 1, 9, 1, .bool, .rwp, 1, 0, 1, 0, some ⟨0x200120, 16, 16⟩, 0, 0, .same⟩,
  ⟨0x2201, 1, 0xA, 1, .bool, .rwp, 1, 0, 1, 0, some ⟨0x200124, 16, 16⟩, 0, 0, .same⟩,
  ⟨0x2201, 1, 0xB, 1, .bool, .rwp, 1, 0, 1, 0, some ⟨0x200128, 16, 16⟩, 0, 0, .same⟩,
  ⟨0x2201, 1, 0xC, 1, .bool, .rwp, 1, 0, 1, 0, some ⟨0x20012C, 16, 16⟩, 0, 0, .same⟩,
  ⟨0x2201, 1, 0xD, 1, .bool, .rwp, 1, 0, 1, 0, some ⟨0x200130, 16, 16⟩, 0, 0, .same⟩,
  ⟨0x2201, 1, 0xE, 1, .bool, .rwp, 0, 0, 1, 0, some ⟨0x200134, 16, 16⟩, 0, 0, .same⟩,
  ⟨0x2201, 1, 0xF, 1, .bool, .rwp, 0, 0, 1, 0, some ⟨0x200138, 16, 16⟩, 0, 0, .same⟩,
  ⟨0x2201, 1, 0x10, 1, .bool, .rwp, 0, 0, 1, 0, some ⟨0x20013C, 16, 16⟩, 0, 0, .same⟩,
  ⟨0x2202, 1, 0, 1, .u16, .ro, 0x600, 0, 0xFFFF, 0, some ⟨0x200000, 10, 0⟩, 0, 0, .same⟩,
  ⟨0x2210, 1, 1, 2, .u16, .rwp, 0x3C, 0, 0x3E8, 0, some ⟨0x200400, 9, 0⟩, 0, 0x10, .share512⟩,
  ⟨0x2210, 1, 3, 2, .u16, .ro, 0, 0, 0xFFFF, 0, some ⟨0x200400, 25, 16⟩, 0, 0x10, .same⟩,
  ⟨0x2210, 1, 5, 2, .bool, .rwp, 1, 0, 1, 0, some ⟨0x200400, 31, 31⟩, 0, 0x10, .same⟩,
  ⟨0x2220, 1, 1, 1, .u8, .rwp, 0x1E, 0xA, 0x64, 0, some ⟨0x200500, 6, 0⟩, 0, 0, .same⟩,
  ⟨0x2220, 1, 2, 1, .u8, .rwp, 0x19, 0, 0x64, 0, some ⟨0x200500, 14, 8⟩, 0, 0, .same⟩,
  ⟨0x2300, 1, 1, 1, .u8, .rwm, 0, 0, 3, 0, some ⟨0x1000000, 1, 0⟩, 0, 0, .same⟩,
  ⟨0x2300, 1, 2, 1, .u8, .rwm, 1, 0, 1, 0, some ⟨0x1000000, 4, 4⟩, 0, 0, .same⟩,
  ⟨0x2300, 1, 3, 1, .u8, .rwp, 0x18, 1, 0xA8, 0, some ⟨0x1000020, 23, 0⟩, 0, 0, .period⟩,
  ⟨0x2300, 1, 4, 1, .u16, .rwp, 0x7D0, 0, 0x2710, 0, some ⟨0x1000030, 9, 0⟩, 0, 0, .div10⟩,
  ⟨0x2300, 1, 5, 1, .u8, .rwp, 8, 0, 0x40, 0, some ⟨0x1000050, 6, 0⟩, 0, 0, .same⟩,
  ⟨0x2300, 1, 6, 1, .u16, .rwp, 0x10, 4, 0xFC, 0, some ⟨0x1000050, 24, 16⟩, 0, 0, .same⟩,
  ⟨0x2310, 1, 1, 1, .u8, .rwp, 0x32, 0, 0x64, 0, some ⟨0x1200000, 6, 0⟩, 0, 0, .same⟩,
  ⟨0x2310, 1, 2, 1, .u8, .rwp, 0xFF, 0, 0xFF, 0, some ⟨0x1200000, 15, 8⟩, 0, 0, .same⟩,
  ⟨0x2400, 1, 1, 1, .u8, .ro, 0, 1, 2, 0, none, 0, 0, .same⟩,
  ⟨0x2400, 1, 2, 1, .u8, .ro, 0, 0, 0xFF, 0, none, 0, 0, .same⟩,
  ⟨0x2400, 1, 3, 1, .u8, .ro, 0, 0, 0xFF, 0, none, 0, 0, .same⟩,
  ⟨0x2400, 1, 4, 2, .str, .ro, 0, 0, 0, 16, none, 0, 0, .same⟩,
  ⟨0x2400, 1, 6, 1, .u8, .ro, 0, 0, 0xFF, 0, none, 0, 0, .same⟩,
  ⟨0x2400, 1, 7, 1, .u16, .ro, 0, 0, 0xFFFF, 0, none, 0, 0, .same⟩,
  ⟨0x2410, 1, 1, 1, .key128, .wo, 0, 0, 0, 16, none, 0, 0, .same⟩,
  ⟨0x2410, 1, 2, 1, .key128, .wo, 0, 0, 0, 16, none, 0, 0, .same⟩,
  ⟨0x2410, 1, 3, 1, .bool, .wo, 0, 0, 1, 0, none, 0, 0, .same⟩,
  ⟨0x2410, 1, 4, 1, .u8, .ro, 0, 0, 0xFF, 0, some ⟨0x700010, 19, 16⟩, 0, 0, .same⟩,
  ⟨0x2410, 1, 5, 1, .bool, .ro, 0, 0, 1, 0, some ⟨0x700010, 20, 20⟩, 0, 0, .same⟩,
  ⟨0x2411, 1, 1, 1, .u32, .rwm, 0x800F0000, 0, 0xFFFFFFFF, 0, some ⟨0x700040, 31, 0⟩, 0, 0, .same⟩,
  ⟨0x2411, 1, 2, 1, .u32, .rwm, 0x80100010, 0, 0xFFFFFFFF, 0, some ⟨0x700044, 31, 0⟩, 0, 0, .same⟩,
  ⟨0x2411, 1, 3, 1, .u32, .rwm, 0, 0, 0xFFFFFFFF, 0, some ⟨0x700048, 31, 0⟩, 0, 0, .same⟩,
  ⟨0x2411, 1, 4, 1, .u32, .rwm, 0, 0, 0xFFFFFFFF, 0, some ⟨0x70004C, 31, 0⟩, 0, 0, .same⟩,
  ⟨0x2411, 1, 5, 1, .u32, .rwm, 0, 0, 0xFFFFFFFF, 0, some ⟨0x700050, 31, 0⟩, 0, 0, .same⟩,
  ⟨0x2411, 1, 6, 1, .u32, .rwm, 0, 0, 0xFFFFFFFF, 0, some ⟨0x700054, 31, 0⟩, 0, 0, .same⟩,
  ⟨0x2411, 1, 7, 1, .u32, .rwm, 0, 0, 0xFFFFFFFF, 0, some ⟨0x700058, 31, 0⟩, 0, 0, .same⟩,
  ⟨0x2411, 1, 8, 1, .u32, .rwm, 0, 0, 0xFFFFFFFF, 0, some ⟨0x70005C, 31, 0⟩, 0, 0, .same⟩,
  ⟨0x2411, 1, 9, 1, .u32, .rwm, 0, 0, 0xFFFFFFFF, 0, some ⟨0x700060, 31, 0⟩, 0, 0, .same⟩,
  ⟨0x2411, 1, 0xA, 1, .u32, .rwm, 0, 0, 0xFFFFFFFF, 0, some ⟨0x700064, 31, 0⟩, 0, 0, .same⟩,
  ⟨0x2411, 1, 0xB, 1, .u32, .rwm, 0, 0, 0xFFFFFFFF, 0, some ⟨0x700068, 31, 0⟩, 0, 0, .same⟩,
  ⟨0x2411, 1, 0xC, 1, .u32, .rwm, 0, 0, 0xFFFFFFFF, 0, some ⟨0x70006C, 31, 0⟩, 0, 0, .same⟩,
  ⟨0x2411, 1, 0xD, 1, .u32, .rwm, 0, 0, 0xFFFFFFFF, 0, some ⟨0x700070, 31, 0⟩, 0, 0, .same⟩,
  ⟨0x2411, 1, 0xE, 1, .u32, .rwm, 0, 0, 0xFFFFFFFF, 0, some ⟨0x700074, 31, 0⟩, 0, 0, .same⟩,
  ⟨0x2411, 1, 0xF, 1, .u32, .rwm, 0, 0, 0xFFFFFFFF, 0, some ⟨0x700078, 31, 0⟩, 0, 0, .same⟩,
  ⟨0x2411, 1, 0x10, 1, .u32, .rwm, 0, 0, 0xFFFFFFFF, 0, some ⟨0x70007C, 31, 0⟩, 0, 0, .same⟩,
  ⟨0x2420, 1, 1, 1, .u32, .rw, 0, 0, 0xFFFFFFFF, 0, none, 0, 0, .same⟩,
  ⟨0x2420, 1, 2, 1, .blob, .ro, 0, 0, 0, 32, none, 0, 0, .same⟩,
  ⟨0x2420, 1, 3, 2, .u32, .ro, 0, 0, 0xFFFFFFFF, 0, none, 0, 0, .same⟩]

/-- Entries from 0x3000 to 0x3FFF, media. -/
def dict3000 : List DictRow := [
  ⟨0x3100, 2, 1, 1, .u8, .rwp, 0x18, 8, 0x40, 0, some ⟨0x2000140, 6, 0⟩, 0x200000, 0, .same⟩,
  ⟨0x3100, 2, 2, 1, .u8, .rwp, 8, 2, 0x10, 0, some ⟨0x2000140, 12, 8⟩, 0x200000, 0, .same⟩,
  ⟨0x3100, 2, 3, 1, .u8, .rwp, 8, 0, 0x20, 0, some ⟨0x2000140, 21, 16⟩, 0x200000, 0, .same⟩,
  ⟨0x3100, 2, 4, 1, .u16, .rwp, 0x120, 0x60, 0x1E0, 0, some ⟨0x2000144, 8, 0⟩, 0x200000, 0, .same⟩,
  ⟨0x3100, 2, 5, 1, .u8, .rwp, 0x20, 0, 0x7F, 0, some ⟨0x2000144, 22, 16⟩, 0x200000, 0, .same⟩,
  ⟨0x3100, 2, 6, 1, .u8, .rwp, 2, 1, 4, 0, some ⟨0x2000144, 26, 24⟩, 0x200000, 0, .same⟩,
  ⟨0x3100, 2, 7, 1, .u8, .rwp, 3, 2, 7, 0, some ⟨0x2000104, 3, 0⟩, 0x200000, 0, .same⟩,
  ⟨0x3100, 2, 8, 1, .u8, .rwp, 8, 6, 0xE, 0, some ⟨0x2000104, 7, 4⟩, 0x200000, 0, .same⟩,
  ⟨0x3100, 2, 9, 1, .u8, .rwp, 6, 4, 0xA, 0, some ⟨0x2000104, 11, 8⟩, 0x200000, 0, .same⟩,
  ⟨0x3100, 2, 0xA, 1, .u8, .rwp, 0xC, 8, 0xF, 0, some ⟨0x2000104, 15, 12⟩, 0x200000, 0, .same⟩,
  ⟨0x3100, 2, 0xB, 1, .u8, .rwp, 0x10, 0, 0xFF, 0, some ⟨0x2000108, 7, 0⟩, 0x200000, 0, .same⟩,
  ⟨0x3100, 2, 0xC, 1, .u8, .rwp, 0x50, 0x30, 0x70, 0, some ⟨0x2000108, 15, 8⟩, 0x200000, 0, .same⟩,
  ⟨0x3100, 2, 0xD, 1, .u8, .rwp, 0x80, 0, 0xFF, 0, some ⟨0x2000108, 23, 16⟩, 0x200000, 0, .same⟩,
  ⟨0x3100, 2, 0xE, 1, .u8, .rwp, 0x40, 0, 0xFF, 0, some ⟨0x2000050, 7, 0⟩, 0x200000, 0, .same⟩,
  ⟨0x3100, 2, 0xF, 1, .u8, .rwp, 0x10, 0, 0xFF, 0, some ⟨0x2000204, 7, 0⟩, 0x200000, 0, .same⟩,
  ⟨0x3200, 2, 1, 1, .u8, .rwp, 0xC, 4, 0xC, 0, some ⟨0x2400010, 5, 0⟩, 0x10, 0, .same⟩,
  ⟨0x3200, 2, 2, 1, .u8, .rwp, 4, 1, 4, 0, some ⟨0x2400010, 11, 8⟩, 0x10, 0, .same⟩,
  ⟨0x3200, 2, 3, 1, .u8, .rwp, 0x28, 0xC, 0x3F, 0, some ⟨0x2400010, 21, 16⟩, 0x10, 0, .same⟩,
  ⟨0x3200, 2, 4, 1, .u8, .rwp, 0xA, 1, 0xF, 0, some ⟨0x2400010, 27, 24⟩, 0x10, 0, .same⟩,
  ⟨0x3200, 2, 5, 1, .u8, .rwp, 2, 0, 4, 0, none, 0, 0, .same⟩,
  ⟨0x3200, 2, 6, 1, .u8, .rwp, 8, 2, 8, 0, none, 0, 0, .same⟩,
  ⟨0x3200, 2, 7, 1, .bool, .rwp, 1, 0, 1, 0, none, 0, 0, .same⟩,
  ⟨0x3200, 2, 8, 1, .u8, .rwp, 0x18, 4, 0x40, 0, none, 0, 0, .same⟩,
  ⟨0x3200, 2, 9, 1, .u8, .rwp, 2, 1, 6, 0, none, 0, 0, .same⟩,
  ⟨0x3200, 1, 0xA, 1, .u16, .rwp, 0x4B0, 0, 0xD80, 0, some ⟨0x2400018, 27, 16⟩, 0, 0, .same⟩,
  ⟨0x3200, 1, 0xB, 1, .u8, .rwp, 1, 0, 2, 0, some ⟨0x2400014, 1, 0⟩, 0, 0, .same⟩,
  ⟨0x3200, 2, 0xC, 1, .u8, .rwp, 5, 0, 0xFF, 0, some ⟨0x2000400, 11, 8⟩, 0x200000, 0, .same⟩,
  ⟨0x3200, 2, 0xD, 1, .u8, .rwp, 9, 0, 0xFF, 0, some ⟨0x2000400, 15, 12⟩, 0x200000, 0, .same⟩,
  ⟨0x3201, 1, 0xA, 1, .u16, .rwp, 0x4B0, 0, 0xD80, 0, some ⟨0x2400018, 15, 4⟩, 0, 0, .same⟩,
  ⟨0x3201, 1, 0xB, 1, .u8, .rwp, 1, 0, 2, 0, some ⟨0x2400014, 5, 4⟩, 0, 0, .same⟩,
  ⟨0x3202, 1, 0, 1, .u8, .rwp, 2, 1, 4, 0, some ⟨0x2400014, 10, 8⟩, 0, 0, .same⟩,
  ⟨0x3300, 1, 1, 1, .u16, .rwp, 0x5A, 7, 0x16D, 0, none, 0, 0, .same⟩,
  ⟨0x3300, 1, 2, 1, .u8, .rwp, 8, 1, 0xC, 0, none, 0, 0, .same⟩,
  ⟨0x3300, 1, 3, 1, .u16, .rwp, 0x64, 0, 0xFFFF, 0, none, 0, 0, .same⟩,
  ⟨0x3300, 1, 4, 1, .bool, .wo, 0, 0, 1, 0, none, 0, 0, .same⟩,
  ⟨0x3400, 1, 1, 1, .bool, .wo, 0, 0, 1, 0, none, 0, 0, .same⟩,
  ⟨0x3400, 1, 2, 1, .u32, .rwm, 0x1E8480, 0, 0xFFFFFFFF, 0, none, 0, 0, .same⟩,
  ⟨0x3400, 1, 3, 1, .u16, .rwm, 0x14, 0, 0xFFFF, 0, none, 0, 0, .same⟩,
  ⟨0x3400, 1, 4, 1, .u8, .ro, 0, 0, 0xFF, 0, none, 0, 0, .same⟩,
  ⟨0x3400, 1, 5, 1, .bool, .wo, 0, 0, 1, 0, none, 0, 0, .same⟩,
  ⟨0x3400, 1, 6, 1, .u8, .ro, 0, 0, 0xFF, 0, none, 0, 0, .same⟩,
  ⟨0x3410, 1, 1, 1, .blob, .rwm, 0, 0, 0, 8, none, 0, 0, .same⟩,
  ⟨0x3410, 1, 2, 1, .blob, .rwm, 0, 0, 0, 96, none, 0, 0, .same⟩,
  ⟨0x3420, 24, 0, 1, .u8, .ro, 0, 0, 0xFF, 0, none, 0, 0, .same⟩,
  ⟨0x3420, 24, 1, 64, .blob, .rwm, 0, 0, 0, 64, none, 0, 0, .same⟩,
  ⟨0x3500, 2, 1, 1, .u8, .rwp, 2, 0, 3, 0, some ⟨0x2600000, 1, 0⟩, 0x100000, 0, .same⟩,
  ⟨0x3500, 2, 2, 1, .u8, .rwp, 0x14, 4, 0xFF, 0, some ⟨0x2600028, 7, 0⟩, 0x100000, 0, .same⟩,
  ⟨0x3500, 2, 3, 1, .u8, .rwp, 2, 0, 0xF, 0, some ⟨0x2600028, 19, 16⟩, 0x100000, 0, .same⟩,
  ⟨0x3500, 2, 4, 1, .u8, .rwp, 0x14, 5, 0x64, 0, some ⟨0x2600028, 31, 24⟩, 0x100000, 0, .same⟩,
  ⟨0x3500, 2, 5, 1, .u8, .rwp, 4, 1, 0x10, 0, none, 0, 0, .same⟩,
  ⟨0x3500, 2, 6, 1, .u8, .ro, 0, 0, 0xFF, 0, none, 0, 0, .same⟩,
  ⟨0x3600, 2, 1, 1, .u16, .rwp, 0x9C4, 0x3E8, 0xFA0, 0, some ⟨0x280000C, 25, 0⟩, 0x200000, 0, .sstep⟩,
  ⟨0x3600, 2, 2, 1, .u8, .rwp, 4, 1, 8, 0, some ⟨0x2800000, 19, 16⟩, 0x200000, 0, .same⟩,
  ⟨0x3600, 2, 3, 1, .u8, .rwp, 4, 1, 0xF, 0, some ⟨0x2800000, 23, 20⟩, 0x200000, 0, .same⟩,
  ⟨0x3600, 2, 4, 1, .bool, .rwp, 1, 0, 1, 0, some ⟨0x2800000, 4, 4⟩, 0x200000, 0, .same⟩,
  ⟨0x3600, 2, 5, 1, .u16, .rwp, 0x64, 0, 0xFFFF, 0, some ⟨0x2800030, 15, 0⟩, 0x200000, 0, .pitch⟩,
  ⟨0x3600, 2, 6, 1, .u16, .rwp, 0x96, 0, 0xFFFF, 0, some ⟨0x2800030, 31, 16⟩, 0x200000, 0, .pitch⟩,
  ⟨0x3600, 2, 7, 1, .u16, .rwp, 0x50, 0, 0xFFFF, 0, some ⟨0x2800034, 11, 0⟩, 0x200000, 0, .pitch⟩,
  ⟨0x3600, 2, 8, 1, .u8, .rwp, 6, 1, 0xF, 0, some ⟨0x2800034, 15, 12⟩, 0x200000, 0, .same⟩,
  ⟨0x3600, 2, 9, 1, .u16, .rwp, 0x96, 0, 0xFFFF, 0, some ⟨0x2800034, 27, 16⟩, 0x200000, 0, .pitch⟩,
  ⟨0x3600, 2, 0xA, 1, .u8, .rwp, 2, 1, 0xF, 0, some ⟨0x2800034, 31, 28⟩, 0x200000, 0, .same⟩,
  ⟨0x3600, 2, 0xB, 1, .u8, .rwp, 3, 1, 3, 0, none, 0, 0, .same⟩,
  ⟨0x3600, 2, 0xC, 1, .u8, .rwp, 0x40, 0x10, 0xFF, 0, none, 0, 0, .same⟩,
  ⟨0x3600, 2, 0xD, 1, .u8, .rwp, 3, 1, 8, 0, none, 0, 0, .same⟩,
  ⟨0x3610, 2, 1, 1, .i32, .rwp, 0x2000000, 0, 0xFFFFFFFF, 0, some ⟨0x2800040, 31, 0⟩, 0x200000, 0, .same⟩,
  ⟨0x3610, 2, 2, 1, .i32, .rwp, 0xFF000000, 0, 0xFFFFFFFF, 0, some ⟨0x2800044, 31, 0⟩, 0x200000, 0, .same⟩,
  ⟨0x3610, 2, 3, 1, .i32, .rwp, 0, 0, 0xFFFFFFFF, 0, some ⟨0x2800048, 31, 0⟩, 0x200000, 0, .same⟩,
  ⟨0x3610, 2, 4, 1, .i32, .rwp, 0, 0, 0xFFFFFFFF, 0, some ⟨0x280004C, 31, 0⟩, 0x200000, 0, .same⟩,
  ⟨0x3610, 2, 5, 1, .i32, .rwp, 0, 0, 0xFFFFFFFF, 0, some ⟨0x2800050, 31, 0⟩, 0x200000, 0, .same⟩,
  ⟨0x3610, 2, 6, 1, .i32, .rwp, 0, 0, 0xFFFFFFFF, 0, some ⟨0x2800054, 31, 0⟩, 0x200000, 0, .same⟩,
  ⟨0x3620, 24, 0, 1, .blob, .rwp, 0, 0, 0, 32, some ⟨0x2800100, 7, 0⟩, 0, 0, .pack⟩]

/-- Entries from 0x4000 to 0x4FFF, motion and control law. -/
def dict4000 : List DictRow := [
  ⟨0x4000, 1, 1, 1, .u16, .rwm, 0x1C20, 0xE10, 0x1C20, 0, some ⟨0x300000C, 19, 0⟩, 0, 0, .times16⟩,
  ⟨0x4000, 1, 2, 1, .u8, .rwm, 8, 8, 0xC, 0, some ⟨0x3000010, 3, 0⟩, 0, 0, .same⟩,
  ⟨0x4000, 1, 3, 1, .u16, .rwm, 0x3E8, 0, 0xFFFF, 0, some ⟨0x3000010, 31, 16⟩, 0, 0, .same⟩,
  ⟨0x4000, 1, 4, 1, .u16, .rwm, 0x96, 0, 0xFFFF, 0, some ⟨0x3000010, 15, 4⟩, 0, 0, .same⟩,
  ⟨0x4000, 1, 5, 1, .u8, .rwm, 8, 0, 0xFF, 0, some ⟨0x3000014, 7, 0⟩, 0, 0, .same⟩,
  ⟨0x4000, 1, 6, 1, .u16, .rwm, 0xBB8, 0, 0xFFFF, 0, some ⟨0x3000014, 31, 16⟩, 0, 0, .same⟩,
  ⟨0x4000, 1, 7, 1, .u8, .rwm, 0x96, 0, 0xFF, 0, some ⟨0x3000014, 15, 8⟩, 0, 0, .same⟩,
  ⟨0x4000, 1, 8, 1, .u8, .rwm, 1, 0, 2, 0, some ⟨0x3200018, 1, 0⟩, 0, 0, .same⟩,
  ⟨0x4000, 1, 9, 1, .u16, .rwm, 0x64, 0, 0xFFFF, 0, none, 0, 0, .same⟩,
  ⟨0x4000, 1, 0xA, 1, .u16, .rwp, 0x7D0, 0, 0xFFFF, 0, some ⟨0x3000018, 15, 0⟩, 0, 0, .same⟩,
  ⟨0x4000, 1, 0xB, 1, .u16, .rwp, 0x5DC, 0x64, 0x1388, 0, none, 0, 0, .same⟩,
  ⟨0x4000, 1, 0xC, 1, .u8, .rwp, 0, 0, 1, 0, none, 0, 0, .same⟩,
  ⟨0x4000, 1, 0xD, 1, .u8, .rwp, 0, 0, 1, 0, some ⟨0x3000000, 8, 8⟩, 0, 0, .same⟩,
  ⟨0x4000, 1, 0xE, 1, .bool, .wo, 0, 0, 1, 0, none, 0, 0, .same⟩,
  ⟨0x4000, 1, 0xF, 1, .u16, .rwp, 0x12C, 0, 0xFFFF, 0, some ⟨0x3000024, 15, 0⟩, 0, 0, .same⟩,
  ⟨0x4000, 1, 0x10, 1, .u16, .rwp, 0x78, 0, 0xFFFF, 0, some ⟨0x3000024, 31, 16⟩, 0, 0, .same⟩,
  ⟨0x4000, 1, 0x11, 1, .u8, .rwp, 0x32, 0, 0xFF, 0, some ⟨0x3000020, 15, 8⟩, 0, 0, .same⟩,
  ⟨0x4000, 1, 0x12, 1, .u16, .rwm, 0xC8, 0x32, 0x1F4, 0, some ⟨0x3200018, 24, 16⟩, 0, 0, .same⟩,
  ⟨0x4010, 1, 1, 1, .u8, .rwp, 0, 0, 1, 0, some ⟨0x3200014, 0, 0⟩, 0, 0, .same⟩,
  ⟨0x4010, 1, 2, 1, .u16, .rwp, 0x7D0, 0, 0xFFFF, 0, some ⟨0x3000018, 31, 16⟩, 0, 0, .same⟩,
  ⟨0x4010, 1, 3, 1, .u16, .rwp, 0x7D0, 0, 0xFFFF, 0, some ⟨0x3200014, 31, 16⟩, 0, 0, .same⟩,
  ⟨0x4010, 1, 4, 1, .u16, .rwp, 0xC8, 0, 0xFFFF, 0, some ⟨0x3200010, 15, 0⟩, 0, 0, .same⟩,
  ⟨0x4010, 1, 5, 1, .u8, .rwp, 0x14, 5, 0x64, 0, some ⟨0x3200010, 31, 24⟩, 0, 0, .same⟩,
  ⟨0x4010, 1, 6, 1, .bool, .wo, 0, 0, 1, 0, none, 0, 0, .same⟩,
  ⟨0x4020, 2, 1, 1, .u16, .rwm, 0xFA, 0, 0xFFFF, 0, none, 0, 0, .same⟩,
  ⟨0x4020, 2, 2, 1, .u16, .rwm, 0x1F40, 0, 0xFFFF, 0, none, 0, 0, .same⟩,
  ⟨0x4020, 2, 3, 1, .u16, .rwp, 0x3C, 0, 0xFFFF, 0, some ⟨0x3200020, 15, 0⟩, 0x10, 0, .same⟩,
  ⟨0x4020, 2, 4, 1, .u16, .rwp, 0x320, 0, 0xFFFF, 0, some ⟨0x3200020, 31, 16⟩, 0x10, 0, .same⟩,
  ⟨0x4020, 2, 5, 1, .u16, .rwp, 0xC8, 0, 0xFFFF, 0, some ⟨0x3200024, 15, 0⟩, 0x10, 0, .same⟩,
  ⟨0x4020, 2, 6, 1, .u16, .rwp, 0x28, 0, 0xFFFF, 0, some ⟨0x3200024, 31, 16⟩, 0x10, 0, .same⟩,
  ⟨0x4020, 2, 7, 1, .u32, .rwm, 0, 0, 0xFFFFFFFF, 0, none, 0, 0, .same⟩,
  ⟨0x4020, 2, 8, 1, .u32, .rwm, 0x4000100, 0, 0xFFFFFFFF, 0, some ⟨0x3200028, 31, 0⟩, 0x10, 0, .same⟩,
  ⟨0x4030, 1, 1, 1, .u16, .rwp, 0x1F4, 0, 0xFFFF, 0, some ⟨0x3200040, 15, 0⟩, 0, 0, .same⟩,
  ⟨0x4030, 1, 2, 1, .u16, .rwp, 0x7D0, 0, 0xFFFF, 0, some ⟨0x3200040, 31, 16⟩, 0, 0, .same⟩,
  ⟨0x4100, 9, 1, 1, .u8, .rwp, 0, 0, 0x10, 0, some ⟨0x2C00100, 4, 0⟩, 0x10, 0, .same⟩,
  ⟨0x4100, 9, 2, 1, .u8, .rwp, 0, 0, 0xF, 0, some ⟨0x2C00100, 19, 16⟩, 0x10, 0, .same⟩,
  ⟨0x4100, 9, 3, 1, .u16, .rwp, 0x7FFF, 0, 0xFFFF, 0, some ⟨0x2C00104, 31, 16⟩, 0x10, 0, .same⟩,
  ⟨0x4100, 9, 4, 1, .u16, .rwp, 0x7FFF, 0, 0xFFFF, 0, some ⟨0x2C00104, 15, 0⟩, 0x10, 0, .same⟩,
  ⟨0x4100, 9, 5, 1, .u8, .rwp, 8, 1, 0x40, 0, some ⟨0x2C00100, 31, 24⟩, 0x10, 0, .same⟩,
  ⟨0x4100, 9, 0x10, 16, .blob, .rwp, 0, 0, 0, 12, some ⟨0x2C01000, 31, 16⟩, 0x100, 0x10, .pack⟩,
  ⟨0x4120, 2, 1, 1, .u16, .rwp, 0x1A8, 0, 0xFFFF, 0, some ⟨0x2C00400, 31, 16⟩, 0x10, 0, .same⟩,
  ⟨0x4120, 2, 2, 1, .u16, .rwp, 0x1900, 0, 0xFFFF, 0, some ⟨0x2C00400, 15, 0⟩, 0x10, 0, .same⟩,
  ⟨0x4120, 2, 3, 1, .q15, .rwp, 0x5000, 0, 0xFFFF, 0, some ⟨0x2C00404, 31, 16⟩, 0x10, 0, .same⟩,
  ⟨0x4120, 2, 4, 1, .u8, .rwp, 8, 1, 0x40, 0, some ⟨0x2C00404, 15, 8⟩, 0x10, 0, .same⟩,
  ⟨0x4120, 2, 5, 1, .u8, .rwp, 0x10, 0, 0xFF, 0, some ⟨0x2C00404, 7, 0⟩, 0x10, 0, .same⟩,
  ⟨0x4120, 2, 6, 1, .u16, .rwp, 0x180, 0, 0xFFFF, 0, some ⟨0x2C00408, 15, 0⟩, 0x10, 0, .same⟩,
  ⟨0x4130, 2, 1, 1, .u8, .rwp, 0x10, 8, 0x40, 0, some ⟨0x2C00500, 7, 0⟩, 4, 0, .same⟩,
  ⟨0x4130, 2, 2, 1, .q15, .rwp, 0x2000, 0, 0xFFFF, 0, some ⟨0x2C00500, 31, 16⟩, 4, 0, .same⟩,
  ⟨0x4130, 2, 3, 1, .u8, .rwp, 2, 0, 0x10, 0, some ⟨0x2C00500, 15, 8⟩, 4, 0, .same⟩,
  ⟨0x4140, 1, 1, 1, .u16, .rw, 0, 0, 0xFFFF, 0, some ⟨0x2C00600, 27, 24⟩, 0, 0, .same⟩,
  ⟨0x4140, 1, 2, 1, .u16, .rw, 0, 0, 2, 0, some ⟨0x2C00600, 23, 22⟩, 0, 0, .same⟩,
  ⟨0x4140, 1, 3, 1, .u16, .rw, 0, 0, 0xFFFF, 0, some ⟨0x2C00600, 15, 0⟩, 0, 0, .same⟩,
  ⟨0x4140, 1, 4, 1, .u16, .rw, 0, 0, 0xFFFF, 0, some ⟨0x2C00604, 15, 0⟩, 0, 0, .same⟩,
  ⟨0x4140, 1, 5, 1, .u16, .rw, 0, 0, 0xFFFF, 0, some ⟨0x2C00604, 31, 16⟩, 0, 0, .same⟩,
  ⟨0x4140, 1, 6, 1, .u16, .rw, 0, 0, 0xFFFF, 0, some ⟨0x2C00600, 19, 16⟩, 0, 0, .same⟩,
  ⟨0x4140, 1, 7, 1, .u8, .rw, 0x10, 0, 0xFF, 0, some ⟨0x2C00610, 19, 16⟩, 0, 0, .same⟩,
  ⟨0x4140, 1, 8, 1, .blob, .rw, 0, 0, 0, 128, some ⟨0x2C00680, 11, 0⟩, 0, 0, .pack⟩,
  ⟨0x4140, 1, 9, 1, .bool, .wo, 0, 0, 1, 0, none, 0, 0, .same⟩,
  ⟨0x4140, 1, 0xA, 1, .u8, .ro, 0, 0, 0xFF, 0, none, 0, 0, .same⟩,
  ⟨0x4140, 1, 0xB, 1, .blob, .ro, 0, 0, 0, 262144, none, 0, 0, .same⟩,
  ⟨0x4141, 1, 0, 1, .u8, .ro, 0, 0, 0xFF, 0, none, 0, 0, .same⟩,
  ⟨0x4141, 1, 1, 254, .blob, .ro, 0, 0, 0, 8, none, 0, 0, .same⟩,
  ⟨0x4142, 1, 1, 4, .u32, .ro, 0, 0, 0xFFFFFFFF, 0, none, 0, 0, .same⟩]

/-- Entries from 0x5000 to 0x5FFF, host and object service. -/
def dict5000 : List DictRow := [
  ⟨0x5100, 1, 1, 1, .u16, .rwp, 0x40, 0x10, 0x400, 0, some ⟨0x1600030, 10, 0⟩, 0, 0, .same⟩,
  ⟨0x5100, 1, 2, 1, .u8, .rwp, 4, 1, 0x20, 0, none, 0, 0, .same⟩,
  ⟨0x5200, 1, 1, 1, .u64, .rw, 0, 0, 0xFFFFFFFFFFFFFFFF, 0, none, 0, 0, .same⟩,
  ⟨0x5200, 1, 2, 1, .bool, .ro, 0, 0, 1, 0, none, 0, 0, .same⟩,
  ⟨0x5300, 1, 1, 255, .u32, .rwp, 0, 0, 0xFFFFFFFF, 0, none, 0, 0, .same⟩,
  ⟨0x5800, 1, 1, 1, .u8, .rwp, 8, 1, 8, 0, some ⟨0x4000004, 7, 4⟩, 0, 0, .same⟩,
  ⟨0x5800, 1, 2, 1, .u8, .rwp, 5, 1, 5, 0, some ⟨0x4000004, 3, 0⟩, 0, 0, .same⟩,
  ⟨0x5800, 1, 3, 1, .bool, .rwp, 0, 0, 1, 0, none, 0, 0, .same⟩,
  ⟨0x5800, 1, 4, 1, .u16, .rwp, 0x3E8, 0xA, 0xFFFF, 0, some ⟨0x4000004, 31, 16⟩, 0, 0, .same⟩]

/-- Entries from 0x6000 to 0x6FFF, migration and network. -/
def dict6000 : List DictRow := [
  ⟨0x6000, 1, 1, 1, .u8, .rwp, 2, 0, 2, 0, some ⟨0x4200000, 1, 0⟩, 0, 0, .same⟩,
  ⟨0x6000, 1, 2, 1, .u8, .rwp, 2, 0, 2, 0, some ⟨0x4200000, 3, 2⟩, 0, 0, .same⟩,
  ⟨0x6000, 1, 3, 1, .blob, .rwm, 0, 0, 0, 6, none, 0, 0, .same⟩,
  ⟨0x6000, 1, 4, 1, .blob, .rwp, 0, 0, 0, 16, none, 0, 0, .same⟩,
  ⟨0x6000, 1, 5, 1, .u16, .rwp, 0xBD60, 0, 0xFFFF, 0, none, 0, 0, .same⟩,
  ⟨0x6101, 16, 1, 1, .blob, .rwp, 0, 0, 0, 16, none, 0, 0, .same⟩,
  ⟨0x6101, 16, 2, 1, .blob, .rwp, 0, 0, 0, 16, none, 0, 0, .same⟩,
  ⟨0x6101, 16, 3, 1, .blob, .wo, 0, 0, 0, 32, none, 0, 0, .same⟩,
  ⟨0x6101, 16, 4, 1, .bool, .ro, 0, 0, 1, 0, none, 0, 0, .same⟩,
  ⟨0x6200, 1, 1, 1, .bool, .rwp, 0, 0, 1, 0, none, 0, 0, .same⟩,
  ⟨0x6200, 1, 2, 1, .u16, .rwp, 0x3E8, 0x64, 0xEA60, 0, none, 0, 0, .same⟩,
  ⟨0x6200, 1, 3, 1, .u16, .rwp, 0x1E, 5, 0x258, 0, none, 0, 0, .same⟩]

/-- Entries from 0x7000 to 0x7FFF, test and life cycle. -/
def dict7000 : List DictRow := [
  ⟨0x7000, 1, 1, 1, .u8, .ro, 0, 0, 0xFF, 0, some ⟨0x500000, 2, 0⟩, 0, 0, .same⟩,
  ⟨0x7000, 1, 2, 1, .u32, .wo, 0, 0, 0xFFFFFFFF, 0, none, 0, 0, .same⟩,
  ⟨0x7000, 1, 3, 1, .u8, .ro, 0, 0, 0xFF, 0, some ⟨0x500000, 15, 8⟩, 0, 0, .same⟩,
  ⟨0x7010, 1, 1, 1, .u32, .rw, 0, 0, 0xFFFFFFFF, 0, none, 0, 0, .same⟩,
  ⟨0x7010, 1, 2, 1, .bool, .wo, 0, 0, 1, 0, none, 0, 0, .same⟩,
  ⟨0x7010, 1, 3, 1, .u32, .ro, 0, 0, 0xFFFFFFFF, 0, some ⟨0x600004, 31, 0⟩, 0, 0, .same⟩,
  ⟨0x7020, 1, 1, 1, .u32, .rw, 0, 0, 0xFFFFFFFF, 0, none, 0, 0, .same⟩,
  ⟨0x7020, 1, 2, 1, .bool, .wo, 0, 0, 1, 0, none, 0, 0, .same⟩,
  ⟨0x7020, 1, 3, 1, .blob, .ro, 0, 0, 0, 16, none, 0, 0, .same⟩,
  ⟨0x7020, 1, 4, 1, .bool, .rw, 0, 0, 1, 0, none, 0, 0, .same⟩,
  ⟨0x7030, 1, 1, 1, .bool, .wo, 0, 0, 1, 0, none, 0, 0, .same⟩,
  ⟨0x7030, 1, 2, 1, .u16, .ro, 0, 0, 0xFFFF, 0, none, 0, 0, .same⟩]

/-- Entries from 0x8000 to 0x8FFF, statistics. -/
def dict8000 : List DictRow := [
  ⟨0x8010, 1, 1, 7, .u32, .ro, 0, 0, 0xFFFFFFFF, 0, none, 0, 0, .same⟩,
  ⟨0x8020, 1, 1, 5, .u32, .ro, 0, 0, 0xFFFFFFFF, 0, none, 0, 0, .same⟩,
  ⟨0x8030, 1, 1, 3, .u32, .ro, 0, 0, 0xFFFFFFFF, 0, none, 0, 0, .same⟩,
  ⟨0x8110, 2, 1, 5, .u32, .ro, 0, 0, 0xFFFFFFFF, 0, none, 0, 0, .same⟩,
  ⟨0x8120, 2, 1, 10, .u32, .ro, 0, 0, 0xFFFFFFFF, 0, none, 0, 0, .same⟩,
  ⟨0x8130, 2, 1, 13, .u32, .ro, 0, 0, 0xFFFFFFFF, 0, none, 0, 0, .same⟩,
  ⟨0x8130, 2, 0xE, 1, .u32, .ro, 0, 0, 0xFFFFFFFF, 0, none, 0, 0, .same⟩,
  ⟨0x8140, 2, 1, 5, .u32, .ro, 0, 0, 0xFFFFFFFF, 0, none, 0, 0, .same⟩,
  ⟨0x8150, 1, 1, 6, .u32, .ro, 0, 0, 0xFFFFFFFF, 0, none, 0, 0, .same⟩,
  ⟨0x8200, 1, 1, 7, .u32, .ro, 0, 0, 0xFFFFFFFF, 0, none, 0, 0, .same⟩,
  ⟨0x8210, 1, 1, 5, .u32, .ro, 0, 0, 0xFFFFFFFF, 0, none, 0, 0, .same⟩,
  ⟨0x8220, 1, 1, 7, .u32, .ro, 0, 0, 0xFFFFFFFF, 0, none, 0, 0, .same⟩,
  ⟨0x8300, 1, 1, 6, .u32, .ro, 0, 0, 0xFFFFFFFF, 0, none, 0, 0, .same⟩,
  ⟨0x8310, 1, 1, 7, .u32, .ro, 0, 0, 0xFFFFFFFF, 0, none, 0, 0, .same⟩,
  ⟨0x8320, 1, 1, 8, .u32, .ro, 0, 0, 0xFFFFFFFF, 0, none, 0, 0, .same⟩,
  ⟨0x8330, 1, 1, 6, .u32, .ro, 0, 0, 0xFFFFFFFF, 0, none, 0, 0, .same⟩,
  ⟨0x8340, 1, 1, 6, .u32, .ro, 0, 0, 0xFFFFFFFF, 0, none, 0, 0, .same⟩,
  ⟨0x8400, 24, 0, 1, .u8, .ro, 0, 0, 0xFF, 0, none, 0, 0, .same⟩,
  ⟨0x8400, 24, 1, 64, .u16, .ro, 0, 0, 0xFFFF, 0, none, 0, 0, .same⟩,
  ⟨0x8500, 24, 0, 1, .u8, .ro, 0, 0, 0xFF, 0, none, 0, 0, .same⟩,
  ⟨0x8500, 24, 1, 64, .u16, .ro, 0, 0, 0xFFFF, 0, none, 0, 0, .same⟩,
  ⟨0x8600, 24, 0, 1, .u8, .ro, 0, 0, 0xFF, 0, none, 0, 0, .same⟩,
  ⟨0x8600, 24, 1, 64, .u16, .ro, 0, 0, 0xFFFF, 0, none, 0, 0, .same⟩]

/-- The entries of the block of 4,096 indices that holds `idx` (R578). -/
def dictRowsAt (idx : Nat) : List DictRow :=
  match idx / 4096 with
  | 1 => dict1000
  | 2 => dict2000
  | 3 => dict3000
  | 4 => dict4000
  | 5 => dict5000
  | 6 => dict6000
  | 7 => dict7000
  | 8 => dict8000
  | _ => []

/-- Every entry. -/
def dictRows : List DictRow :=
  dict1000 ++ dict2000 ++ dict3000 ++ dict4000 ++ dict5000 ++ dict6000 ++ dict7000 ++ dict8000

end Sys2Proof.Machine
end

