-- ==== Sys2Proof/Machine/Format.lean ====
section
/-!
DEFINITION. The structures of the Zheax container: zone entries and the positions of sectors, Ivory blocks and
descriptors with their checks, tiles and trailers, records, journal blocks, roots and the defect list (R110 to R163, R705).
Choices: assumption log 12, 13.
-/
namespace Sys2Proof.Machine
open Sys2Proof

-- ---------------------------------------------------------------------------------------------------------------
-- Zones (R119, R139, R169, R187, R274)

/-- A zone entry (R139). -/
structure Zone where
  zone : Nat
  kind : Nat                  -- TYPE: 0 data, 1 journal
  sectors : Nat               -- S
  first : Nat
  tracks : Nat
  spare : Nat
  pos0 : Nat
  pitch : Nat
  tskew : Nat
  rate : Nat
  d : Nat
  doff : Nat
  gap : Nat
  resync : Nat
  deriving DecidableEq, Repr

/-- A zone entry from its 64 bytes. -/
def parseZone (b : List Byte) : Zone :=
  { zone := numAt b 0 1, kind := numAt b 1 1, sectors := numAt b 2 2, first := numAt b 4 4, tracks := numAt b 8 4,
    spare := numAt b 12 4, pos0 := numAt b 16 4, pitch := numAt b 20 2, tskew := numAt b 22 2, rate := numAt b 24 4,
    d := numAt b 28 4, doff := numAt b 32 2, gap := numAt b 34 2, resync := numAt b 36 2 }

/-- The 64 bytes of a zone entry. -/
def zoneBytes (z : Zone) : List Byte :=
  leBytes 1 z.zone ++ leBytes 1 z.kind ++ leBytes 2 z.sectors ++ leBytes 4 z.first ++ leBytes 4 z.tracks
    ++ leBytes 4 z.spare ++ leBytes 4 z.pos0 ++ leBytes 2 z.pitch ++ leBytes 2 z.tskew ++ leBytes 4 z.rate
    ++ leBytes 4 z.d ++ leBytes 2 z.doff ++ leBytes 2 z.gap ++ leBytes 2 z.resync ++ zeros 26

/-- The end of a sector that starts at bit `p` of counted wedge `w`: the wedge and the bit after its last one (R119). -/
def sectorEnd (z : Zone) (w p : Nat) : Nat × Nat :=
  let len := 36672
  let f := z.resync + 32
  if len ≤ z.d - p then (w, p + len)
  else
    let left := len - (z.d - p)
    let cap := z.d - f
    let full := (left - 1) / cap
    (w + 1 + full, f + (left - full * cap))

/-- The start of the sector that is placed when the procedure stands at `(w, p)` (R119). -/
def sectorStart (z : Zone) (w p : Nat) : Nat × Nat := if z.d - p < 192 then (w + 1, 0) else (w, p)

/-- Where the procedure stands after a sector that ended at `(w, p)`: behind its gap (R119). -/
def afterGap (z : Zone) (w p : Nat) : Nat × Nat := if p + z.gap ≥ z.d then (w + 1, 0) else (w, p + z.gap)

/-- A run of channel bits in the data area of one wedge: the physical wedge, the bit offset, the number of bits, and the bits, the first
one lowest. -/
structure Piece where
  wedge : Nat
  offset : Nat
  len : Nat
  bits : Nat
  deriving DecidableEq, Repr

/-- The rest of a sector, `left` bits, from the data area of counted wedge `w` on, each part behind a resync field (R118). -/
def laterPieces (fuel : Nat) (z : Zone) (w left bits : Nat) : List Piece :=
  match fuel with
  | 0 => []
  | k + 1 =>
    if left = 0 then []
    else
      let f := z.resync + 32
      let n := min left (z.d - f)
      ⟨w, 0, f + n, resyncBits z.resync + 2 ^ f * (bits % 2 ^ n)⟩ :: laterPieces k z (w + 1) (left - n) (bits / 2 ^ n)

/-- The bits of a sector that starts at bit `p` of counted wedge `w`, as servo fields split them (R118, R119). -/
def sectorPieces (z : Zone) (w p bits : Nat) : List Piece :=
  let n := min 36672 (z.d - p)
  ⟨w, p, n, bits % 2 ^ n⟩ :: laterPieces 512 z (w + 1) (36672 - n) (bits / 2 ^ n)

/-- The starts of `n` sectors from `(w, p)` on, and the wedge in which the last one ends (R119). -/
def placeSectors (z : Zone) (n w p last : Nat) : List (Nat × Nat) × Nat :=
  match n with
  | 0 => ([], last)
  | k + 1 =>
    let (w1, p1) := sectorStart z w p
    let (w2, p2) := sectorEnd z w1 p1
    let (w3, p3) := afterGap z w2 p2
    let (l, e) := placeSectors z k w3 p3 w2
    ((w1, p1) :: l, e)

/-- Where sector `n` of a track starts: the counted wedge and the bit in its data area (R119). -/
def startOf (z : Zone) (n : Nat) : Nat × Nat := ((placeSectors z (n + 1) 0 0 0).1.getLast?).getD (0, 0)

/-- The physical wedge of counted wedge `w` on data track `t`: the count starts at wedge (t × TSKEW) mod 512 (R119). -/
def physicalWedge (z : Zone) (t w : Nat) : Nat := (w + t * z.tskew) % 512

/-- The bits of sector `n` of data track `t`, each run at its physical wedge (R116 to R119). -/
def trackPieces (z : Zone) (t n bits : Nat) : List Piece :=
  (sectorPieces z (startOf z n).1 (startOf z n).2 bits).map (fun x => { x with wedge := physicalWedge z t x.wedge })

/-- The counted wedges that a sector starting at bit `p` of counted wedge `w` lies in. -/
def wedgesOf (z : Zone) (w p : Nat) : List Nat := (List.range ((sectorEnd z w p).1 + 1 - w)).map (fun i => w + i)

/-- The physical wedges that sector `n` of data track `t` lies in. -/
def sectorWedges (z : Zone) (t n : Nat) : List Nat :=
  (wedgesOf z (startOf z n).1 (startOf z n).2).map (physicalWedge z t)

/-- The sectors of data track `t` that lie, with some part, under one of the physical wedges `ws` (R268). -/
def sectorsUnder (z : Zone) (t : Nat) (ws : List Nat) : List Nat :=
  (((placeSectors z z.sectors 0 0 0).1.zipIdx).filter (fun x =>
    (wedgesOf z x.1.1 x.1.2).any (fun w => ws.contains (physicalWedge z t w)))).map (·.2)

/-- Sector `n + 1` starts in the wedge in which sector `n` ends, so that no servo field lies between them (R261). -/
def sameWedge (z : Zone) (n : Nat) : Bool :=
  (sectorEnd z (startOf z n).1 (startOf z n).2).1 = (startOf z (n + 1)).1

/-- The delay of bit `i` of a run, in 1/64 bit: of a transition, by how far back the transition before it lies, with PCR more for one from
0 to 1; at most 31. What stands before the run's first bit counts as no transition (R260). -/
def precompDelay (pc1 pc2 pcr bits i : Nat) : Nat :=
  let turns (j : Nat) : Bool := j ≥ 1 && bitOf bits j != bitOf bits (j - 1)
  if !turns i then 0
  else min 31 ((if turns (i - 1) then pc1 else if i ≥ 2 && turns (i - 2) then pc2 else 0) + (if bitOf bits i then pcr else 0))

/-- Whether a layout of `s` sectors is valid: the last pad ends before counted wedge 512 (R119). -/
def layoutValid (z : Zone) (s : Nat) : Bool :=
  z.d > z.resync + 32 && z.d ≥ 192 && (placeSectors z s 0 0 0).2 < 512

/-- The largest number of sectors, a multiple of 32 from 32 to 4,064, that is valid (R126, R244). -/
def largestLayout (z : Zone) : Nat :=
  ((List.range 127).foldl (fun best i => if layoutValid z (32 * (i + 1)) then 32 * (i + 1) else best) 0)

/-- R274, with SRATE in 0.1 Mb/s, WG_LEAD in ns and the nominal speed in rpm. -/
def spliceOk (z : Zone) (srate lead rpm : Nat) : Bool :=
  z.doff * 1000000 * srate ≥ (1300000 + (160 + lead) * srate) * z.rate
    && (z.doff + z.d) * 1000000 * (rpm * 512) * srate + (300000 * (rpm * 512) + 100 * (rpm * 512) * srate) * z.rate
        ≤ 60000000000 * srate * z.rate

/-- Whether the part can use the zone (R119, R126, R139, R169, R187, R274). -/
def zoneOk (z : Zone) (srate lead rpm : Nat) : Bool :=
  z.kind ≤ 1 && z.sectors % 32 = 0 && 32 ≤ z.sectors && z.sectors ≤ 4064 && z.tracks != 0 && z.spare < z.tracks
    && 700000 ≤ z.rate && z.rate ≤ 4000000 && 96 ≤ z.resync && z.resync ≤ 512 && z.resync % 4 = 0
    && layoutValid z z.sectors && spliceOk z srate lead rpm

/-- Zones run from 0 in order and are contiguous in data track number from track 0 (R139, R705). -/
def zonesChain (l : List Zone) (n first : Nat) : Bool :=
  match l with
  | [] => true
  | z :: t => z.zone = n && z.first = first && zonesChain t (n + 1) (first + z.tracks)

/-- A surface: its head, N_S and its zones. -/
structure Surface where
  head : Nat
  servoTracks : Nat
  zones : List Zone
  deriving DecidableEq, Repr

/-- The zone of a surface that holds data track `t`. -/
def zoneOfTrack (zs : List Zone) (t : Nat) : Option Zone := zs.find? (fun z => z.first ≤ t && t < z.first + z.tracks)

/-- Data sectors of one track of a zone (R126). -/
def dataPerTrack (z : Zone) : Nat := z.sectors / 32 * 30

/-- The i-th data sector of the data sector sequence of a zone from its track `t0` on (R148). -/
def dataSector (head : Nat) (z : Zone) (i : Nat) : Nat :=
  let per := dataPerTrack z
  let r := i % per
  psaOf head (z.first + i / per) (r / 30 * 32 + r % 30)

/-- A data track of the zone lies within 16 servo tracks of servo track `slot`: the first track centre at or above slot − 16 lies at or
below slot + 16 (R133, R139). -/
def nearSlot (z : Zone) (slot : Nat) : Bool :=
  let j := if z.pitch = 0 then 0 else ceilDiv (256 * slot - 4096 - z.pos0) z.pitch
  let c := z.pos0 + j * z.pitch
  j < z.tracks && 256 * slot ≤ c + 4096 && c ≤ 256 * slot + 4096

/-- Servo track ids of the Ivory slots (R133). -/
def ivorySlots (ns : Nat) : List Nat :=
  (List.range 4).map (fun i => 1024 + 256 * i) ++ (List.range 4).map (fun i => ns - 1 - 1024 - 256 * i)

-- ---------------------------------------------------------------------------------------------------------------
-- Ivory blocks and descriptors (R136 to R138, R705)

/-- What the drive's descriptors have in common (R138). -/
structure Drive where
  rpm : Nat
  nsurf : Nat
  driveId : List Byte
  formatTime : Nat
  rootTrack : Nat
  deriving DecidableEq, Repr

/-- The constants from PRE_BITS to TRAILER_VERSION and ROOT_SLOTS, offsets 0x030 to 0x07F (R138). -/
def descriptorConstants : List Byte :=
  leBytes 2 128 ++ [0x0C, 0] ++ leBytes 4 syncMark ++ leBytes 2 32 ++ leBytes 2 33024 ++ leBytes 2 36480 ++ zeros 2
    ++ [31, 28, 1] ++ zeros 13 ++ leBytes 2 384 ++ [9, 95, 3, 1] ++ zeros 2 ++ leBytes 4 0x4D7A1C05 ++ zeros 4
    ++ leBytes 4 0x1100B ++ [32, 30, 16] ++ zeros 9 ++ [1] ++ zeros 15

/-- The descriptor of a surface (R138). -/
def descriptorBytes (d : Drive) (s : Surface) : List Byte :=
  let len := 256 + 64 * s.zones.length
  [0x5A, 0x68, 0x78, 0x44] ++ leBytes 2 1 ++ leBytes 2 (ceilDiv len 512) ++ leBytes 4 len ++ leBytes 2 d.rpm
    ++ leBytes 1 d.nsurf ++ leBytes 1 s.head ++ slice d.driveId 0 16 ++ leBytes 8 d.formatTime
    ++ leBytes 1 s.zones.length ++ leBytes 1 (actuatorOf s.head) ++ zeros 2 ++ leBytes 4 s.servoTracks
    ++ descriptorConstants ++ leBytes 4 d.rootTrack ++ [16] ++ zeros 11
    ++ (ivorySlots s.servoTracks).flatMap (fun t => leBytes 4 t) ++ zeros 80 ++ s.zones.flatMap zoneBytes

/-- An Ivory information block: header and 512 B of payload (R136). -/
def ivoryBlock (desc : List Byte) (b copy surface : Nat) : List Byte :=
  let h := [0x5A, 0x68, 0x78, 0x49] ++ leBytes 2 1 ++ leBytes 2 b ++ leBytes 2 (ceilDiv desc.length 512)
    ++ leBytes 1 copy ++ leBytes 1 surface
  let p := slice desc (512 * b) 512
  h ++ leBytes 4 (crc32 (h ++ p)).toNat ++ p

/-- Every Ivory sector of a slot by its wedge: copy c of block b in wedge 170 × c + b (R137). -/
def ivorySectors (desc : List Byte) (surface : Nat) : List (Nat × List Byte) :=
  (List.range 3).flatMap (fun c =>
    (List.range (ceilDiv desc.length 512)).map (fun b => (170 * c + b, ivoryBlock desc b c surface)))

/-- An Ivory block counts: its MAGIC and its CRC check (R136, R705). -/
def ivoryOk (blk : List Byte) : Bool :=
  slice blk 0 4 = [0x5A, 0x68, 0x78, 0x49] && numAt blk 12 4 = (crc32 (slice blk 0 12 ++ slice blk 16 512)).toNat

/-- The descriptor assembled from the Ivory blocks read, and whether every header carries VERSION 1; none when some block
has no copy (R137, R705). -/
def assembleIvory (blocks : List (List Byte)) : Option (List Byte × Bool) :=
  let good := blocks.filter ivoryOk
  match good with
  | [] => none
  | g :: _ =>
    let n := numAt g 8 2
    let parts := (List.range n).map (fun b => good.find? (fun x => numAt x 6 2 = b))
    if parts.all (·.isSome) then
      some ((parts.map (fun x => slice (x.getD []) 16 512)).flatten, good.all (fun x => numAt x 4 2 = 1))
    else none

def descZones (d : List Byte) : List Zone :=
  (List.range (numAt d 0x28 1)).map (fun i => parseZone (slice d (256 + 64 * i) 64))
def descSurface (d : List Byte) : Surface := ⟨numAt d 0x0F 1, numAt d 0x2C 4, descZones d⟩
def descDrive (d : List Byte) : Drive :=
  ⟨numAt d 0x0C 2, numAt d 0x0E 1, slice d 0x10 16, numAt d 0x20 8, numAt d 0x80 4⟩

/-- Bytes 0x030 to 0x07F without the reserved fields, which are not checked (R110, R705). -/
def constantsOf (d : List Byte) : List Byte :=
  slice d 0x30 3 ++ slice d 0x34 10 ++ slice d 0x40 3 ++ slice d 0x50 6 ++ slice d 0x58 4 ++ slice d 0x60 7
    ++ slice d 0x70 1 ++ slice d 0x84 1

/-- The same bytes of a descriptor the part writes. -/
def constantsWant : List Byte :=
  let d := zeros 0x30 ++ descriptorConstants ++ zeros 4 ++ [16]
  constantsOf d

/-- The fields from 0x000 to 0x0FF that must agree between surfaces: all but SURFACE, ACTUATOR, SERVO_TRACKS and the
reserved fields (R110, R705). -/
def commonOf (d : List Byte) : List Byte :=
  slice d 0 15 ++ slice d 0x10 25 ++ constantsOf d ++ slice d 0x80 4 ++ slice d 0x90 32

/-- A defect of one surface's descriptor that R705 names, apart from the comparison between surfaces. -/
def descriptorDefect (d : List Byte) (versionOk : Bool) (head srate lead : Nat) : Bool :=
  let nz := numAt d 0x28 1
  let len := 256 + 64 * nz
  let rpm := numAt d 0x0C 2
  let zs := descZones d
  let root := numAt d 0x80 4
  let rootBad := (head = 0 || head = 12) &&
    !(match zoneOfTrack zs root with | some z => z.kind = 1 | none => false)
  !versionOk || numAt d 4 2 != 1 || slice d 0 4 != [0x5A, 0x68, 0x78, 0x44]
    || numAt d 8 4 != len || numAt d 6 2 != ceilDiv len 512 || nz = 0 || nz > 64
    || rpm < 3600 || rpm > 7200 || numAt d 0x0E 1 < 2 || numAt d 0x0E 1 > 24
    || numAt d 0x0F 1 != head || numAt d 0x29 1 != actuatorOf head
    || constantsOf d != constantsWant
    || slice d 0x90 32 != (ivorySlots (numAt d 0x2C 4)).flatMap (fun t => leBytes 4 t)
    || !zonesChain zs 0 0 || zs.any (fun z => !zoneOk z srate lead rpm)
    || !zs.any (fun z => z.kind = 1) || rootBad

-- ---------------------------------------------------------------------------------------------------------------
-- Tiles (R141 to R145)

/-- The key hash (R142). -/
def keyHash (key : List Byte) : List Byte := (sha256 (slice key 0 16)).take 8

/-- A tile: 4,096 data bytes and the trailer (R141, R143). -/
def tileBytes (data hash : List Byte) (segment tile flags valid wseq : Nat) : List Byte :=
  let d := slice data 0 4096
  d ++ leBytes 8 (crc64 d).toNat ++ slice hash 0 8 ++ leBytes 4 segment ++ leBytes 4 tile ++ leBytes 1 flags ++ [0]
    ++ leBytes 2 valid ++ leBytes 4 wseq

def tileData (t : List Byte) : List Byte := slice t 0 4096
def tileTag (t : List Byte) : List Byte := slice t 4104 16
def tileType (t : List Byte) : Nat := bitsOf (numAt t 4120 1) 2 0
def tileValid (t : List Byte) : Nat := numAt t 4122 2
def tileWseq (t : List Byte) : Nat := numAt t 4124 4
/-- The CRC-64 of a tile holds. -/
def tileCrcOk (t : List Byte) : Bool := numAt t 4096 8 = (crc64 (tileData t)).toNat
/-- The object tag a tile should carry. -/
def tagOf (hash : List Byte) (segment tile : Nat) : List Byte := slice hash 0 8 ++ leBytes 4 segment ++ leBytes 4 tile

/-- A tile with another WSEQ and FLAGS (R161, R238). -/
def tileStamp (t : List Byte) (reloc : Bool) (wseq : Nat) : List Byte :=
  let f := numAt t 4120 1
  slice t 0 4120 ++ leBytes 1 (if reloc && !bitOf f 4 then f + 16 else f) ++ slice t 4121 3 ++ leBytes 4 wseq

/-- A fill tile (R145). -/
def fillTile (wseq : Nat) : List Byte := tileBytes [] (zeros 8) 0 0 4 4096 wseq

-- ---------------------------------------------------------------------------------------------------------------
-- Records (R152, R153)

/-- An extent: COUNT sectors of a zone's data sector sequence from PSA on, for tiles from FIRSTTILE on. -/
structure Extent where
  psa : Nat
  first : Nat
  count : Nat
  deriving DecidableEq, Repr

/-- A record's body (R153); keys are the 16 key bytes as a big-endian number. -/
inductive Rec where
  | segment (key ver seg tiles lastValid : Nat) (ext : List Extent)
  | seal (key ver size ctime : Nat) (sha : List Byte) (segcount rclass : Nat)
  | tombstone (key ver : Nat)
  | retention (key ver till rclass : Nat)
  | reloc (key ver seg tile oldPsa newPsa : Nat)
  | defect (psa reason : Nat)
  deriving DecidableEq, Repr

def recType (r : Rec) : Nat :=
  match r with
  | .segment .. => 1
  | .seal .. => 2
  | .tombstone .. => 3
  | .retention .. => 4
  | .reloc .. => 5
  | .defect .. => 6

def keyBytes (key : Nat) : List Byte := beBytes 16 key

def extentBytes (e : Extent) : List Byte := leBytes 8 e.psa ++ leBytes 2 e.first ++ leBytes 2 e.count ++ zeros 4

def recBody (r : Rec) : List Byte :=
  match r with
  | .segment key ver seg tiles lastValid ext =>
    keyBytes key ++ leBytes 8 ver ++ leBytes 4 seg ++ leBytes 2 tiles ++ leBytes 2 lastValid ++ leBytes 1 ext.length
      ++ zeros 3 ++ ext.flatMap extentBytes
  | .seal key ver size ctime sha segcount rclass =>
    keyBytes key ++ leBytes 8 ver ++ leBytes 8 size ++ leBytes 8 ctime ++ slice sha 0 32 ++ leBytes 4 segcount
      ++ leBytes 1 rclass ++ zeros 3
  | .tombstone key ver => keyBytes key ++ leBytes 8 ver
  | .retention key ver till rclass => keyBytes key ++ leBytes 8 ver ++ leBytes 8 till ++ leBytes 1 rclass ++ zeros 7
  | .reloc key ver seg tile oldPsa newPsa =>
    keyBytes key ++ leBytes 8 ver ++ leBytes 4 seg ++ leBytes 2 tile ++ zeros 2 ++ leBytes 8 oldPsa ++ leBytes 8 newPsa
  | .defect psa reason => leBytes 8 psa ++ leBytes 1 reason ++ zeros 7

/-- A whole record: header, body, CRC-32 (R152). -/
def recBytes (seq : Nat) (r : Rec) : List Byte :=
  let body := recBody r
  let h := leBytes 1 (recType r) ++ [0] ++ leBytes 2 (body.length + 20) ++ zeros 4 ++ leBytes 8 seq ++ body
  h ++ leBytes 4 (crc32 h).toNat

/-- A record's body from its bytes; none for a TYPE R153 does not list. -/
def parseRec (b : List Byte) : Option Rec :=
  let key := beNat (slice b 16 16)
  let ver := numAt b 32 8
  match numAt b 0 1 with
  | 1 => some (.segment key ver (numAt b 40 4) (numAt b 44 2) (numAt b 46 2)
      ((List.range (numAt b 48 1)).map (fun i => ⟨numAt b (52 + 16 * i) 8, numAt b (60 + 16 * i) 2, numAt b (62 + 16 * i) 2⟩)))
  | 2 => some (.seal key ver (numAt b 40 8) (numAt b 48 8) (slice b 56 32) (numAt b 88 4) (numAt b 92 1))
  | 3 => some (.tombstone key ver)
  | 4 => some (.retention key ver (numAt b 40 8) (numAt b 48 1))
  | 5 => some (.reloc key ver (numAt b 40 4) (numAt b 44 2) (numAt b 48 8) (numAt b 56 8))
  | 6 => some (.defect (numAt b 16 8) (numAt b 24 1))
  | _ => none

/-- The records packed in a tile from byte `o` on, and the key and version named by each that failed its CRC (R151, R152,
R156). -/
def parseRecs (fuel : Nat) (b : List Byte) (o : Nat) : List (Nat × Rec) × List (Nat × Nat) :=
  match fuel with
  | 0 => ([], [])
  | f + 1 =>
    let len := numAt b (o + 2) 2
    if numAt b o 1 = 0 || o + 16 > 4096 || len < 20 || o + len > 4096 then ([], [])
    else
      let (l, bad) := parseRecs f b (o + len)
      let body := slice b o len
      if numAt b (o + len - 4) 4 = (crc32 (slice b o (len - 4))).toNat then
        match parseRec body with
        | some r => ((numAt b (o + 8) 8, r) :: l, bad)
        | none => (l, bad)
      else (l, (beNat (slice body 16 16), numAt body 32 8) :: bad)

/-- How many of the records fit in `room` bytes. -/
def fitting (room : Nat) (l : List (Nat × Rec)) : List (Nat × Rec) :=
  match l with
  | [] => []
  | (q, r) :: t =>
    let n := (recBytes q r).length
    if n ≤ room then (q, r) :: fitting (room - n) t else []

-- ---------------------------------------------------------------------------------------------------------------
-- Journal blocks, checkpoint tiles, roots, the defect list (R151, R158, R160, R163)

/-- The tile of a journal block (R145, R151). -/
def journalTile (k bseq : Nat) (recs : List (Nat × Rec)) (wseq : Nat) : List Byte :=
  let d := [0x5A, 0x4A, 0x42, 0x31] ++ leBytes 1 k ++ [0] ++ leBytes 2 recs.length ++ leBytes 8 bseq
    ++ leBytes 8 ((recs.headD (0, .defect 0 0)).1) ++ zeros 8 ++ recs.flatMap (fun p => recBytes p.1 p.2)
  tileBytes d (zeros 8) (bseq % 2 ^ 32) k 1 4096 wseq

/-- Records that one journal block takes. -/
def journalFit (l : List (Nat × Rec)) : List (Nat × Rec) := fitting 4064 l

/-- The tiles of a checkpoint: records packed from byte 0 of each (R158). `fuel` bounds the tiles. -/
def checkpointTiles (fuel : Nat) (recs : List (Nat × Rec)) (i wseq : Nat) : List (List Byte) :=
  match fuel with
  | 0 => []
  | f + 1 =>
    match recs with
    | [] => []
    | _ =>
      let now := fitting 4096 recs
      let d := now.flatMap (fun p => recBytes p.1 p.2)
      tileBytes d (zeros 8) i 0 2 4096 wseq :: checkpointTiles f (recs.drop (max 1 now.length)) (i + 1) (wseq + 1)

/-- A grown defect: PSA, REASON, TIME (R163). -/
structure Defect where
  psa : Nat
  reason : Nat
  time : Nat
  deriving DecidableEq, Repr

/-- The tiles of the defect list, 255 entries in each (R163). An empty list has none, where one tile with COUNT 0 would do as well (DESIGN
CHOICE, assumption log 69). -/
def defectTiles (fuel : Nat) (l : List Defect) (i wseq : Nat) : List (List Byte) :=
  match fuel with
  | 0 => []
  | f + 1 =>
    match l with
    | [] => []
    | _ =>
      let now := l.take 255
      let d := leBytes 4 now.length ++ zeros 12
        ++ now.flatMap (fun e => leBytes 8 (e.psa + e.reason * 2 ^ 40) ++ leBytes 8 e.time)
      tileBytes d (zeros 8) i 0 5 4096 wseq :: defectTiles f (l.drop 255) (i + 1) (wseq + 1)

/-- The entries of a defect-list tile. -/
def parseDefects (t : List Byte) : List Defect :=
  (List.range (numAt t 0 4)).map (fun i =>
    let e := numAt t (16 * i + 16) 8
    ⟨bitsOf e 39 0, bitsOf e 47 40, numAt t (16 * i + 24) 8⟩)

/-- A root record (R160). Extents are (PSA, COUNT) runs. -/
structure Root where
  rootSeq : Nat
  ckptSeq : Nat
  ckpt : List (Nat × Nat)
  ckptTiles : Nat
  defects : List (Nat × Nat)
  head0 : Nat × Nat           -- PSA and BLOCK_SEQ of the first block of stream 0 to replay
  head1 : Nat × Nat
  time : Nat
  deriving DecidableEq, Repr

/-- The tile of a root record (R160). -/
def rootTile (r : Root) (wseq : Nat) : List Byte :=
  let run (e : Nat × Nat) : List Byte := leBytes 8 e.1 ++ leBytes 4 e.2 ++ zeros 4
  let d := [0x5A, 0x52, 0x54, 0x31] ++ leBytes 2 1 ++ leBytes 2 r.ckpt.length ++ leBytes 8 r.rootSeq ++ leBytes 8 r.ckptSeq
    ++ leBytes 4 r.ckptTiles ++ leBytes 2 r.defects.length ++ zeros 2 ++ leBytes 8 r.head0.1 ++ leBytes 8 r.head0.2
    ++ leBytes 8 r.head1.1 ++ leBytes 8 r.head1.2 ++ leBytes 8 r.time ++ zeros 56
    ++ (r.ckpt ++ r.defects).flatMap run
  let body := slice d 0 4092
  tileBytes (body ++ leBytes 4 (crc32 body).toNat) (zeros 8) (r.rootSeq % 2 ^ 32) 0 3 4096 wseq

/-- A root record from its tile; none when its MAGIC, VERSION or CRC does not hold (R159, R160). -/
def parseRoot (t : List Byte) : Option Root :=
  let run (i : Nat) : Nat × Nat := (numAt t (128 + 16 * i) 8, numAt t (136 + 16 * i) 4)
  if slice t 0 4 = [0x5A, 0x52, 0x54, 0x31] && numAt t 4 2 = 1 && numAt t 4092 4 = (crc32 (slice t 0 4092)).toNat then
    let n := numAt t 6 2
    some { rootSeq := numAt t 8 8, ckptSeq := numAt t 16 8, ckpt := (List.range n).map run, ckptTiles := numAt t 24 4,
           defects := (List.range (numAt t 28 2)).map (fun i => run (n + i)), head0 := (numAt t 32 8, numAt t 40 8),
           head1 := (numAt t 48 8, numAt t 56 8), time := numAt t 64 8 }
  else none

end Sys2Proof.Machine
end

