-- ==== Sys2Proof/Machine/RegTable.lean ====
section
/-!
DEFINITION. Every register of the spec with its fields: bits, access code (R8), Host column (R9) and reset value
(the register tables of spec/02 to spec/20, one definition per unit of R34).
-/
namespace Sys2Proof.Machine
open Sys2Proof

/-- Registers of unit PLT (R34). -/
def regsPlt : List RegRow := [
  -- PLT_ID
  ⟨0, 0, 1, 0, [⟨31, 16, .ro, .n, 0x480⟩, ⟨15, 8, .ro, .n, 0⟩, ⟨7, 0, .ro, .n, 0xB0⟩]⟩,
  -- PLT_STAGE
  ⟨0, 0x10, 1, 0, [⟨23, 16, .ro, .n, 0⟩, ⟨15, 8, .ro, .n, 0⟩, ⟨2, 2, .ro, .n, 0⟩, ⟨1, 0, .ro, .n, 0⟩]⟩,
  -- PLT_RSTCAUSE
  ⟨0, 0x14, 1, 0, [⟨12, 12, .w1c, .y, 0⟩, ⟨11, 11, .w1c, .y, 0⟩, ⟨10, 10, .w1c, .y, 0⟩, ⟨9, 9, .w1c, .y, 0⟩, ⟨8, 8, .w1c, .y, 0⟩, ⟨7, 7, .w1c, .y, 0⟩, ⟨6, 6, .w1c, .y, 0⟩, ⟨5, 5, .w1c, .y, 0⟩, ⟨4, 4, .w1c, .y, 0⟩, ⟨3, 3, .w1c, .y, 0⟩, ⟨2, 2, .w1c, .y, 0⟩, ⟨1, 1, .w1c, .y, 0⟩, ⟨0, 0, .w1c, .y, 0⟩]⟩,
  -- PLT_RSTREQ
  ⟨0, 0x18, 1, 0, [⟨31, 16, .wo, .y, 0⟩, ⟨6, 6, .wo, .m, 0⟩, ⟨5, 5, .wo, .m, 0⟩, ⟨4, 4, .wo, .m, 0⟩, ⟨3, 3, .wo, .y, 0⟩, ⟨2, 2, .wo, .y, 0⟩, ⟨1, 1, .wo, .m, 0⟩, ⟨0, 0, .wo, .y, 0⟩]⟩]

/-- Registers of unit TNT (R34). -/
def regsTnt : List RegRow := [
  -- TNT_TOTAL
  ⟨2, 0x200000, 1, 0, [⟨10, 0, .ro, .n, 0x600⟩]⟩,
  -- TNT_CLASS
  ⟨2, 0x200100, 16, 4, [⟨17, 17, .ro, .n, 0⟩, ⟨16, 16, .rw, .m, 0⟩, ⟨10, 0, .rw, .m, 0⟩]⟩,
  -- TNT_STAT
  ⟨2, 0x200200, 16, 4, [⟨31, 16, .rc, .n, 0⟩, ⟨10, 0, .ro, .n, 0⟩]⟩,
  -- TNT_MT
  ⟨2, 0x200400, 2, 16, [⟨31, 31, .rw, .m, 1⟩, ⟨25, 16, .rw, .n, 0⟩, ⟨9, 0, .rw, .m, 0x1F⟩]⟩,
  -- TNT_MTSTAT
  ⟨2, 0x200404, 2, 16, [⟨31, 16, .rc, .n, 0⟩, ⟨9, 0, .ro, .n, 0⟩]⟩,
  -- TNT_CORE
  ⟨2, 0x200500, 1, 0, [⟨14, 8, .rw, .m, 0x19⟩, ⟨6, 0, .rw, .m, 0x1E⟩]⟩]

/-- Registers of unit FCL (R34). -/
def regsFcl : List RegRow := [
  -- FCL_CTRL
  ⟨3, 0x300000, 1, 0, [⟨1, 0, .rwl, .m, 1⟩]⟩,
  -- FCL_STATUS
  ⟨3, 0x300004, 1, 0, [⟨25, 16, .ro, .n, 0⟩, ⟨15, 15, .ro, .n, 0⟩, ⟨14, 12, .ro, .n, 0⟩, ⟨11, 11, .ro, .n, 0⟩, ⟨10, 9, .ro, .n, 0⟩, ⟨8, 0, .ro, .n, 0⟩]⟩,
  -- FCL_SEV
  ⟨3, 0x300100, 32, 4, [⟨31, 0, .rwl, .m, 0⟩]⟩,
  -- FCL_STICKY
  ⟨3, 0x300200, 16, 4, [⟨31, 0, .w1c, .y, 0⟩]⟩,
  -- FCL_CNT
  ⟨3, 0x300300, 1, 0, [⟨31, 16, .rc, .n, 0⟩, ⟨15, 0, .rc, .n, 0⟩]⟩]

/-- Registers of unit EVT (R34). -/
def regsEvt : List RegRow := [
  -- EVT_STAT
  ⟨4, 0x400000, 1, 0, [⟨15, 0, .rc, .n, 0⟩]⟩,
  -- EVT_ROUTE
  ⟨4, 0x401000, 1024, 4, [⟨11, 11, .rw, .y, 0⟩, ⟨10, 10, .rw, .y, 0⟩, ⟨9, 9, .rw, .y, 0⟩, ⟨8, 0, .rw, .y, 0⟩]⟩]

/-- Registers of unit LCM (R34). -/
def regsLcm : List RegRow := [
  -- LCM_STATE
  ⟨5, 0x500000, 1, 0, [⟨16, 16, .ro, .n, 1⟩, ⟨15, 8, .ro, .n, 0xFF⟩, ⟨2, 0, .ro, .n, 0⟩]⟩,
  -- LCM_FUSE
  ⟨5, 0x500004, 1, 0, [⟨31, 0, .ro, .n, 0⟩]⟩,
  -- LCM_DEBUG
  ⟨5, 0x500008, 1, 0, [⟨2, 2, .ro, .n, 0⟩, ⟨1, 1, .ro, .n, 0⟩, ⟨0, 0, .ro, .n, 0⟩]⟩]

/-- Registers of unit TST (R34). -/
def regsTst : List RegRow := [
  -- TST_CTRL
  ⟨6, 0x600000, 1, 0, [⟨31, 31, .wo, .m, 0⟩, ⟨20, 16, .rw, .m, 0⟩, ⟨3, 0, .rw, .m, 0⟩]⟩,
  -- TST_STATUS
  ⟨6, 0x600004, 1, 0, [⟨31, 31, .ro, .n, 0⟩, ⟨30, 28, .ro, .n, 0⟩, ⟨15, 0, .ro, .n, 0⟩]⟩,
  -- TST_MREP
  ⟨6, 0x600010, 1, 0, [⟨31, 16, .ro, .n, 0⟩, ⟨15, 0, .ro, .n, 0⟩]⟩,
  -- TST_LBCTL
  ⟨6, 0x600100, 1, 0, [⟨31, 31, .wo, .m, 0⟩, ⟨30, 30, .wo, .m, 0⟩, ⟨26, 24, .rw, .m, 0⟩, ⟨21, 20, .rw, .m, 0⟩, ⟨19, 16, .rw, .m, 0⟩, ⟨15, 14, .rw, .m, 2⟩, ⟨11, 0, .rw, .m, 0x64⟩]⟩,
  -- TST_LBSTAT
  ⟨6, 0x600104, 1, 0, [⟨31, 31, .ro, .n, 0⟩, ⟨30, 28, .ro, .n, 0⟩, ⟨27, 0, .ro, .n, 0⟩]⟩,
  -- TST_FAULTCAP
  ⟨6, 0x600200, 1, 0, [⟨31, 31, .w1c, .m, 0⟩, ⟨14, 9, .ro, .n, 0⟩, ⟨8, 0, .ro, .n, 0⟩]⟩]

/-- Registers of unit NVC (R34). -/
def regsNvc : List RegRow := [
  -- NVC_STATUS
  ⟨7, 0x700000, 1, 0, [⟨15, 11, .ro, .n, 0⟩, ⟨10, 8, .ro, .n, 0⟩, ⟨5, 4, .ro, .n, 0⟩, ⟨0, 0, .ro, .n, 0⟩]⟩,
  -- NVC_CMD
  ⟨7, 0x700004, 1, 0, [⟨31, 31, .wo, .n, 0⟩, ⟨30, 29, .rw, .n, 0⟩, ⟨28, 21, .rw, .n, 0⟩, ⟨20, 18, .rw, .n, 0⟩, ⟨17, 15, .rw, .n, 0⟩, ⟨10, 0, .rw, .n, 0⟩]⟩,
  -- NVC_FETCHLOCK
  ⟨7, 0x700008, 1, 0, [⟨3, 0, .ro, .n, 1⟩]⟩,
  -- NVC_LASTOP
  ⟨7, 0x70000C, 1, 0, [⟨31, 31, .w1c, .n, 0⟩, ⟨13, 12, .ro, .n, 0⟩, ⟨10, 0, .ro, .n, 0⟩]⟩,
  -- NVC_PROT
  ⟨7, 0x700010, 1, 0, [⟨20, 20, .ro, .n, 0⟩, ⟨19, 16, .ro, .n, 0⟩, ⟨15, 0, .ro, .n, 3⟩]⟩,
  -- NVC_PWD
  ⟨7, 0x700020, 4, 4, [⟨31, 0, .wo, .n, 0⟩]⟩,
  -- NVC_UNLOCK
  ⟨7, 0x700030, 1, 0, [⟨31, 31, .wo, .n, 0⟩, ⟨30, 30, .wo, .n, 0⟩]⟩,
  -- NVC_REGION
  ⟨7, 0x700040, 16, 4, [⟨31, 31, .ro, .n, 0⟩, ⟨26, 16, .ro, .n, 0⟩, ⟨10, 0, .ro, .n, 0⟩]⟩,
  -- NVC_BUF
  ⟨7, 0x700100, 64, 4, [⟨31, 0, .rw, .n, 0xFFFFFFFF⟩]⟩]

/-- Registers of unit BMC (R34). -/
def regsBmc : List RegRow := [
  -- BMC_CFG
  ⟨8, 0x1000000, 1, 0, [⟨8, 8, .ro, .n, 0⟩, ⟨4, 4, .ro, .n, 1⟩, ⟨1, 0, .ro, .n, 0⟩]⟩,
  -- BMC_STATUS
  ⟨8, 0x1000004, 1, 0, [⟨3, 3, .ro, .n, 0⟩, ⟨2, 2, .ro, .n, 0⟩, ⟨1, 1, .ro, .n, 0⟩, ⟨0, 0, .ro, .n, 0⟩]⟩,
  -- BMC_INITPOS
  ⟨8, 0x1000008, 1, 0, [⟨14, 0, .ro, .n, 0⟩]⟩,
  -- BMC_ECCCNT
  ⟨8, 0x1000010, 1, 0, [⟨31, 16, .rc, .n, 0⟩, ⟨15, 0, .rc, .n, 0⟩]⟩,
  -- BMC_ECCLOG
  ⟨8, 0x1000014, 1, 0, [⟨31, 30, .ro, .n, 0⟩, ⟨29, 0, .ro, .n, 0⟩]⟩,
  -- BMC_REPQ
  ⟨8, 0x1000018, 1, 0, [⟨31, 16, .rc, .n, 0⟩, ⟨7, 0, .ro, .n, 0⟩]⟩,
  -- BMC_PATROL
  ⟨8, 0x1000020, 1, 0, [⟨31, 31, .rw, .n, 0⟩, ⟨23, 0, .rw, .n, 0⟩]⟩,
  -- BMC_PATROLPOS
  ⟨8, 0x1000024, 1, 0, [⟨29, 0, .ro, .n, 0⟩]⟩,
  -- BMC_MERGE
  ⟨8, 0x1000030, 1, 0, [⟨22, 16, .ro, .n, 0⟩, ⟨9, 0, .rwl, .m, 0xC8⟩]⟩,
  -- BMC_CHKTEST
  ⟨8, 0x1000040, 1, 0, [⟨31, 31, .ro, .n, 0⟩, ⟨30, 30, .ro, .n, 0⟩, ⟨15, 8, .ro, .n, 0⟩, ⟨7, 0, .ro, .n, 0⟩]⟩,
  -- BMC_HDM
  ⟨8, 0x1000050, 1, 0, [⟨24, 16, .ro, .n, 0x10⟩, ⟨6, 0, .ro, .n, 8⟩]⟩,
  -- BMC_BIASPAGE
  ⟨8, 0x1000060, 1, 0, [⟨17, 0, .rw, .y, 0⟩]⟩,
  -- BMC_BIASCMD
  ⟨8, 0x1000064, 1, 0, [⟨31, 31, .wo, .y, 0⟩, ⟨30, 30, .ro, .n, 0⟩, ⟨29, 29, .w1c, .y, 0⟩, ⟨18, 0, .rw, .y, 0⟩]⟩,
  -- BMC_BIASCNT
  ⟨8, 0x1000068, 1, 0, [⟨31, 0, .rc, .n, 0⟩]⟩,
  -- BMC_TILE
  ⟨8, 0x1000070, 1, 0, [⟨31, 24, .rc, .n, 0⟩, ⟨23, 0, .ro, .n, 0⟩]⟩]

/-- Registers of unit DMA (R34). -/
def regsDma : List RegRow := [
  -- DMA_ARB
  ⟨9, 0x1200000, 1, 0, [⟨15, 8, .ro, .n, 0xFF⟩, ⟨6, 0, .rwl, .m, 0x32⟩]⟩,
  -- DMA_BUSY
  ⟨9, 0x1200004, 1, 0, [⟨31, 0, .ro, .n, 0⟩]⟩,
  -- DMA_CTL
  ⟨9, 0x1210000, 32, 256, [⟨31, 31, .wo, .y, 0⟩, ⟨30, 30, .wo, .y, 0⟩, ⟨29, 29, .wo, .y, 0⟩, ⟨23, 16, .rw, .y, 0⟩, ⟨15, 15, .rw, .y, 0⟩, ⟨14, 14, .rw, .y, 0⟩, ⟨13, 13, .rw, .y, 0⟩, ⟨12, 12, .rw, .y, 0⟩, ⟨11, 11, .rw, .y, 0⟩, ⟨7, 6, .rw, .y, 0⟩, ⟨5, 4, .rw, .y, 0⟩, ⟨1, 0, .rw, .y, 0⟩]⟩,
  -- DMA_STAT
  ⟨9, 0x1210004, 32, 256, [⟨27, 24, .ro, .n, 0⟩, ⟨23, 22, .ro, .n, 0⟩, ⟨21, 21, .ro, .n, 0⟩, ⟨20, 19, .ro, .n, 0⟩, ⟨2, 0, .ro, .n, 0⟩]⟩,
  -- DMA_SRC_LO
  ⟨9, 0x1210008, 32, 256, [⟨31, 0, .rw, .y, 0⟩]⟩,
  -- DMA_SRC_HI
  ⟨9, 0x121000C, 32, 256, [⟨31, 0, .rw, .y, 0⟩]⟩,
  -- DMA_DST_LO
  ⟨9, 0x1210010, 32, 256, [⟨31, 0, .rw, .y, 0⟩]⟩,
  -- DMA_DST_HI
  ⟨9, 0x1210014, 32, 256, [⟨31, 0, .rw, .y, 0⟩]⟩,
  -- DMA_CNT0
  ⟨9, 0x1210018, 32, 256, [⟨24, 0, .rw, .y, 1⟩]⟩,
  -- DMA_CNT1
  ⟨9, 0x121001C, 32, 256, [⟨24, 0, .rw, .y, 1⟩]⟩,
  -- DMA_CNT2
  ⟨9, 0x1210020, 32, 256, [⟨24, 0, .rw, .y, 1⟩]⟩,
  -- DMA_SSTEP0
  ⟨9, 0x1210024, 32, 256, [⟨31, 0, .rw, .y, 0⟩]⟩,
  -- DMA_SSTEP1
  ⟨9, 0x1210028, 32, 256, [⟨31, 0, .rw, .y, 0⟩]⟩,
  -- DMA_SSTEP2
  ⟨9, 0x121002C, 32, 256, [⟨31, 0, .rw, .y, 0⟩]⟩,
  -- DMA_DSTEP0
  ⟨9, 0x1210030, 32, 256, [⟨31, 0, .rw, .y, 0⟩]⟩,
  -- DMA_DSTEP1
  ⟨9, 0x1210034, 32, 256, [⟨31, 0, .rw, .y, 0⟩]⟩,
  -- DMA_DSTEP2
  ⟨9, 0x1210038, 32, 256, [⟨31, 0, .rw, .y, 0⟩]⟩,
  -- DMA_SG
  ⟨9, 0x121003C, 32, 256, [⟨24, 16, .rw, .y, 1⟩, ⟨8, 0, .rw, .y, 1⟩]⟩,
  -- DMA_FILL_LO
  ⟨9, 0x1210040, 32, 256, [⟨31, 0, .rw, .y, 0⟩]⟩,
  -- DMA_FILL_HI
  ⟨9, 0x1210044, 32, 256, [⟨31, 0, .rw, .y, 0⟩]⟩,
  -- DMA_DONEADDR_LO
  ⟨9, 0x1210048, 32, 256, [⟨31, 0, .rw, .y, 0⟩]⟩,
  -- DMA_DONEADDR_HI
  ⟨9, 0x121004C, 32, 256, [⟨31, 0, .rw, .y, 0⟩]⟩,
  -- DMA_IDX0
  ⟨9, 0x1210050, 32, 256, [⟨23, 0, .ro, .n, 0⟩]⟩,
  -- DMA_IDX1
  ⟨9, 0x1210054, 32, 256, [⟨23, 0, .ro, .n, 0⟩]⟩,
  -- DMA_IDX2
  ⟨9, 0x1210058, 32, 256, [⟨23, 0, .ro, .n, 0⟩]⟩,
  -- DMA_FAILADDR_LO
  ⟨9, 0x121005C, 32, 256, [⟨31, 0, .ro, .n, 0⟩]⟩,
  -- DMA_FAILADDR_HI
  ⟨9, 0x1210060, 32, 256, [⟨31, 0, .ro, .n, 0⟩]⟩,
  -- DMA_CMPOFF_LO
  ⟨9, 0x1210064, 32, 256, [⟨31, 0, .ro, .n, 0⟩]⟩,
  -- DMA_CMPOFF_HI
  ⟨9, 0x1210068, 32, 256, [⟨31, 0, .ro, .n, 0⟩]⟩]

/-- Registers of unit HCC (R34). -/
def regsHcc : List RegRow := [
  -- HCC_STATUS
  ⟨10, 0x1400000, 1, 0, [⟨3, 3, .ro, .n, 0⟩, ⟨2, 2, .ro, .n, 0⟩, ⟨1, 1, .ro, .n, 1⟩, ⟨0, 0, .ro, .n, 0⟩]⟩,
  -- HCC_OCC
  ⟨10, 0x1400004, 1, 0, [⟨31, 17, .ro, .n, 0⟩, ⟨16, 10, .ro, .n, 0⟩, ⟨9, 0, .ro, .n, 0⟩]⟩,
  -- HCC_PARLOG
  ⟨10, 0x1400010, 1, 0, [⟨31, 31, .w1c, .m, 0⟩, ⟨30, 28, .ro, .n, 0⟩, ⟨27, 27, .ro, .n, 0⟩, ⟨15, 12, .ro, .n, 0⟩, ⟨11, 0, .ro, .n, 0⟩]⟩,
  -- HCC_PARADDR
  ⟨10, 0x1400014, 1, 0, [⟨31, 0, .ro, .n, 0⟩]⟩,
  -- HCC_CNT
  ⟨10, 0x1400020, 1, 0, [⟨31, 16, .rc, .n, 0⟩, ⟨15, 0, .rc, .n, 0⟩]⟩]

/-- Registers of unit QMG (R34). -/
def regsQmg : List RegRow := [
  -- QMG_ACTL
  ⟨11, 0x1600000, 1, 0, [⟨2, 2, .ro, .n, 0⟩, ⟨1, 1, .ro, .n, 0⟩, ⟨0, 0, .rw, .y, 0⟩]⟩,
  -- QMG_STATUS
  ⟨11, 0x1600004, 1, 0, [⟨19, 19, .ro, .n, 0⟩, ⟨18, 18, .ro, .n, 0⟩, ⟨17, 0, .ro, .n, 0⟩]⟩,
  -- QMG_ASQ_LO
  ⟨11, 0x1600010, 1, 0, [⟨31, 11, .rw, .y, 0⟩]⟩,
  -- QMG_ASQ_HI
  ⟨11, 0x1600014, 1, 0, [⟨31, 0, .rw, .y, 0⟩]⟩,
  -- QMG_ACR_LO
  ⟨11, 0x1600018, 1, 0, [⟨31, 6, .rw, .y, 0⟩]⟩,
  -- QMG_ACR_HI
  ⟨11, 0x160001C, 1, 0, [⟨31, 0, .rw, .y, 0⟩]⟩,
  -- QMG_ACRHEAD_LO
  ⟨11, 0x1600020, 1, 0, [⟨31, 2, .rw, .y, 0⟩]⟩,
  -- QMG_ACRHEAD_HI
  ⟨11, 0x1600024, 1, 0, [⟨31, 0, .rw, .y, 0⟩]⟩,
  -- QMG_ACRCFG
  ⟨11, 0x1600028, 1, 0, [⟨31, 24, .rw, .y, 0⟩, ⟨23, 16, .rw, .y, 1⟩, ⟨15, 8, .rw, .y, 0⟩, ⟨3, 0, .rw, .y, 8⟩]⟩,
  -- QMG_SLOTS
  ⟨11, 0x1600030, 1, 0, [⟨10, 0, .rwl, .m, 0x40⟩]⟩,
  -- QMG_CTXSEL
  ⟨11, 0x1600100, 1, 0, [⟨19, 0, .rw, .y, 0⟩]⟩,
  -- QMG_CTXVIEW
  ⟨11, 0x1600104, 1, 0, [⟨29, 24, .ro, .n, 0⟩, ⟨21, 16, .ro, .n, 0⟩, ⟨13, 8, .ro, .n, 0⟩, ⟨7, 4, .ro, .n, 0⟩, ⟨3, 3, .ro, .n, 0⟩, ⟨2, 0, .ro, .n, 0⟩]⟩,
  -- QMG_CTXOUT
  ⟨11, 0x1600108, 1, 0, [⟨31, 0, .ro, .n, 0⟩]⟩,
  -- QMG_QERR
  ⟨11, 0x1600200, 1, 0, [⟨31, 31, .w1c, .y, 0⟩, ⟨29, 24, .ro, .n, 0⟩, ⟨23, 20, .ro, .n, 0⟩, ⟨19, 0, .ro, .n, 0⟩]⟩,
  -- QMG_CTXCACHE
  ⟨11, 0x1600210, 1, 0, [⟨31, 16, .ro, .n, 0⟩, ⟨14, 0, .ro, .n, 0⟩]⟩,
  -- QMG_MISSCNT
  ⟨11, 0x1600214, 1, 0, [⟨31, 0, .rc, .n, 0⟩]⟩]

/-- Registers of unit CHN0 (R34). -/
def regsChn0 : List RegRow := [
  -- CHN_STATUS
  ⟨13, 0x2000004, 1, 0, [⟨15, 8, .ro, .n, 0⟩, ⟨4, 4, .ro, .n, 0⟩, ⟨3, 2, .ro, .n, 0⟩, ⟨1, 0, .ro, .n, 0⟩]⟩,
  -- CHN_AFE
  ⟨13, 0x2000040, 3, 4, [⟨18, 18, .rwl, .m, 1⟩, ⟨17, 16, .rwl, .m, 1⟩, ⟨15, 12, .rwl, .m, 4⟩, ⟨11, 7, .rwl, .m, 0x14⟩, ⟨6, 0, .rwl, .m, 0x28⟩]⟩,
  -- CHN_AGC
  ⟨13, 0x2000050, 1, 0, [⟨22, 16, .ro, .n, 0x28⟩, ⟨7, 0, .rwl, .m, 0x40⟩]⟩,
  -- CHN_TSTEP
  ⟨13, 0x2000100, 1, 0, [⟨22, 0, .ro, .n, 0x133333⟩]⟩,
  -- CHN_TLOOP
  ⟨13, 0x2000104, 1, 0, [⟨15, 12, .rwl, .m, 0xC⟩, ⟨11, 8, .rwl, .m, 6⟩, ⟨7, 4, .rwl, .m, 8⟩, ⟨3, 0, .rwl, .m, 3⟩]⟩,
  -- CHN_TLOCK
  ⟨13, 0x2000108, 1, 0, [⟨23, 16, .rwl, .m, 0x80⟩, ⟨15, 8, .rwl, .m, 0x50⟩, ⟨7, 0, .rwl, .m, 0x10⟩]⟩,
  -- CHN_RDOFF
  ⟨13, 0x2000110, 1, 0, [⟨27, 16, .rwl, .m, 0⟩, ⟨11, 0, .rwl, .m, 0⟩]⟩,
  -- CHN_MARKWIN
  ⟨13, 0x2000140, 1, 0, [⟨21, 16, .rwl, .m, 8⟩, ⟨12, 8, .rwl, .m, 8⟩, ⟨6, 0, .rwl, .m, 0x18⟩]⟩,
  -- CHN_MARKTHR
  ⟨13, 0x2000144, 1, 0, [⟨26, 24, .rwl, .m, 2⟩, ⟨22, 16, .rwl, .m, 0x20⟩, ⟨8, 0, .rwl, .m, 0x120⟩]⟩,
  -- CHN_MARKPAT
  ⟨13, 0x2000148, 1, 0, [⟨31, 0, .ro, .n, 0x9D2B3C47⟩]⟩,
  -- CHN_CAND
  ⟨13, 0x2000180, 4, 4, [⟨21, 21, .ro, .n, 0⟩, ⟨20, 19, .ro, .n, 0⟩, ⟨18, 18, .ro, .n, 0⟩, ⟨17, 17, .ro, .n, 0⟩, ⟨16, 8, .ro, .n, 0⟩, ⟨7, 0, .ro, .n, 0⟩]⟩,
  -- CHN_GATE
  ⟨13, 0x2000204, 1, 0, [⟨7, 0, .rwl, .m, 0x10⟩]⟩,
  -- CHN_ERRCNT0
  ⟨13, 0x2000300, 1, 0, [⟨31, 16, .rc, .n, 0⟩, ⟨15, 0, .rc, .n, 0⟩]⟩,
  -- CHN_ERRCNT1
  ⟨13, 0x2000304, 1, 0, [⟨31, 16, .rc, .n, 0⟩, ⟨15, 0, .rc, .n, 0⟩]⟩,
  -- CHN_ERRCNT2
  ⟨13, 0x2000308, 1, 0, [⟨15, 0, .rc, .n, 0⟩]⟩,
  -- CHN_DETCFG
  ⟨13, 0x2000400, 1, 0, [⟨16, 16, .ro, .n, 1⟩, ⟨15, 12, .rwl, .m, 9⟩, ⟨11, 8, .rwl, .m, 5⟩, ⟨2, 0, .ro, .n, 0⟩]⟩,
  -- CHN_TARGET0
  ⟨13, 0x2000410, 1, 0, [⟨15, 0, .ro, .n, 0x2000⟩]⟩,
  -- CHN_TARGET
  ⟨13, 0x2000414, 4, 4, [⟨15, 0, .rwl, .m, 0⟩]⟩,
  -- CHN_SNR
  ⟨13, 0x2000440, 1, 0, [⟨31, 24, .ro, .n, 0⟩, ⟨15, 0, .ro, .n, 0⟩]⟩,
  -- CHN_EQTAP
  ⟨13, 0x2000800, 48, 4, [⟨11, 0, .rwl, .m, 0⟩]⟩,
  -- CHN_ZSLOT
  ⟨13, 0x2010000, 12288, 4, [⟨31, 0, .ro, .n, 0⟩]⟩]

/-- Registers of unit CHN1 (R34). -/
def regsChn1 : List RegRow := [
  -- CHN_STATUS
  ⟨14, 0x2200004, 1, 0, [⟨15, 8, .ro, .n, 0⟩, ⟨4, 4, .ro, .n, 0⟩, ⟨3, 2, .ro, .n, 0⟩, ⟨1, 0, .ro, .n, 0⟩]⟩,
  -- CHN_AFE
  ⟨14, 0x2200040, 3, 4, [⟨18, 18, .rwl, .m, 1⟩, ⟨17, 16, .rwl, .m, 1⟩, ⟨15, 12, .rwl, .m, 4⟩, ⟨11, 7, .rwl, .m, 0x14⟩, ⟨6, 0, .rwl, .m, 0x28⟩]⟩,
  -- CHN_AGC
  ⟨14, 0x2200050, 1, 0, [⟨22, 16, .ro, .n, 0x28⟩, ⟨7, 0, .rwl, .m, 0x40⟩]⟩,
  -- CHN_TSTEP
  ⟨14, 0x2200100, 1, 0, [⟨22, 0, .ro, .n, 0x133333⟩]⟩,
  -- CHN_TLOOP
  ⟨14, 0x2200104, 1, 0, [⟨15, 12, .rwl, .m, 0xC⟩, ⟨11, 8, .rwl, .m, 6⟩, ⟨7, 4, .rwl, .m, 8⟩, ⟨3, 0, .rwl, .m, 3⟩]⟩,
  -- CHN_TLOCK
  ⟨14, 0x2200108, 1, 0, [⟨23, 16, .rwl, .m, 0x80⟩, ⟨15, 8, .rwl, .m, 0x50⟩, ⟨7, 0, .rwl, .m, 0x10⟩]⟩,
  -- CHN_RDOFF
  ⟨14, 0x2200110, 1, 0, [⟨27, 16, .rwl, .m, 0⟩, ⟨11, 0, .rwl, .m, 0⟩]⟩,
  -- CHN_MARKWIN
  ⟨14, 0x2200140, 1, 0, [⟨21, 16, .rwl, .m, 8⟩, ⟨12, 8, .rwl, .m, 8⟩, ⟨6, 0, .rwl, .m, 0x18⟩]⟩,
  -- CHN_MARKTHR
  ⟨14, 0x2200144, 1, 0, [⟨26, 24, .rwl, .m, 2⟩, ⟨22, 16, .rwl, .m, 0x20⟩, ⟨8, 0, .rwl, .m, 0x120⟩]⟩,
  -- CHN_MARKPAT
  ⟨14, 0x2200148, 1, 0, [⟨31, 0, .ro, .n, 0x9D2B3C47⟩]⟩,
  -- CHN_CAND
  ⟨14, 0x2200180, 4, 4, [⟨21, 21, .ro, .n, 0⟩, ⟨20, 19, .ro, .n, 0⟩, ⟨18, 18, .ro, .n, 0⟩, ⟨17, 17, .ro, .n, 0⟩, ⟨16, 8, .ro, .n, 0⟩, ⟨7, 0, .ro, .n, 0⟩]⟩,
  -- CHN_GATE
  ⟨14, 0x2200204, 1, 0, [⟨7, 0, .rwl, .m, 0x10⟩]⟩,
  -- CHN_ERRCNT0
  ⟨14, 0x2200300, 1, 0, [⟨31, 16, .rc, .n, 0⟩, ⟨15, 0, .rc, .n, 0⟩]⟩,
  -- CHN_ERRCNT1
  ⟨14, 0x2200304, 1, 0, [⟨31, 16, .rc, .n, 0⟩, ⟨15, 0, .rc, .n, 0⟩]⟩,
  -- CHN_ERRCNT2
  ⟨14, 0x2200308, 1, 0, [⟨15, 0, .rc, .n, 0⟩]⟩,
  -- CHN_DETCFG
  ⟨14, 0x2200400, 1, 0, [⟨16, 16, .ro, .n, 1⟩, ⟨15, 12, .rwl, .m, 9⟩, ⟨11, 8, .rwl, .m, 5⟩, ⟨2, 0, .ro, .n, 0⟩]⟩,
  -- CHN_TARGET0
  ⟨14, 0x2200410, 1, 0, [⟨15, 0, .ro, .n, 0x2000⟩]⟩,
  -- CHN_TARGET
  ⟨14, 0x2200414, 4, 4, [⟨15, 0, .rwl, .m, 0⟩]⟩,
  -- CHN_SNR
  ⟨14, 0x2200440, 1, 0, [⟨31, 24, .ro, .n, 0⟩, ⟨15, 0, .ro, .n, 0⟩]⟩,
  -- CHN_EQTAP
  ⟨14, 0x2200800, 48, 4, [⟨11, 0, .rwl, .m, 0⟩]⟩,
  -- CHN_ZSLOT
  ⟨14, 0x2210000, 12288, 4, [⟨31, 0, .ro, .n, 0⟩]⟩]

/-- Registers of unit DEC (R34). -/
def regsDec : List RegRow := [
  -- DEC_CTRL
  ⟨15, 0x2400000, 1, 0, [⟨3, 0, .rwl, .m, 0xF⟩]⟩,
  -- DEC_LIMITS
  ⟨15, 0x2400010, 1, 0, [⟨27, 24, .rwl, .m, 0xA⟩, ⟨21, 16, .rwl, .m, 0x28⟩, ⟨11, 8, .rwl, .m, 4⟩, ⟨5, 0, .rwl, .m, 0xC⟩]⟩,
  -- DEC_ALLOC
  ⟨15, 0x2400014, 1, 0, [⟨10, 8, .rwl, .m, 2⟩, ⟨5, 4, .rwl, .m, 1⟩, ⟨1, 0, .rwl, .m, 1⟩]⟩,
  -- DEC_NORM
  ⟨15, 0x2400018, 1, 0, [⟨27, 16, .rwl, .m, 0x4B0⟩, ⟨15, 4, .rwl, .m, 0x4B0⟩, ⟨3, 0, .rwl, .m, 0xC⟩]⟩,
  -- DEC_LIMITS1
  ⟨15, 0x2400020, 1, 0, [⟨27, 24, .rwl, .m, 0xA⟩, ⟨21, 16, .rwl, .m, 0x28⟩, ⟨11, 8, .rwl, .m, 4⟩, ⟨5, 0, .rwl, .m, 0xC⟩]⟩,
  -- DEC_INST
  ⟨15, 0x2400100, 4, 4, [⟨13, 8, .ro, .n, 0⟩, ⟨5, 3, .ro, .n, 0⟩, ⟨2, 2, .ro, .n, 0⟩, ⟨1, 1, .ro, .n, 0⟩, ⟨0, 0, .ro, .n, 0⟩]⟩,
  -- DEC_STORE
  ⟨15, 0x2400200, 1, 0, [⟨26, 16, .ro, .n, 0⟩, ⟨10, 0, .ro, .n, 0⟩]⟩,
  -- DEC_RECCNT
  ⟨15, 0x2400300, 2, 4, [⟨31, 16, .rc, .n, 0⟩, ⟨15, 0, .rc, .n, 0⟩]⟩]

/-- Registers of unit PRE0 (R34). -/
def regsPre0 : List RegRow := [
  -- PRE_SCTL
  ⟨16, 0x2600000, 1, 0, [⟨8, 8, .ro, .n, 0⟩, ⟨1, 0, .rwl, .m, 2⟩]⟩,
  -- PRE_SCMD
  ⟨16, 0x2600004, 1, 0, [⟨31, 31, .wo, .m, 0⟩, ⟨15, 15, .rw, .m, 0⟩, ⟨14, 8, .rw, .m, 0⟩, ⟨7, 0, .rw, .m, 0⟩]⟩,
  -- PRE_HEAD
  ⟨16, 0x2600010, 1, 0, [⟨10, 8, .ro, .n, 0⟩, ⟨5, 4, .ro, .n, 0⟩, ⟨3, 0, .ro, .n, 0⟩]⟩,
  -- PRE_WSYN
  ⟨16, 0x2600020, 1, 0, [⟨23, 0, .rw, .n, 0x6AAAAB⟩]⟩,
  -- PRE_PRECOMP
  ⟨16, 0x2600024, 1, 0, [⟨20, 16, .rwl, .m, 0⟩, ⟨12, 8, .rwl, .m, 3⟩, ⟨4, 0, .rwl, .m, 8⟩]⟩,
  -- PRE_WGT
  ⟨16, 0x2600028, 1, 0, [⟨31, 24, .rwl, .m, 0x14⟩, ⟨19, 16, .rwl, .m, 2⟩, ⟨7, 0, .rwl, .m, 0x14⟩]⟩,
  -- PRE_WINH
  ⟨16, 0x2600030, 1, 0, [⟨21, 21, .w1c, .m, 0⟩, ⟨20, 16, .ro, .n, 0x1F⟩, ⟨12, 12, .rw, .n, 0⟩, ⟨11, 0, .ro, .n, 0x400⟩]⟩,
  -- PRE_FLT
  ⟨16, 0x2600040, 1, 0, [⟨31, 16, .rc, .n, 0⟩, ⟨11, 8, .ro, .n, 0⟩, ⟨7, 0, .ro, .n, 0⟩]⟩]

/-- Registers of unit PRE1 (R34). -/
def regsPre1 : List RegRow := [
  -- PRE_SCTL
  ⟨17, 0x2700000, 1, 0, [⟨8, 8, .ro, .n, 0⟩, ⟨1, 0, .rwl, .m, 2⟩]⟩,
  -- PRE_SCMD
  ⟨17, 0x2700004, 1, 0, [⟨31, 31, .wo, .m, 0⟩, ⟨15, 15, .rw, .m, 0⟩, ⟨14, 8, .rw, .m, 0⟩, ⟨7, 0, .rw, .m, 0⟩]⟩,
  -- PRE_HEAD
  ⟨17, 0x2700010, 1, 0, [⟨10, 8, .ro, .n, 0⟩, ⟨5, 4, .ro, .n, 0⟩, ⟨3, 0, .ro, .n, 0⟩]⟩,
  -- PRE_WSYN
  ⟨17, 0x2700020, 1, 0, [⟨23, 0, .rw, .n, 0x6AAAAB⟩]⟩,
  -- PRE_PRECOMP
  ⟨17, 0x2700024, 1, 0, [⟨20, 16, .rwl, .m, 0⟩, ⟨12, 8, .rwl, .m, 3⟩, ⟨4, 0, .rwl, .m, 8⟩]⟩,
  -- PRE_WGT
  ⟨17, 0x2700028, 1, 0, [⟨31, 24, .rwl, .m, 0x14⟩, ⟨19, 16, .rwl, .m, 2⟩, ⟨7, 0, .rwl, .m, 0x14⟩]⟩,
  -- PRE_WINH
  ⟨17, 0x2700030, 1, 0, [⟨21, 21, .w1c, .m, 0⟩, ⟨20, 16, .ro, .n, 0x1F⟩, ⟨12, 12, .rw, .n, 0⟩, ⟨11, 0, .ro, .n, 0x400⟩]⟩,
  -- PRE_FLT
  ⟨17, 0x2700040, 1, 0, [⟨31, 16, .rc, .n, 0⟩, ⟨11, 8, .ro, .n, 0⟩, ⟨7, 0, .ro, .n, 0⟩]⟩]

/-- Registers of unit SRV0 (R34). -/
def regsSrv0 : List RegRow := [
  -- SRV_CTRL
  ⟨18, 0x2800000, 1, 0, [⟨23, 20, .rwl, .m, 4⟩, ⟨19, 16, .rwl, .m, 4⟩, ⟨4, 4, .rwl, .m, 1⟩, ⟨2, 0, .rw, .n, 0⟩]⟩,
  -- SRV_STATUS
  ⟨18, 0x2800004, 1, 0, [⟨27, 24, .ro, .n, 8⟩, ⟨21, 20, .ro, .n, 0⟩, ⟨19, 19, .ro, .n, 0⟩, ⟨18, 18, .ro, .n, 0⟩, ⟨17, 17, .ro, .n, 0⟩, ⟨16, 16, .ro, .n, 0⟩, ⟨8, 0, .ro, .n, 0⟩]⟩,
  -- SRV_AFE
  ⟨18, 0x2800008, 1, 0, [⟨17, 16, .rwl, .m, 1⟩, ⟨15, 12, .rwl, .m, 2⟩, ⟨11, 7, .rwl, .m, 4⟩, ⟨6, 0, .rwl, .m, 0x20⟩]⟩,
  -- SRV_FMT
  ⟨18, 0x280000C, 1, 0, [⟨25, 0, .ro, .n, 0x1333333⟩]⟩,
  -- SRV_TW
  ⟨18, 0x2800010, 1, 0, [⟨31, 0, .ro, .n, 0x1312D00⟩]⟩,
  -- SRV_POS
  ⟨18, 0x2800020, 1, 0, [⟨31, 0, .ro, .n, 0⟩]⟩,
  -- SRV_PES
  ⟨18, 0x2800024, 1, 0, [⟨31, 16, .ro, .n, 0⟩, ⟨15, 0, .ro, .n, 0⟩]⟩,
  -- SRV_TARGET
  ⟨18, 0x2800028, 1, 0, [⟨31, 0, .rw, .n, 0⟩]⟩,
  -- SRV_THR
  ⟨18, 0x2800030, 1, 0, [⟨31, 16, .rwl, .m, 0x26⟩, ⟨15, 0, .rwl, .m, 0x1A⟩]⟩,
  -- SRV_SETTLE
  ⟨18, 0x2800034, 1, 0, [⟨31, 28, .rwl, .m, 2⟩, ⟨27, 16, .rwl, .m, 0x26⟩, ⟨15, 12, .rwl, .m, 6⟩, ⟨11, 0, .rwl, .m, 0x14⟩]⟩,
  -- SRV_MODEL
  ⟨18, 0x2800040, 6, 4, [⟨31, 0, .rwl, .m, 0⟩]⟩,
  -- SRV_LIN
  ⟨18, 0x2800100, 32, 4, [⟨7, 0, .rwl, .m, 0⟩]⟩]

/-- Registers of unit SRV1 (R34). -/
def regsSrv1 : List RegRow := [
  -- SRV_CTRL
  ⟨19, 0x2A00000, 1, 0, [⟨23, 20, .rwl, .m, 4⟩, ⟨19, 16, .rwl, .m, 4⟩, ⟨4, 4, .rwl, .m, 1⟩, ⟨2, 0, .rw, .n, 0⟩]⟩,
  -- SRV_STATUS
  ⟨19, 0x2A00004, 1, 0, [⟨27, 24, .ro, .n, 8⟩, ⟨21, 20, .ro, .n, 0⟩, ⟨19, 19, .ro, .n, 0⟩, ⟨18, 18, .ro, .n, 0⟩, ⟨17, 17, .ro, .n, 0⟩, ⟨16, 16, .ro, .n, 0⟩, ⟨8, 0, .ro, .n, 0⟩]⟩,
  -- SRV_AFE
  ⟨19, 0x2A00008, 1, 0, [⟨17, 16, .rwl, .m, 1⟩, ⟨15, 12, .rwl, .m, 2⟩, ⟨11, 7, .rwl, .m, 4⟩, ⟨6, 0, .rwl, .m, 0x20⟩]⟩,
  -- SRV_FMT
  ⟨19, 0x2A0000C, 1, 0, [⟨25, 0, .ro, .n, 0x1333333⟩]⟩,
  -- SRV_TW
  ⟨19, 0x2A00010, 1, 0, [⟨31, 0, .ro, .n, 0x1312D00⟩]⟩,
  -- SRV_POS
  ⟨19, 0x2A00020, 1, 0, [⟨31, 0, .ro, .n, 0⟩]⟩,
  -- SRV_PES
  ⟨19, 0x2A00024, 1, 0, [⟨31, 16, .ro, .n, 0⟩, ⟨15, 0, .ro, .n, 0⟩]⟩,
  -- SRV_TARGET
  ⟨19, 0x2A00028, 1, 0, [⟨31, 0, .rw, .n, 0⟩]⟩,
  -- SRV_THR
  ⟨19, 0x2A00030, 1, 0, [⟨31, 16, .rwl, .m, 0x26⟩, ⟨15, 0, .rwl, .m, 0x1A⟩]⟩,
  -- SRV_SETTLE
  ⟨19, 0x2A00034, 1, 0, [⟨31, 28, .rwl, .m, 2⟩, ⟨27, 16, .rwl, .m, 0x26⟩, ⟨15, 12, .rwl, .m, 6⟩, ⟨11, 0, .rwl, .m, 0x14⟩]⟩,
  -- SRV_MODEL
  ⟨19, 0x2A00040, 6, 4, [⟨31, 0, .rwl, .m, 0⟩]⟩,
  -- SRV_LIN
  ⟨19, 0x2A00100, 32, 4, [⟨7, 0, .rwl, .m, 0⟩]⟩]

/-- Registers of unit CLE (R34). -/
def regsCle : List RegRow := [
  -- CLE_CTRL
  ⟨20, 0x2C00000, 1, 0, [⟨16, 16, .ro, .n, 0⟩, ⟨8, 0, .rw, .n, 0⟩]⟩,
  -- CLE_LCFG
  ⟨20, 0x2C00100, 9, 16, [⟨31, 24, .rwl, .m, 8⟩, ⟨19, 16, .rwl, .m, 0⟩, ⟨4, 0, .rwl, .m, 0⟩]⟩,
  -- CLE_LLIM
  ⟨20, 0x2C00104, 9, 16, [⟨31, 16, .rwl, .m, 0x7FFF⟩, ⟨15, 0, .rwl, .m, 0x7FFF⟩]⟩,
  -- CLE_LSTAT
  ⟨20, 0x2C00108, 9, 16, [⟨31, 16, .ro, .n, 0⟩, ⟨3, 3, .ro, .n, 0⟩, ⟨2, 2, .ro, .n, 0⟩, ⟨1, 1, .ro, .n, 0⟩, ⟨0, 0, .ro, .n, 0⟩]⟩,
  -- CLE_SEEKA
  ⟨20, 0x2C00400, 2, 16, [⟨31, 16, .rwl, .m, 0x1A8⟩, ⟨15, 0, .rwl, .m, 0x1900⟩]⟩,
  -- CLE_SEEKB
  ⟨20, 0x2C00404, 2, 16, [⟨31, 16, .rwl, .m, 0x5000⟩, ⟨15, 8, .rwl, .m, 8⟩, ⟨7, 0, .rwl, .m, 0x10⟩]⟩,
  -- CLE_MA
  ⟨20, 0x2C00408, 2, 16, [⟨15, 0, .rwl, .m, 0x180⟩]⟩,
  -- CLE_LRN
  ⟨20, 0x2C00500, 2, 4, [⟨31, 16, .rwl, .m, 0x2000⟩, ⟨15, 8, .rwl, .m, 2⟩, ⟨7, 0, .rwl, .m, 0x10⟩]⟩,
  -- CLE_LRNSTAT
  ⟨20, 0x2C00510, 1, 0, [⟨23, 0, .ro, .n, 0⟩]⟩,
  -- CLE_INJCTL
  ⟨20, 0x2C00600, 1, 0, [⟨31, 31, .ro, .n, 0⟩, ⟨30, 30, .wo, .m, 0⟩, ⟨27, 24, .rw, .m, 0⟩, ⟨23, 22, .rw, .m, 0⟩, ⟨19, 16, .rw, .m, 7⟩, ⟨15, 0, .rw, .m, 0⟩]⟩,
  -- CLE_INJFREQ
  ⟨20, 0x2C00604, 1, 0, [⟨31, 16, .rw, .m, 0⟩, ⟨15, 0, .rw, .m, 0⟩]⟩,
  -- CLE_CAPCTL
  ⟨20, 0x2C00610, 1, 0, [⟨19, 16, .rw, .m, 0x10⟩, ⟨0, 0, .ro, .n, 0⟩]⟩,
  -- CLE_TONE
  ⟨20, 0x2C00680, 32, 4, [⟨31, 16, .rw, .m, 0⟩, ⟨11, 0, .rw, .m, 0⟩]⟩,
  -- CLE_SECA
  ⟨20, 0x2C01000, 144, 16, [⟨31, 16, .rwl, .m, 0⟩, ⟨15, 0, .rwl, .m, 0x4000⟩]⟩,
  -- CLE_SECB
  ⟨20, 0x2C01004, 144, 16, [⟨31, 16, .rwl, .m, 0⟩, ⟨15, 0, .rwl, .m, 0⟩]⟩,
  -- CLE_SECC
  ⟨20, 0x2C01008, 144, 16, [⟨19, 19, .rwl, .m, 0⟩, ⟨18, 16, .rwl, .m, 1⟩, ⟨15, 0, .rwl, .m, 0⟩]⟩,
  -- CLE_FF
  ⟨20, 0x2C40000, 6144, 4, [⟨31, 16, .rw, .n, 0⟩, ⟨15, 0, .rw, .n, 0⟩]⟩,
  -- CLE_CAP
  ⟨20, 0x2D00000, 65536, 4, [⟨31, 16, .ro, .n, 0⟩, ⟨15, 0, .ro, .n, 0⟩]⟩]

/-- Registers of unit SPM (R34). -/
def regsSpm : List RegRow := [
  -- SPM_CTRL
  ⟨21, 0x3000000, 1, 0, [⟨8, 8, .rw, .n, 0⟩, ⟨2, 0, .rw, .n, 0⟩]⟩,
  -- SPM_STATUS
  ⟨21, 0x3000004, 1, 0, [⟨25, 24, .ro, .n, 0⟩, ⟨23, 16, .ro, .n, 0⟩, ⟨5, 5, .ro, .n, 1⟩, ⟨4, 4, .ro, .n, 0⟩, ⟨3, 3, .ro, .n, 0⟩, ⟨2, 2, .ro, .n, 0⟩, ⟨1, 1, .ro, .n, 0⟩]⟩,
  -- SPM_SPEED
  ⟨21, 0x3000008, 1, 0, [⟨31, 31, .ro, .n, 0⟩, ⟨19, 0, .ro, .n, 0⟩]⟩,
  -- SPM_TARGET
  ⟨21, 0x300000C, 1, 0, [⟨19, 0, .rwl, .m, 0x1C200⟩]⟩,
  -- SPM_MOTOR
  ⟨21, 0x3000010, 1, 0, [⟨31, 16, .rwl, .m, 0x3E8⟩, ⟨15, 4, .rwl, .m, 0x96⟩, ⟨3, 0, .rwl, .m, 8⟩]⟩,
  -- SPM_MECH
  ⟨21, 0x3000014, 1, 0, [⟨31, 16, .rwl, .m, 0xBB8⟩, ⟨15, 8, .rwl, .m, 0x96⟩, ⟨7, 0, .rwl, .m, 8⟩]⟩,
  -- SPM_CURLIM
  ⟨21, 0x3000018, 1, 0, [⟨31, 16, .rwl, .m, 0x7D0⟩, ⟨15, 0, .rwl, .m, 0x7D0⟩]⟩,
  -- SPM_CURPI
  ⟨21, 0x300001C, 1, 0, [⟨31, 16, .rwl, .m, 0x200⟩, ⟨15, 0, .rwl, .m, 0x1000⟩]⟩,
  -- SPM_LOS
  ⟨21, 0x3000020, 1, 0, [⟨17, 16, .ro, .n, 3⟩, ⟨15, 8, .rwl, .m, 0x32⟩, ⟨7, 0, .ro, .n, 0x19⟩]⟩,
  -- SPM_SPDLIM
  ⟨21, 0x3000024, 1, 0, [⟨31, 16, .rwl, .m, 0x78⟩, ⟨15, 0, .rwl, .m, 0x12C⟩]⟩,
  -- SPM_CNT
  ⟨21, 0x3000030, 1, 0, [⟨31, 16, .rc, .n, 0⟩, ⟨15, 8, .rc, .n, 0⟩, ⟨7, 0, .rc, .n, 0⟩]⟩]

/-- Registers of unit MFE (R34). -/
def regsMfe : List RegRow := [
  -- MFE_STATUS
  ⟨22, 0x3200000, 1, 0, [⟨9, 8, .ro, .n, 0⟩, ⟨7, 7, .ro, .n, 0⟩, ⟨6, 6, .ro, .n, 0⟩, ⟨5, 5, .ro, .n, 0⟩, ⟨4, 4, .ro, .n, 0⟩, ⟨3, 3, .ro, .n, 1⟩, ⟨2, 2, .ro, .n, 1⟩, ⟨1, 1, .ro, .n, 0⟩, ⟨0, 0, .ro, .n, 0⟩]⟩,
  -- MFE_VSENSE
  ⟨22, 0x3200004, 1, 0, [⟨31, 16, .ro, .n, 0⟩, ⟨15, 0, .ro, .n, 0⟩]⟩,
  -- MFE_BUSTH0
  ⟨22, 0x3200008, 1, 0, [⟨26, 16, .ro, .n, 0x550⟩, ⟨10, 0, .ro, .n, 0x564⟩]⟩,
  -- MFE_BUSTH1
  ⟨22, 0x320000C, 1, 0, [⟨26, 16, .ro, .n, 0x5DC⟩, ⟨10, 0, .ro, .n, 0x58C⟩]⟩,
  -- MFE_CHOP
  ⟨22, 0x3200010, 1, 0, [⟨31, 24, .rwl, .m, 0x14⟩, ⟨15, 0, .rwl, .m, 0xC8⟩]⟩,
  -- MFE_BRAKE
  ⟨22, 0x3200014, 1, 0, [⟨31, 16, .rwl, .m, 0x7D0⟩, ⟨0, 0, .rwl, .m, 0⟩]⟩,
  -- MFE_GATE
  ⟨22, 0x3200018, 1, 0, [⟨24, 16, .rwl, .m, 0xC8⟩, ⟨1, 0, .rwl, .m, 1⟩]⟩,
  -- MFE_RET
  ⟨22, 0x3200020, 2, 16, [⟨31, 16, .rwl, .m, 0x320⟩, ⟨15, 0, .rwl, .m, 0x3C⟩]⟩,
  -- MFE_PUSH
  ⟨22, 0x3200024, 2, 16, [⟨31, 16, .rwl, .m, 0x28⟩, ⟨15, 0, .rwl, .m, 0xC8⟩]⟩,
  -- MFE_VCM
  ⟨22, 0x3200028, 2, 16, [⟨31, 16, .rwl, .m, 0x400⟩, ⟨15, 0, .rwl, .m, 0x100⟩]⟩,
  -- MFE_SHOCK
  ⟨22, 0x3200040, 1, 0, [⟨31, 16, .rwl, .m, 0x7D0⟩, ⟨15, 0, .rwl, .m, 0x1F4⟩]⟩,
  -- MFE_PROT
  ⟨22, 0x3200050, 1, 0, [⟨11, 11, .w1c, .m, 0⟩, ⟨10, 10, .w1c, .m, 0⟩, ⟨9, 9, .w1c, .m, 0⟩, ⟨8, 8, .w1c, .m, 0⟩, ⟨7, 7, .w1c, .m, 0⟩, ⟨6, 6, .w1c, .n, 0⟩, ⟨5, 5, .w1c, .n, 0⟩, ⟨4, 4, .w1c, .m, 0⟩, ⟨3, 3, .w1c, .m, 0⟩, ⟨2, 2, .w1c, .n, 0⟩, ⟨1, 1, .w1c, .n, 0⟩]⟩]

/-- Registers of unit CXC (R34). -/
def regsCxc : List RegRow := [
  -- CXC_LINK
  ⟨23, 0x4000000, 1, 0, [⟨21, 16, .ro, .n, 0⟩, ⟨12, 12, .ro, .n, 0⟩, ⟨11, 11, .ro, .n, 0⟩, ⟨10, 10, .ro, .n, 0⟩, ⟨9, 9, .ro, .n, 0⟩, ⟨7, 4, .ro, .n, 0⟩, ⟨3, 0, .ro, .n, 0⟩]⟩,
  -- CXC_LINKCAP
  ⟨23, 0x4000004, 1, 0, [⟨31, 16, .rwl, .m, 0x3E8⟩, ⟨7, 4, .rwl, .m, 8⟩, ⟨3, 0, .rwl, .m, 5⟩]⟩,
  -- CXC_HDM
  ⟨23, 0x4000010, 1, 0, [⟨18, 18, .ro, .n, 0⟩, ⟨17, 17, .ro, .n, 0⟩, ⟨16, 16, .ro, .n, 0⟩, ⟨6, 0, .ro, .n, 0⟩]⟩,
  -- CXC_HDMBASE
  ⟨23, 0x4000014, 1, 0, [⟨23, 0, .ro, .n, 0⟩]⟩,
  -- CXC_IDE
  ⟨23, 0x4000020, 1, 0, [⟨8, 8, .w1c, .y, 0⟩, ⟨4, 4, .ro, .n, 0⟩, ⟨1, 1, .ro, .n, 0⟩, ⟨0, 0, .ro, .n, 0⟩]⟩,
  -- CXC_ERRCNT
  ⟨23, 0x4000030, 1, 0, [⟨31, 16, .rc, .n, 0⟩, ⟨15, 0, .rc, .n, 0⟩]⟩]

/-- Registers of unit ETH (R34). -/
def regsEth : List RegRow := [
  -- ETH_CFG
  ⟨24, 0x4200000, 1, 0, [⟨3, 2, .rwl, .m, 2⟩, ⟨1, 0, .rwl, .m, 2⟩]⟩,
  -- ETH_STATUS
  ⟨24, 0x4200004, 1, 0, [⟨3, 3, .ro, .n, 0⟩, ⟨2, 2, .ro, .n, 0⟩, ⟨1, 1, .ro, .n, 0⟩, ⟨0, 0, .ro, .n, 0⟩]⟩,
  -- ETH_FECCNT
  ⟨24, 0x4200010, 1, 0, [⟨31, 16, .rc, .n, 0⟩, ⟨15, 0, .rc, .n, 0⟩]⟩]

/-- Registers of unit MIG (R34). -/
def regsMig : List RegRow := [
  -- MIG_STATUS
  ⟨25, 0x4400000, 1, 0, [⟨19, 16, .ro, .n, 0⟩, ⟨10, 8, .ro, .n, 0⟩, ⟨2, 0, .ro, .n, 0⟩]⟩,
  -- MIG_CNT
  ⟨25, 0x4400010, 1, 0, [⟨31, 16, .rc, .n, 0⟩, ⟨15, 0, .rc, .n, 0⟩]⟩]

/-- Registers of unit CAN (R34). -/
def regsCan : List RegRow := [
  -- CAN_STATUS
  ⟨26, 0x4600000, 1, 0, [⟨23, 16, .ro, .n, 0⟩, ⟨11, 11, .ro, .n, 0⟩, ⟨10, 10, .ro, .n, 0⟩, ⟨9, 8, .ro, .n, 0⟩, ⟨6, 0, .ro, .n, 0⟩]⟩,
  -- CAN_CFG
  ⟨26, 0x4600004, 1, 0, [⟨10, 8, .rwl, .m, 2⟩, ⟨5, 5, .rwl, .m, 0⟩, ⟨4, 4, .rwl, .m, 1⟩, ⟨2, 0, .rwl, .m, 3⟩]⟩,
  -- CAN_ERR
  ⟨26, 0x4600008, 1, 0, [⟨21, 16, .ro, .n, 0⟩, ⟨15, 8, .ro, .n, 0⟩, ⟨7, 0, .ro, .n, 0⟩]⟩,
  -- CAN_CNT
  ⟨26, 0x4600010, 1, 0, [⟨31, 16, .rc, .n, 0⟩, ⟨15, 0, .rc, .n, 0⟩]⟩]

/-- Registers of unit KEY (R34). -/
def regsKey : List RegRow := [
  -- KEY_STATUS
  ⟨27, 0x4800000, 1, 0, [⟨23, 8, .ro, .n, 0⟩, ⟨7, 4, .ro, .n, 0⟩, ⟨3, 3, .ro, .n, 0⟩, ⟨2, 2, .ro, .n, 0⟩, ⟨1, 1, .ro, .n, 0⟩, ⟨0, 0, .ro, .n, 0⟩]⟩,
  -- KEY_RNG
  ⟨27, 0x4800004, 1, 0, [⟨15, 0, .rc, .n, 0⟩]⟩]

/-- The registers of unit `u`, by the index of R34. -/
def regsOfUnit (u : Nat) : List RegRow :=
  match u with
  | 0 => regsPlt
  | 2 => regsTnt
  | 3 => regsFcl
  | 4 => regsEvt
  | 5 => regsLcm
  | 6 => regsTst
  | 7 => regsNvc
  | 8 => regsBmc
  | 9 => regsDma
  | 10 => regsHcc
  | 11 => regsQmg
  | 13 => regsChn0
  | 14 => regsChn1
  | 15 => regsDec
  | 16 => regsPre0
  | 17 => regsPre1
  | 18 => regsSrv0
  | 19 => regsSrv1
  | 20 => regsCle
  | 21 => regsSpm
  | 22 => regsMfe
  | 23 => regsCxc
  | 24 => regsEth
  | 25 => regsMig
  | 26 => regsCan
  | 27 => regsKey
  | _ => []

end Sys2Proof.Machine
end

