-- ==== Sys2Proof/Machine/State.lean ====
section
/-!
DEFINITION. The state of the block as plain data, the reasons a command can stop, and the state after reset.
Registers of BAR0 live in one file (`regs`), dictionary entries in another (`dict`, with `bank3` as their stored copies);
both list only what differs from its reset or default value, in rising order of address. Everything else the spec gives
the part is a field of the record of its unit.
Choices: assumption log 4, 60.
-/
namespace Sys2Proof.Machine
open Sys2Proof

/-- A fault message: 9-bit source, 6-bit kind, 48-bit address (R596). -/
structure FaultMsg where
  source : Nat
  kind : Nat
  addr : Nat
  deriving DecidableEq, Repr

/-- What the part drives outward: the model's own record of frames, writes and answers, newest first. -/
inductive Out where
  | canFrame (id : Nat) (brs : Bool) (payload : List Byte)      -- a CAN FD frame (R57, R581)
  | hostWrite (addr : Nat) (bytes : List Byte)                  -- a write to host memory
  | msix (addr : Nat) (data : Nat)                              -- an MSI-X message (R399)
  | completion (bytes : List Byte)                              -- read data of a register or configuration access
  | completerAbort                                              -- R6, R20
  | configRetry                                                 -- R64
  | unsupported                                                 -- an unsupported request
  | cxlFatal                                                    -- fatal error with viral (R407, R610)
  | memData (line : Nat) (bytes : List Byte) (poison : Bool)    -- CXL.mem read data
  | memDone (line : Nat)                                        -- CXL.mem write completed
  | cacheReq (op : Nat) (addr : Nat)                            -- a CXL.cache request, by the opcode of Machine/Hcc.lean
  | snoopRsp (rsp : Nat) (addr : Nat) (bytes : List Byte)       -- a snoop response
  | preamp (k : Nat) (frame : Nat)                              -- a serial frame to preamp k (R250)
  | datagram (addr : List Byte) (port type : Nat) (body : List Byte) -- a migration datagram to an address and UDP port (R541, R543)
  | icmp (type : Nat) (body : List Byte)                        -- an ICMPv6 answer (R540)
  | doe (bytes : List Byte)                                     -- a DOE response
  | wgate (k : Nat) (high : Bool) (ns : Nat)                    -- PAk_WGATE driven, ns before the next bit or after the last (R261)
  | rgate (k : Nat) (high : Bool)                               -- the data read gate of channel k (R174)
  | vcmVelocity (k mv : Nat)                                    -- the motion die holds this back-EMF on VCM k (R334)
  | frontEnd (k : Nat) (servo : Bool) (settings : Nat)          -- reader A's front end over a servo field, and back (R166)
  | testTracks (head zone rate sectors count : Nat)             -- the test pattern of qualification, written and read back (R244)
  | sector (psa : Nat) (piece : Piece) (ratio : Nat) (delays : List Nat) -- bits of a sector as written in one data area, with the
                                                                -- synthesiser's ratio and each bit's delay in 1/64 (R118, R259, R260)
  | gap (k : Nat) (bits : Nat)                                  -- the gap between two sectors, written with 1100 (R261)
  | ivory (surface slot wedge eighths rate : Nat) (bits : Nat)  -- an Ivory sector (R134): where its preamble begins, in eighths of the
                                                                -- wedge period after the mark, its rate in kb/s, its bits, first bit lowest
  deriving DecidableEq, Repr

-- ---------------------------------------------------------------------------------------------------------------
-- Supplies, Ash and the staged start (spec/02)

/-- Supplies and reset inputs, and the clock of the model: µs since supply good (R46 to R51, R57). -/
structure Power where
  v12Good : Bool          -- V12 above its thresholds (R46)
  v33Good : Bool          -- VDD_3V3 above its thresholds (R46)
  good : Bool             -- the motion die's supply is good
  pwrGood : Bool          -- PWR_GOOD
  porstLow : Bool         -- PORST_N low
  railsOut : List Nat     -- die-level supply monitors that report their rail out of range, by source (R599)
  rootOk : Bool           -- the root reference runs within ±2 % (R82)
  held : Bool             -- the core die except the always-on island is held in reset (R51, R68, R82)
  timeUs : Nat            -- µs since supply good
  deriving DecidableEq, Repr

/-- The motion die's Ash state (R52 to R61). -/
structure Ash where
  armed : Bool            -- protection armed
  nodeId : BitVec 7       -- NODE_ID as sampled
  beaconOn : Bool         -- the beacon runs
  queued : Bool           -- a beacon frame waits for arbitration
  frame : List Byte       -- the frame last queued
  seq : BitVec 8          -- SEQ of the next frame
  canStbyLow : Bool       -- CAN_STBY driven low
  declaredDown : Bool     -- link down declared and not up again (R55)
  everUp : Bool           -- the link came up since the motion die's supply became good
  temp : BitVec 8         -- motion-die temperature last measured, I8 in °C
  latched : List FaultMsg -- motion-die messages latched while the link is down (R706)
  deriving DecidableEq, Repr

/-- The staged start (R62 to R75). PLT_STAGE holds stage, failure code and attempt. -/
structure Boot where
  slateRunning : Bool     -- Slate runs its steps
  slateStep : Nat         -- the last step of R62 completed
  slateDone : Bool        -- Slate complete since the last reset of the core die
  slateFailed : Bool      -- Slate failed; the core die is held (R68)
  waitingSpin : Bool      -- the part waits in Slate for a spin-up request (R69)
  delayEnded : Bool       -- the automatic spin-up delay ended
  spinRequested : Bool    -- spin-up allowed by a request
  ochreRunning : Bool     -- Ochre runs
  ochreStep : Nat         -- the last step of R70 completed
  retryWait : Bool        -- the 5 s wait of R71 runs
  abandoned : Bool        -- Ochre abandoned (R72)
  reopen : Bool           -- Cobalt to be reached again under R612 (event 517)
  restore : Bool          -- media service is to be brought back through Ochre from Cobalt (R21, R612)
  cobaltMs : Nat          -- 0x2100:0A
  domainsReset : Nat      -- 0x2100:0B, bits 6:1 as PLT_RSTREQ
  outOfService : List Nat -- domains reset and not yet back in service, by the codes of Machine/Ops.lean (R31, R81)
  svcTimedOut : List Nat  -- media domains out of service for 30 s (R32)
  locked : List Nat       -- actuators whose servo locked in this Ochre (R70)
  stageKept : Bool        -- a Motion domain reset in Cobalt is mended by Ochre with the stage kept (R79)
  bringUp : Bool          -- an unformatted drive is brought up for qualification (R247)
  deriving DecidableEq, Repr

/-- The die-to-die link as the core die sees it (R16 to R21). -/
structure D2d where
  coreUp : Bool           -- the core die sees the link up
  resends : Nat           -- resends of the flit in hand that the core die receives
  motionResends : Nat     -- likewise of the flit that the motion die receives
  flits : Nat             -- flits received whole since reset
  deriving DecidableEq, Repr

-- ---------------------------------------------------------------------------------------------------------------
-- Fault collector, events (spec/18, spec/11, spec/12)

/-- The reaction that runs (R607, R613): severity code 0 to 3, the source that started it, every source that takes part. -/
structure Reaction where
  sev : Nat
  first : Nat
  joined : List Nat
  deriving DecidableEq, Repr

/-- FCL beside its registers (R596 to R615). -/
structure Fcl where
  reaction : Option Reaction
  kept : List FaultMsg        -- messages before Slate completed, oldest first, up to 32 (R706)
  setBefore : List Nat        -- sources set since the reset began, before Slate completed
  evSeq : BitVec 16           -- SEQ of event frames (R592)
  evLastUs : Option Nat       -- time of the last event frame sent
  storageSplit : Bool         -- the duplicated storage disagrees (R601)
  inbox : List FaultMsg       -- messages on the fault network, not yet at FCL (R596), oldest first
  deriving DecidableEq, Repr

/-- An MSI-X table entry (R399). -/
structure Msix where
  vector : Nat
  addr : Nat
  data : Nat
  masked : Bool
  deriving DecidableEq, Repr

/-- EVT beside its routes: the event ring, and the MSI-X table and PBA (R397 to R401, R456 to R458). -/
structure Evt where
  ringBase : Nat
  ringDepth : Nat             -- 0: no ring
  headAddr : Nat
  group : Nat
  cthresh : Nat
  ctime : Nat
  posted : Nat                -- entries posted since set-up
  head : Nat                  -- head word as last read
  seq : BitVec 32
  uncounted : Nat             -- entries not yet announced (R437)
  table : List Msix           -- entries that differ from reset (masked, zero), by vector
  pba : List Nat              -- pending vectors, rising
  deriving DecidableEq, Repr

-- ---------------------------------------------------------------------------------------------------------------
-- GDP on CAN FD (spec/17)

/-- An open segmented session (R589 to R591). -/
structure GdpSession where
  tid : Nat
  index : Nat
  sub : Nat
  write : Bool
  size : Nat
  next : Nat                  -- lowest SEQ not yet received (write), or NEXT last acknowledged (read)
  since : Nat                 -- segments in order since the last SEG_ACK
  sent : Nat                  -- segments sent (read)
  resent : Bool               -- the one resend of R591 was made
  value : List Byte           -- bytes received, or the value of the moment of READ_INIT
  deriving DecidableEq, Repr

/-- CAN beside its registers. -/
structure Can where
  session : Option GdpSession
  unsent : List (Nat × Nat × List Byte) -- frames that wait for the end of bus-off: time, identifier, payload
  deriving DecidableEq, Repr

-- ---------------------------------------------------------------------------------------------------------------
-- Units

/-- CKM (R89 to R91). -/
structure Clk where
  outside : List Nat          -- clock domains (0 to 111, in the order of R89) outside ±2 % in the last gate
  deriving DecidableEq, Repr

/-- TNT beside its registers (R95 to R107). Media-time figures are of actuator 0 and 1. -/
structure Tint where
  tokens : List Nat           -- counts the period in progress started with; empty before the first boundary (R78, R98)
  copy : List Nat             -- the second copy of the counter cells (R100)
  asked : List Nat            -- transfers of the sixteen classes not yet issued (R93, R95)
  askedHost : Nat             -- those of class 11 that host-owned DMA channels ask for (R521)
  next : Nat                  -- class that borrows first in the next round (R96)
  switched : List Nat         -- cores switched to host work for the rest of the window (R106)
  migSuspended : Bool         -- migration work suspended until the next window (R107)
  counting : List Bool        -- media time counts: an index has passed since servo lock (R78)
  bg : List Nat               -- background wedges of the revolution in progress (R103)
  held : List Bool            -- background work waits for the index (R104)
  deriving DecidableEq, Repr

/-- Channel tables of one head and zone (R164, R168, R200, R204, R260): front-end settings of readers A to C and the reader offsets as
the registers hold them, precompensation delays, five equaliser sets of 4 target and 48 equaliser taps, predictor taps. -/
structure ChanTable where
  front : List Nat
  precomp : Nat
  sets : List (List Nat)
  preds : List Nat
  snr : Nat                   -- SNR estimate in 0.01 dB; 0 before one
  deriving DecidableEq, Repr

/-- A firmware image as its header states it (R644), or as its commit record keeps it (R647). -/
structure Image where
  kind : Nat                  -- 0 firmware, 1 boot loader
  length : Nat
  svn : Nat
  version : List Byte
  digest : List Byte          -- bytes 15:0 of DIGEST
  seq : Nat                   -- commit SEQ; 0 before the commit
  deriving DecidableEq, Repr

/-- A download under way or complete (R645): the bank, the header's image, the end of the bytes programmed. -/
structure Download where
  bank : Nat
  image : Image
  next : Nat
  deriving DecidableEq, Repr

/-- The boot record in force (R649). -/
structure BootRec where
  active : Nat
  trial : Nat
  pending : Nat
  attempts : Nat
  floor : Nat
  deriving DecidableEq, Repr

/-- A flash operation in progress (R625 to R627). -/
structure FlashOp where
  erase : Bool
  block : Nat                 -- global block
  unit0 : Nat                 -- first unit programmed, counted over the die
  data : List Byte
  deriving DecidableEq, Repr

/-- A block of bank 3 that an area has opened: 0 the dictionary to 4 the event log (R639, R640). -/
structure AreaBlock where
  area : Nat
  block : Nat                 -- block within the bank
  gen : Nat
  used : Nat                  -- units programmed, the header among them
  deriving DecidableEq, Repr

/-- A dictionary record in force (R641): its entry's key, and where it stands. -/
structure AreaRecord where
  key : Nat
  block : Nat
  unit0 : Nat                 -- first unit within the block
  units : Nat
  deriving DecidableEq, Repr

/-- NVC and the flash die (spec/19). -/
structure Nvc where
  units : List (Nat × List Byte) -- programmed 32 B units by number (die address / 32); every other unit reads 0xFF
  shipped : List Nat          -- blocks not erased since the part left Poreavas: both boot loader copies and image 1 (R3, R633)
  bad : List Nat              -- bad blocks, factory-bad and grown (R637)
  erases : List (Nat × Nat)   -- erase counts of blocks
  op : Option FlashOp         -- operation in progress
  pwdHash : Option (List Byte) -- the password hash in block 16 (R635)
  image1 : Option Image       -- committed image of bank 1
  image2 : Option Image       -- committed image of bank 2
  download : Option Download
  boot : BootRec
  running : Nat               -- bank of the running image; 0 before one is booted
  fellBack : Bool             -- fallen back since the last power-on
  disqualified : Bool         -- a reset of R650 since Slate completed
  bootLoaderSvn : Nat         -- SVN of the boot loader copies in bank 0
  log : List (List Byte)      -- event log records programmed, oldest first (R642)
  logQueue : List (List Byte) -- event log records not yet programmed, oldest first (R642)
  logSeq : BitVec 32          -- SEQ of the next event log record
  bootCount : Nat             -- power-on resets counted (R642)
  areas : List AreaBlock      -- blocks of bank 3 whose log the model holds, as opened: the oldest of an area first (R640)
  records : List AreaRecord   -- the records of the dictionary area that are in force (R641)
  recordSeq : BitVec 64       -- SEQ of the next dictionary record (R641)
  lent : List (Nat × Nat)     -- spare blocks of bank 3 that replace bad ones, each with its area (R640)
  pairKeys : List (Nat × List Byte) -- pairing keys by slot (R542)
  tables : List (Nat × ChanTable) -- channel tables in bank 3, by 64 × head + zone (R78, R204)
  scrubPos : List Nat         -- scrub positions stored for actuator 0 and 1 (R241)
  rowList : List Nat          -- lines whose rows are on the repair list in bank 3 (R352, R360)
  defectCopy : List Defect    -- the copy of the grown defect list in bank 3 (R163, R639)
  deriving DecidableEq, Repr

/-- One entry of the life-cycle history (R662). -/
structure LcEntry where
  from_ : Nat
  dest : Nat
  time : Nat
  deriving DecidableEq, Repr

/-- LCM, the fuses and the key store beside their registers (spec/20). -/
structure Lcm where
  fuse : BitVec 32            -- the life-cycle fuse word (R656)
  recState : Nat              -- STATE of the life-cycle record
  pending : Nat               -- PENDING of the record; 0xFF when none
  recSeq : Nat                -- SEQ of the record
  history : List LcEntry      -- oldest first, up to 14
  copiesAgree : Bool
  eventDue : Option Nat       -- state that event 524 tells when Slate completes (R660)
  zeroised : Bool             -- the zeroise fuse is blown
  gated : Bool                -- key fuses gated (R663)
  scanOpen : Bool             -- scan enabled (R663)
  repairFuses : Nat           -- repair fuse entries used, of 1,024 (R665)
  rngBad : Bool               -- the random generator failed its health test (R673)
  deriving DecidableEq, Repr

/-- TST beside its registers (spec/20). -/
structure Tst where
  hold : Bool                 -- test hold (R670)
  under : List Nat            -- units under test
  test : Nat                  -- the test that runs; 0 none
  took : Option Nat           -- the domain that the test took out of service (R666)
  loop : Bool                 -- a loopback runs
  lbBits : Nat                -- bits compared by the last loopback
  deriving DecidableEq, Repr

/-- An entry of the merge buffer (R364): the bytes of a line by offset, oldest allocation first in the buffer. -/
structure MergeEntry where
  line : Nat
  bytes : List Host.Cell
  cls : Nat                   -- the Tint class of the latest write in it (R365; assumption log 68)
  deriving DecidableEq, Repr

/-- BMC beside its registers (spec/10). Lines are numbered by device address / 64. -/
structure Bmc where
  dram : List Host.Cell       -- DRAM by device address, zero where unlisted (R367)
  poisoned : List Nat         -- lines stored poisoned (R356), rising
  errs : List (Nat × List (Nat × Nat)) -- lines stored with wrong symbols: symbol and error, symbols 80 to 83 virtual (R354)
  merge : List MergeEntry
  repairs : List Nat          -- the repair queue (R358), oldest first
  repaired : List Nat         -- lines a repair has rewritten in this patrol pass (R360)
  done : List Nat             -- 2 MiB blocks initialised out of order (R367)
  hdmLeft : List Nat          -- blocks of the window still to be reinitialised (R368)
  bias : List Nat             -- pages of the window in device bias (R373)
  hot : List Nat              -- components above 85 °C (R353)
  softRows : List Nat         -- lines whose rows the last Slate has repaired by soft post-package repair (R352)
  drift : List Nat            -- DQS drift last read of the four subchannels, in 1/256 unit interval
  deriving DecidableEq, Repr

/-- An operation of a DMA channel as GO found it (R523 to R525). -/
structure DmaPar where
  op : Nat                    -- 0 copy, 1 fill, 2 compare
  sg : Bool                   -- scatter-gather
  big : Bool                  -- elements of 4,096 B
  check : Bool
  ssp : Nat                   -- source space
  dsp : Nat
  src : Nat
  dst : Nat
  counts : List Nat           -- c0, c1, c2
  ssteps : List Int           -- s0, s1, s2
  dsteps : List Int
  fill : Nat
  srcList : List (Nat × Nat × Nat) -- scatter-gather entries: space, address, length
  dstList : List (Nat × Nat × Nat)
  deriving DecidableEq, Repr

/-- A busy or halted DMA channel (R523 to R530). -/
structure DmaRun where
  n : Nat
  par : DmaPar
  line : Nat                  -- the next line of 64 B, counted from the start of the transfer
  deriving DecidableEq, Repr

structure Dma where
  runs : List DmaRun          -- rising by channel
  deriving DecidableEq, Repr

/-- A line held in HCC, or in its eviction buffer (R499 to R504). -/
structure HLine where
  line : Nat                  -- host physical address / 64
  way : Nat
  kind : Nat                  -- 0 mailbox, 1 head word, 2 submission entry, 3 completion ring, 4 event ring
  st : Nat                    -- 0 S, 1 E, 2 M
  pinned : Bool
  used : Nat                  -- stamp of its last use
  dirtied : Nat               -- stamp at which it became dirty
  writes : List (Nat × List Byte) -- entries written into it: offset and bytes
  bad : Bool                  -- it has failed parity and leaves as poisoned (R508)
  deriving DecidableEq, Repr

/-- HCC beside its registers (spec/14). -/
structure Hcc where
  lines : List HLine
  evict : List HLine          -- the eviction buffer, oldest first
  evictWait : List Nat        -- lines that wait for an eviction buffer entry
  held : List (Nat × Nat × List Byte) -- requests held: kind, address, bytes (R513, R514)
  stamp : Nat
  walkOver : Bool             -- the disable walk has passed 70 µs (R511)
  deriving DecidableEq, Repr

-- ---------------------------------------------------------------------------------------------------------------
-- Queues (spec/12)

/-- A submission queue's context (R417, R420, R429). -/
structure Queue where
  qid : Nat
  base : Nat                  -- ring base
  cring : Nat
  burst : Nat
  fetched : Nat               -- F of R429, modulo 64
  tail : Nat                  -- last TAIL that passed the check of R429
  err : Nat                   -- error code (R440); 0 none
  errPos : Nat
  state : Nat                 -- 1 active, 2 error, 3 resetting
  mailbox : Option Nat        -- armed on this line (R430)
  unplaced : Bool             -- the mailbox found no place in HCC and is polled
  mailTail : Option Nat       -- the TAIL last read from the mailbox: one already seen (R429)
  posted : List (Nat × Nat)   -- tags posted and not known consumed, with their count in the ring (R438)
  completed : List Nat        -- tags that have completed since the queue was created (R449), rising
  deriving DecidableEq, Repr

/-- A completion that waits to be posted. -/
structure Waiting where
  qid : Nat
  tag : Nat
  status : Nat
  result : Nat
  deriving DecidableEq, Repr

/-- A completion ring (R418, R425, R436, R437). -/
structure CRing where
  id : Nat
  base : Nat
  depth : Nat
  headAddr : Nat
  head : Nat                  -- HEAD as last read
  posted : Nat                -- entries posted since the ring was created
  group : Nat
  cthresh : Nat
  ctime : Nat                 -- in 4 µs
  uncounted : Nat             -- entries posted since the group's last event
  waiting : List Waiting      -- completions without space, in order
  full : Bool                 -- found full at a read of the head word while a completion waits
  deriving DecidableEq, Repr

/-- A command slot (R421, R432). -/
structure Slot where
  qid : Nat
  tag : Nat
  entry : List Byte           -- the 64 B submission entry (R423)
  order : Nat                 -- its place in the device-wide order of acceptance
  stage : Nat                 -- 0 accepted; 1 waits on the tile pool; 2 runs past its commit point; 3 runs before
                              -- it (past it: a reset of a queue, an ABORT, a firmware activation); 4 its completion waits
  data : List Byte            -- data read and held for a PUT_SEGMENT that waits (R474)
  failed : Nat                -- an ABORT that waits for its target: 1 to complete with SUCCESS, 2 with ABORT_TOO_LATE
  deriving DecidableEq, Repr

/-- A firmware activation that runs (R454). -/
structure Activation where
  qid : Nat
  tag : Nat
  order : Nat                 -- accepted before it: flushed in step 1
  step : Nat                  -- last step of R454 done
  stopUs : Nat                -- time at which fetching stopped
  deriving DecidableEq, Repr

structure Qmg where
  queues : List Queue         -- rising by number
  crings : List CRing         -- rising by number
  slots : List Slot           -- in order of acceptance
  order : Nat                 -- commands accepted since the last reset of the core die
  lastQueue : Nat             -- I/O queue served last (R433)
  turn : Nat                  -- entries it has taken in its turn
  cached : List Nat           -- contexts on chip, most recently used first (R420)
  activation : Option Activation
  deriving DecidableEq, Repr

-- ---------------------------------------------------------------------------------------------------------------
-- Objects (spec/04, spec/13)

/-- A relocation in force (R153): the tile, its old and new PSA, and SEQ of the RELOC record. -/
structure Reloc where
  tile : Nat
  old : Nat
  new : Nat
  seq : Nat
  deriving DecidableEq, Repr

/-- A segment in the DRAM index (R147). -/
structure Seg where
  num : Nat
  tiles : Nat
  lastValid : Nat
  actuator : Nat
  seq : Nat                   -- SEQ of its SEGMENT record
  order : Nat                 -- acceptance of the command that wrote it
  extents : List Extent
  relocs : List Reloc         -- in SEQ order
  durable : Bool              -- its SEGMENT record is on the media
  slots : List Nat            -- tile-pool slots while it is buffered
  deriving DecidableEq, Repr

/-- A version's object record (R153). -/
structure Seal where
  size : Nat
  ctime : Nat
  sha : List Byte
  segcount : Nat
  rclass : Nat
  seq : Nat
  deriving DecidableEq, Repr

/-- An object version in the DRAM index. -/
structure Version where
  key : Nat                   -- the 16 key bytes as a big-endian number
  ver : Nat
  segs : List Seg             -- rising by number
  sealed : Option Seal
  lock : Option (Nat × Nat × Nat) -- UNTIL, RCLASS and SEQ of the lock in force
  changes : Nat               -- segments of it that have passed a commit point
  deriving DecidableEq, Repr

/-- A segment on its way to the media. -/
structure Job where
  seq : Nat
  key : Nat
  ver : Nat
  seg : Nat
  actuator : Nat
  order : Nat
  tiles : List (Nat × Nat × Nat) -- tile, slot, PSA, for each tile not yet on the media
  slots : List Nat            -- its tile-pool slots
  after : List Nat            -- records that go before its SEGMENT record, by SEQ (R267)
  begun : Bool                -- a tile has been written
  refused : Bool              -- refused under R37
  noSector : Bool             -- no sector can take a tile (R490)
  deriving DecidableEq, Repr

/-- A record that waits to be written (R154). -/
structure WaitRec where
  seq : Nat
  stream : Nat
  order : Nat                 -- acceptance of the command behind it; 0 for a record of the part's own
  body : Rec
  deriving DecidableEq, Repr

/-- A journal block on the media. -/
structure JBlock where
  bseq : Nat
  psa : Nat
  lastSeq : Nat               -- highest SEQ in it
  deriving DecidableEq, Repr

/-- A journal stream (R150). -/
structure Stream where
  bseq : Nat                  -- BLOCK_SEQ of the next block
  pos : Nat                   -- position in the journal sequence at which it is looked for
  live : List JBlock          -- blocks of the live journal, oldest first
  full : Bool                 -- no sector can take the next block (R704)
  deriving DecidableEq, Repr

/-- A position in the order of R482: behind a version, or at it with some of its segments done (R484, R558, R561). -/
structure Pos where
  key : Nat
  ver : Nat
  here : Bool                 -- the position is at the version, not behind it
  segs : Nat                  -- segments of the version already written to the host
  deriving DecidableEq, Repr

/-- A cookie of LIST or MIGRATE (R484, R558). -/
structure Cookie where
  id : Nat
  pos : Pos
  usedUs : Nat
  deriving DecidableEq, Repr

structure Obj where
  versions : List Version     -- rising by key and version
  jobs : List Job             -- oldest first
  recs : List WaitRec         -- in SEQ order
  onMedia : List (Nat × Rec)  -- records on the media: of the checkpoint in force, and of the journal after it
  nextSeq : Nat
  stream0 : Stream
  stream1 : Stream
  root : Option Root          -- the root in force
  ckptSectors : List Nat      -- sectors of the checkpoint and the defect list in force
  defects : List Defect       -- the grown defect list in force
  freeing : List (Nat × List Nat) -- sectors that become free with the root after the record of this SEQ (R475)
  blocksSince : Nat           -- journal blocks since the last checkpoint
  recsSince : Bool            -- a record has been written since then
  ckptUs : Nat                -- time of the last checkpoint
  openStripes : List Nat      -- stripes written and not closed since
  closedHeads : List Nat      -- heads with a writer fault not cleared: they take no new segments (R270)
  damaged : List (Nat × Nat)  -- versions with index damage (R156)
  pool : List (Nat × List Byte) -- tile slots in use: slot and tile
  badSlots : List Nat         -- slots with the bad flag (R372)
  cookies : List Cookie
  nextCookie : Nat
  clock : Option (Nat × Nat)  -- clock value written and the time of the write (R487)
  recovered : Bool            -- the index has been recovered since the core die left reset
  lookups : List (Nat × Version) -- the lookups of the GET_RANGEs and VERIFYs that wait, by order of acceptance (R443, R489)
  deriving DecidableEq, Repr

/-- The media: what the disks hold. No reset touches it. -/
structure Disk where
  servo : Bool                -- the servo pattern is on the disks
  ivory : List (Nat × List (Nat × List Byte)) -- Ivory information blocks of a surface by wedge, as every slot holds them
  sectors : List (Nat × List Byte) -- information blocks by PSA; a sector not listed does not decode
  wseq : Nat                  -- the drive-wide WSEQ counter (R146)
  parityHits : List Nat       -- the part's record of the parity sectors that have reached REALLOC_STAGE once (R235)
  deriving DecidableEq, Repr

/-- The media as the part knows them (R138, R139, R247). -/
structure Media where
  drive : Option Drive        -- from the Ivory descriptors
  surfaces : List Surface     -- rising by head
  pitch : List Nat            -- data track pitch of the two actuators' current zones in 1/256 servo track; empty before
  tables : List (Nat × ChanTable) -- channel tables in force, by 64 × head + zone
  snrs : List (Nat × List (Nat × Nat)) -- by 64 × head + zone, bits and squared error of the last 64 confirmed sectors (R204)
  pass : List (Nat × Nat × Nat × Nat) -- scrub pass under way by 64 × head + zone: sectors, local iterations, sum of SNR (R242)
  passUs : List Nat           -- time at which the scrub pass of actuator 0 and 1 began (R241)
  qualSnr : List (Nat × Nat)  -- qualified SNR by 64 × head + zone, in 0.01 dB, with the channel tables in bank 3 (R244)
  qual : List (Nat × Nat)     -- steps taken by 64 × head + zone, while qualification runs
  qualDone : List Nat         -- head and zone pairs that have passed
  qualFails : List Nat        -- sectors that failed L0 in the final pass
  scrub : List Nat            -- sectors last scrubbed on actuator 0 and 1 (R241)
  deriving DecidableEq, Repr

/-- One sector waiting to be written: a tile of a job, with the rewrites made after cuts (R267). -/
structure WriteOp where
  seq : Nat
  tile : Nat
  psa : Nat
  rewrites : Nat
  deriving DecidableEq, Repr

/-- One revolution of a sector: its samples and what acquisition and the mark search made of them (R187 to R190, R216). -/
structure SampleRec where
  rev : Nat                   -- revolution number
  eqset : Nat
  width : Nat                 -- W in force
  resyncWidth : Nat           -- half-width of the resync windows in force
  pieces : List (List (List Int)) -- samples of readers A, B and C of each part between servo fields
  cands : List Cand           -- in rank order
  resync : List (Int × Option Int) -- at each resync field the offset used, and the second candidate
  locked : Bool               -- the lock test passed
  snr : Nat                   -- SNR estimate in 0.01 dB
  deriving DecidableEq, Repr

/-- A sector in the sample ring without a verdict, or waiting for its copy to the sample store (R188). -/
structure RingSector where
  psa : Nat
  kind : Nat                  -- 0 foreground read, 3 scrub, 4 qualification: the class of its ladder (R211)
  rec_ : SampleRec
  tried : Nat                 -- alignments tried
  verdict : Nat               -- 0 none, 1 MARK_MISS, 2 DECODE_FAIL
  place : Nat                 -- its position in the sample ring, in bytes
  copied : Bool               -- its samples are in the sample store and no longer in the ring (R189)
  deriving DecidableEq, Repr

/-- CHN beside its registers, and the write operation of its actuator. -/
structure Chn where
  wgate : Bool                -- PAk_WGATE at the pin
  gateFault : Bool            -- a zone slot parity or gate monitor fault stands (write-inhibit bit 11)
  cut : Bool                  -- a write was cut and its sectors wait to be rewritten (R266)
  adjacent : List Nat         -- sectors of adjacent tracks to be read after a cut (R268)
  ops : List WriteOp          -- sectors to be written, in order
  ring : List RingSector      -- oldest first
  sectors : Nat               -- sectors acquired
  lockFails : List Nat        -- of the last 10^6 sectors, those whose lock test failed (R196)
  slips : List Nat            -- sectors reported REV_SLIP, to be read again on the next revolution (R189)
  lost : List Nat             -- sectors reported SERVO_LOST, likewise (R193, R220)
  hist : List Nat             -- local iterations of the last 64 confirmed sectors, newest first (R209)
  zoneIn : Option (Nat × Nat) -- head and zone whose channel tables are loaded
  front : List Nat            -- front-end settings and reader offsets loaded (R164, R168); empty before
  taps : List Nat             -- target and equaliser taps in use (R200, R203); empty before tables are loaded
  preds : List Int            -- predictor taps in use (R201)
  own : List Nat              -- registers of those that were written since
  rgate : Bool                -- the data read gate is asserted (R174)
  freq : Int                  -- frequency term of the timing loop (R171)
  phase : Int                 -- its phase, in units of STEP
  tracking : Bool             -- the tracking gains are in force (R171)
  step : Nat                  -- STEP × Tn / Tw in force (R170)
  ratio : Nat                 -- FRAC × Tn / Tw that the write synthesiser applies (R87, R259)
  ringAt : Nat                -- where the next sector goes in the sample ring (R188)
  revs : Nat                  -- revolutions counted, the number of R216
  deriving DecidableEq, Repr

/-- A decode, waiting or running (R211): 0 first trial, 1 further trial, 2 foreground recovery, 3 scrub, 4 qualification. -/
structure Work where
  k : Nat
  psa : Nat
  kind : Nat
  cand : Nat                  -- rank of its candidate
  offset : Int                -- mark start of its alignment
  resync : List Int           -- offsets at the resync fields of its alignment
  stored : Option SampleRec   -- the record decoded; none: the sector in the ring
  stage : Nat                 -- 0 for a trial, else the ladder stage it belongs to
  resumed : Bool              -- it has been spilled (R212)
  done : Nat                  -- global iterations done before the spill
  iters : Nat                 -- local iterations done before the spill
  deriving DecidableEq, Repr

/-- A sample-store slot (R216). -/
structure StoreSlot where
  slot : Nat                  -- its number, from 0 to 2,047
  k : Nat
  psa : Nat
  kind : Nat
  rec_ : SampleRec
  untried : Bool              -- a missed mark or an untried candidate: L5 runs on it (R221)
  deriving DecidableEq, Repr

/-- The ladder of one sector (R220 to R225). -/
structure Ladder where
  psa : Nat
  k : Nat
  kind : Nat                  -- 2 foreground, 3 scrub, 4 qualification
  stage : Nat                 -- 1 to 4
  reached : Nat               -- highest stage applied (R223)
  rereads : Nat               -- re-reads of the present stage
  revs : Option Nat           -- revolutions since the stripe's first re-read (R224); none before it
  queue : List Work           -- decodes of the present step still to be issued
  busy : Bool                 -- a decode of it waits or runs
  back : Bool                 -- a step of it has ended and the erasures have not been recounted since (R222)
  ended : Bool                -- its step of the present stage has ended
  search : Bool               -- behind the queue an alignment search is applied that excludes every offset (R223, R228)
  readAt : Option Nat         -- revolution of its last re-read (R222)
  mismatch : Bool             -- a decode of it met a tag mismatch (R40)
  deriving DecidableEq, Repr

/-- A spill buffer that drains: the instance, the actuator of the decode, its extrinsic LLRs (R212). -/
structure Spill where
  inst : Nat
  k : Nat
  llrs : List Int
  deriving DecidableEq, Repr

/-- DEC beside its registers. -/
structure Dec where
  inst : List (Option Work)   -- the four instances
  draining : List Spill       -- spill buffers that drain
  waiting : List Work         -- oldest first
  store : List StoreSlot      -- oldest first
  ladders : List Ladder       -- oldest first
  erased : List Nat           -- sectors erased for their stripe
  unread : List Nat           -- sectors of stripes under recovery without a verdict
  confirmed : List Nat        -- sectors confirmed of the stripe read last on each actuator and of stripes under recovery
  failed : List (Nat × Nat)   -- outcome of the last read of a sector when it failed: status of R497
  recovered : List (Nat × List Byte) -- recovered blocks that stay in the buffer, by PSA (R230, R232)
  due : List (Nat × Bool)     -- sectors to be reallocated after recovery (R232), oldest first; true: scrub's, background work
  recheck : List Nat          -- sectors rewritten for their margin, to be read again (R238)
  rewrite : List Nat          -- sectors of low margin whose rewrite waits for a ladder to end or for scrub's share (R225, R104)
  again : List (Nat × Nat)    -- sectors whose ladder restarts at L0 later, with their class (R218)
  deriving DecidableEq, Repr

/-- A soft-start ramp (R285): the loop whose enabling or target started it, m, the sample reached, RAMP_N. -/
structure Ramp where
  loop : Nat
  m : Int
  n : Nat
  len : Nat
  deriving DecidableEq, Repr

/-- A seek (R289): the microactuator's ramp to zero while it runs, then r_traj. -/
structure Seek where
  ma : Option Ramp
  r : Int
  v : Int                     -- change of r_traj at the last wedge
  a : Int                     -- a_ref at the last wedge
  deriving DecidableEq, Repr

/-- SRV beside its registers (R275 to R299). Positions are in 1/256 servo track. -/
structure Srv where
  sstep : Nat                 -- SSTEP × Tn / Tw, the interpolation step in force (R273)
  pred : Nat                  -- consecutive predicted wedges
  seeds : Nat                 -- valid wedges since the last seeding began, up to 2 (R78)
  p1 : Int                    -- P of the last wedge
  p2 : Int                    -- P of the wedge before
  uv : List Int               -- u_v sent, newest first, two of them
  uma : List Int              -- u_ma sent, newest first, two of them
  passes : Nat                -- consecutive residual checks passed
  qualified : Bool            -- 8 in a row have passed since the last seeding (R291)
  resRun : Nat                -- consecutive valid wedges with a residual over RES_TH
  pesRun : Nat                -- consecutive wedges with the PES within the write-inhibit threshold
  counting : Bool             -- settle counting has begun (R290)
  rd : Nat
  wr : Nat
  maDue : Bool                -- the microactuator loop is enabled at read settle (R290)
  amps : List Nat             -- A of the last valid wedges, newest first, up to 16
  sought : Nat                -- wedges since the search over the whole period began (R298)
  run : Nat                   -- valid wedges in a row in that search
  searching : Bool            -- SAMWIN is widened to 16 after a head switch (R293)
  rroErr : Nat                -- runout parity errors in the revolution in progress
  wedges : Nat                -- wedges of the revolution in progress
  ramp : Option Ramp
  seek : Option Seek
  ref : Int                   -- r in force
  waits : Bool                -- a target written during prediction (R297)
  unloading : Bool            -- the seek to the unload position runs (R294)
  tries : Nat                 -- head loads without lock (R292)
  marked : Bool               -- the mark of the last wedge was found (R275)
  tw : Nat                    -- the wedge interval by which rates are scaled (R170, R259)
  held : Option Int           -- the target in force while a written one waits (R297)
  deriving DecidableEq, Repr

/-- The preamp as its registers stand, and PRE beside its registers (R250 to R258). -/
structure Pre where
  mode : Nat
  head : Nat
  readers : Nat
  iw : Nat
  other : List (Nat × Nat)    -- registers 0x05 to 0x08 and 0x0A to 0x0B
  blocked : Bool              -- the write path stays inhibited after a repeated read-back mismatch (R253)
  settling : Bool             -- HS_SETTLE runs: neither gate may assert (R257)
  fltLow : Bool               -- PAk_FLT_N low
  faultRead : Bool            -- FAULT read since it last went low; true before
  precomp : Option Nat        -- precompensation delays loaded (R260); none since PRE_PRECOMP was written
  ident : Option Nat          -- the preamp's ID register, as it last answered (R254, R271)
  mute : Bool                 -- the preamp does not answer a read: SDIO is held at one level (R269)
  deriving DecidableEq, Repr

/-- The state of one section (R282). -/
structure SecState where
  x1 : Int
  x2 : Int
  y1 : Int
  y2 : Int
  deriving DecidableEq, Repr

/-- Runout learning of one head (R299). -/
structure Learn where
  updated : Nat               -- wedges updated in the revolution in progress
  revs : Nat                  -- revolutions counted
  since : Nat                 -- revolutions since the first update
  told : Bool                 -- source 324 was raised
  deriving DecidableEq, Repr

/-- An injection with its capture (R300, R301). -/
structure Inject where
  node : Nat
  kind : Nat                  -- 0 swept sine, 1 multi-sine, 2 PRBS
  wait : Nat                  -- samples before capture starts
  taken : Nat                 -- pairs captured
  len : Nat
  deriving DecidableEq, Repr

/-- CLE beside its registers. -/
structure Cle where
  sec : List (Nat × SecState) -- section states by slot; zero where not listed
  sat : List (Nat × Nat)      -- consecutive saturated samples by loop
  clamp : List (Nat × Nat)    -- consecutive samples with a clamped integrator by loop
  learn : List (Nat × Learn)  -- by head
  inject : Option Inject
  spinRamp : Option Ramp      -- the soft-start ramp of loop 8
  deriving DecidableEq, Repr

/-- SPM beside its registers (R309 to R323). Currents in mA, voltages in mV, duties in counts of 10 ns. -/
structure Spm where
  duty : List Nat             -- duties of phases U, V, W applied in the last period
  phaseI : List Int           -- phase currents of the last sample, sampled or reconstructed
  idq : List Int              -- d and q current, sampled or predicted (R311)
  vdq : List Int              -- voltage vector of the last period
  integ : List Int            -- integrators of the two PI controllers (R313)
  iqTarget : Int              -- q-axis target (R313, R315)
  pwmCount : Nat              -- PWM periods since the last speed loop (R315)
  shiftPeriods : Nat          -- periods since the pattern shift began (R312)
  shiftValid : Bool           -- the shift gave a valid sample
  noSkipRun : Nat             -- consecutive periods that need no skip without the shift
  crossings : List Nat        -- intervals of the crossings seen in sequence, newest first (R318)
  lastCross : Option Nat      -- the crossing seen last, by the numbers of Machine/Motion.lean
  slew : Nat                  -- slewed speed target in 1/5,000 of 1/16 rpm (R316)
  atSpeedRevs : Nat           -- consecutive revolutions within ±0.1 % of target (R70)
  offSpeedRevs : Nat          -- consecutive revolutions outside ±1 % after at-speed (source 339)
  belowCatch : Bool           -- waits to fall below 30 rpm for a start from standstill (R318)
  spinDown : Bool             -- a commanded spin-down is in force
  blackBraked : Bool          -- the Black reaction braked the spindle (R331)
  lastShortUs : Option Nat    -- time of the last phase short that was cleared (R341)
  secondShort : Bool          -- a second phase short within 60 s of a cleared first (R341)
  focOn : Bool                -- FOC runs
  carry : Option (Nat × Nat)  -- phase and duty removed in the first period of a shifted pair (R312)
  pulses : Nat                -- PWM periods spent on the pulses of R317
  peaks : List Nat            -- peak currents of those pulses
  angle : Nat                 -- electrical angle in 1/65,536 turn
  turn : Nat                  -- what the angle moves by in a period of the open loop (R317)
  sent : List Nat             -- the duty set sent for the next period (R313)
  target : Nat                -- the speed target in force, in 1/16 rpm (R316)
  zvOnly : Bool               -- the spin-down in force brakes by zero vector alone (R322, R328)
  shortUs : Option Nat        -- time of the phase short whose latch stands
  emf : List Int              -- the observer's back-EMF of the period before, in the d-q frame (R311)
  deriving DecidableEq, Repr

/-- The retract profile of one actuator (R335): phase 0 none, 1 velocity, 2 push; the cause of R345. -/
structure Retract where
  phase : Nat
  cause : Nat
  deriving DecidableEq, Repr

/-- The motion die beside its registers (R306 to R342). -/
structure Mfe where
  ret0 : Retract
  ret1 : Retract
  coilShorted0 : Bool         -- the VCM coil is held shorted through the low sides
  coilShorted1 : Bool
  dacZero0 : Bool             -- the microactuator DAC is driven to 0 V
  dacZero1 : Bool
  vcmOff0 : Bool              -- the VCM bridge is off
  vcmOff1 : Bool
  offAfter0 : Bool            -- the bridge turns off when the profile ends (R330)
  offAfter1 : Bool
  setPointsIgnored : Bool     -- CLE set points ignored until the actuators are loaded again (R288)
  brkOn : Bool                -- BRK_G driven
  vbusAtBrk : Nat             -- VBUS when BRK_G was driven, in 10 mV
  regenOff : Bool             -- regeneration disabled (R324, R327)
  supplyLow : Bool            -- V12_SNS or VDD_3V3 below its threshold (R336)
  rectifier : Bool            -- the spindle bridge works as a synchronous rectifier
  fetHeldOff : Bool           -- reversed input holds the FET off
  pllOnLink : Bool            -- the motion clock tracks the link clock (R309)
  missedDuty : Nat            -- consecutive PWM periods without a duty set (R310)
  bridgeReady : Bool          -- the spindle bridge is available (R324)
  lowOpen : Bool              -- the low sides are open for the rest of this period (R329)
  coil0 : Option Nat          -- R_coil measured at the last head load, in mΩ (R334)
  coil1 : Option Nat
  setPoints : List (Int × Int) -- u_v and u_ma in force in the motion die, by actuator (R284, R288)
  speed : Nat                 -- the spindle's speed as last measured, in 1/16 rpm (R314, R318, R707)
  lossConfirmed : Bool        -- a power loss was confirmed and the supply has not brought Motion back since (R336, R337)
  deriving DecidableEq, Repr

/-- CXC beside its registers (spec/11). -/
structure Cxc where
  perstLow : Bool             -- PERST_N asserted
  memEn : Bool                -- Memory Space Enable
  bme : Bool                  -- Bus Master Enable
  msixEn : Bool               -- MSI-X Enable
  msixMask : Bool             -- MSI-X Function Mask
  d3 : Bool                   -- D3hot
  presets : List Nat          -- transmitter preset of each lane, as the last equalisation left it (R384); empty before one
  cfg : List Host.Cell        -- writable configuration bytes that differ from their reset value, by offset
  prevLink : Option (Nat × Nat × Nat) -- CXL mode, width and rate of the last training since power-on (R398)
  ioKeys : Nat                -- the CXL.io stream: 0 no keys, 1 keyed, 2 Secure, 3 failed its integrity check (R402 to R406)
  cmKeys : Nat                -- the CXL.cachemem stream, likewise
  resetRunning : Bool         -- a CXL reset waits for the window (R412)
  spdm : Bool                 -- an SPDM session is open on the DOE mailbox (R402)
  heldWrites : List (Nat × List Byte)  -- host writes that wait for Bus Master Enable or D0 (R413, R434), oldest first
  rasCorr : Nat               -- CXL RAS correctable status (R408), by the bits of CXL 2.0
  rasUnc : Nat                -- CXL RAS uncorrectable status (R407, R408)
  rasLog : List Byte          -- header log: the first failing flit, empty before one (R408)
  hdmRegs : List Nat          -- the decoder's base low and high, size low and high, and control words as the host wrote them (R390)
  deriving DecidableEq, Repr

/-- An object between OFFER and RESULT at the sender: the version as its lookup found it (R550, R552). -/
structure MigOffer where
  obj : Nat
  v : Version
  till : Nat                  -- UNTIL as offered
  next : Nat                  -- tiles sent
  deriving DecidableEq, Repr

/-- The MIGRATE to a peer that runs, with its sending session (R545 to R560). -/
structure MigTx where
  qid : Nat
  tag : Nat
  slot : Nat                  -- pairing slot
  key : Nat
  bits : Nat                  -- prefix bits
  limit : Nat                 -- MAXOBJ
  phase : Nat                 -- as MIG_STATUS.TX: 1 handshake, 2 running, 3 suspended, 4 re-establishing
  session : Nat               -- 0 when none is open
  ns : List Byte
  ks : List Byte
  next : Pos                  -- where the next object to offer is looked for
  back : Pos                  -- position behind the last object with a RESULT of CODE 0 or 1
  taken : Nat                 -- objects offered
  done : Nat                  -- objects with a RESULT of CODE 0 or 1
  abort : Bool                -- an ABORT waits for the next object boundary (R560)
  offers : List MigOffer      -- in the order of OBJ
  nextObj : Nat
  ackBase : Nat
  window : Nat
  nextSeq : Nat
  unacked : List (Nat × Nat × Nat) -- PSEQ, OBJ and number of the tile, of DATA sent and not acknowledged
  late : List Nat             -- PSEQ of those to be sent again once their sector can be read (R31)
  deriving DecidableEq, Repr

/-- An object at the receiver. -/
structure MigObj where
  obj : Nat
  key : Nat
  ver : Nat
  offered : Seal              -- SIZE, CTIME, SHA256, SEGCOUNT and RCLASS as offered
  till : Nat
  total : Nat
  tiles : List (Nat × Nat × Nat) -- segment, tile and tile-pool slot of the tiles received
  st : Nat                    -- 0 receiving, 1 held behind another session (R563), 2 committed, 3 answered
  code : Nat                  -- CODE answered
  recs : List Nat             -- SEQ of the records it was committed with
  deriving DecidableEq, Repr

/-- A receiving session (R545 to R548). -/
structure MigRx where
  slot : Nat
  session : Nat
  ks : List Byte
  established : Bool
  objs : List MigObj
  base : Nat                  -- lowest PSEQ not yet received
  got : List Nat              -- PSEQs received above it, rising
  since : Nat                 -- DATA datagrams since the last SACK
  deriving DecidableEq, Repr

/-- ETH and MIG beside their registers (spec/16). -/
structure Mig where
  modMode : Nat               -- the mode the module reports, by the codes of 0x6000:01; 0 none
  tx : Option MigTx
  rx : List MigRx             -- up to 4
  held : List Instr           -- migration work that waits for the next window (R107), oldest first
  deriving DecidableEq, Repr

-- ---------------------------------------------------------------------------------------------------------------
-- The part as a whole

/-- What the factory gave this part: its grade (R1) and its core-die serial number (0x1018:07). -/
structure Factory where
  gradeX : Bool
  serial : Nat
  deriving DecidableEq, Repr

/-- The state of the block. -/
structure State where
  regs : List (Nat × Word)
  dict : List (Nat × List Byte)
  bank3 : List (Nat × List Byte)
  factory : Factory
  pwr : Power
  ash : Ash
  boot : Boot
  d2d : D2d
  fcl : Fcl
  evt : Evt
  can : Can
  clk : Clk
  tint : Tint
  nvc : Nvc
  lcm : Lcm
  tst : Tst
  bmc : Bmc
  dma : Dma
  hcc : Hcc
  qmg : Qmg
  obj : Obj
  media : Media
  disk : Disk
  chn0 : Chn
  chn1 : Chn
  dec : Dec
  pre0 : Pre
  pre1 : Pre
  srv0 : Srv
  srv1 : Srv
  cle : Cle
  spm : Spm
  mfe : Mfe
  cxc : Cxc
  mig : Mig
  free : Nat                 -- the model's own: how many free values have been used
  out : List Out             -- the model's own: what the part has driven outward, newest first
  pending : List Instr       -- commands that wait, first in first out
  deriving DecidableEq, Repr

/-- Reasons a command stops with a fault. No command of this part does; the type has one name for a state the model
could not continue from. -/
inductive Fault where
  | stuck (why : String)     -- raised by no meaning; safe: the machine would stop where the part goes on
  deriving DecidableEq, Repr

/-- Reasons a command is refused. -/
inductive Refusal where
  | notModelled (mnemonic : String)   -- raised by an arm of `exec` without a meaning yet; safe
  deriving DecidableEq, Repr

/-- Sixteen zero bytes. -/
def zeros16 : List Byte := List.replicate 16 0

/-- Supplies before they rise. -/
def Power.reset : Power := ⟨false, false, false, false, true, [], false, true, 0⟩

/-- The motion die before its supply is good. -/
def Ash.reset : Ash := ⟨false, 0, false, false, [], 0, false, false, false, 0, []⟩

/-- The start-up before Slate. -/
def Boot.reset : Boot :=
  ⟨false, 0, false, false, false, false, false, false, 0, false, false, false, false, 0, 0, [], [], [], false, false⟩

def D2d.reset : D2d := ⟨false, 0, 0, 0⟩
def Fcl.reset : Fcl := ⟨none, [], [], 0, none, false, []⟩
def Evt.reset : Evt := ⟨0, 0, 0, 0, 0, 0, 0, 0, 0, 0, [], []⟩
def Can.reset : Can := ⟨none, []⟩
def Clk.reset : Clk := ⟨[]⟩
def Tint.reset : Tint := ⟨[], [], List.replicate 16 0, 0, 0, [], false, [false, false], [0, 0], [false, false]⟩
/-- Flash as shipped (R3): an image in bank 1, bank 2 erased, regions 0 and 1 locked, no password. -/
def Nvc.reset : Nvc :=
  { units := [], shipped := List.range 16 ++ [512], bad := [], erases := [], op := none, pwdHash := none,
    image1 := some ⟨0, 65536, 0, zeros16, zeros16, 0⟩, image2 := none, download := none, boot := ⟨1, 0, 0, 0, 0⟩,
    running := 0, fellBack := false, disqualified := false, bootLoaderSvn := 0, log := [], logQueue := [], logSeq := 0,
    bootCount := 0, areas := [], records := [], recordSeq := 0, lent := [], pairKeys := [], tables := [], scrubPos := [0, 0], rowList := [],
    defectCopy := [] }

/-- Fuses of a part in Manufacture (R3, R656): F1 blown. -/
def Lcm.reset : Lcm := ⟨0x000000FF, 1, 0xFF, 0, [], true, none, false, false, false, 0, false⟩
def Tst.reset : Tst := ⟨false, [], 0, none, false, 0⟩
def Bmc.reset : Bmc := ⟨[], [], [], [], [], [], [], [], [], [], [], [0, 0, 0, 0]⟩
def Dma.reset : Dma := ⟨[]⟩
def Hcc.reset : Hcc := ⟨[], [], [], [], 0, false⟩
def Qmg.reset : Qmg := ⟨[], [], [], 0, 0, 0, [], none⟩
/-- A journal stream of a drive just formatted (R247). -/
def Stream.reset : Stream := ⟨0, 0, [], false⟩
def Obj.reset : Obj :=
  { versions := [], jobs := [], recs := [], onMedia := [], nextSeq := 1, stream0 := Stream.reset, stream1 := Stream.reset, root := none,
    ckptSectors := [], defects := [], freeing := [], blocksSince := 0, recsSince := false, ckptUs := 0, openStripes := [],
    closedHeads := [], damaged := [], pool := [], badSlots := [], cookies := [],
    nextCookie := 1, clock := none, recovered := false, lookups := [] }
/-- A drive as assembled: the servo pattern alone. -/
def Disk.reset : Disk := ⟨true, [], [], 0, []⟩
def Media.reset : Media := ⟨none, [], [], [], [], [], [0, 0], [], [], [], [], [0, 0]⟩
/-- STEP and FRAC at the reset values of their registers; the loop at rest. -/
def Chn.reset : Chn :=
  { wgate := false, gateFault := false, cut := false, adjacent := [], ops := [], ring := [], sectors := 0, lockFails := [], slips := [],
    lost := [], hist := [], zoneIn := none, front := [], taps := [], preds := [], own := [], rgate := false, freq := 0, phase := 0,
    tracking := false, step := 0x133333, ratio := 0x6AAAAB, ringAt := 0, revs := 0 }
def Dec.reset : Dec := ⟨[none, none, none, none], [], [], [], [], [], [], [], [], [], [], [], [], []⟩
def Pre.reset : Pre := ⟨0, 0, 0, 0, [], false, false, false, true, none, none, false⟩
/-- SSTEP at the reset value of its register; the model not seeded. -/
def Srv.reset : Srv :=
  ⟨0x1333333, 0, 0, 0, 0, [0, 0], [0, 0], 0, false, 0, 0, false, 0, 0, false, [], 0, 0, false, 0, 0, none, none, 0, false, false, 0, false, 0x1312D00, none⟩
def Cle.reset : Cle := ⟨[], [], [], [], none, none⟩
def Spm.reset : Spm :=
  ⟨[0, 0, 0], [0, 0, 0], [0, 0], [0, 0], [0, 0], 0, 0, 0, false, 0, [], none, 0, 0, 0, false, false, false, none, false, false,
   none, 0, [], 0, 0, [0, 0, 0], 0, false, none, [0, 0]⟩
def Mfe.reset : Mfe :=
  ⟨⟨0, 0⟩, ⟨0, 0⟩, false, false, false, false, false, false, false, false, true, false, 0, false, false, false, false, false,
   0, true, false, none, none, [(0, 0), (0, 0)], 0, false⟩
def Cxc.reset : Cxc := ⟨false, false, false, false, false, false, [], [], none, 0, 0, false, false, [], 0, 0, [], [0, 0, 0, 0, 0]⟩
def Mig.reset : Mig := ⟨0, none, [], []⟩

/-- The machine right after reset: a part in Manufacture (R3), every register at its reset value, every entry at its
default, nothing queued. -/
def State.reset : State :=
  { regs := [], dict := [], bank3 := [], factory := ⟨false, 0⟩, pwr := Power.reset, ash := Ash.reset,
    boot := Boot.reset, d2d := D2d.reset, fcl := Fcl.reset, evt := Evt.reset, can := Can.reset, clk := Clk.reset,
    tint := Tint.reset, nvc := Nvc.reset, lcm := Lcm.reset, tst := Tst.reset, bmc := Bmc.reset, dma := Dma.reset,
    hcc := Hcc.reset, qmg := Qmg.reset, obj := Obj.reset, media := Media.reset,
    disk := Disk.reset, chn0 := Chn.reset, chn1 := Chn.reset,
    dec := Dec.reset, pre0 := Pre.reset, pre1 := Pre.reset, srv0 := Srv.reset, srv1 := Srv.reset, cle := Cle.reset,
    spm := Spm.reset, mfe := Mfe.reset, cxc := Cxc.reset, mig := Mig.reset, free := 0, out := [], pending := [] }

end Sys2Proof.Machine
end

