-- ==== Sys2Proof/Machine/Ops.lean ====
section
/-!
DEFINITION. The operations over registers, dictionary, life cycle and outputs that every meaning uses.
Choices: assumption log 1, 6, 7.
-/
namespace Sys2Proof.Machine
open Sys2Proof

-- ---------------------------------------------------------------------------------------------------------------
-- Units and domains (R28, R34)

/-- Base and size in BAR0 of unit `u` (R34). -/
def unitWindow (u : Nat) : Nat × Nat :=
  if u < 8 then (u * 0x100000, 0x100000)
  else match u with
    | 8 => (0x1000000, 0x200000)
    | 9 => (0x1200000, 0x200000)
    | 10 => (0x1400000, 0x200000)
    | 11 => (0x1600000, 0x200000)
    | 12 => (0x1800000, 0x800000)
    | 13 => (0x2000000, 0x200000)
    | 14 => (0x2200000, 0x200000)
    | 15 => (0x2400000, 0x200000)
    | 16 => (0x2600000, 0x100000)
    | 17 => (0x2700000, 0x100000)
    | 18 => (0x2800000, 0x200000)
    | 19 => (0x2A00000, 0x200000)
    | 20 => (0x2C00000, 0x400000)
    | 21 => (0x3000000, 0x200000)
    | 22 => (0x3200000, 0x200000)
    | 23 => (0x4000000, 0x200000)
    | 24 => (0x4200000, 0x200000)
    | 25 => (0x4400000, 0x200000)
    | 26 => (0x4600000, 0x200000)
    | 27 => (0x4800000, 0x200000)
    | _ => (0, 0)

/-- The unit whose window holds BAR0 offset `a` (R34, R35). -/
def unitAt (a : Nat) : Option Nat :=
  (List.range 28).find? (fun u => (unitWindow u).1 ≤ a && a < (unitWindow u).1 + (unitWindow u).2)

/-- The unit that owns fault source `src` (R34); die-level ids from 448 have none. -/
def unitOfSource (src : Nat) : Option Nat := if src < 448 then some (src / 16) else none

/-- The seven domains (R28), by the code of the domain table. -/
def domPlatform : Nat := 0
def domBuffer : Nat := 1
def domHost : Nat := 2
def domObject : Nat := 3
def domMedia (k : Nat) : Nat := 4 + k
def domMotion : Nat := 6

/-- The units of a domain; DEC is shared by both media domains and listed with neither (R29, R30). -/
def domainUnits (d : Nat) : List Nat :=
  match d with
  | 0 => [0, 1, 2, 3, 4, 5, 6, 7, 26, 27]
  | 1 => [8, 9]
  | 2 => [10, 11, 23]
  | 3 => [12, 24, 25]
  | 4 => [13, 16, 18]
  | 5 => [14, 17, 19]
  | 6 => [20, 21, 22]
  | _ => []

/-- The domain that owns unit `u`. -/
def domainOfUnit (u : Nat) : Nat :=
  match u with
  | 8 | 9 => 1
  | 10 | 11 | 23 => 2
  | 12 | 24 | 25 => 3
  | 13 | 15 | 16 | 18 => 4
  | 14 | 17 | 19 => 5
  | 20 | 21 | 22 => 6
  | _ => 0

-- ---------------------------------------------------------------------------------------------------------------
-- Default severities (R602 and the source tables): 0 Grey, 1 Amber, 2 Vermilion, 3 Black

def amberSources : List Nat :=
  [4, 5, 6, 7, 8, 9, 10, 11, 12, 13, 33, 49, 96, 114, 116, 117, 118, 120, 128, 130, 164, 177, 192, 193, 194, 208, 224,
   244, 246, 256, 257, 259, 262, 272, 273, 275, 278, 288, 291, 304, 307, 324, 336, 339, 340, 357, 359, 360, 362, 363, 364, 366,
   368, 371, 375, 400, 401, 419, 432, 448, 449, 450, 451, 452, 453, 454, 455, 456, 464, 488]

def vermilionSources : List Nat :=
  [0, 32, 64, 81, 98, 99, 115, 133, 135, 144, 146, 176, 209, 210, 225, 226, 240, 241, 242, 258, 260, 274, 276, 290, 293,
   306, 309, 337, 341, 352, 353, 354, 358, 365, 367, 370, 373, 386, 402, 418, 433]

def blackSources : List Nat :=
  [48, 50, 134, 161, 162, 211, 227, 320, 321, 355, 356, 465, 480, 481, 482, 483, 484, 485, 486, 487, 489, 490, 491]

/-- The default severity code of a source; a source no table names is Grey (R602). -/
def defaultSeverity (src : Nat) : Nat :=
  if blackSources.contains src then 3
  else if vermilionSources.contains src then 2
  else if amberSources.contains src then 1
  else 0

-- ---------------------------------------------------------------------------------------------------------------
-- Registers (R5 to R15)

/-- Whether register `a` lies in row `r`. -/
def rowCovers (r : RegRow) (a : Nat) : Bool :=
  if r.count ≤ 1 then a == r.base
  else r.base ≤ a && (a - r.base) % r.stride == 0 && (a - r.base) / r.stride < r.count

/-- The row of the register tables that holds offset `a`; none where the offset holds no register (R7, R35). -/
def regRowAt (a : Nat) : Option RegRow :=
  match unitAt a with
  | none => none
  | some u => (regsOfUnit u).find? (fun r => rowCovers r a)

/-- The reset word that a row's fields spell. -/
def rowResetWord (r : RegRow) : Nat :=
  r.fields.foldl (fun acc f => acc + f.reset % 2 ^ (f.hi + 1 - f.lo) * 2 ^ f.lo) 0

/-- The default budget of Tint class `n` (R94). -/
def tintTokens (n : Nat) : Nat := [160, 160, 160, 32, 32, 192, 4, 4, 16, 16, 32, 128, 64, 32, 0, 0].getD n 0

/-- The default slack bit of Tint class `n` (R94). -/
def tintSlack (n : Nat) : Nat := [1, 1, 1, 0, 0, 0, 0, 0, 1, 1, 1, 1, 1, 0, 0, 0].getD n 0

/-- Whether Tint class `n` is in the media set (R94). -/
def tintMedia (n : Nat) : Bool := [3, 4, 5, 7, 13].contains n

/-- The reset word of FCL_SEVn: 16 severities of 2 bits (R602). -/
def sevWord (n : Nat) : Nat :=
  (List.range 16).foldl (fun acc i => acc + defaultSeverity (16 * n + i) * 4 ^ i) 0

/-- The reset value of register `a`: the register tables, with the resets that a table gives per index. -/
def resetWord (a : Nat) : Word :=
  match regRowAt a with
  | none => 0
  | some r =>
    let n := (a - r.base) / 4
    if r.base = 0x200100 then
      BitVec.ofNat 32 (b2n (tintMedia n) * 2 ^ 17 + tintSlack n * 2 ^ 16 + tintTokens n)
    else if r.base = 0x300100 then BitVec.ofNat 32 (sevWord n)
    else if r.base = 0x401000 then BitVec.ofNat 32 (if n < 768 then 2 ^ 10 else 0)
    else if r.base = 0x2800040 || r.base = 0x2A00040 then
      BitVec.ofNat 32 (if n = 0 then 0x02000000 else if n = 1 then 0xFF000000 else 0)
    else if (r.base = 0x2000800 || r.base = 0x2200800) && n = 7 then 0x200
    else if r.base = 0x700040 then
      BitVec.ofNat 32 (if n = 0 then 0x800F0000 else if n = 1 then 0x80100010 else 0)
    else BitVec.ofNat 32 (rowResetWord r)

/-- What register `a` holds. -/
def State.reg (s : State) (a : Nat) : Word := (Assoc.find s.regs a).getD (resetWord a)

/-- The register file with register `a` at `w`, in canonical form: nothing listed at its reset value. -/
def regsPut (m : List (Nat × Word)) (a : Nat) (w : Word) : List (Nat × Word) :=
  if w = resetWord a then Assoc.del m a else Assoc.put m a w

/-- The canonical form of a register file: addresses rise, nothing is listed at its reset value. -/
def RegsWf (m : List (Nat × Word)) : Prop := Assoc.rising m = true ∧ ∀ p ∈ m, p.2 ≠ resetWord p.1

/-- The state with register `a` at `w`. -/
def State.setReg (s : State) (a : Nat) (w : Word) : State := { s with regs := regsPut s.regs a w }

/-- What field `f` holds. -/
def State.getF (s : State) (f : FieldRef) : Nat := Word.get (s.reg f.addr) f.hi f.lo

/-- The state with field `f` at `v` (its low bits). -/
def State.setF (s : State) (f : FieldRef) (v : Nat) : State :=
  s.setReg f.addr (Word.set (s.reg f.addr) f.hi f.lo v)

/-- Whether field `f` holds a value other than zero. -/
def State.isSet (s : State) (f : FieldRef) : Bool := s.getF f != 0

/-- The state with a counter field advanced by `d`, saturating at all ones. -/
def State.bumpF (s : State) (f : FieldRef) (d : Nat) : State :=
  s.setF f (satAdd (f.hi + 1 - f.lo) (s.getF f) d)

/-- The registers of unit `u` at their reset values, except those that `keep` names. -/
def resetUnitRegs (u : Nat) (keep : List Nat) (m : List (Nat × Word)) : List (Nat × Word) :=
  m.filter (fun p => !((unitWindow u).1 ≤ p.1 && p.1 < (unitWindow u).1 + (unitWindow u).2) || keep.contains p.1)

/-- The registers that every reset except a power-on reset keeps (R13): sticky bits, severities, PLT_RSTCAUSE,
NVC_LASTOP and NVC_PROT. -/
def islandRegs : List Nat :=
  [0x14, 0x70000C, 0x700010] ++ (List.range 32).map (fun n => 0x300100 + 4 * n)
    ++ (List.range 16).map (fun n => 0x300200 + 4 * n)

-- ---------------------------------------------------------------------------------------------------------------
-- Actuators: the units that exist twice

def State.chn (s : State) (k : Nat) : Chn := if k = 0 then s.chn0 else s.chn1
def State.setChn (s : State) (k : Nat) (c : Chn) : State := if k = 0 then { s with chn0 := c } else { s with chn1 := c }
def State.pre (s : State) (k : Nat) : Pre := if k = 0 then s.pre0 else s.pre1
def State.setPre (s : State) (k : Nat) (c : Pre) : State := if k = 0 then { s with pre0 := c } else { s with pre1 := c }
def State.srv (s : State) (k : Nat) : Srv := if k = 0 then s.srv0 else s.srv1
def State.setSrv (s : State) (k : Nat) (c : Srv) : State := if k = 0 then { s with srv0 := c } else { s with srv1 := c }

-- ---------------------------------------------------------------------------------------------------------------
-- The surfaces and zones that the Ivory descriptors give

def State.surfaceOf (s : State) (head : Nat) : Option Surface := s.media.surfaces.find? (fun x => x.head == head)
def State.zoneAt (s : State) (psa : Nat) : Option Zone :=
  match s.surfaceOf (psaSurface psa) with
  | none => none
  | some f => zoneOfTrack f.zones (psaTrack psa)

-- ---------------------------------------------------------------------------------------------------------------
-- Outputs and free values

/-- The state with one more thing driven outward. -/
def State.emit (s : State) (o : Out) : State := { s with out := o :: s.out }

/-- A free value of 32 bits: nothing constrains it. The counter advances, so the next one is another. -/
def State.freeWord (s : State) : BitVec 32 := Config.freeValue s.free

/-- `n` transfers of 64 B are asked of Tint class `c`; the period in progress, or a later one, issues them (R93, R95). -/
def State.charge (s : State) (c n : Nat) : State :=
  { s with tint := { s.tint with asked := s.tint.asked.set c (s.tint.asked.getD c 0 + n) } }

/-- The state after a free value has been used. -/
def State.useFree (s : State) : State := { s with free := s.free + 1 }

-- ---------------------------------------------------------------------------------------------------------------
-- Life cycle (R656 to R658)

/-- A fuse field counts as blown with at least 5 of its 8 fuses blown (R656). -/
def fuseFieldBlown (fuse : BitVec 32) (i : Nat) : Bool := popCount 8 (bitsOf fuse.toNat (8 * i + 7) (8 * i)) ≥ 5

/-- The life-cycle state that a fuse word spells; none when it is unreadable (R656). -/
def fuseState (fuse : BitVec 32) : Option Nat :=
  let f := (List.range 4).map (fuseFieldBlown fuse)
  if f = [false, false, false, false] then some 0
  else if f = [true, false, false, false] then some 1
  else if f = [true, true, false, false] then some 2
  else if f = [true, true, true, false] then some 3
  else if f = [true, true, true, true] then some 4
  else none

/-- The life-cycle state in force: 0 Blank to 4 Scrapped; an unreadable word reads as Blank. -/
def State.lifeCycle (s : State) : Nat := (fuseState s.lcm.fuse).getD 0

def State.manufacture (s : State) : Bool := s.lifeCycle == 1
def State.deployed (s : State) : Bool := s.lifeCycle == 2
def State.returned (s : State) : Bool := s.lifeCycle == 3

-- ---------------------------------------------------------------------------------------------------------------
-- Dictionary: rows, defaults, values (R567 to R577)

/-- The key of entry idx:sub. -/
def dkey (idx sub : Nat) : Nat := 256 * idx + sub

/-- Whether row `r` holds entry idx:sub. -/
def dictCovers (r : DictRow) (idx sub : Nat) : Bool :=
  r.idx ≤ idx && idx < r.idx + r.idxCount && r.sub ≤ sub && sub < r.sub + r.subCount

/-- The row of entry idx:sub as a table states it. -/
def dictRowAt (idx sub : Nat) : Option DictRow := (dictRowsAt idx).find? (fun r => dictCovers r idx sub)

/-- The highest subindex that the tables give index `idx`; none where the index has no entry. -/
def highestSub (idx : Nat) : Option Nat :=
  (dictRowsAt idx).foldl (fun acc r =>
    if r.idx ≤ idx && idx < r.idx + r.idxCount then
      some (max (acc.getD 0) (r.sub + r.subCount - 1))
    else acc) none

/-- The code of a type (R568). -/
def typeCode (t : DictType) : Nat :=
  match t with
  | .bool => 0 | .u8 => 1 | .u16 => 2 | .u32 => 3 | .u64 => 4 | .i16 => 5 | .i32 => 6 | .q15 => 7 | .q31 => 8 | .str => 9
  | .blob => 10 | .key128 => 11

/-- The size in bytes of a value of row `r`; the maximum for STR. -/
def dictSize (r : DictRow) : Nat :=
  match r.ty with
  | .bool | .u8 => 1
  | .u16 | .i16 | .q15 => 2
  | .u32 | .i32 | .q31 => 4
  | .u64 => 8
  | .str | .blob => r.len
  | .key128 => 16

/-- The default value of entry idx:sub of row `r`, as bytes. -/
def dictDefault (r : DictRow) (gradeX : Bool) (idx sub : Nat) : List Byte :=
  if idx = 0x2020 then leBytes 2 ((if sub = 1 then 105 else 115) + (if gradeX then 10 else 0))
  else if 0x2010 ≤ idx && idx < 0x2018 then leBytes 1 (defaultSeverity (64 * (idx - 0x2010) + sub - 1) + 1)
  else if 0x4100 ≤ idx && idx < 0x4109 && sub ≥ 0x10 then
    -- the unity section: B0 = 0x4000 with SHIFT 1 (the reset values of CLE_SECAn to CLE_SECCn)
    leBytes 2 0x4000 ++ zeros 8 ++ [1, 0]
  else match r.ty with
    | .str => []
    | .blob => zeros r.len
    | .key128 => zeros 16
    | _ => leBytes (dictSize r) r.dflt

/-- The value dictionary entry idx:sub holds: the one listed, else its default. -/
def State.dictBytes (s : State) (idx sub : Nat) : List Byte :=
  match Assoc.find s.dict (dkey idx sub) with
  | some v => v
  | none =>
    match dictRowAt idx sub with
    | some r => dictDefault r s.factory.gradeX idx sub
    | none => []

/-- The unsigned number entry idx:sub holds. -/
def State.dictNum (s : State) (idx sub : Nat) : Nat := leNat (s.dictBytes idx sub)

/-- A map of entries with idx:sub at `v`, in canonical form: nothing listed at its default. -/
def dictPut (gradeX : Bool) (m : List (Nat × List Byte)) (idx sub : Nat) (v : List Byte) : List (Nat × List Byte) :=
  match dictRowAt idx sub with
  | some r => if v = dictDefault r gradeX idx sub then Assoc.del m (dkey idx sub) else Assoc.put m (dkey idx sub) v
  | none => m

/-- The default of the entry with key `k`; none where the tables hold no such entry. -/
def entryDefault (gradeX : Bool) (k : Nat) : Option (List Byte) :=
  (dictRowAt (k / 256) (k % 256)).map (fun r => dictDefault r gradeX (k / 256) (k % 256))

/-- The canonical form of a map of entries: keys rise, nothing is listed at its default. -/
def DictWf (gradeX : Bool) (m : List (Nat × List Byte)) : Prop :=
  Assoc.rising m = true ∧ ∀ p ∈ m, entryDefault gradeX p.1 ≠ some p.2

/-- The state with entry idx:sub at `v`. -/
def State.setDict (s : State) (idx sub : Nat) (v : List Byte) : State :=
  { s with dict := dictPut s.factory.gradeX s.dict idx sub v }

/-- The state with the number entry idx:sub at `v`, in `n` bytes. -/
def State.setDictNum (s : State) (idx sub n v : Nat) : State := s.setDict idx sub (leBytes n v)

/-- The state with statistics counter idx:sub advanced by `d`; a U32 that wraps (R574). -/
def State.stat (s : State) (idx sub d : Nat) : State :=
  s.setDict idx sub (leBytes 4 (s.dictNum idx sub + d))

-- ---------------------------------------------------------------------------------------------------------------
-- Stage and parking, as registers report them

def State.stage (s : State) : Nat := s.getF Fld.PLT_STAGE_STAGE
def State.parked (s : State) (k : Nat) : Bool :=
  s.isSet (if k = 0 then Fld.MFE_STATUS_PARKED0 else Fld.MFE_STATUS_PARKED1)
def State.retracting (s : State) (k : Nat) : Bool :=
  s.isSet (if k = 0 then Fld.MFE_STATUS_RETRACT0 else Fld.MFE_STATUS_RETRACT1)
def State.setParked (s : State) (k : Nat) (b : Bool) : State :=
  s.setF (if k = 0 then Fld.MFE_STATUS_PARKED0 else Fld.MFE_STATUS_PARKED1) (b2n b)
def State.setRetracting (s : State) (k : Nat) (b : Bool) : State :=
  s.setF (if k = 0 then Fld.MFE_STATUS_RETRACT0 else Fld.MFE_STATUS_RETRACT1) (b2n b)
/-- The motion die's side of the die-to-die link. -/
def State.motionLinkUp (s : State) : Bool := s.isSet Fld.MFE_STATUS_LINK

/-- The measured speed of the spindle in 1/16 rpm (R707), and whether it turns faster than 30 rpm. -/
def State.speed16 (s : State) : Nat := s.mfe.speed
def State.turning (s : State) : Bool := s.speed16 > 480

/-- The speed is measured: SPM_SPEED shows it while the core die runs, and a spindle that turns is not stopped (R314, R707). -/
def State.measured (s : State) (v : Nat) : State :=
  let s0 := { s with mfe := { s.mfe with speed := v } }
  if s.pwr.held || s.pwr.porstLow then s0
  else
    let s1 := s0.setF Fld.SPM_SPEED_SPEED v
    if v > 480 then s1.setF Fld.SPM_STATUS_STOPPED 0 else s1

-- ---------------------------------------------------------------------------------------------------------------
-- Sticky bits and severities (R601 to R606)

def State.sticky (s : State) (src : Nat) : Bool := bitOf (s.reg (0x300200 + 4 * (src / 32))).toNat (src % 32)
def State.setSticky (s : State) (src : Nat) (b : Bool) : State :=
  s.setF ⟨0x300200 + 4 * (src / 32), src % 32, src % 32⟩ (b2n b)
/-- The severity code of a source: 0 Grey to 3 Black. -/
def State.severity (s : State) (src : Nat) : Nat :=
  s.getF ⟨0x300100 + 4 * (src / 16), 2 * (src % 16) + 1, 2 * (src % 16)⟩
def State.setSeverity (s : State) (src v : Nat) : State :=
  s.setF ⟨0x300100 + 4 * (src / 16), 2 * (src % 16) + 1, 2 * (src % 16)⟩ v

/-- The sources whose sticky bit is set, rising. -/
def State.stickySources (s : State) : List Nat :=
  (List.range 16).flatMap (fun n =>
    let w := (s.reg (0x300200 + 4 * n)).toNat
    if w = 0 then [] else ((List.range 32).filter (fun i => bitOf w i)).map (fun i => 32 * n + i))

/-- The highest severity of an uncleared sticky bit, as the beacon and FCL_STATUS.HIGHEST encode it: 0 none, 1 Grey to 4
Black (R57, R602). -/
def State.highest (s : State) : Nat := s.stickySources.foldl (fun m x => max m (s.severity x + 1)) 0

/-- Whether a Black sticky bit is set (R612). -/
def State.blackSet (s : State) : Bool := s.highest == 4

end Sys2Proof.Machine
end

