-- ==== Sys2Proof/Machine/HccOps.lean ====
section
/-!
DEFINITION. Writes to host memory, at once or through the host coherent cache (R413, R434, R459, R499 to R505, R513).
Choices: assumption log 39.
-/
namespace Sys2Proof.Machine
open Sys2Proof

/-- HCC serves requests: CXL.cache negotiated, caching enabled, no invalidation running (R459, R506, R510). -/
def State.hccOn (s : State) : Bool :=
  s.isSet Fld.CXC_LINK_CACHE && s.isSet Fld.HCC_STATUS_READY && !s.isSet Fld.HCC_STATUS_DISABLED

/-- CXL.io takes memory reads and writes of the part: D0, and Bus Master Enable (R413, R434). -/
def State.canUseIo (s : State) : Bool := !s.cxc.d3 && s.cxc.bme

/-- Whether the part may read and write rings now: in D0, and through HCC or by CXL.io (R413, R434, R459, R510). -/
def State.canWriteHost (s : State) : Bool := !s.cxc.d3 && (s.cxc.bme || s.hccOn)

/-- CXL.cachemem has failed its integrity check: its flits are discarded, so that no snoop, no data and no GO arrives (R406). -/
def State.cacheFailed (s : State) : Bool := s.cxc.cmKeys = 3

/-- A write to host memory by CXL.io, at once or held in order (R413, R434). -/
def State.hostWrite (s : State) (addr : Nat) (bytes : List Byte) : State :=
  if s.canUseIo && s.cxc.heldWrites.isEmpty then s.emit (.hostWrite addr bytes)
  else { s with cxc := { s.cxc with heldWrites := s.cxc.heldWrites ++ [(addr, bytes)] } }

/-- The set of a line, by the XOR-fold of R500. -/
def hccSet (line : Nat) : Nat :=
  (line % 4096) ^^^ (line / 4096 % 4096) ^^^ (line / 2 ^ 24 % 4096) ^^^ (line / 2 ^ 36 % 64)

/-- Opcodes of `Out.cacheReq`. -/
def opRdShared : Nat := 0
def opRdOwn : Nat := 1
def opRdCurr : Nat := 2
def opDirtyEvict : Nat := 3
/-- DirtyEvict of a line that is poisoned (R508). -/
def opDirtyEvictPoison : Nat := 4

def Hcc.find (h : Hcc) (line : Nat) : Option HLine := h.lines.find? (fun l => l.line == line)
def Hcc.evicting (h : Hcc) (line : Nat) : Bool := h.evict.any (fun l => l.line == line)
def Hcc.drop (h : Hcc) (line : Nat) : Hcc := { h with lines := h.lines.filter (fun l => l.line != line) }
def Hcc.put (h : Hcc) (l : HLine) : Hcc := { h with lines := h.lines.map (fun x => if x.line == l.line then l else x) }
def Hcc.inSet (h : Hcc) (set : Nat) : List HLine := h.lines.filter (fun l => hccSet l.line == set)
def Hcc.dirty (h : Hcc) : List HLine := h.lines.filter (fun l => l.st == 2)

/-- Ways of a set that hold neither a line nor an entry of the eviction buffer. -/
def Hcc.freeWay (h : Hcc) (set : Nat) : Option Nat :=
  (List.range 16).find? (fun w => !(h.inSet set).any (fun l => l.way == w)
    && !h.evict.any (fun l => hccSet l.line == set && l.way == w))

/-- The unpinned line of a set used least recently (R501). -/
def Hcc.victim (h : Hcc) (set : Nat) : Option HLine :=
  ((h.inSet set).filter (fun l => !l.pinned)).foldl (fun best l =>
    match best with
    | none => some l
    | some b => if l.used < b.used then some l else some b) none

/-- The dirty line that has been dirty longest. -/
def Hcc.oldestDirty (h : Hcc) : Option HLine :=
  h.dirty.foldl (fun best l =>
    match best with
    | none => some l
    | some b => if l.dirtied < b.dirtied then some l else some b) none

/-- HCC_OCC follows the lines held. -/
def State.hccCount (s : State) : State :=
  (s.setF Fld.HCC_OCC_DIRTY s.hcc.dirty.length).setF Fld.HCC_OCC_PINNED (s.hcc.lines.filter (·.pinned)).length

/-- Write back a dirty line with DirtyEvict through the eviction buffer, or let it wait for an entry (R504, R513, R514); one token of
class 10 (R502). -/
def State.hccWriteback (s : State) (line : Nat) : State :=
  match s.hcc.find line with
  | none => s
  | some l =>
    if l.st != 2 then s
    else if s.hcc.evict.length ≥ 16 then
      { s with hcc := { s.hcc with evictWait := if s.hcc.evictWait.contains line then s.hcc.evictWait
                                                else s.hcc.evictWait ++ [line] } }
    else
      let h := s.hcc.drop line
      ((({ s with hcc := { h with evict := h.evict ++ [l], evictWait := h.evictWait.filter (· != line) } }).charge 10 1)
        |>.stat 0x8330 4 1 |>.emit (.cacheReq (if l.bad then opDirtyEvictPoison else opDirtyEvict) (64 * line))).hccCount

/-- Obtain a line that is not held: in a free way, or in place of the least recently used unpinned clean line. With a
dirty victim, or none, the caller's request is held. One token of class 10 (R502). Answers the state and whether the line is there. -/
def State.hccFill (s : State) (op kind st line : Nat) (pin : Bool) : State × Bool :=
  let set := hccSet line
  let place (t : State) (way : Nat) : State :=
    let l : HLine := ⟨line, way, kind, st, pin, t.hcc.stamp, 0, [], false⟩
    (((({ t with hcc := { t.hcc with lines := t.hcc.lines ++ [l], stamp := t.hcc.stamp + 1 } }).charge 10 1).emit
      (.cacheReq op (64 * line))).bumpF Fld.HCC_CNT_MISSES 1).hccCount
  if s.hcc.evicting line then (s, false)
  else match s.hcc.freeWay set with
    | some w => (place s w, true)
    | none =>
      match s.hcc.victim set with
      | none => (s, false)
      | some v =>
        if v.st = 2 then (s.hccWriteback v.line, false)
        else (place ({ s with hcc := s.hcc.drop v.line }) v.way, true)

/-- Put bytes into a held line, which becomes M; the last position of a line sends it back, and more than DIRTY_MAX dirty
lines send the oldest back first (R502, R504, R505). -/
def State.hccStore (s : State) (l : HLine) (off : Nat) (bytes : List Byte) : State :=
  let s0 := if l.st = 0 then (s.charge 10 1).emit (.cacheReq opRdOwn (64 * l.line)) else s
  let full := s0.hcc.dirty.length ≥ 512 && l.st != 2
  let s1 := if full then (match s0.hcc.oldestDirty with | some o => s0.hccWriteback o.line | none => s0) else s0
  let l1 := { l with st := 2, used := s1.hcc.stamp, dirtied := if l.st = 2 then l.dirtied else s1.hcc.stamp,
                     writes := l.writes ++ [(off, bytes)] }
  let s2 := ({ s1 with hcc := { s1.hcc.put l1 with stamp := s1.hcc.stamp + 1 } }).hccCount
  if off + bytes.length ≥ 64 then s2.hccWriteback l.line else s2

/-- Write an entry of a completion or event ring: into its line in HCC, or to host memory (R435, R459, R502, R510, R512). -/
def State.ringWrite (s : State) (kind addr : Nat) (bytes : List Byte) : State :=
  let line := addr / 64
  if !s.hccOn then s.hostWrite addr bytes
  else match s.hcc.find line with
    | some l => (s.bumpF Fld.HCC_CNT_HITS 1).hccStore l (addr % 64) bytes
    | none =>
      if s.isSet Fld.HCC_STATUS_WALK then s.hostWrite addr bytes
      else
        let (s1, ok) := s.hccFill opRdOwn kind 1 line false
        match s1.hcc.find line with
        | some l => if ok then s1.hccStore l (addr % 64) bytes else s1
        | none => { s1 with hcc := { s1.hcc with held := s1.hcc.held ++ [(kind, addr, bytes)] } }

/-- An interrupt event announces entries in the ring of `depth` bytes at `base`: its dirty lines go back first (R400, R504). -/
def State.ringFlush (s : State) (base depth : Nat) : State :=
  (s.hcc.dirty.filter (fun l => base ≤ 64 * l.line + 63 && 64 * l.line < base + depth)).foldl
    (fun t l => t.hccWriteback l.line) s

/-- Read a line coherently: held already, or obtained with RdShared (R502). Without CXL.cache or while disabled it is a
CXL.io read, which leaves nothing in HCC (R459, R510). -/
def State.hccRead (s : State) (kind addr : Nat) (pin : Bool) : State :=
  let line := addr / 64
  if !s.hccOn then s
  else match s.hcc.find line with
    | some l =>
      let l1 : HLine := { l with used := s.hcc.stamp }
      ({ s with hcc := { s.hcc.put l1 with stamp := s.hcc.stamp + 1 } }).bumpF Fld.HCC_CNT_HITS 1
    | none => if s.isSet Fld.HCC_STATUS_WALK then s else (s.hccFill opRdShared kind 0 line pin).1

end Sys2Proof.Machine
end

