-- ==== Sys2Proof/Machine/Events.lean ====
section
/-!
DEFINITION. Events: routes, the event ring, MSI-X vectors (R397 to R401, R437, R456 to R458, R604).
Choices: assumption log 6.
-/
namespace Sys2Proof.Machine
open Sys2Proof

/-- An entry of the MSI-X table: the one listed, else its reset content, masked. -/
def msixEntry (t : List Msix) (v : Nat) : Msix :=
  (t.find? (fun e => e.vector == v)).getD ⟨v, 0, 0, true⟩

/-- Signal vector `v`: the message, or its pending bit while it cannot be sent (R399). -/
def State.signalVector (s : State) (v : Nat) : State :=
  let e := msixEntry s.evt.table v
  if s.cxc.msixEn && !s.cxc.msixMask && !e.masked && s.cxc.bme && !s.cxc.d3 then s.emit (.msix e.addr e.data)
  else { s with evt := { s.evt with pba := insertNat v s.evt.pba } }

/-- Whether the event ring takes an entry (R458): a ring exists and the space of R436 is above zero. -/
def evtRoom (e : Evt) : Bool := e.ringDepth != 0 && (e.posted + 65536 - e.head) % 65536 < e.ringDepth

/-- The 32 bytes of an event ring entry (R457). PHASE is 1 on the first lap and toggles with every lap (R424). -/
def evtEntry (e : Evt) (timeUs id sev kind addr data : Nat) : List Byte :=
  leBytes 8 timeUs ++ leBytes 2 (id % 1024 + 2 ^ 15 * ((e.posted / e.ringDepth + 1) % 2)) ++ leBytes 1 (kind % 64)
    ++ leBytes 1 sev ++ leBytes 4 e.seq.toNat ++ leBytes 6 addr ++ zeros 2 ++ leBytes 8 data

/-- Post one event to the event ring, or drop it; SEQ advances either way (R457, R458). -/
def State.postRing (s : State) (id sev kind addr data : Nat) : State :=
  if evtRoom s.evt then
    let s1 := s.ringWrite 4 (s.evt.ringBase + 32 * (s.evt.posted % s.evt.ringDepth))
      (evtEntry s.evt s.pwr.timeUs id sev kind addr data)
    { s1 with evt := { s1.evt with posted := s1.evt.posted + 1, uncounted := s1.evt.uncounted + 1,
                                   seq := s1.evt.seq + 1 } }
  else
    let s1 := s.bumpF Fld.EVT_STAT_DROPS 1
    { s1 with evt := { s1.evt with seq := s1.evt.seq + 1 } }

/-- Act on the route of event `id`: the ring, then the vector (R399, R400). -/
def State.route (s : State) (id sev kind addr data : Nat) : State :=
  let r := id % 1024
  let s1 := if s.isSet (Fld.EVT_ROUTE_TO_RING r) then s.postRing r sev kind addr data else s
  if s1.isSet (Fld.EVT_ROUTE_TO_VEC r) then s1.signalVector (s1.getF (Fld.EVT_ROUTE_VECTOR r)) else s1

/-- Raise the event of interrupt group `g`: the lines that hold the entries it announces go back to the host first (R400,
R504), and every ring of the group, the event ring included, starts counting its entries afresh (R437). -/
def State.groupEvent (s : State) (g : Nat) : State :=
  let s0 := s.qmg.crings.foldl (fun t r => if r.group = g && r.uncounted != 0 then t.ringFlush r.base (16 * r.depth) else t) s
  let s1 := if s0.evt.group = g && s0.evt.ringDepth != 0 then s0.ringFlush s0.evt.ringBase (32 * s0.evt.ringDepth) else s0
  let s2 := s1.route (768 + g) 0 0 0 0
  let s3 := { s2 with qmg := { s2.qmg with crings := s2.qmg.crings.map (fun r =>
    if r.group = g then { r with uncounted := 0 } else r) } }
  if s3.evt.group = g then { s3 with evt := { s3.evt with uncounted := 0 } } else s3

/-- Raise an event: its route, then the event ring's own group when its threshold is met (R437, R456). -/
def State.postEvent (s : State) (id sev kind addr data : Nat) : State :=
  let s1 := s.route id sev kind addr data
  if s1.evt.cthresh != 0 && s1.evt.ringDepth != 0 && s1.evt.uncounted ≥ s1.evt.cthresh then s1.groupEvent s1.evt.group
  else s1

/-- Raise functional event `id` with ADDRESS zero (R76, R345, R398). -/
def State.event (s : State) (id data : Nat) : State := s.postEvent id 0 0 0 data

/-- The start-up stage becomes `st`; event 512 tells of a change (R76). -/
def State.setStage (s : State) (st : Nat) : State :=
  if s.stage = st then s
  else
    let s1 := s.setF Fld.PLT_STAGE_STAGE st
    s1.event 512 (st + 256 * s1.getF Fld.PLT_STAGE_FAILCODE)

end Sys2Proof.Machine
end

