-- ==== Sys2Proof/Machine/Resets.lean ====
section
/-!
DEFINITION. Gates and write-inhibit, retract and link loss, applying the dictionary, and what each reset does
(R13, R14, R19, R20, R28 to R31, R79 to R81, R263, R264, R335).
Choices: assumption log 27, 33.
-/
namespace Sys2Proof.Machine
open Sys2Proof

-- ---------------------------------------------------------------------------------------------------------------
-- The fault network (R596): messages wait here until FCL takes them (Machine/Faults.lean)

/-- Send a fault message from a core-die unit or a monitor. -/
def State.send (s : State) (src kind addr : Nat) : State :=
  { s with fcl := { s.fcl with inbox := s.fcl.inbox ++ [⟨src, kind, addr⟩] } }

/-- Send a fault message from the motion die: it latches there while the link is down (R706). -/
def State.sendMotion (s : State) (src kind addr : Nat) : State :=
  if s.motionLinkUp then s.send src kind addr
  else { s with ash := { s.ash with latched := s.ash.latched ++ [⟨src, kind, addr⟩] } }

-- ---------------------------------------------------------------------------------------------------------------
-- Write gates and write-inhibit (R80, R263 to R266)

/-- PAk_WGATE goes low. -/
def State.gateLow (s : State) (k : Nat) : State :=
  if (s.chn k).wgate then ((s.setChn k { s.chn k with wgate := false }).setF (Fld.CHN_STATUS_STATE k) 0).emit (.wgate k false 0) else s

/-- The sectors of both data tracks beside a sector that lie under its wedges (R268). -/
def State.besides (s : State) (psa : Nat) : List Nat :=
  let h := psaSurface psa
  let t := psaTrack psa
  match s.zoneAt psa with
  | none => []
  | some z =>
    let ws := sectorWedges z t (psaSector psa)
    ((if t = 0 then [] else [t - 1]) ++ [t + 1]).flatMap (fun u =>
      match s.zoneAt (psaOf h u 0) with
      | some y => (sectorsUnder y u ws).map (psaOf h u)
      | none => [])

/-- The write-inhibit sources active on actuator k: bits 0 to 12 of PRE_WINH. -/
def State.inhibits (s : State) (k : Nat) : Nat := Word.get (s.reg (Fld.PRE_WINH_ACTIVE k).addr) 12 0

/-- Whether write-inhibit is active on actuator k, or its write path is held by a read-back that failed twice (R253). -/
def State.inhibited (s : State) (k : Nat) : Bool := s.inhibits k != 0 || (s.pre k).blocked

/-- A write in progress on actuator k is cut: the gate goes low, CUT and FIRST record it, the cut is counted and source
261 or 277 is sent; after bit 2 or 4 the sectors beside the cut one are to be read (R263, R264, R266, R268, R269). The cut counts under its
lowest source alone, and under none when only the hold of R253 made it (R271; DESIGN CHOICE, assumption log 82). -/
def State.writeCut (s : State) (k : Nat) : State :=
  let act := s.inhibits k
  let first := if act = 0 then 0x1F else lowestBit 13 act
  let s1 := ((s.gateLow k).setF (Fld.PRE_WINH_CUT k) 1).setF (Fld.PRE_WINH_FIRST k) first
  let s2 := if act = 0 then s1 else s1.stat (0x8130 + k) (1 + first) 1
  let c := s2.chn k
  let near := match c.ops with
    | o :: _ => if bitOf act 2 || bitOf act 4 then s.besides o.psa else []
    | [] => []
  let s3 := s2.setChn k { c with cut := true, adjacent := c.adjacent ++ near }
  s3.send (261 + 16 * k) 0 0

/-- Write-inhibit source `bit` becomes active on actuator k; a write in progress is cut. -/
def State.inhibit (s : State) (k bit : Nat) : State :=
  let a := (Fld.PRE_WINH_ACTIVE k).addr
  let s1 := s.setF ⟨a, bit, bit⟩ 1
  if (s1.chn k).wgate then s1.writeCut k else s1

/-- Write-inhibit source `bit` is released on actuator k. -/
def State.uninhibit (s : State) (k bit : Nat) : State := s.setF ⟨(Fld.PRE_WINH_ACTIVE k).addr, bit, bit⟩ 0

def State.inhibitBoth (s : State) (bit : Nat) : State := (s.inhibit 0 bit).inhibit 1 bit
def State.uninhibitBoth (s : State) (bit : Nat) : State := (s.uninhibit 0 bit).uninhibit 1 bit

-- ---------------------------------------------------------------------------------------------------------------
-- Retract and the spindle bridge (R19, R335)

def State.ret (s : State) (k : Nat) : Retract := if k = 0 then s.mfe.ret0 else s.mfe.ret1
def State.setRet (s : State) (k : Nat) (r : Retract) : State :=
  if k = 0 then { s with mfe := { s.mfe with ret0 := r } } else { s with mfe := { s.mfe with ret1 := r } }
def State.vcmOff (s : State) (k : Nat) : Bool := if k = 0 then s.mfe.vcmOff0 else s.mfe.vcmOff1
def State.setVcmOff (s : State) (k : Nat) (b : Bool) : State :=
  if k = 0 then { s with mfe := { s.mfe with vcmOff0 := b } } else { s with mfe := { s.mfe with vcmOff1 := b } }
/-- A VCM short latched on actuator k turned its bridge off, so it cannot be parked (R338, R339). -/
def State.unparkable (s : State) (k : Nat) : Bool := s.vcmOff k && !s.parked k

/-- An actuator that leaves its tracks takes its media domain out of service until its next head load: its commands are held
and it cannot write (R31, R32, R321). -/
def State.holdMedia (s : State) (k : Nat) : State :=
  if s.parked k then s
  else
    let s1 := s.inhibit k 3
    { s1 with boot := { s1.boot with outOfService := insertNat (domMedia k) s1.boot.outOfService,
                                     locked := s1.boot.locked.filter (· != k) } }

/-- The retract profile starts on actuator k, or is joined when it runs (R335). Set points are ignored, the
microactuator goes to 0 V and the coil is driven, not shorted. A bridge that is off cannot run it (R339). -/
def State.retract (s : State) (k cause : Nat) : State :=
  if s.retracting k || s.unparkable k then s
  else
    let s1 := ((s.holdMedia k).setRet k ⟨1, cause⟩).setRetracting k true
    if k = 0 then { s1 with mfe := { s1.mfe with coilShorted0 := false, dacZero0 := true } }
    else { s1 with mfe := { s1.mfe with coilShorted1 := false, dacZero1 := true } }

def State.retractBoth (s : State) (cause : Nat) : State := (s.retract 0 cause).retract 1 cause

/-- The retract profile starts on every actuator that is off the ramp (R310, R330). -/
def State.retractOffRamp (s : State) (cause : Nat) : State :=
  let s1 := if s.parked 0 then s else s.retract 0 cause
  if s1.parked 1 then s1 else s1.retract 1 cause

/-- Actuator k unloads (R294): with servo locked it seeks to the unload position of its motion entry, an outer servo track, and the profile
takes it onto the ramp from there; without servo the profile does it all. -/
def State.unload (s : State) (k : Nat) : State :=
  if s.parked k || s.retracting k || s.unparkable k then s
  else if (s.getF (Fld.SRV_CTRL_MODE k) = 3 || s.getF (Fld.SRV_CTRL_MODE k) = 4) && (s.srv k).seeds != 0 && s.motionLinkUp then
    let s1 := ((s.holdMedia k).setF (Fld.SRV_TARGET_TARGET k) (unsigned 32 (256 * s.dictNum (0x4020 + k) 7))).setF (Fld.SRV_CTRL_MODE k) 6
    s1.setSrv k { s1.srv k with unloading := true, waits := true }
  else s.retract k 0

def State.unloadBoth (s : State) : State := (s.unload 0).unload 1

/-- Either actuator is off the ramp. -/
def State.offRamp (s : State) : Bool := !s.parked 0 || !s.parked 1

/-- The spindle bridge goes to high impedance and the motor coasts. -/
def State.bridgeOff (s : State) : State :=
  let s1 := (s.setF Fld.MFE_STATUS_SPIN_ON 0).setF Fld.SPM_CTRL_MODE 0
  { s1 with spm := { s1.spm with focOn := false } }

/-- The motion die declares the link down: FAULT_N low until it is up again; with an actuator off the ramp it retracts
both and lets the motor coast; it resumes the beacon (R17, R19, R55, R60). -/
def State.motionLinkDown (s : State) : State :=
  if !s.motionLinkUp then s
  else
    let s1 := s.setF Fld.MFE_STATUS_LINK 0
    let s2 := { s1 with ash := { s1.ash with declaredDown := true, beaconOn := true },
                        mfe := { s1.mfe with pllOnLink := false } }
    -- regenerative braking ends too (R342)
    if s2.offRamp then (s2.retractBoth 2).bridgeOff else if s2.getF Fld.SPM_CTRL_MODE = 5 then s2.bridgeOff else s2

/-- The core die sees the link down: both gates low, write-inhibit bit 6, source 352 (R20). -/
def State.coreLinkDown (s : State) : State :=
  if !s.d2d.coreUp then s
  else
    let s1 := { s with d2d := { s.d2d with coreUp := false } }
    (s1.inhibitBoth 6).send 352 0 0

-- ---------------------------------------------------------------------------------------------------------------
-- Applying the dictionary to the registers (R14, R571)

/-- Entries whose value reaches its field only at a later reset or link training, as their rules state (R350, R386, R580,
0x1200:02). -/
def appliedLater (idx sub : Nat) : Bool :=
  (idx == 0x2300 && (sub == 1 || sub == 2 || sub == 5 || sub == 6)) || (idx == 0x1200 && sub == 2)
    || (idx == 0x5800 && (sub == 1 || sub == 2)) || (idx == 0x2310 && sub == 2)

/-- Lines of 64 B in use: two channels of 4 GiB × 2^CHSIZE (R348, R362). -/
def State.linesInUse (s : State) : Nat := 2 * (2 ^ 26 * 2 ^ s.getF Fld.BMC_CFG_CHSIZE)

/-- PERIOD of R362 in 10 ns. -/
def State.patrolPeriod (s : State) (hours : Nat) : Nat := 360000000000 * hours / s.linesInUse

/-- The data track pitch on actuator k, in 1/256 servo track (R139); one servo track before a descriptor is read. -/
def State.pitch (s : State) (k : Nat) : Nat := (s.media.pitch.getD k 256)

/-- The number a field receives from entry value `v`. -/
def State.convert (s : State) (c : DictConv) (k v : Nat) : Nat :=
  match c with
  | .same | .pack => v
  | .less1 => v - 1
  | .times16 => 16 * v
  | .div10 => v / 10
  | .share512 => ceilDiv (512 * v) 1000
  | .pitch => divRound (v * s.pitch k) 1000
  | .sstep => divRound (2 ^ 20 * 48000) v
  | .period => s.patrolPeriod v

/-- Lay the bytes of a blob over registers from `a` on: words of 4 bytes. -/
def State.packWords (s : State) (a : Nat) (bs : List Byte) : State :=
  (List.range (bs.length / 4)).foldl (fun t i => t.setReg (a + 4 * i) (BitVec.ofNat 32 (numAt bs (4 * i) 4))) s

/-- Lay the bytes of a linearity table over 32 registers (R277). -/
def State.packBytes (s : State) (a : Nat) (bs : List Byte) : State :=
  (List.range bs.length).foldl (fun t i => t.setReg (a + 4 * i) (BitVec.ofNat 32 (numAt bs i 1))) s

/-- Write section slot n of CLE from the 12 bytes of 0x4100 + L. -/
def State.packSection (s : State) (n : Nat) (bs : List Byte) : State :=
  let f (i : Nat) := numAt bs (2 * i) 2
  let s1 := (s.setF (Fld.CLE_SECA_B0 n) (f 0)).setF (Fld.CLE_SECA_B1 n) (f 1)
  let s2 := (s1.setF (Fld.CLE_SECB_B2 n) (f 2)).setF (Fld.CLE_SECB_A1 n) (f 3)
  let s3 := (s2.setF (Fld.CLE_SECC_A2 n) (f 4)).setF (Fld.CLE_SECC_SHIFT n) (numAt bs 10 1)
  s3.setF (Fld.CLE_SECC_INTEG n) (numAt bs 11 1)

/-- The head whose table a linearity entry serves is the head selected on its actuator (R277). -/
def State.currentHead (s : State) (k : Nat) : Nat := 12 * k + s.getF (Fld.PRE_HEAD_HEAD k)

/-- Memory is being initialised: in the background after both channels have trained, or the HDM window after a host-side reset (R65,
R367, R368). -/
def State.initialising (s : State) : Bool :=
  (s.isSet Fld.BMC_STATUS_TRAINED0 && s.isSet Fld.BMC_STATUS_TRAINED1 && !s.isSet Fld.BMC_STATUS_INIT_DONE)
    || !s.bmc.hdmLeft.isEmpty

/-- While memory is being initialised class 6 has 400 tokens, or what the other fifteen budgets leave of TOTAL (R65, R99). -/
def State.initBudget (s : State) : State :=
  if !s.initialising then s
  else
    let others := (List.range 16).foldl (fun a n => if n = 6 then a else a + s.getF (Fld.TNT_CLASS_TOKENS n)) 0
    s.setF (Fld.TNT_CLASS_TOKENS 6) (min 400 (1536 - others))

/-- The linearity table of the head selected on actuator k goes into SRV_LINi (R277). -/
def State.packLin (s : State) (k : Nat) : State :=
  s.packBytes (Fld.SRV_LIN_CORR k 0).addr (s.dictBytes (0x3620 + s.currentHead k) 0)

/-- Write the value entry idx:sub holds to the register field it names (R14, R571). -/
def State.applyEntry (s : State) (idx sub : Nat) : State :=
  let bs := s.dictBytes idx sub
  if 0x2010 ≤ idx && idx < 0x2018 then s.setSeverity (64 * (idx - 0x2010) + sub - 1) (leNat bs - 1)
  else if 0x4100 ≤ idx && idx < 0x4109 && sub ≥ 0x10 then s.packSection (16 * (idx - 0x4100) + sub - 0x10) bs
  else if 0x3620 ≤ idx && idx < 0x3638 then
    let h := idx - 0x3620
    let k := h / 12
    if s.currentHead k = h then s.packLin k else s
  else
    match dictRowAt idx sub with
    | none => s
    | some r =>
      match r.drives with
      | none => s
      | some f =>
        let a := f.addr + (idx - r.idx) * r.idxStep + (sub - r.sub) * r.subStep
        if r.acc = .ro then s
        else match r.conv with
          | .pack => s.packWords a bs
          | c =>
            let s1 := s.setF ⟨a, f.hi, f.lo⟩ (s.convert c (if r.idxStep = 0 then sub - r.sub else idx - r.idx) (leNat bs))
            if idx = 0x2200 then s1.initBudget else s1

/-- The unit whose field entry idx:sub drives: FCL for the severities, the SRV of the head's actuator for a linearity table. -/
def entryUnit (idx sub : Nat) : Option Nat :=
  if 0x2010 ≤ idx && idx < 0x2018 then some 3
  else if 0x3620 ≤ idx && idx < 0x3638 then some (18 + (idx - 0x3620) / 12)
  else (dictRowAt idx sub).bind (fun r => r.drives.bind (fun f => unitAt (f.addr + (idx - r.idx) * r.idxStep)))

/-- Write the entries listed in the dictionary, those away from their defaults, that drive a field of unit `u`. -/
def State.applyListed (s : State) (u : Nat) : State :=
  s.dict.foldl (fun t p => if entryUnit (p.1 / 256) (p.1 % 256) = some u then t.applyEntry (p.1 / 256) (p.1 % 256) else t) s

/-- The entries of the rows that drive fields of unit `u`, as index and subindex. -/
def unitEntries (u : Nat) : List (Nat × Nat) :=
  (dictRows.filter (fun r => match r.drives with
      | some f => decide ((unitWindow u).1 ≤ f.addr) && decide (f.addr < (unitWindow u).1 + (unitWindow u).2)
      | none => false)).flatMap (fun r =>
    (List.range r.idxCount).flatMap (fun i => (List.range r.subCount).map (fun j => (r.idx + i, r.sub + j))))

/-- Units that keep registers over their reset, or over a reset of the core die: BMC and DMA (R79, row "Unit"), and MFE, which the
motion die keeps over a reset of the core die. -/
def keepsConfig (u : Nat) : Bool := u == 8 || u == 9 || u == 22

/-- Write every entry that drives a field of unit `u` (R14). Where the unit's registers are at their reset values, an entry at its
default finds its field at that value, so those listed are written; in a unit that keeps registers every entry is written, but for
those that wait for a reset of the core die (R350). The severities, which resets keep (R601), return to their defaults first; the servo
thresholds follow the pitch in force (R139, R291). -/
def State.applyUnit (s : State) (u : Nat) : State :=
  if keepsConfig u then
    ((unitEntries u).filter (fun e => !(s.boot.slateDone && appliedLater e.1 e.2))).foldl (fun t e => t.applyEntry e.1 e.2) s
  else if u = 2 then (s.applyListed u).initBudget
  else if u = 3 then ({ s with regs := (List.range 32).foldl (fun m n => Assoc.del m (0x300100 + 4 * n)) s.regs }).applyListed u
  else if u = 18 || u = 19 then
    [5, 6, 7, 9].foldl (fun t i => t.applyEntry (0x3600 + (u - 18)) i) (s.applyListed u)
  else s.applyListed u

/-- Volatile (RW) entries of the named domains return to their defaults (R569): the descriptor cursor, the log cursor, the
test and loopback set-ups (Platform), the injection set-up (Motion) and the clock (Object). -/
def volatileKeys (d : Nat) : List Nat :=
  match d with
  | 0 => [dkey 0x1F00 1, dkey 0x2420 1, dkey 0x7010 1, dkey 0x7020 1, dkey 0x7020 4]
  | 3 => [dkey 0x5200 1]
  | 6 => (List.range 8).map (fun i => dkey 0x4140 (i + 1))
  | _ => []

/-- The UTC clock after a reset of the Object domain: at its default again, and written since power-on as before (R487). -/
def State.clockRestarted (s : State) : Option (Nat × Nat) := s.obj.clock.map (fun _ => (0, s.pwr.timeUs))

def State.dropVolatile (s : State) (d : Nat) : State :=
  { s with dict := (volatileKeys d).foldl Assoc.del s.dict }

-- ---------------------------------------------------------------------------------------------------------------
-- Unit and domain resets (R28 to R31, R79 to R81, R608)

/-- Registers of unit u that a reset of the unit alone or of its domain leaves: those of the always-on island; live
readings of the motion die and its latches as `keptBits` has them; EVT's routes, which firmware restores (R623); the active write-inhibit bits; and what
stands for state that the reset keeps, which firmware puts back (R79, row "Unit"): the stage, the running reaction, the fetch
lock, memory in use and its initialisation, channel ownership, queue set-up, the CXL link with its decoder and streams, the
key store (assumption log 33). -/
def keptRegs (u : Nat) : List Nat :=
  match u with
  | 0 => [0x10, 0x14]
  | 3 => islandRegs ++ [0x300004]
  | 7 => islandRegs ++ [0x700008]
  | 8 => [0x1000000, 0x1000004, 0x1000008, 0x1000050]
  | 9 => [0x1200000]
  | 11 => [0x1600000, 0x1600004, 0x1600010, 0x1600014, 0x1600018, 0x160001C, 0x1600020, 0x1600024, 0x1600028]
  | 23 => [0x4000000, 0x4000010, 0x4000014, 0x4000020]
  | 24 => [0x4200004]
  | 27 => [0x4800000]
  | 22 => [0x3200000, 0x3200004, 0x3200050]
  | 4 => (List.range 1024).map (fun n => 0x401000 + 4 * n)
  | 16 => [0x2600030]
  | 17 => [0x2700030]
  | _ => islandRegs

/-- Of a register kept in part, the bits that a reset of its unit returns to zero: of FCL_STATUS the record of the reaction that began
first, FIRST and REACTSEV, while none runs; of MFE_PROT every latch but those that only a clear ends, SHORT and OPEN (R341, R342) and
CHOP_OPEN and CHOP_SHORT (R327, R328). -/
def State.clearedBits (s : State) (u : Nat) : List (Nat × Nat × Nat) :=
  match u with
  | 3 => if s.fcl.reaction.isSome then [] else [(0x300004, 10, 0)]
  | 22 => [(0x3200050, 0, 0), (0x3200050, 4, 3), (0x3200050, 31, 7)]
  | _ => []

/-- The unit's registers at reset and its dictionary values applied again (R13, R14, R608 steps 2 and 3). -/
def State.resetRegsOf (s : State) (u : Nat) : State :=
  let s1 := { s with regs := resetUnitRegs u (keptRegs u) s.regs }
  ((s.clearedBits u).foldl (fun (t : State) b => t.setF ⟨b.1, b.2.1, b.2.2⟩ 0) s1).applyUnit u

/-- A channel after its reset: the sectors waiting to be written stay in the buffer (R31, R266); those in the ring without a verdict
are to be read again. -/
def Chn.reset_ (c : Chn) : Chn :=
  { Chn.reset with ops := c.ops, cut := c.cut, adjacent := c.adjacent, slips := c.slips, revs := c.revs, ratio := c.ratio,
                   lost := ((c.ring.filter (fun r => r.verdict == 0)).map (·.psa)).foldl (fun l p => insertNat p l) c.lost }

/-- DEC_INSTn.BUSY and DEC_STORE follow the pool and the store. -/
def State.showPool (s : State) : State :=
  let used (k : Nat) : Nat := (s.dec.store.filter (fun x => x.k == k)).length
  let s1 := (List.range 4).foldl (fun t n => t.setF (Fld.DEC_INST_BUSY n) (b2n (t.dec.inst.getD n none).isSome)) s
  (s1.setF Fld.DEC_STORE_USED0 (used 0)).setF Fld.DEC_STORE_USED1 (used 1)

def recovering (w : Work) : Bool := w.kind ≥ 2

/-- DEC_INSTn reports what instance n decodes. -/
def State.setInst (s : State) (n : Nat) (w : Option Work) (iter : Nat) : State :=
  let s1 := { s with dec := { s.dec with inst := s.dec.inst.set n w } }
  match w with
  | none => s1.setF (Fld.DEC_INST_BUSY n) 0
  | some x =>
    ((((s1.setF (Fld.DEC_INST_BUSY n) 1).setF (Fld.DEC_INST_RESUMED n) (b2n x.resumed)).setF (Fld.DEC_INST_OWNER n) x.k).setF
      (Fld.DEC_INST_KIND n) x.kind).setF (Fld.DEC_INST_ITER n) iter

/-- The class of R211: first trials, further trials, foreground recovery, then scrub and qualification. -/
def workClass (w : Work) : Nat := min w.kind 3

/-- The oldest waiting work of the highest class, at most of class `top`. -/
def nextWork (l : List Work) (top : Nat) : Option Work :=
  (List.range (top + 1)).findSome? (fun c => l.find? (fun w => workClass w == c))

def dropWork (l : List Work) (w : Work) : List Work :=
  match l with
  | [] => []
  | x :: t => if x = w then t else x :: dropWork t w

/-- The actuator for which instance n is reserved: the lowest RESERVE0 instances for actuator 0, the next RESERVE1 for actuator 1
(R210; which instances they are is a DESIGN CHOICE, log 75). -/
def State.reservedFor (s : State) (n : Nat) : Option Nat :=
  let r0 := s.getF Fld.DEC_ALLOC_RESERVE0
  if n < r0 then some 0 else if n < r0 + s.getF Fld.DEC_ALLOC_RESERVE1 then some 1 else none

/-- An idle, enabled instance for work of actuator k: one reserved for it, else one without reservation, else one reserved for the
other actuator (R210). -/
def State.idleInst (s : State) (k : Nat) : Option Nat :=
  let idle := (List.range 4).filter (fun n => bitOf (s.getF Fld.DEC_CTRL_EN) n && s.dec.inst.getD n none == none)
  [some k, none, some (1 - k)].findSome? (fun r => idle.find? (fun n => s.reservedFor n == r))

/-- The instance to spill: it runs the lowest-class recovery or scrub decode and its spill buffer is not draining (R212). -/
def State.spillInst (s : State) : Option Nat :=
  [4, 3, 2].findSome? (fun kd => (List.range 4).find? (fun n =>
    !s.dec.draining.any (fun d => d.inst == n) && (match s.dec.inst.getD n none with | some w => w.kind == kd | none => false)))

/-- Instance i takes waiting work `w`; a resumed decode goes on with the local iterations it has done. -/
def State.takeWork (s : State) (i : Nat) (w : Work) : State :=
  ({ s with dec := { s.dec with waiting := dropWork s.dec.waiting w } }).setInst i (some w) w.iters

/-- Recovery and scrub decodes may take a further instance: fewer than REC_MAX run (R210). -/
def State.topClass (s : State) : Nat :=
  let busy := (s.dec.inst.filter (fun w => match w with | some x => recovering x | none => false)).length
  if busy < s.getF Fld.DEC_ALLOC_REC_MAX then 3 else 1

/-- Idle instances take waiting work (R210, R211): `n` steps at most. -/
def State.fillPool (s : State) (n : Nat) : State :=
  match n with
  | 0 => s
  | m + 1 =>
    match nextWork s.dec.waiting s.topClass with
    | none => s
    | some w =>
      match s.idleInst w.k with
      | some i => (s.takeWork i w).fillPool m
      | none => s

/-- The instances that have become free take what waits, and DEC_INSTn and DEC_STORE follow the pool and the store. -/
def State.refillPool (s : State) : State := s.showPool.fillPool (s.dec.waiting.length + 1)

/-- The pool without the trials of actuator k, whose samples were in the ring. -/
def Dec.dropTrials (d : Dec) (k : Nat) : Dec :=
  let mine (w : Work) : Bool := w.k == k && w.stored.isNone
  { d with inst := d.inst.map (fun w => match w with | some x => if mine x then none else some x | none => none),
           waiting := d.waiting.filter (fun w => !mine w) }

/-- Channel k loses what it holds beside its registers: its ring, and with it the trials under way. -/
def State.chnReset (s : State) (k : Nat) : State :=
  ({ s.setChn k (s.chn k).reset_ with dec := s.dec.dropTrials k }).refillPool

/-- Memory with the byte at `a` replaced, nothing listed at zero. -/
def storeCell (m : List Host.Cell) (a : Nat) (b : Byte) : List Host.Cell :=
  if b = 0 then Assoc.del m a else Assoc.put m a b

/-- Unit PRE at reset; the preamp and its lines stand as they are. -/
def Pre.unitReset (p : Pre) : Pre := { p with blocked := false, settling := false, precomp := none }

/-- PRE after a reset of the unit: the precompensation of the tables in force is loaded again (R14, R260). -/
def State.preReset (s : State) (k : Nat) : State :=
  let t := (s.chn k).zoneIn.bind (fun z => Assoc.find s.media.tables (64 * z.1 + z.2))
  (s.setPre k { (s.pre k).unitReset with precomp := t.map (·.precomp) }).setChn k
    { s.chn k with ratio := Chn.reset.ratio }

/-- What a reset of unit u does to the state the unit holds beside its registers. State in DRAM, queues and contexts are
kept (R79, row "Unit"). -/
def State.resetHidden (s : State) (u : Nat) : State :=
  match u with
  | 13 => s.chnReset 0
  | 14 => s.chnReset 1
  | 16 => s.preReset 0
  | 17 => s.preReset 1
  | 18 => s.setSrv 0 Srv.reset
  | 19 => s.setSrv 1 Srv.reset
  | 20 => { s with cle := Cle.reset }
  | 21 => { s with spm := Spm.reset }
  | 2 => { s with tint := Tint.reset }
  | 26 => { s with can := Can.reset }
  | 8 =>
    -- pending merges are written out before BMC resets (R366)
    { s with bmc := { s.bmc with
        dram := s.bmc.merge.foldl (fun m e => e.bytes.foldl (fun d c => storeCell d (64 * e.line + c.1) c.2) m) s.bmc.dram,
        merge := [], repairs := [] } }
  | 9 => { s with dma := Dma.reset }
  | 10 => { s with hcc := Hcc.reset }
  | 24 => (s.setF Fld.ETH_STATUS_LOCK 0).setF Fld.ETH_STATUS_UP 0
  | _ => s

/-- The CAN node starts: it takes its node id, is error active, or silent with node id 0, and sends the beacon (R60, R61, R62). -/
def State.canUp (s : State) : State :=
  let node := s.ash.nodeId.toNat
  ((s.setF Fld.CAN_STATUS_NODE node).setF Fld.CAN_STATUS_STATE (if node = 0 then 3 else 0)).setF Fld.CAN_STATUS_BEACON
    (b2n (node != 0))

/-- One unit resets and has its dictionary values again. HCC serves requests again once its invalidation is over (R506). -/
def State.resetUnit (s : State) (u : Nat) : State :=
  let s1 := (s.resetHidden u).resetRegsOf u
  if u = 10 && s.boot.slateStep ≥ 4 then (s1.setF Fld.HCC_STATUS_INVAL 0).setF Fld.HCC_STATUS_READY 1
  else if u = 26 && s.boot.slateDone then s1.canUp
  else s1

/-- The injection runs on actuator k. -/
def State.injecting (s : State) (k : Nat) : Bool :=
  match s.cle.inject with
  | some x => x.node ≥ 8 || x.node / 4 == k
  | none => false

/-- Of the active sources of actuator k, those that a reset of PRE leaves: all from outside the unit, bit 9 until PAk_FLT_N is high and
FAULT read (R263), and SW while an injection holds it set (R300). -/
def State.inhibitsKept (s : State) (k : Nat) : Nat :=
  let act := s.inhibits k
  if s.injecting k then act else act % 4096

/-- PRE_WINH as its unit's reset leaves it, with `act` the active sources. -/
def winhWord (act : Nat) : Word := BitVec.ofNat 32 (0x1F0000 + act)

/-- Write-inhibit of actuator k after a reset of its media domain: bit 10 until the domain is back in service, bit 3 until
the head has settled, bits 0 to 2 and 11 clear with their units, and the other sources as they stand (R263). -/
def State.inhibitAfterReset (s : State) (k : Nat) : State :=
  let act := s.inhibitsKept k
  s.setReg (Fld.PRE_WINH_ACTIVE k).addr (winhWord (0x400 + 8 + (act % 1024 - act % 16) + act / 4096 * 4096))

/-- The decoder pool without the decodes, spills, samples and ladders of actuator k, which restart from L0 (R214). -/
def Dec.cancel (d : Dec) (k : Nat) : Dec :=
  let on (psa : Nat) : Bool := decide (psaSurface psa < 12) == decide (k = 0)
  { d with
    inst := d.inst.map (fun w => match w with | some x => if x.k = k then none else some x | none => none),
    waiting := d.waiting.filter (fun w => w.k != k), draining := d.draining.filter (fun x => x.k != k),
    store := d.store.filter (fun x => x.k != k), ladders := d.ladders.filter (fun l => l.k != k),
    again := d.again ++ (d.ladders.filter (fun l => l.k == k)).map (fun l => (l.psa, l.kind)),
    erased := d.erased.filter (fun p => !on p), unread := d.unread.filter (fun p => !on p),
    confirmed := d.confirmed.filter (fun p => !on p), failed := d.failed.filter (fun p => !on p.1) }

/-- The migration transport without its sessions. -/
def Mig.dropSessions (m : Mig) : Mig := { m with tx := none, rx := [], held := [] }

/-- The runout tables of actuator k's heads are empty and not learned (R78, R81). -/
def State.forgetRunout (s : State) (k : Nat) : State :=
  let lo := 0x2C40000 + 0x400 * 12 * k
  let s1 := { s with regs := s.regs.filter (fun p => !(lo ≤ p.1 && p.1 < lo + 0x400 * 12)),
                     cle := { s.cle with learn := s.cle.learn.filter (fun p => !(12 * k ≤ p.1 && p.1 < 12 * k + 12)) } }
  s1.setF ⟨0x2C00510, 12 * k + 11, 12 * k⟩ 0

/-- A reset of the domain of media k (R81): the gate goes low first, the actuator is parked, the units reset, and the
domain stays out of service until its heads are loaded again. Scrub resumes from the stored position (R241). -/
def State.mediaReset (s : State) (k : Nat) : State :=
  let s0 := (s.inhibit k 10).retract k 0
  let s1 := (s0.resetUnit (13 + k)).resetHidden (16 + k)
  let s2 := (s1.resetRegsOf (16 + k)).resetUnit (18 + k)
  let s3 := s2.inhibitAfterReset k
  let s4 := { s3 with dec := s3.dec.cancel k,
                      media := { s3.media with scrub := s3.media.scrub.set k (s3.nvc.scrubPos.getD k 0) },
                      boot := { s3.boot with outOfService := insertNat (domMedia k) s3.boot.outOfService,
                                             locked := s3.boot.locked.filter (· != k) } }
  s4.refillPool.forgetRunout k

/-- The injection that runs is over: firmware clears SW on the actuators it held it set on (R300). -/
def State.endInjection (s : State) : State :=
  match s.cle.inject with
  | some x =>
    let s1 := { s with cle := { s.cle with inject := none } }
    if x.node ≥ 8 then s1.uninhibitBoth 12 else s1.uninhibit (x.node / 4) 12
  | none => s

def State.setSpm (s : State) (m : Spm) : State := { s with spm := m }

/-- A latch of R341 or R328 keeps the spindle from starting. -/
def State.spindleBlocked (s : State) : Bool :=
  s.isSet Fld.MFE_PROT_SHORT || s.isSet Fld.MFE_PROT_OPEN || s.isSet Fld.MFE_PROT_CHOP_SHORT || s.spm.secondShort

/-- Catch-spin starts with the bridge off, and with no failed attempt (R318). -/
def State.startCatch (s : State) : State :=
  let s1 := (s.bridgeOff.setF Fld.SPM_CTRL_MODE 4).setF Fld.SPM_STATUS_CATCHFAIL 0
  s1.setSpm { s1.spm with crossings := [], lastCross := none }

/-- The spindle turns against the direction it is set to (R318, R319). -/
def State.turnsBack (s : State) : Bool := s.isSet Fld.SPM_SPEED_REV != s.isSet Fld.SPM_CTRL_DIR

/-- A spindle that turns backward is braked by zero vector until it has stopped, once both actuators are parked; until then it coasts
(R318, R323). -/
def State.reverseBrake (s : State) : State :=
  let s1 := if s.offRamp then s.bridgeOff else (s.setF Fld.SPM_CTRL_MODE 6).setF Fld.MFE_STATUS_SPIN_ON 1
  s1.setSpm { s1.spm with belowCatch := true, crossings := [] }

/-- The spindle is brought up (R317, R318): from standstill by pulses; turning at or above CATCH_MIN by catch-spin; below it,
once it has fallen below 30 rpm. A latch keeps it from starting (R328, R341). -/
def State.startSpin (s : State) : State :=
  if s.spindleBlocked || !s.mfe.bridgeReady then s
  else if !s.turning then
    let s1 := ((s.setF Fld.SPM_CTRL_MODE 1).setF Fld.MFE_STATUS_SPIN_ON 1).setF Fld.SPM_STATUS_STOPPED 0
    s1.setSpm { s1.spm with pulses := 0, peaks := [], belowCatch := false, spinDown := false, zvOnly := false, focOn := false }
  else if s.turnsBack then s.reverseBrake
  else if s.speed16 ≥ 16 * s.getF Fld.SPM_SPDLIM_CATCH_MIN then s.startCatch
  else s.bridgeOff.setSpm { s.bridgeOff.spm with belowCatch := true }

/-- A reset of the Motion domain (R81, R288): gates low, both actuators retract before CLE resets, the spindle coasts. Service returns
through a catch-spin, the speed ramp, head load and servo lock, which a repeated Ochre runs; in Cobalt with the stage kept, unless a
loss of the link or a Black reaction asks for Ochre as well (R21, R79, R612). In the safe state a spindle that is to be held at speed is
caught at once, and one to be braked is still to be braked (R331, R339; DEDUCED, assumption log 26). -/
def State.motionReset (s : State) : State :=
  let s0 := (((s.inhibitBoth 10).retractBoth 6).bridgeOff.endInjection).dropVolatile 6
  let s1 := ((s0.resetUnit 20).resetUnit 21).resetRegsOf 22
  let s2 := { s1 with mfe := { s1.mfe with setPointsIgnored := true },
                      boot := { s1.boot with outOfService := insertNat domMotion s1.boot.outOfService, locked := [],
                                             ochreRunning := false, restore := s1.boot.restore || decide (s1.stage = 3),
                                             stageKept := s1.boot.stageKept || decide (s1.stage = 3 && !s1.boot.restore),
                                             bringUp := false } }
  let s3 := (s2.forgetRunout 0).forgetRunout 1
  -- the safe state keeps the spindle at speed, or braking, all the same (R331, R610)
  if !s.isSet Fld.FCL_STATUS_SAFE then s3
  else if s.spm.blackBraked then s3.setSpm { s3.spm with blackBraked := true, spinDown := true }
  else if s.turning && (s.isSet Fld.MFE_STATUS_SPIN_ON || s.getF Fld.SPM_CTRL_MODE = 4) then s3.startSpin
  else s3

/-- A CLE reset is preceded by the retract of both actuators (R288). -/
def State.cleReset (s : State) : State :=
  let s1 := (s.retractBoth 6).endInjection.resetUnit 20
  { s1 with mfe := { s1.mfe with setPointsIgnored := true } }

-- ---------------------------------------------------------------------------------------------------------------
-- The preamp's serial interface (R250 to R258)

/-- A frame to preamp k: bit 15 marks a read, bits 14 to 8 carry the address, bits 7 to 0 the data (R250). -/
def State.preampFrame (s : State) (k : Nat) (read : Bool) (addr data : Nat) : State :=
  s.emit (.preamp k (b2n read * 32768 + addr % 128 * 256 + data % 256))

/-- The preamp takes a write of `data` at `addr`, and PRE_HEAD follows (R254). -/
def State.preampTakes (s : State) (k addr data : Nat) : State :=
  let p := s.pre k
  match addr with
  | 1 => (s.setPre k { p with mode := data % 4 }).setF (Fld.PRE_HEAD_MODE k) data
  | 2 => (s.setPre k { p with head := data % 16 }).setF (Fld.PRE_HEAD_HEAD k) data
  | 3 => (s.setPre k { p with readers := data % 8 }).setF (Fld.PRE_HEAD_READERS k) data
  | 4 => s.setPre k { p with iw := data % 256 }
  | a => if (5 ≤ a && a ≤ 8) || a = 10 || a = 11 then s.setPre k { p with other := Assoc.put p.other a (data % 256) } else s

/-- Write preamp register `addr`. HEAD, MODE and IW are read back; `back` is what the read-backs give. A mismatch raises n = 4 and the
write is repeated once; when the second read-back fails too, the write path stays inhibited until the unit is reset (R253). A preamp
that does not answer raises n = 2 (R269). -/
def State.preampWrite (s : State) (k addr data : Nat) (back : List Nat) : State :=
  let s1 := (s.preampFrame k false addr data).preampTakes k addr data
  if addr != 1 && addr != 2 && addr != 4 then s1
  else
    let s2 := s1.preampFrame k true addr 0
    if (s.pre k).mute then s2.send (258 + 16 * k) 0 0
    else if back.getD 0 data = data then s2
    else
      let s3 := (s2.send (260 + 16 * k) 0 0).preampFrame k false addr data |>.preampFrame k true addr 0
      if back.getD 1 data = data then s3
      else (s3.setPre k { s3.pre k with blocked := true }).send (260 + 16 * k) 0 0

/-- The preamp's ID is read into 0x3500 + k:06, which reads 0 after no response (R254, R269, R271). An ID never read is a free value of
interface revision 1. -/
def State.preampIdent (s : State) (k : Nat) : State :=
  let s1 := s.preampFrame k true 0 0
  if (s.pre k).mute then (s1.setDictNum (0x3500 + k) 6 1 0).send (258 + 16 * k) 0 0
  else
    let v := (s.pre k).ident.getD (0x10 + s.freeWord.toNat % 16)
    (s1.useFree.setPre k { s1.pre k with ident := some v }).setDictNum (0x3500 + k) 6 1 v

/-- The preamp is initialised again after a reset of unit PRE: its ID is read; the head that was selected, all three readers and MODE 2
are written and read back, and HS_SETTLE runs (R253, R254, R257, R258, R270). The spec names neither the head nor the mode: assumption
log 81. -/
def State.preampInit (s : State) (k head : Nat) : State :=
  let s1 := (((s.preampIdent k).preampWrite k 2 head []).preampWrite k 3 7 []).preampWrite k 1 2 []
  (s1.setPre k { s1.pre k with settling := true }).packLin k

/-- A reset of unit PRE of actuator k alone: CUT and FIRST clear, and SW unless an injection holds it (R13, R300); the active sources stay;
the preamp is initialised again (R270). -/
def State.resetPre (s : State) (k : Nat) : State :=
  let act := s.inhibitsKept k
  let s1 := s.resetUnit (16 + k)
  (s1.setReg (Fld.PRE_WINH_ACTIVE k).addr (winhWord act)).preampInit k (s.pre k).head

/-- The reset of a unit under a Vermilion or Black reaction (R608): DEC resets both media domains, CLE follows R288, MFE
resets the Motion domain, CHN and PRE take their write gate low first. -/
def State.reactionReset (s : State) (u : Nat) : State :=
  match u with
  | 15 => (((s.mediaReset 0).mediaReset 1).resetHidden 15).resetRegsOf 15
  | 20 => s.cleReset
  | 22 => s.motionReset
  | 13 => (s.gateLow 0).resetUnit 13
  | 14 => (s.gateLow 1).resetUnit 14
  | 16 => (s.gateLow 0).resetPre 0
  | 17 => (s.gateLow 1).resetPre 1
  | _ => s.resetUnit u

end Sys2Proof.Machine
end

