-- ==== Sys2Proof/Machine/Flash.lean ====
section
/-!
DEFINITION. The flash die (R624, R625), the blocks and areas of bank 3 as logs (R639, R640), and the event log (R642).
Choices: assumption log 30, 44, 46, 85.
-/
namespace Sys2Proof.Machine
open Sys2Proof

-- ---------------------------------------------------------------------------------------------------------------
-- Blocks, units, areas (R624, R625, R637, R639)

def bankOf (block : Nat) : Nat := block / 512

/-- The area that block `b` of bank 3 lies in, in the order of the table: 0 the dictionary to 5 the spare blocks (R639). -/
def nominalArea (b : Nat) : Nat :=
  if b < 64 then 0 else if b < 192 then 1 else if b < 224 then 2 else if b < 256 then 3 else if b < 480 then 4 else 5

/-- The area that block `b` of bank 3 serves: a spare block that replaces a bad one serves the area of that one (R640). -/
def State.areaOf (s : State) (b : Nat) : Nat := (Assoc.find s.nvc.lent b).getD (nominalArea b)

/-- The blocks that the table gives an area (R639). -/
def nominalBlocks (a : Nat) : List Nat :=
  match a with
  | 0 => List.range' 0 64
  | 1 => List.range' 64 128
  | 2 => List.range' 192 32
  | 3 => List.range' 224 32
  | 4 => List.range' 256 224
  | _ => List.range' 480 32

/-- The good blocks of an area: its own, then the spare blocks that replace bad ones (R639, R640). -/
def State.areaBlocks (s : State) (a : Nat) : List Nat :=
  (nominalBlocks a ++ if a = 5 then [] else s.nvc.lent.map (·.1)).filter
    (fun b => s.areaOf b = a && !s.nvc.bad.contains (1536 + b))

/-- The spare blocks left: good and replacing none (0x8220:07). -/
def State.spareBlocks (s : State) : List Nat := s.areaBlocks 5

/-- `n` free bytes: content the spec leaves undefined. -/
def State.freeBytes (s : State) (n : Nat) : List Byte :=
  (List.range n).map (fun i => (Config.freeValue (s.free + i)).setWidth 8)

/-- The unit of the flash die as it has been programmed, by the part or before it left Poreavas (R3); none when it is erased. -/
def State.programmed (s : State) (u : Nat) : Option (List Byte) :=
  match Assoc.find s.nvc.units u with
  | some b => some b
  | none => if s.nvc.shipped.contains (u / 2048) then some ((List.range 32).map (fun i => Config.shippedByte (32 * u + i))) else none

/-- The unit of the flash die, erased bits reading 1 (R624). -/
def State.flashUnit (s : State) (u : Nat) : List Byte := (s.programmed u).getD (List.replicate 32 0xFF)

/-- Program one unit: the first time since the erase its bytes, a second time an undefined content (R625). -/
def State.programUnit (s : State) (u : Nat) (bs : List Byte) : State :=
  match s.programmed u with
  | none => { s with nvc := { s.nvc with units := Assoc.put s.nvc.units u bs } }
  | some _ =>
    { s with nvc := { s.nvc with units := Assoc.put s.nvc.units u (s.freeBytes 32) }, free := s.free + 32 }

/-- Program whole units from `u` on. -/
def State.programUnits (s : State) (u : Nat) (bs : List Byte) : State :=
  (List.range (bs.length / 32)).foldl (fun t i => t.programUnit (u + i) (slice bs (32 * i) 32)) s

/-- A block after its erase: none of its units programmed, its erase count up by one. -/
def Nvc.erased (n : Nvc) (block : Nat) : Nvc :=
  { n with units := n.units.filter (fun p => p.1 / 2048 != block), shipped := n.shipped.filter (· != block),
           erases := Assoc.put n.erases block ((Assoc.find n.erases block).getD 0 + 1) }

/-- The highest erase count in bank 3 (0x8220:06). -/
def highestErase (m : List (Nat × Nat)) : Nat :=
  m.foldl (fun a p => if bankOf p.1 = 3 then max a p.2 else a) 0

/-- The committed image of a bank becomes `i`. -/
def State.setImage (s : State) (bank : Nat) (i : Option Image) : State :=
  if bank = 1 then { s with nvc := { s.nvc with image1 := i } } else { s with nvc := { s.nvc with image2 := i } }

/-- The commit block of a bank: its highest good block (R645). -/
def State.commitBlock (s : State) (bank : Nat) : Nat :=
  ((List.range 512).filter (fun i => !s.nvc.bad.contains (512 * bank + i))).foldl (fun _ i => 512 * bank + i) 0

/-- The commit record in block `b`, if one stands there, is gone, and with it the commitment of its bank (R647). -/
def State.dropRecord (s : State) (b : Nat) : State :=
  if bankOf b = 1 ∧ b = s.commitBlock 1 then s.setImage 1 none
  else if bankOf b = 2 ∧ b = s.commitBlock 2 then s.setImage 2 none else s

/-- A block has been erased: its units are free, its count goes up, and a commit record or password hash in it is gone. -/
def State.blockErased (s : State) (b : Nat) : State :=
  let n := s.nvc.erased b
  let s1 := { s with nvc := { n with
    areas := n.areas.filter (fun (x : AreaBlock) => 1536 + x.block != b),
    records := n.records.filter (fun (x : AreaRecord) => 1536 + x.block != b) } }
  let s2 := s1.dropRecord b
  let s3 := if b = 16 then { s2 with nvc := { s2.nvc with pwdHash := none } } else s2
  s3.setDictNum 0x8220 6 4 (highestErase s3.nvc.erases)

-- ---------------------------------------------------------------------------------------------------------------
-- The areas of bank 3 as logs (R639 to R643; assumption log 85)

/-- The blocks that area `a` has opened, the lowest GEN first. -/
def State.areaLog (s : State) (a : Nat) : List AreaBlock := s.nvc.areas.filter (·.area = a)

/-- The head of an area's log: the block opened last, unless it has turned bad. -/
def State.areaHead (s : State) (a : Nat) : Option AreaBlock :=
  ((s.areaLog a).getLast?).filter (fun h => !s.nvc.bad.contains (1536 + h.block))

/-- The good blocks of an area that hold nothing. -/
def State.freeBlocks (s : State) (a : Nat) : List Nat :=
  (s.areaBlocks a).filter (fun b => !(s.areaLog a).any (·.block = b))

/-- Units that the head of an area still has free. -/
def State.headRoom (s : State) (a : Nat) : Nat :=
  match s.areaHead a with
  | some h => 2048 - h.used
  | none => 0

/-- Pages that `n` units from unit `u` on touch: one program each (R625). -/
def pagesOf (u n : Nat) : Nat := if n = 0 then 0 else (u + n - 1) / 8 - u / 8 + 1

/-- Program whole units at the head `h` of an area, and count the programs. -/
def State.areaPut (s : State) (h : AreaBlock) (bs : List Byte) : State :=
  let n := bs.length / 32
  let s1 := (s.programUnits (2048 * (1536 + h.block) + h.used) bs).stat 0x8220 1 (pagesOf h.used n)
  let l := s1.nvc.areas.map (fun x => if x = h then { h with used := h.used + n } else x)
  { s1 with nvc := { s1.nvc with areas := l } }

/-- The header of a block in use (R640); the code of the area and the unused bytes are the model's choice (assumption log 85). -/
def areaHeader (a gen : Nat) : List Byte :=
  let h := [0x5A, 0x4E, 0x56, 0x42] ++ leBytes 1 a ++ List.replicate 3 0xFF ++ leBytes 4 gen ++ List.replicate 16 0xFF
  h ++ leBytes 4 (crc32 h).toNat

/-- An area opens its lowest free block, erased first if anything is programmed in it (R632, R640). -/
def State.openBlock (s : State) (a : Nat) : State :=
  match s.freeBlocks a with
  | [] => s
  | b :: _ =>
    let g := (s.areaLog a).foldl (fun m x => max m x.gen) 0 + 1
    let used := s.nvc.units.any (fun p => p.1 / 2048 = 1536 + b)
    let s1 := if used then (s.blockErased (1536 + b)).stat 0x8220 2 1 else s
    let h : AreaBlock := ⟨a, b, g, 0⟩
    ({ s1 with nvc := { s1.nvc with areas := s1.nvc.areas ++ [h] } }).areaPut h (areaHeader a g)

/-- The event log's head has a free unit: its lowest free block is opened; with none free the oldest block is erased without copying,
and its records are lost (R642). -/
def State.logRoom (s : State) : State :=
  if 0 < s.headRoom 4 then s
  else if !(s.freeBlocks 4).isEmpty then s.openBlock 4
  else match s.areaLog 4 with
    | [] => s
    | o :: _ =>
      let s1 := { s with nvc := { s.nvc with log := s.nvc.log.drop (o.used - 1), areas := s.nvc.areas.erase o } }
      s1.openBlock 4

/-- One batch of queued event log records is programmed, up to 8 of them in one page (R642). -/
def State.drainBatch (s : State) : State :=
  let s1 := s.logRoom
  match s1.areaHead 4 with
  | none => s1
  | some h =>
    let n := 8 - h.used % 8
    let bs := s1.nvc.logQueue.take n
    let s2 := s1.areaPut h bs.flatten
    { s2 with nvc := { s2.nvc with log := s2.nvc.log ++ bs, logQueue := s2.nvc.logQueue.drop n } }

/-- The queued event log records are programmed, batch by batch (R642). -/
def State.drainLog (s : State) : State :=
  (List.range s.nvc.logQueue.length).foldl (fun (t : State) _ => if t.nvc.logQueue.isEmpty then t else t.drainBatch) s

end Sys2Proof.Machine
end

