-- ==== Sys2Proof/Machine/Faults.lean ====
section
/-!
DEFINITION. The fault collector: sticky bits, forwarding, reactions (R596 to R615, R706).
Choices: assumption log 49, 61.
-/
namespace Sys2Proof.Machine
open Sys2Proof

/-- A 32 B record of the event log (R642). -/
def logRecord (seq boot timeUs src sev kind addr : Nat) : List Byte :=
  let body := leBytes 4 seq ++ leBytes 4 boot ++ leBytes 8 timeUs ++ leBytes 2 (src % 512) ++ leBytes 1 sev
    ++ leBytes 1 (kind % 64) ++ leBytes 6 addr ++ [0xFF, 0xFF]
  body ++ leBytes 4 (crc32 body).toNat

/-- Queue a record of the event log; with 256 in the queue the event is dropped, and SEQ advances either way (R642). The queue is
programmed at once unless an operation is in progress. -/
def State.logFault (s : State) (m : FaultMsg) : State :=
  let rec0 := logRecord s.nvc.logSeq.toNat s.nvc.bootCount s.pwr.timeUs m.source (s.severity m.source + 1) m.kind m.addr
  let q := if s.nvc.logQueue.length < 256 then s.nvc.logQueue ++ [rec0] else s.nvc.logQueue
  let s1 := { s with nvc := { s.nvc with logQueue := q, logSeq := s.nvc.logSeq + 1 } }
  if s1.nvc.op.isNone then s1.drainLog else s1

/-- The CAN node sends a frame, counted in 0x8010:02; off the bus the frame waits for the recovery (R593). -/
def State.canSend (s : State) (id : Nat) (payload : List Byte) : State :=
  if s.getF Fld.CAN_STATUS_STATE = 2 then
    { s with can := { s.can with unsent := s.can.unsent ++ [(s.pwr.timeUs, id, payload)] } }
  else (s.stat 0x8010 2 1).emit (.canFrame id (s.isSet Fld.CAN_CFG_BRS) payload)

/-- The CAN event frame of a sticky bit (R592): at or above the threshold; closer than the minimum interval to the last
one it is dropped and counted; SEQ counts both. A silent node sends nothing (R61). -/
def State.eventFrame (s : State) (m : FaultMsg) : State :=
  let th := s.getF Fld.CAN_CFG_EVTH
  let sev := s.severity m.source + 1
  if th = 0 || sev < th || s.ash.nodeId = 0 then s
  else
    let seq := s.fcl.evSeq
    let s1 := { s with fcl := { s.fcl with evSeq := seq + 1 } }
    let tooClose := match s.fcl.evLastUs with
      | none => false
      | some t => s.pwr.timeUs < t + 1000 * s.dictNum 0x1200 8
    if tooClose then s1.stat 0x8010 7 1
    else
      let payload := leBytes 2 (m.source % 512) ++ leBytes 1 sev ++ leBytes 1 (m.kind % 64) ++ leBytes 6 m.addr
        ++ leBytes 8 s.pwr.timeUs ++ leBytes 2 seq.toNat
      let s2 := { s1 with fcl := { s1.fcl with evLastUs := some s.pwr.timeUs } }
      s2.canSend (0x200 + s.ash.nodeId.toNat) payload

/-- Forward a message whose sticky bit was set (R604): the event log always; EVT for Amber or above, or for Grey with the
source's GREY route bit; the CAN event frame under R592. -/
def State.forward (s : State) (m : FaultMsg) : State :=
  let s1 := s.logFault m
  let sev := s.severity m.source
  let s2 := if sev ≥ 1 || s1.isSet (Fld.EVT_ROUTE_GREY m.source)
            then s1.postEvent m.source (sev + 1) m.kind m.addr 0 else s1
  s2.eventFrame m

/-- An uncorrectable internal error with viral: reported fatal, with the cause in bit `bit` of the RAS uncorrectable status
and the bit of advanced error reporting (R407). -/
def State.cxlFatal (s : State) (bit : Nat) : State :=
  let c := s.cxc
  let aer := ((Assoc.find c.cfg 0x106).getD 0) ||| 0x40
  ({ s with cxc := { c with cfg := Assoc.put c.cfg 0x106 aer, rasUnc := c.rasUnc ||| 2 ^ bit } }).emit .cxlFatal

/-- The steps of R610 that take the device to its safe state: event 516 and SAFE, write-inhibit bit 8 on both actuators,
the retract of both, the spindle under R331, a fatal error with viral on CXL. -/
def State.enterSafe (s : State) (src : Nat) : State :=
  let s1 := (s.event 516 src).setF Fld.FCL_STATUS_SAFE 1
  let s2 := ((s1.inhibitBoth 8).retractBoth 8)
  let brake := s.dictNum 0x4000 0x0C = 1 && !s.unparkable 0 && !s.unparkable 1
  let s3 := { s2 with spm := { s2.spm with blackBraked := brake, spinDown := s2.spm.spinDown || brake },
                      boot := { s2.boot with ochreRunning := false } }
  s3.cxlFatal 14

/-- The reset that a source of severity code `sev` requires of its unit (R607, R608); a die-level monitor has none. -/
def State.sourceReset (s : State) (src sev : Nat) : State :=
  if sev < 2 then s
  else match unitOfSource src with
    | none => s
    | some u => s.reactionReset u

-- ---------------------------------------------------------------------------------------------------------------
-- The unit under test (R666, R668)

/-- The unit under test is reset, with its dictionary values (R666); DEC with both media domains (R30). -/
def State.testReset (s : State) (u : Nat) : State :=
  match u with
  | 22 => s.resetRegsOf 22
  | n => s.reactionReset n

/-- The test that runs is over: the domain back, the units reset, which may take a domain out of service anew, the result recorded. -/
def State.testOver (s : State) (result detail : Nat) : State :=
  let s1 := match s.tst.took with
    | some d => { s with boot := { s.boot with outOfService := s.boot.outOfService.filter (· != d) } }
    | none => s
  let s2 := s1.tst.under.foldl State.testReset s1
  let s3 := { s2 with tst := { s2.tst with under := [], took := none, test := 0 } }
  ((s3.setF Fld.TST_STATUS_BUSY 0).setF Fld.TST_STATUS_RESULT result).setF Fld.TST_STATUS_DETAIL detail

/-- The units that a reaction to a source resets (R608). -/
def reactionUnits (src : Nat) : List Nat :=
  match unitOfSource src with
  | some 15 => [13, 14, 15, 16, 17, 18, 19]
  | some 22 => [20, 21, 22]
  | some u => [u]
  | none => []

/-- A reaction that involves the unit under test abandons the test (R668). -/
def State.abandonTest (s : State) : State :=
  match s.fcl.reaction with
  | some r =>
    if r.joined.any (fun x => (reactionUnits x).any (fun u => s.tst.under.contains u)) then
      s.testOver 4 0
    else s
  | none => s

/-- Start a reaction, or join the one that runs (R607, R610, R613); a test of a unit it involves is abandoned (R668). -/
def State.react (s : State) (src : Nat) : State :=
  let sev := s.severity src
  match s.fcl.reaction with
  | none =>
    let s1 := (s.setF Fld.FCL_STATUS_REACTSEV sev).setF Fld.FCL_STATUS_FIRST src
    let s2 := if sev ≥ 1 then s1.stat 0x8020 sev 1 else s1
    if sev < 2 then s2
    else
      let s3 := (s2.setF Fld.FCL_STATUS_REACT 1)
      let s4 := { s3 with fcl := { s3.fcl with reaction := some ⟨sev, src, [src]⟩ } }
      let s5 := if sev = 3 then s4.enterSafe src else s4
      (s5.sourceReset src sev).abandonTest
  | some r =>
    let top := max r.sev sev
    let s1 := { s with fcl := { s.fcl with reaction := some ⟨top, r.first, r.joined ++ [src]⟩ } }
    let s2 := s1.setF Fld.FCL_STATUS_REACTSEV top
    let s3 := if sev = 3 && r.sev < 3 then (s2.stat 0x8020 3 1).enterSafe r.first else s2
    (s3.sourceReset src sev).abandonTest

/-- A message with the test mark goes to TST_FAULTCAP and sets no sticky bit (R666). -/
def State.captureMarked (s : State) (m : FaultMsg) : State :=
  ((s.setF Fld.TST_FAULTCAP_SOURCE m.source).setF Fld.TST_FAULTCAP_KIND m.kind).setF Fld.TST_FAULTCAP_VALID 1

/-- A message comes from a unit under test. -/
def State.marked (s : State) (m : FaultMsg) : Bool := s.tst.under.any (fun u => unitOfSource m.source == some u)

/-- A message that passed its CRC reaches FCL (R601, R603, R604, R706): merged when the bit is set; before Slate
completes the bit alone is set, with the first 32 messages kept; else forwarded, and its reaction starts or is joined. -/
def State.arrive (s : State) (m : FaultMsg) : State :=
  if s.marked m then s.captureMarked m
  else if s.sticky m.source then s.bumpF Fld.FCL_CNT_MERGED 1
  else
    let s1 := s.setSticky m.source true
    if !s.boot.slateDone then
      { s1 with fcl := { s1.fcl with
          kept := if s1.fcl.kept.length < 32 then s1.fcl.kept ++ [m] else s1.fcl.kept,
          setBefore := s1.fcl.setBefore ++ [m.source] } }
    else (s1.forward m).react m.source

/-- FCL takes the messages on the fault network, oldest first; at most `n` of them. -/
def State.drain (s : State) (n : Nat) : State :=
  match n with
  | 0 => s
  | k + 1 =>
    match s.fcl.inbox with
    | [] => s
    | m :: t => (({ s with fcl := { s.fcl with inbox := t } }).arrive m).drain k

/-- FCL takes every message that a command gives rise to: a reaction sends at most a few, so 16 rounds empty the network. -/
def State.settle (s : State) : State := s.drain 16

/-- A unit raises source `src`: its message reaches FCL. -/
def State.raise (s : State) (src kind addr : Nat) : State := (s.send src kind addr).settle

/-- A motion-die source is raised; it latches while the link is down (R706). -/
def State.raiseMotion (s : State) (src kind addr : Nat) : State := (s.sendMotion src kind addr).settle

-- ---------------------------------------------------------------------------------------------------------------
-- FAULT_N (R55, R615)

/-- A protection fault latched on the motion die. -/
def State.protLatched (s : State) : Bool := (s.reg 0x3200050) != 0

/-- Whether FAULT_N is held low. -/
def State.faultNLow (s : State) : Bool :=
  if s.boot.slateDone && s.motionLinkUp then
    s.stickySources.any (fun x => s.severity x ≥ s.getF Fld.FCL_CTRL_PINTH)
  else s.protLatched || (s.boot.slateFailed && s.getF Fld.PLT_STAGE_FAILCODE != 0) || s.ash.declaredDown

end Sys2Proof.Machine
end

