-- ==== Sys2Proof/Machine/NvcOps.lean ====
section
/-!
DEFINITION. Flash operations, protection, boot records and image selection, and life-cycle transitions
(R624 to R653, R656 to R662).
Choices: assumption log 30, 44 to 46, 55.
-/
namespace Sys2Proof.Machine
open Sys2Proof

-- ---------------------------------------------------------------------------------------------------------------
-- Refusals and results (R627, R629, R634)

/-- Region r covers the block and is locked and not unlocked (R634). -/
def State.protects (s : State) (r block : Nat) : Bool :=
  bitOf (s.getF Fld.NVC_PROT_LOCKED) r && s.getF (Fld.NVC_REGION_FIRST r) ≤ block
    && block ≤ s.getF (Fld.NVC_REGION_LAST r) && s.isSet (Fld.NVC_REGION_LOCK r)

def State.protectedBlock (s : State) (block : Nat) : Bool := (List.range 16).any (fun r => s.protects r block)

/-- The bits of NVC_PROT.LOCKED after a relock: every region with its lock bit (R634). -/
def State.lockMask (s : State) : Nat :=
  (List.range 16).foldl (fun m r => m + b2n (s.isSet (Fld.NVC_REGION_LOCK r)) * 2 ^ r) 0

/-- Units whose program or erase did not end well: their content is undefined. -/
def State.spoilUnits (s : State) (us : List Nat) : State :=
  us.foldl (fun t u =>
    { t with nvc := { t.nvc with units := Assoc.put t.nvc.units u (t.freeBytes 32) }, free := t.free + 32 }) s

/-- The units that an operation works on: those it programs, or those of its block that are programmed. -/
def State.opUnits (s : State) (o : FlashOp) : List Nat :=
  if o.erase then
    if s.nvc.shipped.contains o.block then (List.range 2048).map (fun i => 2048 * o.block + i)
    else (s.nvc.units.filter (fun p => p.1 / 2048 = o.block)).map (·.1)
  else (List.range (o.data.length / 32)).map (fun i => o.unit0 + i)

/-- Why NVC refuses an operation on `block` before any pulse, as a result code of R627: the fetch lock, then protection,
then a bad block. -/
def State.refusesFlash (s : State) (block : Nat) : Option Nat :=
  if bitOf (s.getF Fld.NVC_FETCHLOCK_LOCK) (bankOf block) then some 3
  else if s.protectedBlock block then some 4
  else if s.nvc.bad.contains block then some 5
  else none

/-- NVC_STATUS after an operation ended or was refused. -/
def State.flashResult (s : State) (op result pulses : Nat) : State :=
  (((s.setF Fld.NVC_STATUS_BUSY 0).setF Fld.NVC_STATUS_OP op).setF Fld.NVC_STATUS_RESULT result).setF
    Fld.NVC_STATUS_PULSES pulses

-- ---------------------------------------------------------------------------------------------------------------
-- The dictionary area (R639 to R643; assumption log 85)

/-- Units of block `b` of bank 3 that hold records in force. -/
def State.liveUnits (s : State) (b : Nat) : Nat := ((s.nvc.records.filter (·.block = b)).map (·.units)).sum

/-- Area `a` has no page that can be programmed (R643): its free units fall below one block, every one of its blocks holds records in
force, and no spare block remains. -/
def State.areaFull (s : State) (a : Nat) : Bool :=
  s.spareBlocks.isEmpty && 2048 * (s.freeBlocks a).length + s.headRoom a < 2048
    && (s.areaBlocks a).all (fun b => s.liveUnits b != 0)

/-- Whether bank 3 can take no dictionary value (R576, R643). -/
def State.bank3Full (s : State) : Bool := s.areaFull 0

/-- A record in force is copied to the head of the dictionary area. -/
def State.moveRecord (s : State) (r : AreaRecord) : State :=
  match s.areaHead 0 with
  | none => s
  | some h =>
    let bs := (List.range r.units).flatMap (fun i => s.flashUnit (2048 * (1536 + r.block) + r.unit0 + i))
    let s1 := s.areaPut h bs
    let rs := s1.nvc.records.map (fun x => if x = r then { r with block := h.block, unit0 := h.used } else x)
    { s1 with nvc := { s1.nvc with records := rs } }

/-- The records in force of block `b` go to the head of the dictionary area. -/
def State.moveLive (s : State) (b : Nat) : State := (s.nvc.records.filter (·.block = b)).foldl State.moveRecord s

/-- With less than one block of free units the dictionary area copies the records in force of its lowest-GEN block to the head and
erases that block (R640); a block whose records the head cannot hold is left. -/
def State.reclaim (s : State) : State :=
  if !(s.freeBlocks 0).isEmpty then s
  else match (s.areaLog 0).dropLast.find? (fun x =>
      s.liveUnits x.block ≤ s.headRoom 0 && !s.nvc.bad.contains (1536 + x.block)) with
    | none => s
    | some o => ((s.moveLive o.block).blockErased (1536 + o.block)).stat 0x8220 2 1

/-- The head of the dictionary area has room for `n` units, a block opened and one reclaimed as needed. -/
def State.roomFor (s : State) (n fuel : Nat) : State :=
  match fuel with
  | 0 => s
  | k + 1 => if n ≤ s.headRoom 0 then s else ((s.openBlock 0).reclaim).roomFor n k

/-- A dictionary record (R641). -/
def dictRecord (idx sub ty seq : Nat) (bs : List Byte) : List Byte :=
  let n := (bs.length + 20 + 31) / 32 * 32
  let body := leBytes 2 idx ++ leBytes 1 sub ++ leBytes 1 ty ++ leBytes 2 bs.length ++ [0xFF, 0xFF] ++ leBytes 8 seq ++ bs
    ++ List.replicate (n - 20 - bs.length) 0xFF
  body ++ leBytes 4 (crc32 body).toNat

/-- Source 118 tells of an area that can no longer be programmed (R643). -/
def State.tellFull (s : State) (was : Bool) (a : Nat) : State := if !was && s.areaFull a then s.raise 118 0 0 else s

/-- A record of entry idx:sub is appended to the dictionary area, and the one before it is no longer in force (R640, R641). -/
def State.appendRecord (s : State) (idx sub : Nat) (bs : List Byte) : State :=
  let ty := match dictRowAt idx sub with | some r => typeCode r.ty | none => 0
  let rec0 := dictRecord idx sub ty s.nvc.recordSeq.toNat bs
  let s1 := s.roomFor (rec0.length / 32) 64
  match s1.areaHead 0 with
  | none => s1
  | some h =>
    let s2 := s1.areaPut h rec0
    let r : AreaRecord := ⟨dkey idx sub, h.block, h.used, rec0.length / 32⟩
    let rs := s2.nvc.records.filter (fun x => x.key != dkey idx sub) ++ [r]
    ({ s2 with nvc := { s2.nvc with recordSeq := s2.nvc.recordSeq + 1, records := rs } }).tellFull (s.areaFull 0) 0

/-- Bank 3 keeps the value of entry idx:sub (R571, R641). -/
def State.storeValue (s : State) (idx sub : Nat) (bs : List Byte) : State :=
  ({ s with bank3 := dictPut s.factory.gradeX s.bank3 idx sub bs }).appendRecord idx sub bs

/-- A block turns bad (R637, R640, R643): both copies of the table take it, source 114; a spare block replaces a bad one of bank 3, and
the dictionary records in force that are still readable go to the head of their log. Source 118 tells of an area left without a page
to program. -/
def State.markBad (s : State) (block : Nat) : State :=
  let s1 := { s with nvc := { s.nvc with bad := insertNat block s.nvc.bad } }
  let s2 := (s1.stat 0x8220 5 1).raise 114 0 0
  if bankOf block != 3 then s2
  else
    let b := block % 512
    let a := s.areaOf b
    let s3 := match s2.spareBlocks with
      | x :: _ => if a = 5 then s2 else { s2 with nvc := { s2.nvc with lent := Assoc.put s2.nvc.lent x a } }
      | [] => s2
    let s4 := s3.setDictNum 0x8220 7 4 s3.spareBlocks.length
    let n := s4.liveUnits b
    let s5 := if n = 0 || a != 0 then s4 else (s4.roomFor n 64).moveLive b
    if a = 5 then s5 else s5.tellFull (s.areaFull a) a

/-- A warm reset stops the operation at the pulse boundary and records it (R630); a download ends (R653). The pulses used by
then are 1 to 24 of a number the spec leaves open, and the units are left part way. -/
def State.stopFlash (s : State) : State :=
  let s1 := { s with nvc := { s.nvc with download := none, logQueue := [], op := none } }
  match s.nvc.op with
  | none => s1
  | some o =>
    let k := if o.erase then 2 else 1
    let pulses := s1.freeWord.toNat % 24 + 1
    let s2 := s1.useFree.spoilUnits (s1.opUnits o)
    let s2 := if o.erase then s2.dropRecord o.block else s2
    (((s2.flashResult k 6 pulses).setF Fld.NVC_LASTOP_INTERRUPTED 1).setF Fld.NVC_LASTOP_OP k).setF
      Fld.NVC_LASTOP_BLOCK o.block

-- ---------------------------------------------------------------------------------------------------------------
-- Passwords (R635, R636)

/-- The hash of a password: SHA-256 over its 16 bytes and the serial number (R635). -/
def State.passwordHash (s : State) (pw : List Byte) : List Byte := sha256 (slice pw 0 16 ++ leBytes 8 s.factory.serial)

/-- An unlock attempt: the state after it, and whether it succeeded (R635, R636). -/
def State.tryUnlock (s : State) (pw : List Byte) : State × Bool :=
  if s.isSet Fld.NVC_PROT_LOCKOUT then (s, false)
  else if s.nvc.pwdHash = some (s.passwordHash pw) then
    ((s.setF Fld.NVC_PROT_LOCKED 0).setF Fld.NVC_PROT_ATTEMPTS 0, true)
  else
    let n := s.getF Fld.NVC_PROT_ATTEMPTS + 1
    let s1 := s.setF Fld.NVC_PROT_ATTEMPTS n
    if n ≥ 8 then ((s1.setF Fld.NVC_PROT_LOCKOUT 1).raise 116 0 0, false) else (s1, false)

/-- Whether 0x2410:02 is accepted: in Manufacture, with the regions unlocked or no password set (R635). -/
def State.newPasswordAllowed (s : State) : Bool :=
  s.manufacture && (s.nvc.pwdHash.isNone || s.getF Fld.NVC_PROT_LOCKED = 0)

/-- A new password's hash is programmed into block 16 (R635). -/
def State.setPassword (s : State) (pw : List Byte) : State :=
  ({ s with nvc := { s.nvc with pwdHash := some (s.passwordHash pw) } }).stat 0x8220 1 1

/-- Every region with its lock bit locks again (R634). -/
def State.relock (s : State) : State := s.setF Fld.NVC_PROT_LOCKED s.lockMask

-- ---------------------------------------------------------------------------------------------------------------
-- Images (R644 to R650)

def State.imageOf (s : State) (bank : Nat) : Option Image := if bank = 1 then s.nvc.image1 else s.nvc.image2
def State.setBootRec (s : State) (b : BootRec) : State := { s with nvc := { s.nvc with boot := b } }
def otherBank (b : Nat) : Nat := if b = 1 then 2 else 1
/-- The download bank: the one of banks 1 and 2 that does not hold the running image (R645). -/
def State.downloadBank (s : State) : Nat := otherBank s.nvc.running

/-- Good blocks of a bank (R638). -/
def State.goodBlocks (s : State) (bank : Nat) : Nat := 512 - (s.nvc.bad.filter (fun b => bankOf b = bank)).length

/-- The header checks of R645: MAGIC, FORMAT, KIND, STEPPING, LENGTH, zero bytes to 4,095. -/
def headerOk (h : List Byte) : Bool :=
  slice h 0 4 = [0x47, 0x58, 0x46, 0x57] && numAt h 4 2 = 1 && numAt h 6 1 ≤ 1 && numAt h 7 1 = 0xB0
    && numAt h 8 4 != 0 && numAt h 8 4 % 65536 = 0
    && numAt h 8 4 ≤ (if numAt h 6 1 = 0 then 31457280 else 524288)
    && (slice h 176 3920).all (· == 0)

/-- The image that a header states (R644). -/
def headerImage (h : List Byte) : Image :=
  ⟨numAt h 6 1, numAt h 8 4, numAt h 12 4, slice h 16 16, slice h 32 16, 0⟩

/-- Image selection at Slate step 6 (R649): the boot record moves on, the banks are tried in order, and the first that is
committed and verifies is booted. -/
def State.bootSelectImage (s : State) (i : SlateInputs) : State :=
  -- R631 first: an interrupted erase is repeated, then NVC_LASTOP cleared
  let s := if s.isSet Fld.NVC_LASTOP_INTERRUPTED then
      let b := s.getF Fld.NVC_LASTOP_BLOCK
      let t := if s.getF Fld.NVC_LASTOP_OP = 2 then
          if i.eraseOk then
            (s.blockErased b).raise 119 0 0
          else s.markBad b
        else s
      t.setReg 0x70000C 0
    else s
  let st := s.nvc.boot
  let st := if st.pending != 0 then { st with trial := st.pending, pending := 0, attempts := 0 } else st
  let verifies (b : Nat) := (s.imageOf b).isSome && (if b = 1 then i.image1Ok else i.image2Ok)
  let trying := st.trial != 0 && st.attempts < 3
  let failed3 := !trying && st.trial != 0 && st.attempts = 3
  let s := if failed3 then s.raise 117 0 0 else s
  let fall := failed3 && (s.imageOf st.active).isSome
  let s := if fall then s.event 522 0 else s
  let st := if trying then { st with attempts := st.attempts + 1 }
            else if failed3 then { st with attempts := 4, trial := if fall then 0 else st.trial } else st
  let first := if trying then st.trial else if st.trial != 0 then st.trial else st.active
  let second := if trying then st.active else otherBank first
  let s := s.setBootRec st
  let s := { s with nvc := { s.nvc with fellBack := s.nvc.fellBack || fall, disqualified := false } }
  let run (t : State) (b : Nat) : State :=
    ({ t with nvc := { t.nvc with running := b } }).setF Fld.NVC_FETCHLOCK_LOCK (2 ^ b)
  if verifies first then run s first
  else if verifies second then
    run ((s.raise 120 0 0).setBootRec { st with active := second, trial := 0, pending := 0, attempts := 0 }) second
  else { s with nvc := { s.nvc with running := 0 } }

/-- 60 s after Slate a trial image is confirmed (R650). -/
def State.confirmTrial (s : State) : State :=
  let b := s.nvc.boot
  if s.boot.slateDone && b.trial != 0 && s.nvc.running = b.trial && !s.nvc.disqualified then
    let svn := ((s.imageOf b.trial).map (·.svn)).getD 0
    (s.setBootRec ⟨b.trial, 0, b.pending, 0, max b.floor svn⟩).event 521 0
  else s

-- ---------------------------------------------------------------------------------------------------------------
-- Life-cycle transitions (R656 to R662)

/-- Bits of the fuse fields of a target state: F1 up to its own (R656). -/
def targetFuses (t : Nat) : Nat := 2 ^ (8 * t) - 1

/-- Blow the lowest unblown fuses of the target's fields, at most `n` of them (R660 step 4). -/
def blowFuses (fuse : Nat) (t n : Nat) : Nat :=
  match n with
  | 0 => fuse
  | k + 1 =>
    match (List.range (8 * t)).find? (fun i => !bitOf fuse i) with
    | none => fuse
    | some i => blowFuses (fuse + 2 ^ i) t k

/-- Step 2 and step 3 of R660: pairing keys read absent, IDE and session keys cleared; for Scrapped, blocks 0 to 255 of
bank 3 are erased and the zeroise fuse is blown. -/
def State.lifeCycleClear (s : State) (t : Nat) : State :=
  let s1 := { s with
    nvc := { s.nvc with pairKeys := [] },
    cxc := { s.cxc with ioKeys := 0, cmKeys := 0 },
    mig := s.mig.dropSessions }
  let s2 := (s1.setF Fld.KEY_STATUS_IDE 0).stat 0x8030 3 1
  if t = 4 then
    let units := s2.nvc.units.filter (fun p => !(1536 ≤ p.1 / 2048 && p.1 / 2048 < 1792))
    { s2 with bank3 := [], lcm := { s2.lcm with zeroised := true },
              nvc := { s2.nvc with units := units,
                                   areas := s2.nvc.areas.filter (fun (x : AreaBlock) => 256 ≤ x.block),
                                   records := s2.nvc.records.filter (fun (x : AreaRecord) => 256 ≤ x.block), boot := ⟨1, 0, 0, 0, 0⟩, tables := [], scrubPos := [0, 0],
                                   rowList := [], defectCopy := [] } }
  else s2

/-- The 256 bytes of the life-cycle record (R662); the bytes the table does not give are 0xFF. -/
def lifeCyclePage (l : Lcm) : List Byte :=
  let entry (e : LcEntry) : List Byte := leBytes 1 e.from_ ++ leBytes 1 e.dest ++ List.replicate 6 0xFF ++ leBytes 8 e.time
  let h := l.history.flatMap entry
  let b := [0x5A, 0x4C, 0x43, 0x52] ++ leBytes 4 l.recSeq ++ leBytes 1 l.recState ++ leBytes 1 l.pending ++ List.replicate 6 0xFF
    ++ h ++ List.replicate (236 - h.length) 0xFF
  b ++ leBytes 4 (crc32 b).toNat

/-- Both copies of the life-cycle record are programmed, each at the start of its block, erased first (R633, R660, R662; assumption
log 85). -/
def State.programRecord (s : State) : State :=
  [19, 20].foldl (fun (t : State) b =>
    (((t.blockErased b).stat 0x8220 2 1).programUnits (2048 * b) (lifeCyclePage s.lcm)).stat 0x8220 1 1) s

/-- Step 5 of R660: PENDING cleared and the transition appended to the history, up to 14 entries (R662). -/
def State.lifeCycleRecord (s : State) (t : Nat) : State :=
  let e : LcEntry := ⟨s.lcm.recState, t, s.pwr.timeUs⟩
  let h := if s.lcm.history.length < 14 then s.lcm.history ++ [e] else s.lcm.history
  ({ s with lcm := { s.lcm with recState := t, pending := 0xFF, recSeq := s.lcm.recSeq + 1, history := h,
                                eventDue := if t = 4 then none else some t } }).programRecord

/-- Steps 2 to 5 of R660 for a target; with `cut` at some n the sequence ends after n fuses (R661). -/
def State.lifeCycleSteps (s : State) (t : Nat) (cut : Option Nat) : State :=
  let s1 := s.lifeCycleClear t
  match cut with
  | some n => { s1 with lcm := { s1.lcm with fuse := BitVec.ofNat 32 (blowFuses s1.lcm.fuse.toNat t n) } }
  | none =>
    ({ s1 with lcm := { s1.lcm with fuse := BitVec.ofNat 32 (blowFuses s1.lcm.fuse.toNat t 32) } }).lifeCycleRecord t

/-- Slate step 3: the copies of the record are compared (R662), and a pending transition is completed, with the warm reset
it ends in recorded (R661). -/
def State.bootLifeCycle (s : State) (i : SlateInputs) : State :=
  let s := if i.recordOk then s else ({ s with lcm := { s.lcm with copiesAgree := false } }).raise 80 0 0
  if s.lcm.pending != 0xFF && (fuseState s.lcm.fuse).isSome then
    (s.lifeCycleSteps s.lcm.pending none).setF Fld.PLT_RSTCAUSE_FIRMWARE 1
  else s

end Sys2Proof.Machine
end

