-- ==== Sys2Proof/Machine/StartOps.lean ====
section
/-!
DEFINITION. The staged start: failing and abandoning Ochre, the conditions of spin-up, warm and power-on resets, and the
steps of Slate (R50 to R74, R79, R706).
Choices: assumption log 9, 10, 57.
-/
namespace Sys2Proof.Machine
open Sys2Proof

-- ---------------------------------------------------------------------------------------------------------------
-- Ochre (R69 to R73)

/-- Ochre is abandoned (R72): the part stays in Slate with the code, and source 8 is raised. Every queue is fetched and
object commands complete with NOT_READY while `abandoned` holds. -/
def State.ochreAbandon (s : State) (code : Nat) : State :=
  let s1 := (s.setF Fld.PLT_STAGE_FAILCODE code).setF Fld.PLT_STAGE_OCHRE_FAIL 1
  let s2 := { s1 with boot := { s1.boot with ochreRunning := false, retryWait := false, abandoned := true, stageKept := false } }
  (s2.setStage 1).raise 8 0 0

/-- Codes that firmware retries (R71). -/
def retryable (code : Nat) : Bool := code == 0x20 || code == 0x21 || code == 0x25

/-- Start the braking that is in force, once both actuators are parked (R323): regenerative above OBS_MIN in mode 0 while
regeneration is allowed, else by zero vector. After a phase short or an open phase no braking is applied (R341), nor while the bus keeps the
bridge off (R324); after a power loss the motor coasts (R336). -/
def State.startBrake (s : State) : State :=
  if !s.spm.spinDown || s.offRamp || s.mfe.lossConfirmed then s
  else if s.isSet Fld.MFE_PROT_SHORT || s.isSet Fld.MFE_PROT_OPEN || !s.mfe.bridgeReady then s.bridgeOff
  else
    let regen := s.getF Fld.MFE_BRAKE_MODE = 0 && !s.spm.zvOnly && !s.mfe.regenOff && !s.isSet Fld.MFE_PROT_CHOP_OPEN
      && !s.isSet Fld.MFE_PROT_CHOP_SHORT && s.speed16 > 16 * s.getF Fld.SPM_SPDLIM_OBS_MIN
    let s1 := s.setF Fld.SPM_CTRL_MODE (if regen then 5 else 6)
    let s2 := s1.setF Fld.MFE_STATUS_SPIN_ON 1
    let iq : Int := if regen then -(s.getF Fld.SPM_CURLIM_BRK_IQ : Int) else 0
    { s2 with spm := { s2.spm with focOn := regen, iqTarget := iq } }

/-- An Ochre attempt fails (R71): a retryable code parks both actuators, brakes a spindle that turns or is driven and waits 5 s while attempts
are left; every other case abandons Ochre. The spec does not say what PLT_STAGE holds during the wait: STAGE returns to 1, FAILCODE
stays as it was, and event 512 tells that code (DESIGN CHOICE, assumption log 64). -/
def State.ochreFail (s : State) (code : Nat) : State :=
  if retryable code then
    let s1 := s.unloadBoth
    let s2 := { s1 with spm := { s1.spm with spinDown := true, focOn := s1.spm.focOn && s1.offRamp },
                        boot := { s1.boot with ochreRunning := false, stageKept := false } }
    let s3 := if s2.turning || s2.isSet Fld.MFE_STATUS_SPIN_ON then s2.startBrake else s2
    if s3.getF Fld.PLT_STAGE_ATTEMPT < s3.dictNum 0x2100 3 then
      ({ s3 with boot := { s3.boot with retryWait := true } }).setStage 1
    else s3.ochreAbandon code
  else s.ochreAbandon code

/-- The bring-up of an unformatted drive fails: qualification stops with status 2 (R247). -/
def State.bringUpFails (s : State) : State :=
  if s.boot.bringUp then ({ s with boot := { s.boot with bringUp := false } }).setDictNum 0x3400 4 1 2 else s

/-- The spin-up or a head load fails: of Ochre with `code` (R71), or of the bring-up of R247. -/
def State.startFails (s : State) (code : Nat) : State :=
  if s.boot.ochreRunning then s.ochreFail code else s.bringUpFails

/-- Whether spin-up is allowed (R69): automatic after its delay, or on request. -/
def State.spinAllowed (s : State) : Bool :=
  s.boot.spinRequested || (s.dictNum 0x2100 6 == 0 && s.boot.delayEnded)

/-- Whether Ochre may begin, or begin again: Slate complete, the link up, no retract running, no Black sticky bit, not in test
hold; from Slate once spin-up is allowed, and after a loss of service in Ochre or Cobalt as R21 and R612 have it (R69, R670). -/
def State.ochreMayBegin (s : State) : Bool :=
  s.boot.slateDone && s.motionLinkUp && s.d2d.coreUp && !s.retracting 0 && !s.retracting 1 && !s.blackSet && !s.tst.hold
    && !s.boot.ochreRunning
    && ((s.stage = 1 && s.spinAllowed && !s.boot.abandoned && !s.boot.retryWait) || s.stage = 2
      || (s.stage = 3 && s.boot.restore))

-- ---------------------------------------------------------------------------------------------------------------
-- Braking (R323, R331)

/-- The part returns from Cobalt to Slate with a start-up code (R322): the attempts start afresh, both actuators park, the
spindle is braked and Ochre restarts after 5 s (R71). -/
def State.backToSlate (s : State) (code : Nat) : State :=
  let s1 := (s.unloadBoth.setF Fld.PLT_STAGE_FAILCODE code).setF Fld.PLT_STAGE_ATTEMPT 0
  let s2 := { s1 with boot := { s1.boot with ochreRunning := false, retryWait := true, stageKept := false } }
  s2.setStage 1

-- ---------------------------------------------------------------------------------------------------------------
-- Warm and power-on resets of the core die (R50, R79)

/-- Entries after a reset of the core die: as bank 3 holds them, and the preamp IDs as last read (R271). -/
def State.dictAfterReset (s : State) : List (Nat × List Byte) :=
  [dkey 0x3500 6, dkey 0x3501 6].foldl (fun m a =>
    match Assoc.find s.dict a with
    | some v => Assoc.put m a v
    | none => Assoc.del m a) s.bank3

/-- The core die except the always-on island at its reset values; volatile entries at their defaults, stored entries as
bank 3 holds them, statistics from their last stored values; DRAM, queues and sessions lost; the running reaction abandoned
(R13, R79, R569, R574, R614). What is on the media, in flash and in fuses stays; the motion die and the preamps keep their state. -/
def State.coreReset (s : State) : State :=
  let s0 := ((s.gateLow 0).gateLow 1)
  let regs := (List.range 28).foldl (fun m u => if u = 22 || u = 7 || u = 5 then m else resetUnitRegs u islandRegs m) s0.regs
  { s0 with
    regs := regs, dict := s0.dictAfterReset,
    boot := { Boot.reset with domainsReset := s0.boot.domainsReset, cobaltMs := s0.boot.cobaltMs },
    d2d := D2d.reset,
    fcl := { Fcl.reset with evSeq := s0.fcl.evSeq, storageSplit := s0.fcl.storageSplit },
    evt := Evt.reset, can := Can.reset, clk := Clk.reset, tint := Tint.reset, tst := { Tst.reset with hold := s0.tst.hold },
    bmc := Bmc.reset, dma := Dma.reset, hcc := Hcc.reset, qmg := Qmg.reset, obj := { Obj.reset with clock := s0.clockRestarted },
    media := { Media.reset with qualSnr := s0.media.qualSnr, passUs := s0.media.passUs }, chn0 := Chn.reset, chn1 := Chn.reset, dec := Dec.reset, pre0 := s0.pre0.unitReset,
    pre1 := s0.pre1.unitReset, srv0 := Srv.reset, srv1 := Srv.reset, cle := Cle.reset, spm := Spm.reset,
    cxc := { Cxc.reset with perstLow := s0.cxc.perstLow, prevLink := s0.cxc.prevLink }, mig := Mig.reset }


/-- The core die goes into reset: the motion die sees the link down, retracts and lets the motor coast (R17, R19, R79). -/
def State.intoReset (s : State) : State :=
  let s0 := s.motionLinkDown.stopFlash.coreReset
  let s1 := { s0 with mfe := { s0.mfe with setPointsIgnored := true } }
  if s.turning || s.isSet Fld.MFE_STATUS_SPIN_ON || s1.offRamp then s1.bridgeOff else s1

/-- A warm reset (R79): gates low, the core die resets, the sticky bits stay, `cause` is recorded in PLT_RSTCAUSE. -/
def State.warmReset (s : State) (cause : FieldRef) : State := (s.intoReset).setF cause 1

/-- A power-on reset of the core die (R50): as a warm reset, and the always-on island resets too. The unlock attempts and
the lockout are kept unless VDD_AO rose. -/
def State.powerOnReset (s : State) (vddAo : Bool) (cause : FieldRef) : State :=
  let prot := s.reg 0x700010
  let s1 := s.intoReset
  let regs := resetUnitRegs 7 [] (resetUnitRegs 5 [] (s1.regs.filter (fun p => !islandRegs.contains p.1)))
  let counted := if s.pwr.porstLow && !vddAo then 0 else 1
  let s2 := { s1 with regs := regs, fcl := Fcl.reset, dict := s1.bank3,
                      boot := { s1.boot with domainsReset := 0 },
                      nvc := { s1.nvc with bootCount := s1.nvc.bootCount + counted, fellBack := false },
                      lcm := { s1.lcm with gated := false, scanOpen := false },
                      tst := { s1.tst with hold := false },
                      cxc := { s1.cxc with prevLink := none },
                      obj := { s1.obj with clock := none } }
  -- the preamps are powered up with the board (R254)
  let s3 := if vddAo then { s2 with pre0 := Pre.reset, pre1 := Pre.reset }
            else (s2.setF Fld.NVC_PROT_ATTEMPTS (Word.get prot 19 16)).setF Fld.NVC_PROT_LOCKOUT (Word.get prot 20 20)
  s3.setF cause 1

-- ---------------------------------------------------------------------------------------------------------------
-- Slate (R62, R68)

/-- Background initialisation starts (R65, R99, R367): class 6 has 400 tokens, or what the other fifteen leave. -/
def State.startInit (s : State) : State :=
  ((s.setF Fld.BMC_INITPOS_BLOCK 0).setF Fld.BMC_STATUS_INIT_DONE 0).initBudget

/-- Slate fails (R68): the core die is held in reset, the part stays in Ash with the code. -/
def State.slateFail (s : State) (code : Nat) : State :=
  let s1 := s.intoReset
  let s2 := s1.setF Fld.PLT_STAGE_FAILCODE code
  { s2 with pwr := { s2.pwr with held := true }, boot := { s2.boot with slateFailed := true } }

/-- Write every unit's dictionary values (R14, R62 step 6 and step 9). -/
def State.applyUnits (s : State) (us : List Nat) : State := us.foldl (fun t u => t.applyUnit u) s

/-- The die-to-die link is up again on both dies; FAULT_N leaves the motion die's hold, and messages the motion die latched
are sent (R21, R55, R706). -/
def State.linkUp (s : State) : State :=
  let s1 := s.setF Fld.MFE_STATUS_LINK 1
  let msgs := s1.ash.latched
  let s2 := { s1 with
    d2d := { s1.d2d with coreUp := true, resends := 0, motionResends := 0 },
    ash := { s1.ash with declaredDown := false, everUp := true, latched := [] },
    mfe := { s1.mfe with pllOnLink := true },
    fcl := { s1.fcl with inbox := s1.fcl.inbox ++ msgs } }
  s2.settle

/-- Slate steps 8 and 9 (R62): DRAM trains and its failures are repaired; initialisation starts; CXL takes its values. -/
def State.slateSteps89 (s : State) (i : SlateInputs) : State :=
  if !i.ddr0Ok || !i.ddr1Ok then s.slateFail 0x07
  else if !i.dramOk || 4 * 2 ^ s.getF Fld.BMC_CFG_CHSIZE > i.installed then s.slateFail 0x08
  else
    let s := (s.setF Fld.BMC_STATUS_TRAINED0 1).setF Fld.BMC_STATUS_TRAINED1 1
    let s := s.startInit
    let s := s.applyUnits [10, 11, 23]
    let s := { s with bmc := { s.bmc with softRows := i.badRows.foldl (fun (m : List Nat) l => insertNat l m) s.nvc.rowList } }
    { s with boot := { s.boot with slateStep := 9 } }

/-- Bit 9 while PAk_FLT_N is low or its FAULT is unread (R263). -/
def State.fltInhibit (s : State) (k : Nat) : State :=
  if (s.pre k).fltLow || !(s.pre k).faultRead then s.inhibit k 9 else s

/-- Slate steps 6 and 7 (R62): the image is selected (R649), the dictionary's values are written, the link comes up. -/
def State.slateSteps67 (s : State) (i : SlateInputs) : State :=
  let s := s.bootSelectImage i
  if s.nvc.running = 0 then s.slateFail 0x05
  else if !i.lockstepOk then s.slateFail 0x06
  else
    let s := s.applyUnits [0, 1, 2, 3, 4, 5, 6, 7, 26, 27, 8, 9, 20, 21, 22, 13, 16, 18, 14, 17, 19, 15, 12, 24, 25]
    let s := (((s.uninhibitBoth 10).inhibitBoth 3).fltInhibit 0).fltInhibit 1
    if !i.linkUp then s.slateFail 0x0A
    else if s.tst.hold then  -- test hold leaves DRAM out (R670)
      let s := s.linkUp
      { s with boot := { s.boot with slateStep := 7 } }
    else (s.linkUp).slateSteps89 i

/-- Slate steps 4 and 5 (R62): HCC invalidated, the checkers tested. -/
def State.slateSteps45 (s : State) (i : SlateInputs) : State :=
  let s := (s.setF Fld.HCC_STATUS_INVAL 0).setF Fld.HCC_STATUS_READY 1
  let s := ((s.setF Fld.BMC_CHKTEST_DONE 1).setF Fld.BMC_CHKTEST_FAILCNT i.checkerFails.length).setF
    Fld.BMC_CHKTEST_FAILIDX (i.checkerFails.headD 0)
  if !i.checkerFails.isEmpty then s.slateFail 0x09
  else (s.setF Fld.BMC_CHKTEST_PASS 1).slateSteps67 i

/-- Slate, steps 1 to 9 in order; the first that fails ends it with its code (R62, R68, R77). Step 3 completes a pending
life-cycle transition (R661) and step 6 selects the image (R649), repeats an interrupted erase (R631) and writes the
dictionary's values. -/
def State.slateRun (s : State) (i : SlateInputs) : State :=
  let s := { s with pwr := { s.pwr with held := false },
                    boot := { s.boot with slateRunning := true, slateFailed := false } }.setF Fld.PLT_STAGE_FAILCODE 0
  if !s.pwr.pwrGood || !s.pwr.railsOut.isEmpty then s.slateFail 0x01
  else if !i.refOk || !i.pllsLocked || !s.pwr.rootOk then s.slateFail 0x02
  else if !i.sramOk then s.slateFail 0x03
  else
    let s := s.setF Fld.TST_MREP_SOFT i.softRepairs
    let s := s.bootLifeCycle i
    if !(s.lifeCycle = 1 || s.lifeCycle = 2 || s.lifeCycle = 3) then s.slateFail 0x0B
    else if !i.bootLoaderOk then s.slateFail 0x04
    else s.slateSteps45 i

end Sys2Proof.Machine
end

