-- ==== Sys2Proof/Machine/Clock.lean ====
section
/-!
DEFINITION. Clock monitors and Tint budgets (spec/03).
Choices: assumption log 53.
-/
namespace Sys2Proof.Machine
open Sys2Proof

/-- What a command answers. -/
abbrev Res := Host.Outcome State Fault Refusal

-- ---------------------------------------------------------------------------------------------------------------
-- Clock monitors (R89 to R91)

/-- Clock domains in each group of R89, from source 480 on. -/
def clockGroups : List Nat := [8, 4, 16, 4, 8, 24, 3, 12, 4, 10, 10, 3, 6]

/-- The group, counted from `g`, that holds clock domain `d` of the groups `l`. -/
def clockGroupFrom (l : List Nat) (g d : Nat) : Nat :=
  match l with
  | [] => g
  | n :: t => if d < n then g else clockGroupFrom t (g + 1) (d - n)

/-- The monitor source of clock domain `d` (R89). -/
def clockSource (d : Nat) : Nat := 480 + clockGroupFrom clockGroups 0 d

/-- The groups whose monitor takes the write gates low: lockstep pairs, fabric, memory, channel, servo and control law,
motion and timers (R91). -/
def gateClockSources : List Nat := [481, 482, 484, 485, 486, 489]

/-- One monitor fires: the gates go low under bit 7 of R263 where R91 names its group, and its source is raised (R90). -/
def State.clockFires (s : State) (src : Nat) : State :=
  (if gateClockSources.contains src then s.inhibitBoth 7 else s).raise src 0 0

/-- A 5 µs gate ends with the clock domains `out` outside ±2 %; those in `gated`, the units in reset or idle
whose clock CKM gates (R92), are not monitored. A domain outside in two
consecutive gates fires its group's monitor (R90). -/
def execClockMonitorGate (out gated : List Nat) (s : State) : Res :=
  let now := (List.range 112).filter (fun d => out.contains d && !gated.contains d)
  let twice := now.filter (fun d => s.clk.outside.contains d)
  let srcs := twice.foldl (fun l d => insertNat (clockSource d) l) []
  .next (srcs.foldl (fun t x => t.clockFires x) { s with clk := ⟨now⟩ })

-- ---------------------------------------------------------------------------------------------------------------
-- Tint bandwidth classes (R93 to R100)

/-- The sum of the budgets in force of the media set, or of the rest. -/
def tintSum (tokens : List Nat) (media : Bool) : Nat :=
  (List.range 16).foldl (fun a n => if tintMedia n == media then a + tokens.getD n 0 else a) 0

/-- Transfers served round-robin, one for each class in its turn: `room` of them at most, to classes that may take one and have a
request left, in rounds from class `n` on (R96). Answers the requests left and the class that is next. -/
def tintServe (fuel room n idle : Nat) (may : Nat → Bool) (left : List Nat) : List Nat × Nat :=
  match fuel with
  | 0 => (left, n)
  | k + 1 =>
    if room = 0 || idle ≥ 16 then (left, n)
    else if may n && left.getD n 0 != 0 then
      tintServe k (room - 1) ((n + 1) % 16) 0 may (left.set n (left.getD n 0 - 1))
    else tintServe k room ((n + 1) % 16) (idle + 1) may left

/-- What one period issues: the requests of the sixteen classes still waiting, and the class that borrows first in the next. -/
structure TintServed where
  left : List Nat
  next : Nat
  deriving DecidableEq, Repr

/-- A period with budgets `tok` (R95, R96): each class against its own tokens; together the non-media classes stay at or below TOTAL
less the media set's budgets, their own transfers shared round-robin where they exceed it; then borrowing by the classes with the
slack bit. The spec does not say from which class the rounds of a new period start: the pointer goes on from the last period, 0 at
reset (DESIGN CHOICE, assumption log 66). The slack bits are read when the period ends (log 66). -/
def State.tintBudgeted (s : State) (tok asked : List Nat) : TintServed :=
  let own := (List.range 16).map (fun n => min (asked.getD n 0) (tok.getD n 0))
  let ceiling := s.getF Fld.TNT_TOTAL_TOTAL - tintSum tok true
  let ownNon := tintSum own false
  let kept := if ownNon ≤ ceiling then (List.replicate 16 0)
              else (tintServe (17 * (ceiling + 2)) ceiling s.tint.next 0 (fun n => !tintMedia n) own).1
  let issued := (List.range 16).map (fun n => if tintMedia n then own.getD n 0 else own.getD n 0 - kept.getD n 0)
  let left := (List.range 16).map (fun n => asked.getD n 0 - issued.getD n 0)
  let may (n : Nat) : Bool := !tintMedia n && s.isSet (Fld.TNT_CLASS_SLACK n)
  let r := tintServe (17 * (ceiling + 2)) (ceiling - tintSum issued false) s.tint.next 0 may left
  ⟨r.1, r.2⟩

/-- TNT is in reset: the core die is held, or no boundary has loaded budgets since its reset (R78, R100). -/
def State.tntReset (s : State) : Bool := s.pwr.held || s.pwr.porstLow || s.tint.tokens.isEmpty

/-- A period without budgets, while TNT is in reset (R100): the media set first, then all other classes round-robin, within the 1,600
transfers that the DRAM carries in a period (R97). The order within the media set is not stated: round-robin from class 0 (DESIGN CHOICE,
assumption log 66). -/
def State.tintUnbudgeted (s : State) (asked : List Nat) : TintServed :=
  let r1 := tintServe (17 * 1602) 1600 0 0 tintMedia asked
  let used := tintSum asked true - tintSum r1.1 true
  let r2 := tintServe (17 * 1602) (1600 - used) s.tint.next 0 (fun n => !tintMedia n) r1.1
  ⟨r2.1, r2.2⟩

/-- Record the use of one class over the period: USED, and WAITS when requests stayed waiting. -/
def State.tintRecord (s : State) (n issued left : Nat) : State :=
  let s1 := s.setF (Fld.TNT_STAT_USED n) issued
  if left = 0 then s1 else s1.bumpF (Fld.TNT_STAT_WAITS n) 1

/-- Of `issued` transfers of class 11 those of host-owned DMA channels, which ask for `host` while firmware's ask for `firm`: at most
HOSTPCT % for as long as one of firmware's waits (R521). -/
def State.hostIssued (s : State) (host firm issued : Nat) : Nat :=
  let share := issued * s.getF Fld.DMA_ARB_HOSTPCT / 100
  min host (max share (issued - firm))

/-- The 1 µs boundary (R95 to R98, R100). The transfers that the commands since the last boundary asked for are issued, with
`firmware` more of class 12, which firmware makes by itself; what is not issued waits for the next period. Unspent tokens expire and
the budgets as they stand are loaded into both copies of the counter cells. `upset` gives a cell of the second copy and the count it
is found to hold: a difference raises source 32. -/
def execTintPeriod (firmware : Nat) (upset : Option (Nat × Nat)) (s : State) : Res :=
  let t := (s.charge 12 firmware).tint
  let copy := match upset with | some u => t.copy.set u.1 u.2 | none => t.copy
  let r := if s.tntReset then s.tintUnbudgeted t.asked else s.tintBudgeted t.tokens t.asked
  let s1 := if s.tntReset then s
            else (List.range 16).foldl (fun x n => x.tintRecord n (t.asked.getD n 0 - r.left.getD n 0) (r.left.getD n 0)) s
  let issued := t.asked.getD 11 0 - r.left.getD 11 0
  let fresh := if s.pwr.held || s.pwr.porstLow then [] else (List.range 16).map (fun n => s1.getF (Fld.TNT_CLASS_TOKENS n))
  let host := t.askedHost - s1.hostIssued t.askedHost (t.asked.getD 11 0 - t.askedHost) issued
  let s2 := { s1 with tint := { s1.tint with tokens := fresh, copy := fresh, asked := r.left, askedHost := host, next := r.next } }
  .next (if copy = t.tokens || s.tntReset then s2 else s2.raise 32 0 0)

-- ---------------------------------------------------------------------------------------------------------------
-- Media time (R101 to R105)

/-- Background wedges per revolution of actuator k: the larger of SHARE and FLOOR (R103). -/
def State.bgBudget (s : State) (k : Nat) : Nat := max (s.getF (Fld.TNT_MT_SHARE k)) (s.getF (Fld.TNT_MT_FLOOR k))

/-- Whether background work may take `wedges` more of this revolution: within the share, or with the slack bit set and no
foreground operation queued (R104). -/
def State.bgAllowed (s : State) (k wedges : Nat) (foreground : Bool) : Bool :=
  s.tint.bg.getD k 0 + wedges ≤ s.bgBudget k || (s.isSet (Fld.TNT_MT_SLACK k) && !foreground)

/-- Charge `wedges` to background on actuator k (R102), of the 512 that a revolution has. -/
def State.bgCharge (s : State) (k wedges : Nat) : State :=
  if s.tint.counting.getD k false then
    { s with tint := { s.tint with bg := s.tint.bg.set k (min 512 (s.tint.bg.getD k 0 + wedges)) } }
  else s

/-- Background work on actuator k waits for the next index (R104). -/
def State.bgHold (s : State) (k : Nat) : State := { s with tint := { s.tint with held := s.tint.held.set k true } }

/-- The index wedge passes on actuator k: the count restarts and the revolution's use is reported (R101, R78). -/
def State.indexPasses (s : State) (k : Nat) : State :=
  let s1 := if s.tint.counting.getD k false then s.setF (Fld.TNT_MTSTAT_BG_USED k) (s.tint.bg.getD k 0) else s
  let s2 := if s1.tint.held.getD k false then s1.bumpF (Fld.TNT_MTSTAT_HELD k) 1 else s1
  { s2 with tint := { s2.tint with counting := s2.tint.counting.set k true, bg := s2.tint.bg.set k 0,
                                   held := s2.tint.held.set k false } }

/-- FLOOR of R105 from the µs left to the deadline, the spindle speed in 1/16 rpm, the tracks left and the thousandths of a
revolution a track takes; none where no revolution is left for the work. -/
def scrubFloor (usLeft speed tracksLeft milliRevs : Nat) : Option Nat :=
  let work := 512 * tracksLeft * milliRevs * 60 * 16 * 1000000
  let left := 1000 * usLeft * speed
  if work = 0 then some 0 else if left = 0 then none else some (ceilDiv work left)

/-- µs from now to the deadline of the scrub pass of actuator k: SCRUB_DAYS days after the pass began (R105, R236, R241). -/
def State.scrubUsLeft (s : State) (k : Nat) : Nat :=
  s.media.passUs.getD k 0 + 86400000000 * s.dictNum 0x3300 1 - s.pwr.timeUs

/-- Tracks of the scrub pass of actuator k behind its position, in the order of R236: zone by zone, track by track, on every head. -/
def State.scrubTracksLeft (s : State) (k : Nat) : Nat :=
  let fs := s.media.surfaces.filter (fun f => actuatorOf f.head == k)
  let psa := s.media.scrub.getD k 0
  let at_ := (fs.find? (fun f => f.head == psaSurface psa)).bind (fun f => zoneOfTrack f.zones (psaTrack psa))
  let done (f : Surface) : Nat := match at_ with
    | none => 0
    | some z =>
      let row := psaTrack psa - z.first + (if f.head ≤ psaSurface psa then 1 else 0)
      f.zones.foldl (fun a x => a + (if x.zone < z.zone then x.tracks else if x.zone = z.zone then min x.tracks row else 0)) 0
  fs.foldl (fun a f => a + (f.zones.foldl (fun b z => b + z.tracks) 0 - done f)) 0

/-- The hourly computation of FLOOR for actuator k (R105): the measured speed, and the measured average of revolutions per track in
thousandths, seeks included. -/
def execFloorRecompute (k milliRevs : Nat) (s : State) : Res :=
  .next (match scrubFloor (s.scrubUsLeft k) (s.getF Fld.SPM_SPEED_SPEED) (s.scrubTracksLeft k) milliRevs with
    | some f =>
      if f > 512 then (s.raise 33 0 0).setF (Fld.TNT_MT_FLOOR (k % 2)) 512 else s.setF (Fld.TNT_MT_FLOOR (k % 2)) f
    | none => (s.raise 33 0 0).setF (Fld.TNT_MT_FLOOR (k % 2)) 512)

-- ---------------------------------------------------------------------------------------------------------------
-- Object-core time (R106, R107)

/-- At 100 − HOST_PCT µs: core 0 or 1, with host work pending and less than HOST_PCT µs of it run, is switched to host work
for the rest of the window (R106). -/
def execHostShareSwitch (c ran : Nat) (waits : Bool) (s : State) : Res :=
  .next (if c < 2 && waits && ran < s.getF Fld.TNT_CORE_HOST_PCT then
      { s with tint := { s.tint with switched := insertNat c s.tint.switched } }
    else s)

/-- Migration work has run `ran` µs over all cores: at MIG_PCT of 800 µs it is suspended until the next window (R107). -/
def execMigrationCap (ran : Nat) (s : State) : Res :=
  .next (if ran ≥ 8 * s.getF Fld.TNT_CORE_MIG_PCT then { s with tint := { s.tint with migSuspended := true } } else s)

-- ---------------------------------------------------------------------------------------------------------------
-- Time

/-- One microsecond passes while no command waits: the clock of the model, µs since supply good, runs while the supply is good. What
else time brings about comes as a command of its own (assumption log 2). -/
def State.tick (s : State) : State :=
  if s.pwr.good then { s with pwr := { s.pwr with timeUs := s.pwr.timeUs + 1 } } else s

end Sys2Proof.Machine
end

