-- ==== Sys2Proof/Machine/Dram.lean ====
section
/-!
DEFINITION. The check code of a DRAM line: Reed-Solomon over GF(2^8), decoded one component at a time (R354 to R356).
Choices: assumption log 31.
-/
namespace Sys2Proof.Machine
open Sys2Proof

/-- A symbol times α in GF(2^8) with field polynomial 0x11D (R354). -/
def symDouble (v : Nat) : Nat := if v ≥ 0x80 then (2 * v) ^^^ 0x11D else 2 * v

/-- The product of two symbols, over the low `n` bits of `b`. -/
def symMulAux (n a b : Nat) : Nat :=
  match n with
  | 0 => 0
  | k + 1 => (if b % 2 = 1 then a else 0) ^^^ symMulAux k (symDouble a) (b / 2)

def symMul (a b : Nat) : Nat := symMulAux 8 a b

/-- `α` to the power `i`. -/
def symPow (i : Nat) : Nat :=
  match i with
  | 0 => 1
  | k + 1 => symDouble (symPow k)

/-- `a` to the power 2^(n+1) − 2, its inverse for n = 7. -/
def symInvAux (n a acc : Nat) : Nat :=
  match n with
  | 0 => acc
  | k + 1 => let sq := symMul a a
             symInvAux k sq (symMul acc sq)

def symInv (a : Nat) : Nat := symInvAux 7 a 1

/-- The degree at which symbol `i` stands: stored symbols 0 to 79 first to last at 79 to 0, the virtual symbols 80 to 83
above them (assumption log 31). -/
def symDegree (i : Nat) : Nat := if i < 80 then 79 - i else 163 - i

/-- The sixteen syndromes of an error pattern: symbol and error (R354). -/
def eccSyndrome (errs : List (Nat × Nat)) : List Nat :=
  (List.range 16).map (fun i => errs.foldl (fun a p => a ^^^ symMul p.2 (symPow (symDegree p.1 * i % 255))) 0)

/-- Locators of the eight symbols of component `d`. -/
def eccLocators (d : Nat) : List Nat := (List.range 8).map (fun j => symPow (symDegree (8 * d + j)))

/-- The product of (1 + X x) over locators X, lowest degree first. -/
def eccLambda (xs : List Nat) : List Nat :=
  xs.foldl (fun l x =>
    (List.range (l.length + 1)).map (fun i => l.getD i 0 ^^^ (if i = 0 then 0 else symMul x (l.getD (i - 1) 0)))) [1]

/-- Coefficient `i` of the product of the error locator polynomial with the syndromes. -/
def eccProduct (lam syn : List Nat) (i : Nat) : Nat :=
  (List.range lam.length).foldl (fun a k => if k ≤ i then a ^^^ symMul (lam.getD k 0) (syn.getD (i - k) 0) else a) 0

/-- Whether errors in component `d` alone account for every syndrome (R355). -/
def eccFits (syn : List Nat) (d : Nat) : Bool :=
  let lam := eccLambda (eccLocators d)
  (List.range 8).all (fun i => eccProduct lam syn (8 + i) = 0)

/-- The errors in the eight symbols of component `d` that give the syndromes, by Forney's formula. -/
def eccSolve (syn : List Nat) (d : Nat) : List (Nat × Nat) :=
  let xs := eccLocators d
  let lam := eccLambda xs
  let omega := (List.range 8).map (eccProduct lam syn)
  (List.range 8).map (fun j =>
    let inv := symInv (xs.getD j 1)
    let num := omega.foldr (fun c a => c ^^^ symMul inv a) 0
    let den := (List.range 8).foldl (fun a l => if l = j then a else symMul a (1 ^^^ symMul (xs.getD l 0) inv)) 1
    (8 * d + j, symMul num (symInv den)))

/-- The poison pattern: every check symbol with 0x5A (R356). -/
def poisonErrs : List (Nat × Nat) := (List.range 16).map (fun i => (64 + i, 0x5A))

/-- What the decoder makes of a line. -/
inductive EccRead where
  | clean
  | corrected (fixed : List (Nat × Nat))   -- the errors it takes out
  | uncorrectable
  | poisoned
  deriving DecidableEq, Repr

/-- Decode a line stored with the errors `errs` (R355, R356). -/
def eccDecode (errs : List (Nat × Nat)) : EccRead :=
  let syn := eccSyndrome errs
  if syn.all (· = 0) then .clean
  else if syn = eccSyndrome poisonErrs then .poisoned
  else
    match (List.range 10).filter (eccFits syn) with
    | [d] => .corrected (eccSolve syn d)
    | _ => .uncorrectable

/-- Error patterns added symbol by symbol; symbols without an error are left out. -/
def addErrs (a b : List (Nat × Nat)) : List (Nat × Nat) :=
  b.foldl (fun l p =>
    let v := ((Assoc.find l p.1).getD 0 ^^^ p.2) % 256
    if v = 0 then Assoc.del l p.1 else Assoc.put l p.1 v) a

end Sys2Proof.Machine
end

