-- ==== Sys2Proof/Machine/BufferOps.lean ====
section
/-!
DEFINITION. DRAM and the buffer: memory in canonical form, the regions of R349, the HDM window, the tile pool, and the
buffers that commands name (R349, R361, R369 to R373, R419, R465 to R471).
Choices: assumption log 28, 30.
-/
namespace Sys2Proof.Machine
open Sys2Proof

-- ---------------------------------------------------------------------------------------------------------------
-- Memory: sparse bytes, zero where unlisted, addresses rising, no zero listed

/-- The byte at an address. -/
def memGet (m : List Host.Cell) (a : Nat) : Byte := (Assoc.find m a).getD 0

/-- Memory with the byte at `a` replaced, in canonical form. -/
def memPut (m : List Host.Cell) (a : Nat) (b : Byte) : List Host.Cell := storeCell m a b

/-- `n` bytes from `a` on. -/
def memBytes (m : List Host.Cell) (a n : Nat) : List Byte := (List.range n).map (fun i => memGet m (a + i))

/-- Memory with bytes written from `a` on. -/
def memPutBytes (m : List Host.Cell) (a : Nat) (bs : List Byte) : List Host.Cell :=
  match bs with
  | [] => m
  | b :: t => memPutBytes (memPut m a b) (a + 1) t

/-- The canonical form of memory: addresses strictly rising, no entry equal to what an unlisted address reads as. -/
abbrev Memory.wf (m : List Host.Cell) : Prop := Assoc.rising m = true ∧ m.all (fun p => p.2 != 0) = true

-- ---------------------------------------------------------------------------------------------------------------
-- Regions (R349)

def mib : Nat := 1048576
/-- Device address of the HDM window: 128 + 256 + 512 + 64 MiB of fixed regions lie below it. -/
def hdmBase : Nat := 960 * mib
def State.hdmSize (s : State) : Nat := 256 * mib * s.getF Fld.BMC_HDM_SIZE
def State.poolBase (s : State) : Nat := hdmBase + s.hdmSize
def State.poolSize (s : State) : Nat := 256 * mib * s.getF Fld.BMC_HDM_POOL
/-- Bytes in use: 2 × CHSIZE (R348). -/
def State.dramSize (s : State) : Nat := 64 * s.linesInUse

/-- The region of a device address: 0 queue contexts, 1 sample store, 2 firmware, 3 control, 4 HDM window, 5 tile pool,
6 object index; none above CHSIZE. -/
def State.regionOf (s : State) (a : Nat) : Option Nat :=
  if a ≥ s.dramSize then none
  else if a < 128 * mib then some 0
  else if a < 384 * mib then some 1
  else if a < 896 * mib then some 2
  else if a < hdmBase then some 3
  else if a < s.poolBase then some 4
  else if a < s.poolBase + s.poolSize then some 5
  else some 6

/-- Slots of the tile pool (R369). -/
def State.poolSlots (s : State) : Nat := s.poolSize / 4160

-- ---------------------------------------------------------------------------------------------------------------
-- The HDM window

/-- The HDM window can be used: CXL.mem negotiated and a size above zero (R382, R467). -/
def State.hdmUsable (s : State) : Bool := s.isSet Fld.CXC_LINK_MEM && s.hdmSize != 0

def State.setDram (s : State) (m : List Host.Cell) : State := { s with bmc := { s.bmc with dram := m } }

/-- The bytes of a merge-buffer entry are seen by every read of its line (R366). -/
def State.lineByte (s : State) (a : Nat) : Byte :=
  match s.bmc.merge.find? (fun e => e.line == a / 64) with
  | some e => (Assoc.find e.bytes (a % 64)).getD (memGet s.bmc.dram a)
  | none => memGet s.bmc.dram a

/-- Bytes of the window from offset `x` on, or of DRAM from a device address on. -/
def State.dramRead (s : State) (a n : Nat) : List Byte := (List.range n).map (fun i => s.lineByte (a + i))
def State.hdmRead (s : State) (x n : Nat) : List Byte := s.dramRead (hdmBase + x) n

/-- The errors a line is stored with, the poison pattern among them (R354, R356). -/
def State.lineErrs (s : State) (l : Nat) : List (Nat × Nat) :=
  addErrs ((Assoc.find s.bmc.errs l).getD []) (if s.bmc.poisoned.contains l then poisonErrs else [])

/-- What a read of a line makes of it (R355). -/
def State.lineDecode (s : State) (l : Nat) : EccRead := eccDecode (s.lineErrs l)

/-- A read of the line gives no valid data (R361). -/
def State.lineBad (s : State) (l : Nat) : Bool :=
  match s.lineDecode l with
  | .uncorrectable | .poisoned => true
  | _ => false

/-- A line in the range reads as uncorrectable or poisoned. -/
def State.rangePoisoned (s : State) (a n : Nat) : Bool :=
  let hit (l : Nat) : Bool := a ≤ 64 * l + 63 && 64 * l < a + n && s.lineBad l
  s.bmc.poisoned.any hit || s.bmc.errs.any (fun p => hit p.1)

-- ---------------------------------------------------------------------------------------------------------------
-- Initialisation (R65, R99, R363, R367, R368)

/-- Blocks of 2 MiB in use. -/
def State.initBlocks (s : State) : Nat := s.dramSize / (2 * mib)

/-- Both channels are trained and the memory in use is not all initialised. -/
def State.initRuns (s : State) : Bool :=
  s.isSet Fld.BMC_STATUS_TRAINED0 && s.isSet Fld.BMC_STATUS_TRAINED1 && !s.isSet Fld.BMC_STATUS_INIT_DONE

/-- Class 6 has its dictionary value again once nothing is being initialised (R99). -/
def State.class6Back (s : State) : State := if s.initialising then s else s.applyEntry 0x2200 7

/-- CXL Reset Complete is set: bit 1 of the second status of the DVSEC for CXL devices (R389, R412). -/
def State.cxlResetComplete (s : State) : State :=
  let v := ((Assoc.find s.cxc.cfg 0x312).getD 0) ||| 2
  { s with cxc := { s.cxc with resetRunning := false, cfg := Assoc.put s.cxc.cfg 0x312 v } }

/-- The window is initialised again: HDM_READY, event 580, and the end of a CXL reset that waits for it (R368, R398, R412).
-/
def State.windowBack (s : State) : State :=
  let s1 := ((s.setF Fld.BMC_STATUS_HDM_READY 1).class6Back).event 580 0
  if s1.cxc.resetRunning then s1.cxlResetComplete else s1

/-- The frontier from block `b` on: past the blocks initialised out of order. -/
def frontier (fuel : Nat) (done : List Nat) (b : Nat) : Nat :=
  match fuel with
  | 0 => b
  | f + 1 => if done.contains b then frontier f done (b + 1) else b

/-- Block `b` has been initialised, in order or for an access that waits on it; the window or all of memory may be done with
it, and the patrol then starts (R363, R367). Its 32,768 lines are charged to class 6 (R65). -/
def State.blockDone (s : State) (b : Nat) : State :=
  if s.bmc.hdmLeft.contains b then
    let left := s.bmc.hdmLeft.filter (· != b)
    let s1 := ({ s with bmc := { s.bmc with hdmLeft := left } }).charge 6 32768
    if left.isEmpty then s1.windowBack else s1
  else if s.initRuns then
    let done := insertNat b s.bmc.done
    let pos := frontier (s.initBlocks + 1) done (s.getF Fld.BMC_INITPOS_BLOCK)
    let s1 := ({ s with bmc := { s.bmc with done := done } }).charge 6 32768
    let s2 := s1.setF Fld.BMC_INITPOS_BLOCK (min pos 32767)
    let s3 := if 2 * mib * pos ≥ s.poolBase && s.bmc.hdmLeft.isEmpty then s2.setF Fld.BMC_STATUS_HDM_READY 1 else s2
    if pos < s.initBlocks then s3
    else
      let s4 := { s3.setF Fld.BMC_STATUS_INIT_DONE 1 with bmc := { s3.bmc with done := [] } }
      let s5 := ((s4.class6Back).applyEntry 0x2300 3).setF Fld.BMC_PATROLPOS_LINE 0
      s5.setF Fld.BMC_PATROL_EN 1
  else s

/-- An access to line `l`: its block is initialised first (R367, R392). -/
def State.initFor (s : State) (l : Nat) : State :=
  let b := l / 32768
  if s.bmc.hdmLeft.contains b || (s.initRuns && s.getF Fld.BMC_INITPOS_BLOCK ≤ b && !s.bmc.done.contains b)
  then s.blockDone b else s

/-- An access to `n` bytes from a device address on: the blocks it falls in are initialised first (R367). -/
def State.initRange (s : State) (a n : Nat) : State :=
  (List.range ((a + n - 1) / (2 * mib) + 1 - a / (2 * mib))).foldl (fun (t : State) i => t.initFor (32768 * (a / (2 * mib) + i))) s

-- ---------------------------------------------------------------------------------------------------------------
-- Errors on read (R358 to R361)

/-- Place a line in the repair queue, once; a full queue drops it (R358). -/
def State.queueRepair (s : State) (l : Nat) : State :=
  if s.bmc.repairs.contains l then s
  else if s.bmc.repairs.length ≥ 128 then (s.bumpF Fld.BMC_REPQ_DROPPED 1).raise 132 0 0
  else
    let q := s.bmc.repairs ++ [l]
    ({ s with bmc := { s.bmc with repairs := q } }).setF Fld.BMC_REPQ_USED q.length

/-- A read of line `l` has been corrected: CORR, source 129, and source 131 with the repair list where a repair has rewritten
the line in this patrol pass (R358, R360). -/
def State.countCorrected (s : State) (l : Nat) : State :=
  let s1 := (s.bumpF Fld.BMC_ECCCNT_CORR 1).raise 129 0 0
  if s1.bmc.repaired.contains l then
    let s2 := ({ s1 with nvc := { s1.nvc with rowList := insertNat l s1.nvc.rowList } }).stat 0x8200 3 1
    s2.raise 131 0 0
  else s1

/-- An uncorrectable (1) or poisoned (2) read of line `l`: UNCORR, BMC_ECCLOG, source 130 with the line address (R361). -/
def State.countUncorrected (s : State) (l type : Nat) : State :=
  let s1 := s.bumpF Fld.BMC_ECCCNT_UNCORR 1
  let s2 := (s1.setF Fld.BMC_ECCLOG_TYPE type).setF Fld.BMC_ECCLOG_LINE l
  s2.raise 130 0 l

/-- The lines of a range that are stored with errors, rising. -/
def State.faultyLines (s : State) (a n : Nat) : List Nat :=
  ((s.bmc.errs.map (·.1)) ++ s.bmc.poisoned).foldl (fun l x =>
    if a ≤ 64 * x + 63 && 64 * x < a + n then insertNat x l else l) []

/-- A read of `n` bytes from a device address on: every line of them read with errors is counted, and one corrected goes to the repair
queue (R358, R361). What the loss of a line means is for the reader. -/
def State.readEcc (s : State) (a n : Nat) : State :=
  (s.faultyLines a n).foldl (fun t l =>
    match t.lineDecode l with
    | .clean => t
    | .corrected _ => (t.countCorrected l).queueRepair l
    | .uncorrectable => t.countUncorrected l 1
    | .poisoned => t.countUncorrected l 2) (s.initRange a n)

/-- The reads of a tile's slot (R372). -/
def State.readSlot (s : State) (slot : Nat) : State := s.readEcc (s.poolBase + 4160 * slot) 4160

/-- Whole lines written: pending merges of those lines are discarded and poison leaves them (R365). -/
def State.dramWrite (s : State) (a : Nat) (bs : List Byte) : State :=
  let hit (l : Nat) : Bool := a ≤ 64 * l + 63 && 64 * l < a + bs.length
  let m := s.bmc.merge.filter (fun e => !hit e.line)
  ({ s with bmc := { s.bmc with
      dram := memPutBytes s.bmc.dram a bs,
      merge := m, errs := s.bmc.errs.filter (fun p => !hit p.1),
      poisoned := s.bmc.poisoned.filter (fun l => !hit l) } }).setF Fld.BMC_MERGE_USED m.length

/-- Whole lines of the window written from offset `x` on. -/
def State.hdmWrite (s : State) (x : Nat) (bs : List Byte) : State :=
  (s.initRange (hdmBase + x) bs.length).dramWrite (hdmBase + x) bs

-- ---------------------------------------------------------------------------------------------------------------
-- Coherence of the window (R373, R374)

/-- Line `i` of the window before a read by the part: in a host-bias page its coherence is obtained through CXL.cache, and a copy that the
host holds modified, one of `held` by line of the window, is written back first (R374). -/
def State.obtainLine (s : State) (held : List (Nat × List Byte)) (i : Nat) : State :=
  if s.bmc.bias.contains (i / 1024) then s
  else
    let s1 := s.emit (.cacheReq opRdCurr (2 ^ 28 * s.getF Fld.CXC_HDMBASE_BASE + 64 * i))
    match Assoc.find held i with
    | some bs => (s1.hdmWrite (64 * i) (slice bs 0 64)).charge 2 1
    | none => s1

/-- Lines of 64 B that `n` bytes take: the transfers of their Tint class (R93). -/
def linesOf (n : Nat) : Nat := ceilDiv n 64

/-- The lines of `n` bytes of the window from offset `x` on are made coherent and read. -/
def State.obtain (s : State) (held : List (Nat × List Byte)) (x n : Nat) : State :=
  ((List.range (linesOf (x % 64 + n))).foldl (fun t i => t.obtainLine held (x / 64 + i)) s).readEcc (hdmBase + x) n

-- ---------------------------------------------------------------------------------------------------------------
-- Tile pool (R369 to R372)

/-- The lowest free slots of the pool, `n` of them; none when fewer are free. -/
def freeSlots (fuel : Nat) (used : List Nat) (i n : Nat) : Option (List Nat) :=
  match n with
  | 0 => some []
  | k + 1 =>
    match fuel with
    | 0 => none
    | f + 1 =>
      if used.contains i then freeSlots f used (i + 1) (k + 1)
      else (freeSlots f used (i + 1) k).map (fun l => i :: l)

def State.takeSlots (s : State) (n : Nat) : Option (List Nat) :=
  freeSlots s.poolSlots (s.obj.pool.map (·.1)) 0 n

/-- Put a tile into a slot. -/
def State.putTile (s : State) (slot : Nat) (t : List Byte) : State :=
  { s with obj := { s.obj with pool := Assoc.put s.obj.pool slot t } }
/-- The versions that a migration sends, as their lookups found them. -/
def Mig.sending (m : Mig) : List Version := match m.tx with | some t => t.offers.map (·.v) | none => []

/-- The versions read from a lookup made before: those that a migration sends, and those of waiting GET_RANGEs and VERIFYs (R443). -/
def State.readFrom (s : State) : List Version := s.mig.sending ++ s.obj.lookups.map (·.2)

/-- Slots of tiles that such a reader may still read from the buffer (R371, R443, R553, R563). -/
def State.heldSlots (s : State) : List Nat :=
  s.readFrom.flatMap (fun v => (v.segs.filter (fun g => !g.durable)).flatMap (·.slots))

/-- Slots of tiles received and not committed. -/
def Mig.rxSlots (m : Mig) : List Nat :=
  m.rx.flatMap (fun r => (r.objs.filter (fun o => o.st = 0)).flatMap (fun o => o.tiles.map (·.2.2)))

/-- Free slots of the pool: nothing refers to them any more (R371), but for those that a lookup made before still reads. -/
def State.freeTiles (s : State) (slots : List Nat) : State :=
  let slots := slots.filter (fun x => !s.heldSlots.contains x)
  { s with obj := { s.obj with pool := s.obj.pool.filter (fun p => !slots.contains p.1),
                               badSlots := s.obj.badSlots.filter (fun x => !slots.contains x) } }
def State.tileAt (s : State) (slot : Nat) : List Byte := (Assoc.find s.obj.pool slot).getD []

/-- The check of R372 on the tile in a slot, against the tag it should carry. -/
def State.tileGood (s : State) (slot : Nat) (tag : Option (List Byte)) : Bool :=
  let t := s.tileAt slot
  let a := s.poolBase + 4160 * slot
  !s.obj.badSlots.contains slot && !s.rangePoisoned a 4160 && tileCrcOk t
    && (match tag with | some g => tileTag t = g | none => true)

/-- A failed tile check: the slot's bad flag, BMC_TILE, source 128 with the slot index (R372). -/
def State.tileFails (s : State) (slot : Nat) : State :=
  let s1 := { s with obj := { s.obj with badSlots := insertNat slot s.obj.badSlots } }
  let s2 := ((s1.bumpF Fld.BMC_TILE_FAILS 1).setF Fld.BMC_TILE_SLOT slot).stat 0x8200 5 1
  s2.raise 128 0 slot

-- ---------------------------------------------------------------------------------------------------------------
-- Statuses (R497)

namespace St
def success : Nat := 0x0000
def invalidOpcode : Nat := 0x0101
def invalidField : Nat := 0x0102
def invalidBufkind : Nat := 0x0103
def bufferAlign : Nat := 0x0104
def bufferLength : Nat := 0x0105
def bufferAddress : Nat := 0x0106
def hdmUnavailable : Nat := 0x0107
def transferError : Nat := 0x0108
def notReady : Nat := 0x0109
def aborted : Nat := 0x0110
def abortedByReset : Nat := 0x0111
def abortTooLate : Nat := 0x0112
def abortNotFound : Nat := 0x0113
def objNotFound : Nat := 0x0201
def objSealed : Nat := 0x0202
def objNotSealed : Nat := 0x0203
def objRetained : Nat := 0x0204
def objRange : Nat := 0x0205
def objSize : Nat := 0x0206
def objChanged : Nat := 0x0207
def objLimit : Nat := 0x0208
def retentionNotExtended : Nat := 0x0209
def cookieStale : Nat := 0x020A
def noSpace : Nat := 0x020B
def mediaUnrecovered : Nat := 0x0301
def mediaUnavailable : Nat := 0x0302
def mediaWriteFailed : Nat := 0x0303
def intTile : Nat := 0x0401
def intTag : Nat := 0x0402
def intHash : Nat := 0x0403
def intPoison : Nat := 0x0404
def intIndex : Nat := 0x0405
def qInvalidId : Nat := 0x0501
def qExists : Nat := 0x0502
def qCringInvalid : Nat := 0x0503
def qCringInUse : Nat := 0x0504
def qArmRefused : Nat := 0x0505
def qBusy : Nat := 0x0506
def fwNoImage : Nat := 0x0507
def fwSignature : Nat := 0x0508
def fwOffset : Nat := 0x0509
def dictNoEntry : Nat := 0x050A
def dictAccess : Nat := 0x050B
def dictRange : Nat := 0x050C
def dictType : Nat := 0x050D
def migLinkDown : Nat := 0x0601
def migNoPairing : Nat := 0x0602
def migAuth : Nat := 0x0603
def migPeerRefused : Nat := 0x0604
def migPeerVerify : Nat := 0x0605
def migTimeout : Nat := 0x0606
end St

-- ---------------------------------------------------------------------------------------------------------------
-- Buffers (R419, R465 to R468)

/-- Fields of a submission entry. -/
def entOpcode (e : List Byte) : Nat := numAt e 0 1
def entTag (e : List Byte) : Nat := bitsOf (numAt e 1 1) 4 0
def entBufkind (e : List Byte) : Nat := bitsOf (numAt e 2 1) 1 0
def entFlags (e : List Byte) : Nat := numAt e 4 4
def entKey (e : List Byte) : Nat := beNat (slice e 8 16)
def entVersion (e : List Byte) : Nat := numAt e 24 8
def entBufAddr (e : List Byte) : Nat := numAt e 48 8
def entBufLen (e : List Byte) : Nat := numAt e 56 4
def entNsge (e : List Byte) : Nat := numAt e 60 2

/-- The base a BAR holds: BAR `b` of 0, 2, 4 (R394). -/
def State.barBase (s : State) (b : Nat) : Nat :=
  65536 * (leNat (memBytes s.cxc.cfg (0x10 + 4 * b) 8) / 65536)

/-- Whether a host address range lies in the part's own HDM window or BAR space (R419). -/
def State.ownSpace (s : State) (a n : Nat) : Bool :=
  let meets (b sz : Nat) : Bool := sz != 0 && a < b + sz && b < a + n
  let base := 2 ^ 28 * s.getF Fld.CXC_HDMBASE_BASE
  let size := if s.isSet Fld.CXC_HDM_COMMITTED then 256 * mib * s.getF Fld.CXC_HDM_SIZE else 0
  let bar (b sz : Nat) : Bool := s.cxc.memEn && meets (s.barBase b) sz
  meets base size || bar 0 (256 * mib) || bar 2 (8 * mib) || bar 4 65536

/-- The pieces of a buffer: space (0 host, 1 HDM window), address, length. -/
abbrev Pieces := List (Nat × Nat × Nat)

/-- Entries of a scatter-gather list (R466). -/
def sglPieces (sgl : List Byte) (n : Nat) : Pieces :=
  (List.range n).map (fun i => (numAt sgl (16 * i + 12) 1, numAt sgl (16 * i) 8, numAt sgl (16 * i + 8) 4))

/-- An entry of the list breaks R466: a kind other than 0 or 1, or non-zero reserved bytes. -/
def sglBad (sgl : List Byte) (n : Nat) : Bool :=
  (List.range n).any (fun i => numAt sgl (16 * i + 12) 1 > 1 || numAt sgl (16 * i + 13) 3 != 0)

/-- Every length of a list but the last is a non-zero multiple of 64 B, the last is not zero (R467). -/
def sglLengths (l : Pieces) : Bool :=
  match l with
  | [] => true
  | p :: t =>
    match t with
    | [] => p.2.2 != 0
    | _ :: _ => p.2.2 != 0 && p.2.2 % 64 = 0 && sglLengths t

/-- The pieces a descriptor names, before the list checks (R465). -/
def bufferPieces (e : List Byte) (h : HostData) : Pieces :=
  match entBufkind e with
  | 1 => [(0, entBufAddr e, entBufLen e)]
  | 2 => [(1, entBufAddr e, entBufLen e)]
  | 3 => sglPieces h.sgl (entNsge e)
  | _ => []

/-- Fields of the descriptor that its BUFKIND leaves reserved are zero, and NSGE is in range (R464, R465). -/
def descriptorOk (e : List Byte) : Bool :=
  match entBufkind e with
  | 0 => (slice e 48 16).all (· == 0)
  | 3 => numAt e 62 2 = 0 && 1 ≤ entNsge e && entNsge e ≤ 256
  | _ => numAt e 60 4 = 0

/-- Steps 3 to 5 of R471 for a buffer whose LEN must satisfy `lenOk`: the status that applies, 0 when none does. `need` is
false for a command that names no buffer. -/
def State.checkBuffer (s : State) (e : List Byte) (h : HostData) (kinds : List Nat) (lenOk : Nat → Bool) : Nat :=
  let bk := entBufkind e
  if !kinds.contains bk then St.invalidBufkind
  else if bk = 0 then 0
  else if bk = 2 && !s.hdmUsable then St.hdmUnavailable
  else
    let list := bk = 3
    let nl := 16 * entNsge e
    if list && entBufAddr e % 64 != 0 then St.bufferAlign
    else if list && s.ownSpace (entBufAddr e) nl then St.bufferAddress
    else if list && (!h.sglOk || !s.cxc.bme) then St.transferError
    else if list && sglBad h.sgl (entNsge e) then St.invalidField
    else
      let ps := bufferPieces e h
      let sum := ps.foldl (fun a p => a + p.2.2) 0
      if ps.any (fun p => p.1 = 1) && !s.hdmUsable then St.hdmUnavailable
      else if ps.any (fun p => p.2.1 % 64 != 0) then St.bufferAlign
      else if (list && (!sglLengths ps || sum != entBufLen e)) || !lenOk (entBufLen e) then St.bufferLength
      else if ps.any (fun p => if p.1 = 1 then p.2.1 + p.2.2 > s.hdmSize else s.ownSpace p.2.1 p.2.2) then St.bufferAddress
      else 0

/-- Read a buffer: its bytes, taking host bytes from what the transfer found (R468). -/
def State.readBuffer (s : State) (ps : Pieces) (host : List Byte) : List Byte :=
  match ps with
  | [] => []
  | p :: t =>
    if p.1 = 1 then s.hdmRead p.2.1 p.2.2 ++ s.readBuffer t host
    else slice host 0 p.2.2 ++ s.readBuffer t (host.drop p.2.2)

/-- The window's part of a buffer is made coherent and read (R374). -/
def State.obtainPieces (s : State) (ps : Pieces) (held : List (Nat × List Byte)) : State :=
  ps.foldl (fun t p => if p.1 = 1 then t.obtain held p.2.1 p.2.2 else t) s

/-- A line of the window that the buffer reads is poisoned (R361). -/
def State.bufferPoisoned (s : State) (ps : Pieces) : Bool :=
  ps.any (fun p => p.1 = 1 && s.rangePoisoned (hdmBase + p.2.1) p.2.2)

/-- A transfer with host memory can take place now (R434, R474). -/
def State.transferOk (s : State) (ps : Pieces) (h : HostData) : Bool :=
  (ps.isEmpty || h.dataOk) && (ps.all (fun p => p.1 = 1) || s.cxc.bme)

end Sys2Proof.Machine
end

