-- ==== Sys2Proof/Machine/QueueOps.lean ====
section
/-!
DEFINITION. Queue contexts, completion rings, command slots, posting of completions, the queue error state
(R417 to R441, R451, R452).
Choices: assumption log 40, 41.
-/
namespace Sys2Proof.Machine
open Sys2Proof

-- ---------------------------------------------------------------------------------------------------------------
-- Contexts, rings, slots

def State.queue (s : State) (q : Nat) : Option Queue := s.qmg.queues.find? (fun x => x.qid == q)
def State.cring (s : State) (r : Nat) : Option CRing := s.qmg.crings.find? (fun x => x.id == r)
def State.slot (s : State) (q t : Nat) : Option Slot := s.qmg.slots.find? (fun x => x.qid == q && x.tag == t)

/-- Replace or add a queue, rising by number. -/
def putQueue (l : List Queue) (q : Queue) : List Queue :=
  match l with
  | [] => [q]
  | x :: t => if q.qid < x.qid then q :: x :: t else if q.qid = x.qid then q :: t else x :: putQueue t q

/-- Replace or add a ring, rising by number. -/
def putRing (l : List CRing) (r : CRing) : List CRing :=
  match l with
  | [] => [r]
  | x :: t => if r.id < x.id then r :: x :: t else if r.id = x.id then r :: t else x :: putRing t r

def State.setQueue (s : State) (q : Queue) : State := { s with qmg := { s.qmg with queues := putQueue s.qmg.queues q } }
def State.setRing (s : State) (r : CRing) : State := { s with qmg := { s.qmg with crings := putRing s.qmg.crings r } }
def State.setSlot (s : State) (x : Slot) : State :=
  { s with qmg := { s.qmg with slots := s.qmg.slots.map (fun y => if y.qid == x.qid && y.tag == x.tag then x else y) } }

/-- The slots changed: QMG_STATUS.SLOTS follows. -/
def State.setSlots (s : State) (l : List Slot) : State :=
  ({ s with qmg := { s.qmg with slots := l } }).setF Fld.QMG_STATUS_SLOTS l.length

def State.dropSlot (s : State) (q t : Nat) : State := s.setSlots (s.qmg.slots.filter (fun x => !(x.qid == q && x.tag == t)))

/-- Whether every queue is fetched: Cobalt or Ochre abandoned, both streams Secure where required, D0 (R66, R72, R405,
R413). -/
def State.allQueues (s : State) : Bool :=
  (s.stage = 3 || s.boot.abandoned) && !s.cxc.d3
    && !(s.dictNum 0x5800 3 = 1 && s.isSet Fld.CXC_LINK_CXL
      && !(s.isSet Fld.CXC_IDE_CM_SECURE && s.isSet Fld.CXC_IDE_IO_SECURE))

/-- Whether queue `q` may be fetched now (R66, R405, R413, R434, R440, R454). -/
def State.mayFetch (s : State) (q : Queue) : Bool :=
  s.boot.slateDone && !s.cxc.d3 && s.canWriteHost && q.state = 1 && !s.isSet Fld.QMG_STATUS_ACTSTOP
    && (q.qid = 0 || s.allQueues)

/-- A slot is free for queue `q`: queue 0 has ADMIN_SLOTS of its own, then shared ones (R421). -/
def State.slotFree (s : State) (q : Nat) : Bool :=
  let admin := s.getF Fld.QMG_SLOTS_ADMIN
  let used0 := (s.qmg.slots.filter (fun x => x.qid == 0)).length
  let usedIo := s.qmg.slots.length - used0
  let shared := 131072 - admin
  let sharedUsed := usedIo + (used0 - admin)
  if q = 0 then used0 < admin || sharedUsed < shared else sharedUsed < shared

/-- A context is on chip, most recently used; where it was not, it takes the place of the least recently used one, which is written back in
both copies: `fetch` tokens of class 10 for itself, two for the other (R420). -/
def State.holdContext (s : State) (q fetch : Nat) : State :=
  if s.qmg.cached.contains q then
    { s with qmg := { s.qmg with cached := q :: s.qmg.cached.filter (· != q) } }
  else
    let l := q :: s.qmg.cached.take 16383
    let tokens := if s.qmg.cached.length ≥ 16384 then fetch + 2 else fetch
    (({ s with qmg := { s.qmg with cached := l } }).charge 10 tokens).setF Fld.QMG_CTXCACHE_CACHED l.length

/-- A context is used: fetched on a miss, for one token (R420). -/
def State.touchContext (s : State) (q : Nat) : State :=
  if s.qmg.cached.contains q then s.holdContext q 0 else (s.holdContext q 1).bumpF Fld.QMG_MISSCNT_MISSES 1

/-- The context of a queue that is gone leaves the chip (R420). -/
def State.dropContext (s : State) (q : Nat) : State :=
  let l := s.qmg.cached.filter (· != q)
  ({ s with qmg := { s.qmg with cached := l } }).setF Fld.QMG_CTXCACHE_CACHED l.length

/-- A queue enters the error state (R440). -/
def State.queueError (s : State) (q : Queue) (code pos : Nat) : State :=
  let s1 := s.setQueue { q with err := code, errPos := pos % 64, state := if q.state = 3 then 3 else 2 }
  let s2 := (((s1.setF Fld.QMG_QERR_VALID 1).setF Fld.QMG_QERR_POS pos).setF Fld.QMG_QERR_CODE code).setF
    Fld.QMG_QERR_QID q.qid
  (s2.stat 0x8310 4 1).raise 177 0 q.qid

/-- Take a TAIL that a doorbell or a mailbox gives (R427, R429): outside the 32 entries it is an error, and one already
seen has no effect. -/
def State.takeTail (s : State) (qid tail : Nat) : State :=
  match s.queue qid with
  | none => s
  | some q =>
    let s := s.touchContext qid
    if (tail + 64 - q.fetched) % 64 > 32 then
      if q.state = 1 then s.queueError q 2 tail
      else s
    else s.setQueue { q with tail := tail % 64 }

/-- The TAIL that a read of a mailbox line gives: one read before has been seen already and has no effect (R429). A failed read
is not used, and source 374 tells of it (R441). -/
def State.mailboxTail (s : State) (qid : Nat) (tail : Option Nat) : State :=
  match s.queue qid, tail with
  | none, _ => s
  | some _, none => s.raise 374 0 0
  | some q, some t =>
    if q.mailTail = some (t % 64) then s
    else (s.setQueue { q with mailTail := some (t % 64) }).takeTail qid (t % 64)

-- ---------------------------------------------------------------------------------------------------------------
-- Completion (R424, R425, R435 to R437)

/-- Free entries of a ring: DEPTH − ((posted − HEAD) mod 65,536) (R436). -/
def CRing.space (r : CRing) : Nat := r.depth - (r.posted % 65536 + 65536 - r.head) % 65536

/-- PHASE of the n-th entry posted: 1 on the first pass, inverted on each later one (R424). -/
def phaseOf (posted depth : Nat) : Nat := (posted / depth + 1) % 2

/-- The 16 bytes of a completion entry (R424). -/
def completionBytes (w : Waiting) (phase : Nat) : List Byte :=
  leBytes 8 w.result ++ leBytes 4 (w.qid % 2 ^ 20 + 2 ^ 20 * (w.tag % 32) + 2 ^ 31 * phase) ++ leBytes 2 w.status ++ zeros 2

/-- Write one completion entry into a ring that has room: its completion point (R435). The slot is freed, the tag is posted,
and the interrupt group's threshold is looked at (R437). -/
def State.postNow (s : State) (r : CRing) (w : Waiting) : State :=
  let s1 := (if (s.queue w.qid).isSome then s.touchContext w.qid else s).ringWrite 3 (r.base + 16 * (r.posted % r.depth))
    (completionBytes w (phaseOf r.posted r.depth))
  let r1 := { r with posted := r.posted + 1, uncounted := r.uncounted + 1 }
  let s2 := (s1.setRing r1).dropSlot w.qid w.tag
  let s3 := match s2.queue w.qid with
    | some q =>
      let posted := q.posted.filter (fun (p : Nat × Nat) => p.1 != w.tag) ++ [(w.tag, r.posted + 1)]
      s2.setQueue { q with posted := posted, completed := insertNat w.tag q.completed }
    | none => s2
  let s4 := s3.stat 0x8310 2 1
  let s5 := if w.status = St.aborted then s4.stat 0x8310 6 1
            else if w.status = St.abortTooLate then s4.stat 0x8310 7 1 else s4
  if r1.cthresh != 0 && r1.uncounted ≥ r1.cthresh then s5.groupEvent r1.group else s5

/-- Post a completion: into free space, in order, or it waits with its slot held (R435, R436, R413). -/
def State.post (s : State) (w : Waiting) : State :=
  match s.queue w.qid with
  | none => s.dropSlot w.qid w.tag
  | some q =>
    match s.cring q.cring with
    | none => s.dropSlot w.qid w.tag
    | some r =>
      if r.waiting.isEmpty && r.space > 0 && s.canWriteHost then s.postNow r w
      else
        let s1 := s.setRing { r with waiting := r.waiting ++ [w] }
        match s1.slot w.qid w.tag with
        | some x => s1.setSlot { x with stage := 4 }
        | none => s1

/-- An ABORT that waits for the end of the command in slot (q, t) finds, when that ends otherwise than ABORTED, that it was too
late (R449). -/
def State.abortMissed (s : State) (q t status : Nat) : State :=
  match s.slot q t with
  | none => s
  | some y =>
    let miss (x : Slot) : Bool := status != St.aborted && entOpcode x.entry == 0x4A && x.failed == 1 && leNat x.data == y.order
    { s with qmg := { s.qmg with slots := s.qmg.slots.map (fun x => if miss x then { x with failed := 2 } else x) } }

/-- Complete the command in a slot with a status and a result. -/
def State.complete (s : State) (q t status result : Nat) : State := (s.abortMissed q t status).post ⟨q, t, status, result⟩

/-- Post what waits on a ring while there is room (R436). -/
def State.pump (fuel : Nat) (s : State) (id : Nat) : State :=
  match fuel with
  | 0 => s
  | f + 1 =>
    match s.cring id with
    | none => s
    | some r =>
      match r.waiting with
      | [] => s.setRing { r with full := false }
      | w :: t =>
        if r.space > 0 && s.canWriteHost then
          let r1 := { r with waiting := t }
          ((s.setRing r1).postNow r1 w).pump f id
        else s

/-- Post what waits on every ring. -/
def State.pumpAll (s : State) : State := s.qmg.crings.foldl (fun t r => t.pump (r.waiting.length + 1) r.id) s

/-- A completion of queue `q` has not been posted yet. -/
def State.completionsWait (s : State) (q : Nat) : Bool := s.qmg.crings.any (fun r => r.waiting.any (fun w => w.qid == q))

/-- Release the tags whose completions HEAD has passed (R438). -/
def State.releaseTags (s : State) (r : CRing) : State :=
  let consumed (n : Nat) : Bool := (r.head + 65536 - n % 65536) % 65536 < 32768
  { s with qmg := { s.qmg with queues := s.qmg.queues.map (fun q =>
    if q.cring = r.id then { q with posted := q.posted.filter (fun (p : Nat × Nat) => !consumed p.2) } else q) } }

/-- The head word of a ring was read: HEAD is taken, tags are released, waiting completions are posted (R426, R436). -/
def State.takeHead (s : State) (id head : Nat) : State :=
  match s.cring id with
  | none => s
  | some r =>
    let r1 := { r with head := head % 65536 }
    ((s.setRing r1).releaseTags r1).pump (r1.waiting.length + 1) id

/-- Whether a tag of a queue is outstanding as the part knows it (R438). -/
def State.tagOutstanding (s : State) (q : Queue) (t : Nat) : Bool :=
  (s.slot q.qid t).isSome || q.posted.any (fun p => p.1 == t)
    || s.qmg.crings.any (fun r => r.waiting.any (fun w => w.qid == q.qid && w.tag == t))

-- ---------------------------------------------------------------------------------------------------------------
-- The migration that a command slot drives (R543, R544, R560)

/-- The migration transport becomes `m`; MIG_STATUS follows. -/
def State.setMig (s : State) (m : Mig) : State :=
  let open_ := match m.tx with | some t => t.offers.length | none => 0
  let phase := match m.tx with | some t => t.phase | none => 0
  ((({ s with mig := m }).setF Fld.MIG_STATUS_INFLIGHT open_).setF Fld.MIG_STATUS_RXSESS m.rx.length).setF
    Fld.MIG_STATUS_TX phase

/-- A migration datagram with its header, to an address at the UDP port of 0x6000:05; nothing leaves while the link is down (R541,
R543). -/
def State.sendTo (s : State) (addr : List Byte) (type session pseq : Nat) (body : List Byte) : State :=
  if s.isSet Fld.ETH_STATUS_UP then
    s.emit (.datagram addr (s.dictNum 0x6000 5) type ([0x5A, 0x4D, 0x47, 0x31] ++ leBytes 1 type ++ [1] ++ leBytes 2 body.length
      ++ leBytes 4 session ++ leBytes 4 pseq ++ body))
  else s

/-- A migration datagram to the peer of a pairing slot (R542). -/
def State.sendMsg (s : State) (slot type session pseq : Nat) (body : List Byte) : State :=
  s.sendTo (s.dictBytes (0x6100 + slot) 2) type session pseq body

/-- CLOSE with a reason (R544). -/
def State.sendClose (s : State) (slot session reason : Nat) : State := s.sendMsg slot 9 session 0 (leBytes 1 reason)

/-- Slots of the tile pool that no segment of the index and no write on its way uses. -/
def State.orphans (s : State) (slots : List Nat) : List Nat :=
  let used := s.obj.versions.flatMap (fun v => v.segs.flatMap (·.slots)) ++ s.obj.jobs.flatMap (·.slots)
  slots.filter (fun x => !used.contains x)

/-- The sending session ends with CLOSE `reason`, none where the peer closed it; tiles it alone still held are freed. -/
def State.endTx (s : State) (reason : Option Nat) : State :=
  match s.mig.tx with
  | none => s
  | some t =>
    let s1 := match reason with
      | some r => if t.session = 0 then s else s.sendClose t.slot t.session r
      | none => s
    let held := s1.heldSlots
    let s2 := s1.setMig { s1.mig with tx := none }
    s2.freeTiles (s2.orphans held)

/-- A migration whose command has left its slot ends. -/
def State.dropStaleMig (s : State) : State :=
  match s.mig.tx with
  | none => s
  | some t => if (s.slot t.qid t.tag).isSome then s else s.endTx (some 0)

-- ---------------------------------------------------------------------------------------------------------------
-- Resets of queues (R449, R451, R452)

/-- The completion that waits for room in a ring, of the command with tag `t` of queue `q` (R436). -/
def State.waitingOf (s : State) (q t : Nat) : Option Waiting :=
  (s.qmg.crings.flatMap (·.waiting)).find? (fun w => w.qid == q && w.tag == t)

/-- The command in a slot has passed its commit point (R448, R560): one that runs past it; and of those whose completion waits for room, the
ones that commit by an update of the index, once they have, every admin command and ABORT, and what has been cancelled already. -/
def State.committed (s : State) (x : Slot) : Bool :=
  x.stage = 2 || (x.stage = 4 && (match s.waitingOf x.qid x.tag with
    | none => true
    | some w =>
      let op := entOpcode x.entry
      w.status = St.aborted || w.status = St.abortedByReset || x.qid = 0 || op < 0x40 || op ≥ 0x4A
        || ([0x40, 0x41, 0x45, 0x46].contains op && w.status = St.success)))

/-- A command before its commit point is cancelled: it completes with `status`, in its place where its completion waits already. A MIGRATE
keeps its RESULT, which is NEXT (R449, R451, R560). -/
def State.cancelSlot (s : State) (x : Slot) (status : Nat) : State :=
  if x.stage = 4 then
    let mine (w : Waiting) : Waiting := if w.qid = x.qid && w.tag = x.tag then
        { w with status := status, result := if entOpcode x.entry = 0x49 then w.result else 0 } else w
    { s with qmg := { s.qmg with crings := s.qmg.crings.map (fun r => { r with waiting := r.waiting.map mine }) } }
  else s.complete x.qid x.tag status 0

/-- Tile slots that a waiting PUT_SEGMENT would have used hold nothing yet, so a cancelled command leaves no trace (R450).
The commands of a queue that have not passed their commit point complete with `status`. -/
def State.cancelQueue (s : State) (q status : Nat) (keep : Nat → Bool) : State :=
  State.dropStaleMig ((s.qmg.slots.filter (fun x => x.qid == q && !s.committed x && !keep x.tag)).foldl
    (fun t x => t.cancelSlot x status) s)

/-- Queues, rings, arming and the event ring are torn down without completions, and QMG_ACTL.EN reads 0 (R451). -/
def State.tearDown (s : State) : State :=
  let s1 := { s with qmg := Qmg.reset, evt := { s.evt with ringDepth := 0, uncounted := 0 },
                     obj := { s.obj with cookies := s.obj.cookies } }
  let s2 := (((s1.dropStaleMig).setF Fld.QMG_ACTL_EN 0).setF Fld.QMG_ACTL_RDY 0).setF Fld.QMG_STATUS_SLOTS 0
  (((s2.setF Fld.QMG_CTXCACHE_ARMED 0).setF Fld.QMG_CTXCACHE_CACHED 0).setF Fld.HCC_OCC_UNPLACED 0).setF Fld.QMG_STATUS_ACTSTOP 0

/-- Unpin and drop a mailbox line from HCC (R431). -/
def State.dropMailbox (s : State) (addr : Nat) : State :=
  ({ s with hcc := s.hcc.drop (addr / 64) }).hccCount

/-- Pinned lines of a set. -/
def Hcc.pinnedIn (h : Hcc) (set : Nat) : Nat := ((h.inSet set).filter (·.pinned)).length

/-- Place the mailbox of queue `q` in HCC, or leave it unplaced when its set holds 12 pinned lines (R503). -/
def State.placeMailbox (s : State) (q : Queue) (addr : Nat) : State :=
  if !s.hccOn then s.setQueue { q with mailbox := some addr, unplaced := false }
  else if s.hcc.pinnedIn (hccSet (addr / 64)) ≥ 12 then
    let n := (s.qmg.queues.filter (fun x => x.unplaced && x.qid != q.qid)).length + 1
    let s1 := (s.setQueue { q with mailbox := some addr, unplaced := true }).setF Fld.HCC_OCC_UNPLACED (min n 127)
    let s2 := if n > s1.dictNum 0x8330 6 then s1.setDictNum 0x8330 6 4 n else s1
    s2.raise 163 0 0
  else (s.setQueue { q with mailbox := some addr, unplaced := false }).hccRead 0 addr true

/-- A pinned way of a set has freed: the unplaced mailboxes of that set are placed, as long as there is room (R503). -/
def State.placeWaiting (s : State) (set : Nat) : State :=
  let s1 := (s.qmg.queues.filter (fun q => q.unplaced && (match q.mailbox with
    | some a => hccSet (a / 64) = set
    | none => false))).foldl (fun t q =>
      match q.mailbox with
      | some a => if t.hcc.pinnedIn set < 12 then t.placeMailbox { q with unplaced := false } a else t
      | none => t) s
  s1.setF Fld.HCC_OCC_UNPLACED (min ((s1.qmg.queues.filter (·.unplaced)).length) 127)

/-- Armed queues (R430). -/
def State.armedCount (s : State) : Nat := (s.qmg.queues.filter (fun q => q.mailbox.isSome)).length

/-- Drop the mailbox of a queue and give its way to a waiting one. -/
def State.disarm (s : State) (q : Queue) : State :=
  match q.mailbox with
  | none => s
  | some a =>
    let s1 := ((s.dropMailbox a).setQueue { q with mailbox := none, unplaced := false, mailTail := none }).placeWaiting (hccSet (a / 64))
    s1.setF Fld.QMG_CTXCACHE_ARMED s1.armedCount

-- ---------------------------------------------------------------------------------------------------------------
-- Queue 0 (R422)

/-- Base of queue 0's ring, of ring 0 and address of its head word, as the registers give them. -/
def State.asqBase (s : State) : Nat := 2 ^ 32 * s.getF Fld.QMG_ASQ_HI_BASE + 2048 * s.getF Fld.QMG_ASQ_LO_BASE
def State.acrBase (s : State) : Nat := 2 ^ 32 * s.getF Fld.QMG_ACR_HI_BASE + 64 * s.getF Fld.QMG_ACR_LO_BASE
def State.acrHead (s : State) : Nat := 2 ^ 32 * s.getF Fld.QMG_ACRHEAD_HI_ADDR + 4 * s.getF Fld.QMG_ACRHEAD_LO_ADDR

/-- A ring, its depth as a power of two and its head word pass R418, R419, R426. -/
def State.ringFits (s : State) (base depth head width : Nat) : Bool := !s.ownSpace base (width * depth) && !s.ownSpace head 4

/-- The checks of R422. -/
def State.adminFits (s : State) : Bool :=
  let log := s.getF Fld.QMG_ACRCFG_DEPTHLOG
  4 ≤ log && log ≤ 12 && !s.ownSpace s.asqBase 2048 && s.ringFits s.acrBase (2 ^ log) s.acrHead 16

def newQueue (qid base cring burst : Nat) : Queue :=
  ⟨qid, base, cring, burst, 0, 0, 0, 0, 1, none, false, none, [], []⟩
def newRing (id base depth head group cthresh ctime : Nat) : CRing :=
  ⟨id, base, depth, head, 0, 0, group, cthresh, ctime, 0, [], false⟩

/-- EN reads 1: queue 0 and ring 0 are created and RDY set, or EN is cleared and SETUPERR set (R422). -/
def State.adminCreate (s : State) : State :=
  if s.adminFits then
    let r := newRing 0 s.acrBase (2 ^ s.getF Fld.QMG_ACRCFG_DEPTHLOG) s.acrHead (s.getF Fld.QMG_ACRCFG_GROUP)
      (s.getF Fld.QMG_ACRCFG_CTHRESH) (s.getF Fld.QMG_ACRCFG_CTIME)
    (((s.setRing r).setQueue (newQueue 0 s.asqBase 0 1)).holdContext 0 0).setF Fld.QMG_ACTL_RDY 1
  else (s.setF Fld.QMG_ACTL_EN 0).setF Fld.QMG_ACTL_SETUPERR 1

/-- The reset of queue 0 that a write of 0 to EN began ends: queue 0 and ring 0 are gone; a write of 1 to EN since then takes
effect (R422). -/
def State.settleAdmin (s : State) : State :=
  match s.queue 0 with
  | none => s
  | some q =>
    if q.state = 3 && !s.completionsWait 0 && !s.qmg.slots.any (fun y => y.qid == 0) then
      let t := { s with qmg := { s.qmg with queues := s.qmg.queues.filter (fun y => y.qid != 0),
                                            crings := s.qmg.crings.filter (fun r => r.id != 0) } }
      let t := t.dropContext 0
      if t.isSet Fld.QMG_ACTL_EN then t.adminCreate else t
    else s

/-- A RESET_QUEUE or DELETE_QUEUE that waits completes once the queue has nothing left to complete or post (R452); then the reset
of queue 0, if one runs. -/
def State.settleResets (s : State) : State :=
  State.settleAdmin <| s.qmg.slots.foldl (fun t x =>
    let op := entOpcode x.entry
    let target := bitsOf (numAt x.entry 4 4) 19 0
    if x.stage = 3 && (op = 3 || op = 4) && !t.completionsWait target && !t.qmg.slots.any (fun y => y.qid == target) then
      match t.queue target with
      | none => t.complete x.qid x.tag St.success 0
      | some q =>
        let t1 := if op = 3 then
            let d := t.disarm q
            ({ d with qmg := { d.qmg with queues := d.qmg.queues.filter (fun y => y.qid != target) } }).dropContext target
          else t.setQueue { q with state := 1, err := 0, errPos := 0, fetched := q.tail }
        t1.complete x.qid x.tag St.success 0
    else t) s

end Sys2Proof.Machine
end

