-- ==== Sys2Proof/Machine/WriteOps.lean ====
section
/-!
DEFINITION. What every write to the media uses: the preamp's registers (R250 to R258), the channel tables and rates of a zone (R164,
R170, R200, R259), precompensation and the write gate around the bits of a sector (R260, R261).
Choices: assumption log 15, 63, 71.
-/
namespace Sys2Proof.Machine
open Sys2Proof

-- ---------------------------------------------------------------------------------------------------------------
-- The preamp (R250 to R258)

/-- Write preamp register `addr` as `State.preampWrite` does; FCL takes the messages. -/
def State.preampSet (s : State) (k addr data : Nat) (back : List Nat) : State := (s.preampWrite k addr data back).settle

-- ---------------------------------------------------------------------------------------------------------------
-- Zones and channel tables

/-- FRAC of a zone (R259). -/
def fracOf (z : Zone) : Nat := divRound (2 ^ 24 * z.rate) 9600000
/-- STEP of a zone (R169). -/
def stepOf (z : Zone) : Nat := divRound (2 ^ 20 * 4800000) z.rate

/-- What training finds, from free value `n` on: 282 settings and the SNR estimate of the zone (R164, R168, R200, R201, R204, R260). -/
def trainedTable (n : Nat) : ChanTable :=
  let v (i m : Nat) : Nat := (Config.freeValue (n + i) &&& BitVec.ofNat 32 m).toNat
  { front := [v 0 0x3FFFF, v 1 0x3FFFF, v 2 0x3FFFF, v 3 0xFFF0FFF], precomp := v 4 0x1F1F1F,
    sets := (List.range 5).map (fun j => (List.range 52).map (fun i => v (5 + 52 * j + i) (if i < 4 then 0xFFFF else 0xFFF))),
    preds := (List.range 16).map (fun i => v (265 + i) 0xFFFF), snr := v 281 0xFFFF }

/-- The key of a head and zone. -/
def headZone (head zone : Nat) : Nat := 64 * head + zone

/-- Training of one head and zone: its channel tables come into force. It takes whole revolutions, which count as background once media
time counts (R101, R102). -/
def State.train (s : State) (key : Nat) : State :=
  let s := s.bgCharge (actuatorOf (key / 64)) 512
  { s with media := { s.media with tables := Assoc.put s.media.tables key (trainedTable s.free) }, free := s.free + 282 }

/-- The channel tables in force for a head and zone. -/
def State.chanTable (s : State) (key : Nat) : Option ChanTable := Assoc.find s.media.tables key

/-- Equaliser set n of the loaded tables is in use (R200). -/
def State.useSet (s : State) (k n : Nat) : State :=
  let s1 := s.setF (Fld.CHN_DETCFG_EQSET k) n
  let c := s1.chn k
  match c.zoneIn.bind (fun z => s1.chanTable (headZone z.1 z.2)) with
  | some t => s1.setChn k { c with taps := t.sets.getD n [], preds := t.preds.map (signed 16), own := c.own.filter (fun o => o < 0x400) }
  | none => s1

/-- The channel tables of a head and zone are loaded: the front end settings and reader offsets, the precompensation delays and the
taps of the set in use (R164, R168, R200, R260). A head and zone without tables is trained first. -/
def State.loadTables (s : State) (k head zone : Nat) : State :=
  if (s.chn k).zoneIn = some (head, zone) then s
  else
    let s0 := if (s.chanTable (headZone head zone)).isSome then s else s.train (headZone head zone)
    match s0.chanTable (headZone head zone) with
    | none => s0
    | some t =>
      let s1 := s0.setChn k { s0.chn k with zoneIn := some (head, zone), front := t.front, own := [] }
      (s1.setPre k { s1.pre k with precomp := some t.precomp }).useSet k (s1.getF (Fld.CHN_DETCFG_EQSET k))

/-- Tn: the nominal wedge interval from the descriptor's RPM, in the unit of SRV_TW (R170, R275); 0 while no descriptor is known. -/
def State.nominalTw (s : State) : Nat :=
  match s.media.drive with
  | some d => divRound 144000000000 d.rpm
  | none => 0

/-- A rate scaled by Tn / Tw, with Tw of the last valid wedge (R170, R259, R297); unscaled until there is a descriptor. -/
def State.scaled (s : State) (k v : Nat) : Nat :=
  let tw := (s.srv k).tw
  if s.nominalTw = 0 || tw = 0 then v else divRound (v * s.nominalTw) tw

/-- STEP, SSTEP and the write synthesiser's ratio are scaled by the wedge interval in force (R87, R170, R259, R273). -/
def State.rescale (s : State) (k : Nat) : State :=
  (s.setSrv k { s.srv k with sstep := s.scaled k (s.getF (Fld.SRV_FMT_SSTEP k)) }).setChn k
    { s.chn k with step := s.scaled k (s.getF (Fld.CHN_TSTEP_STEP k)), ratio := s.scaled k (s.getF (Fld.PRE_WSYN_FRAC k)) }

/-- Firmware converts the servo thresholds of actuator k for a zone (R291). -/
def State.usePitch (s : State) (k : Nat) (z : Zone) : State :=
  let s2 := { s with media := { s.media with pitch := if k = 0 then [z.pitch, s.media.pitch.getD 1 256]
                                                      else [s.media.pitch.getD 0 256, z.pitch] } }
  [5, 6, 7, 9].foldl (fun t i => t.applyEntry (0x3600 + k) i) s2

/-- Firmware gives the channel the channel tables and the rate of the zone a sector lies in, the write synthesiser that rate, and servo
its thresholds for the zone (R259, R291). -/
def State.useZone (s : State) (k psa : Nat) : State :=
  match s.zoneAt psa with
  | some z =>
    let s0 := s.loadTables k (psaSurface psa) z.zone
    let s1 := ((s0.setF (Fld.PRE_WSYN_FRAC k) (fracOf z)).setF (Fld.CHN_TSTEP_STEP k) (stepOf z)).rescale k
    s1.usePitch k z
  | none => s

/-- The data track at a position on a surface, and the position of a data track (R139). -/
def trackAt (f : Surface) (pos : Int) : Option Nat :=
  f.zones.findSome? (fun z =>
    let d := pos - z.pos0
    if z.pitch != 0 && 0 ≤ d && d < z.tracks * z.pitch then some (z.first + d.toNat / z.pitch) else none)
def positionAt (f : Surface) (t : Nat) : Option Int :=
  (zoneOfTrack f.zones t).map (fun z => (z.pos0 + (t - z.first) * z.pitch : Nat))

/-- The rate of an Ivory track, 1.0 Gb/s at the nominal speed (R134), in kb/s. -/
def ivoryRate : Nat := 1000000

/-- Firmware gives the channel and the write synthesiser of actuator k the rate of an Ivory track (R134, R169, R259). -/
def State.useIvory (s : State) (k : Nat) : State :=
  ((s.setF (Fld.PRE_WSYN_FRAC k) (divRound (2 ^ 24 * ivoryRate) 9600000)).setF (Fld.CHN_TSTEP_STEP k)
    (divRound (2 ^ 20 * 4800000) ivoryRate)).rescale k

/-- The servo of actuator k stands settled on the centre of a data track; its target is there (R139). -/
def State.standOnTrack (s : State) (k h t : Nat) : State :=
  match (s.surfaceOf h).bind (fun f => positionAt f t) with
  | some p => (s.setF (Fld.SRV_TARGET_TARGET k) (unsigned 32 p)).setSrv k { s.srv k with p1 := p, p2 := p, ref := p, seek := none, ramp := none }
  | none => s

/-- Actuator k is brought to a sector that firmware writes by itself: the seek, the HEAD write where another head is selected, with its
tables and its settling, MODE 3, and the rate and tables of the zone. All of it is within the step that writes (R257 to R259, R277;
assumption log 15). -/
def State.standOn (s : State) (psa : Nat) : State :=
  let h := psaSurface psa
  let k := actuatorOf h
  let s1 := if (s.pre k).head = h % 12 then s else (s.preampSet k 2 (h % 12) []).packLin k
  let s2 := if (s1.pre k).mode = 3 then s1 else s1.preampSet k 1 3 []
  (s2.standOnTrack k h (psaTrack psa)).useZone k psa

-- ---------------------------------------------------------------------------------------------------------------
-- The bits of a sector and the write gate (R116 to R119, R259 to R261)

/-- PC1, PC2 and PCR for a head and zone: the registers while the tables of that zone are loaded, else its tables (R260). -/
def State.precompOf (s : State) (k head : Nat) (z : Option Zone) : Nat × Nat × Nat :=
  let here := (s.chn k).zoneIn == z.map (fun (x : Zone) => (head, x.zone))
  let reg := (s.pre k).precomp.getD (s.reg (Fld.PRE_PRECOMP_PC1 k).addr).toNat
  let v := if here then reg else ((z.bind (fun (x : Zone) => s.chanTable (headZone head x.zone))).map (·.precomp)).getD reg
  (bitsOf v 4 0, bitsOf v 12 8, bitsOf v 20 16)

/-- The runs of bits of a sector as servo fields split them, where the zone is known (R116 to R119). -/
def State.sectorRuns (s : State) (psa : Nat) (blk : List Byte) : List Piece :=
  let bits := sectorBits psa blk
  match s.zoneAt psa with
  | some z => trackPieces z (psaTrack psa) (psaSector psa) bits
  | none => [⟨0, 0, 36672, bits⟩]

/-- One run as it is written: at the rate of its zone scaled to the disk's speed, each transition delayed (R259, R260). -/
def State.runOut (s : State) (psa : Nat) (p : Piece) : Out :=
  let h := psaSurface psa
  let k := actuatorOf h
  let z := s.zoneAt psa
  let (pc1, pc2, pcr) := s.precompOf k h z
  .sector psa p (s.scaled k ((z.map fracOf).getD 0)) ((List.range p.len).map (precompDelay pc1 pc2 pcr p.bits))

/-- What a sector's write drives: the gate WG_LEAD before its first bit unless it runs on, low at each servo field without WG_LAG and high
again WG_LEAD before the resync field, low WG_LAG after the last pad bit unless the next sector follows (R261). -/
def State.sectorOuts (s : State) (psa : Nat) (runs : List Piece) (first last : Bool) : List Out :=
  let k := actuatorOf (psaSurface psa)
  let on := Out.wgate k true (s.getF (Fld.PRE_WGT_LEAD k))
  let body := (runs.map (s.runOut psa)).intersperse (.wgate k false 0)
  let gated := body.flatMap (fun o => match o with | .wgate .. => [o, on] | _ => [o])
  (if first then [on] else []) ++ gated ++ (if last then [Out.wgate k false (s.getF (Fld.PRE_WGT_LAG k))] else [])

/-- The first `n` bits of runs. -/
def cutRuns (l : List Piece) (n : Nat) : List Piece :=
  match l with
  | [] => []
  | p :: t => if n = 0 then [] else if n < p.len then [{ p with len := n, bits := p.bits % 2 ^ n }] else p :: cutRuns t (n - p.len)

/-- Sector `q` follows sector `p` on its track with no servo field between: the gate stays asserted over the gap (R261). -/
def State.joined (s : State) (p q : Nat) : Bool :=
  match s.zoneAt p with
  | some z => q == p + 1 && decide (psaTrack q = psaTrack p) && sameWedge z (psaSector p)
  | none => false

/-- The gap before a sector that runs on from the one before it is written with 1100 (R261). -/
def State.writeGap (s : State) (k psa : Nat) : State :=
  s.emit (.gap k (match s.zoneAt psa with | some z => z.gap | none => 0))

end Sys2Proof.Machine
end

