-- ==== Sys2Proof/Machine/Index.lean ====
section
/-!
DEFINITION. The object index and the places of its parts on the media: versions and segments, replay (R155), allocation
(R148, R149, R473), the journal sequences (R150, R704), stripes (R131, R132), records that wait (R154), and FLUSH (R445).
Choices: assumption log 13 to 17.
-/
namespace Sys2Proof.Machine
open Sys2Proof

-- ---------------------------------------------------------------------------------------------------------------
-- Versions and segments

/-- Order of versions: by key, then by version (R482). -/
def Version.before (a b : Version) : Bool := a.key < b.key || (a.key == b.key && a.ver < b.ver)

/-- Replace or add a version, rising. -/
def putVersion (l : List Version) (v : Version) : List Version :=
  match l with
  | [] => [v]
  | x :: t => if v.before x then v :: x :: t else if x.before v then x :: putVersion t v else v :: t

/-- Replace or add a segment, rising by number. -/
def putSeg (l : List Seg) (g : Seg) : List Seg :=
  match l with
  | [] => [g]
  | x :: t => if g.num < x.num then g :: x :: t else if g.num = x.num then g :: t else x :: putSeg t g

def State.version (s : State) (key ver : Nat) : Option Version :=
  s.obj.versions.find? (fun v => v.key == key && v.ver == ver)
def State.setVersion (s : State) (v : Version) : State :=
  { s with obj := { s.obj with versions := putVersion s.obj.versions v } }
def State.dropVersion (s : State) (key ver : Nat) : State :=
  { s with obj := { s.obj with versions := s.obj.versions.filter (fun v => !(v.key == key && v.ver == ver)) } }
def Version.new (key ver : Nat) : Version := ⟨key, ver, [], none, none, 0⟩
def Version.seg (v : Version) (n : Nat) : Option Seg := v.segs.find? (fun g => g.num == n)
/-- Meaningful bytes of a segment. -/
def Seg.bytes (g : Seg) : Nat := 4096 * (g.tiles - 1) + g.lastValid
/-- The end of the highest segment held. -/
def Version.end_ (v : Version) : Nat := v.segs.foldl (fun a g => max a (1048576 * g.num + g.bytes)) 0
/-- Tiles of segments not flushed. -/
def Version.unflushed (v : Version) : Nat := v.segs.foldl (fun a g => if g.durable then a else a + g.tiles) 0

/-- The version that VERSION names; all ones names the highest sealed version of the key (R464). -/
def State.lookup (s : State) (key ver : Nat) : Option Version :=
  if ver = 0xFFFFFFFFFFFFFFFF then
    (s.obj.versions.filter (fun v => v.key == key && v.sealed.isSome)).foldl (fun _ v => some v) none
  else s.version key ver

/-- The version that a GET_RANGE or VERIFY reads: that of its lookup where it has waited, with the places that reallocation has given its
segments since (R443, R489, R493). -/
def State.readVersion (s : State) (x : Slot) : Option Version :=
  match s.obj.lookups.find? (fun p => p.1 == x.order) with
  | none => s.lookup (entKey x.entry) (entVersion x.entry)
  | some p =>
    let now (g : Seg) : Seg :=
      match (s.version p.2.key p.2.ver).bind (fun v => v.segs.find? (fun y => y.seq == g.seq)) with
      | some y => { g with extents := y.extents, relocs := y.relocs }
      | none => g
    some { p.2 with segs := p.2.segs.map now }

/-- A GET_RANGE or VERIFY waits with the lookup that it has made (R443). -/
def State.holdLookup (s : State) (x : Slot) (v : Version) : State :=
  if s.obj.lookups.any (fun p => p.1 == x.order) then s
  else { s with obj := { s.obj with lookups := s.obj.lookups ++ [(x.order, v)] } }

/-- Lookups whose command has ended are forgotten, and tiles that they alone held are freed (R371). -/
def State.dropLookups (s : State) : State :=
  let runs (n : Nat) : Bool := s.qmg.slots.any (fun x => x.order == n && x.stage != 4)
  if s.obj.lookups.all (fun p => runs p.1) then s
  else
    let held := s.heldSlots
    let s1 := { s with obj := { s.obj with lookups := s.obj.lookups.filter (fun p => runs p.1) } }
    s1.freeTiles (s1.orphans held)

/-- A lock is unexpired (R487). -/
def State.lockUnexpired (s : State) (v : Version) : Bool :=
  match v.lock with
  | none => false
  | some (till, _, _) =>
    match s.obj.clock with
    | none => true
    | some (c, t) => till > c + (s.pwr.timeUs - t)

-- ---------------------------------------------------------------------------------------------------------------
-- Places on the media

/-- The position of a sector in its zone's data sector sequence (R148). -/
def seqIndex (z : Zone) (psa : Nat) : Nat :=
  (psaTrack psa - z.first) * dataPerTrack z + psaSector psa / 32 * 30 + psaSector psa % 32

/-- The sector that holds tile `t` of a segment: its relocation, else its place in the extents (R153). -/
def State.tilePsa (s : State) (g : Seg) (t : Nat) : Option Nat :=
  match (g.relocs.filter (fun r => r.tile == t)).getLast? with
  | some r => some r.new
  | none =>
    match g.extents.find? (fun e => e.first ≤ t && t < e.first + e.count) with
    | none => none
    | some e => (s.zoneAt e.psa).map (fun z => dataSector (psaSurface e.psa) z (seqIndex z e.psa + (t - e.first)))

/-- The sectors of a segment. -/
def State.segPsas (s : State) (g : Seg) : List Nat := (List.range g.tiles).filterMap (s.tilePsa g)

/-- Whether a track is a root track: of surfaces 0 and 12, where the descriptor says (R159). -/
def State.rootTrackAt (s : State) (head track : Nat) : Bool :=
  (head == 0 || head == 12) && (match s.media.drive with | some d => d.rootTrack == track | none => false)

/-- The sector lies in the spare tracks of its zone. -/
def State.inSpare (s : State) (psa : Nat) : Bool :=
  match s.zoneAt psa with
  | none => false
  | some z => psaTrack psa ≥ z.first + z.tracks - z.spare

def State.defective (s : State) (psa : Nat) : Bool := s.obj.defects.any (fun d => d.psa == psa)

/-- Stripes that take no new extents: a parity sector of theirs is on the defect list with REASON 2 (R235). -/
def State.blockedStripes (s : State) : List Nat :=
  (s.obj.defects.filter (fun d => d.reason == 2 && decide (stripePos d.psa ≥ 30) &&
    !s.rootTrackAt (psaSurface d.psa) (psaTrack d.psa))).map (fun d => stripeOf d.psa)

-- ---------------------------------------------------------------------------------------------------------------
-- Replay (R155)

/-- The current time for time fields (R111): the clock where it has been written. The spec does not say what a time field holds before
that: zero (DESIGN CHOICE, assumption log 67). -/
def State.utc (s : State) : Nat :=
  match s.obj.clock with
  | some (c, t) => c + (s.pwr.timeUs - t)
  | none => 0

/-- The effect of one record on the index. A DEFECT record carries no time, and the spec does not say which its entry takes: the time
of the replay (DESIGN CHOICE, assumption log 67). -/
def State.replay (s : State) (seq : Nat) (r : Rec) : State :=
  match r with
  | .segment key ver n tiles lastValid ext =>
    let v := (s.version key ver).getD (Version.new key ver)
    let act := actuatorOf (psaSurface ((ext.headD ⟨0, 0, 0⟩).psa))
    s.setVersion { v with segs := putSeg v.segs ⟨n, tiles, lastValid, act, seq, 0, ext, [], true, []⟩ }
  | .seal key ver size ctime sha segcount rclass =>
    let v := (s.version key ver).getD (Version.new key ver)
    s.setVersion { v with sealed := some ⟨size, ctime, sha, segcount, rclass, seq⟩ }
  | .tombstone key ver => s.dropVersion key ver
  | .retention key ver till rclass =>
    let v := (s.version key ver).getD (Version.new key ver)
    match v.lock with
    | some (u, _, _) => if till > u then s.setVersion { v with lock := some (till, rclass, seq) } else s
    | none => s.setVersion { v with lock := some (till, rclass, seq) }
  | .reloc key ver n tile oldPsa newPsa =>
    match s.version key ver with
    | none => s
    | some v =>
      match v.seg n with
      | none => s
      | some g =>
        if s.tilePsa g tile = some oldPsa then
          s.setVersion { v with segs := putSeg v.segs { g with relocs := g.relocs ++ [⟨tile, oldPsa, newPsa, seq⟩] } }
        else s
  | .defect psa reason =>
    if s.defective psa then s
    else { s with obj := { s.obj with defects := s.obj.defects ++ [⟨psa, reason, s.utc⟩] } }

/-- Replay records in rising order of SEQ. -/
def State.replayAll (s : State) (l : List (Nat × Rec)) : State := l.foldl (fun t p => t.replay p.1 p.2) s

/-- Put a record into a list, in SEQ order. -/
def insertRec (l : List (Nat × Rec)) (p : Nat × Rec) : List (Nat × Rec) :=
  match l with
  | [] => [p]
  | x :: t => if p.1 < x.1 then p :: x :: t else x :: insertRec t p

/-- Records in SEQ order. -/
def sortRecs (l : List (Nat × Rec)) : List (Nat × Rec) := l.foldl insertRec []

/-- The records of a version for a checkpoint: SEGMENT, RELOC, RETENTION, SEAL (R158 step 2). -/
def versionRecs (v : Version) : List (Nat × Rec) :=
  v.segs.map (fun g => (g.seq, .segment v.key v.ver g.num g.tiles g.lastValid g.extents))
    ++ v.segs.flatMap (fun g => g.relocs.map (fun r => (r.seq, .reloc v.key v.ver g.num r.tile r.old r.new)))
    ++ (match v.lock with | some (u, c, q) => [(q, .retention v.key v.ver u c)] | none => [])
    ++ (match v.sealed with
        | some x => [(x.seq, .seal v.key v.ver x.size x.ctime x.sha x.segcount x.rclass)]
        | none => [])

-- ---------------------------------------------------------------------------------------------------------------
-- Capacity and allocation (R148, R149, R473)

/-- Heads and zones of a type on an actuator, by surface, then by zone. -/
def State.zonesOf (s : State) (k kind : Nat) : List (Nat × Zone) :=
  (s.media.surfaces.filter (fun f => actuatorOf f.head == k)).flatMap
    (fun f => (f.zones.filter (fun z => z.kind == kind)).map (fun z => (f.head, z)))

/-- User tiles of the data zones outside the spare tracks (R496 CAPACITY). -/
def State.capacity (s : State) : Nat :=
  (s.zonesOf 0 0 ++ s.zonesOf 1 0).foldl (fun a p => a + (p.2.tracks - p.2.spare) * dataPerTrack p.2) 0

/-- Data sectors of the spare tracks of the data zones. -/
def State.spareCapacity (s : State) : Nat :=
  (s.zonesOf 0 0 ++ s.zonesOf 1 0).foldl (fun a p => a + p.2.spare * dataPerTrack p.2) 0

/-- Data sectors outside the spare tracks that hold a live tile or are reserved: one for each tile of each segment, but for
the tiles that lie in spare tracks. -/
def State.liveTiles (s : State) : Nat :=
  s.obj.versions.foldl (fun a v => v.segs.foldl (fun b g =>
    b + (g.tiles - ((s.segPsas g).filter s.inSpare).length)) a) 0

/-- The free user capacity (R473). -/
def State.freeCapacity (s : State) : Nat := s.capacity - s.liveTiles

/-- Data sectors in use: of live segments, of segments on their way, of versions read from a lookup made before (R489, R563),
waiting to become free, and defects. -/
def State.usedSectors (s : State) : List Nat :=
  s.obj.versions.flatMap (fun v => v.segs.flatMap s.segPsas) ++ s.obj.jobs.flatMap (fun j => j.tiles.map (·.2.2))
    ++ s.readFrom.flatMap (fun v => v.segs.flatMap s.segPsas) ++ s.obj.freeing.flatMap (·.2) ++ s.obj.defects.map (·.psa)

/-- The first `n` sectors of a zone's sequence from position `i` on, within `fuel` positions, that are not taken. -/
def scanZone (fuel : Nat) (taken : Nat → Bool) (head : Nat) (z : Zone) (i n : Nat) : List Nat :=
  match fuel with
  | 0 => []
  | f + 1 =>
    if n = 0 then []
    else
      let p := dataSector head z i
      if taken p then scanZone f taken head z (i + 1) n else p :: scanZone f taken head z (i + 1) (n - 1)

/-- Sectors from several zones in turn; `spare` takes those of the spare tracks. -/
def scanZones (l : List (Nat × Zone)) (spare : Bool) (taken : Nat → Bool) (n : Nat) : List Nat :=
  match l with
  | [] => []
  | (h, z) :: t =>
    let per := dataPerTrack z
    let lo := if spare then (z.tracks - z.spare) * per else 0
    let hi := if spare then z.tracks * per else (z.tracks - z.spare) * per
    let got := scanZone (hi - lo) taken h z lo n
    got ++ (if got.length < n then scanZones t spare taken (n - got.length) else [])

/-- The first `n` free data sectors of actuator k's data zones, then of their spare tracks (R473). Heads that take no new segments are
passed over (R270), and so are stripes that take no new extents (R235). -/
def State.firstFree (s : State) (k n : Nat) : List Nat :=
  let used := s.usedSectors
  let blocked := s.blockedStripes
  let taken (p : Nat) : Bool := used.contains p || blocked.contains (stripeOf p)
  let zs := (s.zonesOf k 0).filter (fun p => !s.obj.closedHeads.contains p.1)
  let a := scanZones zs false taken n
  a ++ (if a.length < n then scanZones zs true taken (n - a.length) else [])

/-- Whether `q` follows `p` in an extent: the next sector of the zone's sequence, on the same side of the spare tracks (R148). -/
def State.follows (s : State) (p q : Nat) : Bool :=
  match s.zoneAt p with
  | none => false
  | some z =>
    psaSurface q = psaSurface p && q = dataSector (psaSurface p) z (seqIndex z p + 1) && psaTrack q < z.first + z.tracks
      && s.inSpare p == s.inSpare q

/-- Extents of a list of sectors, from tile `t` on. -/
def State.extentsOf (s : State) (l : List Nat) (t : Nat) (cur : Option (Extent × Nat)) : List Extent :=
  match l with
  | [] => (match cur with | some (e, _) => [e] | none => [])
  | p :: r =>
    match cur with
    | none => s.extentsOf r (t + 1) (some (⟨p, t, 1⟩, p))
    | some (e, lastP) =>
      if s.follows lastP p then s.extentsOf r (t + 1) (some ({ e with count := e.count + 1 }, p))
      else e :: s.extentsOf r (t + 1) (some (⟨p, t, 1⟩, p))

/-- The longest extent, the first of those of its length. -/
def longestExtent (l : List Extent) : Option Extent :=
  l.foldl (fun b e => match b with | none => some e | some x => if e.count > x.count then some e else some x) none

/-- The `m` longest extents of a list, longest first. -/
def longestExtents (l : List Extent) (m : Nat) : List Extent :=
  match m with
  | 0 => []
  | k + 1 =>
    match longestExtent l with
    | none => []
    | some e => e :: longestExtents (l.filter (· != e)) k

/-- The sectors of an extent. -/
def State.extentPsas (s : State) (e : Extent) : List Nat :=
  match s.zoneAt e.psa with
  | none => []
  | some z => (List.range e.count).map (fun i => dataSector (psaSurface e.psa) z (seqIndex z e.psa + i))

/-- `n` of the sectors of `free` in at most `m` extents, by the longest runs; fewer when no such choice holds `n`. -/
def State.inExtents (s : State) (free : List Nat) (n m : Nat) : List Nat :=
  ((longestExtents (s.extentsOf free 0 none) m).flatMap s.extentPsas).take n

/-- Sectors for `n` tiles on actuator k, in at most 32 extents wherever such a placement is free (R149): the first free ones, or the
longest free runs. -/
def State.allocate (s : State) (k n : Nat) : List Nat :=
  let a := s.firstFree k n
  if (s.extentsOf a 0 none).length ≤ 32 then a
  else s.inExtents (s.firstFree k (s.capacity + s.spareCapacity)) n 32

/-- Runs of PSA and COUNT of a list of sectors, as a root names them (R160). -/
def State.runsOf (s : State) (l : List Nat) : List (Nat × Nat) := (s.extentsOf l 0 none).map (fun e => (e.psa, e.count))

/-- The sectors of a run. -/
def State.runPsas (s : State) (r : Nat × Nat) : List Nat :=
  match s.zoneAt r.1 with
  | none => []
  | some z => (List.range r.2).map (fun i => dataSector (psaSurface r.1) z (seqIndex z r.1 + i))

-- ---------------------------------------------------------------------------------------------------------------
-- Journal sequences (R150, R704)

/-- Positions that a zone gives a journal sequence: its data sectors without those of a root track. -/
def State.journalCount (s : State) (h : Nat) (z : Zone) : Nat :=
  let root := (h == 0 || h == 12) && (match s.media.drive with
    | some d => z.first ≤ d.rootTrack && d.rootTrack < z.first + z.tracks
    | none => false)
  (z.tracks - b2n root) * dataPerTrack z

/-- Position `i` of a sequence over these zones. -/
def State.journalIn (s : State) (l : List (Nat × Zone)) (i : Nat) : Option Nat :=
  match l with
  | [] => none
  | (h, z) :: t =>
    let n := s.journalCount h z
    if i < n then
      let per := dataPerTrack z
      let skip := (h == 0 || h == 12) && (match s.media.drive with
        | some d => z.first ≤ d.rootTrack && d.rootTrack < z.first + z.tracks && i ≥ (d.rootTrack - z.first) * per
        | none => false)
      some (dataSector h z (if skip then i + per else i))
    else s.journalIn t (i - n)

/-- Positions of the journal sequence of actuator k. -/
def State.journalLen (s : State) (k : Nat) : Nat := (s.zonesOf k 1).foldl (fun a p => a + s.journalCount p.1 p.2) 0
def State.journalPsa (s : State) (k i : Nat) : Option Nat := s.journalIn (s.zonesOf k 1) i

def State.stream (s : State) (k : Nat) : Stream := if k = 0 then s.obj.stream0 else s.obj.stream1
def State.setStream (s : State) (k : Nat) (x : Stream) : State :=
  if k = 0 then { s with obj := { s.obj with stream0 := x } } else { s with obj := { s.obj with stream1 := x } }

/-- A journal sector can take the next block: not defective, not of the live journal, not of a checkpoint in force. -/
def State.journalFree (s : State) (psa : Nat) : Bool :=
  !s.defective psa && !s.obj.ckptSectors.contains psa
    && !(s.obj.stream0.live ++ s.obj.stream1.live).any (fun b => b.psa == psa)

/-- The first free position from `i` on, within `fuel` positions. -/
def State.findJournal (fuel : Nat) (s : State) (k i n : Nat) : Option (Nat × Nat) :=
  match fuel with
  | 0 => none
  | f + 1 =>
    match s.journalPsa k (i % n) with
    | none => none
    | some p => if s.journalFree p then some (i % n, p) else State.findJournal f s k (i + 1) n

/-- Where stream k writes its next block; none when no sector can take it (R704). -/
def State.nextJournal (s : State) (k : Nat) : Option (Nat × Nat) :=
  State.findJournal (s.journalLen k) s k (s.stream k).pos (s.journalLen k)

-- ---------------------------------------------------------------------------------------------------------------
-- Writing sectors and stripes (R131, R132, R146)

/-- A sector is written: it holds the block, its stripe is open until its parity is written, an earlier failure to read it is
over. Root tracks have no stripes (R126). `first` and `last` as for `sectorOuts`. -/
def State.putSectorIn (s : State) (psa : Nat) (blk : List Byte) (first last : Bool) : State :=
  let open_ := if s.rootTrackAt (psaSurface psa) (psaTrack psa) then s.obj.openStripes
               else insertNat (stripeOf psa) s.obj.openStripes
  { s with disk := { s.disk with sectors := Assoc.put s.disk.sectors psa blk },
           obj := { s.obj with openStripes := open_ },
           dec := { s.dec with failed := Assoc.del s.dec.failed psa, recovered := Assoc.del s.dec.recovered psa },
           out := (s.sectorOuts psa (s.sectorRuns psa blk) first last).reverse ++ s.out }

/-- Sectors that firmware writes in one go, in order: the actuator is brought to each, and where one runs on from the one before it the
gate stays asserted over the gap (R261). `prev` is the sector just written with the gate still asserted. -/
def State.putSectors (s : State) (prev : Option Nat) (l : List (Nat × List Byte)) : State :=
  match l with
  | [] => s
  | (p, blk) :: t =>
    let on := match prev with | some q => s.joined q p | none => false
    let more := match t with | (q, _) :: _ => s.joined p q | [] => false
    let s1 := if on then s.writeGap (actuatorOf (psaSurface p)) p else s.standOn p
    (s1.putSectorIn p blk (!on) (!more)).putSectors (some p) t

/-- Tiles written to sectors in order; they are built for consecutive values of WSEQ from the present one on (R146). -/
def State.writeTiles (s : State) (l : List (Nat × List Byte)) : State :=
  let t := s.putSectors none l
  { t with disk := { t.disk with wseq := (s.disk.wseq + l.length) % 2 ^ 32 } }

/-- Write a tile that `mk` builds with the next WSEQ. -/
def State.writeTile (s : State) (psa : Nat) (mk : Nat → List Byte) : State := s.writeTiles [(psa, mk s.disk.wseq)]

/-- The block a stripe position contributes: the recovered block that stays in the buffer (R230), else what its sector holds, zero where
it holds nothing. -/
def State.positionBlock (s : State) (p : Nat) : List Byte :=
  ((Assoc.find s.dec.recovered p).orElse (fun _ => Assoc.find s.disk.sectors p)).getD (zeros 4128)

/-- The data positions of a stripe that hold nothing, defective sectors apart: they take fill tiles (R131). -/
def State.toFill (s : State) (g : Nat) : List Nat :=
  ((List.range 30).map (fun i => g + i)).filter (fun p => (Assoc.find s.disk.sectors p).isNone && !s.defective p)

/-- What closing a stripe writes: its fill tiles, then both parity sectors over what the stripe then holds (R129, R131). -/
def State.closing (s : State) (g : Nat) : List (Nat × List Byte) :=
  let fills := (s.toFill g).zipIdx.map (fun p => (p.1, fillTile ((s.disk.wseq + p.2) % 2 ^ 32)))
  let (a, b) := stripeParity ((List.range 30).map (fun i => (Assoc.find fills (g + i)).getD (s.positionBlock (g + i))))
  fills ++ [(g + 30, a), (g + 31, b)]

/-- Close a stripe (R131): fill tiles, then both parity sectors. Its transfers are charged to class 3 (R93, R470). -/
def State.closeStripe (s : State) (g : Nat) : State :=
  let l := s.closing g
  let s1 := (s.charge 3 (65 * l.length)).putSectors none l
  { s1 with disk := { s1.disk with wseq := (s.disk.wseq + (s.toFill g).length) % 2 ^ 32 },
            obj := { s1.obj with openStripes := s1.obj.openStripes.filter (· != g) } }

/-- L4 of some sector runs on actuator k: it performs no writes (R227). -/
def State.offTrack (s : State) (k : Nat) : Bool := s.dec.ladders.any (fun l => l.k == k && l.stage == 4)

/-- A sector is under recovery: no command reads or writes it (R225). -/
def State.underRecovery (s : State) (psa : Nat) : Bool := s.dec.ladders.any (fun l => l.psa == psa)

/-- A media domain is out of service, and the motion domain with it. -/
def State.mediaOut (s : State) (k : Nat) : Bool :=
  s.boot.outOfService.contains (domMedia k) || s.boot.outOfService.contains domMotion

/-- The media of actuator k can be written by firmware: in service, not inhibited, and not in use off track (R227, R263). -/
def State.mediaWritable (s : State) (k : Nat) : Bool := !s.mediaOut k && !s.inhibited k && !s.offTrack k

/-- A stripe can be closed now: its actuator may write, and none of the sectors that this writes is under recovery (R225). -/
def State.closable (s : State) (g : Nat) : Bool :=
  s.mediaWritable (actuatorOf (psaSurface g)) && !((s.toFill g) ++ [g + 30, g + 31]).any s.underRecovery

/-- Close every open stripe that can be closed, and let each journal stream go on behind the stripes that fill tiles have closed
(R150). -/
def State.closeStripes (s : State) : State :=
  let gs := s.obj.openStripes.filter s.closable
  let s1 := gs.foldl State.closeStripe s
  let past (t : State) (k : Nat) : State :=
    let n := t.journalLen k
    let x := t.stream k
    -- at most the 29 positions left of the stripe that holds the last block
    let pos := (List.range 30).foldl (fun p _ =>
      match t.journalPsa k (p % n) with
      | some q => if gs.contains (stripeOf q) && stripePos q != 0 then p + 1 else p
      | none => p) x.pos
    if n = 0 then t else t.setStream k { x with pos := pos % n }
  past (past s1 0) 1

-- ---------------------------------------------------------------------------------------------------------------
-- Records (R154)

/-- Issue a record: it takes the next SEQ and waits in its stream. -/
def State.issue (s : State) (stream order : Nat) (body : Rec) : State :=
  { s with obj := { s.obj with recs := s.obj.recs ++ [⟨s.obj.nextSeq, stream, order, body⟩], nextSeq := s.obj.nextSeq + 1 } }

/-- The journal sequence of actuator k can take no block (R704). -/
def State.journalFull (s : State) (k : Nat) : Bool := s.journalLen k != 0 && (s.nextJournal k).isNone

/-- Source 193 is raised when the condition of R704 begins. -/
def State.journalCheck (s : State) (k : Nat) : State :=
  if s.journalFull k && !(s.stream k).full then (s.setStream k { s.stream k with full := true }).raise 193 0 k else s

/-- The stream of a record that belongs to no actuator: 0, or 1 while stream 0 can take no block. -/
def State.homeStream (s : State) : Nat := if s.journalFull 0 && !s.journalFull 1 then 1 else 0

/-- A waiting record may be written as far as R154 asks. -/
def State.ready (s : State) (w : WaitRec) : Bool :=
  match w.body with
  | .segment .. => !s.obj.jobs.any (fun j => j.seq == w.seq && (!j.tiles.isEmpty || j.refused || j.noSector
      || s.obj.recs.any (fun x => j.after.contains x.seq)))
  | .seal key ver .. =>
    !s.obj.recs.any (fun x => x.seq < w.seq && (match x.body with
        | .segment k v .. => k == key && v == ver
        | _ => false))
      && !s.obj.jobs.any (fun j => j.key == key && j.ver == ver && (j.refused || j.noSector))
  | _ => true

/-- The records of stream k that can be written now, in SEQ order: none behind one that waits (R154). -/
def State.readyRecs (s : State) (k : Nat) : List WaitRec :=
  (s.obj.recs.filter (fun w => w.stream == k)).takeWhile s.ready

/-- A record is on the media: its segment is flushed, its job is over, its tile slots are free. -/
def State.recordWritten (s : State) (w : WaitRec) : State :=
  let s1 := { s with obj := { s.obj with
    recs := s.obj.recs.filter (fun x => x.seq != w.seq),
    onMedia := s.obj.onMedia ++ [(w.seq, w.body)], recsSince := true } }
  match w.body with
  | .segment key ver n .. =>
    let own := (s1.obj.jobs.filter (fun j => j.seq == w.seq)).flatMap (·.slots)
    let s2 := ({ s1 with obj := { s1.obj with jobs := s1.obj.jobs.filter (fun j => j.seq != w.seq) } }).freeTiles own
    match s2.version key ver with
    | none => s2
    | some v =>
      match v.seg n with
      | none => s2
      | some g =>
        if g.seq = w.seq then
          s2.setVersion { v with segs := putSeg v.segs { g with durable := true, slots := [] } }
        else s2
  | _ => s1

/-- The journal block that stream k writes next. -/
def State.nextBlock (s : State) (k : Nat) : Option (List Byte) :=
  match s.readyRecs k with
  | [] => none
  | l => some (journalTile k (s.stream k).bseq (journalFit (l.map (fun w => (w.seq, w.body)))) s.disk.wseq)

/-- Write the ready records of stream k in its next journal block (R151, R154). With no sector for it the stream is full, and
source 193 is raised when that begins (R704). -/
def State.writeJournal (s : State) (k : Nat) : State :=
  match s.readyRecs k with
  | [] => s
  | w0 :: ws =>
    let x := s.stream k
    match s.nextJournal k with
    | none => s.journalCheck k
    | some (pos, psa) =>
      let recs := journalFit ((w0 :: ws).map (fun w => (w.seq, w.body)))
      let done := (w0 :: ws).take recs.length
      let s1 := s.writeTile psa (journalTile k x.bseq recs)
      let blk : JBlock := ⟨x.bseq, psa, (done.getLast?.getD w0).seq⟩
      let s2 := s1.setStream k { x with bseq := x.bseq + 1, pos := (pos + 1) % s.journalLen k, live := x.live ++ [blk],
                                        full := false }
      let s3 := { s2 with obj := { s2.obj with blocksSince := s2.obj.blocksSince + 1 } }
      (done.foldl State.recordWritten (s3.charge 3 65)).journalCheck k

/-- Sectors that hold nothing live any more after the record of SEQ `seq` wait for the next root (R475). -/
def State.freeLater (s : State) (seq : Nat) (psas : List Nat) : State :=
  if psas.isEmpty then s else { s with obj := { s.obj with freeing := s.obj.freeing ++ [(seq, psas)] } }

-- ---------------------------------------------------------------------------------------------------------------
-- Segments entering the index (R33, R473)

/-- A FLUSH accepted after the command `order` and not yet complete, or an activation that waits for it (R445). -/
def State.flushWaits (s : State) (order : Nat) : Bool :=
  s.qmg.slots.any (fun x => entOpcode x.entry = 0x48 && x.stage != 4 && order < x.order)
    || (match s.qmg.activation with | some a => order < a.order | none => false)

/-- The job of SEQ `seq` goes, with its record, its sectors to be written and its tiles in the buffer. -/
def State.dropJob (s : State) (seq : Nat) : State :=
  let c (k : Nat) (t : State) : State := t.setChn k { t.chn k with ops := (t.chn k).ops.filter (fun o => o.seq != seq) }
  let s1 := c 1 (c 0 s)
  let slots := (s1.obj.jobs.filter (fun x => x.seq == seq)).flatMap (·.slots)
  let s2 := { s1 with obj := { s1.obj with
    jobs := s1.obj.jobs.filter (fun x => x.seq != seq), recs := s1.obj.recs.filter (fun w => w.seq != seq) } }
  s2.freeTiles slots

/-- Jobs that failed for good and whose segment has left the index go once no FLUSH waits for them (R37, R490). -/
def State.dropOrphans (s : State) : State :=
  let held (j : Job) : Bool := s.obj.versions.any (fun v => v.segs.any (fun g => g.seq == j.seq))
  (s.obj.jobs.filter (fun j => (j.refused || j.noSector) && !s.flushWaits j.order && !held j)).foldl
    (fun t j => t.dropJob j.seq) s

/-- A segment leaves the index for the record of SEQ `seq`: when its media write has not begun or has failed for good, and no FLUSH waits
for it, its reservation and its record go with it, and what it would have replaced on the media stays until the record of `seq` is there (R38);
else its sectors become free under R475, once its write has ended. -/
def State.retireSeg (s : State) (g : Seg) (seq : Nat) : State :=
  match s.obj.jobs.find? (fun j => j.seq == g.seq) with
  | some j =>
    if (j.refused || j.noSector || !j.begun) && !s.flushWaits j.order then
      let s1 := s.dropJob g.seq
      { s1 with obj := { s1.obj with
        freeing := s1.obj.freeing.map (fun (p : Nat × List Nat) => if p.1 = g.seq then (seq, p.2) else p) } }
    else s.freeLater seq (s.segPsas g)
  | none => (s.freeLater seq (s.segPsas g)).freeTiles (if g.durable then [] else g.slots)

/-- The write backlog of an actuator in the buffer. -/
def State.backlog (s : State) (k : Nat) : Nat := (s.chn k).ops.length

/-- The actuator of a new segment (R33, R704). -/
def State.chooseActuator (s : State) : Nat :=
  if s.journalFull 0 && !s.journalFull 1 then 1
  else if s.journalFull 1 && !s.journalFull 0 then 0
  else if s.backlog 1 < s.backlog 0 then 1 else 0

/-- A segment enters the index: sectors are taken, its record takes its SEQ, its tiles queue for the media (R33, R36, R154,
R473). `order` is the acceptance of its command, 0 for a migration receive. -/
def State.enterSegment (s : State) (key ver n tiles lastValid order : Nat) (slots : List Nat) : State :=
  let k := s.chooseActuator
  let seq := s.obj.nextSeq
  let v := (s.version key ver).getD (Version.new key ver)
  let s0 := match v.seg n with
    | some g => s.retireSeg g seq
    | none => s
  let psas := s0.allocate k tiles
  let ext := s0.extentsOf psas 0 none
  let ok := psas.length = tiles && ext.length ≤ 32
  let s1 := s0.issue k order (.segment key ver n tiles lastValid ext)
  let g : Seg := ⟨n, tiles, lastValid, k, seq, order, if ok then ext else [], [], false, slots⟩
  let v1 := (s1.version key ver).getD (Version.new key ver)
  let s2 := s1.setVersion { v1 with segs := putSeg v1.segs g, changes := v1.changes + 1 }
  let todo := (List.range tiles).map (fun t => (t, slots.getD t 0, psas.getD t 0))
  let job : Job := ⟨seq, key, ver, n, k, order, todo, slots, [], false, false, !ok⟩
  let s3 := { s2 with obj := { s2.obj with jobs := s2.obj.jobs ++ [job] } }
  let c := s3.chn k
  if ok then s3.setChn k { c with ops := c.ops ++ todo.map (fun p => ⟨seq, p.1, p.2.2, 0⟩) } else s3

-- ---------------------------------------------------------------------------------------------------------------
-- Reading tiles (R40, R41, R372, R480)

/-- A media domain has been out of service for 30 s (R32). -/
def State.mediaTimedOut (s : State) (k : Nat) : Bool := s.boot.svcTimedOut.contains (domMedia k)

/-- The tile at a PSA, checked on its way from the media: the state after it, the status (0 for success) and the tile. In the safe state
no media read is made (R611). -/
def State.readMedia (s : State) (psa : Nat) (tag : List Byte) : State × Nat × List Byte :=
  if s.isSet Fld.FCL_STATUS_SAFE || s.mediaTimedOut (actuatorOf (psaSurface psa)) then (s, St.mediaUnavailable, [])
  else match Assoc.find s.dec.failed psa with
    | some st => (s, st, [])
    | none =>
      match (Assoc.find s.dec.recovered psa).orElse (fun _ => Assoc.find s.disk.sectors psa) with
      | none => (s, St.mediaUnrecovered, [])
      | some t =>
        if !tileCrcOk t then (s, St.mediaUnrecovered, [])
        else if tileTag t != tag then (s.raise 192 0 psa, St.intTag, [])
        else (s, 0, t)

/-- Tile `t` of a segment, from the buffer while the segment is unflushed, else from the media. A bad copy in the buffer is not used where
the tile has been flushed since the lookup (R372). -/
def State.readTile (s : State) (v : Version) (g : Seg) (t : Nat) : State × Nat × List Byte :=
  let tag := tagOf (keyHash (keyBytes v.key)) g.num t
  if g.durable then
    match s.tilePsa g t with
    | none => (s, St.mediaUnrecovered, [])
    | some p => s.readMedia p tag
  else
    let slot := g.slots.getD t 0
    let s := s.readSlot slot
    if s.tileGood slot (some tag) then (s, 0, s.tileAt slot)
    else
      let s1 := s.tileFails slot
      match (s.version v.key v.ver).bind (fun u => u.segs.find? (fun y => y.seq == g.seq && y.durable)) with
      | none => (s1, St.intTile, [])
      | some y => match s.tilePsa y t with
        | none => (s1, St.intTile, [])
        | some p => s1.readMedia p tag

/-- Read tiles of a segment in order until one fails: the bytes of their data areas. -/
def State.readTiles (s : State) (v : Version) (g : Seg) (ts : List Nat) : State × Nat × List Byte :=
  match ts with
  | [] => (s, 0, [])
  | t :: r =>
    let (s1, st, b) := s.readTile v g t
    if st != 0 then (s1, st, [])
    else
      let (s2, st2, b2) := s1.readTiles v g r
      (s2, st2, tileData b ++ b2)

/-- What of segment `g` lies in the range: the tiles it takes, where its bytes go, and the place and length of them in those tiles. -/
def segCut (g : Seg) (off n : Nat) : Option (List Nat × Nat × Nat × Nat) :=
  let lo := 1048576 * g.num
  let hi := lo + g.bytes
  if hi ≤ off || off + n ≤ lo then none
  else
    let a := max lo off
    let b := min hi (off + n)
    let t0 := (a - lo) / 4096
    let t1 := (b - lo - 1) / 4096
    some ((List.range (t1 + 1 - t0)).map (fun i => t0 + i), a - off, a - lo - 4096 * t0, b - a)

/-- Object bytes from `off`, `n` of them, read segment by segment: uncovered bytes are zero (R147). Answers the state, the
status of the first tile that fails, and the bytes. -/
def State.readSegs (s : State) (v : Version) (l : List Seg) (off n : Nat) (acc : List Byte) : State × Nat × List Byte :=
  match l with
  | [] => (s, 0, acc ++ zeros (n - acc.length))
  | g :: r =>
    match segCut g off n with
    | none => s.readSegs v r off n acc
    | some (tiles, place, skip, len) =>
      let (s1, st, bs) := s.readTiles v g tiles
      if st != 0 then (s1, st, [])
      else s1.readSegs v r off n (acc ++ zeros (place - acc.length) ++ slice bs skip len)

/-- The bytes of a version in a range, from its segments' state at one lookup (R39, R42, R443). -/
def State.readRange (s : State) (v : Version) (off n : Nat) : State × Nat × List Byte := s.readSegs v v.segs off n []

/-- The sectors that a read of `n` object bytes from `off` takes from the media: those of durable segments' tiles in the range. -/
def State.rangePsas (s : State) (v : Version) (off n : Nat) : List Nat :=
  (v.segs.filter (·.durable)).flatMap (fun g =>
    match segCut g off n with
    | none => []
    | some (tiles, _, _, _) => tiles.filterMap (s.tilePsa g))

/-- A command that waits reads sector `p`: a SEAL, GET_RANGE or VERIFY of a version that has a tile there, or a migration. -/
def State.awaited (s : State) (p : Nat) : Bool :=
  s.mig.tx.isSome || !s.mig.rx.isEmpty || s.qmg.slots.any (fun x => x.stage != 4 && (entOpcode x.entry == 0x49 ||
    [0x41, 0x42, 0x47].contains (entOpcode x.entry) &&
      (match s.readVersion x with
       | some v => (s.rangePsas v 0 v.end_).contains p
       | none => false)))

/-- The outcome of a failed read is for the commands that wait for it; a later read runs the ladder again (R230). -/
def State.dropOutcomes (s : State) : State :=
  { s with dec := { s.dec with failed := s.dec.failed.filter (fun p => s.awaited p.1) } }

/-- Whether a read of sector `p` waits: its media domain is out of service, not yet for 30 s, or it is under recovery (R31, R32, R225). -/
def State.psaWaits (s : State) (p : Nat) : Bool :=
  let k := actuatorOf (psaSurface p)
  (s.mediaOut k && !s.mediaTimedOut k) || s.dec.ladders.any (fun l => l.psa == p)

/-- Whether a read of `n` object bytes from `off` waits for a sector. -/
def State.mustWait (s : State) (v : Version) (off n : Nat) : Bool := (s.rangePsas v off n).any s.psaWaits

/-- Whether a read of `n` object bytes from `off` needs media domain `k`. -/
def State.needsMedia (s : State) (k : Nat) (v : Version) (off n : Nat) : Bool :=
  (s.rangePsas v off n).any (fun p => actuatorOf (psaSurface p) == k)

/-- The media reads of a range are charged to Tint class `c`: 65 lines for each tile with its trailer (R93, R470). -/
def State.chargeReads (s : State) (c : Nat) (v : Version) (off n : Nat) : State := s.charge c (65 * (s.rangePsas v off n).length)

-- ---------------------------------------------------------------------------------------------------------------
-- FLUSH (R445, R446, R490)

/-- The outcome of a FLUSH that covers the commands accepted before `order`, or none while it waits. -/
def State.flushOutcome (s : State) (order : Nat) : Option Nat :=
  let changing (e : List Byte) : Bool := [0x40, 0x41, 0x45, 0x46].contains (entOpcode e)
  let covers (n : Nat) : Bool := n != 0 && n < order
  if s.qmg.slots.any (fun x => x.order < order && changing x.entry) then none
  else if s.isSet Fld.FCL_STATUS_SAFE && (s.obj.jobs.any (fun j => covers j.order && !j.tiles.isEmpty)
      || s.obj.recs.any (fun w => covers w.order)) then
    some St.mediaUnavailable
  else if s.obj.jobs.any (fun j => covers j.order && s.mediaTimedOut j.actuator)
      || s.obj.recs.any (fun w => covers w.order && s.mediaTimedOut w.stream) then some St.mediaUnavailable
  else if s.obj.jobs.any (fun j => covers j.order && j.refused) then some St.intTile
  else if s.obj.jobs.any (fun j => covers j.order && j.noSector) then some St.mediaWriteFailed
  else if s.obj.recs.any (fun w => covers w.order && s.journalFull w.stream) then some St.mediaWriteFailed
  else if s.obj.recs.any (fun w => covers w.order) then none
  else some St.success

-- ---------------------------------------------------------------------------------------------------------------
-- Resets that keep DRAM (R79)

/-- Every segment whose media write has begun is finished, and the rest are discarded, so that each version is all-old or
all-new (R38, R79, R447): the index is what the records on the media say, then the records that still wait. A version that loses a
segment loses its waiting SEAL and RETENTION records too. -/
def State.finishOrDiscard (s : State) : State :=
  let keep := s.obj.jobs.filter (fun j => j.begun && !j.refused)
  let gone := s.obj.jobs.filter (fun j => !j.begun || j.refused)
  let lost (key ver : Nat) : Bool := gone.any (fun j => j.key == key && j.ver == ver)
  let recs := s.obj.recs.filter (fun w => match w.body with
    | .segment .. => keep.any (fun j => j.seq == w.seq)
    | .seal key ver .. => !lost key ver
    | .retention key ver .. => !lost key ver
    | _ => true)
  let ops (k : Nat) (t : State) : State :=
    t.setChn k { t.chn k with ops := (t.chn k).ops.filter (fun o => !gone.any (fun j => j.seq == o.seq)) }
  let s1 := ops 1 (ops 0 (s.freeTiles (gone.flatMap (·.slots))))
  let s2 := { s1 with obj := { s1.obj with versions := [], jobs := keep, recs := recs } }
  let s3 := s2.replayAll (sortRecs s2.obj.onMedia)
  recs.foldl (fun t w =>
    let u := t.replay w.seq w.body
    match w.body, keep.find? (fun j => j.seq == w.seq) with
    | .segment key ver n .., some j =>
      match u.version key ver with
      | none => u
      | some v =>
        match v.seg n with
        | none => u
        | some g =>
          let g1 := { g with durable := false, slots := j.slots, order := j.order, actuator := j.actuator }
          u.setVersion { v with segs := putSeg v.segs g1 }
    | _, _ => u) s3

end Sys2Proof.Machine
end

