-- ==== Sys2Proof/Machine/Objects.lean ====
section
/-!
DEFINITION. Object commands on versions (spec/13): PUT_SEGMENT, SEAL, GET_RANGE, STAT, LIST, DELETE, SET_RETENTION, VERIFY,
FLUSH. A command runs from its slot, named by queue and tag; a row whose command is not in that slot changes nothing.
Choices: assumption log 17, 29.
-/
namespace Sys2Proof.Machine
open Sys2Proof

-- ---------------------------------------------------------------------------------------------------------------
-- The order of checks (R464, R471)

/-- Reserved bits of the common fields are zero (R423). -/
def commonOk (e : List Byte) : Bool := numAt e 1 1 < 32 && numAt e 2 1 < 4 && numAt e 3 1 = 0

/-- Bytes `i` to `i + n - 1` of the entry are zero. -/
def entZero (e : List Byte) (i n : Nat) : Bool := numAt e i n = 0

/-- Steps 2 to 6 of R471: the first status that applies, 0 when none does. -/
def State.objectCheck (s : State) (e : List Byte) (h : HostData) (fields : Bool) (kinds : List Nat) (lenOk : Nat → Bool) :
    Nat :=
  if !commonOk e || !fields || !descriptorOk e then St.invalidField
  else
    let b := s.checkBuffer e h kinds lenOk
    if b != 0 then b else if s.boot.abandoned then St.notReady else 0

/-- The command `op` accepted in slot (q, t) and not yet run, if there is one. -/
def State.command (s : State) (q t op : Nat) : Option Slot :=
  match s.slot q t with
  | some x => if entOpcode x.entry = op && (x.stage = 0 || x.stage = 3) then some x else none
  | none => none

/-- Complete with a status, no result. -/
def State.endWith (s : State) (x : Slot) (status : Nat) : State := s.complete x.qid x.tag status 0

/-- What follows a completion: resets of queues that waited for it (R452). -/
def State.settled (s : State) : State := s.settleResets.dropOrphans.dropLookups.dropOutcomes

/-- A meaning that ends with the queues and the jobs settled. -/
def State.done (s : State) : Res := .next s.settled

/-- A version with index damage (R156). -/
def State.damagedVersion (s : State) (key ver : Nat) : Bool := s.obj.damaged.contains (key, ver)

-- ---------------------------------------------------------------------------------------------------------------
-- PUT_SEGMENT (R472 to R474)

def putSegment (e : List Byte) : Nat := numAt e 32 4
def putTiles (e : List Byte) : Nat := ceilDiv (entBufLen e) 4096

/-- The tiles of a segment enter their slots with their trailers (R143, R370, R371). -/
def State.ingest (s : State) (hash : List Byte) (n len : Nat) (slots : List Nat) (data : List Byte) : State :=
  let last := slots.length - 1
  (List.range slots.length).foldl (fun t i =>
    let valid := if i = last then len - 4096 * last else 4096
    let b := tileBytes (slice data (4096 * i) valid) hash n i (if i = last then 8 else 0) valid t.disk.wseq
    let u := t.putTile (slots.getD i 0) b
    { u with disk := { u.disk with wseq := (u.disk.wseq + 1) % 2 ^ 32 } }) s

/-- The checks of R473 at the commit point. -/
def State.putStatus (s : State) (key ver tiles : Nat) : Nat :=
  match s.version key ver with
  | some v => if v.sealed.isSome then St.objSealed else if s.freeCapacity < tiles then St.noSpace else 0
  | none => if s.obj.versions.length ≥ 2 ^ 32 then St.objLimit else if s.freeCapacity < tiles then St.noSpace else 0

/-- The data are in the buffer: tiles are made, checked at the commit point and entered in the index (R36, R472, R473). Without
enough free slots the command waits before its commit point (R474). -/
def State.putCommit (s : State) (x : Slot) (data : List Byte) : State :=
  let e := x.entry
  let tiles := putTiles e
  match s.takeSlots tiles with
  | none => s.setSlot { x with stage := 1, data := data }
  | some slots =>
    let st := s.putStatus (entKey e) (entVersion e) tiles
    if st != 0 then s.endWith x st
    else
      let len := entBufLen e
      let s1 := (s.ingest (keyHash (slice e 8 16)) (putSegment e) len slots data).charge 9 1
      let k := s1.chooseActuator
      let s2 := s1.enterSegment (entKey e) (entVersion e) (putSegment e) tiles (len - 4096 * (tiles - 1)) x.order slots
      (s2.stat 0x8320 1 1).complete x.qid x.tag St.success (tiles + 65536 * k)

/-- The transfer of a PUT_SEGMENT of `tiles` tiles: class 1 for what comes from host memory; class 11 for the HDM window, whose lines are
read from DRAM and written to it again; and the trailer line of each tile, in the class of the last piece (R93, R470; assumption log
68). -/
def State.chargePieces (s : State) (ps : Pieces) (tiles : Nat) : State :=
  let s1 := ps.foldl (fun t p => if p.1 = 1 then t.charge 11 (2 * linesOf p.2.2) else t.charge 1 (linesOf p.2.2)) s
  s1.charge (if (ps.getLastD (0, 0, 0)).1 = 1 then 11 else 1) tiles

/-- The transfer of a result of class 0 to a buffer: the lines read from DRAM; those written to the HDM window count as they are written
(R93, R470). -/
def State.chargeOut (s : State) (ps : Pieces) : State :=
  ps.foldl (fun t p => t.charge 0 (linesOf p.2.2)) s

/-- The unflushed tiles of a version that a SEAL or VERIFY hashes from the buffer: 65 lines each of class 12, since R470 names no class
for them (assumption log 68). -/
def State.chargeHash (s : State) (v : Version) : State :=
  s.charge 12 (65 * (v.segs.filter (fun g => !g.durable)).foldl (fun a g => a + g.tiles) 0)

/-- PUT_SEGMENT of queue `q` and tag `t`; `h` is what its transfer from host memory finds. -/
def execPutSegment (q t : Nat) (h : HostData) (s : State) : Res :=
  match s.command q t 0x40 with
  | none => .next s
  | some x =>
    let e := x.entry
    let st := s.objectCheck e h (entFlags e = 0 && putSegment e ≤ 0xFFFFFF && entZero e 36 12) [1, 2, 3]
      (fun n => 1 ≤ n && n ≤ 1048576)
    let ps := bufferPieces e h
    if st != 0 then (s.endWith x st).done
    else if !s.transferOk ps h then (s.endWith x St.transferError).done
    else
    let s := s.obtainPieces ps h.held
    if s.bufferPoisoned ps then (s.endWith x St.intPoison).done
    else ((s.chargePieces ps (putTiles e)).putCommit x (s.readBuffer ps h.data)).done

/-- Media writes have freed tile slots: the PUT_SEGMENTs that wait proceed, in the order of their acceptance (R474). -/
def execTilePoolSlotFree (s : State) : Res :=
  State.done ((s.qmg.slots.filter (fun x => x.stage = 1 && entOpcode x.entry = 0x40)).foldl
    (fun t x => t.putCommit x x.data) s)

-- ---------------------------------------------------------------------------------------------------------------
-- SEAL (R476 to R478)

/-- The commit point of SEAL: its record, and a RETENTION record when its class sets one. -/
def State.sealCommit (s : State) (x : Slot) (v : Version) (digest : List Byte) : State :=
  let e := x.entry
  let size := numAt e 32 8
  let ctime := numAt e 40 8
  let rclass := entFlags e % 256
  let k := s.homeStream
  let seq := s.obj.nextSeq
  let s1 := s.issue k x.order (.seal v.key v.ver size ctime digest v.segs.length rclass)
  let v1 := { v with sealed := some ⟨size, ctime, digest, v.segs.length, rclass, seq⟩ }
  let days := if rclass = 0 then 0 else s.dictNum 0x5300 rclass
  let till := (ctime + 86400000000 * days) % 2 ^ 64
  let s2 := if days = 0 then (s1.setVersion v1).charge 9 1
    else
      let later : Bool := match v.lock with | some (u, _, _) => till > u | none => true
      let t := s1.issue k x.order (.retention v.key v.ver till rclass)
      (t.setVersion (if later then { v1 with lock := some (till, rclass, seq + 1) } else v1)).charge 9 2
  (s2.stat 0x8320 2 1).complete x.qid x.tag St.success (numAt digest 0 8)

/-- SEAL of queue `q` and tag `t`. With `ends` false its lookup is made and its hash begins; with `ends` true the hash ends and
the commit point follows. OBJ_CHANGED tells of a segment that passed a commit point between the two. -/
def execSeal (q t : Nat) (h : HostData) (ends : Bool) (s : State) : Res :=
  match s.command q t 0x41 with
  | none => .next s
  | some x =>
    let e := x.entry
    let st := s.objectCheck e h (entFlags e < 256 && numAt e 32 8 ≤ 2 ^ 44) [0] (fun _ => true)
    if st != 0 then (s.endWith x st).done
    else match s.version (entKey e) (entVersion e) with
      | none => (s.endWith x St.objNotFound).done
      | some v =>
        if s.damagedVersion v.key v.ver then (s.endWith x St.intIndex).done
        else if x.stage = 0 && v.end_ > numAt e 32 8 then (s.endWith x St.objSize).done
        else if !ends || s.mustWait v 0 (numAt e 32 8) then
          (if x.stage = 0 then s.setSlot { x with stage := 3, data := leBytes 8 v.changes } else s).done
        else if v.sealed.isSome then (s.endWith x St.objSealed).done
        else if x.stage = 3 && leNat x.data != v.changes then ((s.stat 0x8320 6 1).endWith x St.objChanged).done
        else
          let (s1, st1, bs) := ((s.chargeReads 4 v 0 (numAt e 32 8)).chargeHash v).readRange v 0 (numAt e 32 8)
          if st1 != 0 then (s1.endWith x st1).done else (s1.sealCommit x v (sha256 bs)).done

-- ---------------------------------------------------------------------------------------------------------------
-- GET_RANGE (R479, R480)

/-- The end of the object as GET_RANGE and STAT report it: SIZE when sealed, else the end of the highest segment. -/
def Version.size (v : Version) : Nat := match v.sealed with | some x => x.size | none => v.end_

/-- A byte of the range comes from an unflushed segment. -/
def Version.touchesUnflushed (v : Version) (off n : Nat) : Bool :=
  v.segs.any (fun g => !g.durable && 1048576 * g.num < off + n && off < 1048576 * g.num + g.bytes)

-- ---------------------------------------------------------------------------------------------------------------
-- STAT and LIST (R481 to R484)

/-- The STATE byte of R481. -/
def State.versionState (s : State) (v : Version) : Nat :=
  b2n v.sealed.isSome + 2 * b2n (s.lockUnexpired v) + 4 * b2n (v.segs.any (fun g => !g.durable))

/-- The 128 bytes of R481. -/
def State.statRecord (s : State) (v : Version) : List Byte :=
  let z : Seal := v.sealed.getD ⟨v.end_, 0, zeros 32, 0, 0, 0⟩
  keyBytes v.key ++ leBytes 8 v.ver ++ leBytes 8 v.size ++ leBytes 8 z.ctime ++ slice z.sha 0 32 ++ leBytes 4 v.segs.length
    ++ leBytes 1 (match v.lock with | some (_, c, _) => c | none => z.rclass) ++ leBytes 1 (s.versionState v) ++ zeros 2
    ++ leBytes 8 (match v.lock with | some (u, _, _) => u | none => 0) ++ leBytes 8 v.unflushed ++ zeros 32

/-- An entry of a LIST (R483). -/
def State.listEntry (s : State) (v : Version) : List Byte :=
  let z : Seal := v.sealed.getD ⟨0, 0, [], 0, 0, 0⟩
  keyBytes v.key ++ leBytes 8 v.ver ++ leBytes 8 v.size ++ leBytes 8 z.ctime ++ leBytes 1 (s.versionState v)
    ++ leBytes 1 (match v.lock with | some (_, c, _) => c | none => z.rclass) ++ zeros 6

/-- The cookie used least recently. -/
def oldestCookie (l : List Cookie) : Option Cookie :=
  l.foldl (fun a c => match a with | none => some c | some b => if c.usedUs < b.usedUs then some c else some b) none

/-- A new cookie; a 4,097th evicts the least recently used (R484). -/
def State.newCookie (s : State) (pos : Pos) : State :=
  let id := s.obj.nextCookie
  let s1 := if s.obj.cookies.length ≥ 4096 then
      match oldestCookie s.obj.cookies with
      | some o => ({ s with obj := { s.obj with cookies := s.obj.cookies.filter (fun c => c.id != o.id) } }).stat 0x8320 8 1
      | none => s
    else s
  { s1 with obj := { s1.obj with cookies := s1.obj.cookies ++ [⟨id, pos, s1.pwr.timeUs⟩], nextCookie := id + 1 } }

/-- A version lies beyond a position. -/
def Pos.reaches (p : Pos) (v : Version) : Bool :=
  (Version.new p.key p.ver).before v || (p.here && v.key == p.key && v.ver == p.ver)

/-- The versions a LIST or a MIGRATE finds from a position on (R482, R484, R558). -/
def State.listing (s : State) (key bits : Nat) (unsealed : Bool) (pos : Option Pos) : List Version :=
  s.obj.versions.filter (fun v =>
    v.key / 2 ^ (128 - bits) == key / 2 ^ (128 - bits) && (unsealed || v.sealed.isSome)
      && (match pos with | some c => c.reaches v | none => true))

/-- Cookies unused for 600 s are released (R484). -/
def execCookieExpiry (s : State) : Res :=
  .next { s with obj := { s.obj with cookies := s.obj.cookies.filter (fun c => s.pwr.timeUs < c.usedUs + 600000000) } }

-- ---------------------------------------------------------------------------------------------------------------
-- DELETE and SET_RETENTION (R485 to R487)

/-- The SEAL and RETENTION records of a version that leaves are not written, unless a FLUSH waits for them: its SEGMENT records may have
gone with it (R154). -/
def State.dropSeal (s : State) (key ver : Nat) : State :=
  let mine (w : WaitRec) : Bool := match w.body with
    | .seal a b _ _ _ _ _ => a == key && b == ver
    | .retention a b _ _ => a == key && b == ver
    | _ => false
  { s with obj := { s.obj with recs := s.obj.recs.filter (fun w => !mine w || s.flushWaits w.order) } }

/-- A version is removed: its TOMBSTONE is issued and its sectors wait to become free (R475, R485). -/
def State.removeVersion (s : State) (v : Version) (order : Nat) : State :=
  let seq := s.obj.nextSeq
  let s1 := s.issue s.homeStream order (.tombstone v.key v.ver)
  let s2 := (v.segs.foldl (fun t g => t.retireSeg g seq) s1).dropSeal v.key v.ver
  let s3 := (s2.dropVersion v.key v.ver).charge 9 1
  { s3 with obj := { s3.obj with damaged := s3.obj.damaged.filter (· != (v.key, v.ver)) } }

def execDelete (q t : Nat) (h : HostData) (s : State) : Res :=
  match s.command q t 0x45 with
  | none => .next s
  | some x =>
    let e := x.entry
    let st := s.objectCheck e h (entFlags e = 0 && entZero e 32 16) [0] (fun _ => true)
    if st != 0 then (s.endWith x st).done
    else match s.version (entKey e) (entVersion e) with
      | none => (s.endWith x St.objNotFound).done
      | some v =>
        if s.lockUnexpired v then ((s.stat 0x8320 5 1).endWith x St.objRetained).done
        else (((s.removeVersion v x.order).stat 0x8320 4 1).endWith x St.success).done

def execSetRetention (q t : Nat) (h : HostData) (s : State) : Res :=
  match s.command q t 0x46 with
  | none => .next s
  | some x =>
    let e := x.entry
    let till := numAt e 32 8
    let st := s.objectCheck e h (entFlags e < 256 && entZero e 40 8) [0] (fun _ => true)
    if st != 0 then (s.endWith x st).done
    else match s.version (entKey e) (entVersion e) with
      | none => (s.endWith x St.objNotFound).done
      | some v =>
        if v.sealed.isNone then (s.endWith x St.objNotSealed).done
        else if (match v.lock with | some (u, _, _) => decide (till ≤ u) | none => false) = true then
          (s.endWith x St.retentionNotExtended).done
        else
          let seq := s.obj.nextSeq
          let s1 := s.issue s.homeStream x.order (.retention v.key v.ver till (entFlags e))
          (((s1.setVersion { v with lock := some (till, entFlags e, seq) }).charge 9 1).endWith x St.success).done

-- ---------------------------------------------------------------------------------------------------------------
-- VERIFY (R488, R489)

/-- VERIFY of queue `q` and tag `t`; `laddered` is how many of its tiles reached L1 or beyond. -/
def execVerify (q t : Nat) (h : HostData) (laddered : Nat) (s : State) : Res :=
  match s.command q t 0x47 with
  | none => .next s
  | some x =>
    let e := x.entry
    let st := s.objectCheck e h (entFlags e = 0 && entZero e 32 16) [0] (fun _ => true)
    if st != 0 then (s.endWith x st).done
    else match s.readVersion x with
      | none =>
        (s.endWith x (if s.damagedVersion (entKey e) (entVersion e) then St.intIndex else St.objNotFound)).done
      | some v =>
        match v.sealed with
        | none => (s.endWith x St.objNotSealed).done
        | some z =>
          if s.damagedVersion v.key v.ver then (s.endWith x St.intIndex).done
          else if s.mustWait v 0 z.size then .next (s.holdLookup x v)
          else
            let (s1, st1, bs) := (((s.chargeReads 4 v 0 z.size).chargeHash v).charge 9 1).readRange v 0 z.size
            if st1 != 0 then (s1.endWith x st1).done
            else if sha256 bs != z.sha then ((s1.stat 0x8320 7 1).endWith x St.intHash).done
            else
              let tiles := v.segs.foldl (fun a g => a + g.tiles) 0
              (s1.complete x.qid x.tag St.success (tiles % 2 ^ 32 + 2 ^ 32 * min laddered 0xFFFF)).done

-- ---------------------------------------------------------------------------------------------------------------
-- FLUSH (R445, R446, R490)

/-- FLUSH takes its coverage: every command accepted before it; it waits for them. -/
def execFlush (q t : Nat) (h : HostData) (s : State) : Res :=
  match s.command q t 0x48 with
  | none => .next s
  | some x =>
    let st := s.objectCheck x.entry h (entZero x.entry 4 44) [0] (fun _ => true)
    if st != 0 then (s.endWith x st).done else .next (s.setSlot { x with stage := 3 })

/-- Everything a FLUSH covers is on the media or has failed: the stripes that hold what it covers are closed (R131) and the FLUSH
completes. One that could not be closed holds the completion, until its media domain has been out of service for 30 s (R32) or the
device is in its safe state (R611): the stripes that can be closed are, and the status is MEDIA_UNAVAILABLE. -/
def execFlushComplete (q t : Nat) (s : State) : Res :=
  match s.command q t 0x48 with
  | none => .next s
  | some x =>
    if x.stage != 3 then .next s
    else match s.flushOutcome x.order with
      | none => .next s
      | some st =>
        let left := s.obj.openStripes.filter (fun g => !s.closable g)
        if left.isEmpty || st = St.mediaUnavailable then (s.closeStripes.endWith x st).done
        else if s.isSet Fld.FCL_STATUS_SAFE || left.any (fun g => s.mediaTimedOut (actuatorOf (psaSurface g))) then
          (s.closeStripes.endWith x (if st = 0 then St.mediaUnavailable else st)).done
        else .next s

end Sys2Proof.Machine
end

