-- ==== Sys2Proof/Machine/WritePath.lean ====
section
/-!
DEFINITION. The write path and the preamp (spec/07), journal and checkpoint writes and reallocation (R146, R150 to R162,
R232 to R235, R704).
Choices: assumption log 14, 15, 20, 63, 71.
-/
namespace Sys2Proof.Machine
open Sys2Proof

-- ---------------------------------------------------------------------------------------------------------------
-- The preamp (R250 to R258)

/-- Bit 9 is released once PAk_FLT_N is high and FAULT has been read (R263). -/
def State.faultSeen (s : State) (k : Nat) : State :=
  if !(s.pre k).fltLow && (s.pre k).faultRead then s.uninhibit k 9 else s

-- ---------------------------------------------------------------------------------------------------------------
-- Preamp faults (R269, R270)

/-- PAk_FLT_N goes low: FAULT is read within 2 µs, logged in PRE_FLT, and its sources are raised; bit 9 holds writes. A head with a writer
fault takes no new segments; one with a reader fault stays in use (R270).
`answered` is false when the preamp does not respond. -/
def execPreampFault (k fault : Nat) (answered : Bool) (s : State) : Res :=
  let p := s.pre k
  let s1 := (s.setPre k { p with fltLow := true, faultRead := answered, mute := !answered }).inhibit k 9
  let s2 := ((s1.bumpF (Fld.PRE_FLT_COUNT k) 1).setF (Fld.PRE_FLT_HEAD k) p.head).preampFrame k true 9 0
  .next (if !answered then s2.raise (258 + 16 * k) 0 0
    else
      let f := s2.setF (Fld.PRE_FLT_FAULT k) fault
      let h := 12 * k + p.head
      let f1 := if bitOf fault 0 || bitOf fault 1 || bitOf fault 5 then
          ({ f with obj := { f.obj with closedHeads := insertNat h f.obj.closedHeads } }).raise (256 + 16 * k) 0 0
        else f
      let f2 := if bitOf fault 2 then f1.raise (257 + 16 * k) 0 0 else f1
      let f3 := if bitOf fault 3 then f2.raise (258 + 16 * k) 0 0 else f2
      if bitOf fault 4 then f3.raise (259 + 16 * k) 0 0 else f3)

/-- PAk_FLT_N goes high again: bit 9 is released once FAULT has been read (R263). -/
def execFltNRelease (k : Nat) (s : State) : Res :=
  .next ((s.setPre k { s.pre k with fltLow := false }).faultSeen k)

-- ---------------------------------------------------------------------------------------------------------------
-- Writing a sector (R259 to R266)

/-- The actuator can write the sector once write-inhibit allows: its domain is in service, its head is selected and settled,
no cut waits, and the sector is not under recovery (R225). -/
def State.canWrite (s : State) (k psa : Nat) : Bool :=
  !s.mediaOut k && !s.offTrack k && !s.underRecovery psa && !(s.chn k).cut && !(s.pre k).settling
    && 12 * k + (s.pre k).head == psaSurface psa

/-- A tile fails its check before the media write (R37, R372): neither it nor the rest of its segment is written, and the
segment stays invisible. -/
def State.refuseJob (s : State) (k seq slot : Nat) : State :=
  let s1 := (s.gateLow k).tileFails slot
  let c := s1.chn k
  let s2 := s1.setChn k { c with ops := c.ops.filter (fun o => o.seq != seq) }
  { s2 with obj := { s2.obj with
      jobs := s2.obj.jobs.map (fun j => if j.seq == seq then { j with refused := true } else j),
      recs := s2.obj.recs.filter (fun w => w.seq != seq) } }

/-- The sector of the front operation is on the media: its tile is no longer to be written. Its transfer is charged to class 3
(R470). `first` and `last` tell whether the gate asserts before it and deasserts after it. -/
def State.sectorDone (s : State) (k : Nat) (o : WriteOp) (tile : List Byte) (first last : Bool) : State :=
  let s1 := (s.putSectorIn o.psa tile first last).charge 3 65
  let c := s1.chn k
  let s2 := s1.setChn k { c with ops := c.ops.tail }
  { s2 with obj := { s2.obj with jobs := s2.obj.jobs.map (fun j =>
      if j.seq == o.seq then { j with begun := true, tiles := j.tiles.filter (fun p => p.1 != o.tile) } else j) } }

/-- The operation behind the front one is the next sector on the track, with no servo field between: the gate stays asserted (R261). -/
def State.runsOn (s : State) (k psa : Nat) : Bool :=
  match (s.chn k).ops with
  | _ :: o :: _ => s.joined psa o.psa && !s.defective o.psa
  | _ => false

/-- Inhibit source `bit` becomes active at bit `n` of a sector being written, or is active where its resync field would begin: the bits
before it stay on the media, the sector no longer decodes, and the write is cut (R262, R264, R266). -/
def State.sectorCut (s : State) (k : Nat) (o : WriteOp) (tile : List Byte) (first : Bool) (bit n : Nat) : State :=
  let part := s.sectorOuts o.psa (cutRuns (s.sectorRuns o.psa tile) n) first false
  let open_ := insertNat (stripeOf o.psa) s.obj.openStripes
  let s1 := { s with out := part.reverse ++ s.out, disk := { s.disk with sectors := Assoc.del s.disk.sectors o.psa },
                     obj := { s.obj with openStripes := open_ } }
  if 4 ≤ bit && bit ≤ 8 then (s1.inhibitBoth bit).settle else (s1.inhibit k bit).settle

/-- Name sector `to` for tile `t` of a job's segment: its extents are split, in the index and in its record (R267). -/
def State.moveTile (s : State) (j : Job) (t dest : Nat) : State :=
  match s.version j.key j.ver with
  | none => s
  | some v =>
    match v.seg j.seg with
    | none => s
    | some g =>
      if g.seq != j.seq then s
      else
        let ext := s.extentsOf ((s.segPsas g).set t dest) 0 none
        let s1 := s.setVersion { v with segs := putSeg v.segs { g with extents := ext } }
        { s1 with obj := { s1.obj with recs := s1.obj.recs.map (fun w =>
          if w.seq == j.seq then { w with body := .segment j.key j.ver j.seg g.tiles g.lastValid ext } else w) } }

/-- The extents of a job's segment as its record stands. -/
def State.jobExtents (s : State) (j : Job) : List Extent :=
  match s.obj.recs.find? (fun w => w.seq == j.seq) with
  | some w => (match w.body with | .segment _ _ _ _ _ ext => ext | _ => [])
  | none => []

/-- The segment needs more than 32 extents: it is written again whole, to new extents (R267). -/
def State.rewriteSegment (s : State) (k : Nat) (j : Job) : State :=
  match s.version j.key j.ver with
  | none => s
  | some v =>
    match v.seg j.seg with
    | none => s
    | some g =>
      let psas := s.allocate k g.tiles
      let ext := s.extentsOf psas 0 none
      let ok := psas.length = g.tiles && ext.length ≤ 32
      let todo := (List.range g.tiles).map (fun t => (t, j.slots.getD t 0, psas.getD t 0))
      let s1 := s.setVersion { v with segs := putSeg v.segs { g with extents := if ok then ext else [] } }
      let s2 := { s1 with obj := { s1.obj with
        recs := s1.obj.recs.map (fun (w : WaitRec) =>
          if w.seq == j.seq then { w with body := .segment j.key j.ver j.seg g.tiles g.lastValid ext } else w),
        jobs := s1.obj.jobs.map (fun (x : Job) => if x.seq == j.seq then { x with tiles := todo, noSector := !ok } else x) } }
      let c := s2.chn k
      let rest := c.ops.filter (fun (o : WriteOp) => o.seq != j.seq)
      s2.setChn k { c with ops := rest ++ (if ok then todo.map (fun p => WriteOp.mk j.seq p.1 p.2.2 0) else []) }

/-- The sector of the front operation has come onto the defect list since it was taken: another free one takes its tile, or none can
(R148, R473, R490). -/
def State.dodgeDefect (s : State) (k : Nat) (o : WriteOp) (j : Job) : State :=
  match s.allocate k 1 with
  | dest :: _ =>
    let c := s.chn k
    let s1 := s.setChn k { c with ops := { o with psa := dest } :: c.ops.tail }
    let s2 := { s1 with obj := { s1.obj with jobs := s1.obj.jobs.map (fun (x : Job) => if x.seq == j.seq then
      { x with tiles := x.tiles.map (fun (p : Nat × Nat × Nat) => if p.1 == o.tile then (p.1, p.2.1, dest) else p) } else x) } }
    let s3 := s2.moveTile j o.tile dest
    if (s3.jobExtents j).length > 32 then s3.rewriteSegment k j else s3
  | [] =>
    let s1 := s.setChn k { s.chn k with ops := (s.chn k).ops.filter (fun (x : WriteOp) => x.seq != o.seq) }
    { s1 with obj := { s1.obj with jobs := s1.obj.jobs.map (fun (x : Job) => if x.seq == o.seq then { x with noSector := true } else x) } }

/-- The next sector of actuator k reaches its sampling cycle (R262). With write-inhibit active it counts as cut; else its tile
is checked (R372), the gate asserts and the sector is written, or it runs on from the sector before it over the gap (R261). `cut` is an
inhibit source that becomes active while the gate is asserted for this sector, and the number of its bits written by then. -/
def execSectorWrite (k : Nat) (cut : Option (Nat × Nat)) (s : State) : Res :=
  .next (match (s.chn k).ops with
    | [] => s
    | o :: _ =>
      if !s.canWrite k o.psa then s
      else if s.inhibited k then s.writeCut k |>.settle
      else match s.obj.jobs.find? (fun j => j.seq == o.seq) with
        | none => s
        | some j =>
          if s.defective o.psa then (s.gateLow k).dodgeDefect k o j else
          let slot := j.slots.getD o.tile 0
          let s := s.readSlot slot
          if !s.tileGood slot (some (tagOf (keyHash (keyBytes j.key)) j.seg o.tile)) then s.refuseJob k o.seq slot
          else
            let s1 := if (s.pre k).mode = 3 then s else s.preampSet k 1 3 []
            let s2 := s1.useZone k o.psa
            let first := !(s2.chn k).wgate
            let s3 := if first then s2.setChn k { s2.chn k with wgate := true } else s2.writeGap k o.psa
            let s4 := s3.setF (Fld.CHN_STATUS_STATE k) 2
            match cut with
            | some (bit, n) => if bit > 12 then s4 else s4.sectorCut k o (s4.tileAt slot) first bit n
            | none =>
              let more := s4.runsOn k o.psa
              let s5 := s4.sectorDone k o (s4.tileAt slot) first (!more)
              if more then s5 else (s5.setChn k { s5.chn k with wgate := false }).setF (Fld.CHN_STATUS_STATE k) 0)

/-- The gate monitor finds PAk_WGATE high against the sequencer (R195): it is forced low, bit 11 holds writes, source 211 or
227 is raised. -/
def execGateMonitorMismatch (k : Nat) (s : State) : Res :=
  let s1 := (s.gateLow k).setChn k { (s.gateLow k).chn k with gateFault := true }
  .next ((s1.inhibit k 11).raise (211 + 16 * k) 0 0)

/-- Write-inhibit source `bit` of R263 becomes active: bits 4 to 8 on both actuators, the others on actuator k. -/
def execWriteInhibit (k bit : Nat) (s : State) : Res :=
  .next (if bit > 12 then s
    else if 4 ≤ bit && bit ≤ 8 then (s.inhibitBoth bit).settle
    else (s.inhibit k bit).settle)

/-- Every source is released on actuator k: firmware clears its own, bit 12, when that alone is left and no injection holds it (R263, R300;
DEDUCED, log 82), and the cut sector is written again, with the later ones behind it, unless it has had all its rewrites (R266, R267). -/
def execInhibitRelease (k : Nat) (s0 : State) : Res :=
  let s := if s0.inhibits k = 4096 && s0.cle.inject.isNone then s0.uninhibit k 12 else s0
  let c := s.chn k
  .next (if s.inhibited k || !c.cut then s
    else match c.ops with
      | [] => s.setChn k { c with cut := false }
      | o :: t =>
        if o.rewrites ≥ s.dictNum (0x3500 + k) 5 then s
        else s.setChn k { c with cut := false, ops := { o with rewrites := o.rewrites + 1 } :: t })

-- ---------------------------------------------------------------------------------------------------------------
-- Spare sectors (R161, R235, R267)

/-- A free sector of a zone's spare tracks; one that is under recovery is not written (R225). -/
def State.spareIn (s : State) (h : Nat) (z : Zone) : Option Nat :=
  let used := s.usedSectors
  (scanZones [(h, z)] true (fun p => used.contains p || s.blockedStripes.contains (stripeOf p)
    || s.dec.ladders.any (fun l => l.psa == p)) 1).head?

/-- Zones of a surface of the same type as `z`, nearest first. -/
def nearZones (l : List Zone) (z : Zone) : List Zone :=
  let dist (x : Zone) : Nat := (x.zone - z.zone) + (z.zone - x.zone)
  (List.range 64).flatMap (fun d => l.filter (fun x => x.kind == z.kind && dist x == d))

/-- A spare sector on the surface of a sector: of its zone, else of the nearest zone of its type. -/
def State.spareFor (s : State) (psa : Nat) : Option Nat :=
  match s.surfaceOf (psaSurface psa), s.zoneAt psa with
  | some f, some z => (nearZones f.zones z).findSome? (s.spareIn f.head)
  | _, _ => none

/-- A spare sector on another surface: the nearest heads of the same actuator, then those of the other, while it may write (R267). -/
def State.spareElsewhere (s : State) (psa : Nat) : Option Nat :=
  match s.zoneAt psa with
  | none => none
  | some z =>
    let h0 := psaSurface psa
    let open_ := s.media.surfaces.filter (fun f => f.head != h0 && !s.obj.closedHeads.contains f.head)
    let dist (h : Nat) : Nat := (h - h0) + (h0 - h)
    let own := (List.range 12).flatMap (fun d => open_.filter (fun f => actuatorOf f.head == actuatorOf h0 && dist f.head == d))
    let other := open_.filter (fun f => actuatorOf f.head != actuatorOf h0 && s.mediaWritable (actuatorOf f.head))
    (own ++ other).findSome? (fun f => (nearZones f.zones z).findSome? (s.spareIn f.head))

-- ---------------------------------------------------------------------------------------------------------------
-- Relocation (R161, R162, R232, R233, R267)

/-- The tile that the index maps to a sector: version, segment and tile. -/
def State.ownerOf (s : State) (psa : Nat) : Option (Version × Seg × Nat) :=
  s.obj.versions.findSome? (fun v => v.segs.findSome? (fun g =>
    ((List.range g.tiles).find? (fun t => s.tilePsa g t == some psa)).map (fun t => (v, g, t))))

/-- A PSA joins the grown defect list, by a DEFECT record (R161 step 3, R162). TIME is the current time (R111, R163). It may be the last that a
journal sequence had free (R704). -/
def State.addDefect (s : State) (psa reason : Nat) : State :=
  if s.defective psa then s
  else
    let s1 := s.issue (actuatorOf (psaSurface psa)) 0 (.defect psa reason)
    let s2 := { s1 with obj := { s1.obj with defects := s1.obj.defects ++ [Defect.mk psa reason s1.utc] } }
    (s2.journalCheck 0).journalCheck 1

/-- A write of sector `psa` that firmware makes is cut by inhibit source `bit`, released again since: what was written of it by then, a
free number of bits, stays on the media and does not decode; CUT, FIRST, the count and source 261 or 277, and the sectors beside it (R262,
R264, R266, R268; assumption log 15). -/
def State.firmwareCut (psa : Nat) (blk : List Byte) (s0 : State) (bit : Nat) : State :=
  let k := actuatorOf (psaSurface psa)
  let s := s0.standOn psa
  let part := s.sectorOuts psa (cutRuns (s.sectorRuns psa blk) (s.freeWord.toNat % 36672)) true false ++ [Out.wgate k false 0]
  let open_ := if s.rootTrackAt (psaSurface psa) (psaTrack psa) then s.obj.openStripes else insertNat (stripeOf psa) s.obj.openStripes
  let s1 := { s.useFree with out := part.reverse ++ s.out, disk := { s.disk with sectors := Assoc.del s.disk.sectors psa },
                             obj := { s.obj with openStripes := open_ } }
  let s2 := ((s1.setF (Fld.PRE_WINH_CUT k) 1).setF (Fld.PRE_WINH_FIRST k) bit).stat (0x8130 + k) (1 + bit) 1
  let near := if bit = 2 || bit = 4 then s2.besides psa else []
  (s2.setChn k { s2.chn k with adjacent := (s2.chn k).adjacent ++ near }).send (261 + 16 * k) 0 0

/-- The sources in `cuts` have cut the write of `blk` to a sector that firmware writes by itself, one after the other. Answers whether
it could be rewritten after that: not with more than WRITE_RETRIES cuts (R267). -/
def State.writeCuts (s : State) (psa : Nat) (blk : List Byte) (cuts : List Nat) : State × Bool :=
  ((cuts.foldl (State.firmwareCut psa blk) s).settle, decide (cuts.length ≤ s.dictNum (0x3500 + actuatorOf (psaSurface psa)) 5))

/-- As `writeCuts` for a journal, checkpoint, root or defect-list sector, which is left behind on the defect list with REASON 4 when it
cannot be rewritten (R162, R267). -/
def State.writeSurvives (s : State) (psa : Nat) (blk : List Byte) (cuts : List Nat) : State × Bool :=
  let (s1, ok) := s.writeCuts psa blk cuts
  if ok then (s1, true) else ((s1.addDefect psa 4).settle, false)

/-- The sector that takes a tile to be relocated: a spare sector of its surface; without one source 244 is raised, and only a write that was
cut too often goes to another surface (R161, R235, R267). -/
def State.takeSpare (s : State) (psa reason : Nat) : Option Nat × State :=
  match s.spareFor psa with
  | some d => (some d, s)
  | none =>
    let s1 := s.raise 244 0 0
    (if reason = 4 then s1.spareElsewhere psa else none, s1)

/-- The copy of a tile goes to sector `dest`, whose write the sources in `cuts` cut; when it is left behind for that, to the next spare
sector, with REASON 4 (R161, R266, R267). -/
def State.copyTo (s : State) (psa reason dest : Nat) (tile : List Byte) (cuts : List Nat) : Option Nat × State :=
  match cuts with
  | [] => (some dest, s.writeTile dest (tileStamp tile true))
  | _ =>
    let (s1, ok) := s.writeSurvives dest (tileStamp tile true s.disk.wseq) cuts
    if ok then (some dest, s1.writeTile dest (tileStamp tile true))
    else
      let (d, s2) := ((s1.stat (0x8130 + actuatorOf (psaSurface psa)) 14 1).send (262 + 16 * actuatorOf (psaSurface psa)) 0 0).settle.takeSpare psa (max reason 4)
      match d with
      | some q => (some q, s2.writeTile q (tileStamp tile true))
      | none => (none, s2)

/-- R161 for a tile whose segment is on the media: the copy with RELOC and a new WSEQ, then RELOC, then DEFECT. Without a
spare sector on the surface source 244 is raised and the reallocation is dropped (R235). When the index maps the tile elsewhere by
now, or another tile to the sector, only the DEFECT record is written (R233). A tile whose own write was cut too often counts in
0x8130 + k:0E and raises source 262 or 278 (R267). `cuts` are the inhibit sources that cut the write of the copy. -/
def State.relocate (s : State) (psa reason : Nat) (tile : List Byte) (cuts : List Nat) : State :=
  match s.ownerOf psa with
  | none => s.addDefect psa reason
  | some (v, g, t) =>
    if tileTag tile != tagOf (keyHash (keyBytes v.key)) g.num t then s.addDefect psa reason
    else
      let k := actuatorOf (psaSurface psa)
      match s.takeSpare psa reason with
      | (none, s0) => s0
      | (some d, s0) =>
        match s0.copyTo psa reason d tile cuts with
        | (none, s1) => s1
        | (some dest, s1) =>
          let seq := s1.obj.nextSeq
          let s2 := s1.issue k 0 (.reloc v.key v.ver g.num t psa dest)
          let s3 := s2.setVersion { v with segs := putSeg v.segs { g with relocs := g.relocs ++ [⟨t, psa, dest, seq⟩] } }
          let s4 := (s3.addDefect psa reason).stat (0x8120 + k) 8 1
          if reason = 4 then (s4.stat (0x8130 + k) 14 1).raise (262 + 16 * k) 0 0 else s4

/-- A sector is a stripe parity sector: its position alone tells, outside the root tracks (R128). -/
def State.isParity (s : State) (psa : Nat) : Bool :=
  stripePos psa ≥ 30 && !s.rootTrackAt (psaSurface psa) (psaTrack psa)

/-- A parity sector that reached REALLOC_STAGE: rewritten in place, or, the second time, listed, with its stripe closed to new
extents (R235). -/
def State.parityDue (s : State) (psa : Nat) : State :=
  if s.disk.parityHits.contains psa then s.addDefect psa 2
  else
    let s1 := { s with disk := { s.disk with parityHits := insertNat psa s.disk.parityHits } }
    s1.closeStripe (stripeOf psa)

/-- Data zones hold tiles that are relocated; sectors of journal zones are left behind instead (R162). -/
def State.dataSectorAt (s : State) (psa : Nat) : Bool :=
  match s.zoneAt psa with
  | some z => z.kind == 0
  | none => false

/-- The reallocation of a sector that recovery or scrub made due (R232 to R235); `cuts` are the inhibit sources that cut the write of the
copy. -/
def State.reallocate (s : State) (psa : Nat) (cuts : List Nat) : State :=
  let tile := ((Assoc.find s.dec.recovered psa).orElse (fun _ => Assoc.find s.disk.sectors psa)).getD []
  let s1 := { s with dec := { s.dec with due := s.dec.due.filter (fun x => x.1 != psa), recovered := Assoc.del s.dec.recovered psa } }
  if s1.isParity psa then s1.parityDue psa
  else if s1.dataSectorAt psa then s1.relocate psa 2 tile cuts
  else s1.addDefect psa 2

/-- The oldest reallocation that is due and whose actuator may write is carried out. One that scrub started is background work: it keeps
to the share of media time, of which it takes `wedges`, and its transfers are of class 7; `foreground` tells whether foreground
operations are queued (R101 to R104, R232). A parity sector waits until its stripe can be closed (R225). -/
def execReallocation (wedges : Nat) (foreground : Bool) (cuts : List Nat) (s : State) : Res :=
  let k (p : Nat × Bool) : Nat := actuatorOf (psaSurface p.1)
  let free := s.dec.due.filter (fun (p : Nat × Bool) => s.mediaWritable (k p) && (!s.isParity p.1 || s.closable (stripeOf p.1)))
  let cs := cuts.filter (· < 13)
  .next (match free.find? (fun p => !p.2 || s.bgAllowed (k p) wedges foreground) with
    | some p => if p.2 then ((s.reallocate p.1 cs).bgCharge (k p) wedges).charge 7 65 else (s.reallocate p.1 cs).charge 3 65
    | none => match free with
      | p :: _ => s.bgHold (k p)
      | [] => s)

/-- The front sector of actuator k is cut again after WRITE_RETRIES rewrites: its tile, checked as before every media write (R37), goes
to a spare sector with REASON 4, once its media domain is in service (R81, R267), the DEFECT record on the other actuator's stream (DESIGN
CHOICE, assumption log 82). Without a spare sector the tile stays in the buffer and the segment invisible. -/
def execWriteRetriesExhausted (k : Nat) (s : State) : Res :=
  let c := s.chn k
  .next (match c.ops with
    | [] => s
    | o :: t =>
      if !c.cut || o.rewrites < s.dictNum (0x3500 + k) 5 || !s.mediaWritable k then s
      else match s.obj.jobs.find? (fun (j : Job) => j.seq == o.seq) with
        | none => s.setChn k { c with cut := false, ops := t }
        | some j =>
          let s := s.readSlot (j.slots.getD o.tile 0)
          if !s.tileGood (j.slots.getD o.tile 0) (some (tagOf (keyHash (keyBytes j.key)) j.seg o.tile)) then
            (s.setChn k { c with cut := false }).refuseJob k o.seq (j.slots.getD o.tile 0)
          else
          match s.takeSpare o.psa 4 with
          | (none, s0) =>
            let s1 := s0.setChn k { s0.chn k with cut := false, ops := (s0.chn k).ops.filter (fun (x : WriteOp) => x.seq != o.seq) }
            { s1 with obj := { s1.obj with jobs := s1.obj.jobs.map (fun (x : Job) =>
                if x.seq == o.seq then { x with noSector := true } else x) } }
          | (some dest, s0) =>
            let s1 := s0.writeTile dest (tileStamp (s0.tileAt (j.slots.getD o.tile 0)) true)
            let s2 := s1.setChn k { s1.chn k with cut := false, ops := t }
            let dseq := s2.obj.nextSeq
            let s3 := s2.issue (1 - k) 0 (.defect o.psa 4)
            let s4 := { s3 with obj := { s3.obj with
              defects := s3.obj.defects ++ [Defect.mk o.psa 4 s3.utc],
              jobs := s3.obj.jobs.map (fun (x : Job) => if x.seq == o.seq then
                { x with begun := true, after := x.after ++ [dseq], tiles := x.tiles.filter (fun (p : Nat × Nat × Nat) => p.1 != o.tile) }
                else x) } }
            let s5 := ((s4.moveTile j o.tile dest).stat (0x8130 + k) 14 1).raise (262 + 16 * k) 0 0
            if (s5.jobExtents j).length > 32 then s5.rewriteSegment k j else s5)

-- ---------------------------------------------------------------------------------------------------------------
-- Journal and checkpoints (R150 to R160, R704)

/-- The records of stream k that have become ready are written in its next journal block (R154); without a sector for it R704
begins. A sector under recovery is waited for (R225). `cuts` are the inhibit sources that cut the write of that sector, one after the other; one that is left behind for it leaves the
block to the next sector. -/
def execJournalRecordWrite (k : Nat) (cuts : List Nat) (s : State) : Res :=
  .next (if k < 2 && s.obj.recovered && s.mediaWritable k && !((s.nextJournal k).any (fun x => s.underRecovery x.2)) then
      match cuts, s.nextJournal k, s.nextBlock k with
      | _ :: _, some (_, psa), some blk => ((s.writeSurvives psa blk (cuts.filter (· < 13))).1).writeJournal k
      | _, _, _ => s.writeJournal k
    else s)

/-- Write blocks of stream k until no record of it is ready, at most `n`. -/
def State.drainJournal (s : State) (k n : Nat) : State :=
  match n with
  | 0 => s
  | m + 1 => if (s.readyRecs k).isEmpty || (s.nextJournal k).any (fun x => s.underRecovery x.2) then s else (s.writeJournal k).drainJournal k m

/-- A journal sector of stream k has become free: the waiting records are written in SEQ order (R704). -/
def execJournalResume (k : Nat) (s : State) : Res :=
  .next (if (s.stream k).full && (s.nextJournal k).isSome && s.mediaWritable k && !((s.nextJournal k).any (fun x => s.underRecovery x.2)) then
      (s.setStream k { s.stream k with full := false }).drainJournal k s.obj.recs.length
    else s)

/-- CKPT_SEQ: the lowest SEQ issued whose record is not on the media, else the next one (R158 step 1). -/
def State.ckptSeq (s : State) : Nat := s.obj.recs.foldl (fun a w => min a w.seq) s.obj.nextSeq

/-- The index as the records below `q` on the media leave it, as records for a checkpoint (R158). -/
def State.snapshot (s : State) (q : Nat) : List (Nat × Rec) :=
  let l := sortRecs (s.obj.onMedia.filter (fun p => p.1 < q))
  let t := ({ s with obj := { s.obj with versions := [], defects := [] } }).replayAll l
  t.obj.versions.flatMap versionRecs

/-- `n` free journal sectors from the end of a journal sequence downward. -/
def State.placeBack (fuel : Nat) (s : State) (k i n : Nat) : List Nat :=
  match fuel with
  | 0 => []
  | f + 1 =>
    if n = 0 then []
    else match s.journalPsa k i with
      | none => []
      | some p => if s.journalFree p then State.placeBack f s k (i - 1) (n - 1) ++ [p] else State.placeBack f s k (i - 1) n

/-- The last `n` free sectors of the journal zones, outside the live journal and the checkpoint in force. -/
def State.lastFree (s : State) (n : Nat) : List Nat :=
  let a := State.placeBack (s.journalLen 0) s 0 (s.journalLen 0 - 1) n
  a ++ (if a.length < n then State.placeBack (s.journalLen 1) s 1 (s.journalLen 1 - 1) (n - a.length) else [])

/-- Sectors for `n` tiles of a checkpoint and its defect list, in at most 247 extents when the list starts a new one (R160): the last
free ones, or the longest free runs. -/
def State.ckptPlace (s : State) (n : Nat) : List Nat :=
  let a := s.lastFree n
  if (s.extentsOf a 0 none).length ≤ 246 then a else s.inExtents (s.lastFree (s.journalLen 0 + s.journalLen 1)) n 246

/-- The journal as it stands once a root with CKPT_SEQ `q` and the checkpoint sectors `ck` is in force: older blocks and the checkpoint
before are free (R159). -/
def State.rootInForce (s : State) (q : Nat) (ck : List Nat) : State :=
  let from_ (x : Stream) : Stream := { x with live := x.live.dropWhile (fun b => b.lastSeq < q) }
  { s with obj := { s.obj with stream0 := from_ s.obj.stream0, stream1 := from_ s.obj.stream1, ckptSectors := ck } }

/-- The journal head of stream k for a root with CKPT_SEQ `q`: its first block with a record at or above, else the next one. -/
def State.journalHead (s : State) (k q : Nat) : Nat × Nat :=
  match (s.stream k).live.find? (fun b => b.lastSeq ≥ q) with
  | some b => (b.psa, b.bseq)
  | none => (((s.nextJournal k).map (·.2)).getD (((s.journalPsa k (s.stream k).pos)).getD 0), (s.stream k).bseq)

/-- The live journal of stream k from block number `b` on. -/
def State.trimJournal (s : State) (k b : Nat) : State :=
  s.setStream k { s.stream k with live := (s.stream k).live.filter (fun x => x.bseq ≥ b) }

/-- ROOT_SEQ of the next root: the next one whose slot has no listed sector on either root track (R158, R159, R162). -/
def State.nextRootSeq (s : State) : Nat :=
  let t := match s.media.drive with | some d => d.rootTrack | none => 0
  let n := (match s.obj.root with | some x => x.rootSeq | none => 0) + 1
  n + (((List.range 16).find? (fun i => !s.defective (psaOf 0 t ((n + i) % 16)) && !s.defective (psaOf 12 t ((n + i) % 16)))).getD 0)

/-- A root is written to its slot on both root tracks, surface 0 first (R159). -/
def State.writeRoot (s : State) (r : Root) : State :=
  let t := match s.media.drive with | some d => d.rootTrack | none => 0
  let s1 := s.writeTile (psaOf 0 t (r.rootSeq % 16)) (rootTile r)
  s1.writeTile (psaOf 12 t (r.rootSeq % 16)) (rootTile r)

/-- A checkpoint is due: a record has been written since the last one, and 256 MiB of journal blocks or 60 s have passed (R157). -/
def State.checkpointDue (s : State) : Bool :=
  s.obj.recsSince && (4096 * s.obj.blocksSince ≥ 256 * mib || s.pwr.timeUs ≥ s.obj.ckptUs + 60000000)

/-- The steps of R158 and the root of R159. Its traffic in DRAM is charged to class 9 (R157). The copy of the defect list in bank 3 follows the
tiles of TYPE 5 (R163, R639; DESIGN CHOICE: the spec does not say when it is written, assumption log 69). -/
def State.takeCheckpoint (s : State) : State :=
  let q := s.ckptSeq
  let snap := s.snapshot q
  let w := s.disk.wseq
  let ck := checkpointTiles (snap.length + 1) snap 0 w
  let df := defectTiles (s.obj.defects.length + 1) s.obj.defects 0 (w + ck.length)
  let n := ck.length + df.length
  let psas := s.ckptPlace n
  if psas.length < n then s
  else
    let s1 := (s.writeTiles (psas.zip (ck ++ df))).charge 9 (65 * n)
    let s2 := (s1.obj.openStripes.filter (fun g => psas.any (fun p => stripeOf p == g))).foldl State.closeStripe s1
    let after := s2.rootInForce q psas
    let h0 := after.journalHead 0 q
    let h1 := after.journalHead 1 q
    let r : Root :=
      { rootSeq := s2.nextRootSeq, ckptSeq := q,
        ckpt := s2.runsOf (psas.take ck.length), ckptTiles := ck.length, defects := s2.runsOf (psas.drop ck.length),
        head0 := h0, head1 := h1, time := s2.utc }
    let s3 := ((s2.writeRoot r).trimJournal 0 h0.2).trimJournal 1 h1.2
    let s4 := { s3 with
      nvc := { s3.nvc with defectCopy := s3.obj.defects },
      obj := { s3.obj with
        root := some r, ckptSectors := psas, onMedia := snap ++ s3.obj.onMedia.filter (fun (p : Nat × Rec) => p.1 ≥ q),
        freeing := s3.obj.freeing.filter (fun (p : Nat × List Nat) =>
          s3.obj.recs.any (fun x => x.seq == p.1) || s3.obj.jobs.any (fun j => j.seq == p.1)),
        blocksSince := 0, recsSince := false, ckptUs := s3.pwr.timeUs } }
    (s4.journalCheck 0).journalCheck 1

/-- The sectors that the next checkpoint writes, in order, with what it writes: its tiles, then its root record on both root tracks (R158,
R159). -/
def State.checkpointSectors (s : State) : List (Nat × List Byte) :=
  let snap := s.snapshot s.ckptSeq
  let w := s.disk.wseq
  let ck := checkpointTiles (snap.length + 1) snap 0 w
  let tiles := ck ++ defectTiles (s.obj.defects.length + 1) s.obj.defects 0 (w + ck.length)
  let t := match s.media.drive with | some d => d.rootTrack | none => 0
  let slot := s.nextRootSeq % 16
  let root := match s.takeCheckpoint.obj.root with | some r => rootTile r (w + tiles.length) | none => []
  (s.ckptPlace tiles.length).zip tiles ++ [(psaOf 0 t slot, root), (psaOf 12 t slot, root)]

/-- A checkpoint waits while a sector that it writes, or the closing of one of its stripes, is under recovery (R225). -/
def State.checkpointWaits (s : State) : Bool :=
  s.checkpointSectors.any (fun p => s.underRecovery p.1 ||
    (!s.rootTrackAt (psaSurface p.1) (psaTrack p.1) && !s.closable (stripeOf p.1)))

/-- A checkpoint is taken when one is due and both actuators may write (R157 to R159, R475). `cut` names one of its sectors by number, and
the inhibit sources that cut its write: when they leave it behind, no root takes force and the next checkpoint goes elsewhere (R162,
R267). -/
def execCheckpoint (cut : Option (Nat × List Nat)) (s : State) : Res :=
  .next (if s.obj.recovered && s.checkpointDue && s.mediaWritable 0 && s.mediaWritable 1 && !s.checkpointWaits then
      match cut with
      | none => s.takeCheckpoint
      | some (i, cuts) =>
        match s.checkpointSectors[i]? with
        | none => s.takeCheckpoint
        | some (psa, blk) =>
          let (s1, ok) := s.writeSurvives psa blk (cuts.filter (· < 13))
          if ok then s1.takeCheckpoint else s1
    else s)

end Sys2Proof.Machine
end

