-- ==== Sys2Proof/Machine/Channel.lean ====
section
/-!
DEFINITION. Reading a sector: acquisition and mark search, alignment trials, the sample ring, the decoder pool, the checks of a
decoded codeword, and the sample store (R164 to R219).
Choices: assumption log 19, 63, 71, 72, 73.
-/
namespace Sys2Proof.Machine
open Sys2Proof

-- ---------------------------------------------------------------------------------------------------------------
-- Windows (R174, R187, R193)

/-- A half-width, widened by PRED_WIDEN for each consecutive predicted wedge, at most 64 (R193). -/
def State.widened (s : State) (k w : Nat) : Nat :=
  if (s.srv k).pred = 0 then w else min 64 (w + (s.srv k).pred * s.getF (Fld.CHN_MARKWIN_PRED_WIDEN k))

/-- W in force. -/
def State.markHalf (s : State) (k : Nat) : Nat := s.widened k (s.getF (Fld.CHN_MARKWIN_HALF k))
/-- RESYNC_HALF in force. -/
def State.resyncHalf (s : State) (k : Nat) : Nat := s.widened k (s.getF (Fld.CHN_MARKWIN_RESYNC_HALF k))

/-- The lengths of a sector's parts between servo fields, by the procedure of R119. -/
def State.partLengths (s : State) (psa : Nat) : List Nat :=
  match s.zoneAt psa with
  | some z => (sectorPieces z (startOf z (psaSector psa)).1 (startOf z (psaSector psa)).2 0).map (·.len)
  | none => [36672]

/-- Mark starts at the late end of the window whose mark would extend into a servo field (R192). -/
def clippedStarts (w : Nat) (parts : List Nat) : Nat :=
  match parts with
  | n :: _ :: _ => 160 + w - n
  | _ => 0

/-- CHN_CANDk for a sector that reached a verdict; `chosen` is the confirmed one. -/
def State.showCands (s : State) (k : Nat) (l : List Cand) (chosen : Option Nat) : State :=
  (List.range 4).foldl (fun t i =>
    match l[i]? with
    | none => t.setReg (Fld.CHN_CAND_VALID k i).addr 0
    | some c =>
      let t1 := ((t.setF (Fld.CHN_CAND_VALID k i) 1).setF (Fld.CHN_CAND_METRIC k i) c.metric).setF (Fld.CHN_CAND_OFFSET k i)
        (unsigned 8 c.offset)
      let t2 := (t1.setF (Fld.CHN_CAND_RESULT k i) c.result).setF (Fld.CHN_CAND_ALIKE k i)
        (b2n (alike (t1.getF (Fld.CHN_MARKTHR_MARGIN k)) l c))
      t2.setF (Fld.CHN_CAND_CHOSEN k i) (b2n (chosen == some i))) s

-- ---------------------------------------------------------------------------------------------------------------
-- Detection and decoding of a record (R182, R198 to R207)

/-- The 4 target and 48 equaliser taps that CHN k holds. -/
def State.tapsNow (s : State) (k : Nat) : List Nat :=
  let c := s.chn k
  (List.range 52).map (fun i =>
    let o := if i < 4 then 0x414 + 4 * i else 0x800 + 4 * (i - 4)
    if c.own.contains o then (s.reg (0x2000000 + 0x200000 * k + o)).toNat
    else c.taps.getD i (s.reg (0x2000000 + 0x200000 * k + o)).toNat)

/-- Taps and predictors of equaliser set `eqset` for a sector: those in use, or those of the sector's own tables. -/
def State.setFor (s : State) (k psa eqset : Nat) : List Nat × List Int :=
  let hz := s.zoneAt psa |>.map (fun z => (psaSurface psa, z.zone))
  let here := (s.chn k).zoneIn.isNone || (s.chn k).zoneIn = hz && s.getF (Fld.CHN_DETCFG_EQSET k) = eqset
  match hz.bind (fun h => s.chanTable (headZone h.1 h.2)) with
  | some t => if here then (s.tapsNow k, (s.chn k).preds) else (t.sets.getD eqset [], t.preds.map (signed 16))
  | none => (s.tapsNow k, (s.chn k).preds)

/-- The target of a tap list (R199). -/
def targetOf (x : List Nat × List Int) : Target := ⟨8192 :: (x.1.take 4).map (signed 16), x.2⟩
/-- The equaliser taps of a tap list (R198). -/
def equaliserOf (x : List Nat × List Int) : List Int := (x.1.drop 4).map (signed 12)

/-- Codeword bits in each part of a sector: `skip` bits of preamble and mark go before, and the pad follows. -/
def codeLengths (skip left : Nat) (parts : List Nat) : List Nat :=
  match parts with
  | [] => []
  | n :: t => min (n - skip) left :: codeLengths (skip - n) (left - min (n - skip) left) t

/-- The samples that the equaliser weighs at each codeword bit of a record, at an alignment: the codeword begins 32 bits after the mark
start, and goes on 32 bits after the start of each resync mark (R182, R187). -/
def State.codeWindows (s : State) (psa : Nat) (r : SampleRec) (offset : Int) (resync : List Int) : List (List (List Int)) :=
  (codeLengths 160 36480 (s.partLengths psa)).mapIdx (fun i n =>
    let at_ : Int := if i = 0 then r.width + 160 + offset else r.resyncWidth + 32 + resync.getD (i - 1) 0
    ((pieceWindows (r.pieces.getD i [])).drop at_.toNat).take n)

/-- Limits of R206 on actuator k: on the fly, or extended. -/
def State.limits (s : State) (k : Nat) (ext : Bool) : Nat × Nat :=
  match k, ext with
  | 0, false => (s.getF Fld.DEC_LIMITS_OTF_LOCAL, s.getF Fld.DEC_LIMITS_OTF_GLOBAL)
  | 0, true => (s.getF Fld.DEC_LIMITS_EXT_LOCAL, s.getF Fld.DEC_LIMITS_EXT_GLOBAL)
  | _, false => (s.getF Fld.DEC_LIMITS1_OTF_LOCAL, s.getF Fld.DEC_LIMITS1_OTF_GLOBAL)
  | _, true => (s.getF Fld.DEC_LIMITS1_EXT_LOCAL, s.getF Fld.DEC_LIMITS1_EXT_GLOBAL)

/-- The work of detector and decoder on a record at an alignment. -/
def State.jobFor (s : State) (k psa : Nat) (r : SampleRec) (offset : Int) (resync : List Int) (ext : Bool) : Job0 :=
  let set := s.setFor k psa r.eqset
  { target := targetOf set, parts := (s.codeWindows psa r offset resync).map (equalise (equaliserOf set)),
    bits := scramblerBits 36480 (scramblerSeed psa), scale := s.getF Fld.DEC_NORM_SCALE,
    l := (s.limits k ext).1, g := (s.limits k ext).2 }

/-- The record that a piece of work decodes: its own, or that of the sector in the ring. -/
def State.workRec (s : State) (w : Work) : Option SampleRec :=
  w.stored.orElse (fun _ => ((s.chn w.k).ring.find? (fun r => r.psa == w.psa && r.verdict == 0)).map (·.rec_))

/-- What a piece of work computes: ladder work at the extended limits, trials at those on the fly (R183, R220). -/
def State.workJob (s : State) (w : Work) : Option Job0 :=
  (s.workRec w).map (fun r => s.jobFor w.k w.psa r w.offset w.resync (w.stage != 0))

/-- The decode of a piece of work; without a record it does not converge. -/
def State.decodeOf (s : State) (w : Work) : MinSum :=
  match s.workJob w with
  | some j => j.run
  | none => ⟨[], [], 0, false⟩

-- ---------------------------------------------------------------------------------------------------------------
-- The decoder pool (R210 to R213)

/-- Instance i stops its decode at the end of the current global iteration, which is a free value, and its extrinsic LLRs drain to
DRAM under class 13, 428 tokens (R212). The decode goes on later from there. -/
def State.spill (s : State) (i : Nat) (old : Work) : State :=
  let job := s.workJob old
  let done := old.done + s.freeWord.toNat % max 1 ((s.limits old.k (old.stage != 0)).2 - old.done)
  let d := job.map (fun (j : Job0) => decodeAfter j done)
  let llrs := match d with | some x => x.ext.map (clampTo 31) | none => []
  let iters := match d with | some x => x.ms.iters | none => 0
  let s1 := { s.useFree with dec := { s.dec with
    waiting := s.dec.waiting ++ [{ old with resumed := true, done := done, iters := iters }], draining := s.dec.draining ++ [Spill.mk i old.k llrs] } }
  (s1.charge 13 428).stat (0x8120 + old.k) 10 1

/-- Instances take waiting work (R210 to R212): `n` steps at most. -/
def State.dispatch (s : State) (n : Nat) : State :=
  match n with
  | 0 => s
  | m + 1 =>
    match nextWork s.dec.waiting s.topClass with
    | none => s
    | some w =>
      match s.idleInst w.k with
      | some i => (s.takeWork i w).dispatch m
      | none =>
        if recovering w then s
        else match s.spillInst with
          | none => s
          | some i =>
            match s.dec.inst.getD i none with
            | none => s
            | some old => ((s.spill i old).takeWork i w).dispatch m

/-- Let the instances take what waits. -/
def State.dispatchAll (s : State) : State := s.dispatch (s.dec.waiting.length + 1)

/-- Add work and let the instances take it. -/
def State.addWork (s : State) (w : Work) : State :=
  ({ s with dec := { s.dec with waiting := s.dec.waiting ++ [w] } }).dispatchAll

/-- The decodes of a sector end without a result; the instances they leave take what waits (R211). -/
def State.cancelWork (s : State) (psa : Nat) : State :=
  let s1 := { s with dec := { s.dec with waiting := s.dec.waiting.filter (fun w => w.psa != psa) } }
  let s2 := (List.range 4).foldl (fun t n =>
    match t.dec.inst.getD n none with
    | some w => if w.psa == psa then t.setInst n none 0 else t
    | none => t) s1
  s2.dispatchAll

/-- A spill buffer has drained to DRAM: its instance may spill again (R212). -/
def execSpillDrainDone (n : Nat) (s : State) : Res :=
  let s1 := { s with dec := { s.dec with draining := s.dec.draining.filter (fun d => d.inst != n) } }
  .next s1.dispatchAll

/-- An instance has not finished within 4 times its limit time: source 242 (R249). -/
def execDecodeOvertime (n : Nat) (s : State) : Res :=
  .next (match s.dec.inst.getD n none with
    | some _ => s.raise 242 0 0
    | none => s)

-- ---------------------------------------------------------------------------------------------------------------
-- The sample store (R216 to R219)

/-- DEC_STORE follows the slots in use. -/
def State.setStore (s : State) (l : List StoreSlot) : State :=
  let used (k : Nat) : Nat := (l.filter (fun x => x.k == k)).length
  (({ s with dec := { s.dec with store := l } }).setF Fld.DEC_STORE_USED0 (used 0)).setF Fld.DEC_STORE_USED1 (used 1)

/-- Revolutions of a sector in the store. -/
def State.stored (s : State) (psa : Nat) : List StoreSlot := s.dec.store.filter (fun y => y.psa == psa)

/-- The slots of a sector are released (R217). -/
def State.releaseSlots (s : State) (psa : Nat) : State :=
  if (s.stored psa).isEmpty then s else s.setStore (s.dec.store.filter (fun y => y.psa != psa))

/-- The lowest slot not in use. -/
def State.freeSlot (s : State) : Nat :=
  ((List.range 2048).find? (fun n => !s.dec.store.any (fun y => y.slot == n))).getD 0

/-- What is copied of a record: its samples up to W behind the predicted end of the codeword (R185). -/
def State.copied (s : State) (psa : Nat) (r : SampleRec) : SampleRec :=
  let n := r.pieces.length - 1
  let code := (codeLengths 160 36480 (s.partLengths psa)).getD n 0
  let len := (if n = 0 then r.width + 160 else r.resyncWidth + 32) + code + r.width
  { r with pieces := r.pieces.mapIdx (fun i p => if i = n then p.map (·.take len) else p) }

/-- A revolution goes into a slot; its copy takes 1,920 transfers of class 5 (R185, R216). -/
def State.putSlot (s : State) (k psa kind : Nat) (r : SampleRec) (untried : Bool) : State :=
  (s.setStore (s.dec.store ++ [⟨s.freeSlot, k, psa, kind, s.copied psa r, untried⟩])).charge 5 1920

/-- A revolution of a sector goes to the store (R217, R218): with no slot free for the actuator, the oldest scrub or qualification
sector gives up its slots and its ladder, which starts again from L0 later; without one STORE_FULL counts and source 243 is raised. -/
def State.storeRev (s : State) (k psa kind : Nat) (r : SampleRec) (untried : Bool) : State :=
  if (s.stored psa).length ≥ 8 then s
  else if (s.dec.store.filter (fun y => y.k == k)).length < 1024 then s.putSlot k psa kind r untried
  else match s.dec.store.find? (fun y => y.k == k && y.kind ≥ 3) with
    | some old =>
      let t := (s.releaseSlots old.psa).cancelWork old.psa
      let t1 := { t with dec := { t.dec with ladders := t.dec.ladders.filter (fun l => l.psa != old.psa),
                                             erased := t.dec.erased.filter (· != old.psa),
                                             again := t.dec.again ++ [(old.psa, old.kind)] } }
      t1.putSlot k psa kind r untried
    | none => (s.stat (0x8120 + k) 9 1).raise 243 0 0

-- ---------------------------------------------------------------------------------------------------------------
-- Verdicts and erasures (R185, R186, R220)

/-- CHN_STATUS.RING follows the ring. -/
def State.setRing_ (s : State) (k : Nat) (l : List RingSector) : State :=
  (s.setChn k { s.chn k with ring := l }).setF (Fld.CHN_STATUS_RING k) (l.filter (fun r => r.verdict == 0 && !r.copied)).length

/-- A sector joins the recovery ladder: at most one ladder per PSA (R225). The positions of its stripe without a verdict are to be
read at L0 (R220). -/
def State.startLadder (s : State) (k psa kind : Nat) : State :=
  if s.dec.ladders.any (fun l => l.psa == psa) then s
  else
    let g := stripeOf psa
    let known (p : Nat) : Bool := s.dec.erased.contains p || s.dec.confirmed.contains p
    let unread := if s.rootTrackAt (psaSurface psa) (psaTrack psa) then []
                  else ((List.range 32).map (fun i => g + i)).filter (fun p => !known p)
    let u := unread.foldl (fun l p => insertNat p l) s.dec.unread
    { s with dec := { s.dec with
        ladders := s.dec.ladders ++ [⟨psa, k, kind, 1, 0, 0, none, [], false, true, false, false, none, false⟩], unread := u.filter (· != psa) } }

/-- A candidate of the record was not decoded, or it has none (R221). -/
def RingSector.untried (r : RingSector) : Bool := r.verdict = 1 || r.tried < r.rec_.cands.length

/-- A sector is erased for its stripe with verdict `v` (1 MARK_MISS, 2 DECODE_FAIL). Samples already in the store need no copy. -/
def State.erase (s : State) (k psa kind v : Nat) (r : RingSector) : State :=
  let s1 := if v = 1 then (s.bumpF (Fld.CHN_ERRCNT0_MARK_MISS k) 1) else s
  let s2 := (s1.stat (0x8120 + k) 1 1).showCands k r.rec_.cands none
  let s3 := { s2 with dec := { s2.dec with erased := insertNat psa s2.dec.erased, unread := s2.dec.unread.filter (· != psa),
                                           confirmed := s2.dec.confirmed.filter (· != psa) } }
  let r1 := { r with verdict := v }
  let s4 := if r.copied then
      (s3.setRing_ k ((s3.chn k).ring.filter (fun x => x.psa != psa))).setStore (s3.dec.store.map (fun y =>
        if y.psa == psa then { y with untried := r1.untried } else y))
    else s3.setRing_ k ((s3.chn k).ring.map (fun x => if x.psa == psa then r1 else x))
  s4.startLadder k psa (max 2 kind)

/-- A sector is confirmed: its ring place and, without a ladder, its slots are released, and it is no longer erased. -/
def State.confirm (s : State) (k psa : Nat) : State :=
  let near (p : Nat) : Bool := stripeOf p == stripeOf psa || s.dec.ladders.any (fun l => stripeOf l.psa == stripeOf p)
    || actuatorOf (psaSurface p) != k
  let s1 := { s with dec := { s.dec with erased := s.dec.erased.filter (· != psa), unread := s.dec.unread.filter (· != psa),
                                         failed := Assoc.del s.dec.failed psa,
                                         confirmed := insertNat psa (s.dec.confirmed.filter near) } }
  let s2 := if s1.dec.ladders.any (fun l => l.psa == psa) then s1 else s1.releaseSlots psa
  s2.setRing_ k ((s2.chn k).ring.filter (fun x => x.psa != psa))

-- ---------------------------------------------------------------------------------------------------------------
-- Acquisition (R171 to R178, R187 to R190)

/-- The lock test fails: counted, and source 212 or 228 when more than 1 in 10^4 of the last 10^6 sectors failed (R176, R196). -/
def State.lockFailed (s : State) (k : Nat) : State :=
  let s1 := s.bumpF (Fld.CHN_ERRCNT2_LOCK_FAIL k) 1
  let c := s1.chn k
  let l := (c.lockFails.filter (fun n => c.sectors < n + 1000000)) ++ [c.sectors]
  let s2 := s1.setChn k { c with lockFails := l }
  if l.length > 100 then s2.raise (212 + 16 * k) 0 0 else s2

/-- Sectors that the sample ring holds (R188). -/
def ringSize : Nat := 4

/-- The first of `n` bits at which the energy is above the threshold (R175 step 3). -/
def detectAt (th : Nat) (energy : List Nat) (n : Nat) : Option Nat :=
  match n, energy with
  | m + 1, e :: t => if e > th then some 0 else (detectAt th t m).map (· + 1)
  | _, _ => none

/-- The timing loop over timing errors in 1/64 bit, with gains KI and KP: frequency and phase (R171). -/
def timingLoop (ki kp step : Nat) (es : List Int) (x : Int × Int) : Int × Int :=
  es.foldl (fun y e => (y.1 + e / 2 ^ ki, y.2 + step + (y.1 + e / 2 ^ ki) + e / 2 ^ kp)) x

/-- Phase alone, over a RESYNC pattern: the frequency is held (R187). -/
def phaseLoop (kp step : Nat) (es : List Int) (x : Int × Int) : Int × Int :=
  es.foldl (fun y e => (y.1, y.2 + step + y.1 + e / 2 ^ kp)) x

/-- The loop over a sector: tracking over each part between servo fields, `lens` bits of it, and phase alone at each resync field, with
the frequency that tracking has reached held (R171, R187). -/
def trackParts (ki kp kpAcq step : Nat) (lens : List Nat) (fields : List (List Int)) (es : List Int) (x : Int × Int) : Int × Int :=
  match fields with
  | [] => timingLoop ki kp step es x
  | f :: t =>
    let y := phaseLoop kpAcq step f (timingLoop ki kp step (es.take (lens.headD 0)) x)
    trackParts ki kp kpAcq step lens.tail t (es.drop (lens.headD 0)) y

/-- Bits of each part over which the loop tracks: behind acquisition, which begins at bit `found` of the first, or behind the RESYNC
pattern. -/
def trackLengths (found acq : Nat) (parts : List Nat) (fields : List (List Int)) : List Nat :=
  match parts with
  | [] => []
  | n :: t => (n - (found + acq)) :: List.zipWith (fun (m : Nat) (f : List Int) => m - f.length) t fields

/-- The lock test: the mean absolute timing error over the last 16 bits of ACQLEN is below LOCKTH, in 1/256 bit (R176). -/
def lockTest (acqLen lockTh : Nat) (es : List Int) : Bool :=
  (((es.take acqLen).drop (acqLen - 16)).foldl (fun a e => a + 4 * e.natAbs) 0) < 16 * lockTh

/-- The resync marks of a record: the offset used and the second candidate; and how many fields had no candidate (R187). -/
def resyncSearch (thresh half : Nat) (l : List (List Int × List Int)) : List (Int × Option Int) × Nat :=
  l.foldr (fun f acc =>
    let cs := searchMark thresh half 0 f.2
    (((cs[0]?.map (·.offset)).getD 0, cs[1]?.map (·.offset)) :: acc.1, acc.2 + b2n cs.isEmpty)) ([], 0)

/-- A servo field passes under reader A of actuator k: the data read gate is low over it, and the front end has the settings of SRV_AFE
there and those of CHN_AFE0 behind it (R166). -/
def State.servoField (s : State) (k : Nat) : State :=
  let data := match (s.chn k).front with | a :: _ => a | [] => (s.reg (Fld.CHN_AFE_PD k 0).addr).toNat
  let s1 := (s.emit (.frontEnd k true (s.reg (Fld.SRV_AFE_VGA k).addr).toNat)).emit (.frontEnd k false data)
  if (s.chn k).rgate then { s1 with out := .rgate k true :: s1.out.take 2 ++ .rgate k false :: s.out } else s1

/-- Channel k acquires on a sector (R174 to R181, R187, R190), with the preamp in MODE 2 again after a write (R258). The read gate
asserts W bits before the predicted preamble, unless it is still asserted from the sector before; it stays asserted when the next
sector to be read follows, `follow` bits behind this one's pad, within GAP + W + RG_LAG (R178). A new acquisition starts from zero
phase and frequency (log 71). -/
def State.acquire (s : State) (k psa : Nat) (cap : Capture) (follow : Option Nat) : State × SampleRec :=
  let s0 := ((if (s.pre k).mode = 3 then s.preampSet k 1 2 [] else s).useZone k psa)
  let c := s0.chn k
  let s1a := if c.rgate then s0 else (s0.setChn k { c with rgate := true, freq := 0, phase := 0 }).emit (.rgate k true)
  let s1 := (s1a.partLengths psa).tail.foldl (fun (t : State) _ => t.servoField k) s1a
  let w := s1.markHalf k
  let found := detectAt (s1.getF (Fld.CHN_TLOCK_PDTH k)) cap.energy (128 + 2 * w)
  let acq := s1.getF (Fld.CHN_TLOCK_ACQLEN k)
  let step := (s1.chn k).step
  let x1 := timingLoop (s1.getF (Fld.CHN_TLOOP_KI_ACQ k)) (s1.getF (Fld.CHN_TLOOP_KP_ACQ k)) step (cap.errs.take acq)
    ((s1.chn k).freq, 0)
  let parts := s1.partLengths psa
  let fields := (cap.resync.take (parts.length - 1)).map (·.1)
  let x3 := trackParts (s1.getF (Fld.CHN_TLOOP_KI_TRK k)) (s1.getF (Fld.CHN_TLOOP_KP_TRK k)) (s1.getF (Fld.CHN_TLOOP_KP_ACQ k)) step
    (trackLengths (match found with | some i => i - w | none => 128 + w) acq parts fields) fields (cap.errs.drop acq) x1
  let locked := found.isSome && lockTest acq (s1.getF (Fld.CHN_TLOCK_LOCKTH k)) cap.errs
  let s2 := s1.setChn k { s1.chn k with freq := x3.1, phase := x3.2, tracking := true, sectors := (s1.chn k).sectors + 1 }
  let s3 := (if locked then s2 else s2.lockFailed k).setF (Fld.CHN_STATUS_LOCKED k) (b2n locked)
  let thresh := s3.getF (Fld.CHN_MARKTHR_THRESH k)
  let rs := resyncSearch thresh (s3.resyncHalf k) (cap.resync.take (parts.length - 1))
  let s4 := (s3.bumpF (Fld.CHN_ERRCNT1_RESYNC_MISS k) rs.2).setF (Fld.CHN_AGC_GAIN_NOW k) cap.gain
  let gap := (s4.zoneAt psa |>.map (·.gap)).getD 0
  let stays := match follow with | some d => decide (d ≤ gap + w + s4.getF (Fld.CHN_GATE_RG_LAG k)) | none => false
  let s5 := if stays then s4.setF (Fld.CHN_STATUS_STATE k) 1
            else ((s4.setChn k { s4.chn k with rgate := false }).setF (Fld.CHN_STATUS_STATE k) 0).emit (.rgate k false)
  (s5, { rev := (s5.chn k).revs, eqset := s5.getF (Fld.CHN_DETCFG_EQSET k), width := w, resyncWidth := s5.resyncHalf k,
         pieces := cap.pieces.map (fun p => p.map (fun l => l.map (satInt 8))), cands := searchMark thresh w (clippedStarts w parts) cap.soft, resync := rs.1, locked := locked,
         snr := cap.snr })

/-- Bytes that a record takes in the ring: one per reader and bit (R188). -/
def SampleRec.bytes (r : SampleRec) : Nat := r.pieces.foldl (fun a p => a + p.foldl (fun b l => b + l.length) 0) 0

/-- A sector joins the ring behind the last one. -/
def State.enterRing (s : State) (k psa kind : Nat) (r : SampleRec) : State :=
  let c := s.chn k
  (s.setChn k { c with ringAt := (c.ringAt + r.bytes) % 524288 }).setRing_ k (c.ring ++ [⟨psa, kind, r, 0, 0, c.ringAt, false⟩])

/-- A failed sector's samples have reached the store and its ring place is released; a ladder that has ended needs them no more
(R188, R217). -/
def State.copyDone (s : State) (k : Nat) (r : RingSector) : State :=
  let s1 := s.setRing_ k ((s.chn k).ring.filter (fun x => x.psa != r.psa))
  if s1.dec.ladders.any (fun l => l.psa == r.psa) then s1.storeRev k r.psa r.kind r.rec_ r.untried else s1

/-- Room for one more sector in the ring: none has to be made, or the copy of the oldest sector that holds ring space finishes in time,
be it a failed one or, as the oldest without a verdict, one that goes on to be decoded from the store (R188, R189). -/
def State.ringRoom (s : State) (k : Nat) (copied : Bool) : Option State :=
  let held := (s.chn k).ring.filter (fun r => !r.copied)
  if held.length < ringSize then some s
  else if !copied then none
  else match held with
    | [] => none
    | r :: _ =>
      if r.verdict != 0 then some (s.copyDone k r)
      else
        let t := s.storeRev k r.psa r.kind r.rec_ false
        if (t.stored r.psa).length = (s.stored r.psa).length then none
        else some (t.setRing_ k ((t.chn k).ring.map (fun x => if x.psa == r.psa then { x with copied := true } else x)))

/-- The first trial of a sector's record: its best candidate (R182). -/
def firstTrial (k psa kind : Nat) (r : SampleRec) : Work :=
  ⟨k, psa, kind, 0, (r.cands.headD ⟨0, 0, 0⟩).offset, r.resync.map (·.1), none, 0, false, 0, 0⟩

/-- The channel cannot read a sector: its domain is out of service, it writes, a head switch settles, read settle is not met, or another
head is selected (R167, R257, R290). -/
def State.readBlocked (s : State) (k psa : Nat) : Bool :=
  s.mediaOut k || (s.chn k).wgate || (s.pre k).settling || !s.isSet (Fld.SRV_STATUS_RD_OK k) || 12 * k + (s.pre k).head != psaSurface psa

/-- How many wedges a sector lies in. -/
def State.sectorSpan (s : State) (psa : Nat) : Nat :=
  match s.zoneAt psa with
  | some z => (sectorWedges z (psaTrack psa) (psaSector psa)).length
  | none => 0

/-- A foreground operation is queued on actuator k (R101, R104): a tile to be written, a foreground decode or ladder, or a SEAL, GET_RANGE
or VERIFY that reads there. -/
def State.foregroundQueued (s : State) (k : Nat) : Bool :=
  !(s.chn k).ops.isEmpty || s.dec.waiting.any (fun w => w.k == k && w.kind ≤ 2)
    || s.dec.ladders.any (fun l => l.k == k && l.kind == 2)
    || s.qmg.slots.any (fun x => x.stage != 4 && [0x41, 0x42, 0x47].contains (entOpcode x.entry) &&
        (match s.readVersion x with
         | some v => s.needsMedia k v 0 v.end_
         | none => false))

/-- The read gate asserts for a sector. `kind` is 0 for a foreground read, 3 for scrub, 4 qualification; `cap` is what the front ends
and the loop's detectors deliver, `copied` whether a copy out of a full ring finishes in time, `follow` the distance to the next sector
to be read. -/
def execSectorRead (k psa kind : Nat) (cap : Capture) (copied : Bool) (follow : Option Nat) (s : State) : Res :=
  let wedges := s.sectorSpan psa
  .next (if s.readBlocked k psa || s.underRecovery psa then s
    else if kind = 3 && !s.bgAllowed k wedges (s.foregroundQueued k) then s.bgHold k
    else
    let s := if kind = 3 then s.bgCharge k wedges else s
    match s.ringRoom k copied with
      | none => (s.bumpF (Fld.CHN_ERRCNT1_REV_SLIP k) 1).setChn k { s.chn k with slips := insertNat psa (s.chn k).slips }
      | some t =>
        let (s1, r) := t.acquire k psa cap follow
        let s2 := s1.setChn k { s1.chn k with slips := (s1.chn k).slips.filter (· != psa), lost := (s1.chn k).lost.filter (· != psa) }
        let s3 := { s2 with dec := { s2.dec with again := s2.dec.again.filter (fun x => x.1 != psa) } }
        let s4 := s3.enterRing k psa kind r
        if r.cands.isEmpty then s4.erase k psa kind 1 ⟨psa, kind, r, 0, 1, (s3.chn k).ringAt, false⟩
        else s4.addWork (firstTrial k psa kind r))

-- ---------------------------------------------------------------------------------------------------------------
-- The end of a decode (R182 to R184, R207 to R209, R215)

/-- The information block of a codeword: its first 33,024 bits. -/
def infoBlock (word : Nat) : List Byte := leBytes 4128 (word % 2 ^ 33024)

/-- The tag of a tile of the part's own: no key hash, SEGMENT and TILE as R145 states them. -/
def ownTag (segment tile : Nat) : List Byte := tagOf (zeros 8) (segment % 2 ^ 32) tile

/-- The tag of a block of a live journal at a sector. -/
def State.journalTag (s : State) (k psa : Nat) : Option (List Byte) :=
  ((s.stream k).live.find? (fun b => b.psa == psa)).map (fun b => ownTag b.bseq k)

/-- The tag of a tile of the checkpoint or the defect list in force at a sector. -/
def State.ckptTag (s : State) (psa : Nat) : Option (List Byte) :=
  match s.obj.root with
  | none => none
  | some r => if s.obj.ckptSectors.contains psa then
      let i := s.obj.ckptSectors.idxOf psa
      some (ownTag (if i < r.ckptTiles then i else i - r.ckptTiles) 0)
    else none

/-- The tag of a root slot: that of the last root written to it (R159). -/
def State.rootTag (s : State) (psa : Nat) : Option (List Byte) :=
  match s.obj.root with
  | none => none
  | some r =>
    let n := r.rootSeq - (r.rootSeq + 16 - psaSector psa % 16) % 16
    if s.rootTrackAt (psaSurface psa) (psaTrack psa) && psaSector psa < 16 && n != 0 then some (ownTag n 0) else none

/-- The tag expected at a sector: of the object tile that the index maps there, or of a tile of the part's own (R145); none where
nothing the part knows of is written. -/
def State.expectedTag (s : State) (psa : Nat) : Option (List Byte) :=
  [(s.ownerOf psa).map (fun p => tagOf (keyHash (keyBytes p.1.key)) p.2.1.num p.2.2), s.journalTag 0 psa, s.journalTag 1 psa,
   s.ckptTag psa, s.rootTag psa].findSome? id

/-- What the checks of R182 say of a decode: 1 confirmed, 2 failed, 3 tag mismatch. Of a data sector that nothing known maps no tag is
expected, and it is confirmed on its CRC-64, a fill tile on its tag of zeros besides (R145; DESIGN CHOICE, assumption log 82). -/
def State.decodeVerdict (s : State) (psa : Nat) (converged : Bool) (word : Nat) : Nat :=
  if !converged || !isCodeword dataCode word then 2
  else if s.isParity psa then 1
  else if !tileCrcOk (infoBlock word) then 2
  else match s.expectedTag psa with
    | some g => if tileTag (infoBlock word) = g then 1 else 3
    | none => if tileType (infoBlock word) = 4 && tileTag (infoBlock word) != zeros 16 then 3 else 1

/-- What a confirmed codeword tells of the record it came from: the equalised bits and their squared error (R204). The levels before the
first bit count as 0, and past a servo field the last bits of the part before stand (DESIGN CHOICE, assumption log 82). -/
def State.errorOf (s : State) (k psa : Nat) (r : SampleRec) (offset : Int) (resync : List Int) (word : Nat) : Nat × Nat :=
  let set := s.setFor k psa r.eqset
  let z := ((s.codeWindows psa r offset resync).map (equalise (equaliserOf set))).flatten
  let chan := word ^^^ scramblerBits 36480 (scramblerSeed psa)
  (z.length, squaredError (targetOf set).g z (levels z.length chan) [])

/-- The SNR of bits and squared errors with the target in use on channel k; a free value where the quotient has no value. -/
def State.snrFrom (s : State) (k psa eqset : Nat) (l : List (Nat × Nat)) : Nat × State :=
  match snrOf (targetOf (s.setFor k psa eqset)).g (l.foldl (fun a p => a + p.1) 0) (l.foldl (fun a p => a + p.2) 0) with
  | some n => (n, s)
  | none => (s.freeWord.toNat % 65536, s.useFree)

/-- Iterations and errors of a confirmed sector are recorded; the SNR estimate of the head and zone is over its last 64 confirmed
sectors (R204, R209). -/
def State.recordSnr (s : State) (k psa eqset iters : Nat) (e : Nat × Nat) : State :=
  let c := s.chn k
  let h := (iters :: c.hist).take 64
  let s1 := (s.setChn k { c with hist := h }).setF (Fld.CHN_SNR_ITER_AVG k) (min 255 (10 * h.foldl (· + ·) 0 / h.length))
  match s1.zoneAt psa with
  | none => s1
  | some z =>
    let key := headZone (psaSurface psa) z.zone
    let l := (e :: (Assoc.find s1.media.snrs key).getD []).take 64
    let s2 := { s1 with media := { s1.media with snrs := Assoc.put s1.media.snrs key l } }
    let (n, s3) := s2.snrFrom k psa eqset l
    let s4 := s3.setF (Fld.CHN_SNR_SNR k) n
    match s4.chanTable key with
    | some t => { s4 with media := { s4.media with tables := Assoc.put s4.media.tables key { t with snr := n } } }
    | none => s4

/-- The taps and predictors adapt by LMS to a confirmed data sector read with set 0, while adaptation is active (R203). The adapted set
0 replaces the one in the tables in force. -/
def State.adapt (s : State) (k psa : Nat) (r : SampleRec) (offset : Int) (resync : List Int) (word : Nat) : State :=
  let hz := s.zoneAt psa |>.map (fun z => (psaSurface psa, z.zone))
  if !s.isSet (Fld.CHN_DETCFG_ADAPT k) || s.getF (Fld.CHN_DETCFG_EQSET k) != 0 || r.eqset != 0 || (s.chn k).zoneIn != hz then s
  else
    let set := s.setFor k psa 0
    let ws := (s.codeWindows psa r offset resync).flatten
    let chan := word ^^^ scramblerBits 36480 (scramblerSeed psa)
    let x := lmsRun (s.getF (Fld.CHN_DETCFG_MU_EQ k)) (s.getF (Fld.CHN_DETCFG_MU_TGT k)) ⟨equaliserOf set, targetOf set, [], 0, 0⟩ ws
      (levels ws.length chan)
    let taps := (x.target.g.drop 1).map (unsigned 16) ++ x.taps.map (unsigned 12)
    let preds := x.target.preds
    let s1 := s.setChn k { s.chn k with taps := taps, preds := preds, own := (s.chn k).own.filter (fun o => o < 0x400) }
    match hz.bind (fun h => (s1.chanTable (headZone h.1 h.2)).map (fun t => (headZone h.1 h.2, t))) with
    | some (key, t) => { s1 with media := { s1.media with
        tables := Assoc.put s1.media.tables key { t with sets := t.sets.set 0 taps, preds := preds.map (unsigned 16) } } }
    | none => s1

/-- A failed trial: the next alike candidate is tried while TRIES allows, else the sector is DECODE_FAIL (R183, R186). -/
def State.trialFailed (s : State) (w : Work) (r : RingSector) : State :=
  let l := r.rec_.cands.set w.cand { (r.rec_.cands.getD w.cand ⟨0, 0, 0⟩) with result := 2 }
  let r1 := { r with rec_ := { r.rec_ with cands := l }, tried := r.tried + 1 }
  let ring := (s.chn w.k).ring.map (fun x => if x.psa == r.psa then r1 else x)
  let s1 := s.setRing_ w.k ring
  match l[w.cand + 1]? with
  | some c =>
    if r1.tried < s.getF (Fld.CHN_MARKTHR_TRIES w.k) && alike (s.getF (Fld.CHN_MARKTHR_MARGIN w.k)) l c then
      s1.addWork { w with kind := if w.kind ≤ 1 then 1 else w.kind, cand := w.cand + 1, offset := c.offset, resumed := false, done := 0, iters := 0 }
    else s1.erase w.k w.psa r.kind 2 r1
  | none => s1.erase w.k w.psa r.kind 2 r1

/-- A trial confirmed or mismatched (R182, R184). -/
def State.trialEnds (s : State) (w : Work) (r : RingSector) (res : Nat) : State :=
  let l := r.rec_.cands.set w.cand { (r.rec_.cands.getD w.cand ⟨0, 0, 0⟩) with result := if res = 1 then 1 else 3 }
  let s1 := s.showCands w.k l (if res = 1 then some w.cand else none)
  if res = 1 && w.cand != 0 then s1.bumpF (Fld.CHN_ERRCNT0_ALT_USED w.k) 1 else s1

/-- A confirmed word is what the sector holds. -/
def State.seen (s : State) (psa word : Nat) : State :=
  if s.isParity psa then s else { s with disk := { s.disk with sectors := Assoc.put s.disk.sectors psa (infoBlock word) } }

/-- A tag mismatch: the command that reads the sector ends with INT_TAG, source 192 (R40). -/
def State.tagMismatch (s : State) (psa : Nat) : State :=
  ({ s with dec := { s.dec with failed := Assoc.put s.dec.failed psa St.intTag } }).raise 192 0 psa

/-- The ladder of a sector has a decode back: the stage it belongs to has been applied (R222, R223). -/
def State.ladderBack (s : State) (w : Work) : State :=
  { s with dec := { s.dec with ladders := s.dec.ladders.map (fun (x : Ladder) =>
      if x.psa == w.psa then { x with busy := false, back := true, reached := max x.reached w.stage } else x) } }

/-- A ladder's decode has met a tag mismatch. -/
def State.ladderMismatch (s : State) (psa : Nat) : State :=
  { s with dec := { s.dec with ladders := s.dec.ladders.map (fun (x : Ladder) => if x.psa == psa then { x with mismatch := true } else x) } }

/-- A first trial or further trial of sector `r` ends with verdict `res` on `word` after `iters` local iterations. -/
def State.trialVerdict (s : State) (w : Work) (r : RingSector) (res word iters : Nat) : State :=
  if res = 2 then s.trialFailed w r
  else
    let t := (s.trialEnds w r res).confirm w.k w.psa
    if res = 1 then
      let u := (t.seen w.psa word).recordSnr w.k w.psa r.rec_.eqset iters (s.errorOf w.k w.psa r.rec_ w.offset w.resync word)
      if s.isParity w.psa || w.kind = 4 then u else u.adapt w.k w.psa r.rec_ w.offset w.resync word
    else t.tagMismatch w.psa

/-- A decode of a ladder ends likewise: stored samples, a re-read or a combined record. A tag mismatch ends the ladder without
recovery (R40). -/
def State.ladderVerdict (s : State) (w : Work) (rec_ : SampleRec) (res word iters : Nat) : State :=
  if res = 1 then
    let t := ((s.confirm w.k w.psa).seen w.psa word).recordSnr w.k w.psa rec_.eqset iters
      (s.errorOf w.k w.psa rec_ w.offset w.resync word)
    ({ t with dec := { t.dec with recovered := Assoc.put t.dec.recovered w.psa (infoBlock word) } }).ladderBack w
  else if res = 3 then (((s.confirm w.k w.psa).tagMismatch w.psa).ladderMismatch w.psa).ladderBack w
  else s.ladderBack w

/-- Instance `n` ends its decode, with the result that its detector passes and min-sum iterations give (R198 to R207). `upset` are the
bits of the hard decision that a fault of the instance turned over, 0 without one; the independent checker recomputes the syndrome of a
converged word, and rejects it with source 241 when it is not zero (R208). -/
def execDecodeComplete (n upset : Nat) (s : State) : Res :=
  .next (match s.dec.inst.getD n none with
    | none => s
    | some w =>
      let d := s.decodeOf w
      let word := d.word ^^^ upset
      let s0 := (s.setF (Fld.DEC_INST_ITER n) d.iters).setInst n none 0
      let s1 := if d.ok && !isCodeword dataCode word then s0.raise 241 0 0 else s0
      let res := s.decodeVerdict w.psa d.ok word
      let s2 := match w.stored, (s1.chn w.k).ring.find? (fun r => r.psa == w.psa && r.verdict == 0) with
        | some r, _ => s1.ladderVerdict w r res word d.iters
        | none, some r => s1.trialVerdict w r res word d.iters
        | none, none => s1
      s2.dispatchAll)

/-- The samples of the oldest failed sector in the ring reach the store and its ring place is released (R188, R216). -/
def execSampleCopyDone (k : Nat) (s : State) : Res :=
  .next (match (s.chn k).ring.find? (fun r => r.verdict != 0 && !r.copied) with
    | none => s
    | some r => s.copyDone k r)

/-- A revolution passes on actuator k: the ladders that have begun their re-reads count it (R224). -/
def State.countRevs (s : State) (k : Nat) : State :=
  let s1 := s.setChn k { s.chn k with revs := (s.chn k).revs + 1 }
  { s1 with dec := { s1.dec with ladders := s1.dec.ladders.map (fun l =>
      if l.k == k then { l with revs := l.revs.map (· + 1) } else l) } }

end Sys2Proof.Machine
end

