-- ==== Sys2Proof/Machine/Response.lean ====
section
/-!
DEFINITION. Fixed-point functions the control chapters need, the test signals of R301, and the open-loop response that firmware computes
from a capture (R302).
Choices: assumption log 21, 79.
-/
namespace Sys2Proof.Machine
open Sys2Proof

/-- `v / 2^n` rounded to nearest, halves up: the rounding of R282. -/
def rnd (v : Int) (n : Nat) : Int := (v + (2 ^ (n - 1) : Nat)) / (2 ^ n : Nat)

/-- `v / d` rounded to nearest, halves up; 0 for d = 0. -/
def rdiv (v : Int) (d : Nat) : Int := (2 * v + d) / (2 * d : Nat)

/-- Terms of the cosine series in 48 fraction bits: `x2` is the square of the angle. -/
def cosTerms (fuel : Nat) (x2 : Nat) (i : Nat) (term acc : Int) : Int :=
  match fuel with
  | 0 => acc
  | f + 1 =>
    let next := -(term * x2 / (2 ^ 48 * ((2 * i + 1) * (2 * i + 2)) : Nat))
    cosTerms f x2 (i + 1) next (acc + next)

/-- cos(π n / len) in 48 fraction bits, for n up to len. -/
def cosPi (n len : Nat) : Int :=
  let x := 884279719003555 * n / len
  cosTerms 20 (x * x / 2 ^ 48) 0 (2 ^ 48) (2 ^ 48)

/-- cos(π n / len) and sin(π n / len) for any n. -/
def cosTurn (n len : Nat) : Int :=
  let m := n % (2 * len)
  if m ≤ len then cosPi m len else cosPi (2 * len - m) len
def sinTurn (n len : Nat) : Int := cosTurn (2 * n + 3 * len) (2 * len)

/-- `n` fraction bits of the base-2 logarithm of `x / 2^64`, for `x` from 2^64 up to 2^65, by squaring. -/
def log2Bits (n x : Nat) : Nat :=
  match n with
  | 0 => 0
  | m + 1 =>
    let y := x * x / 2 ^ 64
    if y ≥ 2 ^ 65 then 2 ^ m + log2Bits m (y / 2) else log2Bits m y

/-- 10 log10 (a / b) in 0.001 dB to the nearest, for a and b from 1 on: a ratio of squares is one of amplitudes in dB. -/
def milliDb (a b : Nat) : Int :=
  let lg (v : Nat) : Int := 2 ^ 40 * (Nat.log2 v : Nat) + log2Bits 40 (v * 2 ^ 64 / 2 ^ Nat.log2 v)
  rdiv ((lg a - lg b) * 30102999566398) (2 ^ 40 * 10000000000)

/-- The angle of `re + j im` in 0.001° to the nearest, from −180° to 180°: the greatest multiple of 0.0005° not past it, by halving. -/
def angleOf (re im : Int) : Int :=
  let past (h : Nat) : Bool := decide (im.natAbs * cosPi h 360000 < re * sinTurn h 360000)
  let h := (List.range 19).foldl (fun (a : Nat) i =>
    let b := a + 2 ^ (18 - i)
    if b ≤ 360000 && !past b then b else a) 0
  let m : Int := ((h + 1) / 2 : Nat)
  if im < 0 then -m else m

/-- ln 2 in 48 fraction bits. -/
def ln2 : Nat := 195103586505167

/-- Terms of the exponential series in 48 fraction bits. -/
def expTerms (fuel x i term acc : Nat) : Nat :=
  match fuel with
  | 0 => acc
  | f + 1 =>
    let next := term * x / (2 ^ 48 * (i + 1))
    expTerms f x (i + 1) next (acc + next)

/-- 2 to the power `y / 2^48`, in 48 fraction bits. -/
def exp2 (y : Int) : Nat :=
  let m := expTerms 24 (ln2 * (y % 2 ^ 48).toNat / 2 ^ 48) 0 (2 ^ 48) (2 ^ 48)
  let e := y / 2 ^ 48
  if e ≥ 0 then m * 2 ^ e.toNat else m / 2 ^ (-e).toNat

/-- The base-2 logarithm of `v`, from 1 on, in 48 fraction bits. -/
def log2Of (v : Nat) : Int := 2 ^ 48 * (Nat.log2 v : Nat) + log2Bits 48 (v * 2 ^ 64 / 2 ^ Nat.log2 v)

-- ---------------------------------------------------------------------------------------------------------------
-- Test signals (R301)

/-- Samples per second at a node, as a fraction: the wedges of an actuator, or the spindle loop (R281, R315). -/
def State.sampleRate (s : State) (node : Nat) : Nat × Nat :=
  if node ≥ 8 then (5000, 1) else (8 * s.getF Fld.SPM_SPEED_SPEED, 15)

/-- Phase of the sweep from f0 to f1 Hz over `len` samples at num / den samples a second, at sample n, in 2^−48 turn: the frequency rises
or falls by the same ratio each sample. -/
def sweepPhase (f0 f1 len num den n : Nat) : Int :=
  let d := log2Of f1 - log2Of f0
  let l := d * (ln2 : Nat) / 2 ^ 48
  if l = 0 then (f0 * n * den * 2 ^ 48 : Nat) / (num : Int)
  else (f0 * len * den : Nat) * ((exp2 (d * n / len) : Int) - 2 ^ 48) * 2 ^ 48 / (l * num)

/-- Sample n of the swept sine in 48 fraction bits; free when one of its ends is 0 Hz. -/
def State.sweepSample (s : State) (x : Inject) (n : Nat) : Int :=
  let f0 := s.getF Fld.CLE_INJFREQ_F0
  let f1 := s.getF Fld.CLE_INJFREQ_F1
  if f0 = 0 || f1 = 0 then clampInt (-(2 ^ 48 : Nat)) (2 ^ 48 : Nat) (Config.sweepSine f0 f1 x.len n)
  else
    let (num, den) := s.sampleRate x.node
    sinTurn (sweepPhase f0 f1 x.len num den n % 2 ^ 48).toNat (2 ^ 47)

/-- Samples since the injection began. -/
def Inject.index (x : Inject) : Nat := (if x.kind = 1 then 4096 - x.wait else 0) + x.taken

/-- The tones that are on, as BIN and AMP. -/
def State.tones (s : State) : List (Nat × Int) :=
  (List.range 32).filterMap (fun i =>
    let b := s.getF (Fld.CLE_TONE_BIN i)
    if b = 0 then none else some (b, signed 16 (s.getF (Fld.CLE_TONE_AMP i))))

/-- Sample n of a multi-sine: tone i of T at its bin of a 4,096-sample period, with phase −π i (i − 1) / T; i is the rank from 1 of the tone
among those that are on (DESIGN CHOICE, assumption log 79). -/
def multiSine (l : List (Nat × Int)) (n : Nat) : Int :=
  let t := l.length
  rnd (l.zipIdx.foldl (fun (a : Int) (p : (Nat × Int) × Nat) =>
    let back := 2048 * (p.2 + 1) * p.2 % (4096 * t)
    a + p.1.2 * cosTurn (p.1.1 * n * t + 4096 * t - back + 1024 * t * Config.toneQuarter) (2048 * t)) 0) 48

/-- The test signal at `node` for this sample: zero when no injection runs there. The rounding of the sweep and the sequence of the PRBS are
the model's (assumption log 79). -/
def State.testSignal (s : State) (node : Nat) : Int :=
  match s.cle.inject with
  | some x =>
    if x.node != node || x.taken ≥ x.len then 0
    else
      let amp := signed 16 (s.getF Fld.CLE_INJCTL_AMP)
      let order := s.getF Fld.CLE_INJCTL_ORDER
      if x.kind = 2 then (if Config.prbsChip order (x.index % (2 ^ order - 1)) then amp else -amp)
      else if x.kind = 1 then multiSine s.tones x.index
      else rnd (amp * s.sweepSample x x.index) 48
  | none => 0

-- ---------------------------------------------------------------------------------------------------------------
-- The response (R302)

/-- The transform of `n` samples from `at_` on at `bin` of a 4,096-sample period: real and imaginary part. -/
def dft (f : Nat → Int) (window : Nat → Int) (at_ n bin : Nat) : Int × Int :=
  (List.range n).foldl (fun (a : Int × Int) i =>
    let v := f (at_ + i) * window i
    (a.1 + v * cosTurn (bin * i % 4096) 2048, a.2 - v * sinTurn (bin * i % 4096) 2048)) (0, 0)

/-- The Hann window over 4,096 samples. -/
def hann (i : Nat) : Int := 2 ^ 48 - cosTurn i 2048

/-- R times the conjugate of S, and S times its own. -/
def crossOf (s r : Int × Int) : (Int × Int) × Int :=
  ((r.1 * s.1 + r.2 * s.2, r.2 * s.1 - r.1 * s.2), s.1 * s.1 + s.2 * s.2)

/-- −R / S at a bin: gain in 0.001 dB and phase in 0.001°, from a sum of R S* and of S S*; none where either is zero. -/
def pointOf (x : (Int × Int) × Int) : Option (Int × Int) :=
  let num := (x.1.1 * x.1.1 + x.1.2 * x.1.2).toNat
  if num = 0 || x.2 ≤ 0 then none
  else some (milliDb num (x.2 * x.2).toNat, angleOf x.1.1 x.1.2 - 180000)

/-- The captured pair i: sum and return signal. -/
def State.capSum (s : State) (i : Nat) : Int := signed 16 (s.getF (Fld.CLE_CAP_SUM i))
def State.capRet (s : State) (i : Nat) : Int := signed 16 (s.getF (Fld.CLE_CAP_RET i))

/-- One point of the response: for a multi-sine the transform over the whole periods captured, for the other types the sum over Hann
segments of 4,096 samples with half overlap. -/
def State.pointAt (s : State) (x : Inject) (bin : Nat) : Option (Int × Int) :=
  if x.kind = 1 then
    pointOf (crossOf (dft s.capSum (fun _ => 1) 0 x.taken bin) (dft s.capRet (fun _ => 1) 0 x.taken bin))
  else
    pointOf ((List.range ((x.taken - 2048) / 2048)).foldl (fun (a : (Int × Int) × Int) j =>
      let c := crossOf (dft s.capSum hann (2048 * j) 4096 bin) (dft s.capRet hann (2048 * j) 4096 bin)
      ((a.1.1 + c.1.1, a.1.2 + c.1.2), a.2 + c.2)) ((0, 0), 0))

/-- The bins nearest to 254 frequencies in equal ratios from bin `lo` to bin `hi` (R302). -/
def logBins (lo hi : Nat) : List Nat :=
  (List.range 254).foldl (fun (l : List Nat) (j : Nat) => insertNat ((lo * exp2 ((log2Of hi - log2Of lo) * j / 253) + 2 ^ 47) / 2 ^ 48) l) []

/-- The bin nearest to f Hz of a segment of 4,096 samples, within the bins that it resolves. -/
def State.binAt (s : State) (x : Inject) (f : Nat) : Nat :=
  max 1 (min 2047 (divRound (4096 * f * (s.sampleRate x.node).2) (s.sampleRate x.node).1))

/-- The bins of the points, rising: the tones, or at most 254 log-spaced ones, over the swept range or over all that a segment resolves
(R302; assumption log 79). -/
def State.binsOf (s : State) (x : Inject) : List Nat :=
  if x.kind = 1 then s.tones.foldl (fun l p => insertNat p.1 l) []
  else if x.kind = 2 then logBins 1 2047
  else
    let a := s.binAt x (s.getF Fld.CLE_INJFREQ_F0)
    let b := s.binAt x (s.getF Fld.CLE_INJFREQ_F1)
    logBins (min a b) (max a b)

/-- `a + (b − a) n / d`, as a numerator over d. -/
def between (a b n d : Int) : Int := a * d + (b - a) * n

/-- A point of the response: its bin, gain in 0.001 dB and phase in 0.001°. -/
abbrev Point := Int × Int × Int

/-- Where `f` of two neighbouring points goes from at least `v` to below it: the points and the part n / d of the way. -/
def crossing (l : List Point) (f : Point → Int) (v : Int) : Option (Point × Point × Int × Int) :=
  match l with
  | [] => none
  | p :: t =>
    match t with
    | [] => none
    | q :: u => if f p ≥ v && f q < v then some (p, q, f p - v, f p - f q) else crossing (q :: u) f v

/-- Gain crossover in 0.1 Hz, phase margin in 0.01°, gain margin in 0.01 dB and frequency of the −180° crossing in 0.1 Hz, each
interpolated linearly between neighbouring points, with bins `num / den` × 0.1 Hz apart (R302); none where nothing crosses. -/
def marginsOf (l : List Point) (num den : Nat) : List (Option Int) :=
  let g := crossing l (fun p => p.2.1) 0
  let h := crossing l (fun p => p.2.2) (-180000)
  [g.map (fun c => rdiv (num * between c.1.1 c.2.1.1 c.2.2.1 c.2.2.2) (den * c.2.2.2.toNat)),
   g.map (fun c => rdiv (180000 * c.2.2.2 + between c.1.2.2 c.2.1.2.2 c.2.2.1 c.2.2.2) (10 * c.2.2.2.toNat)),
   h.map (fun c => rdiv (-between c.1.2.1 c.2.1.2.1 c.2.2.1 c.2.2.2) (10 * c.2.2.2.toNat)),
   h.map (fun c => rdiv (num * between c.1.1 c.2.1.1 c.2.2.1 c.2.2.2) (den * c.2.2.2.toNat))]

/-- The points of a capture, rising; a point with no signal is left out. -/
def State.response (s : State) (x : Inject) : List Point :=
  (s.binsOf x).filterMap (fun b => (s.pointAt x b).map (fun p => ((b : Int), p)))

end Sys2Proof.Machine
end

