-- ==== Sys2Proof/Machine/Servo.lean ====
section
/-!
DEFINITION. Servo and the control-law engine: demodulation, prediction, loops, seek and settle, head load and head switch,
runout learning, injection and capture (R272 to R305).
Choices: assumption log 21 to 23.
-/
namespace Sys2Proof.Machine
open Sys2Proof

-- ---------------------------------------------------------------------------------------------------------------
-- Arithmetic (R282, R285)

/-- r(n) of R285, to the nearest unit. -/
def Ramp.at_ (r : Ramp) (target : Int) : Int :=
  if r.n ≥ r.len then target else r.m + rnd ((target - r.m) * (2 ^ 48 - cosPi r.n r.len)) 49

def sign (v : Int) : Int := if v < 0 then -1 else if v = 0 then 0 else 1

-- ---------------------------------------------------------------------------------------------------------------
-- Demodulation (R275 to R279)

/-- Binary from a 22-bit Gray code, by a running XOR from the most significant bit (R276). -/
def grayToBin (g : Nat) : Nat :=
  ((List.range 22).foldl (fun (p : Nat × Nat) i =>
    let b := (p.2 + g / 2 ^ (21 - i)) % 2
    (2 * p.1 + b, b)) (0, 0)).1

/-- At most 1 of the 10 mark bits differs (R275). -/
def markMatches (bits : Nat) : Bool := popCount 10 (Nat.xor (bits % 1024) 0b1011000111) ≤ 1

/-- The matching position closest to the prediction within ±`win` servo bits (R275). -/
def markFound (l : List (Int × Nat)) (win : Nat) : Option Int :=
  ((l.filter (fun p => markMatches p.2 && p.1.natAbs ≤ win)).foldl (fun (b : Option Int) p =>
    match b with
    | none => some p.1
    | some x => if p.1.natAbs < x.natAbs then some p.1 else b) none)

/-- Dibits, most significant bit first: each by the sign of the difference between the correlations of its two servo bits, a 1 being
written as 10 (R272, R276). -/
def dibits (l : List (Int × Int)) : Nat :=
  l.foldl (fun (a : Nat) p => 2 * a + b2n (if p.1 = p.2 then Config.evenDibit else decide (p.1 > p.2))) 0

/-- The wedge id passes its even parity. -/
def idOk (w : WedgeData) : Bool := popCount 10 (dibits w.wid) % 2 == 0
def idOf (w : WedgeData) : Nat := dibits w.wid / 2

/-- The servo track id as decoded (R276). -/
def trackId (w : WedgeData) : Nat := grayToBin (dibits w.tid)

/-- The correction of the runout field, none when its parity fails. The last dibit is a 0. -/
def runoutOf (w : WedgeData) : Option Int :=
  let v := dibits (w.rro.take 11)
  if popCount 11 v % 2 = 0 then some (signed 10 (v / 2)) else none

/-- P of R277 in 1/256 servo track, before the runout field; `lin` is the linearity table of the head. -/
def positionOf (w : WedgeData) (lin : Nat → Int) : Int :=
  let t : Int := trackId w
  let par : Int := if t % 2 = 0 then 1 else -1
  let n0 := w.n * par
  let q0 := w.q * par
  let tr := if q0 < 0 then t + sign n0 else t
  let n := if q0 < 0 then -n0 else n0
  let q := if q0 < 0 then -q0 else q0
  let f := if n.natAbs ≤ q.natAbs then rdiv (128 * n) w.a else sign n * rdiv (128 * ((w.a : Int) - q)) w.a
  256 * tr + f + lin (min ((f + 128) / 8).toNat 31)

/-- CORR of the current head's table (R277). -/
def State.lin (s : State) (k i : Nat) : Int := signed 8 (s.getF (Fld.SRV_LIN_CORR k i))

/-- Measured P of a wedge: R277 with the runout correction of R279. -/
def State.measuredP (s : State) (k : Nat) (w : WedgeData) : Int :=
  let p := positionOf w (s.lin k)
  if s.isSet (Fld.SRV_CTRL_RROF_EN k) then p + (runoutOf w).getD 0 else p

def State.modelCoef (s : State) (k i : Nat) : Int := signed 32 (s.getF (Fld.SRV_MODEL_COEF k i))

/-- P̂ of R295. -/
def State.predicted (s : State) (k : Nat) : Int :=
  let v := s.srv k
  let c := s.modelCoef k
  rnd (c 0 * v.p1 + c 1 * v.p2 + c 2 * v.uv.getD 0 0 + c 3 * v.uv.getD 1 0 + c 4 * v.uma.getD 0 0 + c 5 * v.uma.getD 1 0) 24

/-- The conditions of R278 on a wedge whose mark was found. The track window applies once the model is seeded. -/
def State.wedgeValid (s : State) (k : Nat) (w : WedgeData) : Bool :=
  let v := s.srv k
  let next := (s.getF (Fld.SRV_STATUS_WEDGE k) + 1) % 512
  -- a part of a track widens the window by a whole one, and the predicted track is the nearest (DESIGN CHOICE, assumption log 83)
  let speed := match v.seek with | some x => ceilDiv x.v.natAbs 256 | none => 0
  let track := (s.predicted k + 128) / 256
  idOk w && idOf w == next
    && (v.seeds < 2 || ((trackId w : Int) - track).natAbs ≤ s.getF (Fld.SRV_CTRL_TID_WIN k) + speed)
    && w.a != 0 && 4 * w.a * v.amps.length ≥ v.amps.foldl (· + ·) 0

-- ---------------------------------------------------------------------------------------------------------------
-- Loops (R281 to R285)

/-- One section of R282: its next state, its output, whether its integrator is at its limit. -/
def runSection (b0 b1 b2 a1 a2 : Int) (shift : Nat) (integ : Bool) (ilim : Nat) (st : SecState) (x : Int) :
    SecState × Int × Bool :=
  let acc := satInt 40 (satInt 40 (b0 * x + b1 * st.x1 + b2 * st.x2 - a1 * st.y1 - a2 * st.y2) * (2 ^ shift : Nat))
  let y0 := satInt 16 (rnd acc 15)
  let y := if integ then clampInt (-(ilim : Int)) ilim y0 else y0
  (⟨x, st.x1, y, st.y1⟩, y, integ && y.natAbs ≥ ilim)

def State.secState (s : State) (n : Nat) : SecState := (Assoc.find s.cle.sec n).getD ⟨0, 0, 0, 0⟩
def State.setSec (s : State) (n : Nat) (x : SecState) : State :=
  { s with cle := { s.cle with sec := if x = ⟨0, 0, 0, 0⟩ then Assoc.del s.cle.sec n else Assoc.put s.cle.sec n x } }

/-- Section slot `n` takes `x`. -/
def State.section (s : State) (n ilim : Nat) (x : Int) : State × Int × Bool :=
  let r := runSection (signed 16 (s.getF (Fld.CLE_SECA_B0 n))) (signed 16 (s.getF (Fld.CLE_SECA_B1 n)))
    (signed 16 (s.getF (Fld.CLE_SECB_B2 n))) (signed 16 (s.getF (Fld.CLE_SECB_A1 n))) (signed 16 (s.getF (Fld.CLE_SECC_A2 n)))
    (s.getF (Fld.CLE_SECC_SHIFT n)) (s.isSet (Fld.CLE_SECC_INTEG n)) ilim (s.secState n) x
  (s.setSec n r.1, r.2.1, r.2.2)

/-- Loop `l` is enabled. -/
def State.loopOn (s : State) (l : Nat) : Bool := s.isSet ⟨0x2C00000, l, l⟩

/-- Consecutive samples with a flag: counted while it holds; at `limit` the source is raised (R304). -/
def State.countRun (s : State) (m : List (Nat × Nat)) (l limit src : Nat) (flag : Bool) : State × List (Nat × Nat) :=
  if !flag then (s, Assoc.del m l)
  else
    let n := (Assoc.find m l).getD 0 + 1
    (if n = limit then s.raise src 0 l else s, Assoc.put m l (min n limit))

/-- Loop `l` takes its input: the cascade, OUT_MAX, the flags of CLE_LSTAT (R282, R283). A disabled loop answers 0. -/
def State.runLoop (s : State) (l : Nat) (input : Int) : State × Int :=
  if !s.loopOn l then (s, 0)
  else
    let ilim := s.getF (Fld.CLE_LLIM_ILIM l)
    let x := satInt 16 (input * (2 ^ s.getF (Fld.CLE_LCFG_IN_SHIFT l) : Nat))
    let r := (List.range (min 16 (s.getF (Fld.CLE_LCFG_NSEC l)))).foldl (fun (a : State × Int × Bool) i =>
      let b := a.1.section (16 * l + i) ilim a.2.1
      (b.1, b.2.1, a.2.2 || b.2.2)) (s, x, false)
    let top : Int := s.getF (Fld.CLE_LLIM_OUT_MAX l)
    let out := clampInt (-top) top r.2.1
    let sat := r.2.1.natAbs ≥ top.natAbs
    let s1 := ((r.1.setF (Fld.CLE_LSTAT_OUT l) (unsigned 16 out)).setF (Fld.CLE_LSTAT_SATURATED l) (b2n sat)).setF
      (Fld.CLE_LSTAT_CLAMPED l) (b2n r.2.2)
    let p := s1.countRun s1.cle.sat l 64 322 sat
    let s2 := { p.1 with cle := { p.1.cle with sat := p.2 } }
    let q := s2.countRun s2.cle.clamp l 512 323 r.2.2
    ({ q.1 with cle := { q.1.cle with clamp := q.2 } }, out)

/-- Enable loop `l` (R285): every section state clears, then y1 and y2 of the last section take the output in force. -/
def State.enableLoop (s : State) (l : Nat) (out : Int) : State :=
  let n := min 16 (s.getF (Fld.CLE_LCFG_NSEC l))
  let kept := s.cle.sec.filter (fun p => !(16 * l ≤ p.1 && p.1 < 16 * l + 16))
  let s1 := { s with cle := { s.cle with sec := kept, sat := Assoc.del s.cle.sat l, clamp := Assoc.del s.cle.clamp l } }
  let s2 := if n = 0 then s1 else s1.setSec (16 * l + n - 1) ⟨0, 0, out, out⟩
  (s2.setF ⟨0x2C00000, l, l⟩ 1).setF (Fld.CLE_LSTAT_RUNNING l) 1

/-- Disable loop `l`: it computes no output, so none of its flags stands. -/
def State.disableLoop (s : State) (l : Nat) : State :=
  let s1 := [Fld.CLE_LSTAT_RUNNING l, Fld.CLE_LSTAT_RAMP l, Fld.CLE_LSTAT_SATURATED l, Fld.CLE_LSTAT_CLAMPED l].foldl
    (fun (t : State) f => t.setF f 0) (s.setF ⟨0x2C00000, l, l⟩ 0)
  { s1 with cle := { s1.cle with sat := Assoc.del s1.cle.sat l, clamp := Assoc.del s1.cle.clamp l } }

/-- The output last sent on actuator k for loop `l`: u_v, or u_ma for the microactuator. -/
def State.inForce (s : State) (l : Nat) : Int :=
  let v := s.srv (l / 4)
  if l % 4 = 1 then v.uma.getD 0 0 else if l % 4 = 3 then 0 else v.uv.getD 0 0

def State.rampN (s : State) (l : Nat) : Nat := s.getF (Fld.CLE_LCFG_RAMP_N l)

/-- A ramp of loop `l` starts on its actuator from the measured position. -/
def State.startRamp (s : State) (l : Nat) : State :=
  let k := l / 4
  let v := s.srv k
  let s1 := match v.ramp with | some r => s.setF (Fld.CLE_LSTAT_RAMP r.loop) 0 | none => s
  (s1.setSrv k { s1.srv k with ramp := some ⟨l, v.p1, 0, s.rampN l⟩, ref := v.p1 }).setF (Fld.CLE_LSTAT_RAMP l) 1

-- ---------------------------------------------------------------------------------------------------------------
-- Targets, ramps and seeks (R285, R286, R289)

/-- The target in force: SRV_TARGET, or the one before while a target written during prediction waits (R297). -/
def State.target (s : State) (k : Nat) : Int := (s.srv k).held.getD (signed 32 (s.getF (Fld.SRV_TARGET_TARGET k)))

/-- The zone in which the target of actuator k lies on the selected head. -/
def State.targetZone (s : State) (k : Nat) : Option Zone :=
  (s.surfaceOf (s.currentHead k)).bind (fun (f : Surface) => (trackAt f (s.target k)).bind (fun t => zoneOfTrack f.zones t))

/-- Servo works with the thresholds of the zone in which its target lies (R291). -/
def State.targetPitch (s : State) (k : Nat) : State :=
  match s.targetZone k with
  | some z => s.usePitch k z
  | none => s

/-- The trajectory takes over from the microactuator's ramp (R289): seek-settle replaces track-follow. It starts from the position just
measured and the velocity of the plant model, at no acceleration (R286). -/
def State.startTrajectory (s : State) (k : Nat) : State :=
  let s1 := ((s.disableLoop (4 * k + 1)).disableLoop (4 * k)).enableLoop (4 * k + 2) (s.inForce (4 * k + 2))
  let v := s1.srv k
  s1.setSrv k { v with seek := some ⟨none, v.p1, v.p1 - v.p2, 0⟩, ramp := none }

/-- SRV_CTRL.MODE: 6 for as long as an unload seeks (R294), else `m`. -/
def State.servoMode (s : State) (k m : Nat) : State :=
  s.setF (Fld.SRV_CTRL_MODE k) (if (s.srv k).unloading then 6 else m)

/-- Go to SRV_TARGET from the measured position (R286, R289): a ramp for a move shorter than SHORT data tracks, else a seek.
Settling starts anew, against the thresholds of the target's zone, and write-inhibit bit 3 holds until it is met (R291). A ramp takes the
measured position alone: R285 gives it no velocity (assumption log 22). -/
def State.retarget (t : State) (k : Nat) : State :=
  let s := (t.setSrv k { t.srv k with held := none }).targetPitch k
  let v := s.srv k
  let s1 := ((s.inhibit k 3).setF (Fld.SRV_STATUS_RD_OK k) 0).setF (Fld.SRV_STATUS_WR_OK k) 0
  let s2 := s1.setSrv k { s1.srv k with counting := false, rd := 0, wr := 0, waits := false, seek := none }
  if (s.target k - v.p1).natAbs < s.getF (Fld.CLE_SEEKB_SHORT k) * s.pitch k then
    let s3 := if s2.loopOn (4 * k) then s2
              else (s2.disableLoop (4 * k + 2)).enableLoop (4 * k) (s2.inForce (4 * k))
    (s3.startRamp (4 * k)).servoMode k 4
  else
    let s3 := s2.servoMode k 3
    let s4 := s3.setSrv k { s3.srv k with maDue := true, ramp := none }
    if s4.loopOn (4 * k + 1) then
      (s4.setF (Fld.CLE_LSTAT_RAMP (4 * k + 1)) 1).setSrv k { s4.srv k with
        seek := some ⟨some ⟨4 * k + 1, s4.inForce (4 * k + 1), 0, s4.rampN (4 * k + 1)⟩, v.p1, 0, 0⟩ }
    else s4.startTrajectory k

/-- The trajectory can be at the target at rest with this wedge: the last move is within the limits of velocity and acceleration, and so is
the stop after it (R289). -/
def State.trajCanEnd (s : State) (k : Nat) (x : Seek) : Bool :=
  let top := s.getF (Fld.CLE_SEEKA_ACC_MAX k)
  let d := s.target k - x.r
  d.natAbs ≤ min top (16 * s.getF (Fld.CLE_SEEKA_VEL_MAX k)) && (d - x.v).natAbs ≤ top

/-- Ramps and the trajectory advance by one wedge; `trajEnd` tells that the trajectory generator has reached the target at rest, which it can
only where `State.trajCanEnd` holds. The reference in force follows. Which profile the generator takes is open: a_ref is a free value within ±ACC_MAX that changes by at most
2 ACC_MAX / JERK_N a wedge, and r_traj follows it with its velocity within ±VEL_MAX (R289; assumption log 22). -/
def State.advanceRef (s : State) (k : Nat) (trajEnd : Bool) : State :=
  let v := s.srv k
  match v.seek with
  | some x =>
    match x.ma with
    | some r =>
      if r.n + 1 ≥ r.len then s.startTrajectory k
      else s.setSrv k { v with seek := some { x with ma := some { r with n := r.n + 1 } } }
    | none =>
      if trajEnd && s.trajCanEnd k x then
        let s1 := (s.disableLoop (4 * k + 2)).enableLoop (4 * k) (s.inForce (4 * k))
        let s2 := s1.setSrv k { s1.srv k with seek := none }
        (s2.startRamp (4 * k)).servoMode k 4
      else
        let top : Int := s.getF (Fld.CLE_SEEKA_ACC_MAX k)
        let lim : Int := 16 * s.getF (Fld.CLE_SEEKA_VEL_MAX k)
        let jerk : Int := ceilDiv (2 * top.toNat) (max 1 (s.getF (Fld.CLE_SEEKB_JERK_N k)))
        let a := clampInt (-top) top (x.a + clampInt (-jerk) jerk (signed 32 s.freeWord.toNat))
        let d := clampInt (-lim) lim (x.v + a)
        s.useFree.setSrv k { v with seek := some { x with r := x.r + d, v := d, a := a } }
  | none =>
    match v.ramp with
    | some r =>
      let r1 := { r with n := r.n + 1 }
      if r1.n ≥ r1.len && v.unloading then s.retract k 0
      else if r1.n ≥ r1.len then
        (s.setSrv k { v with ramp := none, ref := s.target k, counting := true }).setF (Fld.CLE_LSTAT_RAMP r.loop) 0
      else s.setSrv k { v with ramp := some r1, ref := r1.at_ (s.target k) }
    | none => s

-- ---------------------------------------------------------------------------------------------------------------
-- Injection (R300, R301)

/-- Capture the pair of this sample at `node` (R300, R301). -/
def State.capture (s : State) (node : Nat) (sum ret : Int) : State :=
  match s.cle.inject with
  | some x =>
    if x.node != node || x.taken ≥ x.len then s
    else if x.wait != 0 then { s with cle := { s.cle with inject := some { x with wait := x.wait - 1 } } }
    else
      let s1 := (s.setF (Fld.CLE_CAP_SUM x.taken) (unsigned 16 (satInt 16 sum))).setF (Fld.CLE_CAP_RET x.taken)
        (unsigned 16 (satInt 16 ret))
      { s1 with cle := { s1.cle with inject := some { x with taken := x.taken + 1 } } }
  | none => s

/-- An injection may start: Manufacture or Returned only (R300). -/
def State.injectAllowed (s : State) : Bool := s.manufacture || s.returned

/-- 2^LENLOG pairs; the four bits of the field hold 16 as 0. -/
def State.captureLen (s : State) : Nat :=
  let n := s.getF Fld.CLE_CAPCTL_LENLOG
  2 ^ (if n = 0 then 16 else n)

/-- A start that is refused with an out-of-range error, 0x4140:0A then reading 3: a multi-sine with LENLOG below 12 (R301). A capture of fewer
than 1,024 pairs, a PRBS of an order outside 7 to 15 and a type that R301 does not name are refused alike (DESIGN CHOICE, assumption log
79). -/
def State.injectShort (s : State) : Bool :=
  let kind := s.getF Fld.CLE_INJCTL_TYPE
  let order := s.getF Fld.CLE_INJCTL_ORDER
  (kind = 1 && s.captureLen < 4096) || s.captureLen < 1024 || (kind = 2 && (order < 7 || 15 < order)) || 3 ≤ kind

/-- Start the injection that CLE_INJCTL, CLE_INJFREQ, CLE_CAPCTL and CLE_TONE set up (R300, R301): one runs at a time. -/
def State.startInjection (s : State) : State :=
  if !s.injectAllowed || s.cle.inject.isSome then s
  else if s.injectShort then s.setDictNum 0x4140 0x0A 1 3
  else
    let kind := s.getF Fld.CLE_INJCTL_TYPE
    let node := s.getF Fld.CLE_INJCTL_NODE
    if node > 9 then s
    else
      let s1 := { s with cle := { s.cle with
        inject := some ⟨node, kind, if kind = 1 then 4096 else 0, 0, s.captureLen⟩ } }
      let s2 := ((s1.setF Fld.CLE_INJCTL_ACTIVE 1).setF Fld.CLE_CAPCTL_DONE 0).setDictNum 0x4140 0x0A 1 1
      (if node ≥ 8 then s2.inhibitBoth 12 else s2.inhibit (node / 4) 12).settle

/-- INJECTION_START: a start of 0x4140:09 or of CLE_INJCTL.START. -/
def execInjectionStart (s : State) : Res := .next s.startInjection

/-- Firmware writes the response to 0x4141 and the margins to 0x4142; one without a crossing is a free value (R302). -/
def State.writeResponse (s : State) (x : Inject) : State :=
  let l := s.response x
  let s1 := l.zipIdx.foldl (fun t (p : Point × Nat) =>
    t.setDict 0x4141 (p.2 + 1) (leBytes 4 (unsigned 32 p.1.2.1) ++ leBytes 4 (unsigned 32 p.1.2.2)))
    (s.setDictNum 0x4141 0 1 l.length)
  let rate := if x.node ≥ 8 then (50000, 4096) else (s.getF Fld.SPM_SPEED_SPEED, 768)
  (marginsOf l rate.1 rate.2).zipIdx.foldl (fun t (p : Option Int × Nat) =>
    match p.1 with
    | some v => t.setDictNum 0x4142 (p.2 + 1) 4 (unsigned 32 v)
    | none => t.useFree.setDictNum 0x4142 (p.2 + 1) 4 t.freeWord.toNat) s1

/-- CAPTURE_COMPLETE: the injection stops, firmware writes the response it computed, and event 536 tells the node (R301, R302). -/
def execCaptureComplete (s : State) : Res :=
  .next (match s.cle.inject with
    | some x =>
      if x.taken < x.len then s
      else
        let s1 := { s with cle := { s.cle with inject := none } }
        let s2 := ((s1.setF Fld.CLE_INJCTL_ACTIVE 0).setF Fld.CLE_CAPCTL_DONE 1).setDictNum 0x4140 0x0A 1 2
        let s3 := if x.node ≥ 8 then s2.uninhibitBoth 12 else s2.uninhibit (x.node / 4) 12
        (s3.writeResponse x).event 536 x.node
    | none => s)

-- ---------------------------------------------------------------------------------------------------------------
-- One wedge of the loops (R284, R288, R333)

def State.dacZero (s : State) (k : Nat) : Bool := if k = 0 then s.mfe.dacZero0 else s.mfe.dacZero1
def State.setDacZero (s : State) (k : Nat) (b : Bool) : State :=
  if k = 0 then { s with mfe := { s.mfe with dacZero0 := b } } else { s with mfe := { s.mfe with dacZero1 := b } }

/-- The runout table entry of head h for wedge w. -/
def ffField (h w : Nat) : FieldRef :=
  if w % 2 = 0 then Fld.CLE_FF_EVEN (256 * h + w / 2) else Fld.CLE_FF_ODD (256 * h + w / 2)

/-- The motion die takes the set points of actuator k, unless it ignores them (R284, R288). -/
def State.setPoint (s : State) (k : Nat) (uv uma : Int) : State :=
  if s.mfe.setPointsIgnored then s else { s with mfe := { s.mfe with setPoints := s.mfe.setPoints.set k (uv, uma) } }

/-- CLE runs the loops of actuator k on the P of this wedge and sends u_v and u_ma (R284), each with the test signal at its node;
`dac` is the microactuator DAC as read back (R333). While the sequence is lost u_v is what holds the model's velocity at zero, a
free value (R298). -/
def State.cleCompute (s : State) (k : Nat) (w : Nat) (dac : Int) : State :=
  let v := s.srv k
  let p := v.p1
  let lost := s.isSet (Fld.SRV_STATUS_LOST k)
  let r := v.ref + s.testSignal (4 * k + 3)
  let e0 := r - p
  let e := e0 + s.testSignal (4 * k)
  let t := if lost then s else (s.runLoop (4 * k + 3) e).1
  let ma : State × Int := match v.seek with
    | some x => (t, match x.ma with | some r => r.at_ 0 | none => 0)
    | none => if lost then (t, 0) else t.runLoop (4 * k + 1) e
  let uma := satInt 16 (ma.2 + s.testSignal (4 * k + 2))
  let s2 := ma.1
  let dma := rnd (uma * s2.getF (Fld.CLE_MA_STROKE k)) 15
  let uv0 : State × Int :=
    if lost then (s2.useFree, signed 16 s2.freeWord.toNat)
    else match v.seek with
      | some ⟨none, r, _, a⟩ =>
        let y := s2.runLoop (4 * k + 2) (r - p)
        (y.1, satInt 16 (y.2 + rdiv (signed 16 (s2.getF (Fld.CLE_SEEKB_ACC_FF k)) * a) (s2.getF (Fld.CLE_SEEKA_ACC_MAX k))))
      | _ =>
        let y := s2.runLoop (4 * k) (e + dma)
        let ff := signed 16 (s2.getF (ffField (s2.currentHead k) w))
        (y.1, satInt 16 (y.2 + ff))
  let uv := satInt 16 (uv0.2 + s.testSignal (4 * k + 1))
  let s3 := uv0.1.capture (4 * k) e e0 |>.capture (4 * k + 1) uv uv0.2 |>.capture (4 * k + 2) uma ma.2
    |>.capture (4 * k + 3) r p
  let u := s3.srv k
  let s4 := ((s3.setSrv k { u with uv := [uv, u.uv.getD 0 0], uma := [uma, u.uma.getD 0 0] }).setPoint k uv uma).setF Fld.CLE_CTRL_RUN 1
  if s4.dacZero k || 100 * (dac - uma).natAbs ≤ 32768 then s4
  else ((s4.setDacZero k true).disableLoop (4 * k + 1)).raiseMotion 364 0 k

-- ---------------------------------------------------------------------------------------------------------------
-- Runout learning (R299)

def State.learned (s : State) (h : Nat) : Bool := s.isSet ⟨0x2C00510, h, h⟩

/-- The table of the selected head takes this wedge, with the output of the learning filter: read-settled, valid, no injection on the actuator
(R299). -/
def State.learnWedge (s : State) (k w : Nat) : State :=
  if !s.isSet (Fld.SRV_STATUS_RD_OK k) || s.injecting k || !s.loopOn (4 * k + 3) then s
  else
    let h := s.currentHead k
    let out := signed 16 (s.getF (Fld.CLE_LSTAT_OUT (4 * k + 3)))
    let i := (w + 512 - s.getF (Fld.CLE_LRN_ADV k)) % 512
    let g0 := signed 16 (s.getF (Fld.CLE_LRN_GAIN k))
    let g := if s.learned h then g0 / 16 else g0
    let f := ffField h i
    let s1 := s.setF f (unsigned 16 (satInt 16 (signed 16 (s.getF f) + rnd (g * out) 15)))
    let l := (Assoc.find s1.cle.learn h).getD ⟨0, 0, 0, false⟩
    { s1 with cle := { s1.cle with learn := Assoc.put s1.cle.learn h { l with updated := l.updated + 1 } } }

/-- A revolution ends for head `h`: with 480 updated wedges it counts, and LRN_REVS counted ones make the head learned (R299). -/
def State.learnRev (s : State) (h : Nat) : State :=
  match Assoc.find s.cle.learn h with
  | some l =>
    let revs := if l.updated ≥ 480 then l.revs + 1 else l.revs
    let s1 := { s with cle := { s.cle with
      learn := Assoc.put s.cle.learn h { l with updated := 0, revs := revs, since := l.since + 1 } } }
    if revs ≥ s1.getF (Fld.CLE_LRN_REVS (h / 12)) then s1.setF ⟨0x2C00510, h, h⟩ 1 else s1
  | none => s

/-- A revolution ends on actuator k (R299). More than 1 runout parity error in 1,000 wedges raises source 292 or 308 (R303). -/
def State.revolution (s : State) (k : Nat) : State :=
  let v := s.srv k
  let s1 := (if 1000 * v.rroErr > v.wedges then s.raise (292 + 16 * k) 0 0 else s).indexPasses k |>.countRevs k
  let s2 := s1.setSrv k { s1.srv k with rroErr := 0, wedges := 0 }
  (List.range 12).foldl (fun t i => t.learnRev (12 * k + i)) s2

/-- RUNOUT_LEARN_TIMEOUT: a head is not learned within 4 × LRN_REVS revolutions of its first update (R299). -/
def execRunoutLearnTimeout (h : Nat) (s : State) : Res :=
  .next (match Assoc.find s.cle.learn h with
    | some l =>
      if !s.learned h && !l.told && l.since ≥ 4 * s.getF (Fld.CLE_LRN_REVS (h / 12)) then
        { s with cle := { s.cle with learn := Assoc.put s.cle.learn h { l with told := true } } }.raise 324 0 0
      else s
    | none => s)

-- ---------------------------------------------------------------------------------------------------------------
-- Checks on a wedge (R290, R291, R295)

/-- SRV_STATUS.WINH shows write-inhibit bits 3 to 0, PRED the predicted wedges. -/
def State.showServo (s : State) (k : Nat) : State :=
  ((s.setF (Fld.SRV_STATUS_WINH k) (s.inhibits k % 16)).setF (Fld.SRV_STATUS_PRED k) (s.srv k).pred).setF
    (Fld.SRV_STATUS_LEARNED k) (b2n (s.learned (s.currentHead k)))

/-- The residual check (R295, R296), armed from the third valid wedge after seeding and with B0 not zero. -/
def State.residualCheck (s : State) (k : Nat) (resid : Int) : State :=
  let v := s.srv k
  if v.seeds < 2 || s.modelCoef k 2 = 0 then s
  else if resid.natAbs > s.getF (Fld.SRV_THR_RES_TH k) then
    let s1 := s.setSrv k { v with resRun := min 2 (v.resRun + 1), passes := 0 }
    if v.resRun ≥ 1 then ((s1.stat (0x8140 + k) 1 1).inhibit k 0).raise (288 + 16 * k) 0 0 else s1
  else
    let s1 := s.setSrv k { v with resRun := 0, passes := v.passes + 1, qualified := v.qualified || v.passes + 1 ≥ 8 }
    if v.passes + 1 ≥ 8 then s1.uninhibit k 0 else s1

/-- Write-inhibit bit 2: |PES| over WI_TH, or over 0.6 × WI_TH before the head is learned; released after 2 wedges within
(R263, R291). -/
def State.pesCheck (s : State) (k : Nat) (pes : Int) : State :=
  let v := s.srv k
  let tenths := if s.learned (s.currentHead k) then 10 else 6
  if 10 * pes.natAbs > tenths * s.getF (Fld.SRV_THR_WI_TH k) then (s.setSrv k { v with pesRun := 0 }).inhibit k 2
  else
    let s1 := s.setSrv k { v with pesRun := v.pesRun + 1 }
    if v.pesRun + 1 ≥ 2 then s1.uninhibit k 2 else s1

/-- Settling (R290): counts over consecutive valid wedges. Read settle after a seek enables the microactuator loop, whose
ramp restarts the write count; a write settle met by then stands (DESIGN CHOICE, assumption log 83). Bit 3 is released on write settle with a
qualified model (R291). -/
def State.settleCheck (s : State) (k : Nat) (pes : Int) : State :=
  let v := s.srv k
  if !v.counting then s
  else
    let rd := if pes.natAbs ≤ s.getF (Fld.SRV_SETTLE_RD_TH k) then v.rd + 1 else 0
    let wr := if v.ramp.isSome then 0 else if pes.natAbs ≤ s.getF (Fld.SRV_SETTLE_WR_TH k) then v.wr + 1 else 0
    let s1 := s.setSrv k { v with rd := rd, wr := wr }
    let s2 := if rd ≥ s.getF (Fld.SRV_SETTLE_RD_N k) && !s.isSet (Fld.SRV_STATUS_RD_OK k) then
        let t := s1.setF (Fld.SRV_STATUS_RD_OK k) 1
        if v.maDue && !t.dacZero k then
          let t1 := (t.enableLoop (4 * k + 1) 0).startRamp (4 * k + 1)
          t1.setSrv k { t1.srv k with maDue := false, wr := 0 }
        else t
      else s1
    let s3 := if (s2.srv k).wr ≥ s.getF (Fld.SRV_SETTLE_WR_N k) then s2.setF (Fld.SRV_STATUS_WR_OK k) 1 else s2
    if s3.isSet (Fld.SRV_STATUS_WR_OK k) && (s3.srv k).qualified then s3.uninhibit k 3 else s3

/-- POS, PES and RESID report the wedge. -/
def State.reportWedge (s : State) (k : Nat) (p resid : Int) : State :=
  ((s.setF (Fld.SRV_POS_POS k) (unsigned 32 p)).setF (Fld.SRV_PES_PES k) (unsigned 16 (satInt 16 (p - s.target k)))).setF
    (Fld.SRV_PES_RESID k) (unsigned 16 (satInt 16 resid))

/-- The model takes P as its newest state; the first two valid wedges seed it (R78). -/
def Srv.take (v : Srv) (p : Int) : Srv :=
  if v.seeds = 0 then { v with p1 := p, p2 := p, seeds := 1 }
  else { v with p1 := p, p2 := v.p1, seeds := min 2 (v.seeds + 1) }

/-- The model forgets its seeding: bits 0 and 3 wait for 8 passes in a row (R78, R291). -/
def Srv.unseed (v : Srv) : Srv := { v with seeds := 0, passes := 0, qualified := false, resRun := 0 }

/-- The wedge id advances; at wedge 0 the index passes. -/
def State.wedgeId (s : State) (k id : Nat) : State :=
  let s1 := s.setF (Fld.SRV_STATUS_WEDGE k) id
  let s2 := s1.setSrv k { s1.srv k with wedges := (s1.srv k).wedges + 1 }
  if id = 0 then s2.revolution k else s2

/-- A mark is found: SRV_TW takes Tw when the mark before it was found too, and a valid wedge scales STEP, SSTEP and FRAC by it until the next
valid interval (R87, R170, R259, R275, R297). -/
def State.markTw (s : State) (k : Nat) (w : WedgeData) (valid : Bool) : State :=
  let s1 := s.setSrv k { s.srv k with marked := true }
  if !(s.srv k).marked then s1
  else
    let s2 := s1.setF (Fld.SRV_TW_TW k) w.tw
    if valid then (s2.setSrv k { s2.srv k with tw := w.tw }).rescale k else s2

/-- The runout field of a wedge fails its parity: RRO_ERR counts it, for the revolution too (R279, R303). -/
def State.rroCheck (s : State) (k : Nat) (w : WedgeData) : State :=
  if s.isSet (Fld.SRV_CTRL_RROF_EN k) && (runoutOf w).isNone then
    let s1 := s.stat (0x8140 + k) 5 1
    s1.setSrv k { s1.srv k with rroErr := (s1.srv k).rroErr + 1 }
  else s

/-- A valid wedge (R277 to R299). -/
def State.validWedge (s : State) (k : Nat) (w : WedgeData) (trajEnd : Bool) (dac : Int) : State :=
  let v := s.srv k
  let s2 := (s.markTw k w true).rroCheck k w
  let p := s.measuredP k w
  let resid := if v.seeds < 2 then 0 else p - s.predicted k
  let s3 := s2.residualCheck k resid
  let u := s3.srv k
  let s4 := s3.setSrv k { u.take p with pred := 0, searching := false, amps := (w.a :: u.amps).take 16 }
  let s5 := s4.uninhibit k 1
  let s6 := if u.waits then s5.retarget k else s5.advanceRef k trajEnd
  let s7 := (s6.reportWedge k p resid).pesCheck k (p - s6.target k)
  let s8 := (s7.settleCheck k (p - s7.target k)).cleCompute k (idOf w) dac
  ((s8.learnWedge k (idOf w)).wedgeId k (idOf w)).showServo k

-- ---------------------------------------------------------------------------------------------------------------
-- Prediction and loss (R297, R298)

/-- The sequencer aborts the sectors in progress on actuator k: their decode has not begun; they are read again on the next
revolution (R193, R220). -/
def State.abortSectors (s : State) (k : Nat) : State :=
  let c := s.chn k
  let idle (r : RingSector) : Bool := r.verdict == 0 && r.tried == 0 &&
    s.dec.waiting.any (fun w => w.k == k && w.psa == r.psa && w.stored.isNone && (w.kind == 0 || w.kind ≥ 3))
  let gone := (c.ring.filter idle).map (·.psa)
  let s1 := { s with dec := { s.dec with waiting := s.dec.waiting.filter (fun w => !(w.k == k && gone.contains w.psa)) } }
  let s2 := s1.setRing_ k (c.ring.filter (fun r => !idle r))
  let s3 := s2.setChn k { s2.chn k with lost := gone.foldl (fun l p => insertNat p l) (s2.chn k).lost }
  if gone.isEmpty then s3 else s3.setF (Fld.CHN_STATUS_STATE k) 3

/-- The data read gate is never asserted over a servo field: one still asserted from the sector before is taken away, and an abort has
ended (R166, R178, R193). -/
def State.overServo (s : State) (k : Nat) : State :=
  if (s.chn k).rgate || s.getF (Fld.CHN_STATUS_STATE k) = 3 then
    let s1 := (s.setChn k { s.chn k with rgate := false }).setF (Fld.CHN_STATUS_STATE k) 0
    (if (s.chn k).rgate then s1.emit (.rgate k false) else s1).servoField k
  else s.servoField k

/-- The wedge sequence is lost (R298). The microactuator loop is disabled, and enabled again at the read settle after the next seek (DESIGN
CHOICE, assumption log 83). Media time is counted again from the first index after the next lock (R78, R105). -/
def State.sequenceLost (s : State) (k : Nat) : State :=
  let s0 := { s with tint := { s.tint with counting := s.tint.counting.set k false } }
  let s1 := ((s0.inhibit k 1).inhibit k 3).abortSectors k
  let s2 := ((s1.disableLoop (4 * k + 1)).setF (Fld.SRV_STATUS_LOST k) 1).setF (Fld.SRV_CTRL_MODE k) 5
  let s3 := ((s2.setF (Fld.SRV_STATUS_RD_OK k) 0).setF (Fld.SRV_STATUS_WR_OK k) 0).stat (0x8140 + k) 3 1
  let v := s3.srv k
  let s4 := s3.setSrv k { v.unseed with pred := 0, sought := 0, run := 0, ramp := none, seek := none, counting := false,
                                        uma := [0, v.uma.getD 0 0] }
  (s4.settle).showServo k

/-- A missed or defective wedge (R297): P is P̂ while at most PRED_MAX are predicted in a row, else the sequence is lost. -/
def State.lackWedge (s : State) (k : Nat) (trajEnd : Bool) (dac : Int) : State :=
  let v := s.srv k
  if v.pred ≥ s.dictNum (0x3600 + k) 0x0B then s.sequenceLost k
  else
    let p := s.predicted k
    let id := (s.getF (Fld.SRV_STATUS_WEDGE k) + 1) % 512
    let s1 := (s.setSrv k { v with p1 := p, p2 := v.p1, pred := v.pred + 1 }).inhibit k 1
    let s2 := ((s1.stat (0x8140 + k) 2 1).advanceRef k trajEnd).reportWedge k p 0
    (((s2.cleCompute k id dac).wedgeId k id).raise (289 + 16 * k) 0 0).showServo k

/-- A wedge without a mark (R278). -/
def State.missWedge (s : State) (k : Nat) (trajEnd : Bool) (dac : Int) : State :=
  ((s.setSrv k { s.srv k with marked := false }).stat (0x8140 + k) 4 1).lackWedge k trajEnd dac

/-- The search over the whole wedge period (R292, R298): a run of 4 valid wedges with consecutive ids restores the position,
reseeds the model and retargets; not once REACQ wedges have been searched. -/
def State.seekMarks (s : State) (k : Nat) (w : WedgeData) (found : Bool) (dac : Int) : State :=
  let v := s.srv k
  let next := (s.getF (Fld.SRV_STATUS_WEDGE k) + 1) % 512
  let ok := found && idOk w && w.a != 0
  let run := if !ok then 0 else if v.run = 0 || idOf w = next then v.run + 1 else 1
  let s1 := s.setSrv k { v with run := run, sought := v.sought + 1, marked := v.marked && found }
  let s1b := if found then s1.markTw k w (ok && run ≥ 2) else s1
  let s2 := if ok then (s1b.setF (Fld.SRV_STATUS_WEDGE k) (idOf w)).rroCheck k w else s1b
  if run < 4 || v.sought ≥ s.dictNum (0x3600 + k) 0x0C then (s2.cleCompute k next dac).showServo k
  else
    let p := s2.measuredP k w
    let s3 := (s2.setF (Fld.SRV_STATUS_LOST k) 0).uninhibit k 1
    let s4 := s3.setSrv k { ((s3.srv k).unseed.take p) with amps := [w.a] }
    ((((s4.reportWedge k p 0).retarget k).cleCompute k (idOf w) dac).settle).showServo k

/-- SERVO_WEDGE: a servo address mark is found on actuator k (R275 to R299). With no match in the window, or when a condition
of R278 fails, the wedge is missed or defective. -/
def execServoWedge (k : Nat) (w : WedgeData) (trajEnd : Bool) (dac : Int) (s : State) : Res :=
  .next (if s.parked k || s.getF (Fld.SRV_CTRL_MODE k) = 0 then s
    else if s.isSet (Fld.SRV_STATUS_LOST k) then (s.overServo k).seekMarks k w (w.marks.any (fun m => markMatches m.2)) dac
    else
      let t := s.overServo k
      let win := if (t.srv k).searching then 16 else t.getF (Fld.SRV_CTRL_SAMWIN k)
      match markFound w.marks win with
      | none => (t.missWedge k trajEnd dac).settle
      | some _ => (if t.wedgeValid k w then t.validWedge k w trajEnd dac else (t.markTw k w false).lackWedge k trajEnd dac).settle)

/-- WEDGE_PREDICTED: no mark in the window (R297). -/
def execWedgePredicted (k : Nat) (trajEnd : Bool) (dac : Int) (s : State) : Res :=
  .next (if s.parked k || s.getF (Fld.SRV_CTRL_MODE k) = 0 then s
    else if s.isSet (Fld.SRV_STATUS_LOST k) then
      let s1 := (s.overServo k).setSrv k { s.srv k with run := 0, sought := (s.srv k).sought + 1, marked := false }
      s1.cleCompute k (s.getF (Fld.SRV_STATUS_WEDGE k)) dac
    else ((s.overServo k).missWedge k trajEnd dac).settle)

/-- WEDGE_SEQUENCE_LOST: a missed or defective wedge after PRED_MAX predicted ones (R298). -/
def execWedgeSequenceLost (k : Nat) (s : State) : Res :=
  .next (if s.parked k || s.getF (Fld.SRV_CTRL_MODE k) = 0 || s.isSet (Fld.SRV_STATUS_LOST k)
        || (s.srv k).pred < s.dictNum (0x3600 + k) 0x0B then s
    else (s.overServo k).sequenceLost k)

/-- REACQUIRE_TIMEOUT: no run of 4 valid wedges within REACQ wedges; the actuator is parked and source 290 or 306 raised; its
default reaction resets the unit (R298, R608). -/
def execReacquireTimeout (k : Nat) (s : State) : Res :=
  .next (if !s.isSet (Fld.SRV_STATUS_LOST k) || (s.srv k).sought < s.dictNum (0x3600 + k) 0x0C then s
    else
      let s1 := s.retract k 0
      let s2 := { s1 with boot := { s1.boot with locked := s1.boot.locked.filter (· != k) } }
      s2.raise (290 + 16 * k) 0 0)

/-- CLE_OVERRUN: the outputs of the last wedge of actuator k are not complete 1.0 µs after its PES; the motion die keeps the previous
ones, which the plant model takes as its inputs (R287, R295). -/
def execCleOverrun (k : Nat) (s : State) : Res :=
  let v := s.srv k
  .next ((((s.setSrv k { v with uv := [v.uv.getD 1 0, v.uv.getD 1 0], uma := [v.uma.getD 1 0, v.uma.getD 1 0] }).setPoint k
    (v.uv.getD 1 0) (v.uma.getD 1 0)).setF
    Fld.CLE_CTRL_RUN 0).raise 321 0 0)

-- ---------------------------------------------------------------------------------------------------------------
-- Targets, loops, heads

/-- SRV_TARGET_WRITE: during prediction the target waits for the first valid wedge (R286, R289, R297). -/
def execSrvTargetWrite (k : Nat) (target : BitVec 32) (s : State) : Res :=
  let s1 := s.setF (Fld.SRV_TARGET_TARGET k) target.toNat
  .next (if s.parked k || (s.srv k).unloading then s
    else if s.isSet (Fld.SRV_STATUS_LOST k) || (s.srv k).seeds = 0 then s1
    else if (s.srv k).pred != 0 then s1.setSrv k { s1.srv k with waits := true, held := some (s.target k) }
    else ((s1.retarget k).settle).showServo k)

/-- CLE_LOOP_ENABLE: a loop is enabled with its soft start (R285). -/
def execCleLoopEnable (l : Nat) (s : State) : Res :=
  .next (if l = 8 then
      let s1 := s.enableLoop 8 (s.spm.iqTarget)
      { s1 with cle := { s1.cle with spinRamp := some ⟨8, s.speed16, 0, s.rampN 8⟩ },
                spm := { s1.spm with slew := 5000 * s.speed16, target := s.getF Fld.SPM_TARGET_SPEED } }.setF
        (Fld.CLE_LSTAT_RAMP 8) 1
    else if l < 8 then (s.enableLoop l (s.inForce l)).startRamp l
    else s)

/-- The position of the present data track on surface h; none before the surfaces are known. -/
def State.sameTrack (s : State) (k h : Nat) : Option Int :=
  match s.surfaceOf (s.currentHead k), s.surfaceOf h with
  | some a, some b => (trackAt a (signed 32 (s.getF (Fld.SRV_TARGET_TARGET k)))).bind (positionAt b)
  | _, _ => none

/-- A HEAD write selects head `head` of the preamp; neither gate may assert until HS_SETTLE has passed (R257). The head's linearity and
runout tables apply and the target moves to the new surface (R293). `back` is the read-back of R253. -/
def State.headWritten (s : State) (k head : Nat) (back : List Nat) : State :=
  let dest := s.sameTrack k (12 * k + head)
  let s1 := (s.inhibit k 3).preampSet k 2 head back
  let s2 := s1.setPre k { s1.pre k with settling := true }
  let s3 := match dest with | some p => s2.setF (Fld.SRV_TARGET_TARGET k) (unsigned 32 p) | none => s2
  let s4 := s3.packLin k
  let s5 := (s4.setF (Fld.SRV_STATUS_RD_OK k) 0).setF (Fld.SRV_STATUS_WR_OK k) 0
  (s5.setSrv k { s5.srv k with counting := false, rd := 0, wr := 0, held := none }).settle

/-- HEAD_SWITCH: a HEAD write; `offsets` are the residual ADC offsets after calibration in LSB (R167). -/
def execHeadSwitch (k head : Nat) (back : List Nat) (offsets : List Nat) (s : State) : Res :=
  let s1 := s.headWritten k head back
  .next ((if offsets.any (· > 4) then s1.raise (208 + 16 * k) 0 0 else s1).showServo k)

/-- PRE_SCMD.GO: one frame to preamp k. The register is Host M, and the command names no writer: it is a write that has been let
through, firmware's in any life-cycle state or a host's in Manufacture (R10; DESIGN CHOICE, assumption log 7). `answer` is the
data of a read, none when the preamp does not respond; `back` what the read-back of R253 returns. A HEAD write selects a new head (R257,
R293). -/
def execPreScmdGo (k : Nat) (read : Bool) (addr data : Nat) (answer : Option Nat) (back : List Nat) (s : State) : Res :=
  let s1 := ((s.setF (Fld.PRE_SCMD_READ k) (b2n read)).setF (Fld.PRE_SCMD_ADDR k) addr).setF (Fld.PRE_SCMD_DATA k) data
  .next (if read then
      let s2 := (s1.preampFrame k true addr 0).setPre k { s1.pre k with mute := answer.isNone }
      match answer with
      | some v =>
        let s3 := s2.setF (Fld.PRE_SCMD_DATA k) v
        if addr = 9 then (s3.setPre k { s3.pre k with faultRead := true }).faultSeen k else s3
      | none => s2.raise (258 + 16 * k) 0 0
    else if addr = 2 then s1.headWritten k (data % 16) back
    else s1.preampSet k addr data back)

/-- HEAD_SWITCH_SETTLE: the gates may assert again; the mark of the new head is searched with SAMWIN at 16, the model is
reseeded and the target taken at the first valid wedge (R257, R293). -/
def execHeadSwitchSettle (k : Nat) (s : State) : Res :=
  .next (if !(s.pre k).settling then s
    else
      let s1 := s.setPre k { s.pre k with settling := false }
      s1.setSrv k { (s1.srv k).unseed with searching := true, amps := [], waits := true })

/-- The spindle turns at speed, and actuator k can leave the ramp. Before Cobalt, and after a loss of the link or of the Motion domain,
heads are loaded by Ochre alone, or by the bring-up of an unformatted drive (R21, R70, R81, R247). -/
def State.mayLoad (s : State) (k : Nat) : Bool :=
  (s.boot.ochreRunning || s.boot.bringUp || (s.stage = 3 && !s.boot.restore)) && s.parked k && !s.retracting k && !s.vcmOff k && s.isSet Fld.SPM_STATUS_AT_SPEED
    && s.motionLinkUp && !s.isSet Fld.FCL_STATUS_SAFE

/-- The actuator leaves the ramp, with its back-EMF held at LOAD_VEL until servo takes over (R292, R334). -/
def State.leaveRamp (s0 : State) (k : Nat) : State :=
  let s := s0.emit (.vcmVelocity k (s0.getF (Fld.MFE_PUSH_LOAD_VEL k)))
  let s1 := ((s.setParked k false).setDacZero k false).setRet k ⟨0, 0⟩
  let s2 := if k = 0 then { s1 with mfe := { s1.mfe with coilShorted0 := false } }
            else { s1 with mfe := { s1.mfe with coilShorted1 := false } }
  (s2.setF (Fld.SRV_CTRL_MODE k) 2).inhibit k 3

/-- The motion die measures R_coil against the parking stop (R334). -/
def State.measureCoil (s : State) (k r : Nat) : State :=
  if k = 0 then { s with mfe := { s.mfe with coil0 := some r } } else { s with mfe := { s.mfe with coil1 := some r } }

/-- Actuator k is back in service once its heads are loaded with servo lock: its media domain, and the Motion domain with the
second actuator; bits 6 and 10 are released (R21, R81, R263, R288). -/
def State.backInService (s : State) (k : Nat) : State :=
  let out := s.boot.outOfService.filter (· != domMedia k)
  let both := !s.parked 0 && !s.parked 1
  let out2 := if both then out.filter (· != domMotion) else out
  let s1 := { s with boot := { s.boot with outOfService := out2, svcTimedOut := s.boot.svcTimedOut.filter (· != domMedia k),
                                           locked := insertNat k s.boot.locked },
                     mfe := { s.mfe with setPointsIgnored := s.mfe.setPointsIgnored && !both } }
  let s2 := if s1.d2d.coreUp then s1.uninhibit k 6 else s1
  s2.uninhibit k 10

/-- Ochre step 3 reads the ID register of preamp k, `ident`, none when it does not respond (R254, R269, R271), and initialises the preamp:
the head that PRE_HEAD shows, all three readers and MODE 2 (R258). -/
def State.meetPreamp (s : State) (k : Nat) (ident : Option Nat) : State :=
  if !s.boot.ochreRunning && !s.boot.bringUp then s
  else
    let p := s.pre k
    let s1 := ((s.setPre k { p with mute := ident.isNone, ident := ident.or p.ident }).preampIdent k).settle
    if ident.isSome then ((s1.preampSet k 2 (s1.getF (Fld.PRE_HEAD_HEAD k)) [s1.getF (Fld.PRE_HEAD_HEAD k)]).preampSet k 3 7 []).preampSet k 1 2 [2]
    else s1

/-- Four marks one wedge period apart with consecutive valid wedge ids (R292). -/
def lockRun (ws : List WedgeData) : Bool :=
  ws.length == 4 && ws.all (fun w => idOk w && w.a != 0 && w.marks.any (fun m => markMatches m.2))
    && (List.range 3).all (fun i => (ws.map idOf).getD (i + 1) 0 == ((ws.map idOf).getD i 0 + 1) % 512)

end Sys2Proof.Machine
end

