-- ==== Sys2Proof/Machine/Recovery.lean ====
section
/-!
DEFINITION. The recovery ladder (R220 to R235), media scrub (R236 to R242), capacity efficiency (R43, R44, R243), and the
qualification and formatting of a drive (R244 to R247), and the head load, with which the bring-up of R247 ends (R292, R296).
Choices: assumption log 18, 63, 72, 74, 76.
-/
namespace Sys2Proof.Machine
open Sys2Proof

-- ---------------------------------------------------------------------------------------------------------------
-- Ends of ladders (R223, R224, R230, R232)

def State.ladder (s : State) (psa : Nat) : Option Ladder := s.dec.ladders.find? (fun l => l.psa == psa)
def State.setLadder (s : State) (x : Ladder) : State :=
  { s with dec := { s.dec with ladders := s.dec.ladders.map (fun l => if l.psa == x.psa then x else l) } }

/-- Put a ladder into a list ordered by PSA. -/
def insertLadder (l : List Ladder) (x : Ladder) : List Ladder :=
  match l with
  | [] => [x]
  | y :: t => if x.psa < y.psa then x :: y :: t else y :: insertLadder t x

/-- Ladders of the stripe of `psa`, in stripe position order (R222). -/
def State.stripeLadders (s : State) (psa : Nat) : List Ladder :=
  (s.dec.ladders.filter (fun l => stripeOf l.psa == stripeOf psa)).foldl insertLadder []

/-- Where the data track of a sector lies, moved by `off` thousandths of the zone's pitch (R227). -/
def State.trackPosition (s : State) (psa : Nat) (off : Int) : Option Int :=
  match s.surfaceOf (psaSurface psa), s.zoneAt psa with
  | some f, some z => (positionAt f (psaTrack psa)).map (fun (c : Int) => c + off * z.pitch / 1000)
  | _, _ => none

/-- Actuator k moves there. -/
def State.moveToTrack (s : State) (k psa : Nat) (off : Int) : State :=
  match s.trackPosition psa off with
  | some p => (s.setF (Fld.SRV_TARGET_TARGET k) (unsigned 32 p)).retarget k
  | none => s

/-- Thousandths of PITCH at which equaliser set n reads (R200). -/
def setOffset (n : Nat) : Int := [0, 80, -80, 150, -150].getD n 0

/-- The L4 read that actuator k makes next: of the stripe whose ladder came first, its lowest offset not read yet, as its number from 0,
and the sectors to be read there (R220, R227). -/
def State.offsetDue (s : State) (k : Nat) : Option (Nat × List Ladder) :=
  match s.dec.ladders.find? (fun l => l.k == k && l.stage == 4 && l.rereads < 4) with
  | none => none
  | some x =>
    let l := (s.stripeLadders x.psa).filter (fun (y : Ladder) => y.k == k && y.stage == 4 && y.rereads < 4)
    let n := l.foldl (fun a (y : Ladder) => min a y.rereads) x.rereads
    some (n, l.filter (fun (y : Ladder) => y.rereads == n))

/-- Actuator k stands where L4 reads next, with the equaliser set for it; when no ladder has an offset left it is back at the centre of the
track of `psa` with set 0 (R200, R227). -/
def State.followOffset (s : State) (k psa : Nat) : State :=
  match s.offsetDue k with
  | some (n, x :: _) =>
    if s.getF (Fld.CHN_DETCFG_EQSET k) = n + 1 && some (s.target k) == (s.trackPosition x.psa (setOffset (n + 1))) then s
    else (s.useSet k (n + 1)).moveToTrack k x.psa (setOffset (n + 1))
  | _ => if s.getF (Fld.CHN_DETCFG_EQSET k) = 0 then s else (s.useSet k 0).moveToTrack k psa 0

/-- Adaptation is frozen while a ladder of actuator k is in L2 to L5 (R203). -/
def State.freeze (s : State) (k : Nat) : State :=
  s.setF (Fld.CHN_DETCFG_ADAPT k) (b2n (!s.dec.ladders.any (fun l => l.k == k && (l.stage ≥ 2 || l.busy || !l.queue.isEmpty))))

/-- A ladder is over: its decodes end, its slots are released, set 0 is in use again at track centre, and with no ladder of the
actuator beyond L1 adaptation goes on (R203, R217, R227); with the last ladder of a stripe its erasures are forgotten. -/
def State.dropLadder (s : State) (x : Ladder) : State :=
  let s1 := { s with dec := { s.dec with ladders := s.dec.ladders.filter (fun l => l.psa != x.psa) } }
  let s2 := (s1.cancelWork x.psa).releaseSlots x.psa
  let s4 := (if x.stage = 4 then s2.followOffset x.k x.psa else s2).freeze x.k
  if (s4.stripeLadders x.psa).isEmpty then
    { s4 with dec := { s4.dec with erased := s4.dec.erased.filter (fun p => stripeOf p != stripeOf x.psa) } }
  else s4

/-- A sector is recovered: the counter of the stage reached goes up, and from REALLOC_STAGE on it is to be reallocated, as background
work when scrub found it (R230, R232). -/
def State.recovered (s : State) (x : Ladder) : State :=
  let s1 := (s.dropLadder x).bumpF (Fld.DEC_RECCNT_RECOVERED x.k) 1
  let s2 := s1.stat (0x8120 + x.k) (1 + x.reached) 1
  if x.reached ≥ s.dictNum (0x3200 + x.k) 9 then { s2 with dec := { s2.dec with due := s2.dec.due ++ [(x.psa, x.kind == 3)] } } else s2

/-- A sector is unrecovered: the reads that wait for it complete with MEDIA_UNRECOVERED; source 245 for a host read, 246 when scrub found
it (R230, R240). -/
def State.unrecovered (s : State) (x : Ladder) : State :=
  let s1 := (s.dropLadder x).bumpF (Fld.DEC_RECCNT_UNRECOVERED x.k) 1
  let s2 := ({ s1 with dec := { s1.dec with failed := Assoc.put s1.dec.failed x.psa St.mediaUnrecovered } }).dropOutcomes
  let s3 := if x.kind = 2 || s2.awaited x.psa then s2.raise 245 0 x.psa else s2
  if x.kind = 3 then s3.raise 246 0 x.psa else s3

/-- A parity sector that is still erased after L2 is given up; scrub reports it (R231, R240). -/
def State.parityGivenUp (s : State) (x : Ladder) : State :=
  if x.kind = 3 then (s.dropLadder x).raise 246 0 x.psa else s.dropLadder x

-- ---------------------------------------------------------------------------------------------------------------
-- L1 (R129, R130, R222)

/-- A rebuilt sector is accepted (R130). -/
def State.acceptRebuilt (s : State) (psa : Nat) (blk : List Byte) : Bool :=
  let tagged := match s.expectedTag psa with
    | some g => tileTag blk == g
    | none => tileType blk != 4 || tileTag blk == zeros 16
  s.isParity psa || (tileCrcOk blk && tagged)

/-- A rebuilt sector that is accepted is confirmed, and its ladder ends. -/
def State.takeRebuilt (s : State) (psa : Nat) (blk : List Byte) : State :=
  if !s.acceptRebuilt psa blk then s
  else
    let s1 := s.confirm (actuatorOf (psaSurface psa)) psa
    let s2 := { s1 with dec := { s1.dec with recovered := Assoc.put s1.dec.recovered psa blk } }
    match s2.ladder psa with
    | some x => s2.recovered { x with reached := max 1 x.reached }
    | none => s2

/-- Erased positions of the stripe of `psa`. -/
def State.erasedIn (s : State) (psa : Nat) : List Nat := s.dec.erased.filter (fun p => stripeOf p == stripeOf psa)

/-- Some position of the stripe has no verdict. -/
def State.stripeUnread (s : State) (psa : Nat) : Bool := s.dec.unread.any (fun p => stripeOf p == stripeOf psa)

/-- L1: with at most two erasures and a verdict for every position, the stripe is rebuilt. A stripe has no root track (R126). -/
def State.rebuildStripe (s : State) (psa : Nat) : State :=
  let g := stripeOf psa
  let e := s.erasedIn psa
  if s.stripeUnread psa || s.rootTrackAt (psaSurface psa) (psaTrack psa) then s
  else
    let present := ((List.range 32).filter (fun i => !e.contains (g + i))).map (fun i => (i, s.positionBlock (g + i)))
    match e with
    | [a] => s.takeRebuilt a (stripeRebuild present (stripePos a) none).1
    | [a, b] =>
      let (x, y) := stripeRebuild present (stripePos a) (some (stripePos b))
      (s.takeRebuilt a x).takeRebuilt b y
    | _ => s

-- ---------------------------------------------------------------------------------------------------------------
-- Work on records (R220, R221, R226, R228, R229)

/-- A decode of a ladder on a record, at an alignment. -/
def Ladder.work (x : Ladder) (r : SampleRec) (stage rank : Nat) (offset : Int) (resync : List Int) : Work :=
  ⟨x.k, x.psa, x.kind, rank, offset, resync, some r, stage, false, 0, 0⟩

/-- Decodes of a record at each of its candidates. -/
def Ladder.candWorks (x : Ladder) (r : SampleRec) (stage : Nat) : List Work :=
  r.cands.mapIdx (fun i c => x.work r stage i c.offset (r.resync.map (·.1)))

/-- Every choice of the recorded best or second candidate at each resync field (R229). -/
def resyncChoices (l : List (Int × Option Int)) : List (List Int) :=
  match l with
  | [] => [[]]
  | f :: t => (f.1 :: f.2.toList).flatMap (fun q => (resyncChoices t).map (fun r => q :: r))

/-- Put a scored decode into a list by rising score; among equals the earlier one stays ahead. -/
def insertScored (l : List (Nat × Work)) (x : Nat × Work) : List (Nat × Work) :=
  match l with
  | [] => [x]
  | y :: t => if x.1 < y.1 then x :: y :: t else y :: insertScored t x

/-- L5 on a record: every mark start from −W to +W, paired with the resync candidates, is scored by its syndrome weight; those above
SW_MAX are excluded, and the four lowest are decoded in increasing weight (R228, R229). -/
def State.alignmentSearch (s : State) (x : Ladder) (r : SampleRec) : List Work :=
  let max_ := s.getF (if x.k = 0 then Fld.DEC_NORM_SW_MAX0 else Fld.DEC_NORM_SW_MAX1)
  let at_ := (List.range (2 * r.width + 1)).flatMap (fun (i : Nat) => (resyncChoices r.resync).map (fun q => ((i : Int) - r.width, q)))
  let scored := at_.map (fun a => ((s.jobFor x.k x.psa r a.1 a.2 true).weight, x.work r 5 0 a.1 a.2))
  (((scored.filter (fun p => p.1 ≤ max_)).foldl insertScored []).take 4).map (·.2)

/-- The decodes that a new revolution needs: at its candidates, then L5 on it when it missed the mark or all of them fail (R221). -/
def State.recWorks (s : State) (x : Ladder) (r : SampleRec) (stage : Nat) : List Work :=
  x.candWorks r stage ++ s.alignmentSearch x r

/-- Index at which a part's bits begin in a record: preamble and mark, or resync mark, at the alignment of its best candidate. -/
def SampleRec.base (r : SampleRec) (i : Nat) : Int :=
  if i = 0 then r.width + (r.cands.headD ⟨0, 0, 0⟩).offset
  else r.resyncWidth + ((r.resync[i - 1]?.map (·.1)).getD 0)

/-- The samples of a record aligned to those of a first one, by the correlation of reader A over preamble and mark (R226). -/
def alignRec (ref r : SampleRec) : List (List (List Int)) :=
  let a (x : SampleRec) : List Int := (x.pieces.getD 0 []).getD 0 []
  let d := bestShift r.width 160 (ref.base 0) (r.base 0) (a ref) (a r)
  r.pieces.mapIdx (fun i p =>
    let m := r.base i - ref.base i + (if i = 0 then d else 0)
    p.map (moveBy m))

/-- The combined record of a sector: its stored on-track revolutions, aligned to the first with a valid alignment and averaged with
the weight of their linear SNR; none with fewer than two (R226). Without a valid alignment it misses the mark. -/
def State.combined (s : State) (psa : Nat) : Option SampleRec :=
  let revs := ((s.stored psa).map (·.rec_)).filter (fun r => r.eqset == 0)
  match (revs.find? (fun r => !r.cands.isEmpty)).orElse (fun _ => revs.head?) with
  | none => none
  | some ref =>
    if revs.length < 2 then none
    else
      let parts := (ref :: revs.filter (fun r => r != ref)).map (fun r => (linearOf r.snr, alignRec ref r))
      some { ref with pieces := ref.pieces.mapIdx (fun i p => p.mapIdx (fun j _ =>
        weightedMean (parts.map (fun x => (x.1, (x.2.getD i []).getD j []))))) }

/-- The decodes of the combined record: at its candidates, or L5 when it misses the mark; and whether L5 is applied and excludes every
offset (R221, R228). -/
def State.combinedWorks (s : State) (x : Ladder) : List Work × Bool :=
  match s.combined x.psa with
  | some r => if r.cands.isEmpty then (s.alignmentSearch x r, (s.alignmentSearch x r).isEmpty) else (x.candWorks r 3, false)
  | none => ([], false)

-- ---------------------------------------------------------------------------------------------------------------
-- Stages (R220 to R222, R227, R231)

/-- A stage has a further re-read for a ladder. -/
def State.moreReads (s : State) (x : Ladder) : Bool :=
  match x.stage with
  | 2 => x.rereads < s.dictNum (0x3200 + x.k) 5
  | 3 => (s.stored x.psa).length < s.dictNum (0x3200 + x.k) 6 && x.rereads < 8
  | 4 => x.rereads < 4
  | _ => false

/-- The stage after the present one; none when the ladder has no further stage. A parity sector does not go past L2 (R231). With fewer
than two stored revolutions after L2 the spec does not say what follows: the ladder goes on to L4 (DESIGN CHOICE, log 76). -/
def State.nextStage (s : State) (x : Ladder) : Option Nat :=
  let four := if s.dictNum (0x3200 + x.k) 7 = 1 then some 4 else none
  match x.stage with
  | 1 => some 2
  | 2 => if s.isParity x.psa then none else if (s.stored x.psa).length ≥ 2 then some 3 else four
  | 3 => four
  | _ => none

/-- The four revolutions with the highest SNR, kept when L4 begins (R217). -/
def bestFour (l : List StoreSlot) : List Nat :=
  (l.foldl (fun acc (x : StoreSlot) => acc.takeWhile (fun (y : StoreSlot) => y.rec_.snr ≥ x.rec_.snr) ++
    x :: acc.dropWhile (fun y => y.rec_.snr ≥ x.rec_.snr)) []).take 4 |>.map (·.slot)

/-- A ladder goes on: its next decode is issued, or it waits for a re-read, or its step of the stage has ended. An alignment search without
an offset to decode has been applied by then (R223). -/
def State.goOn (s : State) (x : Ladder) : State :=
  match x.queue with
  | w :: t => (((s.setLadder { x with queue := t, busy := true }).addWork w)).freeze x.k
  | [] => (s.setLadder { x with ended := !s.moreReads x, search := false,
                                reached := if x.search then max 5 x.reached else x.reached }).freeze x.k

/-- After L1: L5 on stored samples with a missed mark or an untried candidate, before any re-read (R221). -/
def State.afterL1 (s : State) (x : Ladder) : State :=
  let recs := ((s.stored x.psa).filter (·.untried)).map (·.rec_)
  let s1 := s.setStore (s.dec.store.map (fun y => if y.psa == x.psa then { y with untried := false } else y))
  let works := recs.flatMap (s1.alignmentSearch x)
  s1.goOn { x with queue := x.queue ++ works, search := !recs.isEmpty && works.isEmpty }

/-- What a ladder does first in stage n: extended decodes of the stored revolutions in L2, of the combined record in L3; L4 moves the
actuator off track, with only the four best revolutions kept (R217, R220, R227). -/
def State.startStage (s : State) (x : Ladder) (n : Nat) : State :=
  let y := { x with stage := n, rereads := 0, back := false, ended := false, queue := [], search := false }
  let s1 := (s.setLadder y).freeze x.k
  match n with
  | 2 => s1.goOn { y with queue := (s1.stored x.psa).flatMap (fun r => (y.candWorks r.rec_ 2).take 1) }
  | 3 => s1.goOn { y with queue := (s1.combinedWorks y).1, search := (s1.combinedWorks y).2 }
  | _ =>
    let keep := bestFour (s1.stored x.psa)
    let t := s1.setStore (s1.dec.store.filter (fun z => z.psa != x.psa || keep.contains z.slot))
    (t.followOffset x.k x.psa).goOn y

/-- A ladder enters its next stage, or ends unrecovered. -/
def State.enterStage (s : State) (x : Ladder) : State :=
  match s.nextStage x with
  | none => if s.isParity x.psa then s.parityGivenUp x else s.unrecovered x
  | some n => s.startStage x n

/-- A stripe moves to the next stage once every sector still erased has ended its step of the present one (R222); a stage that has
nothing to do for any of them is passed at once. -/
def State.stripeMoves (fuel : Nat) (s : State) (psa : Nat) : State :=
  match fuel with
  | 0 => s
  | f + 1 =>
    let l := s.stripeLadders psa
    if l.isEmpty || !l.all (·.ended) then s else State.stripeMoves f (l.foldl State.enterStage s) psa

/-- The failed sector's samples still wait in the ring for their copy. -/
def State.copyPending (s : State) (k psa : Nat) : Bool := (s.chn k).ring.any (fun r => r.psa == psa && r.verdict != 0 && !r.copied)

/-- A ladder may take a re-read: no step of its stripe waits for the recount, and no sector behind it on the track has been re-read in
this revolution (R222). In L4 the actuator stands at its offset. -/
def State.mayReread (s : State) (x : Ladder) : Bool :=
  let now := (s.chn x.k).revs
  !x.busy && !x.back && !x.ended && x.queue.isEmpty && s.moreReads x && !s.readBlocked x.k x.psa
    && (s.stripeLadders x.psa).all (fun y => !y.back && !(y.readAt == some now && decide (y.psa ≥ x.psa)))
    && (x.stage != 4 || (match s.offsetDue x.k with | some (_, l) => l.any (fun y => y.psa == x.psa) | none => false))

/-- The first re-read of a stripe's ladders starts their count of revolutions (R224). -/
def State.startRevs (s : State) (psa : Nat) : State :=
  if (s.stripeLadders psa).any (fun l => l.revs.isSome) then s
  else { s with dec := { s.dec with ladders := s.dec.ladders.map (fun l =>
    if stripeOf l.psa == stripeOf psa then { l with revs := some 1 } else l) } }

/-- A re-read of a ladder's sector: acquired like any read, stored, and its decodes issued; in L3 the combined record follows. In L4 the
actuator moves to the next offset (R220, R221, R227). -/
def State.reread (s : State) (x : Ladder) (cap : Capture) : State :=
  let (s1, r) := (s.startRevs x.psa).acquire x.k x.psa cap none
  let s2 := s1.storeRev x.k x.psa x.kind r false
  let y := { (s2.ladder x.psa).getD x with rereads := x.rereads + 1, readAt := some (s.chn x.k).revs }
  let own := s2.recWorks y r x.stage
  let both := if x.stage = 3 then s2.combinedWorks y else ([], false)
  let none5 := (s2.alignmentSearch y r).isEmpty || both.2
  let s3 := if x.stage = 4 then (s2.setLadder y).followOffset x.k x.psa else s2
  match own ++ both.1 with
  | [] => s3.setLadder { y with back := true, reached := max 5 y.reached }
  | works => s3.goOn { y with queue := works, search := none5 }

/-- A ladder whose sector is no longer erased ends: recovered, or with a tag mismatch (R40). -/
def State.endLadder (s : State) (x : Ladder) : State :=
  if x.mismatch then s.dropLadder x else s.recovered x

/-- A step of a ladder has ended: the erasures are recounted, L1 runs when it can, and the ladder goes on (R222). -/
def State.stepEnds (s : State) (x : Ladder) : State :=
  let s1 := s.setLadder { x with back := false }
  let s2 := if s1.dec.erased.contains x.psa then s1 else s1.endLadder x
  let s3 := if (s2.erasedIn x.psa).length ≤ 2 then s2.rebuildStripe x.psa else s2
  let s4 := match s3.ladder x.psa with
    | some y => if y.stage = 1 then s3.afterL1 y else s3.goOn y
    | none => s3
  State.stripeMoves 4 s4 x.psa

/-- A step of the ladder of `psa` ends: with `cap`, a re-read is taken, stored and decoded; without, a decode has returned, or, at L1,
every position of the stripe has its verdict. A re-read of a scrub ladder keeps to scrub's share, of which it takes `wedges`; `foreground`
tells whether foreground operations are queued (R101 to R104, R222, R237). -/
def execRecoveryStepEnd (psa wedges : Nat) (foreground : Bool) (cap : Option Capture) (s : State) : Res :=
  .next (match s.ladder psa with
    | none => s
    | some x =>
      match cap with
      | some c =>
        if !s.mayReread x then s
        else if x.kind = 3 then (if s.bgAllowed x.k wedges foreground then (s.bgCharge x.k wedges).reread x c else s.bgHold x.k)
        else s.reread x c
      | none => if !x.back || s.stripeUnread psa || s.copyPending x.k psa then s else s.stepEnds x)

/-- A foreground ladder has reached RECOVERY_REVS revolutions, counted together with the other ladders of its stripe: the foreground
sectors still erased there are unrecovered (R222, R224). -/
def execRecoveryLimit (psa : Nat) (s : State) : Res :=
  .next (match s.ladder psa with
    | none => s
    | some x =>
      if x.kind != 2 || x.revs.getD 0 < s.dictNum (0x3200 + x.k) 8 then s
      else ((s.stripeLadders psa).filter (fun l => l.kind == 2)).foldl State.unrecovered s)

-- ---------------------------------------------------------------------------------------------------------------
-- Margin (R237 to R240)

def State.qualifiedSnr (s : State) (psa : Nat) : Nat :=
  match s.zoneAt psa with
  | some z => (Assoc.find s.media.qualSnr (headZone (psaSurface psa) z.zone)).getD 0
  | none => 0

/-- The margin of a sector confirmed at L0 is low (R237). -/
def State.marginLow (s : State) (psa iters snr : Nat) : Bool :=
  iters > s.dictNum 0x3300 2 || snr + s.dictNum 0x3300 3 < s.qualifiedSnr psa

/-- A low-margin sector waits for its rewrite: while its actuator may not write, it is under recovery, or its stripe cannot be closed
(R225, R266). -/
def State.rewriteWaits (s : State) (psa : Nat) : Bool :=
  !s.mediaWritable (actuatorOf (psaSurface psa)) || s.underRecovery psa ||
    (!s.rootTrackAt (psaSurface psa) (psaTrack psa) && !s.closable (stripeOf psa))

/-- A data sector of low margin is rewritten in place with the same tile and a new WSEQ, then its parity, and is to be read again; a
rewrite that is cut too often relocates the tile instead (R238, R266, R267). -/
def State.rewriteTile (s : State) (psa : Nat) (cuts : List Nat) : State :=
  let tile := s.positionBlock psa
  let (t, ok) := s.writeCuts psa (tileStamp tile false s.disk.wseq) cuts
  if ok then
    let s1 := (t.writeTile psa (tileStamp tile false)).closeStripe (stripeOf psa)
    { s1 with dec := { s1.dec with recheck := insertNat psa s1.dec.recheck } }
  else t.relocate psa 4 tile []

/-- A sector of low margin: a data tile is rewritten in place (R238); journal, checkpoint, root and defect-list sectors follow R162 with
REASON 3 and their parity is rewritten (R239). The spec names no treatment of a parity sector of low margin: it is rewritten in place with the
other one of its stripe, and not read again for it (DESIGN CHOICE, log 82). The transfers are of class 7 (R236). `cuts` are the inhibit
sources that cut the rewrite. -/
def State.lowMargin (s : State) (psa : Nat) (cuts : List Nat) : State :=
  if s.rewriteWaits psa then { s with dec := { s.dec with rewrite := insertNat psa s.dec.rewrite } }
  else
    let t := { s with dec := { s.dec with rewrite := s.dec.rewrite.filter (· != psa) } }.charge 7 65
    if s.isParity psa then t.closeStripe (stripeOf psa)
    else if s.dataSectorAt psa then t.rewriteTile psa cuts
    else
      let s1 := t.addDefect psa 3
      if s.rootTrackAt (psaSurface psa) (psaTrack psa) then s1 else s1.closeStripe (stripeOf psa)

/-- The waiting rewrites of actuator k that need wait no more are made. -/
def State.rewritesDue (s : State) (k : Nat) : State :=
  (s.dec.rewrite.filter (fun p => actuatorOf (psaSurface p) == k && !s.rewriteWaits p)).foldl (fun (t : State) p => t.lowMargin p []) s

-- ---------------------------------------------------------------------------------------------------------------
-- A read by scrub (R236 to R242)

/-- What L0 makes of a record by itself: the verdict of R182, the local iterations, the hard decision and the mark start. -/
structure L0 where
  res : Nat
  iters : Nat
  word : Nat
  offset : Int
  deriving DecidableEq, Repr

/-- The trials of L0 on a record, at the on-the-fly limits: alike candidates in rank order, until one does not fail (R183, R236). -/
def State.l0Trials (s : State) (k psa : Nat) (r : SampleRec) (l : List Cand) : L0 :=
  match l with
  | [] => ⟨2, 0, 0, 0⟩
  | c :: t =>
    let d := (s.jobFor k psa r c.offset (r.resync.map (·.1)) false).run
    let res := s.decodeVerdict psa d.ok d.word
    if res = 2 && !t.isEmpty then s.l0Trials k psa r t else ⟨res, d.iters, d.word, c.offset⟩

def State.l0 (s : State) (k psa : Nat) (r : SampleRec) : L0 :=
  s.l0Trials k psa r ((r.cands.filter (alike (s.getF (Fld.CHN_MARKTHR_MARGIN k)) r.cands)).take (s.getF (Fld.CHN_MARKTHR_TRIES k)))

/-- An instance may work on a scrub decode: fewer than REC_MAX do and one is idle (R210). -/
def State.poolOpen (s : State) (k : Nat) : Bool :=
  (s.dec.inst.filter (fun w => match w with | some x => recovering x | none => false)).length < s.getF Fld.DEC_ALLOC_REC_MAX
    && (s.idleInst k).isSome

/-- A sector that fails L0 in a read of kind `kind`: its samples are stored, it is erased for its stripe and runs the ladder, with scrub
priority for kind 3 (R237). -/
def State.scrubFailed (s : State) (k psa kind : Nat) (r : SampleRec) : State :=
  let s1 := if r.cands.isEmpty then s.bumpF (Fld.CHN_ERRCNT0_MARK_MISS k) 1 else s
  let s2 := { s1 with dec := { s1.dec with erased := insertNat psa s1.dec.erased, unread := s1.dec.unread.filter (· != psa),
                                           confirmed := s1.dec.confirmed.filter (· != psa) } }
  let tried := ((r.cands.filter (alike (s.getF (Fld.CHN_MARKTHR_MARGIN k)) r.cands)).take (s.getF (Fld.CHN_MARKTHR_TRIES k))).length
  ((s2.stat (0x8120 + k) 1 1).storeRev k psa kind r (r.cands.isEmpty || tried < r.cands.length)).startLadder k psa kind

/-- A sector confirmed in scrub counts in the pass over its zone: sectors, local iterations, sum of SNR (R242). -/
def State.countPass (s : State) (psa iters snr : Nat) : State :=
  match s.zoneAt psa with
  | none => s
  | some z =>
    let key := headZone (psaSurface psa) z.zone
    let p := (Assoc.find s.media.pass key).getD (0, 0, 0)
    { s with media := { s.media with pass := Assoc.put s.media.pass key (p.1 + 1, p.2.1 + iters, p.2.2 + snr) } }

/-- A read of a sector outside the pool's trials is confirmed: it is recorded, adapts the channel and gives its SNR (R204, R209). -/
def State.readConfirmed (s : State) (k psa : Nat) (r : SampleRec) (x : L0) : Nat × State :=
  let q := r.resync.map (·.1)
  let e := s.errorOf k psa r x.offset q x.word
  let s1 := ((s.confirm k psa).seen psa x.word).recordSnr k psa r.eqset x.iters e
  let s2 := if s.isParity psa then s1 else s1.adapt k psa r x.offset q x.word
  s2.snrFrom k psa r.eqset [e]

/-- η of a zone in 0.0001, with the information rate C in the same unit (R43, R44, R243). -/
def efficiency (z : Zone) (c : Nat) : Nat :=
  divRound (32768 * dataPerTrack z * 100000000) (c * (512 * z.d))

/-- Firmware reports η and the SNR of a zone (R44, R243). -/
def State.reportZone (s : State) (h z c snr : Nat) : State :=
  match s.surfaceOf h with
  | none => s
  | some f =>
    match f.zones.find? (fun x => x.zone == z) with
    | none => s
    | some x =>
      (s.setDictNum (0x8400 + h) (1 + z) 2 (efficiency x c)).setDictNum (0x8500 + h) (1 + z) 2 snr

/-- Where a sector stands in the order of scrub: zone by zone, track by track, on every head (R236). -/
def State.scrubRank (s : State) (psa : Nat) : Nat :=
  match s.zoneAt psa with
  | some z => ((z.zone * 2 ^ 23 + (psaTrack psa - z.first)) * 32 + psaSurface psa) * 4096 + psaSector psa
  | none => 0

/-- Stripes whose parity has been written and that no write has opened since. -/
def State.closedStripes (s : State) : List Nat :=
  ((s.disk.sectors.map (·.1)).filter (fun p => stripePos p == 31 && !s.rootTrackAt (psaSurface p) (psaTrack p)
    && !s.obj.openStripes.contains (stripeOf p))).map stripeOf

/-- The sectors that scrub reads on actuator k: those of every closed stripe, which no defect list entry names, and those of the root
tracks (R236, R239). -/
def State.scrubSectors (s : State) (k : Nat) : List Nat :=
  ((s.closedStripes.flatMap (fun g => (List.range 32).map (fun i => g + i))).filter (fun p => !s.defective p)
    ++ (s.disk.sectors.map (·.1)).filter (fun p => s.rootTrackAt (psaSurface p) (psaTrack p))).filter
    (fun p => actuatorOf (psaSurface p) == k)

/-- The one of two sectors that comes first in the order of scrub. -/
def State.earlier (s : State) (a : Option Nat) (p : Nat) : Option Nat :=
  match a with
  | none => some p
  | some q => if s.scrubRank p < s.scrubRank q then some p else some q

/-- The sector that scrub reads next on actuator k: the first behind its position, else the first of all (R236, R241). -/
def State.scrubNext (s : State) (k : Nat) : Option Nat :=
  let l := s.scrubSectors k
  let here := s.scrubRank (s.media.scrub.getD k 0)
  ((l.filter (fun p => decide (s.scrubRank p > here))).foldl s.earlier none).orElse (fun _ => l.foldl s.earlier none)

/-- Scrub's position moves on to a sector; behind the last one a new pass begins (R236, R241). -/
def State.scrubAt (s : State) (k psa : Nat) : State :=
  let m := s.media
  let starts := if s.scrubRank psa ≤ s.scrubRank (m.scrub.getD k 0) then m.passUs.set k s.pwr.timeUs else m.passUs
  { s with media := { m with scrub := m.scrub.set k psa, passUs := starts } }

/-- C in 0.0001, between 0.0001 and 1 bit per channel bit: the information rate of the model channel with the adapted target of set 0 for a
head and zone and white noise at an SNR. The spec estimates it on 2^20 simulated bits whose noise it does not give, so its value is free
(R43; log 18). -/
def State.infoRate (s : State) (key snr : Nat) : Nat :=
  let target := ((s.chanTable key).map (fun (t : ChanTable) => ((t.sets.getD 0 []).take 4).map (signed 16))).getD []
  1 + Config.infoRate target snr % 10000

/-- The pass over zone z of head h has ended: margin record, channel tables to bank 3, η from the mean SNR of the pass (R43, R204, R242,
R243). The means of the pass are rounded down (DESIGN CHOICE, log 82). -/
def State.passEnds (s : State) (h z : Nat) : State :=
  let key := headZone h z
  let p := (Assoc.find s.media.pass key).getD (0, 0, 0)
  let s1 := { s with media := { s.media with pass := Assoc.del s.media.pass key } }
  let s2 := match s1.chanTable key with
    | some t => { s1 with nvc := { s1.nvc with tables := Assoc.put s1.nvc.tables key t } }
    | none => s1
  if p.1 = 0 then s2
  else
    let s3 := s2.setDictNum (0x8600 + h) (1 + z) 2 (100 * p.2.1 / p.1)
    s3.reportZone h z (s3.infoRate key (p.2.2 / p.1)) (p.2.2 / p.1)

/-- With sector `psa` the pass over its zone has ended on actuator k when the sector that scrub reads next lies in another zone, or
before it: every head of the actuator has then been read there (R236, R242). -/
def State.zonePassEnd (s : State) (k psa : Nat) : State :=
  match s.zoneAt psa with
  | none => s
  | some z =>
    let done := match s.scrubNext k with
      | none => true
      | some q => decide (s.scrubRank q ≤ s.scrubRank psa) || (s.zoneAt q).map (fun (x : Zone) => x.zone) != some z.zone
    if done then
      let heads := (s.media.surfaces.filter (fun (f : Surface) => actuatorOf f.head == k)).map (fun (f : Surface) => f.head)
      heads.foldl (fun t h => t.passEnds h z.zone) s
    else s

/-- The read itself: acquired, decoded at the on-the-fly limits, judged; `kind` is 3 for scrub, 2 for the foreground read of R268. `cuts` are
the inhibit sources that cut the rewrite of a low-margin sector. -/
def State.scrubJudge (s : State) (k psa kind : Nat) (cap : Capture) (cuts : List Nat) : State :=
  let (s1, r) := s.acquire k psa cap none
  let x := s1.l0 k psa r
  match x.res with
  | 1 =>
    let (snr, s2) := s1.readConfirmed k psa r x
    let s3 := if kind = 3 then s2.countPass psa x.iters snr else s2
    if s3.marginLow psa x.iters snr then s3.lowMargin psa cuts else s3
  | 3 => (s1.confirm k psa).tagMismatch psa
  | _ => s1.scrubFailed k psa kind r

/-- The scrub sector of actuator k that gave up its slots and whose ladder is to start again (R218). -/
def State.scrubAgain (s : State) (k : Nat) : Option Nat :=
  (s.dec.again.find? (fun (p : Nat × Nat) => p.2 == 3 && actuatorOf (psaSurface p.1) == k)).map (fun (p : Nat × Nat) => p.1)

/-- Scrub reads on actuator k: a sector whose ladder is to start again, else the next of its pass; within its share of media time, of which
it takes `wedges`, its seek included (R102, R104, R218, R236); `foreground` tells whether foreground operations are queued. A sector under
a foreground ladder takes that outcome (R225). -/
def State.scrubStep (s : State) (k wedges : Nat) (foreground : Bool) (cap : Capture) (cuts : List Nat) : State :=
  match (s.scrubAgain k).orElse (fun _ => s.scrubNext k) with
  | none => s
  | some psa =>
    if s.readBlocked k psa then s
    else if !s.bgAllowed k wedges foreground then s.bgHold k
    else if !s.poolOpen k then s
    else
      let once := (s.scrubAgain k).isSome
      let s1 := if once then { s with dec := { s.dec with again := s.dec.again.filter (fun (p : Nat × Nat) => p.1 != psa) } }
                else s.scrubAt k psa
      let s2 := if (s.ladder psa).isSome then s1 else ((s1.bgCharge k wedges).rewritesDue k).scrubJudge k psa 3 cap cuts
      if once then s2 else s2.zonePassEnd k psa

/-- SCRUB_READ: sectors beside a cut write go first, read as foreground work; one under recovery waits (R225, R268). `cuts` as for
`State.scrubJudge`. -/
def execScrubRead (k wedges : Nat) (foreground : Bool) (cap : Capture) (cuts : List Nat) (s : State) : Res :=
  .next (match (s.chn k).adjacent with
    | psa :: l => if s.readBlocked k psa || s.underRecovery psa then s
                  else (s.setChn k { s.chn k with adjacent := l }).scrubJudge k psa 2 cap (cuts.filter (· < 13))
    | [] => s.scrubStep k wedges foreground cap (cuts.filter (· < 13)))

/-- A rewritten sector is read again on a revolution that scrub's share allows: with a margin still low its tile is relocated with
REASON 3 (R238), once its actuator may write. One under recovery waits (R225); write-inhibit does not stop the read (R265). `cuts` are the
inhibit sources that cut the write of the copy. -/
def execScrubRecheck (psa wedges : Nat) (foreground : Bool) (cap : Capture) (cuts : List Nat) (s : State) : Res :=
  let k := actuatorOf (psaSurface psa)
  .next (if !s.dec.recheck.contains psa || s.readBlocked k psa || s.underRecovery psa then s
    else if !s.bgAllowed k wedges foreground then s.bgHold k
    else
      let (s1, r) := (s.bgCharge k wedges).acquire k psa cap none
      let x := s1.l0 k psa r
      let over_ (t : State) : State := { t with dec := { t.dec with recheck := t.dec.recheck.filter (· != psa) } }
      match x.res with
      | 1 =>
        let (snr, s2) := s1.readConfirmed k psa r x
        if !s2.marginLow psa x.iters snr then over_ s2
        else if !s2.mediaWritable k then s2
        else ((over_ s2).relocate psa 3 (s2.positionBlock psa) (cuts.filter (· < 13))).charge 7 65
      | 3 => ((over_ s1).confirm k psa).tagMismatch psa
      | _ => (over_ s1).scrubFailed k psa 3 r)

/-- Every hour firmware stores each actuator's scrub position in bank 3 (R241). -/
def execScrubPositionStore (s : State) : Res :=
  .next { s with nvc := { s.nvc with scrubPos := s.media.scrub } }

/-- Every surface and zone, in order. -/
def State.allZones (s : State) : List (Nat × Nat) := s.media.surfaces.flatMap (fun f => f.zones.map (fun z => (f.head, z.zone)))

/-- Firmware computes η for one zone from its SNR estimate (R43, R204, R243). -/
def State.zoneEfficiency (s : State) (p : Nat × Nat) : State :=
  let key := headZone p.1 p.2
  let snr := ((s.chanTable key).map (·.snr)).getD 0
  s.reportZone p.1 p.2 (s.infoRate key snr) snr

/-- Firmware computes η for every surface and zone (R43). -/
def State.computeEfficiency (s : State) : State := s.allZones.foldl State.zoneEfficiency s

def execComputeEfficiency (s : State) : Res :=
  .next (if s.stage = 3 then s.computeEfficiency else s)

-- ---------------------------------------------------------------------------------------------------------------
-- The format plan (R247)

/-- The plan: speed, surfaces, root track. -/
def State.planRpm (s : State) : Nat := numAt (s.dictBytes 0x3410 1) 0 2
def State.planSurfaces (s : State) : Nat := numAt (s.dictBytes 0x3410 1) 2 1
def State.planRoot (s : State) : Nat := numAt (s.dictBytes 0x3410 1) 4 4
def State.planServoTracks (s : State) (h : Nat) : Nat := numAt (s.dictBytes 0x3410 2) (4 * h) 4
/-- Zone entry z of surface h in the plan; none where it is all zeros. -/
def State.planZone (s : State) (h z : Nat) : Option Zone :=
  let b := s.dictBytes (0x3420 + h) (1 + z)
  if b.all (· == 0) then none else some (parseZone b)
/-- The zones of surface h in the plan. -/
def State.planZones (s : State) (h : Nat) : List Zone := (List.range 64).filterMap (s.planZone h)
def State.setPlanZone (s : State) (h z : Nat) (x : Zone) : State := s.setDict (0x3420 + h) (1 + z) (zoneBytes x)
/-- Qualification writes a plan entry: its value in force and, as an RWM entry, in bank 3 (R245, R247, R569). -/
def State.keepPlanZone (s : State) (h z : Nat) (x : Zone) : State :=
  let s1 := s.setPlanZone h z x
  s1.storeValue (0x3420 + h) (1 + z) (zoneBytes x)
/-- The heads of the plan (R112). -/
def State.planHeads (s : State) : List Nat := headsOf s.planSurfaces
/-- The plan filled from the Ivory descriptors (R247). -/
def State.fillPlan (s : State) : State :=
  match s.media.drive with
  | none => s
  | some d =>
    let s1 := s.setDict 0x3410 1 (leBytes 2 d.rpm ++ leBytes 1 d.nsurf ++ [0] ++ leBytes 4 d.rootTrack)
    let tracks := (List.range 24).flatMap (fun h => leBytes 4 (match s.surfaceOf h with | some f => f.servoTracks | none => 0))
    let s2 := s1.setDict 0x3410 2 tracks
    s2.media.surfaces.foldl (fun t f =>
      (f.zones.foldl (fun u z => u.setPlanZone f.head z.zone z) t).setDictNum (0x3420 + f.head) 0 1 f.zones.length) s2

/-- SRATE in 0.1 Mb/s and WG_LEAD in ns of actuator k, which R274 needs. -/
def State.srate (s : State) (k : Nat) : Nat := s.dictNum (0x3600 + k) 1
def State.wgLead (s : State) (k : Nat) : Nat := s.dictNum (0x3500 + k) 2

/-- Some data track of a zone lies within 16 servo tracks of an Ivory slot (R133). -/
def zoneOnIvory (servoTracks : Nat) (z : Zone) : Bool := (ivorySlots servoTracks).any (nearSlot z)

/-- A plan entry that the part cannot use: R119, R126, R139, R169, R187, R274; also one that would break R133, or R140 by surfaces with
different zone counts or servo tracks (log 77). -/
def State.planBad (s : State) : Bool :=
  s.planRpm < 3600 || s.planRpm > 7200 || s.planSurfaces < 2 || s.planSurfaces > 24
    || s.planHeads.any (fun h =>
      let zs := s.planZones h
      let k := actuatorOf h
      zs.isEmpty || !zonesChain zs 0 0 || zs.any (fun z => !zoneOk z (s.srate k) (s.wgLead k) s.planRpm)
        || zs.any (zoneOnIvory (s.planServoTracks h))
        || !zs.any (fun z => z.kind == 1)
        || zs.length != (s.planZones 0).length || s.planServoTracks h != s.planServoTracks 0
        || ((h == 0 || h == 12) && !(match zoneOfTrack zs s.planRoot with | some z => z.kind == 1 | none => false)))

-- ---------------------------------------------------------------------------------------------------------------
-- Qualification (R244, R245)

/-- Status of qualification, 0x3400:04. -/
def State.qualStatus (s : State) : Nat := s.dictNum 0x3400 4

/-- QUAL_SECTORS sectors of a test pattern are written on the tracks of a zone of the plan at its rate, with the largest S that is valid there
(R244). -/
def State.testPattern (s : State) (h z : Nat) : State :=
  match s.planZone h z with
  | some x => s.emit (.testTracks h z x.rate (largestLayout x) (s.dictNum 0x3400 2))
  | none => s

/-- Qualification of every head and zone of the plan begins, each at the plan's rate; the channel is trained where it has no tables
yet. What the surfaces held is overwritten (R244, R247). -/
def State.startQualification (s : State) : State :=
  let all := s.planHeads.flatMap (fun h => (s.planZones h).map (fun z => (h, z.zone)))
  let keys := all.map (fun p => (headZone p.1 p.2, 0))
  let s0 := (keys.filter (fun p => (s.chanTable p.1).isNone)).foldl (fun t p => t.train p.1) s
  let s1 := s0.setDictNum 0x3400 4 1 1
  all.foldl (fun (t : State) p => t.testPattern p.1 p.2) { s1 with
    boot := { s1.boot with bringUp := false },
    media := { s1.media with qual := keys, qualDone := [], qualFails := [] },
    disk := { s1.disk with sectors := [] } }

/-- The QUAL_SECTORS test sectors of head h and zone z at one rate have been read back: `fails` failed L0, `beyond` of them went past
L1; `snr` is the zone's SNR estimate. The rate passes, or RATE steps down by 0.5 %, or after 20 steps the head stops with status 2
and the next rate is tried on a new test pattern (R244, R245). -/
def execQualificationRateResult (h z beyond snr : Nat) (fails : List Nat) (s : State) : Res :=
  let key := headZone h z
  .next (match Assoc.find s.media.qual key, s.planZone h z with
    | some steps, some x =>
      let x1 := { x with sectors := largestLayout x }
      if fails.length * 1000000 ≤ s.dictNum 0x3400 3 * s.dictNum 0x3400 2 && beyond = 0 then
        let s1 := s.keepPlanZone h z x1
        let m := s1.media
        let left := Assoc.del m.qual key
        let s2 := { s1 with media := { m with
          qual := left, qualDone := insertNat key m.qualDone, qualSnr := Assoc.put m.qualSnr key snr,
          qualFails := fails.foldl (fun l p => insertNat p l) m.qualFails } }
        if left.isEmpty && s2.qualStatus = 1 then s2.setDictNum 0x3400 4 1 3 else s2
      else if steps ≥ 20 then
        -- every zone of the head stops
        let s1 := { s with media := { s.media with qual := s.media.qual.filter (fun p => p.1 / 64 != h) } }
        s1.setDictNum 0x3400 4 1 2
      else
        let x2 := { x with rate := divRound (x.rate * 995) 1000 }
        let s1 := s.keepPlanZone h z { x2 with sectors := largestLayout x2 }
        ({ s1 with media := { s1.media with qual := Assoc.put s1.media.qual key (steps + 1) } }).testPattern h z
    | _, _ => s)

-- ---------------------------------------------------------------------------------------------------------------
-- Head load (R292, R296)

/-- HEAD_LOAD: actuator k leaves the ramp and servo locks after 4 consecutive valid marks, `ws`; P and Tw are taken from the last
(R292). With B0 zero in Deployed, Ochre fails with code 0x21 (R296). In the bring-up of an unformatted drive qualification follows
once both are loaded (R247). `ident` is the preamp's ID register, `rcoil` R_coil as
measured in mΩ. -/
def execHeadLoad (k : Nat) (ws : List WedgeData) (ident : Option Nat) (rcoil : Nat) (s : State) : Res :=
  let w := ws.getLastD ⟨[], 0, [], [], 0, 0, 0, []⟩
  .next (if !s.mayLoad k || !lockRun ws then s
    else
      let s0 := { s with tint := { s.tint with counting := s.tint.counting.set k false } }
      let s1 := ((s0.measureCoil k rcoil).leaveRamp k).meetPreamp k ident
      if s1.deployed && s1.modelCoef k 2 = 0 then
        (s1.retract k 0).startFails 0x21
      else
        let p := s1.measuredP k w
        let s1m := (s1.setSrv k { s1.srv k with marked := true }).markTw k w true
        let s1b := (ws.foldl (fun (t : State) x => t.rroCheck k x) s1m).setF (Fld.SRV_STATUS_LOST k) 0
        let s2 := (s1b.setF (Fld.SRV_STATUS_WEDGE k) (idOf w)).uninhibit k 1
        let s3 := s2.setSrv k { (s2.srv k).unseed.take p with amps := [w.a], tries := 0, pred := 0, ref := p }
        let s4 := (s3.enableLoop (4 * k) 0).enableLoop (4 * k + 3) 0
        let s5 := (((s4.reportWedge k p 0).backInService k).retarget k).event (534 + k) 0
        let s6 := if s5.boot.ochreRunning && s5.boot.ochreStep = 2 && s5.boot.locked = [0, 1] then
            { s5 with boot := { s5.boot with ochreStep := 3 } } else s5
        let s7 := if s6.boot.bringUp && s6.boot.locked = [0, 1] then s6.startQualification else s6
        (s7.settle).showServo k)

/-- LOAD_NO_LOCK: no run of marks within 2 revolutions; the part unloads and tries again, and after LOAD_TRIES attempts Ochre
step 3 fails with code 0x21 (R292). `rcoil` is R_coil as measured in mΩ (R334). -/
def execLoadNoLock (k rcoil : Nat) (s : State) : Res :=
  .next (if !s.mayLoad k then s
    else
      let s1 := ((s.measureCoil k rcoil).leaveRamp k).setSrv k { s.srv k with tries := (s.srv k).tries + 1 }
      let s2 := (s1.retract k 0).raise (291 + 16 * k) 0 0
      if (s2.srv k).tries ≥ s2.dictNum (0x3600 + k) 0x0D then
        let s3 := s2.setSrv k { s2.srv k with tries := 0 }
        s3.startFails 0x21
      else s2)

-- ---------------------------------------------------------------------------------------------------------------
-- Formatting (R140, R247)

/-- What the plan describes; RPM is the speed target (R316). -/
def State.planDrive (s : State) (id : List Byte) : Drive :=
  ⟨s.dictNum 0x4000 1, s.planSurfaces, slice id 0 16, s.utc, s.planRoot⟩
def State.planSurface (s : State) (h : Nat) : Surface := ⟨h, s.planServoTracks h, s.planZones h⟩

/-- The Ivory sectors of a surface as they are written: in each of the 8 slots, each block in its wedge, an eighth of a wedge after its mark,
at 1.0 Gb/s (R133 to R137). -/
def ivoryWrites (d : Drive) (f : Surface) : List Out :=
  (List.range 8).flatMap (fun i => (ivorySectors (descriptorBytes d f) f.head).map (fun p =>
    Out.ivory f.head i p.1 1 ivoryRate (ivoryBits f.head i p.1 p.2)))

/-- The drive is formatted from the plan: Ivory slots, at their own rate, defect list, first root (R134, R247). A pass of scrub begins on the
new drive (R241). -/
def State.formatDrive (t : State) (id : List Byte) : State :=
  let s := (t.useIvory 0).useIvory 1
  let d := s.planDrive id
  let fs := s.planHeads.map s.planSurface
  let ivory := fs.map (fun f => (f.head, ivorySectors (descriptorBytes d f) f.head))
  let defects := s.media.qualFails.map (fun p => Defect.mk p 1 s.utc)
  let s1 := { s with out := (fs.flatMap (ivoryWrites d)).reverse ++ s.out, disk := { s.disk with ivory := ivory, sectors := [], parityHits := [] },
                     media := { s.media with drive := some d, surfaces := fs, scrub := [0, 0], passUs := [s.pwr.timeUs, s.pwr.timeUs], pass := [] },
                     obj := { Obj.reset with defects := defects, clock := s.obj.clock } }
  let df := defectTiles (defects.length + 1) defects 0 s1.disk.wseq
  let psas := s1.ckptPlace df.length
  let s2 := s1.writeTiles (psas.zip df)
  let s3 := s2.obj.openStripes.foldl State.closeStripe s2
  let r : Root :=
    { rootSeq := 1, ckptSeq := 1, ckpt := [], ckptTiles := 0, defects := s3.runsOf psas,
      head0 := ((s3.journalPsa 0 0).getD 0, 0), head1 := ((s3.journalPsa 1 0).getD 0, 0), time := s3.utc }
  let s4 := s3.writeRoot r
  { s4 with obj := { s4.obj with root := some r, ckptSectors := psas } }

/-- Qualification has passed on every head and zone of the plan as it stands (R245). -/
def State.qualPassed (s : State) : Bool :=
  s.planHeads.all (fun h => (s.planZones h).all (fun z => s.media.qualDone.contains (headZone h z.zone)))

/-- A format request is refused with ACCESS outside Manufacture, while qualification runs, or before it has passed on the whole plan
(R245, R247). -/
def State.formatAccess (s : State) : Bool := s.manufacture && s.qualStatus = 3 && s.qualPassed

end Sys2Proof.Machine
end

