-- ==== Sys2Proof/Machine/Motion.lean ====
section
/-!
DEFINITION. The spindle and the motion die: PWM periods, the speed loop, starting and catching, braking, the bus, retract,
power loss and the protection catalogue (R306 to R346, R707).
Choices: assumption log 24 to 27, 80.
-/
namespace Sys2Proof.Machine
open Sys2Proof

def State.setMfe (s : State) (m : Mfe) : State := { s with mfe := m }
def State.spinMode (s : State) : Nat := s.getF Fld.SPM_CTRL_MODE

/-- IS_FS in mA: 1.0 V over the amplifier gain and the shunt; VCM_IFS in mA: 50 mV over the VCM shunt (R307). -/
def State.isFs (s : State) : Nat := 10000000 / (10 * 2 ^ s.getF Fld.MFE_GATE_ISGAIN * s.dictNum 0x4000 9)
def State.vcmFs (s : State) (k : Nat) : Nat := 500000 / s.dictNum (0x4020 + k) 1

-- ---------------------------------------------------------------------------------------------------------------
-- PWM periods (R309 to R313)

/-- The sample window of a phase is shorter than 1.2 µs (R311); `d` in counts of 10 ns, `dt` in ns. -/
def windowShort (dt d : Nat) : Bool := decide (10 * (2000 - d) < 1200 + 2 * dt)

/-- How many sample windows are too short. -/
def shortWindows (dt : Nat) (duty : List Nat) : Nat := (duty.filter (windowShort dt)).length

/-- The phase with the largest duty. -/
def largestPhase (d : List Nat) : Nat :=
  let m := d.foldl max 0
  ((List.range 3).find? (fun i => d.getD i 0 == m)).getD 0

/-- The duty set the bridge applies while the pattern is shifted (R312): the first period of a pair caps the largest duty, the
second gives the removed duty back, clamped at 1. -/
def shiftedDuty (dt : Nat) (first : Bool) (carry : Option (Nat × Nat)) (d : List Nat) : List Nat × Option (Nat × Nat) :=
  if first then
    let i := largestPhase d
    let cap := 2000 - ceilDiv (1200 + 2 * dt) 10
    let x := d.getD i 0
    if x > cap then (d.set i cap, some (i, x - cap)) else (d, none)
  else match carry with
    | some (i, x) => (d.set i (min 2000 (d.getD i 0 + x)), none)
    | none => (d, none)

/-- The predicted current of a skipped sample, in mA (R311): `v` and `e` in mV, R in mΩ, L in µH. -/
def predictCurrent (r l : Nat) (i v e : Int) : Int := i + rdiv (20 * (1000 * (v - e) - r * i)) (1000 * l)

/-- One PI controller of R313: gains Q4.12, the integrator in mV with 12 fraction bits. Answers the voltage in mV and the
integrator. -/
def piStep (kp ki : Nat) (integ err : Int) : Int × Int :=
  let g := integ + ki * err
  (rnd (kp * err + g) 12, g)

/-- cos and sin of an electrical angle in 1/65,536 turn, moved back by `x` thirds of a turn. -/
def cosPhase (angle x : Nat) : Int := cosTurn (3 * angle + 65536 * (3 - x)) 98304
def sinPhase (angle x : Nat) : Int := sinTurn (3 * angle + 65536 * (3 - x)) 98304

/-- Phase values in the d-q frame, a vector keeping its magnitude (assumption log 24). -/
def park (i : List Int) (angle : Nat) : List Int :=
  let f (w : Nat → Int) := rdiv (2 * ((List.range 3).foldl (fun (a : Int) x => a + i.getD x 0 * w x) 0)) (3 * 2 ^ 48)
  [f (cosPhase angle), -(f (sinPhase angle))]

/-- The duties of a voltage vector in mV at a bus of `vbus` mV (R313): each phase voltage over VBUS about one half, with the common part
that the spec leaves open (assumption log 24). -/
def dutiesOf (v : List Int) (angle vbus : Nat) : List Nat :=
  let ph := (List.range 3).map (fun x => rnd (v.getD 0 0 * cosPhase angle x - v.getD 1 0 * sinPhase angle x) 48)
  ph.map (fun x => (clampInt 0 2000 (1000 + rdiv (2000 * (x + Config.commonMode ph vbus)) vbus)).toNat)

/-- The sample of a period: currents measured, reconstructed, or predicted with the back-EMF of the period before (R311, R312), at an
electrical angle. -/
def State.takeSample (s : State) (applied : List Nat) (isamp : List Int) (angle : Nat) : State :=
  let dt := s.getF Fld.MFE_GATE_DT
  let n := shortWindows dt applied
  let m := s.spm
  if n ≥ 2 then
    let r := s.getF Fld.SPM_MOTOR_RES
    let l := s.getF Fld.SPM_MOTOR_IND
    let f (i : Nat) := predictCurrent r l (m.idq.getD i 0) (m.vdq.getD i 0) (m.emf.getD i 0)
    let s1 := (s.setSpm { m with idq := [f 0, f 1] }).bumpF Fld.SPM_CNT_SKIPS 1
    s1.setF Fld.SPM_STATUS_SKIPRUN (satAdd 8 (s.getF Fld.SPM_STATUS_SKIPRUN) 1)
  else
    let pick (i : Nat) : Int :=
      if windowShort dt (applied.getD i 0) then -(isamp.getD ((i + 1) % 3) 0 + isamp.getD ((i + 2) % 3) 0)
      else isamp.getD i 0
    let l := [pick 0, pick 1, pick 2]
    (s.setSpm { m with phaseI := l, idq := park l angle }).setF Fld.SPM_STATUS_SKIPRUN 0

/-- The pattern shift starts after more than 4 consecutive skips, and ends when 4 consecutive periods need none without it
(R312). -/
def State.shiftControl (s : State) (asked : List Nat) (first valid : Bool) : State :=
  let need := shortWindows (s.getF Fld.MFE_GATE_DT) asked ≥ 2
  let m := s.spm
  if s.isSet Fld.SPM_STATUS_SHIFT then
    let run := if need then 0 else m.noSkipRun + 1
    let s1 := s.setSpm { m with noSkipRun := run, shiftPeriods := m.shiftPeriods + 1,
                                shiftValid := m.shiftValid || (first && valid) }
    if run ≥ 4 then (s1.setSpm { s1.spm with carry := none }).setF Fld.SPM_STATUS_SHIFT 0 else s1
  else if s.getF Fld.SPM_STATUS_SKIPRUN > 4 then
    (s.setSpm { m with shiftPeriods := 0, shiftValid := false, noSkipRun := 0, carry := none }).setF Fld.SPM_STATUS_SHIFT 1
  else s

/-- The current loop (R313): two PI controllers in the d-q frame, and the duties of their voltage vector at the measured bus, which go to
the motion die for the next period. -/
def State.currentLoop (s : State) (angle : Nat) : State :=
  if !s.spm.focOn && s.spinMode != 2 then s
  else
    let m := s.spm
    let kp := s.getF Fld.SPM_CURPI_KP
    let ki := s.getF Fld.SPM_CURPI_KI
    let d := piStep kp ki (m.integ.getD 0 0) (0 - m.idq.getD 0 0)
    let q := piStep kp ki (m.integ.getD 1 0) (m.iqTarget - m.idq.getD 1 0)
    s.setSpm { m with vdq := [d.1, q.1], integ := [d.2, q.2],
                      sent := dutiesOf [d.1, q.1] angle (10 * s.getF Fld.MFE_VSENSE_VBUS) }

/-- FOC takes over: the speed loop starts, with its slew from the measured speed and its soft start (R285, R316). -/
def State.startFoc (s : State) : State :=
  let s1 := (s.setF Fld.SPM_CTRL_MODE 3).setF Fld.MFE_STATUS_SPIN_ON 1
  let s2 := (s1.setMfe { s1.mfe with missedDuty := 0 }).setSpm
    { s1.spm with focOn := true, integ := [0, 0], slew := 5000 * s.speed16, pwmCount := 0,
                  target := s.getF Fld.SPM_TARGET_SPEED, atSpeedRevs := 0, offSpeedRevs := 0 }
  let s3 := s2.enableLoop 8 0
  { s3 with cle := { s3.cle with spinRamp := some ⟨8, s.speed16, 0, s.rampN 8⟩ } }.setF (Fld.CLE_LSTAT_RAMP 8) 1

/-- The speed as the observer estimates it: SPM_SPEED shows it while it is valid (R314). A start from standstill ends when the observer is
valid (R317); regenerative braking ends below OBS_MIN (R323). -/
def State.observe (s : State) (speed : Nat) : State :=
  let low := speed < 16 * s.getF Fld.SPM_SPDLIM_OBS_MIN
  let s1 := (if low then s else s.measured speed).setF Fld.SPM_STATUS_OBS_VALID (b2n !low)
  if s1.spinMode = 2 && !low then s1.startFoc
  else if s1.spinMode = 5 && low then
    (s1.setSpm { s1.spm with focOn := false, iqTarget := 0 }).setF Fld.SPM_CTRL_MODE 6
  else s1

/-- The peak currents of the pulses of R317 as the phase samples grow: twelve pulses of one period, two of ten. -/
def pulsePeaks (l : List Nat) (n : Nat) (isamp : List Int) : List Nat :=
  let i := if n < 12 then n else 12 + (n - 12) / 10
  let p := isamp.foldl (fun (a : Nat) x => max a x.natAbs) (l.getD i 0)
  if i < l.length then l.set i p else l ++ [p]

/-- The rotor's angle from those peaks (R317): of six directions 60° apart the one with the highest peak, turned round when the pulse in
the opposite sense has the higher one. -/
def pulseAngle (l : List Nat) : Nat :=
  let pair (i : Nat) : Nat := max (l.getD (2 * i) 0) (l.getD (2 * i + 1) 0)
  let best := (List.range 6).foldl (fun (b : Nat) i => if pair i > pair b then i else b) 0
  (best * 65536 / 6 + (if l.getD 13 0 > l.getD 12 0 then 32768 else 0)) % 65536

/-- The pulses end and the current vector of IQ_MAX begins to turn, open loop (R317). -/
def State.startOpenLoop (s : State) (peaks : List Nat) : State :=
  (s.setSpm { s.spm with peaks := peaks, angle := pulseAngle peaks, turn := 0, iqTarget := s.getF Fld.SPM_CURLIM_IQ_MAX,
                         integ := [0, 0] }).setF Fld.SPM_CTRL_MODE 2

/-- A period with the bridge driven: the duty set applied, the sample, the shift, the observer, the current loop (R310 to R314). -/
def State.drivenPeriod (s : State) (arrived : Bool) (isamp emf : List Int) (angle speed : Nat) : State :=
  let m := s.spm
  let dt := s.getF Fld.MFE_GATE_DT
  let asked := if arrived then m.sent else m.duty
  let ap := if s.isSet Fld.SPM_STATUS_SHIFT then shiftedDuty dt (m.shiftPeriods % 2 = 0) m.carry asked else (asked, none)
  let s1 := (s.setSpm { m with duty := ap.1, carry := ap.2, pwmCount := m.pwmCount + 1, angle := angle }).setMfe
    { s.mfe with missedDuty := if arrived || !m.focOn then 0 else s.mfe.missedDuty + 1 }
  let valid := decide (shortWindows dt ap.1 < 2)
  let s2 := (s1.takeSample ap.1 isamp angle).shiftControl asked (m.shiftPeriods % 2 = 0) valid
  ((s2.setSpm { s2.spm with emf := emf }).observe speed).currentLoop angle

/-- PWM_PERIOD: one period of 20 µs. `arrived` tells whether the duty set of SPM reached the motion die for it; `isamp` are the shunt
samples in mA, `emf` the observer's back-EMF in mV in the d-q frame, `angle` its electrical angle in 1/65,536 turn and `speed` its speed in
1/16 rpm. The samples stay within the full scale of R307. In open loop the angle turns at a rising rate of its own (R317). Duty sets are ignored during a power loss (R336). Braking by
zero vector, a period with more than ZV_ILIM in a shunt has its low sides opened (R329). -/
def execPwmPeriod (arrived : Bool) (samples emf : List Int) (angle speed : Nat) (s : State) : Res :=
  let isamp := samples.map (clampInt (-(s.isFs : Int)) s.isFs)
  .next (if !s.isSet Fld.MFE_STATUS_SPIN_ON || s.mfe.rectifier then s
    else if s.spinMode = 1 then
      let n := s.spm.pulses
      let peaks := pulsePeaks s.spm.peaks n isamp
      let s1 := s.setSpm { s.spm with pulses := n + 1, peaks := peaks }
      if n + 1 ≥ 32 then s1.startOpenLoop peaks else s1
    else if s.spinMode = 6 then
      s.setMfe { s.mfe with lowOpen := isamp.any (fun i => decide (i > s.getF Fld.MFE_BRAKE_ZV_ILIM)) }
    else if s.spinMode = 4 || s.spinMode = 0 then s
    else if s.spinMode = 2 then
      let turn := s.spm.turn + s.freeWord.toNat
      (s.useFree.setSpm { s.spm with turn := turn }).drivenPeriod arrived isamp emf ((s.spm.angle + turn) % 65536) speed
    else s.drivenPeriod arrived isamp emf (angle % 65536) speed)

/-- DUTY_SET_LOSS: no duty set for two consecutive periods while FOC runs (R310). -/
def execDutySetLoss (s : State) : Res :=
  .next (if !s.spm.focOn || s.mfe.missedDuty < 2 then s else ((s.bridgeOff.setMfe { s.mfe with missedDuty := 0 }).retractOffRamp 4).settle)

/-- SAMPLE_SHIFT_TIMEOUT: the shift has given no valid sample within 8 periods (R312). -/
def execSampleShiftTimeout (s : State) : Res :=
  .next (if s.isSet Fld.SPM_STATUS_SHIFT && !s.spm.shiftValid && s.spm.shiftPeriods ≥ 8 then s.raise 338 0 0 else s)

-- ---------------------------------------------------------------------------------------------------------------
-- Speed loop (R315, R316, R70)

/-- `x` moved toward `to` by at most `d`. -/
def toward (x dest d : Nat) : Nat := if x < dest then min dest (x + d) else max dest (x - d)

/-- A revolution ends: at speed within ±0.1 % for 32 in a row (R70), and outside ±1 % for 32 in a row after that (R343). -/
def State.spinRevolution (s : State) (speed : Nat) : State :=
  let t := s.getF Fld.SPM_TARGET_SPEED
  let off := if speed < t then t - speed else speed - t
  let m := s.spm
  if !s.isSet Fld.SPM_STATUS_AT_SPEED then
    let n := if 1000 * off ≤ t then m.atSpeedRevs + 1 else 0
    let s1 := s.setSpm { m with atSpeedRevs := n, offSpeedRevs := 0 }
    if n < 32 then s1
    else
      let s2 := (s1.setF Fld.SPM_STATUS_AT_SPEED 1).setF Fld.SPM_STATUS_LOS 0
      let s3 := s2.event 528 speed
      if s3.boot.ochreRunning && s3.boot.ochreStep < 2 then { s3 with boot := { s3.boot with ochreStep := 2 } } else s3
  else
    let n := if 100 * off > t then m.offSpeedRevs + 1 else 0
    let s1 := s.setSpm { m with offSpeedRevs := min n 33 }
    if n = 32 then s1.raise 339 0 0 else s1

/-- The slew and the soft start begin anew from the measured speed when the target has changed (R285, R316). -/
def State.retargetSpin (s : State) : State :=
  let t := s.getF Fld.SPM_TARGET_SPEED
  if s.spm.target = t then s
  else { s with spm := { s.spm with target := t, slew := 5000 * s.speed16 },
                cle := { s.cle with spinRamp := some ⟨8, s.speed16, 0, s.rampN 8⟩ } }

/-- SPEED_LOOP: CLE loop 8, every 10 PWM periods (R315): the target slews (R316), passes the soft start, and the output becomes the q-axis
target. `estimate` is the observer's speed, which counts from OBS_MIN on; below it the speed is that of the crossings (R314). `revEnd` tells
that a revolution ended since the last run. -/
def execSpeedLoop (estimate : Nat) (rev revEnd : Bool) (s : State) : Res :=
  .next (if s.spinMode != 3 || !s.spm.focOn || s.spm.pwmCount < 10 then s
    else
      let s1 := ((if estimate < 16 * s.getF Fld.SPM_SPDLIM_OBS_MIN then s else s.measured estimate).setF Fld.SPM_SPEED_REV (b2n rev)).retargetSpin
      let speed := s1.speed16
      let m := s1.spm
      let slew := toward m.slew (5000 * s1.getF Fld.SPM_TARGET_SPEED) (16 * s1.dictNum 0x4000 0x0B)
      let goal : Int := slew / 5000
      let r : Int := match s1.cle.spinRamp with
        | some x => ({ x with n := x.n + 1 } : Ramp).at_ goal
        | none => goal
      let ramp := match s1.cle.spinRamp with
        | some x => if x.n + 1 ≥ x.len then none else some { x with n := x.n + 1 }
        | none => none
      let s2 := ({ s1 with cle := { s1.cle with spinRamp := ramp } }.setSpm { m with slew := slew, pwmCount := 0 }).setF
        (Fld.CLE_LSTAT_RAMP 8) (b2n ramp.isSome)
      let e := r - speed
      let d := e + s2.testSignal 8
      let y := s2.runLoop 8 d
      let u := satInt 16 (y.2 + s2.testSignal 9)
      let s3 := (y.1.capture 8 d e).capture 9 u y.2
      let top : Int := s3.getF Fld.SPM_CURLIM_IQ_MAX
      let s4 := s3.setSpm { s3.spm with iqTarget := clampInt (-top) top (rnd (u * s3.isFs) 15) }
      if revEnd then s4.spinRevolution speed else s4)

-- ---------------------------------------------------------------------------------------------------------------
-- Starting and catching (R317 to R322)

/-- STANDSTILL_START_TIMEOUT: FOC has not taken over within 2 s of the first pulse (R317). -/
def execStandstillStartTimeout (s : State) : Res :=
  .next (if s.spinMode = 1 || s.spinMode = 2 then
      (s.bridgeOff.raise 340 0 0).startFails 0x20
    else s)

/-- Intervals are within ±10 % of one another (R318). -/
def alikeIntervals (l : List Nat) : Bool := 10 * l.foldl max 0 ≤ 11 * l.foldl min (l.headD 0)

/-- The speed in 1/16 rpm of crossings `interval` counts of 10 ns apart, six to an electrical revolution; 0 when none has come for 200 ms
(R318, R707). -/
def crossingSpeed (interval poles : Nat) : Nat :=
  if interval > 20000000 then 0 else divRound 32000000000 (interval * poles)

/-- BEMF_ZERO_CROSSING: phase voltage `c` crosses the mean of the three: 0 U rising, 1 W falling, 2 V rising, 3 U falling, 4 W rising, 5 V
falling, in the order of forward rotation (assumption log 25); `interval` since the crossing before in counts of 10 ns (R314, R318). The
sixth consistent one in a row seeds the observer with its angle, and FOC resumes; a spin-down that is in force then goes on. -/
def execBemfZeroCrossing (interval c : Nat) (s : State) : Res :=
  .next (if s.spm.focOn && s.isSet Fld.SPM_STATUS_OBS_VALID then s
    else
      let speed := crossingSpeed interval (s.getF Fld.SPM_MOTOR_POLES)
      let ahead := s.spm.lastCross == some ((c + 5) % 6)
      let back := s.spm.lastCross == some ((c + 1) % 6)
      let s0 := s.measured speed
      let s1 := (if ahead || back then s0.setF Fld.SPM_SPEED_REV (b2n back) else s0).setSpm { s.spm with lastCross := some c }
      if s1.spinMode != 4 then s1
      else if (ahead || back) && s1.turnsBack then s1.reverseBrake
      else if speed < 16 * s1.getF Fld.SPM_SPDLIM_CATCH_MIN then
        let s2 := s1.bridgeOff
        s2.setSpm { s2.spm with belowCatch := true, crossings := [] }
      else
        let l := s1.spm.crossings
        let go := !l.isEmpty && (ahead || back) && alikeIntervals (interval :: l.filter (· != 0))
        let l1 := if go then interval :: l else [0]
        if l1.length < 6 then s1.setSpm { s1.spm with crossings := l1 }
        else
          let failed := s1.getF Fld.SPM_STATUS_CATCHFAIL
          let s2 := (s1.setSpm { s1.spm with crossings := [], angle := c * 65536 / 6 }).startFoc
          let s3 := ((s2.setF Fld.SPM_STATUS_OBS_VALID 1).setF Fld.SPM_STATUS_CATCHFAIL 0).bumpF Fld.SPM_CNT_CATCHES 1
          (s3.event 531 failed).startBrake)

/-- CATCH_TIMEOUT: an attempt fails: no crossing within 20 ms, or no reacquisition within 2 electrical revolutions (R318).
Three in a row: zero-vector braking, source 337, and from Cobalt a return to Slate with code 0x20 (R322). -/
def execCatchTimeout (s : State) : Res :=
  .next (if s.spinMode != 4 then s
    else
      let n := s.getF Fld.SPM_STATUS_CATCHFAIL + 1
      let s1 := (s.setSpm { s.spm with crossings := [], lastCross := none }).setF Fld.SPM_STATUS_CATCHFAIL n
      if n < 3 then s1
      else
        let s2 := (s1.bridgeOff).raise 337 0 0
        let s3 := (s2.setSpm { s2.spm with spinDown := true, zvOnly := true }).startBrake
        if s3.stage = 3 then s3.backToSlate 0x20 else s3.startFails 0x20)

/-- An electrical period is implausible (R320): its acceleration in rad/s², its back-EMF in mV and its speed in 1/16 rpm. -/
def State.implausible (s : State) (p : Nat × Nat × Nat) : Bool :=
  let acc := 100 * p.1 * s.getF Fld.SPM_MECH_J
    > (100 + s.getF Fld.SPM_LOS_ACC_MARGIN) * s.getF Fld.SPM_MECH_KT * s.getF Fld.SPM_CURLIM_IQ_MAX
  let want := s.getF Fld.SPM_MECH_KE * p.2.2
  let diff := if 160 * p.2.1 < want then want - 160 * p.2.1 else 160 * p.2.1 - want
  acc || decide (100 * diff > s.getF Fld.SPM_LOS_EMF_TOL * want)

/-- LOSS_OF_SYNCHRONISM: the last three electrical periods as the observer saw them, oldest first; declared when all three are
implausible (R320, R321). Under braking the zero vector goes on without a catch (R342). -/
def execLossOfSynchronism (p1 p2 p3 : Nat × Nat × Nat) (s : State) : Res :=
  .next (if !s.spm.focOn || !(s.implausible p1 && s.implausible p2 && s.implausible p3) then s
    else
      let braking := s.spinMode = 5
      let speed := p3.2.2
      let s1 := ((s.measured speed).setF Fld.SPM_STATUS_OBS_VALID 0).bumpF Fld.SPM_CNT_LOS 1
      let s2 := (s1.event 530 speed).raise 336 0 0
      if braking then (s2.setSpm { s2.spm with focOn := false, iqTarget := 0 }).setF Fld.SPM_CTRL_MODE 6
      else
        let s3 := ((s2.retractOffRamp 5).bridgeOff.setF Fld.SPM_STATUS_AT_SPEED 0).setF Fld.SPM_STATUS_LOS 1
        s3.startSpin.settle)

/-- SPIN_DOWN_UNPARKED: a write of 1 to 0x4000:0E: the spindle spins down although an actuator cannot be parked (R339). The
other is parked; the spindle coasts, since the part brakes only with both parked (R323). -/
def State.spinDownUnparked (s : State) : State :=
  if !s.unparkable 0 && !s.unparkable 1 then s
  else
    let s1 := ((s.retractOffRamp 0).bridgeOff.setF Fld.SPM_STATUS_AT_SPEED 0)
    (s1.setSpm { s1.spm with spinDown := true }).settle

def execSpinDownUnparked (s : State) : Res := .next s.spinDownUnparked

/-- SPINDLE_STOPPED: the measured speed, in 1/16 rpm, falls below 30 rpm, or reads 0 with no crossing for 200 ms (R323, R707): event 529,
the bridge at high impedance. A start that waited for this begins from standstill (R318). A spindle that had been declared stopped is not
declared again. -/
def execSpindleStopped (speed : Nat) (s : State) : Res :=
  .next (if speed ≥ 480 || s.spinMode = 1 || s.spinMode = 2 then s
    else if s.isSet Fld.SPM_STATUS_STOPPED && !s.turning && !s.spm.belowCatch && !s.spm.spinDown then s.measured speed
    else
      let again := s.spm.belowCatch && !s.spm.spinDown
      let s1 := (s.measured speed).bridgeOff
      let s2 := ((s1.setF Fld.SPM_STATUS_STOPPED 1).setF Fld.SPM_STATUS_AT_SPEED 0).setF Fld.SPM_STATUS_OBS_VALID 0
      let s3 := s2.setSpm { s2.spm with spinDown := false, zvOnly := false, belowCatch := false, iqTarget := 0 }
      let s4 := if s3.isSet Fld.SPM_SPEED_REV then s3.setF Fld.SPM_SPEED_REV 0 else s3
      let s5 := s4.event 529 0
      if again then s5.startSpin else s5)

-- ---------------------------------------------------------------------------------------------------------------
-- The bus (R324 to R330). Voltages in 10 mV.

/-- A voltage as its input shows it, from 0 V to 20.47 V (R307). -/
def senseVolts (v : Int) : Nat := min 2047 v.toNat

def State.setVbus (s : State) (v : Nat) : State := s.setF Fld.MFE_VSENSE_VBUS (senseVolts v)

/-- Regeneration stops: a braking spindle continues by zero vector (R324, R327). -/
def State.noRegen (s : State) : State :=
  let s1 := s.setMfe { s.mfe with regenOff := true }
  if s1.spinMode = 5 then (s1.setSpm { s1.spm with focOn := false, iqTarget := 0 }).setF Fld.SPM_CTRL_MODE 6 else s1

/-- VBUS_ABOVE_13V8: the chopper clamps the bus (R324). -/
def execVbusAbove13v8 (vbus : Nat) (s : State) : Res :=
  let s1 := s.setVbus vbus
  .next (if vbus < s.getF Fld.MFE_BUSTH0_CHOP_ON || s.mfe.brkOn then s1
    else
      let s2 := (s1.setMfe { s1.mfe with brkOn := true, vbusAtBrk := vbus }).stat 0x8150 6 1
      s2.setF Fld.MFE_STATUS_BUS (max 1 (s2.getF Fld.MFE_STATUS_BUS)))

/-- VBUS_BELOW_13V6: BRK_G is released; regeneration is allowed again unless an open chopper keeps it off (R324, R327). -/
def execVbusBelow13v6 (vbus : Nat) (s : State) : Res :=
  let s1 := s.setVbus vbus
  .next (if vbus ≥ s.getF Fld.MFE_BUSTH0_CHOP_OFF || s.getF Fld.MFE_STATUS_BUS = 3 then s1
    else (s1.setMfe { s1.mfe with brkOn := false, regenOff := s1.isSet Fld.MFE_PROT_CHOP_OPEN }).setF Fld.MFE_STATUS_BUS 0)

/-- VBUS_ABOVE_14V2: regeneration stops, source 359 (R324). -/
def execVbusAbove14v2 (vbus : Nat) (s : State) : Res :=
  let s1 := s.setVbus vbus
  .next (if vbus ≤ s.getF Fld.MFE_BUSTH1_NO_REGEN then s1
    else
      let s2 := (s1.noRegen.setF Fld.MFE_STATUS_BUS (max 2 (s1.getF Fld.MFE_STATUS_BUS))).setF Fld.MFE_PROT_BUS142 1
      s2.raiseMotion 359 0 0)

/-- A VCM bridge turns off: at the end of the profile that runs on it, else at once (R330). -/
def State.vcmOffAfter (s : State) (k : Nat) : State :=
  if s.retracting k then
    if k = 0 then s.setMfe { s.mfe with offAfter0 := true } else s.setMfe { s.mfe with offAfter1 := true }
  else s.setVcmOff k true

/-- VBUS_ABOVE_15V: the spindle bridge turns off, unparked actuators retract, source 360 (R324, R330). -/
def execVbusAbove15v (vbus : Nat) (s : State) : Res :=
  let s1 := s.setVbus vbus
  .next (if vbus ≤ s.getF Fld.MFE_BUSTH1_BRIDGE_OFF then s1
    else
      let s2 := (s1.bridgeOff.setMfe { s1.mfe with bridgeReady := false, regenOff := true, brkOn := true }).retractOffRamp 7
      let s3 := ((s2.vcmOffAfter 0).vcmOffAfter 1).setF Fld.MFE_STATUS_BUS 3
      ((s3.setF Fld.MFE_PROT_BUS15 1).setF Fld.SPM_STATUS_AT_SPEED 0).raiseMotion 360 0 0)

/-- The VCM bridge of actuator k is available again, unless a short latched it off (R338). -/
def State.vcmAgain (s : State) (k : Nat) : State :=
  let short := s.isSet (if k = 0 then Fld.MFE_PROT_VCM0 else Fld.MFE_PROT_VCM1)
  let s1 := if short then s else s.setVcmOff k false
  if k = 0 then s1.setMfe { s1.mfe with offAfter0 := false } else s1.setMfe { s1.mfe with offAfter1 := false }

/-- VBUS_BELOW_14V2_AGAIN: after 15.0 V, the bridge is available and a spindle above 30 rpm is caught (R324). -/
def execVbusBelow14v2Again (vbus : Nat) (s : State) : Res :=
  let s1 := s.setVbus vbus
  .next (if vbus ≥ s.getF Fld.MFE_BUSTH1_NO_REGEN || s.getF Fld.MFE_STATUS_BUS != 3 then s1
    else
      let keep := decide (vbus ≥ s.getF Fld.MFE_BUSTH0_CHOP_OFF)
      let s2 := s1.setMfe { s1.mfe with bridgeReady := true, regenOff := s1.isSet Fld.MFE_PROT_CHOP_OPEN, brkOn := keep }
      let s3 := ((s2.setF Fld.MFE_STATUS_BUS (b2n keep)).vcmAgain 0).vcmAgain 1
      if s3.turning then s3.startSpin else s3)

/-- The supply is good again: write-inhibit bit 5 is released, unless a rail of the core die holds it; after a confirmed power loss the Motion
domain comes back as after its reset, once the profiles have completed (R263, R337). -/
def State.supplyBack (s : State) : State :=
  let s1 := s.setMfe { s.mfe with supplyLow := false }
  let s2 := if s1.pwr.pwrGood && s1.pwr.railsOut.isEmpty then s1.uninhibitBoth 5 else s1
  if s2.mfe.lossConfirmed && !s2.isSet Fld.MFE_STATUS_PWRLOSS then (s2.setMfe { s2.mfe with lossConfirmed := false }).motionReset else s2

/-- IDEAL_DIODE_SWITCH: the comparison of V12_SNS and VBUS, in 10 mV, turns the FET on or off (R325). A supply back at its good
thresholds releases write-inhibit bit 5 (R46, R263). -/
def execIdealDiodeSwitch (v12 : Int) (vbus : Nat) (s : State) : Res :=
  let s1 := (s.setVbus vbus).setF Fld.MFE_VSENSE_V12 (senseVolts v12)
  let on : Bool := decide (v12 ≥ 800 ∧ v12 + 2 ≥ vbus) && !s.isSet Fld.MFE_STATUS_PWRLOSS
  let s2 := (s1.setF Fld.MFE_STATUS_IDF_ON (b2n on)).setMfe { s1.mfe with fetHeldOff := decide (v12 < 0) }
  .next (if v12 ≥ 1020 && s2.pwr.v33Good && s2.pwr.v12Good && s2.mfe.supplyLow then s2.supplyBack.settle else s2)

/-- FET_NOT_CONDUCTING: V12_SNS over VBUS by 0.5 V for 100 µs with IDF_G on (R325). -/
def execFetNotConducting (s : State) : Res :=
  .next (if s.isSet Fld.MFE_STATUS_IDF_ON then s.raiseMotion 362 0 0 else s)

/-- CHOPPER_OPEN: BRK_G driven for CHOP_TDET, BRK_IS below CHOP_IMIN and the bus higher than when it was driven (R326, R327);
`amps` is BRK_IS in mA. -/
def execChopperOpen (amps vbus : Nat) (s : State) : Res :=
  let s1 := s.setVbus vbus
  .next (if s.mfe.brkOn && amps < s.getF Fld.MFE_CHOP_IMIN && vbus > s.mfe.vbusAtBrk then
      (s1.noRegen.setF Fld.MFE_PROT_CHOP_OPEN 1).raiseMotion 357 0 0
    else s1)

/-- CHOPPER_SHORT: BRK_IS above CHOP_IMIN for CHOP_TDET with BRK_G off (R326, R328): source 358, unload, and a spin-down by zero
vector. -/
def execChopperShort (amps : Nat) (s : State) : Res :=
  .next (if s.mfe.brkOn || amps ≤ s.getF Fld.MFE_CHOP_IMIN then s
    else
      let s1 := (s.setF Fld.MFE_PROT_CHOP_SHORT 1).raiseMotion 358 0 0
      let s2 := s1.unloadBoth
      ((s2.setSpm { s2.spm with spinDown := true, zvOnly := true }).setF Fld.SPM_STATUS_AT_SPEED 0).startBrake.settle)

/-- CLEAR_LATCHES: 0x4010:06 clears the chopper and phase latches (R327, R328, R341). -/
def State.clearLatches (s : State) : State :=
  let short := s.isSet Fld.MFE_PROT_SHORT
  let s1 := ((s.setF Fld.MFE_PROT_CHOP_OPEN 0).setF Fld.MFE_PROT_CHOP_SHORT 0).setF Fld.MFE_PROT_SHORT 0
  let s2 := (s1.setF Fld.MFE_PROT_OPEN 0).setMfe { s1.mfe with regenOff := decide (s.getF Fld.MFE_STATUS_BUS ≥ 2) }
  s2.setSpm { s2.spm with lastShortUs := if short then s.spm.shortUs else s.spm.lastShortUs, shortUs := none,
                          secondShort := false }

def execClearLatches (s : State) : Res := .next s.clearLatches

-- ---------------------------------------------------------------------------------------------------------------
-- Retract and power loss (R332, R335 to R337)

/-- VCM_SETPOINT_LOSS: no set point within two wedge periods while the actuator is off the ramp (R332). -/
def execVcmSetpointLoss (k : Nat) (s : State) : Res := .next (if s.parked k then s else (s.retract k 4).settle)

/-- R_coil of actuator k in mΩ: as measured at the last head load, the entry's nominal value until then (R334). -/
def State.coil (s : State) (k : Nat) : Nat := (if k = 0 then s.mfe.coil0 else s.mfe.coil1).getD (s.dictNum (0x4020 + k) 2)

/-- RETRACT_VELOCITY_END: the back-EMF, the coil voltage `mv` less I × R_coil, has been below 20 % of RET_VEL for 2 ms, or 250 ms have
passed (R334, R335). -/
def execRetractVelocityEnd (k : Nat) (mv ma : Int) (late : Bool) (s : State) : Res :=
  let bemf := mv - rdiv (ma * s.coil k) 1000
  .next (if s.retracting k && (s.ret k).phase = 1 && (late || 5 * bemf.natAbs < s.getF (Fld.MFE_RET_RET_VEL k)) then
      s.setRet k { s.ret k with phase := 2 }
    else s)

/-- The servo of a parked actuator is off. -/
def State.servoOff (s : State) (k : Nat) : State :=
  let s1 := (List.range 4).foldl (fun t i => t.disableLoop (4 * k + i)) (s.setF (Fld.SRV_CTRL_MODE k) 0)
  let s2 := ((s1.setF (Fld.SRV_STATUS_LOST k) 0).setF (Fld.SRV_STATUS_RD_OK k) 0).setF (Fld.SRV_STATUS_WR_OK k) 0
  s2.setSrv k { Srv.reset with tries := (s2.srv k).tries }

/-- RETRACT_END: 300 ms after its start the coil is shorted and the actuator parked; events 532 and 533 tell the cause (R335,
R345). A bridge of R330 turns off now; a power-loss sequence ends with the last profile, the motor coasting, and Motion comes back if the
supply has (R336, R337); a spin-down or a reverse rotation that waited brakes (R318, R323). -/
def execRetractEnd (k : Nat) (s : State) : Res :=
  .next (if !s.retracting k then s
    else
      let cause := (s.ret k).cause
      let s1 := ((s.setRet k ⟨0, cause⟩).setRetracting k false).setParked k true
      let s2 := if k = 0 then s1.setMfe { s1.mfe with coilShorted0 := true } else s1.setMfe { s1.mfe with coilShorted1 := true }
      let s3 := if (if k = 0 then s2.mfe.offAfter0 else s2.mfe.offAfter1) then s2.setVcmOff k true else s2
      let s4 := (s3.servoOff k).showServo k
      let s5 := if s4.boot.slateDone && !s4.pwr.held then s4.event (532 + k) cause else s4
      if s5.isSet Fld.MFE_STATUS_PWRLOSS && !s5.retracting 0 && !s5.retracting 1 then
        let s6 := (s5.bridgeOff.setF Fld.MFE_STATUS_PWRLOSS 0).setMfe { s5.mfe with rectifier := false }
        (if s6.mfe.supplyLow then s6 else s6.supplyBack).settle
      else if s5.spm.belowCatch && s5.turnsBack && s5.turning && !s5.spm.spinDown then s5.reverseBrake
      else s5.startBrake)

/-- SUPPLY_BELOW_THRESHOLD: V12_SNS under 9.8 V or VDD_3V3 under 2.85 V: write-inhibit bit 5 (R263, R336). -/
def execSupplyBelowThreshold (s : State) : Res :=
  .next ((s.setMfe { s.mfe with supplyLow := true }).inhibitBoth 5).settle

/-- POWER_LOSS_CONFIRM: the supply has stayed low for 5 µs (R336): the FET opens, duty sets are ignored, the bridge rectifies,
both actuators retract, source 363. -/
def execPowerLossConfirm (s : State) : Res :=
  .next (if !s.mfe.supplyLow || s.isSet Fld.MFE_STATUS_PWRLOSS then s
    else
      let s1 := ((s.setF Fld.MFE_STATUS_IDF_ON 0).setF Fld.MFE_STATUS_PWRLOSS 1).setF Fld.MFE_PROT_PWRLOSS 1
      let s2 := (s1.bridgeOff.setMfe { s1.mfe with rectifier := true, lossConfirmed := true }).setF Fld.SPM_STATUS_AT_SPEED 0
      let s3 := (s2.retractBoth 3).setSpm { s2.spm with crossings := [] }
      (s3.stat 0x8150 4 1).raiseMotion 363 0 0)

-- ---------------------------------------------------------------------------------------------------------------
-- Protection (R338 to R341)

/-- The cause an event carries where the spec names none of its causes: a free one of the nine. -/
def State.freeCause (s : State) : State × Nat := (s.useFree, s.freeWord.toNat % 9)

/-- PHASE_SHORT: a low-side shunt reads `ma` mA, beyond 95 % of IS_FS, or a conducting switch has `mv` mV across it, more than 1.0 V: the
bridge turns off, the actuators retract, the motor coasts, source 353 (R338, R341). -/
def execPhaseShort (ma : Int) (mv : Nat) (s : State) : Res :=
  .next (if 100 * ma.natAbs ≤ 95 * s.isFs && mv ≤ 1000 then s
    else
      let c := s.freeCause
      let s1 := (c.1.bridgeOff.retractOffRamp c.2).setF Fld.MFE_PROT_SHORT 1
      let second := match s.spm.lastShortUs with | some t => decide (s.pwr.timeUs < t + 60000000) | none => false
      let s2 := (s1.setF Fld.SPM_STATUS_AT_SPEED 0).raiseMotion 353 0 0
      s2.setSpm { s2.spm with shortUs := some s.pwr.timeUs, secondShort := s2.spm.secondShort || second,
                              lastShortUs := s.spm.lastShortUs })

/-- OPEN_PHASE: over one electrical period a phase carries `ma` mA, below 10 % of the expected `want`, which exceeds 20 % of IS_FS: bridge
off, retract, coast, source 354 (R338, R341). -/
def execOpenPhase (ma want : Nat) (s : State) : Res :=
  .next (if 10 * ma ≥ want || 5 * want ≤ s.isFs then s
    else
      let c := s.freeCause
      let s1 := (c.1.bridgeOff.retractOffRamp c.2).setF Fld.MFE_PROT_OPEN 1
      (s1.setF Fld.SPM_STATUS_AT_SPEED 0).raiseMotion 354 0 0)

def vcmLatch (k : Nat) : FieldRef := if k = 0 then Fld.MFE_PROT_VCM0 else Fld.MFE_PROT_VCM1

/-- VCM_SHORT: the VCM shunt reads `ma` mA, beyond 125 % of VCM_IFS, or a switch desaturates: that bridge turns off, and a profile on it
with it; source 355 or 356 (R338, R339). -/
def execVcmShort (k : Nat) (ma : Int) (desat : Bool) (s : State) : Res :=
  .next (if 4 * ma.natAbs ≤ 5 * s.vcmFs k && !desat then s
    else
      let s1 := (((s.holdMedia k).setVcmOff k true).setRetracting k false).setRet k ⟨0, 0⟩
      (s1.setF (vcmLatch k) 1).raiseMotion (355 + k) 0 0)

/-- VCM_OPEN: for 100 µs the command is above 10 % of VCM_IFS and the current `ma` below 2 %; source 355 or 356 (R338). -/
def execVcmOpen (k : Nat) (ma : Int) (s : State) : Res :=
  .next (if 10 * ((s.srv k).uv.getD 0 0).natAbs ≤ 32768 || 50 * ma.natAbs ≥ s.vcmFs k then s
    else (s.setF (vcmLatch k) 1).raiseMotion (355 + k) 0 1)

/-- GATE_DRIVE_SUPPLY_LOW: all bridges off, retract where possible, source 365 (R338). -/
def execGateDriveSupplyLow (s : State) : Res :=
  let c := s.freeCause
  let s1 := ((c.1.bridgeOff.retractOffRamp c.2).vcmOffAfter 0).vcmOffAfter 1
  .next ((s1.setF Fld.SPM_STATUS_AT_SPEED 0).raiseMotion 365 0 0)

/-- REVERSED_INPUT: V12_SNS below 0 V: the FET is held off, source 362 (R325, R338). -/
def execReversedInput (s : State) : Res :=
  let s1 := (s.setF Fld.MFE_STATUS_IDF_ON 0).setMfe { s.mfe with fetHeldOff := true }
  .next ((s1.setF Fld.MFE_PROT_REVERSE 1).raiseMotion 362 0 0)

/-- SHOCK: SHOCK_X or SHOCK_Y beyond SHK_TH from its bias, in mV: write-inhibit bit 4 and source 361 (R338). -/
def execShock (mv : Int) (s : State) : Res :=
  .next (if mv.natAbs ≤ s.getF Fld.MFE_SHOCK_TH then s
    else (((s.inhibitBoth 4).setF Fld.MFE_PROT_SHOCK 1).stat 0x8150 5 1).raiseMotion 361 0 0)

/-- SHOCK_HOLD_END: SHK_HOLD after the last crossing, bit 4 is released (R340). -/
def execShockHoldEnd (s : State) : Res := .next (s.uninhibitBoth 4)

end Sys2Proof.Machine
end

