-- ==== Sys2Proof/Machine/Domains.lean ====
section
/-!
DEFINITION. Recovery of the object index, and the resets of the Host and Object domains with the function-level reset
(R79, R81, R155 to R160, R368, R401, R404, R412, R414, R451, R507, R533, R708).
Choices: assumption log 11, 16, 33, 41.
-/
namespace Sys2Proof.Machine
open Sys2Proof

-- ---------------------------------------------------------------------------------------------------------------
-- Recovery of the index (R155 to R160)

/-- Positions of the stripe of `psa` whose sectors do not decode, those on the defect list apart: these hold zero in their stripe. -/
def State.lostIn (s : State) (psa : Nat) : List Nat :=
  ((List.range 32).map (fun i => stripeOf psa + i)).filter (fun p => (Assoc.find s.disk.sectors p).isNone && !s.defective p)

/-- What a sector gives, after the recovery ladder and the erasure decoding of its stripe (R129, R156). -/
def State.mediaBlock (s : State) (psa : Nat) : Option (List Byte) :=
  match Assoc.find s.disk.sectors psa with
  | some t => some t
  | none =>
    if s.rootTrackAt (psaSurface psa) (psaTrack psa) then none
    else
      let e := s.lostIn psa
      let present := ((List.range 32).filter (fun i => !e.contains (stripeOf psa + i))).map
        (fun i => (i, s.positionBlock (stripeOf psa + i)))
      match e with
      | [a] => if a = psa then some (stripeRebuild present (stripePos a) none).1 else none
      | [a, b] =>
        let (x, y) := stripeRebuild present (stripePos a) (some (stripePos b))
        if a = psa then some x else if b = psa then some y else none
      | _ => none

/-- A tile of type `ty` that reads at a PSA. One that the stripe rebuilt must also carry its tag, SEGMENT and TILE as R145 has them for
what it holds; `seg` and `num` give them (R130). -/
def State.goodTile (s : State) (psa ty : Nat) (seg num : List Byte → Nat) : Option (List Byte) :=
  match s.mediaBlock psa with
  | some t =>
    if tileCrcOk t && tileType t = ty
        && ((Assoc.find s.disk.sectors psa).isSome || tileTag t = tagOf (zeros 8) (seg t % 2 ^ 32) (num t)) then some t else none
  | none => none

/-- The roots that decode on the root tracks of surfaces 0 and 12 (R159). -/
def State.roots (s : State) (track : Nat) : List Root :=
  ([0, 12].flatMap (fun h => (List.range 16).map (fun i => psaOf h track i))).filterMap
    (fun p => (s.goodTile p 3 (fun t => numAt t 8 8) (fun _ => 0)).bind parseRoot)

/-- The root in force: the one with the highest ROOT_SEQ (R159). -/
def bestRoot (l : List Root) : Option Root :=
  l.foldl (fun (b : Option Root) r => match b with | none => some r | some x => if r.rootSeq > x.rootSeq then some r else some x) none

/-- The tiles in the sectors of runs; none when one does not read. -/
def State.tilesIn (s : State) (runs : List (Nat × Nat)) (ty : Nat) : Option (List (List Byte)) :=
  (runs.flatMap s.runPsas).zipIdx.mapM (fun p => s.goodTile p.1 ty (fun _ => p.2) (fun _ => 0))

/-- What replay of a stream gives: its blocks, the records and the damaged versions, the next BLOCK_SEQ and position. -/
structure Replayed where
  blocks : List JBlock
  recs : List (Nat × Rec)
  bad : List (Nat × Nat)
  bseq : Nat
  pos : Nat
  deriving DecidableEq, Repr

/-- Follow stream `k` from position `i` for block `bseq`; it ends when no such block lies among the next 64 sectors (R156). -/
def State.followStream (fuel : Nat) (s : State) (k i bseq missed : Nat) (acc : Replayed) : Replayed :=
  match fuel with
  | 0 => acc
  | f + 1 =>
    if missed ≥ 64 then acc
    else
      let len := max 1 (s.journalLen k)
      match (s.journalPsa k (i % len)) with
      | none => acc
      | some p =>
        match s.goodTile p 1 (fun t => numAt t 8 8) (fun _ => k) with
        | some t =>
          if numAt t 4 1 = k && numAt t 8 8 = bseq && slice t 0 4 = [0x5A, 0x4A, 0x42, 0x31] then
            let r := parseRecs 256 t 32
            let last := r.1.foldl (fun a x => max a x.1) 0
            State.followStream f s k (i + 1) (bseq + 1) 0
              ⟨acc.blocks ++ [⟨bseq, p, last⟩], acc.recs ++ r.1, acc.bad ++ r.2, bseq + 1, (i + 1) % len⟩
          else State.followStream f s k (i + 1) bseq (missed + 1) acc
        | none => State.followStream f s k (i + 1) bseq (missed + 1) acc

/-- Replay stream `k` from a journal head (R156). -/
def State.replayStream (s : State) (k : Nat) (head : Nat × Nat) : Replayed :=
  let len := s.journalLen k
  let i := ((List.range len).find? (fun i => s.journalPsa k i == some head.1)).getD 0
  s.followStream (65 * (len + 1)) k i head.2 0 ⟨[], [], [], head.2, i⟩

/-- The index recovered from the root in force, its checkpoint and the journal written since (R70 step 6, R155 to R160); none
when no root or a checkpoint tile does not read. Versions with a damaged record are reported by source 194. -/
def State.recoverIndex (s : State) : Option State :=
  match s.media.drive with
  | none => none
  | some d =>
    match bestRoot (s.roots d.rootTrack) with
    | none => none
    | some r =>
      let df := (s.tilesIn r.defects 5).map (fun l => l.flatMap parseDefects)
      let s0 := { s with obj := { s.obj with defects := df.getD [] } }
      match s0.tilesIn r.ckpt 2, df with
      | some ck, some defects =>
        let ckRecs := ck.map (fun t => parseRecs 256 t 0)
        let a := s0.replayStream 0 r.head0
        let b := s0.replayStream 1 r.head1
        let recs : List (Nat × Rec) :=
          sortRecs (ckRecs.flatMap (·.1) ++ (a.recs ++ b.recs).filter (fun (p : Nat × Rec) => decide (p.1 ≥ r.ckptSeq)))
        let bad := ckRecs.flatMap (·.2) ++ a.bad ++ b.bad
        let lastStripe (x : Replayed) : List Nat := match x.blocks.getLast? with | some y => [stripeOf y.psa] | none => []
        let s1 := { s with obj := { Obj.reset with
          onMedia := recs, nextSeq := max r.ckptSeq (recs.foldl (fun (m : Nat) (p : Nat × Rec) => max m (p.1 + 1)) 1),
          stream0 := ⟨a.bseq, a.pos, a.blocks, false⟩, stream1 := ⟨b.bseq, b.pos, b.blocks, false⟩, root := some r,
          ckptSectors := (r.ckpt ++ r.defects).flatMap s.runPsas, defects := defects,
          blocksSince := a.blocks.length + b.blocks.length, recsSince := !(a.recs.isEmpty && b.recs.isEmpty),
          ckptUs := s.pwr.timeUs, openStripes := (lastStripe a ++ lastStripe b).eraseDups, damaged := bad.eraseDups,
          nextCookie := s.obj.nextCookie, clock := s.obj.clock, closedHeads := s.obj.closedHeads, recovered := true } }
        let s2 := s1.replayAll recs
        some (if bad.isEmpty then s2 else s2.raise 194 0 0)
      | _, _ => none

-- ---------------------------------------------------------------------------------------------------------------
-- Firmware images switch (R454 step 5, R648)

/-- Append the boot record that names the download bank as trial, and run its image. -/
def State.switchImages (s : State) : State :=
  let b := s.downloadBank
  match s.imageOf b with
  | some i =>
    if i.kind != 0 then s
    else
      let r := s.nvc.boot
      let s1 := s.setBootRec { r with trial := b, pending := if r.pending = b then 0 else r.pending, attempts := 1 }
      ({ s1 with nvc := { s1.nvc with running := b, disqualified := false } }).setF Fld.NVC_FETCHLOCK_LOCK (2 ^ b)
  | none => s

-- ---------------------------------------------------------------------------------------------------------------
-- Host-side resets

/-- Registers of DMA channel `n`. -/
def dmaRegs (n : Nat) : List Nat := (List.range 64).map (fun i => 0x1210000 + 256 * n + 4 * i)

/-- The host owns channel `n` (R517). -/
def State.dmaHostOwned (s : State) (n : Nat) : Bool := n < 8 && bitOf (s.getF Fld.DMA_ARB_HOSTOWN) n

/-- Every host-owned channel stops, writes no done word, and its registers return to their reset values (R533). -/
def State.dmaStopHost (s : State) : State :=
  let own := (List.range 8).filter s.dmaHostOwned
  let regs := own.foldl (fun m n => (dmaRegs n).foldl Assoc.del m) s.regs
  let s1 := { s with regs := regs, dma := { s.dma with runs := s.dma.runs.filter (fun r => !own.contains r.n) } }
  own.foldl (fun t n => t.setF ⟨Fld.DMA_BUSY_BUSY.addr, n, n⟩ 0) s1

/-- The MSI-X table, the PBA and every route to a vector clear (R401). -/
def State.clearVectors (s : State) : State :=
  let s1 := { s with evt := { s.evt with table := [], pba := [] } }
  (List.range 1024).foldl (fun t r =>
    if t.isSet (Fld.EVT_ROUTE_TO_VEC r) || t.isSet (Fld.EVT_ROUTE_VECTOR r) then
      (t.setF (Fld.EVT_ROUTE_TO_VEC r) 0).setF (Fld.EVT_ROUTE_VECTOR r) 0 else t) s1

/-- The HDM window is reinitialised to zero, its pages go to host bias, and class 6 takes the rate of R99 meanwhile (R368,
R412). -/
def State.hdmReinit (s : State) : State :=
  if s.hdmSize = 0 then s
  else
    let lo := hdmBase
    let hi := s.poolBase
    let keep (a : Nat) : Bool := a < lo || hi ≤ a
    let first := lo / (2 * mib)
    let b := { s.bmc with
      dram := s.bmc.dram.filter (fun p => keep p.1), poisoned := s.bmc.poisoned.filter (fun l => keep (64 * l)),
      merge := s.bmc.merge.filter (fun e => keep (64 * e.line)), bias := [],
      hdmLeft := (List.range (s.hdmSize / (2 * mib))).map (fun i => first + i) }
    (({ s with bmc := b }).setF Fld.BMC_STATUS_HDM_READY 0).initBudget

/-- An activation that runs completes its switch before a host-side reset applies (R414), and ends without a completion
(R651). -/
def State.endActivation (s : State) : State :=
  match s.qmg.activation with
  | some _ => s.switchImages
  | none => s

/-- Unflushed segments are finished or discarded once the index is recovered (R79). -/
def State.settleSegments (s : State) : State := if s.obj.recovered then s.finishOrDiscard else s

/-- The Host domain resets: queues torn down without completions, HCC invalidated without writeback, the HDM decoder
uncommitted, the window reinitialised, host-owned DMA channels stopped, MSI-X and routes cleared (R79, R368, R401, R451, R506,
R533). With `link` the link goes down too, and the IDE keys are cleared (R404): PERST_N and a surprise link down. -/
def State.hostReset (s : State) (link : Bool) : State :=
  let s1 := ((s.endActivation.settleSegments).tearDown).dmaStopHost
  let kept := if link then [] else [Fld.CXC_LINK_UP.addr, Fld.CXC_IDE_FAILED.addr]
  let regs := resetUnitRegs 23 kept (resetUnitRegs 11 [] (resetUnitRegs 10 [] s1.regs))
  let c := s1.cxc
  let cxc := if link then { Cxc.reset with perstLow := c.perstLow, prevLink := c.prevLink }
             else { Cxc.reset with prevLink := c.prevLink, ioKeys := c.ioKeys, cmKeys := c.cmKeys, spdm := c.spdm,
                                   rasCorr := c.rasCorr, rasUnc := c.rasUnc, rasLog := c.rasLog }
  let s2 : State := { s1 with regs := regs, hcc := Hcc.reset, cxc := cxc }
  let s3 : State := ((s2.applyUnit 10).applyUnit 11).applyUnit 23
  let s4 : State := if link then s3.setF Fld.KEY_STATUS_IDE 0 else s3
  let s5 := if s4.boot.slateStep ≥ 4 then (s4.setF Fld.HCC_STATUS_INVAL 0).setF Fld.HCC_STATUS_READY 1 else s4
  ((s5.clearVectors).hdmReinit).pumpAll

/-- Write every dirty line of HCC back without invalidating it (R507). -/
def State.hccClean (s : State) : State :=
  let s1 := (s.hcc.lines.filter (fun l => l.st == 2)).foldl (fun t l =>
    l.writes.foldl (fun u w => u.emit (.hostWrite (64 * l.line + w.1) w.2)) t) s
  let clean (l : HLine) : HLine := { l with st := if l.st = 2 then 1 else l.st, writes := [] }
  ({ s1 with hcc := { s1.hcc with lines := s1.hcc.lines.map clean } }).hccCount

/-- Configuration bytes a function-level reset keeps: the sticky ones of advanced error reporting, the CXL DVSECs and IDE of
the map of R388 (R708). -/
def flrKeeps (off : Nat) : Bool := (0x100 ≤ off && off < 0x148) || (0x230 ≤ off && off < 0x400)

/-- A function-level reset (R708): dirty lines written back, queues torn down, configuration space at reset but for the CXL
controls, MSI-X and routes cleared, host-owned DMA channels stopped; the link, the decoder and the keys stay. -/
def State.functionReset (s : State) : State :=
  let s1 := (((s.endActivation.settleSegments).hccClean).tearDown).dmaStopHost
  let c := s1.cxc
  let s2 := { s1 with cxc := { c with memEn := false, bme := false, msixEn := false, msixMask := false, d3 := false,
                                      cfg := c.cfg.filter (fun p => flrKeeps p.1), heldWrites := [] } }
  let unpin (l : HLine) : HLine := { l with pinned := false }
  let s3 := { s2 with hcc := { s2.hcc with lines := s2.hcc.lines.map unpin, held := [] } }
  s3.clearVectors.hccCount

-- ---------------------------------------------------------------------------------------------------------------
-- The Object domain (R81)

/-- An Object domain reset (R79, R81, R451): commands in slots complete with ABORTED_BY_RESET; unflushed segments finish or are
discarded; queues are kept; the index is recovered. Volatile entries of the domain revert. -/
def State.objectReset (s : State) : State :=
  let mine := s.qmg.slots.filter (fun x => x.qid != 0 && x.stage != 4 && entOpcode x.entry != 0x4A)
  let s1 := mine.foldl (fun t x => t.complete x.qid x.tag St.abortedByReset 0) s
  -- sessions are lost and uncommitted objects freed (R563)
  let held := s1.orphans s1.heldSlots ++ s1.mig.rxSlots
  let s2 := (({ s1 with mig := s1.mig.dropSessions, obj := { s1.obj with lookups := [] } }).freeTiles held).settleSegments.dropVolatile 3
  let s3 := ((s2.resetUnit 12).resetUnit 24).resetUnit 25
  let s4 := { s3 with obj := { s3.obj with cookies := [], clock := s3.clockRestarted } }
  s4.settleResets

/-- A warm reset requested by a domain that shares its fate: Platform or Buffer (R28, R81). Slate's own steps follow with the
command that carries its findings. -/
def State.sharedReset (s : State) : State := s.warmReset Fld.PLT_RSTCAUSE_DOMAIN

/-- The reset of domain `d` as a fault reaction or an uncorrectable line requires it (R361, R608). -/
def State.domainReset (s : State) (d : Nat) : State :=
  match d with
  | 2 => s.hostReset false
  | 3 => s.objectReset
  | 4 => s.mediaReset 0
  | 5 => s.mediaReset 1
  | 6 => s.motionReset
  | _ => s.sharedReset

end Sys2Proof.Machine
end

