-- ==== Sys2Proof/Machine/Buffer.lean ====
section
/-!
DEFINITION. DRAM reads and their errors, patrol and repair, the merge buffer, initialisation, maintenance, bias
(R353 to R378, R391, R392).
Choices: assumption log 28 to 32.
-/
namespace Sys2Proof.Machine
open Sys2Proof

-- ---------------------------------------------------------------------------------------------------------------
-- Initialisation (R65, R99, R363, R367, R368)

/-- The next block in order is done (R367). -/
def execInitBlockDone (s : State) : Res :=
  .next (match s.bmc.hdmLeft with
    | b :: _ => s.blockDone b
    | [] => s.blockDone (s.getF Fld.BMC_INITPOS_BLOCK))

/-- Initialisation or patrol has made no progress for 1 s with tokens available (R378). -/
def execInitPatrolStall (s : State) : Res :=
  .next (if s.initRuns || !s.bmc.hdmLeft.isEmpty || s.isSet Fld.BMC_PATROL_EN then s.raise 135 0 0 else s)

-- ---------------------------------------------------------------------------------------------------------------
-- Reads (R355 to R361)

/-- Errors that the decoder does not take out stay in the bytes of a line it has rewritten: those of components 0 to 7. -/
def State.leaveErrs (s : State) (l : Nat) (errs : List (Nat × Nat)) : State :=
  errs.foldl (fun t p =>
    if p.1 ≥ 64 then t
    else
      let a := 64 * l + p.1
      if t.regionOf a = some 5 then
        let x := a - t.poolBase
        match Assoc.find t.obj.pool (x / 4160) with
        | some tile => t.putTile (x / 4160) (setAt tile (x % 4160) (tile.getD (x % 4160) 0 ^^^ BitVec.ofNat 8 p.2))
        | none => t
      else t.setDram (memPut t.bmc.dram a (memGet t.bmc.dram a ^^^ BitVec.ofNat 8 p.2))) s

/-- A line corrected as `fixed` is rewritten: it is stored without errors (R359). -/
def State.rewriteLine (s : State) (l : Nat) (fixed : List (Nat × Nat)) : State :=
  let rest := addErrs (s.lineErrs l) fixed
  let s1 := { s with bmc := { s.bmc with errs := Assoc.del s.bmc.errs l, poisoned := s.bmc.poisoned.filter (· != l) } }
  s1.leaveErrs l rest

/-- A line is written poisoned (R356). -/
def State.poisonLine (s : State) (l : Nat) : State :=
  { s with bmc := { s.bmc with errs := Assoc.del s.bmc.errs l, poisoned := insertNat l s.bmc.poisoned } }

/-- Bytes of the bias table at the start of the control region (assumption log 32). -/
def biasTable : Nat := 32768

/-- The line that holds the other copy of a line of queue contexts: 64 MiB on, and with address bit 8 the other way in the other channel
(R349, R420; DESIGN CHOICE, assumption log 84). -/
def otherCopy (l : Nat) : Nat := ((l + 2 ^ 20) % 2 ^ 21) ^^^ 4

/-- A lost line of queue contexts: the other copy is read, and where it is valid the failing one is rewritten from it, which raises source
179 (R361). -/
def State.useOtherCopy (s : State) (l : Nat) : State :=
  let y := otherCopy l
  let s1 := s.readEcc (64 * y) 64
  if s1.lineBad y then s1 else (s1.dramWrite (64 * l) (s1.dramRead (64 * y) 64)).raise 179 0 0

/-- The domain whose memory a firmware line is, or the sector whose spilled decode a control line holds: where the spec lays neither region
out, by free values (R349; assumption log 84). -/
def State.lineHolder (s : State) (l : Nat) : Nat :=
  match s.regionOf (64 * l) with
  | some 2 => Config.lineDomain l % 7
  | some 3 =>
    let spilled := (s.dec.waiting.filter (·.resumed)).map (·.psa)
    spilled.getD (Config.spillPlace l % spilled.length) 0
  | _ => 0

/-- What an uncorrectable or poisoned line means in its region (R361). `what` is what the line holds: the domain whose memory
failed, or the sector whose spilled decode it is. A line of the sample store lies in the slot its address gives (R216). -/
def State.lineLost (s : State) (l what : Nat) : State :=
  match s.regionOf (64 * l) with
  | some 0 => s.useOtherCopy l
  | some 1 =>
    let slot := (64 * l - 128 * mib) / 131072
    s.setStore (s.dec.store.filter (fun y => y.slot != slot))
  | some 2 => s.domainReset what
  | some 3 =>
    let x := 64 * l - 896 * mib
    if x < biasTable then
      let first := 512 * (x / 64)
      { s with bmc := { s.bmc with
          bias := s.bmc.bias.filter (fun p => !(first ≤ p && p < first + 512)),
          errs := Assoc.del s.bmc.errs l, poisoned := s.bmc.poisoned.filter (· != l) } }
    else
      let restart (w : Work) : Work := if w.psa = what then { w with resumed := false, done := 0, iters := 0 } else w
      { s with dec := { s.dec with waiting := s.dec.waiting.map restart } }
  | some 5 => s.tileFails ((64 * l - s.poolBase) / 4160)
  | some 6 => s.objectReset
  | _ => s

/-- An uncorrectable (1) or poisoned (2) read, and what the region asks for (R361). -/
def State.countLost (s : State) (l type what : Nat) : State :=
  (s.countUncorrected l type).lineLost l what

/-- A read of line `l` (R355 to R361): answers the state and whether the data is valid. -/
def State.readLine (s : State) (l what : Nat) : State × Bool :=
  match s.lineDecode l with
  | .clean => (s, true)
  | .corrected _ => ((s.countCorrected l).queueRepair l, true)
  | .uncorrectable => (s.countLost l 1 what, false)
  | .poisoned => (s.countLost l 2 what, false)

/-- The lines of `n` bytes from a device address on are read, each with what its loss means (R358, R361). -/
def State.readLines (s : State) (a n : Nat) : State :=
  (s.faultyLines a n).foldl (fun (t : State) l => (t.readLine l (t.lineHolder l)).1) (s.initRange a n)

/-- A line of DRAM is read, one token of Tint class `cls` (R93); `err` are errors that have come upon its symbols since it was
written. -/
def execDramAccess (l : Nat) (err : List (Nat × Nat)) (what cls : Nat) (s : State) : Res :=
  .next (if l < s.linesInUse then
      let s1 := (s.initFor l).charge cls 1
      let e := addErrs ((Assoc.find s1.bmc.errs l).getD []) (err.filter (fun p => p.1 < 84))
      let s2 := { s1 with bmc := { s1.bmc with
        errs := if e.isEmpty then Assoc.del s1.bmc.errs l else Assoc.put s1.bmc.errs l e } }
      (s2.readLine l what).1
    else s)

-- ---------------------------------------------------------------------------------------------------------------
-- Patrol and repair (R359, R360, R362, R363)

/-- A repair of line `l` from the queue: a read, and where it corrects, a rewrite that the pass remembers (R359, R360). -/
def State.repairLine (s : State) (l what : Nat) : State :=
  match s.lineDecode l with
  | .clean => s
  | .corrected fixed =>
    let s1 := (s.charge 6 1).rewriteLine l fixed
    { s1 with bmc := { s1.bmc with repaired := insertNat l s1.bmc.repaired } }
  | .uncorrectable => s.countLost l 1 what
  | .poisoned => s.countLost l 2 what

/-- A line of the sequential walk: as a repair, but a corrected read also counts (R358, R362). -/
def State.patrolLine (s : State) (l what : Nat) : State :=
  match s.lineDecode l with
  | .corrected _ => (s.countCorrected l).repairLine l what
  | _ => s.repairLine l what

/-- One PERIOD of the patrol: the oldest repair, else the next line of the walk. Each read costs one token of class 6 and each
rewrite one more (R359, R362). It stands still while memory is being initialised (R363). -/
def execPatrolStep (what : Nat) (s : State) : Res :=
  .next (if !s.isSet Fld.BMC_PATROL_EN || s.initialising then s
    else match s.bmc.repairs with
      | l :: t =>
        let s1 := ({ s with bmc := { s.bmc with repairs := t } }).setF Fld.BMC_REPQ_USED t.length
        (s1.charge 6 1).repairLine l what
      | [] =>
        let l := s.getF Fld.BMC_PATROLPOS_LINE
        let s1 := (s.charge 6 1).patrolLine l what
        if l + 1 < s1.linesInUse then s1.setF Fld.BMC_PATROLPOS_LINE (l + 1)
        else
          let s2 := (s1.setF Fld.BMC_PATROLPOS_LINE 0).stat 0x8200 4 1
          { s2 with bmc := { s2.bmc with repaired := [] } })

-- ---------------------------------------------------------------------------------------------------------------
-- The merge buffer (R364 to R366)

def State.setMerge (s : State) (m : List MergeEntry) : State :=
  ({ s with bmc := { s.bmc with merge := m } }).setF Fld.BMC_MERGE_USED m.length

/-- An entry leaves: the line is read, merged, encoded and written; poisoned when its read is uncorrectable or the entry
fails parity, which raises source 133; two tokens of the writing class (R93, R365, R366). -/
def State.flushMerge (s : State) (e : MergeEntry) (parityOk : Bool) : State :=
  let s1 := ((s.setMerge (s.bmc.merge.filter (fun x => x.line != e.line))).stat 0x8200 7 1).charge e.cls 2
  let r := s1.readLine e.line (s1.lineHolder e.line)
  if !parityOk then (r.1.poisonLine e.line).raise 133 0 0
  else if !r.2 then r.1.poisonLine e.line
  else
    let s2 := match r.1.lineDecode e.line with
      | .corrected fixed => r.1.rewriteLine e.line fixed
      | _ => r.1
    s2.setDram (e.bytes.foldl (fun m c => memPut m (64 * e.line + c.1) c.2) s2.bmc.dram)

/-- Bytes of one line are written by Tint class `cls`: a full mask writes the line for one token, a partial one enters or joins
an entry, for which the oldest makes room (R364, R365). -/
def State.writeCells (s : State) (l cls : Nat) (cells : List Host.Cell) : State :=
  let cells := cells.filter (fun c => c.1 < 64)
  let old := (s.bmc.merge.find? (fun e => e.line == l)).map (·.bytes)
  let all := cells.foldl (fun m c => Assoc.put m c.1 c.2) (old.getD [])
  if all.length = 64 then (s.dramWrite (64 * l) (all.map (·.2))).charge cls 1
  else if all.isEmpty then s
  else match old with
    | some _ => s.setMerge (s.bmc.merge.map (fun e => if e.line = l then ⟨l, all, cls⟩ else e))
    | none =>
      let s1 := if s.bmc.merge.length < 64 then s
                else match s.bmc.merge with
                  | e :: _ => s.flushMerge e true
                  | [] => s
      s1.setMerge (s1.bmc.merge ++ [⟨l, all, cls⟩])

/-- Bytes written from a device address on by Tint class `cls`: line by line, a full line at once and a part of one through the merge
buffer (R364, R365). -/
def State.storeBytes (s : State) (a cls : Nat) (bs : List Byte) : State :=
  (List.range (linesOf (a % 64 + bs.length))).foldl (fun (t : State) i =>
    let l := a / 64 + i
    let cell (j : Nat) : Option Host.Cell :=
      let p := 64 * l + j
      if a ≤ p then (bs[p - a]?).map (fun b => (j, b)) else none
    (t.initFor l).writeCells l cls ((List.range 64).filterMap cell)) s

/-- Write a buffer: exactly the bytes given, piece by piece, those of the window charged to Tint class `cls` (R468, R470). -/
def State.writeBuffer (s : State) (cls : Nat) (ps : Pieces) (bs : List Byte) : State :=
  match ps with
  | [] => s
  | p :: t =>
    let now := bs.take p.2.2
    let s1 := if now.isEmpty then s else if p.1 = 1 then s.storeBytes (hdmBase + p.2.1) cls now else s.emit (.hostWrite p.2.1 now)
    s1.writeBuffer cls t (bs.drop p.2.2)

/-- A partial write to a line of DRAM by Tint class `cls`: offsets and bytes. -/
def execMergeWrite (l cls : Nat) (cells : List Host.Cell) (s : State) : Res :=
  .next (if l < s.linesInUse then (s.initFor l).writeCells l cls cells else s)

/-- HOLD has passed since the entry of line `l` was allocated. -/
def execMergeHoldExpire (l : Nat) (parityOk : Bool) (s : State) : Res :=
  .next (match s.bmc.merge.find? (fun e => e.line == l) with
    | some e => s.flushMerge e parityOk
    | none => s)

-- ---------------------------------------------------------------------------------------------------------------
-- Maintenance (R353)

/-- The DQS oscillator of subchannel `sub` (bit 0 the subchannel, bit 1 the channel, R349) is read: its drift in 1/256 unit interval; beyond
a quarter, source 134. -/
def execDqsOscillatorRead (sub drift : Nat) (s : State) : Res :=
  let s1 := { s with bmc := { s.bmc with drift := s.bmc.drift.set sub drift } }
  .next (if drift > 64 then s1.raise 134 0 0 else s1)

/-- ZQ calibration changes nothing the part reports. -/
def execZqCalibration (s : State) : Res := .next s

/-- The temperatures of the components are read: refresh at 2x while one is above 85 °C. -/
def execDramTemperatureRead (hot : List Nat) (s : State) : Res :=
  .next (({ s with bmc := { s.bmc with hot := hot } }).setF Fld.BMC_CFG_REF2X (b2n (!hot.isEmpty)))

-- ---------------------------------------------------------------------------------------------------------------
-- Bias and the window (R373 to R377, R391, R392)

/-- Pages of the window. -/
def State.hdmPages (s : State) : Nat := s.hdmSize / 65536

/-- BMC_BIASCMD written with GO: device bias for `count` pages from BMC_BIASPAGE on, then DONE (R375). Pages beyond the window
are none. -/
def execBiasRequest (count : Nat) (s : State) : Res :=
  .next (if s.isSet Fld.BMC_BIASCMD_BUSY then s
    else
      let first := s.getF Fld.BMC_BIASPAGE_PAGE
      let on (p : Nat) : Bool := (first ≤ p && p < first + count) || s.bmc.bias.contains p
      let s1 := { s with bmc := { s.bmc with bias := (List.range s.hdmPages).filter on } }
      (s1.setF Fld.BMC_BIASCMD_COUNT count).setF Fld.BMC_BIASCMD_DONE 1)

/-- A host access to a page in device bias flips it to host bias first (R376). -/
def State.flipBias (s : State) (page : Nat) : State :=
  if s.bmc.bias.contains page then
    let s1 := { s with bmc := { s.bmc with bias := s.bmc.bias.filter (· != page) } }
    (s1.bumpF Fld.BMC_BIASCNT_FLIPS 1).stat 0x8200 6 1
  else s

/-- The window offset that a host physical address reaches: CXL.mem up, the decoder committed, the address inside it (R373,
R391). -/
def State.hdmOffset (s : State) (hpa : Nat) : Option Nat :=
  let base := 2 ^ 28 * s.getF Fld.CXC_HDMBASE_BASE
  let size := 256 * mib * s.getF Fld.CXC_HDM_SIZE
  if s.isSet Fld.CXC_LINK_UP && s.isSet Fld.CXC_LINK_MEM && s.isSet Fld.CXC_HDM_COMMITTED && base ≤ hpa && hpa < base + size
  then some (hpa - base) else none

/-- A CXL.mem access of the host to one line: a read, or a write of bytes by offset, which may be poisoned (R361, R392). A
stream that has failed its integrity check discards it (R406). Its transfers are of class 2, HDM load/store (R94). -/
def execCxlMemAccess (hpa : Nat) (write : Option (List Host.Cell)) (poison : Bool) (s : State) : Res :=
  .next (match s.hdmOffset hpa with
    | none => s
    | some x =>
      if s.cxc.cmKeys = 3 then s
      else
        let a := hdmBase + x
        let l := a / 64
        let s1 := (s.initFor l).flipBias (x / 65536)
        match write with
        | some cells =>
          let s2 := if poison then ((s1.setMerge (s1.bmc.merge.filter (fun e => e.line != l))).poisonLine l).charge 2 1
                    else s1.writeCells l 2 cells
          s2.emit (.memDone (64 * (hpa / 64)))
        | none =>
          let r := (s1.charge 2 1).readLine l (s1.lineHolder l)
          if r.2 then r.1.emit (.memData (64 * (hpa / 64)) (s1.dramRead (64 * l) 64) false)
          else ({ r.1 with free := r.1.free + 64 }).emit (.memData (64 * (hpa / 64)) (r.1.freeBytes 64) true))

end Sys2Proof.Machine
end

