-- ==== Sys2Proof/Machine/Hcc.lean ====
section
/-!
DEFINITION. The host coherent cache: disable walk, snoops, writebacks, unplaced mailboxes, parity (R502 to R514).
Choices: assumption log 39.
-/
namespace Sys2Proof.Machine
open Sys2Proof

/-- Codes of `Out.snoopRsp`, by the CXL.cache responses: no copy; clean copy invalidated; clean copy shared; modified data
forwarded and invalidated; modified data forwarded and shared. -/
def rspIHitI : Nat := 0
def rspIHitSE : Nat := 1
def rspSHitSE : Nat := 2
def rspIFwdM : Nat := 3
def rspSFwdM : Nat := 4
/-- Modified data forwarded as poisoned, and invalidated or shared (R508). -/
def rspIFwdMPoison : Nat := 5
def rspSFwdMPoison : Nat := 6

/-- The armed queue whose mailbox is the line. -/
def State.mailboxOf (s : State) (line : Nat) : Option Queue :=
  s.qmg.queues.find? (fun q => match q.mailbox with | some a => a / 64 == line | none => false)

/-- Bit 0 of the second status of the DVSEC for CXL devices: Cache Invalid (R389, R509). -/
def State.setCacheInvalid (s : State) (b : Bool) : State :=
  let old := (Assoc.find s.cxc.cfg 0x312).getD 0
  let v := if b then old ||| 1 else old &&& 0xFE
  { s with cxc := { s.cxc with cfg := if v = 0 then Assoc.del s.cxc.cfg 0x312 else Assoc.put s.cxc.cfg 0x312 v } }

/-- Bit 0 of the second control of that DVSEC: Disable Caching. -/
def State.setDisableCaching (s : State) (b : Bool) : State :=
  let old := (Assoc.find s.cxc.cfg 0x310).getD 0
  let v := if b then old ||| 1 else old &&& 0xFE
  { s with cxc := { s.cxc with cfg := if v = 0 then Assoc.del s.cxc.cfg 0x310 else Assoc.put s.cxc.cfg 0x310 v } }

-- ---------------------------------------------------------------------------------------------------------------
-- The disable walk (R509 to R512)

/-- Steps 4 and 5 of R509 once every queued writeback has its GO: every set invalidated, Cache Invalid set, DISABLED reads 1. -/
def State.walkEnds (s : State) : State :=
  if s.isSet Fld.HCC_STATUS_WALK && s.hcc.dirty.isEmpty && s.hcc.evict.isEmpty && s.hcc.evictWait.isEmpty then
    let s1 := ({ s with hcc := { s.hcc with lines := [], walkOver := false } }).hccCount
    ((s1.setF Fld.HCC_STATUS_WALK 0).setF Fld.HCC_STATUS_DISABLED 1).setCacheInvalid true
  else s

/-- The host disables caching with writeback and invalidation: new allocations stop and every dirty line is queued for
DirtyEvict. -/
def State.hccDisable (s : State) : State :=
  if !s.hccOn || s.isSet Fld.HCC_STATUS_WALK then s
  else
    let s1 := (s.setDisableCaching true).setF Fld.HCC_STATUS_WALK 1
    let s2 := s1.hcc.dirty.foldl (fun t l => t.hccWriteback l.line) s1
    s2.walkEnds

def execHccDisable (s : State) : Res := .next s.hccDisable

/-- The walk has taken longer than 70 µs; it completes all the same (R511). -/
def execHccWalkOvertime (s : State) : Res :=
  .next (if s.isSet Fld.HCC_STATUS_WALK && !s.hcc.walkOver then
      ({ s with hcc := { s.hcc with walkOver := true } }).raise 164 0 0
    else s)

/-- Armed mailboxes without a line and not unplaced are read again and pinned (R510, R513). -/
def State.readMailboxes (s : State) : State :=
  (s.qmg.queues.filter (fun q => q.mailbox.isSome && !q.unplaced)).foldl (fun t q =>
    match q.mailbox with
    | some a => if (t.hcc.find (a / 64)).isSome then t else t.placeMailbox q a
    | none => t) s

/-- Disable Caching is cleared: each armed mailbox is read once, pinned, and its TAIL acted on; `tails` are the TAILs read, by
queue (R510). -/
def State.hccEnable (s : State) (tails : List (Nat × Option Nat)) : State :=
  if !s.isSet Fld.HCC_STATUS_DISABLED then s
  else
    let s1 := ((s.setF Fld.HCC_STATUS_DISABLED 0).setCacheInvalid false).setDisableCaching false
    let armed := (s1.qmg.queues.filter (fun q => q.mailbox.isSome)).map (·.qid)
    (tails.filter (fun p => armed.contains p.1)).foldl (fun t p => t.mailboxTail p.1 p.2) s1.readMailboxes

def execHccEnable (tails : List (Nat × Option Nat)) (s : State) : Res := .next (s.hccEnable tails)

-- ---------------------------------------------------------------------------------------------------------------
-- Snoops and writebacks (R502, R504, R505, R513, R514)

/-- A line's 64 bytes: those written over what the host holds. -/
def HLine.bytes (l : HLine) (old : List Byte) : List Byte :=
  l.writes.foldl (fun b w => b.take w.1 ++ w.2 ++ b.drop (w.1 + w.2.length)) (slice old 0 64)

/-- The part reads a mailbox again and takes its TAIL (R430). The doorbell alone notifies while the mailbox is not watched
(R509, R510). -/
def State.rereadMailbox (s : State) (q : Queue) (tail : Option Nat) : State :=
  if !s.hccOn || s.isSet Fld.HCC_STATUS_WALK then s
  else
    let s1 := match q.mailbox with
      | some a => if q.unplaced || (s.hcc.find (a / 64)).isSome then s else s.placeMailbox q a
      | none => s
    s1.mailboxTail q.qid tail

/-- A host snoop of the line at `addr`: to invalidate it, or to read it. `old` is what host memory holds there and `tail` the
TAIL that a mailbox holds afterwards. -/
def State.snoop (s : State) (addr : Nat) (inv : Bool) (old : List Byte) (tail : Option Nat) : State :=
  let line := addr / 64
  match s.hcc.evict.find? (fun l => l.line == line) with
  | some l =>
    if l.bad then s.emit (.snoopRsp (if inv then rspIFwdMPoison else rspSFwdMPoison) (64 * line) [])
    else s.emit (.snoopRsp (if inv then rspIFwdM else rspSFwdM) (64 * line) (l.bytes old))
  | none =>
    match s.hcc.find line with
    | none => s.emit (.snoopRsp rspIHitI (64 * line) [])
    | some l =>
      if l.bad then s.emit (.snoopRsp (if inv then rspIFwdMPoison else rspSFwdMPoison) (64 * line) [])
      else if inv then
        let bytes := if l.st = 2 then l.bytes old else []
        let s1 := (({ s with hcc := s.hcc.drop line }).emit
          (.snoopRsp (if l.st = 2 then rspIFwdM else rspIHitSE) (64 * line) bytes)).hccCount
        if l.kind = 0 then
          let s2 := s1.stat 0x8330 3 1
          match s2.mailboxOf line with
          | some q => s2.rereadMailbox q tail
          | none => s2
        else s1.walkEnds
      else if l.st = 2 then
        let l1 : HLine := { l with st := 0, writes := [] }
        ((({ s with hcc := s.hcc.put l1 }).emit (.snoopRsp rspSFwdM (64 * line) (l.bytes old))).hccCount).walkEnds
      else
        let l1 : HLine := { l with st := 0 }
        ({ s with hcc := s.hcc.put l1 }).emit (.snoopRsp rspSHitSE (64 * line) [])

def execHostSnoop (addr : Nat) (inv : Bool) (old : List Byte) (tail : Option Nat) (s : State) : Res :=
  .next (if s.cacheFailed then s else s.snoop addr inv old tail)

/-- A host store to an armed mailbox: the snoop drops the line, and the reread gives its TAIL (R430). -/
def execMailboxSnoop (qid : Nat) (tail : Option Nat) (s : State) : Res :=
  .next (match s.queue qid with
    | none => s
    | some q =>
      match q.mailbox with
      | none => s
      | some a =>
        if s.cacheFailed then s
        else if (s.hcc.find (a / 64)).isSome then s.snoop a true [] tail else s.rereadMailbox q tail)

/-- Held requests are reissued, oldest first; those whose line is still not to be had stay held (R513, R514). -/
def State.reissue (s : State) : State :=
  let l := s.hcc.held
  l.foldl (fun t r => t.ringWrite r.1 r.2.1 r.2.2) { s with hcc := { s.hcc with held := [] } }

/-- The GO of the writeback of the line at `addr`: its bytes are in host memory, the way is free, the next line that waits for
the eviction buffer takes the entry, and requests held are reissued. -/
def execWritebackGo (addr : Nat) (s : State) : Res :=
  let line := addr / 64
  .next (match s.hcc.evict.find? (fun l => l.line == line && !s.cacheFailed) with
    | none => s
    | some l =>
      let s1 := l.writes.foldl (fun t w => t.emit (.hostWrite (64 * line + w.1) w.2))
        { s with hcc := { s.hcc with evict := s.hcc.evict.filter (fun x => x.line != line) } }
      let s2 := match s1.hcc.evictWait with
        | w :: t => ({ s1 with hcc := { s1.hcc with evictWait := t } }).hccWriteback w
        | [] => s1
      ((s2.reissue).readMailboxes).walkEnds)

/-- Every 2 µs, and at each doorbell of its queue, an unplaced mailbox is read with RdCurr and its TAIL acted on (R503). -/
def State.pollMailbox (s : State) (qid : Nat) (tail : Option Nat) : State :=
  match s.queue qid with
  | none => s
  | some q =>
    match q.mailbox with
    | none => s
    | some a =>
      if q.unplaced && s.hccOn && !s.cacheFailed && !s.isSet Fld.HCC_STATUS_WALK then (s.emit (.cacheReq opRdCurr a)).mailboxTail qid tail else s

def execUnplacedMailboxPoll (qid : Nat) (tail : Option Nat) (s : State) : Res := .next (s.pollMailbox qid tail)

-- ---------------------------------------------------------------------------------------------------------------
-- Parity (R508)

/-- HCC_PARLOG and the address register for an error in way `way` of `set`; the address is undefined where the tag was not
readable. -/
def State.parityLog (s : State) (what way set : Nat) (dirty : Bool) (line : Option Nat) : State :=
  let s1 := ((((s.setF Fld.HCC_PARLOG_VALID 1).setF Fld.HCC_PARLOG_WHAT what).setF Fld.HCC_PARLOG_DIRTY (b2n dirty)).setF
    Fld.HCC_PARLOG_WAY way).setF Fld.HCC_PARLOG_SET set
  match line with
  | some l => s1.setF Fld.HCC_PARADDR_ADDR l
  | none => (s1.useFree).setF Fld.HCC_PARADDR_ADDR s1.freeWord.toNat

/-- A line in M, or one whose state cannot be trusted, is written back poisoned. -/
def State.evictPoisoned (s : State) (l : HLine) : State :=
  let l1 : HLine := { l with st := 2, pinned := false, writes := [], bad := true }
  ({ s with hcc := s.hcc.put l1 }).hccWriteback l.line

/-- One error of R508: way, what (0 data, 1 tag, 2 state or pin, 3 eviction buffer entry), and the TAIL that a refetched
mailbox holds. -/
def State.parityError (s : State) (set way what tail : Nat) : State :=
  if what = 3 then
    match s.hcc.evict[way]? with
    | none => s
    | some l =>
      let l1 : HLine := { l with writes := [], bad := true }
      let s1 := { s with hcc := { s.hcc with evict := s.hcc.evict.set way l1 } }
      (s1.parityLog 3 way (hccSet l.line) true (some l.line)).raise 162 0 0
  else
    match (s.hcc.inSet set).find? (fun l => l.way == way) with
    | none => if what = 2 then (s.parityLog 2 way set true none).raise 161 0 0 else s
    | some l =>
      let known := if what = 1 then none else some l.line
      if what = 2 || l.st = 2 then
        ((s.evictPoisoned l).parityLog what way set true known).raise 161 0 0
      else
        let s1 := (({ s with hcc := s.hcc.drop l.line }).hccCount).parityLog what way set false known
        let s2 := match s1.mailboxOf l.line with
          | some q => if l.kind = 0 then s1.rereadMailbox q (some tail) else s1
          | none => s1
        (s2.stat 0x8330 5 1).raise 160 0 0

/-- The sweep checks one set: the errors it finds, each with its way, what it is in and a refetched TAIL. -/
def execHccParitySweep (set : Nat) (errors : List (Nat × Nat × Nat)) (s : State) : Res :=
  .next ((errors.foldl (fun t e => t.parityError set e.1 e.2.1 e.2.2) s).walkEnds)

end Sys2Proof.Machine
end

