-- ==== Sys2Proof/Machine/Dma.lean ====
section
/-!
DEFINITION. The DMA engine: checks, movement line by line, compare, halt, abort, resume (R517 to R536), and the CXL.io errors
that halt a channel (R409, R410).
Choices: assumption log 36.
-/
namespace Sys2Proof.Machine
open Sys2Proof

-- ---------------------------------------------------------------------------------------------------------------
-- The operation that the registers spell (R523 to R525)

/-- A pair of registers as one number. -/
def State.pair (s : State) (lo hi : FieldRef) : Nat := s.getF lo + 2 ^ 32 * s.getF hi

/-- Put a number into a pair of registers. -/
def State.setPair (s : State) (lo hi : FieldRef) (v : Nat) : State := (s.setF lo v).setF hi (v / 2 ^ 32)

/-- The operation in the registers of channel `n`, with the lists it has read. -/
def State.dmaPar (s : State) (n : Nat) (srcList dstList : List (Nat × Nat × Nat)) : DmaPar :=
  { op := s.getF (Fld.DMA_CTL_OP n), sg := s.isSet (Fld.DMA_CTL_MODE n), big := s.isSet (Fld.DMA_CTL_ESIZE n),
    check := s.isSet (Fld.DMA_CTL_CHECK n), ssp := s.getF (Fld.DMA_CTL_SRCSP n), dsp := s.getF (Fld.DMA_CTL_DSTSP n),
    src := s.pair (Fld.DMA_SRC_LO_V n) (Fld.DMA_SRC_HI_V n), dst := s.pair (Fld.DMA_DST_LO_V n) (Fld.DMA_DST_HI_V n),
    counts := [s.getF (Fld.DMA_CNT0_COUNT n), s.getF (Fld.DMA_CNT1_COUNT n), s.getF (Fld.DMA_CNT2_COUNT n)],
    ssteps := [signed 32 (s.getF (Fld.DMA_SSTEP0_STEP n)), signed 32 (s.getF (Fld.DMA_SSTEP1_STEP n)),
      signed 32 (s.getF (Fld.DMA_SSTEP2_STEP n))],
    dsteps := [signed 32 (s.getF (Fld.DMA_DSTEP0_STEP n)), signed 32 (s.getF (Fld.DMA_DSTEP1_STEP n)),
      signed 32 (s.getF (Fld.DMA_DSTEP2_STEP n))],
    fill := s.pair (Fld.DMA_FILL_LO_V n) (Fld.DMA_FILL_HI_V n), srcList := srcList, dstList := dstList }

/-- Bytes of an element: scatter-gather lists always use 64 B elements (R527). -/
def DmaPar.esize (p : DmaPar) : Nat := if p.big && !p.sg then 4096 else 64
def DmaPar.lines (p : DmaPar) : Nat := p.esize / 64
def DmaPar.count (p : DmaPar) (j : Nat) : Nat := p.counts.getD j 1
def listBytes (l : List (Nat × Nat × Nat)) : Nat := l.foldl (fun a e => a + e.2.2) 0

/-- Lines of 64 B in the whole transfer. -/
def DmaPar.total (p : DmaPar) : Nat :=
  if p.sg then listBytes p.dstList / 64 else p.count 0 * p.count 1 * p.count 2 * p.lines

/-- The indices of the element with ordinal `e` (R524); in scatter-gather mode the ordinal itself (R529). -/
def DmaPar.index (p : DmaPar) (e j : Nat) : Nat :=
  if p.sg then (if j = 0 then e else 0)
  else match j with
    | 0 => e % p.count 0
    | 1 => e / p.count 0 % p.count 1
    | _ => e / (p.count 0 * p.count 1)

/-- Line `l` of a scatter-gather list: space and address. -/
def listLine (list : List (Nat × Nat × Nat)) (l : Nat) : Nat × Nat :=
  match list with
  | [] => (0, 0)
  | e :: t => if l < e.2.2 / 64 then (e.1, e.2.1 + 64 * l) else listLine t (l - e.2.2 / 64)

/-- Space and address of line `l` of the source or the destination. -/
def DmaPar.at (p : DmaPar) (onDst : Bool) (l : Nat) : Nat × Nat :=
  if p.sg then listLine (if onDst then p.dstList else p.srcList) l
  else
    let e := l / p.lines
    let steps := if onDst then p.dsteps else p.ssteps
    let off := (List.range 3).foldl (fun (a : Int) j => a + (p.index e j : Int) * steps.getD j 0) 0
    (if onDst then p.dsp else p.ssp, (((if onDst then p.dst else p.src) : Int) + off).toNat + 64 * (l % p.lines))

-- ---------------------------------------------------------------------------------------------------------------
-- Checks (R526 to R528)

/-- A footprint: space, first byte, last byte. -/
abbrev Foot := Nat × Int × Int

/-- The footprint of an operand in loop mode (R528). -/
def DmaPar.loopFoot (p : DmaPar) (onDst : Bool) : Foot :=
  let steps := if onDst then p.dsteps else p.ssteps
  let base : Int := if onDst then p.dst else p.src
  let reach (j : Nat) : Int := ((p.count j : Int) - 1) * steps.getD j 0
  let lo := (List.range 3).foldl (fun (a : Int) j => a + min 0 (reach j)) base
  let hi := (List.range 3).foldl (fun (a : Int) j => a + max 0 (reach j)) base
  (if onDst then p.dsp else p.ssp, lo, hi + p.esize - 1)

/-- The footprints of a list, per space (R528). -/
def listFeet (l : List (Nat × Nat × Nat)) : List Foot :=
  (List.range 4).filterMap (fun sp =>
    match l.filter (fun e => e.1 == sp) with
    | [] => none
    | e :: t =>
      let lo := t.foldl (fun a x => min a x.2.1) e.2.1
      let hi := t.foldl (fun a x => max a (x.2.1 + x.2.2)) (e.2.1 + e.2.2)
      some (sp, (lo : Int), (hi : Int) - 1))

def DmaPar.feet (p : DmaPar) (onDst : Bool) : List Foot :=
  if p.sg then listFeet (if onDst then p.dstList else p.srcList) else [p.loopFoot onDst]

/-- Operands in use: a fill has no source (R523). -/
def DmaPar.allFeet (p : DmaPar) : List Foot := (if p.op = 1 then [] else p.feet false) ++ p.feet true

/-- The rules of R519 and R520 for one footprint. -/
def State.spaceBad (s : State) (n : Nat) (f : Foot) : Bool :=
  let own := s.dmaHostOwned n
  f.2.1 < 0 || match f.1 with
    | 0 => !s.cxc.bme || s.ownSpace f.2.1.toNat (f.2.2 - f.2.1 + 1).toNat
    | 1 => !s.hdmUsable || f.2.2 ≥ s.hdmSize
    | 2 => own || f.2.2 ≥ 4096 * s.poolSlots
    | 3 => own || f.2.2 ≥ s.dramSize
    | _ => true

/-- The device address range of a footprint; host space stays apart (R528). -/
def State.deviceFoot (s : State) (f : Foot) : Foot :=
  match f.1 with
  | 1 => (3, f.2.1 + hdmBase, f.2.2 + hdmBase)
  | 2 => (3, s.poolBase + 4160 * (f.2.1 / 4096), s.poolBase + 4160 * (f.2.2 / 4096) + 4159)
  | x => (x, f.2.1, f.2.2)

def feetMeet (a b : Foot) : Bool := a.1 == b.1 && a.2.1 ≤ b.2.2 && b.2.1 ≤ a.2.2

/-- Destination elements could overlap one another (R528). -/
def DmaPar.selfOverlap (p : DmaPar) : Bool :=
  ((List.range 3).foldl (fun (a : Bool × Int) j =>
    let d : Int := (p.dsteps.getD j 0).natAbs
    (a.1 || (p.count j > 1 && d < a.2), d * ((p.count j : Int) - 1) + a.2)) (false, (p.esize : Int))).1

/-- The two operands are the same range walked the same way (R528). -/
def DmaPar.identical (p : DmaPar) : Bool :=
  if p.sg then p.srcList == p.dstList else p.ssp == p.dsp && p.src == p.dst && p.ssteps == p.dsteps

/-- The check of R528. -/
def State.dmaOverlap (s : State) (p : DmaPar) : Bool :=
  let a := (p.feet false).map s.deviceFoot
  let b := (p.feet true).map s.deviceFoot
  let meet := p.op != 1 && a.any (fun x => b.any (feetMeet x))
  (p.op = 0 && meet) || (p.op = 2 && meet && !p.identical) || (p.op != 2 && !p.sg && p.selfOverlap)

/-- An entry of a list with reserved bytes set (R525). -/
def listBad (bs : List Byte) (n : Nat) : Bool := (List.range n).any (fun i => numAt bs (16 * i + 13) 3 != 0)

/-- The code of the first check that fails (R526); 0 when none does. `listsOk` says that the lists were read. -/
def State.dmaCheck (s : State) (n : Nat) (p : DmaPar) (listsOk : Bool) : Nat :=
  let e := p.esize
  let stepBad (l : List Int) : Bool := l.any (fun x => x % (e : Int) != 0)
  let lengths := if p.op = 1 then p.dstList else p.srcList ++ p.dstList
  if p.sg && !listsOk then 5
  else if p.allFeet.any (s.spaceBad n) || (p.sg && lengths.any (fun x => x.1 > 3))
      || (p.check && !p.allFeet.any (fun f => f.1 == 2)) then 4
  else if (if p.sg then lengths.any (fun x => x.2.2 = 0) || (p.op != 1 && listBytes p.srcList != listBytes p.dstList)
           else p.counts.any (fun c => c = 0 || c > 2 ^ 24) || p.total * 64 > 2 ^ 40) then 3
  else if (if p.sg then lengths.any (fun x => x.2.1 % 64 != 0 || x.2.2 % 64 != 0) || p.dst % 64 != 0
                 || (p.op != 1 && p.src % 64 != 0)
           else p.dst % e != 0 || stepBad p.dsteps || (p.op != 1 && (p.src % e != 0 || stepBad p.ssteps)))
      || (p.check && e != 4096) then 1
  else if s.dmaOverlap p then 2
  else 0

-- ---------------------------------------------------------------------------------------------------------------
-- Ends of an operation (R530, R532)

/-- STATE and CODE of a channel; DMA_BUSY follows. -/
def State.dmaState (s : State) (n st code : Nat) : State :=
  ((s.setF (Fld.DMA_STAT_STATE n) st).setF (Fld.DMA_STAT_CODE n) code).setF ⟨Fld.DMA_BUSY_BUSY.addr, n, n⟩
    (b2n (st = 1 || st = 4))

/-- The 8 B done word: into host memory for a host-owned channel, into device memory for firmware's, whose line is written whole, the other
bytes as it holds them (R522, R525, R532; assumption log 36). -/
def State.doneWord (s : State) (n st code : Nat) : State :=
  let a := s.pair (Fld.DMA_DONEADDR_LO_V n) (Fld.DMA_DONEADDR_HI_V n)
  let w := leBytes 1 st ++ leBytes 1 code ++ leBytes 2 n ++ zeros 4
  if s.dmaHostOwned n then s.hostWrite a w
  else
    let l := a / 64
    let old := s.dramRead (64 * l) 64
    ((s.initFor l).dramWrite (64 * l) (old.take (a % 64) ++ w ++ old.drop (a % 64 + 8))).charge 11 1

/-- The operation of channel `n` ends: state, code, statistics, the done word and the group event as configured. -/
def State.dmaEnd (s : State) (n st code : Nat) : State :=
  let s1 := s.dmaState n st code
  let s2 := if st = 2 then s1.stat 0x8210 1 1 else if st = 3 then s1.stat 0x8210 2 1
            else if st = 4 then s1.stat 0x8210 3 1 else s1
  let s3 := if code = 6 then s2.stat 0x8210 4 1 else if code = 7 then s2.stat 0x8210 5 1 else s2
  let s4 := if s3.isSet (Fld.DMA_CTL_DONEW n) then s3.doneWord n st code else s3
  if s4.isSet (Fld.DMA_CTL_IRQ n) then s4.groupEvent (s4.getF (Fld.DMA_CTL_GROUP n)) else s4

def State.dmaRun (s : State) (n : Nat) : Option DmaRun := s.dma.runs.find? (fun r => r.n == n)
def State.dropRun (s : State) (n : Nat) : State :=
  { s with dma := { s.dma with runs := s.dma.runs.filter (fun r => r.n != n) } }
def State.setRun (s : State) (r : DmaRun) : State :=
  let others := s.dma.runs.filter (fun x => x.n != r.n)
  { s with dma := { s.dma with runs := others.filter (fun x => x.n < r.n) ++ [r] ++ others.filter (fun x => x.n > r.n) } }

/-- Latch the indices of the element that line `l` belongs to (R529, R530). -/
def State.dmaIndices (s : State) (r : DmaRun) (l : Nat) : State :=
  let e := l / r.par.lines
  ((s.setF (Fld.DMA_IDX0_IDX r.n) (r.par.index e 0)).setF (Fld.DMA_IDX1_IDX r.n) (r.par.index e 1)).setF
    (Fld.DMA_IDX2_IDX r.n) (r.par.index e 2)

/-- The channel halts on line `l` (R530): address, space, direction, cause and indices are latched, source 145. -/
def State.dmaHalt (s : State) (r : DmaRun) (l : Nat) (onDst : Bool) (cause : Nat) : State :=
  let at_ := r.par.at onDst l
  let s1 := (s.dmaIndices r l).setPair (Fld.DMA_FAILADDR_LO_V r.n) (Fld.DMA_FAILADDR_HI_V r.n) at_.2
  let s2 := ((s1.setF (Fld.DMA_STAT_FSP r.n) at_.1).setF (Fld.DMA_STAT_DIR r.n) (b2n (onDst && r.par.op != 2))).setF
    (Fld.DMA_STAT_CAUSE r.n) cause
  let s3 := s2.setRun { r with line := l / r.par.lines * r.par.lines }
  (s3.dmaEnd r.n 4 8).raise 145 0 0

-- ---------------------------------------------------------------------------------------------------------------
-- Movement (R522 to R524, R529)

/-- One byte of DRAM as device space sees it: in the tile pool, of the slot that holds it. -/
def State.devByte (s : State) (a : Nat) : Byte :=
  if s.regionOf a = some 5 then (s.tileAt ((a - s.poolBase) / 4160)).getD ((a - s.poolBase) % 4160) 0 else s.lineByte a

/-- A slot's tile with bytes replaced from `off` on. -/
def State.patchTile (s : State) (slot off : Nat) (bs : List Byte) : State :=
  let t := slice (s.tileAt slot) 0 4128
  s.putTile slot ((t.take off ++ bs ++ t.drop (off + bs.length)).take 4128)

/-- The device address of a line of space 1 to 3 (R519). -/
def State.deviceLine (s : State) (a : Nat × Nat) : Nat :=
  match a.1 with
  | 1 => hdmBase + a.2
  | 2 => s.poolBase + 4160 * (a.2 / 4096) + a.2 % 4096
  | _ => a.2

/-- A channel's read of a line: coherence in a host-bias page of the window, then the read with its errors (R358, R361, R374). -/
def State.dmaTouch (s : State) (held : List (Nat × List Byte)) (a : Nat × Nat) : State :=
  if a.1 = 0 then s
  else
    let s1 := if a.1 = 1 then s.obtainLine held (a.2 / 64) else s
    let l := s1.deviceLine a / 64
    (((s1.initFor l).readLine l ((s1.initFor l).lineHolder l))).1

/-- Tokens of class 11 for channel `n` (R521). -/
def State.chargeDma (s : State) (n cost : Nat) : State :=
  let s1 := s.charge 11 cost
  if s.dmaHostOwned n then { s1 with tint := { s1.tint with askedHost := s1.tint.askedHost + cost } } else s1

/-- Read a line of a space; host lines come with the command. None where DRAM gives no valid data. -/
def State.dmaRead (s : State) (sp a : Nat) (host : List Byte) : Option (List Byte) :=
  match sp with
  | 0 => some host
  | 1 => if s.rangePoisoned (hdmBase + a) 64 then none else some (s.hdmRead a 64)
  | 2 =>
    if s.rangePoisoned (s.poolBase + 4160 * (a / 4096) + a % 4096) 64 then none
    else some (slice (s.tileAt (a / 4096)) (a % 4096) 64)
  | _ => if s.rangePoisoned a 64 then none else some ((List.range 64).map (fun i => s.devByte (a + i)))

/-- Write a full line to a space. The last line of a 4,096 B element of tile data brings the CRC-64 of the trailer (R370,
R522). -/
def State.dmaWrite (s : State) (sp a : Nat) (big : Bool) (bs : List Byte) : State :=
  match sp with
  | 0 => s.emit (.hostWrite a bs)
  | 1 => s.hdmWrite a bs
  | 2 =>
    let slot := a / 4096
    let s1 := s.patchTile slot (a % 4096) bs
    if big && a % 4096 = 4032 then s1.patchTile slot 4096 (leBytes 8 (crc64 (tileData (s1.tileAt slot))).toNat) else s1
  | _ =>
    if s.regionOf a = some 5 then s.patchTile ((a - s.poolBase) / 4160) ((a - s.poolBase) % 4160) bs
    else (s.initFor (a / 64)).dramWrite a bs

/-- The bytes of line `l` in what a command carries for an operand, whose first line is `r.line`. -/
def DmaRun.host (r : DmaRun) (bytes : List Byte) (l : Nat) : List Byte := slice bytes (64 * (l - r.line)) 64

/-- Tokens of class 11 that an access to a line costs: host space costs none (R521). -/
def lineCost (a : Nat × Nat) : Nat := if a.1 = 0 then 0 else 1

/-- The line that a copy or a fill writes as line `l`, once its source has been made coherent; none where that gives no valid data. -/
def State.dmaLine (s : State) (r : DmaRun) (x : DmaData) (l : Nat) : Option (List Byte) :=
  if r.par.op = 1 then some ((List.replicate 8 (leBytes 8 r.par.fill)).flatten)
  else
    let a := r.par.at false l
    let s1 := if a.1 = 1 then s.obtainLine x.held (a.2 / 64) else s
    s1.dmaRead a.1 a.2 (r.host x.src l)

/-- An access to host space is refused: Bus Master Enable clear, or the stream's traffic discarded (R406, R530). -/
def State.dmaRefused (s : State) (a : Nat × Nat) : Bool := a.1 = 0 && (!s.cxc.bme || s.cxc.ioKeys = 3)

/-- Copy or fill `n` lines from line `l` on; a refused access halts the channel, and so does a source line without valid data halts the channel (R530). Answers whether it goes
on. -/
def State.dmaMove (n : Nat) (s : State) (r : DmaRun) (x : DmaData) (l : Nat) : State × Bool :=
  match n with
  | 0 => (s, true)
  | k + 1 =>
    if r.par.op != 1 && s.dmaRefused (r.par.at false l) then (s.dmaHalt r l false 3, false)
    else if s.dmaRefused (r.par.at true l) then (s.dmaHalt r l true 3, false)
    else
    let s1 := if r.par.op = 1 then s else s.dmaTouch x.held (r.par.at false l)
    match s.dmaLine r x l with
    | none => (if (s1.dmaRun r.n).isNone then s1 else s1.dmaHalt r l false 1, false)
    | some bs =>
      let d := r.par.at true l
      let cost := lineCost d + (if r.par.op = 1 then 0 else lineCost (r.par.at false l))
      State.dmaMove k ((s1.dmaWrite d.1 d.2 r.par.big bs).chargeDma r.n cost) r x (l + 1)

/-- The tokens of reading both operands of the element at line `l`. -/
def DmaRun.elementCost (r : DmaRun) (l : Nat) : Nat :=
  ((List.range r.par.lines).map (fun i => lineCost (r.par.at false (l + i)) + lineCost (r.par.at true (l + i)))).sum

/-- The window's lines of the element at line `l` with what the host has written back. -/
def State.obtainElement (s : State) (r : DmaRun) (x : DmaData) (l : Nat) : State :=
  (List.range r.par.lines).foldl (fun t i => [r.par.at false (l + i), r.par.at true (l + i)].foldl (fun (u : State) a =>
    if a.1 = 1 then u.obtainLine x.held (a.2 / 64) else u) t) s

/-- The reads of both operands of the element at line `l`, with their tokens. -/
def State.dmaReads (s : State) (r : DmaRun) (x : DmaData) (l : Nat) : State :=
  ((List.range r.par.lines).foldl (fun t i => (t.dmaTouch x.held (r.par.at false (l + i))).dmaTouch x.held (r.par.at true (l + i))) s).chargeDma
    r.n (r.elementCost l)

/-- Lines of an operand's element from line `l` on, `n` of them, or the line that gives no valid data. -/
def State.elementBytes (s : State) (r : DmaRun) (onDst : Bool) (host : List Byte) (l n : Nat) : List Byte × Option Nat :=
  match n with
  | 0 => ([], none)
  | k + 1 =>
    let a := r.par.at onDst l
    match s.dmaRead a.1 a.2 (r.host host l) with
    | none => ([], some l)
    | some bs =>
      let rest := s.elementBytes r onDst host (l + 1) k
      (bs ++ rest.1, rest.2)

/-- With CHECK, the tile-data operands of the element at line `l` whose CRC-64 fails: their slots (R529). -/
def State.tileCheckFails (s : State) (r : DmaRun) (l : Nat) : List Nat :=
  if !r.par.check then []
  else [r.par.at false l, r.par.at true l].filterMap (fun a =>
    if a.1 = 2 && !tileCrcOk (slice (s.tileAt (a.2 / 4096)) 0 4128) then some (a.2 / 4096) else none)

/-- The first position at which two byte lists differ. -/
def firstDiff (a b : List Byte) (i : Nat) : Option Nat :=
  match a, b with
  | x :: t, y :: u => if x = y then firstDiff t u (i + 1) else some i
  | _, _ => none

/-- A compare ends at the element at line `l` with code 6 or 7: indices and offset are latched (R529). -/
def State.dmaDiffers (s : State) (r : DmaRun) (l off code : Nat) : State :=
  let s1 := (s.dmaIndices r l).setPair (Fld.DMA_CMPOFF_LO_V r.n) (Fld.DMA_CMPOFF_HI_V r.n) off
  (s1.dropRun r.n).dmaEnd r.n 2 code

/-- Compare `n` elements from line `l` on (R529). -/
def State.dmaCompare (n : Nat) (s : State) (r : DmaRun) (x : DmaData) (l : Nat) : State × Bool :=
  match n with
  | 0 => (s, true)
  | k + 1 =>
    match (List.range r.par.lines).find? (fun i => s.dmaRefused (r.par.at false (l + i)) || s.dmaRefused (r.par.at true (l + i))) with
    | some i => (s.dmaHalt r (l + i) (!s.dmaRefused (r.par.at false (l + i))) 3, false)
    | none =>
    let c := s.obtainElement r x l
    let a := c.elementBytes r false x.src l r.par.lines
    let b := c.elementBytes r true x.dst l r.par.lines
    let s := s.dmaReads r x l
    match a.2, b.2 with
    | some y, _ => (if (s.dmaRun r.n).isNone then s else s.dmaHalt r y false 1, false)
    | _, some y => (if (s.dmaRun r.n).isNone then s else s.dmaHalt r y true 1, false)
    | none, none =>
      let bad := s.tileCheckFails r l
      if !bad.isEmpty then ((bad.eraseDups.foldl (fun t y => t.tileFails y) s).dmaDiffers r l (64 * l) 7, false)
      else match firstDiff a.1 b.1 0 with
        | some i => (s.dmaDiffers r l (64 * l + i) 6, false)
        | none => State.dmaCompare k s r x (l + r.par.lines)

/-- Process lines from where the channel stands up to line `stop`; a compare takes whole elements. Answers whether it goes on.
-/
def State.dmaUpTo (s : State) (r : DmaRun) (x : DmaData) (stop : Nat) : State × Bool :=
  let n := min stop r.par.total - r.line
  if r.par.op = 2 then s.dmaCompare (n / r.par.lines) r x r.line else s.dmaMove n r x r.line

/-- Lines written ahead of their turn when the channel stopped: counted from the start of the latched element, less than 4,096 B
further on (R530). -/
def State.dmaPartly (s : State) (r : DmaRun) (x : DmaData) (first : Nat) (more : List Nat) : State :=
  if r.par.op = 2 then s
  else (more.filter (fun i => i < 64 && first + i < r.par.total)).foldl (fun t i =>
    match t.dmaLine r x (first + i) with
    | some bs => let d := r.par.at true (first + i)
                 (t.dmaWrite d.1 d.2 r.par.big bs).chargeDma r.n (lineCost d)
    | none => t) s

-- ---------------------------------------------------------------------------------------------------------------
-- Commands

/-- A list in memory: bytes the command carries for a host-owned channel, device memory for firmware's (R525). -/
def State.dmaList (s : State) (n addr cnt : Nat) (host : List Byte) : List Byte :=
  if s.dmaHostOwned n then slice host 0 (16 * cnt) else (List.range (16 * cnt)).map (fun i => s.devByte (addr + i))

/-- A list can be read: 1 to 256 entries, and in memory that answers (R525). -/
def State.dmaListOk (s : State) (n addr cnt : Nat) (ok : Bool) : Bool :=
  1 ≤ cnt && cnt ≤ 256 && ok
    && (if s.dmaHostOwned n then s.cxc.bme && !s.ownSpace addr (16 * cnt)
        else addr + 16 * cnt ≤ s.dramSize && !s.rangePoisoned addr (16 * cnt))

/-- GO on channel `n` (R526): `srcL` and `dstL` are the lists that a host-owned channel finds in host memory. -/
def execDmaGo (n : Nat) (srcL dstL : List Byte) (listsOk : Bool) (s : State) : Res :=
  let st := s.getF (Fld.DMA_STAT_STATE n)
  .next (if n ≥ 32 || st = 1 || st = 4 || s.getF (Fld.DMA_CTL_OP n) = 3 then s
    else
      let p0 := s.dmaPar n [] []
      let sn := s.getF (Fld.DMA_SG_SNENT n)
      let dn := s.getF (Fld.DMA_SG_DNENT n)
      -- the lists of a firmware channel are read from device memory, errors and all (R358, R361)
      let t := if !p0.sg || s.dmaHostOwned n then s
               else (if p0.op = 1 then s else s.readLines p0.src (16 * min sn 256)).readLines p0.dst (16 * min dn 256)
      if s.boot.slateDone && !t.boot.slateDone then t else
      let s := t
      let sb := s.dmaList n p0.src sn srcL
      let db := s.dmaList n p0.dst dn dstL
      let ok := (p0.op = 1 || (s.dmaListOk n p0.src sn listsOk && !listBad sb sn)) && s.dmaListOk n p0.dst dn listsOk
        && !listBad db dn
      let p := if p0.sg then s.dmaPar n (if p0.op = 1 then [] else sglPieces sb sn) (sglPieces db dn) else p0
      let code := s.dmaCheck n p ok
      let lists := if p0.sg && !s.dmaHostOwned n then linesOf (16 * sn) + linesOf (16 * dn) else 0
      let s := s.chargeDma n lists
      if code != 0 then s.dmaEnd n 3 code else (s.setRun ⟨n, p, 0⟩).dmaState n 1 0)

/-- The transfer of channel `n` runs to its end; `x` holds what host memory gave for the lines still to come. -/
def execDmaDone (n : Nat) (x : DmaData) (s : State) : Res :=
  .next (match s.dmaRun n with
    | none => s
    | some r =>
      if s.getF (Fld.DMA_STAT_STATE n) != 1 then s
      else
        let t := s.dmaUpTo r x r.par.total
        if t.2 then (t.1.dropRun n).dmaEnd n 2 0 else t.1)

/-- A transfer of channel `n` meets a bus error on line `l`, of the destination or the source; `more` are lines written ahead. -/
def State.dmaFails (s : State) (n l : Nat) (onDst : Bool) (cause : Nat) (x : DmaData) (more : List Nat) : State :=
  match s.dmaRun n with
  | none => s
  | some r =>
    if s.getF (Fld.DMA_STAT_STATE n) != 1 || l < r.line || l ≥ r.par.total then s
    else
      let first := l / r.par.lines * r.par.lines
      let t := s.dmaUpTo r x first
      if t.2 then (t.1.dmaPartly r x first more).dmaHalt r l onDst cause else t.1

def execDmaHalt (n l : Nat) (onDst : Bool) (cause : Nat) (x : DmaData) (more : List Nat) (s : State) : Res :=
  .next (s.dmaFails n l onDst cause x more)

/-- ABORT on channel `n` (R531): a busy channel stops before line `l`, with a bus error in that line latched (R534); a halted one
ends at once. -/
def execDmaAbort (n l : Nat) (x : DmaData) (error : Option (Bool × Nat)) (s : State) : Res :=
  let st := s.getF (Fld.DMA_STAT_STATE n)
  .next (match s.dmaRun n with
    | none => s
    | some r =>
      if st = 4 then (s.dropRun n).dmaEnd n 5 9
      else if st != 1 then s
      else
        let t := s.dmaUpTo r x (max l r.line)
        if !t.2 then (if t.1.getF (Fld.DMA_STAT_STATE n) = 4 then (t.1.dropRun n).dmaEnd n 5 9 else t.1)
        else
          let s1 := match error with
            | some (onDst, cause) => t.1.dmaHalt r (max l r.line) onDst cause
            | none => t.1
          (s1.dropRun n).dmaEnd n 5 9)

/-- RESUME on channel `n`: from the latched element, in the halted state only (R531). -/
def execDmaResume (n : Nat) (s : State) : Res :=
  .next (if (s.dmaRun n).isSome && s.getF (Fld.DMA_STAT_STATE n) = 4 then s.dmaState n 1 0 else s)

/-- A busy channel has issued no line for 100 ms with tokens available (R536). -/
def execDmaStall (n : Nat) (s : State) : Res :=
  .next (if n < 32 && s.getF (Fld.DMA_STAT_STATE n) = 1 then s.raise 146 0 0 else s)

/-- A CXL.io read times out (R409): source 372, and the channel that issued it halts on line `l`. -/
def execCompletionTimeout (ch : Option Nat) (l : Nat) (onDst : Bool) (x : DmaData) (more : List Nat) (s : State) : Res :=
  let s1 := match ch with
    | some n => s.dmaFails n l onDst 0 x more
    | none => s
  .next ((s1.stat 0x8300 6 1).raise 372 0 0)

/-- A poisoned completion or CXL.cache return (R410): never used as data; source 374, the RAS status where CXL.cache brought it,
and the channel that asked for it halts. -/
def execPoisonReceived (cache : Bool) (ch : Option Nat) (l : Nat) (onDst : Bool) (x : DmaData) (more : List Nat) (s : State) : Res :=
  let s1 := if cache then { s with cxc := { s.cxc with rasCorr := s.cxc.rasCorr ||| 16 } } else s
  let s2 := match ch with
    | some n => s1.dmaFails n l onDst 1 x more
    | none => s1
  .next (s2.raise 374 0 0)

end Sys2Proof.Machine
end

