-- ==== Sys2Proof/Machine/Cxl.lean ====
section
/-!
DEFINITION. CXL: link, resets from the host, configuration space, the HDM decoder, doorbells, MSI-X masks, IDE, D3hot
(R380 to R416, R427, R708 to R710).
Choices: assumption log 34, 35, 37, 38.
-/
namespace Sys2Proof.Machine
open Sys2Proof

-- ---------------------------------------------------------------------------------------------------------------
-- Traffic that waited (R399, R413, R434)

/-- Signal the vectors whose pending bit stands and that are unmasked now (R399). -/
def State.flushVectors (s : State) : State :=
  let can (v : Nat) : Bool := s.cxc.msixEn && !s.cxc.msixMask && !(msixEntry s.evt.table v).masked && s.cxc.bme && !s.cxc.d3
  let go := s.evt.pba.filter can
  let s1 := { s with evt := { s.evt with pba := s.evt.pba.filter (fun v => !can v) } }
  go.foldl (fun t v => t.signalVector v) s1

/-- Host writes that waited proceed in their order, then completions, then messages (R400, R413, R434). -/
def State.hostResume (s : State) : State :=
  let s1 := if s.canUseIo then
      s.cxc.heldWrites.foldl (fun t w => t.emit (.hostWrite w.1 w.2)) { s with cxc := { s.cxc with heldWrites := [] } }
    else s
  s1.pumpAll.settleResets.flushVectors

-- ---------------------------------------------------------------------------------------------------------------
-- Link (R382 to R386, R398, R709)

/-- The highest of `l` not above `cap`, else its last. -/
def highestOf (l : List Nat) (cap : Nat) : Nat := (l.find? (fun x => x ≤ cap)).getD (l.getLastD 0)

/-- Training ends in DL_Active with what the host offers: width, rate code, CXL negotiated. `presets` are the transmitter presets that
equalisation at the trained rate has asked of the lanes: P0 to P10 are supported, any other request leaves a lane as it was (R384). -/
def execLinkTraining (width rate : Nat) (cxl : Bool) (presets : List Nat) (s : State) : Res :=
  .next (if s.cxc.perstLow || s.boot.slateStep < 9 || (s.tst.loop && s.getF Fld.TST_LBCTL_IF = 0 && s.getF Fld.TST_LBCTL_DEPTH != 3) then s
    else
      let s0 := (s.applyEntry 0x5800 1).applyEntry 0x5800 2
      let w := highestOf [8, 4, 2, 1] (min width (s0.getF Fld.CXC_LINKCAP_MAXWIDTH))
      let r := highestOf [5, 4, 3, 1] (min rate (s0.getF Fld.CXC_LINKCAP_MAXRATE))
      let mode := cxl && r ≥ 3
      let s1 := (((s0.setF Fld.CXC_LINK_LTSSM 0x18).setF Fld.CXC_LINK_UP 1).setF Fld.CXC_LINK_CXL (b2n mode)).setF
        Fld.CXC_LINK_CACHE (b2n mode)
      let s2 := ((s1.setF Fld.CXC_LINK_MEM (b2n (mode && s.hdmSize != 0))).setF Fld.CXC_LINK_WIDTH w).setF
        Fld.CXC_LINK_RATE r
      let s3 := { s2.stat 0x8300 1 1 with cxc := { s2.cxc with
        prevLink := some (b2n mode, w, r),
        presets := if r < 3 then s2.cxc.presets
          else (List.range w).map (fun i => if presets.getD i 11 ≤ 10 then presets.getD i 11 else s2.cxc.presets.getD i 0) } }
      let s4 := if mode || s.cxc.prevLink != some (0, w, r) then s3.event 576 0 else s3
      match s.cxc.prevLink with
      | some (_, pw, pr) => if w < pw || r < pr then s4.raise 375 0 0 else s4
      | none => s4)

/-- DL_Active is lost: the Host domain resets as for PERST_N, and source 368 is raised (R385, R415). -/
def execSurpriseLinkDown (s : State) : Res :=
  .next (if s.isSet Fld.CXC_LINK_UP then
      (((s.setF Fld.PLT_RSTCAUSE_PERST 1).stat 0x8300 4 1).hostReset true).raise 368 0 0
    else s)

/-- A hot reset from the host (R385). -/
def execHotReset (s : State) : Res :=
  .next (if s.isSet Fld.CXC_LINK_UP then (s.setF Fld.PLT_RSTCAUSE_PERST 1).hostReset true else s)

/-- PERST_N is asserted (R79, R404). -/
def execPerstNAssert (s : State) : Res :=
  .next (if s.cxc.perstLow then s
    else ({ s.setF Fld.PLT_RSTCAUSE_PERST 1 with cxc := { s.cxc with perstLow := true } }).hostReset true)

/-- PERST_N is deasserted: link training may begin, or begins at Slate step 9 (R411). -/
def execPerstNDeassert (s : State) : Res := .next { s with cxc := { s.cxc with perstLow := false } }

/-- A function-level reset (R708); one that meets a CXL reset is part of it (R414). -/
def State.flr (s : State) : State := ((s.setF Fld.PLT_RSTCAUSE_FLR 1).functionReset)

def execFunctionLevelReset (s : State) : Res := .next (if s.isSet Fld.CXC_LINK_UP then s.flr else s)

/-- A CXL reset (R412): CXL Reset Complete is set once the window is reinitialised. -/
def State.cxlReset (s : State) : State :=
  let s1 := (s.setF Fld.PLT_RSTCAUSE_CXL_RESET 1).hostReset false
  let s2 := { s1 with cxc := { s1.cxc with resetRunning := true } }
  if s2.bmc.hdmLeft.isEmpty then s2.cxlResetComplete else s2

def execCxlReset (s : State) : Res := .next (if s.isSet Fld.CXC_LINK_UP then s.cxlReset else s)

/-- Entry to D3hot stops fetching and holds what would be written to host memory (R413). -/
def State.toD3 (s : State) : State :=
  let s1 := if s.isSet Fld.CXC_LINK_UP then s.setF Fld.CXC_LINK_LTSSM 0x19 else s
  { s1 with cxc := { s1.cxc with d3 := true } }

/-- Return to D0: what was held goes out (R413). -/
def State.toD0 (s : State) : State :=
  let s1 := if s.isSet Fld.CXC_LINK_UP then s.setF Fld.CXC_LINK_LTSSM 0x18 else s
  if s.cxc.d3 then ({ s1 with cxc := { s1.cxc with d3 := false } }).hostResume else s

def execD3hotEntry (s : State) : Res := .next s.toD3
def execD0Return (s : State) : Res := .next s.toD0

-- ---------------------------------------------------------------------------------------------------------------
-- The HDM decoder (R390, R391)

/-- The decoder is programmed with base and size in bytes, with Lock On Commit, and Commit is written (R390, R391). -/
def State.commitHdm (s : State) (base size : Nat) (lock : Bool) : State :=
  let unit := 256 * mib
  if size > s.hdmSize || size < unit || base % unit != 0 || size % unit != 0 then
    (s.setF Fld.CXC_HDM_ERROR 1).setF Fld.CXC_HDM_COMMITTED 0
  else
    let s1 := ((s.setF Fld.CXC_HDM_ERROR 0).setF Fld.CXC_HDM_COMMITTED 1).setF Fld.CXC_HDM_SIZE (size / unit)
    ((s1.setF Fld.CXC_HDM_LOCKED (b2n lock)).setF Fld.CXC_HDMBASE_BASE (base / unit)).event 579 0

/-- HDM_COMMIT: base and size, Lock On Commit and Commit are written. A locked decoder ignores it (R391). -/
def execHdmCommit (base size : Nat) (lock : Bool) (s : State) : Res :=
  .next (if s.isSet Fld.CXC_HDM_LOCKED then s
    else
      let low (v : Nat) : Nat := v % 2 ^ 32
      ({ s with cxc := { s.cxc with
          hdmRegs := [low base, low (base / 2 ^ 32), low size, low (size / 2 ^ 32), 0x200 + 0x100 * b2n lock] } }).commitHdm base size lock)

-- ---------------------------------------------------------------------------------------------------------------
-- Doorbells and vectors (R394, R399, R427)

/-- BAR0 to BAR5 answer: memory space enabled, the function in D0. -/
def State.barsOn (s : State) : Bool := s.isSet Fld.CXC_LINK_UP && s.cxc.memEn && !s.cxc.d3

/-- A write of `width` bytes at `off` in BAR2: 4 B or 8 B, naturally aligned, else discarded; `mb` is the TAIL in the mailbox of
a queue whose mailbox is unplaced, which is read too (R427, R503). -/
def execDoorbellWrite (off width data : Nat) (mb : Option Nat) (s : State) : Res :=
  .next (if s.barsOn && off < 8 * mib && (width = 4 || width = 8) && off % width = 0 then
      let q := off / 8
      let s1 := if off % 8 = 0 then s.takeTail q (data % 64) else s
      s1.pollMailbox q mb
    else s)

/-- Replace an entry of the MSI-X table, rising by vector; one at its reset content is not listed. -/
def putMsix (t : List Msix) (e : Msix) : List Msix :=
  let rest := t.filter (fun x => x.vector != e.vector)
  if e = ⟨e.vector, 0, 0, true⟩ then rest
  else rest.filter (fun x => x.vector < e.vector) ++ [e] ++ rest.filter (fun x => x.vector > e.vector)

/-- Vector `v` is unmasked: its pending message goes (R399). -/
def execMsixUnmask (v : Nat) (s : State) : Res :=
  .next (if v < 512 then
      let e : Msix := { msixEntry s.evt.table v with masked := false }
      ({ s with evt := { s.evt with table := putMsix s.evt.table e } }).flushVectors
    else s)

-- ---------------------------------------------------------------------------------------------------------------
-- IDE (R402 to R406)

/-- Keys of a stream: 0 the CXL.io stream, 1 the CXL.cachemem stream. -/
def State.keys (s : State) (stream : Nat) : Nat := if stream = 0 then s.cxc.ioKeys else s.cxc.cmKeys

/-- The stream's keys become `v`; CXC_IDE and KEY_STATUS follow. -/
def State.setKeys (s : State) (stream v : Nat) : State :=
  let loaded := if v = 0 then 0 else 3
  if stream = 0 then
    (({ s with cxc := { s.cxc with ioKeys := v } }).setF Fld.CXC_IDE_IO_SECURE (b2n (v = 2))).setF
      ⟨Fld.KEY_STATUS_IDE.addr, 5, 4⟩ loaded
  else
    (({ s with cxc := { s.cxc with cmKeys := v } }).setF Fld.CXC_IDE_CM_SECURE (b2n (v = 2))).setF
      ⟨Fld.KEY_STATUS_IDE.addr, 7, 6⟩ loaded

/-- An IDE_KM message in an SPDM session: 0 programs the keys of a stream, 1 sets it Secure, 2 sets it Insecure. `skid` is the
mode the host selects for CXL.cachemem. Fresh keys for a Secure stream are a refresh (R403). -/
def execIdeKmMessage (stream action : Nat) (skid : Bool) (s : State) : Res :=
  let k := s.keys stream
  .next (if !s.cxc.spdm || stream > 1 || !s.isSet Fld.CXC_LINK_UP then s
    else match action with
      | 0 =>
        let s1 := if k = 2 then s else s.setKeys stream 1
        if stream = 1 && k != 2 then s1.setF Fld.CXC_IDE_CM_MODE (b2n skid) else s1
      | 1 => if k = 1 then (s.setKeys stream 2).event 577 0 else s
      | 2 => if k = 2 then (s.setKeys stream 1).event 578 0 else s
      | _ => s)

/-- A stream fails its integrity check (R406, R407): Insecure until it has new keys, its traffic discarded; `flit` is the flit or
TLP that failed. -/
def execIdeIntegrityFail (stream : Nat) (flit : List Byte) (s : State) : Res :=
  .next (if stream > 1 || s.keys stream != 2 then s
    else
      let s1 := (((s.setKeys stream 3).setF Fld.CXC_IDE_FAILED 1).stat 0x8300 5 1).event 578 0
      let s2 := if stream = 1 then
          ({ s1 with cxc := { s1.cxc with rasLog := if s1.cxc.rasLog.isEmpty then flit else s1.cxc.rasLog } }).cxlFatal 16
        else s1
      s2.raise 371 0 0)

-- ---------------------------------------------------------------------------------------------------------------
-- Configuration space (R387 to R389, R710)

/-- Four bytes of the drive identity, zero before the drive is formatted (R387). -/
def State.serialWord (s : State) (i : Nat) : Nat :=
  match s.media.drive with
  | some d => numAt d.driveId (4 * i) 4
  | none => 0

/-- Extended capabilities: offset, identifier, version, next (R388, R710). -/
def extCaps : List (Nat × Nat × Nat × Nat) := [(0x100, 0x0001, 2, 0x148), (0x148, 0x0003, 1, 0x158),
  (0x158, 0x0019, 1, 0x170), (0x170, 0x0026, 1, 0x1A0), (0x1A0, 0x002A, 1, 0x1D0), (0x1D0, 0x0027, 1, 0x200),
  (0x200, 0x002E, 1, 0x230), (0x230, 0x0030, 1, 0x300), (0x300, 0x0023, 1, 0x340), (0x340, 0x0023, 1, 0x380),
  (0x380, 0x0023, 1, 0)]

/-- The capability word of the DVSEC for CXL devices (R389). -/
def State.cxlCaps (s : State) : Nat :=
  let m := b2n (s.hdmSize != 0)
  3 + 4 * m + 16 * m + 64 + 128 + 2 * 256 + 16384

/-- Equalisation has been completed at rate code `r`: the link has trained to it or above (R384). -/
def State.equalised (s : State) (r : Nat) : Bool := s.isSet Fld.CXC_LINK_UP && decide (s.getF Fld.CXC_LINK_RATE ≥ r)

/-- Transmitter presets of four lanes from `i` on, one byte each, as the capability of rate code `r` shows them: those in force while
the link runs at that rate (R384). -/
def State.lanePresets (s : State) (r i : Nat) : Nat :=
  if s.isSet Fld.CXC_LINK_UP && s.getF Fld.CXC_LINK_RATE = r then
    ((List.range 4).map (fun j => 256 ^ j * (16 * s.cxc.presets.getD (i + j) 0))).sum
  else 0

/-- A double word of configuration space at a multiple of 4, without the bits that `cxc.cfg` holds. Fields whose place the spec
leaves to PCI Express and CXL 2.0 follow them (assumption log 34). -/
def State.cfgFixed (s : State) (off : Nat) : Nat :=
  match extCaps.find? (fun c => c.1 == off) with
  | some c => c.2.1 + 2 ^ 16 * c.2.2.1 + 2 ^ 20 * c.2.2.2
  | none =>
    match off with
    | 0x00 => 0x04801FD4
    | 0x04 => 0x00100000 + 2 * b2n s.cxc.memEn + 4 * b2n s.cxc.bme
    | 0x08 => 0x018000B0
    | 0x10 | 0x18 | 0x20 => 4
    | 0x2C => s.dictNum 0x1018 4 + 2 ^ 16 * s.dictNum 0x1018 5
    | 0x34 => 0x40
    | 0x40 => 0x00035001
    | 0x44 => 8 + (if s.cxc.d3 then 3 else 0)
    | 0x50 => 0x01FF7011 + 2 ^ 30 * b2n s.cxc.msixMask + 2 ^ 31 * b2n s.cxc.msixEn
    | 0x54 => 0x00000004
    | 0x58 => 0x00008004
    | 0x70 => 0x00020010
    | 0x74 => 0x10008022
    | 0x7C => 0x00400885
    | 0x80 => 2 ^ 16 * s.getF Fld.CXC_LINK_RATE + 2 ^ 20 * s.getF Fld.CXC_LINK_WIDTH
    | 0x94 => 0x00030017
    | 0x9C => 0x0000003A
    | 0xA0 => if s.equalised 3 then 0x001E0000 else 0
    | 0x14C => s.serialWord 0
    | 0x150 => s.serialWord 1
    | 0x164 | 0x168 | 0x16C => if s.isSet Fld.CXC_LINK_UP && s.getF Fld.CXC_LINK_RATE = 3 then
        let i := (off - 0x164) / 2
        2 ^ 8 * s.cxc.presets.getD i 0 + 2 ^ 24 * s.cxc.presets.getD (i + 1) 0
      else 0
    | 0x17C => if s.equalised 4 then 0xF else 0
    | 0x190 => s.lanePresets 4 0
    | 0x194 => s.lanePresets 4 4
    | 0x1AC => if s.equalised 5 then 0xF else 0
    | 0x1C0 => s.lanePresets 5 0
    | 0x1C4 => s.lanePresets 5 4
    | 0x1D4 => if s.equalised 4 then 2 ^ 16 else 0
    | 0x234 => 0x41
    | 0x240 => 2 * b2n (s.isSet Fld.CXC_IDE_IO_SECURE) + 2 ^ 31 * b2n (s.cxc.ioKeys = 3)
    | 0x304 => 0x03811E98
    | 0x308 => 2 ^ 16 * s.cxlCaps
    | 0x30C => 2
    | 0x314 => 0x40010000
    | 0x318 => s.hdmSize / 2 ^ 32
    | 0x31C => if s.hdmSize = 0 then 0 else
        s.hdmSize % 2 ^ 32 + 2 * b2n (s.isSet Fld.BMC_STATUS_HDM_READY) + b2n (s.boot.slateStep ≥ 9)
    | 0x344 => 0x02011E98
    | 0x348 => 0x00070007
    | 0x34C => (b2n (s.isSet Fld.CXC_LINK_CACHE) + 2 * b2n (s.isSet Fld.CXC_LINK_CXL) + 4 * b2n (s.isSet Fld.CXC_LINK_MEM))
        * 2 ^ 16
    | 0x384 => 0x01401E98
    | 0x388 => 0x00000008
    | 0x38C => 0x04010100
    | _ => 0

/-- Bits of a double word that `cxc.cfg` holds beside its writable ones: status that hardware sets. -/
def cfgHeld (off : Nat) : Nat :=
  match off with
  | 0x104 | 0x110 => 0xFFFFFFFF
  | 0x310 => 0x00030001
  | 0x1D8 | 0x1DC | 0x1E0 | 0x1E4 | 0x1E8 | 0x1EC | 0x1F0 | 0x1F4 => 0xFFFF0000
  | _ => 0

/-- Bits of a double word that a configuration write changes, and that `cxc.cfg` then holds. -/
def cfgWritable (off : Nat) : Nat :=
  match off with
  | 0x04 => 0x0540
  | 0x0C => 0xFF
  | 0x10 => 0xF0000000
  | 0x18 => 0xFF800000
  | 0x20 => 0xFFFF0000
  | 0x14 | 0x1C | 0x24 => 0xFFFFFFFF
  | 0x3C => 0xFF
  | 0x78 => 0x7FFF
  | 0x80 => 0x0FFF
  | 0x98 => 0x101F
  | 0xA0 => 0x000F
  | 0x108 | 0x10C | 0x114 => 0xFFFFFFFF
  | 0x118 => 0x00000140
  | 0x23C => 0xFF000001
  | 0x30C => 0x5FFD
  | 0x314 => 0x0001
  | 0x1D8 | 0x1DC | 0x1E0 | 0x1E4 | 0x1E8 | 0x1EC | 0x1F0 | 0x1F4 => 0xFF7F
  | 0x320 => 0xFFFFFFFF
  | 0x324 => 0xF0000000
  | _ => 0

/-- Reset value of the writable bits where it is not zero (assumption log 34). -/
def cfgReset (off : Nat) : Nat :=
  match off with
  | 0x78 => 0x2810
  | 0xA0 => 0x0005
  | 0x10C => 0x00462030
  | 0x114 => 0x0000E000
  | 0x1D8 | 0x1DC | 0x1E0 | 0x1E4 | 0x1E8 | 0x1EC | 0x1F0 | 0x1F4 => 0x9C38
  | _ => 0

/-- Byte `i` of configuration space. -/
def State.cfgByte (s : State) (i : Nat) : Byte :=
  let off := i / 4 * 4
  let sh := 2 ^ (8 * (i % 4))
  let m := BitVec.ofNat 8 ((cfgHeld off ||| cfgWritable off) / sh)
  let held := (Assoc.find s.cxc.cfg i).getD (BitVec.ofNat 8 (cfgReset off / sh))
  (BitVec.ofNat 8 (s.cfgFixed off / sh) &&& ~~~m) ||| (held &&& m)

/-- Write byte `i`: its writable bits; a 1 clears a status bit of advanced error reporting. -/
def State.cfgPut (s : State) (i : Nat) (b : Byte) : State :=
  let off := i / 4 * 4
  let sh := 2 ^ (8 * (i % 4))
  let w := BitVec.ofNat 8 (cfgWritable off / sh)
  let base := BitVec.ofNat 8 (cfgReset off / sh)
  let held := (Assoc.find s.cxc.cfg i).getD base
  let v := if off = 0x104 || off = 0x110 then held &&& ~~~b else (held &&& ~~~w) ||| (b &&& w)
  { s with cxc := { s.cxc with cfg := if v = base then Assoc.del s.cxc.cfg i else Assoc.put s.cxc.cfg i v } }

/-- A margining command stands in the control word of the lane at `off`: its status shows the command's receiver and type, with a
payload of the receiver's, which the spec does not state; the command that asks for nothing clears the status (R384; assumption
log 34). -/
def State.margin (s : State) (off : Nat) : State :=
  if !s.equalised 4 then s
  else
    let c := (s.cfgByte off).toNat
    let none_ := c % 64 / 8 = 7 && s.cfgByte (off + 1) = 0x9C
    let put (t : State) (i : Nat) (b : Byte) : State :=
      { t with cxc := { t.cxc with cfg := if b = 0 then Assoc.del t.cxc.cfg i else Assoc.put t.cxc.cfg i b } }
    if none_ then put (put s (off + 2) 0) (off + 3) 0
    else put (put s.useFree (off + 2) (BitVec.ofNat 8 (c % 128))) (off + 3) (s.freeWord.setWidth 8)

/-- What a write to double word `off` does beside storing bits: `on` says which bits were written, `v` their values; `tails` are
the TAILs of armed mailboxes, read when caching is enabled again. -/
def State.cfgEffect (s : State) (off : Nat) (on : Nat → Bool) (v : Nat) (tails : List (Nat × Option Nat)) : State :=
  let b (i : Nat) (old : Bool) : Bool := if on i then bitOf v i else old
  match off with
  | 0x04 =>
    let s1 := { s with cxc := { s.cxc with memEn := b 1 s.cxc.memEn, bme := b 2 s.cxc.bme } }
    if s1.cxc.bme && !s.cxc.bme then s1.hostResume else s1
  | 0x44 => if !on 0 then s else if v % 4 = 3 then s.toD3 else if v % 4 = 0 then s.toD0 else s
  | 0x50 => ({ s with cxc := { s.cxc with msixMask := b 30 s.cxc.msixMask, msixEn := b 31 s.cxc.msixEn } }).flushVectors
  | 0x78 => if on 15 && bitOf v 15 then s.flr else s
  | 0x310 =>
    if on 2 && bitOf v 2 then s.cxlReset
    else if on 0 && bitOf v 0 && bitOf v 1 then s.hccDisable
    else if on 0 && !bitOf v 0 then s.hccEnable tails
    else s
  | 0x1D8 | 0x1DC | 0x1E0 | 0x1E4 | 0x1E8 | 0x1EC | 0x1F0 | 0x1F4 => if on 0 || on 8 then s.margin off else s
  | _ => s

/-- A configuration request for the double word at `off` with byte enables `be`: a write of `data`, or a read. `ready` says that
the part answers already; until then, and for at most 100 ms, it answers with the configuration retry completion (R64). -/
def execConfigRequest (off be : Nat) (write : Option Nat) (ready : Bool) (tails : List (Nat × Option Nat)) (s : State) : Res :=
  let o := off / 4 * 4
  .next (if s.cxc.perstLow || !s.isSet Fld.CXC_LINK_UP then s
    else if !ready || s.boot.slateStep < 9 then s.emit .configRetry
    else match write with
      | none => s.emit (.completion ((List.range 4).map (fun i => if bitOf be i then s.cfgByte (o + i) else 0)))
      | some v =>
        let s1 := (List.range 4).foldl (fun t i => if bitOf be i then t.cfgPut (o + i) (BitVec.ofNat 8 (v / 2 ^ (8 * i))) else t) s
        (s1.cfgEffect o (fun i => bitOf be (i / 8)) v tails).emit (.completion []))

-- ---------------------------------------------------------------------------------------------------------------
-- Component registers (R388, R390, R391, R408)

/-- A word of the component register block at BAR0 offset 0x0401_0000: the capability array, the RAS capability and the HDM decoder
capability, with the layout of CXL 2.0 (PRESUMED, assumption log 34). -/
def State.componentWord (s : State) (off : Nat) : Nat :=
  let held (i : Nat) : Nat := s.cxc.hdmRegs.getD i 0
  match off with
  | 0x1000 => 0x02110001
  | 0x1004 => 0x10010002
  | 0x1008 => 0x20010005
  | 0x1100 => s.cxc.rasUnc
  | 0x110C => s.cxc.rasCorr
  | 0x1200 => 0
  | 0x1210 => held 0
  | 0x1214 => held 1
  | 0x1218 => held 2
  | 0x121C => held 3
  | 0x1220 => held 4 + 0x400 * b2n (s.isSet Fld.CXC_HDM_COMMITTED) + 0x800 * b2n (s.isSet Fld.CXC_HDM_ERROR)
  | _ => if 0x1118 ≤ off && off < 0x1158 then numAt s.cxc.rasLog (off - 0x1118) 4 else 0

/-- A word of the decoder's registers is written; the control word with Commit set commits what they hold, and with it clear uncommits.
They ignore writes while the decoder is locked (R390, R391). -/
def State.writeDecoder (s : State) (i v : Nat) : State :=
  if s.isSet Fld.CXC_HDM_LOCKED then s
  else
    let v := if i = 4 then v &&& 0x300 else v % 2 ^ 32
    let s1 := { s with cxc := { s.cxc with hdmRegs := s.cxc.hdmRegs.set i v } }
    if i != 4 then s1
    else if bitOf v 9 then
      let g (j : Nat) : Nat := s1.cxc.hdmRegs.getD j 0
      s1.commitHdm (g 0 + 2 ^ 32 * g 1) (g 2 + 2 ^ 32 * g 3) (bitOf v 8)
    else (s1.setF Fld.CXC_HDM_ERROR 0).setF Fld.CXC_HDM_COMMITTED 0

/-- A write of `v` to a word of the block: a 1 clears a status bit of the RAS capability; the decoder's words are those of R390. -/
def State.componentWrite (s : State) (off v : Nat) : State :=
  match off with
  | 0x1210 => s.writeDecoder 0 v
  | 0x1214 => s.writeDecoder 1 v
  | 0x1218 => s.writeDecoder 2 v
  | 0x121C => s.writeDecoder 3 v
  | 0x1220 => s.writeDecoder 4 v
  | 0x1100 => { s with cxc := { s.cxc with rasUnc := s.cxc.rasUnc - (s.cxc.rasUnc &&& v) } }
  | 0x110C => { s with cxc := { s.cxc with rasCorr := s.cxc.rasCorr - (s.cxc.rasCorr &&& v) } }
  | _ => s

/-- The component register block in BAR0 (R388). -/
def componentOffset (a : Nat) : Option Nat := if 0x4010000 ≤ a && a < 0x4020000 then some (a - 0x4010000) else none

-- ---------------------------------------------------------------------------------------------------------------
-- The DOE mailbox (R389, R402)

/-- A CDAT structure: type, length, body; its layout is that of the CDAT specification (assumption log 35). -/
def cdatEntry (type : Nat) (body : List Byte) : List Byte := leBytes 1 type ++ zeros 1 ++ leBytes 2 (4 + body.length) ++ body

/-- A latency or bandwidth entry: what it gives (0 access latency, 4 read and 5 write bandwidth), base unit, value. -/
def cdatPerf (dtype base value : Nat) : List Byte :=
  cdatEntry 1 (leBytes 1 0 ++ leBytes 1 0 ++ leBytes 1 dtype ++ zeros 1 ++ leBytes 8 base ++ leBytes 2 value ++ zeros 6)

/-- The CDAT table: one volatile range of HDM_SIZE, read latency 180 ns, 51.2 GB/s in each direction (R389). -/
def State.cdat (s : State) : List Byte :=
  let body := if s.hdmSize = 0 then [] else
    cdatEntry 0 (leBytes 4 0 ++ leBytes 8 0 ++ leBytes 8 s.hdmSize) ++ cdatPerf 1 1000 180 ++ cdatPerf 4 100 512
      ++ cdatPerf 5 100 512
  let head := leBytes 4 (16 + body.length) ++ leBytes 1 1 ++ zeros 1 ++ zeros 6 ++ leBytes 4 0
  let sum := (head ++ body).foldl (fun a b => (a + b.toNat) % 256) 0
  leBytes 4 (16 + body.length) ++ leBytes 1 1 ++ leBytes 1 (256 - sum) ++ zeros 6 ++ leBytes 4 0 ++ body

/-- The measurements of R402: SVN of the boot loader, digest of the running image, life-cycle state. -/
def State.measurements (s : State) : List Byte :=
  leBytes 4 s.nvc.bootLoaderSvn ++ (match s.imageOf s.nvc.running with | some i => slice i.digest 0 16 | none => zeros 16)
    ++ leBytes 1 s.lifeCycle

/-- A request on the DOE mailbox: 0 authentication, 1 measurements, 2 key exchange, 3 end of session, 4 CDAT. `signed` is what
KEY signs the answer with, which no register reads. A key exchange is refused while the random generator fails (R673). -/
def execSpdmRequest (kind : Nat) (signed : List Byte) (s : State) : Res :=
  .next (if !s.isSet Fld.CXC_LINK_UP || s.boot.slateStep < 9 then s
    else match kind with
      | 0 => s.emit (.doe signed)
      | 1 => s.emit (.doe (s.measurements ++ signed))
      | 2 => if s.lcm.rngBad then s.emit (.doe [])
             else ({ s with cxc := { s.cxc with spdm := true } }).emit (.doe signed)
      | 3 => ({ s with cxc := { s.cxc with spdm := false } }).emit (.doe [])
      | 4 => s.emit (.doe s.cdat)
      | _ => s)

end Sys2Proof.Machine
end

