-- ==== Sys2Proof/Machine/Migration.lean ====
section
/-!
DEFINITION. The migration port: module and link, ICMPv6, sessions, the sender, the receiver, MIGRATE (spec/16, R106, R107).
Choices: assumption log 50 to 52.
-/
namespace Sys2Proof.Machine
open Sys2Proof

-- ---------------------------------------------------------------------------------------------------------------
-- The Ethernet port (R537 to R541, R564, R565)

/-- The link goes down (R538, R88): event 545 tells of it. -/
def State.ethDown (s : State) : State :=
  let up := s.isSet Fld.ETH_STATUS_UP
  let s1 := (s.setF Fld.ETH_STATUS_LOCK 0).setF Fld.ETH_STATUS_UP 0
  if up then s1.event 545 0 else s1

/-- MOD_PRES_N changes; a module that is present has reported `mode` (R538). Without one, or with another mode than the
configured one, the link is down and source 385 is raised. -/
def execModulePresenceChange (present : Bool) (mode : Nat) (s : State) : Res :=
  let s1 := (s.setF Fld.ETH_STATUS_MODPRES (b2n present)).setMig { s.mig with modMode := if present then mode else 0 }
  let s2 := s1.event 546 0
  .next (if present && mode = s2.getF Fld.ETH_CFG_MODE && mode != 0 then s2 else (s2.ethDown).raise 385 0 0)

/-- The PCS brings the link up or loses it (R537): up only in the configured mode, with a module of that mode, the reference within
±300 ppm (R88, R538) and no Ethernet loopback (R669). -/
def execEthLinkChange (up : Bool) (s : State) : Res :=
  let mode := s.getF Fld.ETH_CFG_MODE
  .next (if !up then s.ethDown
    else if s.isSet Fld.ETH_STATUS_MODPRES && s.isSet Fld.ETH_STATUS_REFOK && mode != 0 && s.mig.modMode = mode
        && !s.isSet Fld.ETH_STATUS_UP && !(s.tst.loop && s.getF Fld.TST_LBCTL_IF = 1) then
      ((s.setF Fld.ETH_STATUS_LOCK 1).setF Fld.ETH_STATUS_UP 1).event 544 0
    else s)

/-- The MAC address (R539). -/
def State.mac (s : State) : List Byte := s.dictBytes 0x6000 3

/-- The link-local address formed from the MAC address by modified EUI-64 (R540). -/
def State.linkLocal (s : State) : List Byte :=
  [0xFE, 0x80] ++ zeros 6 ++ [(slice s.mac 0 1).headD 0 ^^^ 0x02] ++ slice s.mac 1 2 ++ [0xFF, 0xFE] ++ slice s.mac 3 3

/-- The part's own addresses: the global one only when its entry is not all zeros (R540). -/
def State.ownAddresses (s : State) : List (List Byte) :=
  let g := s.dictBytes 0x6000 4
  s.linkLocal :: (if g.all (· == 0) then [] else [g])

/-- The solicited-node multicast address of an address. -/
def solicitedNode (a : List Byte) : List Byte := [0xFF, 0x02] ++ zeros 9 ++ [0x01, 0xFF] ++ slice a 13 3

/-- The answer to a neighbour solicitation for an own address (R540): an advertisement with the MAC address. -/
def execNeighborSolicitation (dst target : List Byte) (s : State) : Res :=
  .next (if s.isSet Fld.ETH_STATUS_UP && s.ownAddresses.contains target
      && (s.ownAddresses.contains dst || dst = solicitedNode target) then
    s.emit (.icmp 136 ([0x60, 0, 0, 0] ++ target ++ [2, 1] ++ s.mac))
  else s)

/-- The answer to an echo request to an own address: its identifier, sequence number and data (R540). -/
def execEchoRequest (dst body : List Byte) (s : State) : Res :=
  .next (if s.isSet Fld.ETH_STATUS_UP && s.ownAddresses.contains dst then s.emit (.icmp 129 body) else s)

-- ---------------------------------------------------------------------------------------------------------------
-- Datagrams (R541, R543, R544)

def dSession (d : Dgram) : Nat := numAt d.bytes 8 4
def dPseq (d : Dgram) : Nat := numAt d.bytes 12 4
def dBody (d : Dgram) : List Byte := d.bytes.drop 16

/-- A datagram of type `type` with a body of `n` bytes is taken: the link is up, it is addressed to the part and the port, its
checksum holds, and its header is as R543 states. -/
def State.takes (s : State) (d : Dgram) (type n : Nat) : Bool :=
  s.isSet Fld.ETH_STATUS_UP && s.ownAddresses.contains d.dst && d.port = s.dictNum 0x6000 5 && d.sumOk
    && d.bytes.length = 16 + n && slice d.bytes 0 4 = [0x5A, 0x4D, 0x47, 0x31] && numAt d.bytes 4 1 = type
    && numAt d.bytes 5 1 = 1 && numAt d.bytes 6 2 = n && (dSession d) != 0 && (type = 5 || (dPseq d) = 0)

/-- The part's own DRIVE_ID (R138). -/
def State.driveId (s : State) : List Byte := match s.media.drive with | some d => slice d.driveId 0 16 | none => zeros 16

/-- DRIVE_ID and address of the peer of pairing slot p, and its key (R542). -/
def State.peerId (s : State) (p : Nat) : List Byte := s.dictBytes (0x6100 + p) 1
def State.peerAddr (s : State) (p : Nat) : List Byte := s.dictBytes (0x6100 + p) 2
def State.pairKey (s : State) (p : Nat) : Option (List Byte) := Assoc.find s.nvc.pairKeys p

/-- KS of a session (R545 step 2). -/
def sessionKey (k ns nr : List Byte) : List Byte := hmac256 k (slice ns 0 16 ++ slice nr 0 16)

/-- The MACs of HELLO_ACK (0x52) and CONFIRM (0x53) (R544). -/
def handshakeMac (ks : List Byte) (c : Byte) (sender receiver : List Byte) : List Byte :=
  hmac256 ks (c :: (slice sender 0 16 ++ slice receiver 0 16))

/-- A MAC failed: source 400, event 550 with the slot, AUTHFAIL (R545, R547, R564). -/
def State.authFail (s : State) (p : Nat) : State :=
  ((s.bumpF Fld.MIG_CNT_AUTHFAIL 1).event 550 p).raise 400 0 0

-- ---------------------------------------------------------------------------------------------------------------
-- The sender: its position, its offers, its tiles (R549 to R553, R558)

/-- The sealed versions that a MIGRATE has still to visit from a position on. -/
def State.toMigrate (s : State) (key bits : Nat) (p : Pos) : List Version := s.listing key bits false (some p)

/-- The position a MIGRATE without a cookie starts from: the first of the prefix. -/
def startPos (key bits : Nat) : Pos := ⟨key / 2 ^ (128 - bits) * 2 ^ (128 - bits), 0, true, 0⟩

/-- NEXT for a position: 0 when no matching version remains, else a new cookie (R558). -/
def State.nextAt (s : State) (key bits : Nat) (p : Pos) : State × Nat :=
  if (s.toMigrate key bits p).isEmpty then (s, 0) else (s.newCookie p, s.obj.nextCookie)

/-- The MIGRATE to a peer ends: its session closes, RESULT holds NEXT at `p` (R558, R559). -/
def State.endMigrate (s : State) (t : MigTx) (status : Nat) (p : Pos) (reason : Option Nat) : State :=
  let (s1, n) := s.nextAt t.key t.bits p
  (s1.endTx reason).complete t.qid t.tag status n

/-- Tiles of all segments of a version. -/
def Version.tiles (v : Version) : Nat := v.segs.foldl (fun a g => a + g.tiles) 0

/-- The segment and tile of tile number `i`, in segment order and then tile order (R550). -/
def tileOf (l : List Seg) (i : Nat) : Option (Seg × Nat) :=
  match l with
  | [] => none
  | g :: t => if i < g.tiles then some (g, i) else tileOf t (i - g.tiles)

/-- The 128 bytes of an OFFER without its MAC (R544, R552). -/
def offerBytes (o : MigOffer) : List Byte :=
  let z : Seal := o.v.sealed.getD ⟨0, 0, [], 0, 0, 0⟩
  leBytes 4 o.obj ++ keyBytes o.v.key ++ leBytes 8 o.v.ver ++ leBytes 8 z.size ++ leBytes 8 z.ctime ++ slice z.sha 0 32
    ++ leBytes 4 z.segcount ++ leBytes 1 z.rclass ++ zeros 3 ++ leBytes 8 o.till ++ leBytes 8 o.v.tiles ++ zeros 28

/-- Send the OFFER of an object. -/
def State.sendOffer (s : State) (t : MigTx) (o : MigOffer) : State :=
  let b := offerBytes o
  s.sendMsg t.slot 4 t.session 0 (b ++ hmac256 t.ks b)

/-- Offer the next objects while fewer than 8 are between OFFER and RESULT, MAXOBJ allows it and no ABORT waits (R550). A
version with index damage is not offered. -/
def State.migOffers (n : Nat) (s : State) : State :=
  match n with
  | 0 => s
  | m + 1 =>
    match s.mig.tx with
    | none => s
    | some t =>
      if t.offers.length ≥ 8 || t.abort || (t.limit != 0 && t.taken ≥ t.limit) then s
      else match s.toMigrate t.key t.bits t.next with
        | [] => s
        | v :: _ =>
          if s.damagedVersion v.key v.ver then s
          else
            let till := match v.lock with | some (u, _, _) => u | none => 0
            let o : MigOffer := ⟨t.nextObj, v, till, 0⟩
            let t1 : MigTx := { t with offers := t.offers ++ [o], nextObj := t.nextObj + 1, taken := t.taken + 1,
                                       next := ⟨v.key, v.ver, false, 0⟩ }
            ((s.setMig { s.mig with tx := some t1 }).sendOffer t1 o).migOffers m

/-- The tokens of one tile to send of each of the segments: 65 lines of class 8, and as many of class 4 when it comes from the media
(R553). -/
def State.chargeSend (s : State) (l : List Seg) : State :=
  l.foldl (fun t g => if g.durable then (t.charge 4 65).charge 8 65 else t.charge 8 65) s

/-- Send DATA `pseq` with tile `i` of an object (R553): the tile with its trailer unchanged. A tile that fails ends MIGRATE with
its status; the answer tells whether it was sent. -/
def State.sendTile (s : State) (t : MigTx) (o : MigOffer) (i pseq : Nat) : State × Bool :=
  match tileOf o.v.segs i with
  | none => (s, false)
  | some (g, k) =>
    let (s1, st, b) := (s.chargeSend [g]).readTile o.v g k
    if st != 0 then (s1.endMigrate t st t.back (some 0), false)
    else (s1.sendMsg t.slot 5 t.session pseq (leBytes 4 o.obj ++ leBytes 4 g.num ++ leBytes 2 k ++ zeros 2 ++ b), true)

/-- The read of tile `i` of a version waits for its sector. -/
def State.tileWaits (s : State) (v : Version) (i : Nat) : Bool :=
  match tileOf v.segs i with
  | some (g, k) => g.durable && (match s.tilePsa g k with | some p => s.psaWaits p | none => false)
  | none => false

/-- Send tiles, at most `n`: of the first object with tiles left, with PSEQ below ACKBASE + WINDOW (R549, R550). Tiles on media
out of service are waited for (R31). -/
def State.migTiles (n : Nat) (s : State) : State :=
  match n with
  | 0 => s
  | m + 1 =>
    match s.mig.tx with
    | none => s
    | some t =>
      match t.offers.find? (fun o => o.next < o.v.tiles) with
      | none => s
      | some o =>
        if t.nextSeq ≥ t.ackBase + t.window || s.tileWaits o.v o.next then s
        else
          let (s1, ok) := s.sendTile t o o.next t.nextSeq
          if !ok then s1
          else
            let up (x : MigOffer) : MigOffer := if x.obj = o.obj then { x with next := x.next + 1 } else x
            let t1 : MigTx := { t with offers := t.offers.map up, nextSeq := t.nextSeq + 1,
                                       unacked := t.unacked ++ [(t.nextSeq, o.obj, o.next)] }
            (s1.setMig { s1.mig with tx := some t1 }).migTiles m

/-- With no object between OFFER and RESULT the MIGRATE may be over: cancelled, MAXOBJ reached, nothing left, or at a version
with index damage (R558, R560, R156). -/
def State.migOver (s : State) : State :=
  match s.mig.tx with
  | none => s
  | some t =>
    if !t.offers.isEmpty then s
    else if t.abort then s.endMigrate t St.aborted t.back (some 0)
    else if t.limit != 0 && t.done ≥ t.limit then s.endMigrate t St.success t.back (some 0)
    else match s.toMigrate t.key t.bits t.next with
      | [] => s.endMigrate t St.success t.back (some 0)
      | v :: _ => if s.damagedVersion v.key v.ver then s.endMigrate t St.intIndex t.back (some 0) else s

/-- Migration work comes up: while it is suspended it waits, in order, for the next window (R107). -/
def State.migGate (s : State) (i : Instr) (r : Res) : Res :=
  if s.tint.migSuspended then .next (s.setMig { s.mig with held := s.mig.held ++ [i] }) else r

/-- Resend an unacknowledged DATA (R549); while the read of its tile waits for its sector it is put off (R31). -/
def State.resend (s : State) (pseq : Nat) : State :=
  match s.mig.tx with
  | none => s
  | some t =>
    match t.unacked.find? (fun u => u.1 = pseq) with
    | none => s
    | some u =>
      match t.offers.find? (fun o => o.obj = u.2.1) with
      | none => s
      | some o =>
        if s.tileWaits o.v u.2.2 then s.setMig { s.mig with tx := some { t with late := insertNat pseq t.late } }
        else
          let (s1, ok) := s.sendTile t o u.2.2 pseq
          if ok then s1.bumpF Fld.MIG_CNT_RETX 1 else s1

/-- The DATA put off are sent again, but those that still wait. -/
def State.resendLate (s : State) : State :=
  match s.mig.tx with
  | none => s
  | some t => t.late.foldl State.resend (s.setMig { s.mig with tx := some { t with late := [] } })

/-- The sender goes on with what it may send: while its session runs and migration work is not suspended (R107, R562). -/
def State.migPump (s : State) : State :=
  match s.mig.tx with
  | none => s
  | some t =>
    if t.phase != 2 || s.tint.migSuspended then s
    else ((s.resendLate.migOffers 8).migTiles (t.window + 1)).migOver

-- ---------------------------------------------------------------------------------------------------------------
-- The handshake (R545, R546, R551)

/-- Send a HELLO for a new session, with neighbour discovery for the peer (R540, R545 step 1). Without a random generator in
health no nonce is drawn and no HELLO goes out (R673). -/
def State.sendHello (s : State) (t : MigTx) (session : Nat) (ns : List Byte) (phase : Nat) : State :=
  let none_ := s.lcm.rngBad || session % 2 ^ 32 = 0
  let t1 : MigTx := { t with phase := if none_ then 4 else phase, session := if none_ then 0 else session % 2 ^ 32,
                             ns := slice ns 0 16, ks := [], ackBase := 1, window := 0, nextSeq := 1, unacked := [],
                             late := [], nextObj := 1 }
  let s1 := s.setMig { s.mig with tx := some t1 }
  if none_ then s1
  else
    let a := s1.peerAddr t.slot
    let s2 := if s1.isSet Fld.ETH_STATUS_UP then s1.emit (.icmp 135 (zeros 4 ++ a ++ [1, 1] ++ s1.mac)) else s1
    s2.sendMsg t.slot 1 t1.session 0 (t1.ns ++ s2.driveId)

/-- MIGRATE fields as R557 states them. -/
def migToHost (e : List Byte) : Bool := bitOf (entFlags e) 8
def migFields (e : List Byte) : Bool :=
  let peer := numAt e 40 1
  entFlags e < 512 && entFlags e % 256 ≤ 128 && entVersion e = 0 && entZero e 41 3
    && (if migToHost e then peer = 0 else 1 ≤ peer && peer ≤ 16)

/-- The position a MIGRATE's cookie names; none when the cookie is stale. -/
def State.migStart (s : State) (e : List Byte) : Option Pos :=
  if numAt e 32 8 = 0 then some (startPos (entKey e) (entFlags e % 256))
  else (s.obj.cookies.find? (fun c => c.id == numAt e 32 8)).map (·.pos)

/-- The cookie a MIGRATE named is released (R484, R558). -/
def State.useCookie (s : State) (e : List Byte) : State :=
  { s with obj := { s.obj with cookies := s.obj.cookies.filter (fun c => c.id != numAt e 32 8) } }

/-- Complete a MIGRATE that has not begun, with NEXT at its position (R559). -/
def State.refuseMigrate (s : State) (x : Slot) (status : Nat) (p : Pos) : State :=
  let (s1, n) := s.nextAt (entKey x.entry) (entFlags x.entry % 256) p
  s1.complete x.qid x.tag status n

/-- MIGRATE to a peer, of queue `q` and tag `t`. A second one waits while one runs (R562). `session` and `ns` are what the sender
draws for its HELLO. -/
def execMigrate (q t : Nat) (h : HostData) (session : Nat) (ns : List Byte) (s : State) : Res :=
  s.migGate (.migrate q t h session ns) <|
  match s.command q t 0x49 with
  | none => .next s
  | some x =>
    let e := x.entry
    if migToHost e || x.stage = 3 then .next s
    else
      let st := s.objectCheck e h (migFields e) [0] (fun _ => true)
      if st != 0 then (s.endWith x st).done
      else if s.mig.tx.isSome then .next s
      else match s.migStart e with
        | none => (s.endWith x St.cookieStale).done
        | some p =>
          let bits := entFlags e % 256
          let peer := numAt e 40 1
          if (s.pairKey peer).isNone then (s.refuseMigrate x St.migNoPairing p).done
          else if !s.isSet Fld.ETH_STATUS_UP then (s.refuseMigrate x St.migLinkDown p).done
          else
            let s1 := s.useCookie e
            if (s1.toMigrate (entKey e) bits p).isEmpty then (s1.complete x.qid x.tag St.success 0).done
            else
              let t0 : MigTx :=
                { qid := q, tag := t, slot := peer, key := entKey e, bits := bits, limit := numAt e 44 4, phase := 1,
                  session := 0, ns := [], ks := [], next := p, back := p, taken := 0, done := 0, abort := false,
                  offers := [], nextObj := 1, ackBase := 1, window := 0, nextSeq := 1, unacked := [], late := [] }
              ((s1.setSlot { x with stage := 3 }).sendHello t0 session ns 1).done

/-- The pairing slot that names a DRIVE_ID and an address and has a key. -/
def State.slotFor (s : State) (id addr : List Byte) : Option (Nat × List Byte) :=
  ((List.range 16).map (· + 1)).findSome? (fun p =>
    match s.pairKey p with
    | some k => if s.peerId p = id && s.peerAddr p = addr then some (p, k) else none
    | none => none)

/-- A receiving session ends: the tiles of its uncommitted objects are freed (R560). -/
def State.dropRx (s : State) (p : Nat) : State :=
  let mine := s.mig.rx.filter (fun r => r.slot = p)
  let slots := mine.flatMap (fun r => (r.objs.filter (fun o => o.st = 0)).flatMap (fun o => o.tiles.map (·.2.2)))
  (s.freeTiles slots).setMig { s.mig with rx := s.mig.rx.filter (fun r => r.slot != p) }

/-- A receiving session is put in place of the one of its slot. -/
def State.putRx (s : State) (r : MigRx) : State :=
  s.setMig { s.mig with rx := s.mig.rx.map (fun y => if y.slot = r.slot then r else y) }

/-- HELLO at the receiver (R545 step 2, R546). `nr` is the nonce it draws. A drive runs one sending session, so a HELLO of a slot
takes the place of that slot's earlier session. -/
def execHello (d : Dgram) (nr : List Byte) (s : State) : Res :=
  s.migGate (.hello d nr) <|
  .next (if !s.takes d 1 32 then s
    else if s.dictNum 0x6200 1 = 0 || s.stage != 3 || s.lcm.rngBad then s.sendTo d.src 9 (dSession d) 0 (leBytes 1 1)
    else match s.slotFor (slice (dBody d) 16 16) d.src with
      | none => s.sendTo d.src 9 (dSession d) 0 (leBytes 1 2)
      | some (p, k) =>
        let s1 := s.dropRx p
        if s1.mig.rx.length ≥ 4 then s1.sendClose p (dSession d) 4
        else
          let ks := sessionKey k (slice (dBody d) 0 16) nr
          let r : MigRx := ⟨p, (dSession d), ks, false, [], 1, [], 0⟩
          let s2 := s1.setMig { s1.mig with rx := s1.mig.rx ++ [r] }
          s2.sendMsg p 2 (dSession d) 0 (slice nr 0 16 ++ s2.driveId ++ handshakeMac ks 0x52 (s2.peerId p) s2.driveId))

/-- The sender's session that a datagram belongs to. -/
def State.txFor (s : State) (d : Dgram) : Option MigTx :=
  match s.mig.tx with
  | some t => if t.session = (dSession d) && s.peerAddr t.slot = d.src then some t else none
  | none => none

/-- The receiving session that a datagram belongs to. -/
def State.rxFor (s : State) (d : Dgram) : Option MigRx :=
  s.mig.rx.find? (fun r => r.session = (dSession d) && s.peerAddr r.slot = d.src)

/-- HELLO_ACK at the sender (R545 step 3): with its MAC in order CONFIRM goes out, every object without a RESULT is offered again
(R551) and sending begins; else CLOSE 3 and MIG_AUTH (R559). -/
def execHelloAck (d : Dgram) (s : State) : Res :=
  s.migGate (.helloAck d) <|
  if !s.takes d 2 64 then .next s
  else match s.txFor d with
    | none => .next s
    | some t =>
      if t.phase != 1 && t.phase != 4 then .next s
      else
        let k := (s.pairKey t.slot).getD []
        let ks := sessionKey k t.ns (slice (dBody d) 0 16)
        if slice (dBody d) 32 32 != handshakeMac ks 0x52 s.driveId (s.peerId t.slot) then
          ((s.endMigrate t St.migAuth t.back (some 3)).authFail t.slot).done
        else
          let again := (List.range t.offers.length).map (fun i =>
            let o : MigOffer := t.offers.getD i ⟨0, Version.new 0 0, 0, 0⟩
            { o with obj := i + 1, next := 0 })
          let phase := if s.isSet Fld.QMG_STATUS_ACTSTOP then 3 else 2
          let t1 : MigTx := { t with phase := phase, ks := ks, offers := again, nextObj := again.length + 1 }
          let s1 := s.setMig { s.mig with tx := some t1 }
          let s2 := (s1.sendMsg t.slot 3 t.session 0 (handshakeMac ks 0x53 s.driveId (s.peerId t.slot))).event 547 0
          (again.foldl (fun u o => u.sendOffer t1 o) s2).migPump.done

/-- CONFIRM at the receiver (R545 step 4). -/
def execConfirm (d : Dgram) (s : State) : Res :=
  s.migGate (.confirm d) <|
  .next (if !s.takes d 3 32 then s
    else match s.rxFor d with
      | none => s
      | some r =>
        if r.established then s
        else if (dBody d) != handshakeMac r.ks 0x53 (s.peerId r.slot) s.driveId then
          ((s.dropRx r.slot).sendClose r.slot r.session 3).authFail r.slot
        else s.putRx { r with established := true })

/-- 1 s without a datagram (R551): the sender starts a new session, with the objects that have no RESULT to be offered again;
a receiver gives up the session of slot `p`, which the peer replaces. -/
def execPeerSilence (p : Option Nat) (session : Nat) (ns : List Byte) (s : State) : Res :=
  s.migGate (.peerSilence p session ns) <|
  .next (match p with
    | some k => s.dropRx k
    | none =>
      match s.mig.tx with
      | none => s
      | some t => s.sendHello t session ns 4)

/-- No handshake has completed within MIG_TO (R551): MIGRATE ends with MIG_TIMEOUT and source 403, or with MIG_LINK_DOWN when it
was the port that stayed down (R559). -/
def execMigTimeout (s : State) : Res :=
  s.migGate (.migTimeout) <|
  match s.mig.tx with
  | none => .next s
  | some t =>
    if t.phase != 1 && t.phase != 4 then .next s
    else if !s.isSet Fld.ETH_STATUS_UP then (s.endMigrate t St.migLinkDown t.back none).done
    else ((s.endMigrate t St.migTimeout t.back none).raise 403 0 0).done

/-- CLOSE (R544): a receiving session ends; a sending one ends MIGRATE with MIG_AUTH for REASON 3 and is established again for any
other (R551, R559). -/
def execClose (d : Dgram) (s : State) : Res :=
  s.migGate (.close d) <|
  if !s.takes d 9 1 then .next s
  else match s.rxFor d with
    | some r => .next (s.dropRx r.slot)
    | none =>
      match s.txFor d with
      | none => .next s
      | some t =>
        if numAt (dBody d) 0 1 = 3 then (s.endMigrate t St.migAuth t.back none).done
        else .next (s.setMig { s.mig with tx := some { t with phase := 4, session := 0 } })

-- ---------------------------------------------------------------------------------------------------------------
-- Flow control (R548, R549)

/-- Free slots of the tile pool that the receiver sets aside for one session: a quarter of them, up to 1,024. -/
def State.rxWindow (s : State) : Nat := min 1024 ((s.poolSlots - s.obj.pool.length) / 4)

/-- Send a SACK (R548). -/
def State.sendSack (s : State) (r : MigRx) : State :=
  let map := (List.range 64).foldl (fun a i => a + b2n (r.got.contains (r.base + 1 + i)) * 2 ^ i) 0
  (s.putRx { r with since := 0 }).sendMsg r.slot 6 r.session 0 (leBytes 4 r.base ++ leBytes 8 map ++ leBytes 4 s.rxWindow)

/-- 100 µs after the last DATA without a SACK, on the session of slot `p` (R548). -/
def execSackTimer (p : Nat) (s : State) : Res :=
  s.migGate (.sackTimer p) <|
  .next (match s.mig.rx.find? (fun r => r.slot = p) with
    | some r => if r.established && r.since > 0 then s.sendSack r else s
    | none => s)

/-- SACK at the sender: what it acknowledges leaves, a DATA that three later ones overtook is sent again at once, and sending goes
on within the new window. -/
def execSack (d : Dgram) (s : State) : Res :=
  s.migGate (.sack d) <|
  if !s.takes d 6 16 then .next s
  else match s.txFor d with
    | none => .next s
    | some t =>
      if t.phase != 2 && t.phase != 3 then .next s
      else
        let base := numAt (dBody d) 0 4
        let map := numAt (dBody d) 4 8
        let got (n : Nat) : Bool := n < base || (n > base && n ≤ base + 64 && bitOf map (n - base - 1))
        let t1 : MigTx := { t with ackBase := max t.ackBase base, window := min 1024 (numAt (dBody d) 12 4),
                                   unacked := t.unacked.filter (fun u => !got u.1) }
        let later (n : Nat) : Nat := ((List.range 64).filter (fun i => bitOf map i && base + 1 + i > n)).length
        let lost := (t1.unacked.filter (fun u => later u.1 ≥ 3)).map (·.1)
        ((lost.foldl State.resend (s.setMig { s.mig with tx := some t1 })).migPump).done

/-- A DATA stays unacknowledged for RTO (R549). -/
def execRetransmitTimeout (pseq : Nat) (s : State) : Res :=
  s.migGate (.retransmitTimeout pseq) <|
  (s.resend pseq).done

/-- Every 10 ms while WINDOW is 0, and while MIGRATE is suspended, the sender sends a KEEPALIVE (R549, R562). -/
def execKeepaliveTimer (s : State) : Res :=
  s.migGate (.keepaliveTimer) <|
  .next (match s.mig.tx with
    | none => s
    | some t =>
      if t.phase = 3 || (t.phase = 2 && t.window = 0) then s.sendMsg t.slot 8 t.session 0 [] else s)

/-- KEEPALIVE: the receiver answers with a SACK (R549). -/
def execKeepalive (d : Dgram) (s : State) : Res :=
  s.migGate (.keepalive d) <|
  .next (if !s.takes d 8 0 then s
    else match s.rxFor d with
      | some r => if r.established then s.sendSack r else s
      | none => s)

-- ---------------------------------------------------------------------------------------------------------------
-- The receiver (R547, R554 to R556, R563)

/-- An object of a receiving session. -/
def MigRx.find (r : MigRx) (n : Nat) : Option MigObj := r.objs.find? (fun o => o.obj = n)
def MigRx.put (r : MigRx) (o : MigObj) : MigRx :=
  { r with objs := r.objs.map (fun x => if x.obj = o.obj then o else x) }

/-- The session of a slot as it stands, with an object replaced. -/
def State.putObj (s : State) (p : Nat) (o : MigObj) : State :=
  match s.mig.rx.find? (fun r => r.slot = p) with
  | some r => s.putRx (r.put o)
  | none => s

/-- Send RESULT (R544): CODE 0 and 1 end the object well, the others refuse it. -/
def State.sendResult (s : State) (r : MigRx) (obj code : Nat) : State :=
  let b := leBytes 4 obj ++ leBytes 1 code ++ zeros 11
  s.sendMsg r.slot 7 r.session 0 (b ++ hmac256 r.ks b)

/-- Answer an object: its tiles are freed unless it was committed, RESULT goes out, a refusal is counted (R556). -/
def State.answer (s : State) (r : MigRx) (o : MigObj) (code : Nat) : State :=
  let s1 := if o.st = 0 then s.freeTiles (o.tiles.map (·.2.2)) else s
  let s2 := (s1.putObj r.slot { o with st := 3, code := code, tiles := [] }).sendResult r o.obj code
  if code ≤ 1 then s2 else s2.stat 0x8340 3 1

/-- The code for a version of the index that meets an object offered: 1 the same, 2 another; none without one (R556). -/
def State.presentCode (s : State) (o : MigObj) : Option Nat :=
  (s.version o.key o.ver).map (fun v =>
    match v.sealed with
    | some z => if z.size = o.offered.size && z.sha = o.offered.sha then 1 else 2
    | none => 2)

/-- The code with which an object is answered before or at its commit point, if any (R556, R473). -/
def State.refusal (s : State) (o : MigObj) : Option Nat :=
  match s.presentCode o with
  | some c => some c
  | none => if s.obj.versions.length ≥ 2 ^ 32 || s.freeCapacity < o.total then some 3 else none

/-- The segments of an object as received: number, tiles by number with their slots. -/
def MigObj.segNums (o : MigObj) : List Nat := o.tiles.foldl (fun a x => insertNat x.1 a) []
def MigObj.segSlots (o : MigObj) (n : Nat) : List Nat :=
  let mine := o.tiles.filter (fun x => x.1 = n)
  (List.range mine.length).filterMap (fun i => (mine.find? (fun x => x.2.1 = i)).map (·.2.2))

/-- The structure of R554: tiles 0 to n with none missing or twice, LAST on tile n alone. -/
def State.structureOk (s : State) (o : MigObj) : Bool :=
  o.segNums.all (fun n =>
    let mine := (o.tiles.filter (fun x => x.1 = n)).length
    let l := o.segSlots n
    l.length = mine && mine ≤ 256 &&
      (List.range mine).all (fun i => bitOf (numAt (s.tileAt (l.getD i 0)) 4120 1) 3 == decide (i + 1 = mine)))

/-- The object as a version of unflushed segments, to be hashed under R147. -/
def State.received (s : State) (o : MigObj) : Version :=
  { Version.new o.key o.ver with segs := o.segNums.map (fun n =>
      let l := o.segSlots n
      ⟨n, l.length, tileValid (s.tileAt (l.getLastD 0)), 0, 0, 0, [], [], false, l⟩) }

/-- Steps 1 and 2 of R555: tiles with a new WSEQ and FLAGS.RELOC clear; SEGMENT records, then SEAL, then RETENTION. -/
def State.commitObject (s : State) (r : MigRx) (o : MigObj) : State :=
  let first := s.obj.nextSeq
  let clear (t : List Byte) (w : Nat) : List Byte :=
    let f := numAt t 4120 1
    tileStamp (slice t 0 4120 ++ leBytes 1 (if bitOf f 4 then f - 16 else f) ++ t.drop 4121) false w
  let s1 := o.segNums.foldl (fun t n =>
    let l := o.segSlots n
    let u := l.foldl (fun w x =>
      let w1 := w.putTile x (clear (w.tileAt x) w.disk.wseq)
      { w1 with disk := { w1.disk with wseq := (w1.disk.wseq + 1) % 2 ^ 32 } }) t
    u.enterSegment o.key o.ver n l.length (tileValid (u.tileAt (l.getLastD 0))) 0 l) s
  let k := s1.homeStream
  let seq := s1.obj.nextSeq
  let z : Seal := { o.offered with seq := seq }
  let n := o.segNums.length
  let s2 := s1.issue k 0 (.seal o.key o.ver z.size z.ctime z.sha n z.rclass)
  let v := (s2.version o.key o.ver).getD (Version.new o.key o.ver)
  let v1 : Version := { v with sealed := some { z with segcount := n } }
  let s3 := if o.till = 0 then s2.setVersion v1
    else (s2.issue k 0 (.retention o.key o.ver o.till z.rclass)).setVersion { v1 with lock := some (o.till, z.rclass, seq + 1) }
  let o1 : MigObj := { o with st := 2, tiles := [], recs := (List.range (s3.obj.nextSeq - first)).map (· + first) }
  s3.putObj r.slot o1

/-- All tiles of an object have arrived: structure, hash, then the commit point (R554 to R556). -/
def State.finishObject (s : State) (r : MigRx) (o : MigObj) : State :=
  if !s.structureOk o then (s.raise 401 0 0).answer r o 5
  else
    let (s1, st, bs) := s.readRange (s.received o) 0 o.offered.size
    if st != 0 then (s1.raise 401 0 0).answer r o 5
    else if sha256 bs != o.offered.sha then (s1.raise 401 0 0).answer r o 6
    else match s1.refusal o with
      | some c => s1.answer r o c
      | none => s1.commitObject r o

/-- Another session receives or commits the same version (R563). -/
def State.rivalled (s : State) (r : MigRx) (o : MigObj) : Bool :=
  s.mig.rx.any (fun x => x.slot != r.slot && x.objs.any (fun y => y.key = o.key && y.ver = o.ver && (y.st = 0 || y.st = 2)))

/-- Take an offered object: held behind another session, answered at once, or received. -/
def State.takeOffer (s : State) (r : MigRx) (o : MigObj) : State :=
  if s.rivalled r o then s.putObj r.slot { o with st := 1 }
  else match s.refusal o with
    | some c => s.answer r { o with st := 0 } c
    | none =>
      let o1 : MigObj := { o with st := 0 }
      let s1 := s.putObj r.slot o1
      if o.total = 0 then s1.finishObject r o1 else s1

/-- Offers held behind an object that has now been committed or refused are taken. -/
def State.takeHeld (s : State) : State :=
  s.mig.rx.foldl (fun t r => (r.objs.filter (fun o => o.st = 1)).foldl (fun u o => u.takeOffer r o) t) s

/-- The object that the 128 bytes of an OFFER describe. -/
def offeredObject (b : List Byte) : MigObj :=
  { obj := numAt b 0 4, key := beNat (slice b 4 16), ver := numAt b 20 8,
    offered := ⟨numAt b 28 8, numAt b 36 8, slice b 44 32, numAt b 76 4, numAt b 80 1, 0⟩,
    till := numAt b 84 8, total := numAt b 92 8, tiles := [], st := 0, code := 0, recs := [] }

/-- OFFER at the receiver: discarded with source 400 when its MAC fails (R547). One it has answered is answered again. -/
def execOffer (d : Dgram) (s : State) : Res :=
  s.migGate (.offer d) <|
  if !s.takes d 4 160 then .next s
  else match s.rxFor d with
    | none => .next s
    | some r =>
      let b := slice (dBody d) 0 128
      let o := offeredObject b
      if !r.established then .next s
      else if slice (dBody d) 128 32 != hmac256 r.ks b then .next (s.authFail r.slot)
      else match r.find o.obj with
        | some x => .next (if x.st = 3 then s.sendResult r x.obj x.code else s)
        | none => ((s.putRx { r with objs := r.objs ++ [o] }).takeOffer { r with objs := r.objs ++ [o] } o).takeHeld.done

/-- PSEQ `n` received: the new base and the ones above it. -/
def advance (fuel base : Nat) (got : List Nat) : Nat × List Nat :=
  match fuel with
  | 0 => (base, got)
  | f + 1 => if got.contains base then advance f (base + 1) (got.filter (· != base)) else (base, got)

/-- The comparisons of R554 on one tile as it arrives. -/
def dataOk (o : MigObj) (seg tile : Nat) (t : List Byte) : Bool :=
  tileCrcOk t && slice t 4104 8 = keyHash (keyBytes o.key) && numAt t 4112 4 = seg && numAt t 4116 4 = tile
    && (bitOf (numAt t 4120 1) 3 || tileValid t = 4096) && 1 ≤ tileValid t && tileValid t ≤ 4096
    && !o.tiles.any (fun x => x.1 = seg && x.2.1 = tile)

/-- Ingest the tile of a DATA datagram into a slot and compare it (R554). -/
def State.ingestData (s : State) (r : MigRx) (o : MigObj) (seg tile slot : Nat) (t : List Byte) : State :=
  let s1 := (s.putTile slot t).charge 8 65
  let o1 : MigObj := { o with tiles := o.tiles ++ [(seg, tile, slot)] }
  let s2 := s1.putObj r.slot o1
  if !dataOk o seg tile t then (s2.raise 401 0 0).answer r o1 5
  else if o1.tiles.length ≥ o1.total then s2.finishObject r o1 else s2

/-- DATA at the receiver (R548, R554). Outside the window, twice, or of an object not offered yet it is not taken; of an object
already answered it counts as received and is discarded. -/
def execData (d : Dgram) (s : State) : Res :=
  s.migGate (.data d) <|
  if !s.takes d 5 4140 then .next s
  else match s.rxFor d with
    | none => .next s
    | some r =>
      let n := (dPseq d)
      let b := (dBody d)
      if !r.established then .next s
      else if n < r.base || r.got.contains n then .next (s.sendSack r)
      else if n ≥ r.base + s.rxWindow then .next s
      else match r.find (numAt b 0 4), s.takeSlots 1 with
        | some o, some (slot :: _) =>
          if o.st = 1 then .next s
          else
            let top := r.got.foldl max (r.base - 1)
            let (base, got) := advance (r.got.length + 1) r.base (insertNat n r.got)
            let r1 : MigRx := { r with base := base, got := got, since := r.since + 1 }
            let s1 := s.putRx r1
            let s2 := if o.st = 0 then s1.ingestData r1 o (numAt b 4 4) (numAt b 8 2) slot (slice b 12 4128) else s1
            let s3 := match s2.mig.rx.find? (fun x => x.slot = r.slot) with
              | some x => if x.since ≥ 16 || n != top + 1 then s2.sendSack x else s2
              | none => s2
            s3.takeHeld.done
        | _, _ => .next s

/-- A version whose receive failed leaves the index. The records of it that have not been written go with it; where one is on the media
a TOMBSTONE follows, unless the lock the version carries is unexpired: the part writes no TOMBSTONE then (R155), and the next
checkpoint leaves those records out. -/
def State.withdrawVersion (s : State) (v : Version) (recs : List Nat) : State :=
  let written := recs.any (fun q => !s.obj.recs.any (fun w => w.seq == q))
  let s1 := { s with obj := { s.obj with recs := s.obj.recs.filter (fun w => !recs.contains w.seq) } }
  if written && !s.lockUnexpired v then s1.removeVersion v 0
  else
    let s2 := { s1 with obj := { s1.obj with onMedia := s1.obj.onMedia.filter (fun p => !recs.contains p.1) } }
    (v.segs.foldl (fun t g => t.retireSeg g s1.obj.nextSeq) s2).dropVersion v.key v.ver

/-- A committed object is on the media (R555 steps 3 and 4): its stripes are closed as by a FLUSH and RESULT 0 goes out, with
event 548. When its media write has failed (R490) it is removed again and refused with CODE 7. -/
def execReceiveDurable (p obj : Nat) (s : State) : Res :=
  s.migGate (.receiveDurable p obj) <|
  match s.mig.rx.find? (fun r => r.slot = p) with
  | none => .next s
  | some r =>
    match r.find obj with
    | none => .next s
    | some o =>
      if o.st != 2 then .next s
      else
        let failed := s.obj.jobs.any (fun j => o.recs.contains j.seq && (j.refused || j.noSector || s.mediaTimedOut j.actuator))
          || s.obj.recs.any (fun w => o.recs.contains w.seq && s.journalFull w.stream)
          || (s.isSet Fld.FCL_STATUS_SAFE && s.obj.jobs.any (fun j => o.recs.contains j.seq))
        if failed then
          let s1 := match s.version o.key o.ver with
            | some v => s.withdrawVersion v o.recs
            | none => s
          ((s1.answer r o 7).takeHeld).done
        else if s.obj.recs.any (fun w => o.recs.contains w.seq) || !s.obj.openStripes.all s.closable then .next s
        else
          let s1 := ((s.closeStripes.stat 0x8340 2 1).postEvent 548 0 0 obj 0)
          ((s1.answer r o 0).takeHeld).done

-- ---------------------------------------------------------------------------------------------------------------
-- RESULT at the sender (R556, R558 to R560)

/-- RESULT at the sender. One whose MAC fails is discarded with source 400, and MIGRATE ends with MIG_AUTH (R547, R559). CODE 0 and
1 end the object; any other code refuses it, with event 549, and ends MIGRATE. -/
def execResult (d : Dgram) (s : State) : Res :=
  s.migGate (.result d) <|
  if !s.takes d 7 48 then .next s
  else match s.txFor d with
    | none => .next s
    | some t =>
      let b := slice (dBody d) 0 16
      let code := numAt b 4 1
      if t.phase != 2 && t.phase != 3 then .next s
      else
        let named := t.offers.find? (fun o => o.obj = numAt b 0 4)
        let at_ := match named.orElse (fun _ => t.offers.head?) with
          | some o => ⟨o.v.key, o.v.ver, true, 0⟩
          | none => t.back
        if slice (dBody d) 16 32 != hmac256 t.ks b then
          ((s.endMigrate t St.migAuth at_ (some 0)).authFail t.slot).done
        else match named with
          | none => .next s
          | some o =>
            if code ≤ 1 then
              let held := s.heldSlots
              let t1 : MigTx := { t with offers := t.offers.filter (fun x => x.obj != o.obj), done := t.done + 1,
                                         unacked := t.unacked.filter (fun u => u.2.1 != o.obj),
                                         back := ⟨o.v.key, o.v.ver, false, 0⟩ }
              let s1 := s.setMig { s.mig with tx := some t1 }
              let s2 := s1.freeTiles (s1.orphans held)
              let s3 := if code = 0 then s2.stat 0x8340 1 1 else s2
              if t.abort then (s3.endMigrate t1 St.aborted t1.back (some 0)).done else s3.migPump.done
            else
              let s1 := (s.event 549 code).stat 0x8340 3 1
              let st := if code = 5 || code = 6 then St.migPeerVerify else St.migPeerRefused
              (s1.endMigrate t st at_ (some 0)).done

/-- An ABORT of the running MIGRATE: at once between objects, else at the next object boundary (R560). -/
def State.migAbort (s : State) : State :=
  match s.mig.tx with
  | none => s
  | some t =>
    if t.offers.isEmpty then s.endMigrate t St.aborted t.back (some 0)
    else s.setMig { s.mig with tx := some { t with abort := true } }

/-- Firmware activation suspends the running MIGRATE at a tile boundary, and lets it go on afterwards (R562). -/
def State.migSuspend (s : State) : State :=
  match s.mig.tx with
  | some t => if t.phase = 2 then s.setMig { s.mig with tx := some { t with phase := 3 } } else s
  | none => s
def State.migResume (s : State) : State :=
  match s.mig.tx with
  | some t => if t.phase = 3 then (s.setMig { s.mig with tx := some { t with phase := 2 } }).migPump else s
  | none => s

-- ---------------------------------------------------------------------------------------------------------------
-- MIGRATE to the host (R561)

/-- The 64 B header of a segment or seal unit. -/
def unitHeader (type : Nat) (v : Version) (seg tiles : Nat) : List Byte :=
  leBytes 1 type ++ zeros 15 ++ keyBytes v.key ++ leBytes 8 v.ver ++ leBytes 4 seg ++ leBytes 2 tiles ++ zeros 18

/-- The end unit (R561). -/
def endUnit (next : Nat) : List Byte := zeros 40 ++ leBytes 8 next ++ zeros 16

/-- The seal unit: 256 B with the STAT record in bytes 191:64. -/
def State.sealUnit (s : State) (v : Version) : List Byte :=
  unitHeader 2 v 0 0 ++ s.statRecord v ++ zeros 64

/-- The tiles of a segment with their trailers: state, status of the first that fails, bytes. -/
def State.wholeTiles (s : State) (v : Version) (g : Seg) (ts : List Nat) : State × Nat × List Byte :=
  match ts with
  | [] => (s, 0, [])
  | t :: r =>
    let (s1, st, b) := (s.chargeSend [g]).readTile v g t
    if st != 0 then (s1, st, [])
    else
      let (s2, st2, b2) := s1.wholeTiles v g r
      (s2, st2, b ++ b2)

/-- Units of one version from segment `i` on that fit in `room` bytes: state, status, bytes, and the position reached; none when
the version is complete. -/
def State.unitsOf (s : State) (v : Version) (l : List Seg) (i room : Nat) : State × Nat × List Byte × Option Pos :=
  match l with
  | [] => if room < 256 then (s, 0, [], some ⟨v.key, v.ver, true, i⟩) else (s, 0, s.sealUnit v, none)
  | g :: r =>
    let n := 64 + 4128 * g.tiles
    if room < n then (s, 0, [], some ⟨v.key, v.ver, true, i⟩)
    else
      let (s1, st, b) := s.wholeTiles v g (List.range g.tiles)
      if st != 0 then (s1, st, [], some ⟨v.key, v.ver, true, i⟩)
      else
        let (s2, st2, b2, p) := s1.unitsOf v r (i + 1) (room - n)
        (s2, st2, unitHeader 1 v g.num g.tiles ++ b ++ b2, p)

/-- Units of the versions of a list, `limit` of them at most (0: all): state, status, bytes and the position reached. -/
def State.units (s : State) (l : List Version) (skip limit room : Nat) (p : Pos) : State × Nat × List Byte × Pos :=
  match l with
  | [] => (s, 0, [], p)
  | v :: r =>
    if s.damagedVersion v.key v.ver then (s, St.intIndex, [], p)
    else
      let (s1, st, b, stop) := s.unitsOf v (v.segs.drop skip) skip room
      match stop with
      | some q => (s1, st, b, q)
      | none =>
        let q : Pos := ⟨v.key, v.ver, false, 0⟩
        if limit = 1 then (s1, 0, b, q)
        else
          let (s2, st2, b2, p2) := s1.units r 0 (limit - 1) (room - b.length) q
          (s2, st2, b ++ b2, p2)

/-- The versions that a MIGRATE to the host with `room` bytes left reads of a list, `limit` of them at most (0: all). -/
def unitsRead (room limit : Nat) (l : List Version) : List Version :=
  match l with
  | [] => []
  | v :: r =>
    let n := v.segs.foldl (fun a g => a + 64 + 4128 * g.tiles) 256
    v :: (if limit = 1 || room ≤ n then [] else unitsRead (room - n) (limit - 1) r)

/-- MIGRATE to the host, of queue `q` and tag `t`. It waits while another MIGRATE runs, and for media out of service. -/
def execMigrateToHost (q t : Nat) (h : HostData) (s : State) : Res :=
  s.migGate (.migrateToHost q t h) <|
  match s.command q t 0x49 with
  | none => .next s
  | some x =>
    let e := x.entry
    if !migToHost e then .next s
    else
      let st := s.objectCheck e h (migFields e) [1, 2, 3] (fun n => 1056896 ≤ n)
      let ps := bufferPieces e h
      if st != 0 then (s.endWith x st).done
      else if s.mig.tx.isSome then .next s
      else match s.migStart e with
        | none => (s.endWith x St.cookieStale).done
        | some p =>
          let bits := entFlags e % 256
          let l := s.toMigrate (entKey e) bits p
          let skip := match l with
            | v :: _ => if p.here && v.key = p.key && v.ver = p.ver then p.segs else 0
            | [] => 0
          if (unitsRead (entBufLen e - 64) (numAt e 44 4) l).any (fun v => s.mustWait v 0 v.end_) then .next s
          else if !s.transferOk ps h then (s.endWith x St.transferError).done
          else
            let (s1, st1, b, stop) := s.units l skip (numAt e 44 4) (entBufLen e - 64) p
            let s2 := s1.useCookie e
            let (s3, n) := s2.nextAt (entKey e) bits stop
            let bytes := b ++ endUnit n
            ((s3.writeBuffer 8 ps bytes).complete x.qid x.tag st1 bytes.length).done

-- ---------------------------------------------------------------------------------------------------------------
-- Windows of object-core time (R106, R107)

/-- One piece of migration work that waited. -/
def State.runMig (s : State) (i : Instr) : State :=
  let r : Res := match i with
    | .migrate q t h session ns => execMigrate q t h session ns s
    | .migrateToHost q t h => execMigrateToHost q t h s
    | .hello d nr => execHello d nr s
    | .helloAck d => execHelloAck d s
    | .confirm d => execConfirm d s
    | .offer d => execOffer d s
    | .data d => execData d s
    | .receiveDurable p obj => execReceiveDurable p obj s
    | .sack d => execSack d s
    | .result d => execResult d s
    | .keepalive d => execKeepalive d s
    | .close d => execClose d s
    | .sackTimer p => execSackTimer p s
    | .retransmitTimeout pseq => execRetransmitTimeout pseq s
    | .keepaliveTimer => execKeepaliveTimer s
    | .peerSilence p session ns => execPeerSilence p session ns s
    | .migTimeout => execMigTimeout s
    | _ => .next s
  match r with
  | .next t => t
  | _ => s

/-- A 100 µs window begins: the counts restart, no core is switched or suspended any more, and the migration work that waited is done
in its order (R106, R107). With MIG_PCT 0 the cap is reached at once, and migration work stays suspended. -/
def execCoreWindow (s : State) : Res :=
  let s1 := { s with tint := { s.tint with switched := [], migSuspended := false }, mig := { s.mig with held := [] } }
  .next (if s.getF Fld.TNT_CORE_MIG_PCT = 0 then { s with tint := { s.tint with switched := [], migSuspended := true } }
    else (s.mig.held.foldl State.runMig s1).migPump)

end Sys2Proof.Machine
end

