-- ==== Sys2Proof/Machine/Nvstore.lean ====
section
/-!
DEFINITION. The non-volatile store (spec/19): passwords and protection, and flash operations as firmware starts them.
Choices: assumption log 44, 45, 55.
-/
namespace Sys2Proof.Machine
open Sys2Proof

-- ---------------------------------------------------------------------------------------------------------------
-- Passwords (R634 to R636)

/-- An unlock attempt with 16 bytes of password, in Manufacture or Returned (R635, R654). NVC_PWDn reads cleared after it. -/
def execUnlock (pw : List Byte) (s : State) : Res :=
  .next (if s.manufacture || s.returned then (s.tryUnlock pw).1 else s)

/-- A new password, in Manufacture, with the regions unlocked or none set (R635). -/
def execNewPassword (pw : List Byte) (s : State) : Res := .next (if s.newPasswordAllowed then s.setPassword pw else s)

/-- Every region with its lock bit locks again (R634). -/
def execRelock (s : State) : Res := .next s.relock

-- ---------------------------------------------------------------------------------------------------------------
-- Operations (R625 to R629, R634, R637)

/-- An operation is accepted, or refused before any pulse with its result (R627). -/
def State.startFlash (s : State) (o : FlashOp) : State :=
  let k := if o.erase then 2 else 1
  match s.refusesFlash o.block with
  | some r => s.flashResult k r 0
  | none =>
    let s1 := { s with nvc := { s.nvc with op := some o } }
    ((s1.setF Fld.NVC_STATUS_BUSY 1).setF Fld.NVC_STATUS_OP k).setF Fld.NVC_STATUS_RESULT 0

/-- NVC_CMD as written for an operation. -/
def State.flashCmd (s : State) (op block page first units : Nat) : State :=
  ((((s.setF Fld.NVC_CMD_OP op).setF Fld.NVC_CMD_BLOCK block).setF Fld.NVC_CMD_PAGE page).setF Fld.NVC_CMD_FIRST first).setF
    Fld.NVC_CMD_UNITS (units - 1)

/-- Firmware starts a program of whole 32 B units from `first` on within a page (R625). Not while an operation runs. -/
def execNvcProgram (block page first : Nat) (data : List Byte) (s : State) : Res :=
  let n := data.length / 32
  .next (if s.nvc.op.isSome || block ≥ 2048 || page ≥ 256 || data.length % 32 != 0 || n = 0 || first + n > 8 then s
    else
      let s1 := (List.range (8 * n)).foldl (fun (t : State) i =>
        t.setReg (Fld.NVC_BUF_DATA i).addr (BitVec.ofNat 32 (numAt data (4 * i) 4))) (s.flashCmd 1 block page first n)
      s1.startFlash ⟨false, block, 2048 * block + page * 8 + first, data⟩)

/-- Firmware starts an erase of one block. -/
def execNvcErase (block : Nat) (s : State) : Res :=
  .next (if s.nvc.op.isSome || block ≥ 2048 then s
    else (s.flashCmd 2 block 0 0 1).startFlash ⟨true, block, 2048 * block, []⟩)

/-- An operation that failed after its last pulse: its result, its source, the block bad (R627, R637, R655). -/
def State.flashFails (s : State) (o : FlashOp) : State :=
  let k := if o.erase then 2 else 1
  let s1 := (s.spoilUnits (s.opUnits o)).flashResult k k (if o.erase then 24 else 16)
  ((s1.stat 0x8220 (2 + k) 1).raise (111 + k) 0 o.block).markBad o.block

/-- The operation in progress ends, after `pulses` pulses; with `ok` its verify passed (R626, R627). Event log records that wait
are programmed behind it (R642). -/
def execNvcOperationDone (ok : Bool) (pulses : Nat) (s : State) : Res :=
  .next (match s.nvc.op with
    | none => s
    | some o =>
      let s0 := { s with nvc := { s.nvc with op := none } }
      let s1 := if !ok then s0.flashFails o
        else if o.erase then ((s0.blockErased o.block).flashResult 2 0 pulses).stat 0x8220 2 1
        else ((s0.programUnits o.unit0 o.data).flashResult 1 0 pulses).stat 0x8220 1 1
      s1.drainLog)

end Sys2Proof.Machine
end

