-- ==== Sys2Proof/Machine/SelfTest.lean ====
section
/-!
DEFINITION. Life-cycle transitions, scan, the random generator, self-tests and loopbacks (spec/20).
Choices: assumption log 54, 55.
-/
namespace Sys2Proof.Machine
open Sys2Proof

-- ---------------------------------------------------------------------------------------------------------------
-- Results of dictionary writes (R587)

namespace Dr
def ok : Nat := 0
def noEntry : Nat := 1
def access : Nat := 2
def range : Nat := 3
def type : Nat := 4
def busy : Nat := 5
def protocol : Nat := 6
def timeout : Nat := 7
def notReady : Nat := 8
def tooLong : Nat := 9
end Dr

-- ---------------------------------------------------------------------------------------------------------------
-- Life cycle (R656 to R663)

/-- Targets that a state can reach (R656, R657). -/
def reaches (st t : Nat) : Bool := (t = 2 && st = 1) || (t = 3 && st = 2) || (t = 4 && 1 ≤ st && st ≤ 3)

/-- Why a transition request to 0x7000:02 is refused, 0 when it is accepted (R657, R659). -/
def State.transitionStatus (s : State) (req : Nat) : Nat :=
  let t := req % 256
  let locked := s.getF Fld.NVC_PROT_LOCKED
  if req / 65536 != 0x4C43 || req / 256 % 256 != 0 || t > 4 then Dr.range
  else if s.tst.test != 0 || s.tst.loop || s.qualStatus = 1 || s.cle.inject.isSome || s.lcm.pending != 0xFF
      || !reaches s.lifeCycle t then Dr.access
  else if t = 2 then
    if s.nvc.pwdHash.isNone || locked % 4 != 3 || s.driveId.all (· == 0) then Dr.access else Dr.ok
  else if locked != 0 then Dr.access else Dr.ok

/-- Step 1 of R660: both copies of the record hold the pending target. -/
def State.transitionBegin (s : State) (req : Nat) : State :=
  ({ s with lcm := { s.lcm with pending := req % 256, recSeq := s.lcm.recSeq + 1 } }).programRecord

/-- Steps 2 to 6 of R660 for the pending target; with `cut` the supply fails after that many fuses (R661). -/
def State.transitionRun (s : State) (cut : Option Nat) (i : SlateInputs) : State :=
  let s1 := s.lifeCycleSteps s.lcm.pending cut
  match cut with
  | some _ => s1
  | none => (s1.warmReset Fld.PLT_RSTCAUSE_FIRMWARE).slateRun i

/-- A transition request (R659, R660). -/
def execLifecycleTransition (req : Nat) (cut : Option Nat) (i : SlateInputs) (s : State) : Res :=
  .next (if s.transitionStatus req = Dr.ok then (s.transitionBegin req).transitionRun cut i else s)

/-- Scan is enabled in Manufacture or Returned (R663): secrets cleared with source 434, key fuses gated, SCAN_OPEN; the core die
stops and the motion die sees the link down. -/
def execScanEnable (s : State) : Res :=
  .next (if !(s.manufacture || s.returned) || s.lcm.scanOpen then s
    else
      let s1 := (s.setKeys 0 0).setKeys 1 0
      let s2 := { s1 with cxc := { s1.cxc with spdm := false }, mig := s1.mig.dropSessions }
      let s3 := (s2.raise 434 0 0)
      let s4 := { s3 with lcm := { s3.lcm with gated := true, scanOpen := true } }
      let s5 := s4.intoReset
      { s5 with pwr := { s5.pwr with held := true } })

/-- The random generator's continuous health test fails, or passes again (R673). -/
def execRngHealthTest (pass : Bool) (s : State) : Res :=
  .next (if pass then { s with lcm := { s.lcm with rngBad := false } }
    else (({ s with lcm := { s.lcm with rngBad := true } }).bumpF Fld.KEY_RNG_FAILS 1).raise 432 0 0)

-- ---------------------------------------------------------------------------------------------------------------
-- Tests (R665 to R668)

/-- A test request is refused (R668): RESULT says so. -/
def State.testRefused (s : State) : State := s.setF Fld.TST_STATUS_RESULT 3

/-- The state allows a test (R658): the extended one in Manufacture alone, the self-check in every state, the others in Manufacture
and Returned; the fault-path test needs both actuators parked (R667). -/
def State.testAllowed (s : State) (test : Nat) : Bool :=
  match test with
  | 3 => s.manufacture
  | 4 => (s.manufacture || s.returned) && s.parked 0 && s.parked 1
  | 5 => s.manufacture || s.deployed || s.returned
  | n => (n = 1 || n = 2) && (s.manufacture || s.returned)

/-- A unit is isolated for its test: a write gate goes low first, and its domain counts as out of service (R666). -/
def State.isolate (s : State) (u : Nat) : State :=
  let s1 := if u = 13 || u = 16 then s.gateLow 0 else if u = 14 || u = 17 then s.gateLow 1 else s
  let d := domainOfUnit u
  if s1.boot.outOfService.contains d then { s1 with tst := { s1.tst with under := [u], took := none } }
  else { s1 with tst := { s1.tst with under := [u], took := some d },
                 boot := { s1.boot with outOfService := insertNat d s1.boot.outOfService } }

/-- Start test `test`, of unit `unit` where it has one; nothing while a test runs. -/
def State.startTest (s : State) (test unit : Nat) : State :=
  if s.tst.test != 0 then s
  else
    let s1 := (s.setF Fld.TST_CTRL_TEST test).setF Fld.TST_CTRL_UNIT unit
    if s1.fcl.reaction.isSome || !s1.testAllowed test || unit > 27 then s1.testRefused
    else
      let s2 := ({ s1 with tst := { s1.tst with test := test } }).setReg Fld.TST_STATUS_BUSY.addr 0x80000000
      if test = 3 || test = 5 then s2 else s2.isolate unit

def execTestStart (test unit : Nat) (s : State) : Res := .next (s.startTest test unit)

/-- The extended memory test over every array (R665). -/
def execExtendedMemoryTest (s : State) : Res := .next (s.startTest 3 0)

/-- The running test ends (R665 to R667, R671): `detail` as TST_STATUS.DETAIL; `entries` repair fuse entries that an extended test
has to record. -/
def execTestComplete (pass : Bool) (detail entries : Nat) (s : State) : Res :=
  .next (if s.tst.test = 0 then s
    else
      let ext := s.tst.test = 3
      let used := if ext then min 1024 (s.lcm.repairFuses + entries) else s.lcm.repairFuses
      let full : Bool := ext && s.lcm.repairFuses + entries > 1024
      let check := s.tst.test = 5
      let good := pass && !full
      let s1 := s.testOver (if good then 1 else 2) detail
      let s2 := { s1 with lcm := { s1.lcm with repairFuses := used } }
      if good then s2
      else (s2.stat 0x8030 1 1).raise (if check then 98 else 96) 0 0)

-- ---------------------------------------------------------------------------------------------------------------
-- Loopbacks (R669, R670)

/-- The conditions of a loopback (R658, R669). `path` is 0 for GDP, 1 for the host; `testImpl` tells whether the preamp implements
TEST. -/
def State.loopAllowed (s : State) (iface depth lane path : Nat) (testImpl : Bool) : Bool :=
  let full := s.manufacture || s.returned
  let parked (k : Nat) : Bool := (lane != k && lane != 15) || s.parked k
  match iface with
  | 0 => if depth = 3 then full || s.deployed else full && path = 0
  | 1 => (full || s.deployed) && s.mig.tx.isNone && s.mig.rx.isEmpty
  | 2 => full && s.tst.hold
  | 3 => full && depth ≤ 2 && (lane ≤ 1 || lane = 15) && parked 0 && parked 1 && (depth != 2 || testImpl)
  | 4 => full && depth ≤ 2 && path = 1
  | 5 => full && depth ≤ 1 && s.isSet Fld.SPM_STATUS_STOPPED && s.parked 0 && s.parked 1
  | _ => false

/-- Start the loopback that a value of TST_LBCTL selects, or refuse it. A CXL near-end loopback takes the link down, an Ethernet
one its port. Nothing starts while one runs. -/
def State.startLoop (s : State) (cfg path : Nat) (testImpl : Bool) : State :=
  if s.tst.loop then s
  else
    let s1 := s.setReg Fld.TST_LBCTL_GO.addr (BitVec.ofNat 32 (cfg &&& 0x073FCFFF))
    let iface := s1.getF Fld.TST_LBCTL_IF
    let depth := s1.getF Fld.TST_LBCTL_DEPTH
    if !s1.loopAllowed iface depth (s1.getF Fld.TST_LBCTL_LANE) path testImpl then s1.setF Fld.TST_LBSTAT_RESULT 3
    else
      let s2 := ({ s1 with tst := { s1.tst with loop := true, lbBits := 0 } }).setReg Fld.TST_LBSTAT_BUSY.addr 0x80000000
      if iface = 1 then s2.ethDown
      else if iface = 0 then
        (if depth != 3 && s2.isSet Fld.CXC_LINK_UP then s2.hostReset true else s2).setF Fld.CXC_LINK_LTSSM (if depth = 3 then 0x21 else 0x22)
      else s2

def execLoopbackStart (cfg path : Nat) (testImpl : Bool) (s : State) : Res := .next (s.startLoop cfg path testImpl)

/-- The result of a loopback that ends: no error for the interfaces of R669 that ask for none, else `ok`. -/
def State.endLoop (s : State) (errors bits : Nat) (ok : Bool) : State :=
  if !s.tst.loop then s
  else
    let good := ok && (s.getF Fld.TST_LBCTL_IF ≥ 3 || errors = 0)
    let s0 := if s.getF Fld.TST_LBCTL_IF != 0 then s
              else s.setF Fld.CXC_LINK_LTSSM (if s.isSet Fld.CXC_LINK_UP then 0x18 else 0)
    let s1 := { s0 with tst := { s0.tst with loop := false, lbBits := bits % 2 ^ 64 } }
    let s2 := ((s1.setF Fld.TST_LBSTAT_BUSY 0).setF Fld.TST_LBSTAT_RESULT (if good then 1 else 2)).setF
      Fld.TST_LBSTAT_ERRORS (min errors (2 ^ 28 - 1))
    if good then s2 else (s2.stat 0x8030 2 1).raise 97 0 0

/-- TST_LBCTL.STOP ends a loopback early, with what it has counted. -/
def execLoopbackStop (errors bits : Nat) (ok : Bool) (s : State) : Res := .next (s.endLoop errors bits ok)

/-- DURATION has passed. -/
def execLoopbackEnd (errors bits : Nat) (ok : Bool) (s : State) : Res :=
  let t := s.endLoop errors bits ok
  .next t

/-- Test hold is entered or left through a warm reset (R670). -/
def State.testHold (s : State) (enter : Bool) (i : SlateInputs) : State :=
  if s.tst.hold = enter then s
  else (({ s with tst := { s.tst with hold := enter } }).warmReset Fld.PLT_RSTCAUSE_FIRMWARE).slateRun i

def execTestHold (enter : Bool) (i : SlateInputs) (s : State) : Res := .next (s.testHold enter i)

end Sys2Proof.Machine
end

