-- ==== Sys2Proof/Machine/Start.lean ====
section
/-!
DEFINITION. Supplies and reset inputs, Ash and the beacon, the end of Slate, Ochre, Cobalt, reset requests, the die-to-die
link (R16 to R21, R28 to R32, R46 to R83, R247, R336, R337, R706).
Choices: assumption log 9, 10, 57 to 59.
-/
namespace Sys2Proof.Machine
open Sys2Proof

-- ---------------------------------------------------------------------------------------------------------------
-- Supplies and Ash (R46, R52 to R55, R336, R337)

/-- The supply is good: V12 at or above 10.2 V and VDD_3V3 at or above 3.0 V, in mV (R46). -/
def supplyIsGood (v12 v33 : Nat) : Bool := v12 ≥ 10200 && v33 ≥ 3000
/-- The supply is lost: V12 below 9.8 V or VDD_3V3 below 2.85 V, in mV (R46). -/
def supplyIsLost (v12 v33 : Nat) : Bool := v12 < 9800 || v33 < 2850

/-- The core die runs: out of reset, in Slate or beyond. -/
def State.coreRuns (s : State) : Bool := !s.pwr.held && !s.pwr.porstLow && (s.boot.slateRunning || s.boot.slateDone)

/-- CLKREQ_N is driven low: from Slate step 9 on, and never released to stop the reference (R386). -/
def State.clkreqNLow (s : State) : Bool := s.pwr.good && s.coreRuns && decide (s.boot.slateStep ≥ 9)

/-- Ash entry (R52): the motion die at its reset values samples NODE_ID, arms protection, starts the retract profile on both
actuators, drives CAN_STBY low and starts the beacon. A profile that ran on completes and is joined (R337, R335); an
actuator that was parked stays so and is held against its stop (R53). The bridge stays off (R54). -/
def State.enterAsh (s : State) (node : BitVec 7) (v12 : Nat) : State :=
  let kept := Word.get (s.reg 0x3200000) 5 2
  let s1 := { s with regs := resetUnitRegs 22 [] s.regs,
                     mfe := { Mfe.reset with ret0 := s.mfe.ret0, ret1 := s.mfe.ret1, coilShorted0 := s.mfe.coilShorted0,
                                             coilShorted1 := s.mfe.coilShorted1 },
                     ash := { Ash.reset with armed := true, nodeId := node, beaconOn := true, canStbyLow := true,
                                             temp := s.ash.temp } }
  let s2 := (s1.setF ⟨0x3200000, 5, 2⟩ kept).setF Fld.MFE_VSENSE_V12 (v12 / 10)
  (s2.retractBoth 1).uninhibitBoth 5

/-- SUPPLY_GOOD: V12 and VDD_3V3 in mV, NODE_ID as strapped. The motion die enters Ash; a core die out of PORST_N takes a
power-on reset with it and runs Slate (R46, R79). A supply that returns after a confirmed power loss without having been lost
under R46 brings the Motion domain back as after its reset (R337). -/
def execSupplyGood (v12 v33 : Nat) (node : BitVec 7) (i : SlateInputs) (s : State) : Res :=
  .next (if !supplyIsGood v12 v33 then s
    else if s.pwr.good then
      if !s.mfe.supplyLow then s else s.supplyBack.settle
    else
      let again := s.ash.armed
      let s1 := { s with pwr := { s.pwr with v12Good := true, v33Good := true, good := true, timeUs := 0 },
                         media := { s.media with passUs := [0, 0] } }
      let s2 := if s1.pwr.porstLow then s1 else s1.powerOnReset false Fld.PLT_RSTCAUSE_MOTION_POR
      let s3 := s2.enterAsh node v12
      let s4 := s3.setF Fld.PLT_RSTCAUSE_MOTION_POR (b2n again)
      if s4.pwr.porstLow || s4.pwr.held then s4 else s4.slateRun i)

/-- SUPPLY_LOST: V12 or VDD_3V3 below its loss threshold (R46). Write-inhibit bit 5 rises; the motion die works on from the bus
until its supply is good again (R336, R337), and its beacon stops with VDD_3V3. -/
def execSupplyLost (v12 v33 : Nat) (s : State) : Res :=
  .next (if !supplyIsLost v12 v33 then s
    else
      let s1 := { s with
        pwr := { s.pwr with v12Good := decide (v12 ≥ 9800), v33Good := decide (v33 ≥ 2850), good := false },
        ash := { s.ash with beaconOn := s.ash.beaconOn && decide (v33 ≥ 2850) },
        mfe := { s.mfe with supplyLow := true } }
      (s1.inhibitBoth 5).settle)

/-- The core die leaves reset into Slate when PORST_N is high, nothing of R51 holds it and the motion die's supply is good. -/
def State.intoSlate (s : State) (i : SlateInputs) : State := if s.pwr.porstLow || s.pwr.held then s else s.slateRun i

/-- VDD_AO_POWER_ON: VDD_AO rises through its threshold: a power-on reset with the unlock count and lockout (R50). -/
def execVddAoPowerOn (i : SlateInputs) (s : State) : Res :=
  .next ((s.powerOnReset true Fld.PLT_RSTCAUSE_POWER_ON).intoSlate i)

/-- PORST_N_LOW: a power-on reset that leaves the unlock count and the lockout (R50). -/
def execPorstNLow (s : State) : Res :=
  .next (if s.pwr.porstLow then s
    else
      let s1 := s.powerOnReset false Fld.PLT_RSTCAUSE_PORST
      { s1 with pwr := { s1.pwr with porstLow := true } })

/-- PORST_N_RELEASE: Slate runs its steps in order; PORST_N released also ends the hold of a failed Slate (R62, R68). -/
def execPorstNRelease (i : SlateInputs) (s : State) : Res :=
  .next (if !s.pwr.porstLow then s
    else
      let s1 := { s with pwr := { s.pwr with porstLow := false } }
      s1.slateRun i)

/-- PWR_GOOD_FALL: both gates low, and the core die but its island is held in reset (R51). -/
def execPwrGoodFall (s : State) : Res :=
  .next (if !s.pwr.pwrGood then s
    else
      let s1 := { s with pwr := { s.pwr with pwrGood := false } }
      if !s1.coreRuns then s1
      else
        let s2 := s1.intoReset
        { s2 with pwr := { s2.pwr with held := true } })

/-- RAIL_OUT_OF_RANGE: supply monitor `src` (448 to 456) reports its rail; the core die is held, and the source's bit is set in
the island (R51, R599, R706). -/
def execRailOutOfRange (src : Nat) (s : State) : Res :=
  .next (if src < 448 || src > 456 then s
    else
      let s1 := { s with pwr := { s.pwr with railsOut := insertNat src s.pwr.railsOut } }
      let s2 := if !s1.coreRuns then s1
        else
          let s3 := s1.intoReset
          { s3 with pwr := { s3.pwr with held := true } }
      s2.raise src 0 0)

/-- SUPPLY_RESTORED: PWR_GOOD and every monitor good for 1 ms: the core die leaves the reset of R51 as a warm reset. -/
def execSupplyRestored (i : SlateInputs) (s : State) : Res :=
  let s1 := { s with pwr := { s.pwr with pwrGood := true, railsOut := [] } }
  .next (if s1.pwr.held && s1.pwr.rootOk && !s1.boot.slateFailed && !s1.pwr.porstLow then
      (s1.setF Fld.PLT_RSTCAUSE_SUPPLY 1).slateRun i
    else s1)

/-- ROOT_REFERENCE_LOSS: the core die stops, and the motion die sees the link down (R82). -/
def execRootReferenceLoss (s : State) : Res :=
  let s1 := { s with pwr := { s.pwr with rootOk := false } }
  .next (if !s1.coreRuns then s1
    else
      let s2 := s1.intoReset
      { s2 with pwr := { s2.pwr with held := true } })

/-- ROOT_REFERENCE_RETURN: within ±2 % for 10 ms: a warm reset, or for code 0x02 another try of Slate (R68, R82). -/
def execRootReferenceReturn (i : SlateInputs) (s : State) : Res :=
  let s1 := { s with pwr := { s.pwr with rootOk := true } }
  .next (if s1.pwr.porstLow || !s1.pwr.held then s1
    else if s1.boot.slateFailed then (if s1.getF Fld.PLT_STAGE_FAILCODE = 2 then s1.slateRun i else s1)
    else if !s.pwr.rootOk && s1.pwr.pwrGood && s1.pwr.railsOut.isEmpty then (s1.setF Fld.PLT_RSTCAUSE_ROOT_LOSS 1).slateRun i
    else s1)

-- ---------------------------------------------------------------------------------------------------------------
-- The end of Slate (R60, R62, R68, R706)

/-- SLATE_DEADLINE: 120 ms after PORST_N release without Slate complete (R68). -/
def execSlateDeadline (s : State) : Res :=
  .next (if s.boot.slateRunning && !s.boot.slateDone then s.slateFail 0x0C else s)

/-- Forward once each bit set since the reset began: the first 32 with kind and address, in the order they came (R706). -/
def State.forwardKept (s : State) : State :=
  let kept := s.fcl.kept
  let rest := (s.fcl.setBefore.filter (fun x => !kept.any (fun m => m.source == x))).map (fun x => (⟨x, 0, 0⟩ : FaultMsg))
  let s1 := { s with fcl := { s.fcl with kept := [], setBefore := [] } }
  (kept ++ rest).foldl State.forward s1

/-- Event 524 tells of a life-cycle transition that the warm reset completed (R660). -/
def State.tellTransition (s : State) : State :=
  match s.lcm.eventDue with
  | none => s
  | some t =>
    let s1 : State := { s with lcm := { s.lcm with eventDue := none } }
    s1.event 524 t

/-- SLATE_COMPLETE: step 10. The CAN node runs and sends the beacon from now on, GDP serves, the stage is Slate, and what was
held back is told: faults of R706, event 524 of R660, event 515 when the part waits for a spin-up request (R69). -/
def execSlateComplete (s : State) : Res :=
  .next (if !s.coreRuns || s.boot.slateDone || !(s.boot.slateStep = 9 || (s.boot.slateStep = 7 && s.tst.hold)) then s
    else
      let s1 := { s with boot := { s.boot with slateDone := true, slateRunning := false, slateStep := 10 },
                         ash := { s.ash with beaconOn := false } }
      let s3 := (s1.canUp.setF Fld.ETH_STATUS_REFOK 1).setStage 1
      let s4 := s3.forwardKept
      let s5 := s4.tellTransition
      if s5.dictNum 0x2100 6 = 1 then s5.event 515 0 else s5)

-- ---------------------------------------------------------------------------------------------------------------
-- The beacon (R57 to R61)

/-- The 16 bytes of a beacon frame (R57). While Ash lasts SEVERITY covers motion-die sources only (R58). -/
def State.beaconBytes (s : State) (v12 vbus rpm : Nat) (temp : BitVec 8) : List Byte :=
  let own := s.ash.latched.map (·.source) ++ s.stickySources.filter (fun x => 352 ≤ x && x < 368)
  let sev := if s.stage = 0 then own.foldl (fun m x => max m (s.severity x + 1)) 0 else s.highest
  let flags := b2n s.faultNLow + 2 * b2n (!s.motionLinkUp) + 4 * b2n (s.parked 0) + 8 * b2n (s.parked 1)
    + 16 * b2n s.pwr.v12Good + 32 * b2n s.pwr.v33Good + 64 * b2n s.pwr.pwrGood + 128 * b2n (decide (rpm > 30))
  leBytes 1 (s.stage + 128 * b2n (!s.ash.beaconOn)) ++ leBytes 1 (s.getF Fld.PLT_STAGE_FAILCODE) ++ leBytes 1 flags
    ++ leBytes 1 sev ++ leBytes 2 v12 ++ leBytes 2 vbus ++ leBytes 2 (min rpm 0xFFFF) ++ [temp] ++ [s.ash.seq]
    ++ leBytes 4 (s.pwr.timeUs / 1000)

/-- A beacon is due from the motion die, or from the CAN node of a core die that runs and is not silent or off the bus. -/
def State.beaconDue (s : State) : Bool :=
  s.ash.nodeId != 0 && (s.ash.beaconOn || (s.boot.slateDone && s.getF Fld.CAN_STATUS_STATE < 2))

/-- BEACON: every 100 ms a frame is queued, with V12 and VBUS in 10 mV, the speed in rpm and the temperature as measured;
`wins` tells that it wins arbitration at once. The motion die sends without bit-rate switching (R57, R58, R60). -/
def execBeacon (v12 vbus : Nat) (temp : BitVec 8) (wins : Bool) (s : State) : Res :=
  .next (if !s.beaconDue then s
    else
      let s1 := (s.setF Fld.MFE_VSENSE_V12 (senseVolts v12)).setF Fld.MFE_VSENSE_VBUS (senseVolts vbus)
      let frame := s1.beaconBytes (senseVolts v12) (senseVolts vbus) (s.speed16 / 16) temp
      let s2 := { s1 with ash := { s1.ash with seq := s1.ash.seq + 1, temp := temp, frame := frame, queued := !wins } }
      let id := 0x680 + s2.ash.nodeId.toNat
      if !wins then s2 else if s2.ash.beaconOn then s2.emit (.canFrame id false frame) else s2.canSend id frame)

/-- BEACON_DROP: a frame not sent within 100 ms is dropped; SEQ has counted it (R59). -/
def execBeaconDrop (s : State) : Res := .next { s with ash := { s.ash with queued := false, frame := [] } }

-- ---------------------------------------------------------------------------------------------------------------
-- Reset requests (R28 to R32, R79 to R81)

/-- PLT_RSTREQ takes a host write: the core die runs, and bits marked M are open in Manufacture and Returned alone. -/
def State.takesRequest (s : State) (open_ : Bool) : Bool := s.coreRuns && (open_ || s.manufacture || s.returned)

/-- The reset of domain `d` on request: its bit in 0x2100:0B, and the cause when it is complete. -/
def State.requestDomain (s : State) (d : Nat) : State :=
  let s1 := (s.domainReset d).setF Fld.PLT_RSTCAUSE_DOMAIN 1
  { s1 with boot := { s1.boot with domainsReset := s1.boot.domainsReset ||| 2 ^ d } }.settle

/-- A warm reset by PLT_RSTREQ.WARM (R79). -/
def State.requestWarm (s : State) (i : SlateInputs) : State := (s.warmReset Fld.PLT_RSTCAUSE_WARM_REQ).slateRun i
/-- A Buffer domain reset, carried out as a warm reset (R28, R81). -/
def State.requestBuffer (s : State) (i : SlateInputs) : State := (s.requestDomain 1).slateRun i

def execRstreqWarm (i : SlateInputs) (s : State) : Res := .next (if s.takesRequest true then s.requestWarm i else s)
def execRstreqBuffer (i : SlateInputs) (s : State) : Res := .next (if s.takesRequest false then s.requestBuffer i else s)
/-- RSTREQ_HOST: the effects of a CXL reset (R81); LINK_TRAINING tells of the retraining. -/
def execRstreqHost (s : State) : Res := .next (if s.takesRequest true then s.requestDomain 2 else s)
def execRstreqObject (s : State) : Res := .next (if s.takesRequest true then s.requestDomain 3 else s)
/-- Both media domains are reset together by one write, and DEC with them (R30). -/
def State.requestBothMedia (s : State) : State :=
  let s1 := ((s.requestDomain 4).requestDomain 5)
  ((s1.resetHidden 15).resetRegsOf 15).settle

/-- RSTREQ_MEDIA0: bit MEDIA0; `both` tells that the same write sets MEDIA1 as well (R30, R81). -/
def execRstreqMedia0 (both : Bool) (s : State) : Res :=
  .next (if !s.takesRequest false then s else if both then s.requestBothMedia else s.requestDomain 4)
/-- RSTREQ_MEDIA1: bit MEDIA1; `both` tells that the same write sets MEDIA0 as well (R30, R81). -/
def execRstreqMedia1 (both : Bool) (s : State) : Res :=
  .next (if !s.takesRequest false then s else if both then s.requestBothMedia else s.requestDomain 5)
def execRstreqMotion (s : State) : Res := .next (if s.takesRequest false then s.requestDomain 6 else s)

/-- Whether the command in slot `x` waits on media domain `k` (R32): a FLUSH that covers a segment placed there or a stripe left open
there, or a GET_RANGE, VERIFY, SEAL or MIGRATE to the host that passed its checks and reads a sector there. -/
def State.waitsOnMedia (s : State) (k : Nat) (x : Slot) : Bool :=
  let e := x.entry
  match entOpcode e with
  | 0x48 =>
    x.stage = 3 && (s.obj.jobs.any (fun j => j.order != 0 && j.order < x.order && j.actuator == k)
      || s.obj.recs.any (fun w => w.order != 0 && w.order < x.order && w.stream == k)
      || s.obj.openStripes.any (fun g => actuatorOf (psaSurface g) == k))
  | 0x42 | 0x47 =>
    match s.readVersion x with
    | none => false
    | some v =>
      x.stage = 0 && !s.damagedVersion v.key v.ver
        && (if entOpcode e = 0x42 then decide (numAt e 32 8 + entBufLen e ≤ v.size) && s.needsMedia k v (numAt e 32 8) (entBufLen e)
            else v.sealed.isSome && s.needsMedia k v 0 v.size)
  | 0x41 =>
    match s.version (entKey e) (entVersion e) with
    | none => false
    | some v =>
      (x.stage = 0 || x.stage = 3) && !s.damagedVersion v.key v.ver && decide (v.end_ ≤ numAt e 32 8)
        && s.needsMedia k v 0 (numAt e 32 8)
  | 0x49 =>
    migToHost e && x.stage = 0 && s.mig.tx.isNone && (match s.migStart e with
      | none => false
      | some p => (unitsRead (entBufLen e - 64) (numAt e 44 4) (s.toMigrate (entKey e) (entFlags e % 256) p)).any
          (fun v => s.needsMedia k v 0 v.end_))
  | _ => false

/-- MEDIA_SERVICE_TIMEOUT: media domain `k` has been out of service for 30 s: each command that waits on it completes with
MEDIA_UNAVAILABLE, and so does each that comes to need it until it is back, a MIGRATE that runs among them (R32). -/
def execMediaServiceTimeout (k : Nat) (s : State) : Res :=
  if !s.mediaOut k then .next s
  else
    let s1 := { s with boot := { s.boot with svcTimedOut := insertNat (domMedia k) s.boot.svcTimedOut } }
    let waiting := s1.qmg.slots.filter (s1.waitsOnMedia k)
    -- a FLUSH closes the stripes that can be closed (R131)
    let s2 := if waiting.any (fun x => entOpcode x.entry == 0x48) then s1.closeStripes else s1
    (waiting.foldl (fun t x => t.complete x.qid x.tag St.mediaUnavailable 0) s2).migPump.done

-- ---------------------------------------------------------------------------------------------------------------
-- Ochre (R69 to R73, R671)

/-- SPIN_UP_DELAY_END: the delay of 0x2100:07 is over; spin-up is automatic with 0x2100:06 at 0 (R69). -/
def execSpinUpDelayEnd (s : State) : Res :=
  .next (if s.boot.slateDone && s.stage = 1 then { s with boot := { s.boot with delayEnded := true } } else s)

/-- A request to spin up while the part waits in Slate (R69). -/
def State.spinUpNow (s : State) : State :=
  if s.boot.slateDone && s.stage = 1 && !s.boot.abandoned then { s with boot := { s.boot with spinRequested := true } } else s

def execSpinUpNow (s : State) : Res := .next s.spinUpNow

/-- Ochre begins (R70): the self-check of both motion depths goes before a spin-up (R671); a spindle held at speed starts at
step 3 (R612), and actuators that stay loaded have passed it. -/
def State.beginOchre (s : State) (selfOk : Bool) : State :=
  let n := if s.stage = 2 then s.getF Fld.PLT_STAGE_ATTEMPT else if s.stage = 3 then 1 else s.getF Fld.PLT_STAGE_ATTEMPT + 1
  let s1 := if s.boot.stageKept then s else (s.setF Fld.PLT_STAGE_ATTEMPT (min n 255)).setStage 2
  let spinning := s1.isSet Fld.SPM_STATUS_AT_SPEED && s1.spm.focOn
  let step := if !spinning then 0 else if s1.boot.locked = [0, 1] then 3 else 2
  let s2 := { s1 with boot := { s1.boot with ochreRunning := true, retryWait := false, ochreStep := step } }
  if spinning then s2
  else if !selfOk then (s2.raise 98 0 0).ochreFail 0x20
  else ({ s2 with spm := { s2.spm with spinDown := false, blackBraked := false } }).startSpin.settle

/-- Qualification starts in Manufacture (R244). A drive whose surfaces carry no readable Ivory track is brought up first as in Ochre steps 1
to 3, with the self-check of both motion depths before the spin-up, of outcome `selfOk`; when a step fails, qualification fails (R247,
R671). -/
def State.beginQualification (s : State) (selfOk : Bool) : State :=
  if !s.manufacture || s.qualStatus = 1 then s
  else if s.media.drive.isSome || s.boot.locked = [0, 1] then s.startQualification
  else
    let s1 := ({ s with boot := { s.boot with bringUp := true }, media := { s.media with qual := [] } }).setDictNum 0x3400 4 1 1
    if s1.isSet Fld.SPM_STATUS_AT_SPEED && s1.spm.focOn then s1
    else if !selfOk then (s1.raise 98 0 0).bringUpFails
    else ({ s1 with spm := { s1.spm with spinDown := false, blackBraked := false } }).startSpin

def execStartQualification (selfOk : Bool) (s : State) : Res := .next (s.beginQualification selfOk).settle

/-- OCHRE_START: the conditions of R69 hold; `selfOk` is the outcome of R671. -/
def execOchreStart (selfOk : Bool) (s : State) : Res := .next (if s.ochreMayBegin then s.beginOchre selfOk else s)

/-- OCHRE_DEADLINE: Ochre has run past 0x2100:05 (R71). -/
def execOchreDeadline (s : State) : Res :=
  .next (if (s.stage = 2 || (s.boot.stageKept && s.boot.ochreRunning)) && !s.isSet Fld.FCL_STATUS_SAFE then s.ochreFail 0x25 else s)

/-- OCHRE_RETRY: the 5 s wait is over and Ochre restarts (R71); not while a Black bit is set (R612). -/
def execOchreRetry (selfOk : Bool) (s : State) : Res :=
  .next (if s.boot.retryWait && s.stage = 1 && s.boot.slateDone && s.motionLinkUp && !s.retracting 0 && !s.retracting 1
      && !s.blackSet then s.beginOchre selfOk
    else s)

/-- Whether a write of 1 to 0x2100:04 is taken: once Slate is complete and before Cobalt (R67, R570); else it is refused with
ACCESS. -/
def State.restartAccess (s : State) : Bool := s.boot.slateDone && (s.stage = 1 || s.stage = 2)

/-- Ochre restarts with a fresh attempt count (R72). The spec does not say whether this clears the failure code, nor whether it is
also the spin-up request of R69: FAILCODE stays until Cobalt opens, and the restart is taken as a request, so 0x2100:06 and 0x2100:07
do not hold it (DESIGN CHOICE, assumption log 65). -/
def State.restartOchre (s : State) : State :=
  let s1 := (s.bringUpFails.setF Fld.PLT_STAGE_OCHRE_FAIL 0).setF Fld.PLT_STAGE_ATTEMPT 0
  let s2 := s1.setStage 1
  { s2 with boot := { s2.boot with abandoned := false, retryWait := false, ochreRunning := false, spinRequested := true,
                                   restore := false, stageKept := false } }

def execRestartOchre (s : State) : Res := .next (if s.restartAccess then s.restartOchre else s)

/-- The drive is formatted with DRIVE_ID `id`, and Ochre restarts (R247). -/
def State.runFormat (s : State) (id : List Byte) : State :=
  let s1 := (s.formatDrive id).setDictNum 0x3400 6 1 3
  let clear (t : State) (k : Nat) : State := t.setChn k { t.chn k with ops := [], cut := false, adjacent := [], ring := [] }
  ((clear (clear s1 0) 1).restartOchre).settle

/-- FORMAT_DRIVE: refused outside Manufacture, while qualification runs or has not passed, and for a plan the part cannot use. `id` is
what KEY draws for DRIVE_ID; a draw of zero is not taken (R247). -/
def execFormatDrive (id : List Byte) (s : State) : Res :=
  .next (if !s.formatAccess || s.planBad || id.all (· == 0) then s else s.runFormat id)

-- ---------------------------------------------------------------------------------------------------------------
-- Steps 4 to 7 of Ochre, Cobalt (R70, R73, R75, R78, R705)

/-- The descriptor that one Ivory track of surface `h` yields; `lost` lists the Ivory sectors, by head and wedge, that did not
decode (R137). -/
def State.readIvory (s : State) (lost : List (Nat × Nat)) (h : Nat) : Option (List Byte × Bool) :=
  (Assoc.find s.disk.ivory h).bind (fun l =>
    assembleIvory ((l.filter (fun p => !lost.contains (h, p.1))).map (·.2)))

/-- Ochre step 4 (R70, R109, R705): code 0x22 or 0x23, or 0 and the state with the drive and its surfaces known, the zone slots
written (R191), the scrub positions taken from bank 3 (R241) and the format plan filled (R247). -/
def State.ivoryStep (s : State) (lost : List (Nat × Nat)) : Nat × State :=
  match s.readIvory lost 0 with
  | none => (0x22, s)
  | some first =>
    let n := numAt first.1 0x0E 1
    let heads := headsOf (if n < 2 || n > 24 then 1 else n)
    let read := heads.map (fun h => (h, s.readIvory lost h))
    if read.any (fun p => p.2.isNone) then (0x22, s)
    else
      let ds := read.filterMap (fun p => p.2.map (fun d => (p.1, d)))
      let bad := ds.any (fun p =>
        let k := actuatorOf p.1
        descriptorDefect p.2.1 p.2.2 p.1 (s.srate k) (s.wgLead k) || commonOf p.2.1 != commonOf first.1)
      if bad then (0x23, s)
      else
        let fs := ds.map (fun p => descSurface p.2.1)
        let s1 := { s with media := { s.media with drive := some (descDrive first.1), surfaces := fs,
                                                   scrub := s.nvc.scrubPos } }
        let put (t : State) (f : Surface) : State :=
          let k := actuatorOf f.head
          f.zones.foldl (fun u z => u.packWords (0x2010000 + 0x200000 * k + 64 * (64 * (f.head % 12) + z.zone)) (zoneBytes z)) t
        (0, (fs.foldl put s1).fillPlan)

/-- Ochre step 5 (R78, R167, R200): the channel tables of bank 3 come into force; for the heads in `stale` and the zones without tables,
training makes them, bank 3 takes them, and η is computed (R43). `offsets` are the residual ADC offsets
of the two actuators in LSB. -/
def State.tableStep (s : State) (stale : List Nat) (offsets : Nat × Nat) : State :=
  let all := s.allZones
  let train := all.filter (fun p => stale.contains p.1 || (Assoc.find s.nvc.tables (headZone p.1 p.2)).isNone)
  let s1 := train.foldl (fun t p => t.train (headZone p.1 p.2)) { s with media := { s.media with tables := s.nvc.tables } }
  let s2 := { s1 with nvc := { s1.nvc with tables := s1.media.tables } }
  let s3 := train.foldl State.zoneEfficiency s2
  let s4 := if offsets.1 > 4 then s3.raise 208 0 0 else s3
  if offsets.2 > 4 then s4.raise 224 0 0 else s4

/-- Cobalt (R75): the object service opens. The time is recorded at a start; event 517 tells of the return from the safe state
(R612). -/
def State.openCobalt (s : State) : State :=
  let start := !s.boot.restore && !s.boot.reopen
  let s1 := { s with boot := { s.boot with ochreRunning := false, ochreStep := 7, restore := false, stageKept := false,
                                           cobaltMs := if start then s.pwr.timeUs / 1000 % 2 ^ 32 else s.boot.cobaltMs } }
  let s2 := (s1.setF Fld.PLT_STAGE_FAILCODE 0).setStage 3
  let s3 : State := { s2 with boot := { s2.boot with reopen := false } }
  if s2.boot.reopen then s3.event 517 0 else s2

/-- Both actuators are in service (R73). -/
def State.bothInService (s : State) : Bool := s.boot.locked = [0, 1] && !s.mediaOut 0 && !s.mediaOut 1

/-- The readers that both preamps enable for reading (R258): reader A alone in the Ivory profile, else all three. -/
def State.enableReaders (s : State) (r : Nat) : State := (s.preampSet 0 3 r []).preampSet 1 3 r []

/-- COBALT: steps 4 to 7 of Ochre, once step 3 has ended on both actuators. A step that fails stops Ochre with its code. -/
def execCobalt (lost : List (Nat × Nat)) (stale : List Nat) (offsets : Nat × Nat)
    (s : State) : Res :=
  .next (if !s.boot.ochreRunning || s.boot.ochreStep < 3 || !s.bothInService then s
    else
      let (code, s0) := (((s.useIvory 0).useIvory 1).enableReaders 1).ivoryStep lost
      let s1 := s0.enableReaders 7
      if code != 0 then s1.ochreFail code
      else
        let s2 := s1.tableStep stale offsets
        if s2.obj.recovered then s2.openCobalt
        else match s2.recoverIndex with
          | none => s2.ochreFail 0x24
          | some s3 => s3.openCobalt)

-- ---------------------------------------------------------------------------------------------------------------
-- The die-to-die link (R16 to R21)

/-- The link goes down on both dies (R19, R20). -/
def State.linkLost (s : State) : State := s.motionLinkDown.coreLinkDown.settle

/-- The resends of the flit that one die receives become `n` (R16). -/
def State.setResends (s : State) (motion : Bool) (n : Nat) : State :=
  if motion then { s with d2d := { s.d2d with motionResends := n } } else { s with d2d := { s.d2d with resends := n } }

/-- D2D_FLIT_RECEIVE: a flit arrives at the motion die or at the core die. With a CRC error it is resent; when the fourth resend fails
too, the link is down (R16). -/
def execD2dFlitReceive (motion crcOk : Bool) (s : State) : Res :=
  let n := if motion then s.d2d.motionResends else s.d2d.resends
  .next (if !s.d2d.coreUp then s
    else if crcOk then
      let s1 := s.setResends motion 0
      { s1 with d2d := { s1.d2d with flits := s1.d2d.flits + 1 } }
    else if n < 4 then s.setResends motion (n + 1)
    else (s.setResends motion 0).linkLost)

/-- D2D_RESEND_LIMIT: the fourth resend of a flit has failed on either die (R16). Nothing happens while no flit has been resent four
times (assumption log 5). -/
def execD2dResendLimit (s : State) : Res :=
  .next (if s.d2d.resends = 4 || s.d2d.motionResends = 4 then ((s.setResends false 0).setResends true 0).linkLost else s)

/-- D2D_LINK_TIMEOUT: the motion die has received no valid flit for 10 µs (R17). -/
def execD2dLinkTimeout (s : State) : Res := .next s.linkLost

/-- D2D_LINK_UP: the link is up again: latched faults arrive, the CAN node sends the beacon again, and media service returns
through Ochre alone (R21, R60, R706). -/
def execD2dLinkUp (s : State) : Res :=
  .next (if !s.coreRuns || s.boot.slateStep < 7 || (s.motionLinkUp && s.d2d.coreUp) then s
    else
      let s1 := s.linkUp
      let s2 := { s1 with ash := { s1.ash with beaconOn := s1.ash.beaconOn && !s1.boot.slateDone } }
      let s3 := { s2 with boot := { s2.boot with ochreRunning := false, stageKept := false,
                                                 restore := s2.boot.restore || decide (s2.stage = 3) } }
      s3.setF Fld.SPM_STATUS_AT_SPEED 0)

-- ---------------------------------------------------------------------------------------------------------------
-- The reference of the Ethernet port (R88)

/-- REFERENCE_DEVIATION: the root is beyond ±300 ppm over 100 µs: ETH holds its link down (R88). -/
def execReferenceDeviation (s : State) : Res :=
  .next (if !s.isSet Fld.ETH_STATUS_REFOK then s else ((s.setF Fld.ETH_STATUS_REFOK 0).ethDown).settle)

/-- REFERENCE_DEVIATION_CLEARED: the root is back; the link may come up again (R88). -/
def execReferenceDeviationCleared (s : State) : Res := .next (if s.coreRuns then s.setF Fld.ETH_STATUS_REFOK 1 else s)

end Sys2Proof.Machine
end

