-- ==== Sys2Proof/Machine/Collector.lean ====
section
/-!
DEFINITION. The fault collector's own commands: messages, the ends of reactions, clearing sticky bits, watchdogs, lockstep
(R26, R596 to R617).
Choices: assumption log 49, 61.
-/
namespace Sys2Proof.Machine
open Sys2Proof

-- ---------------------------------------------------------------------------------------------------------------
-- Fault messages (R596 to R603)

/-- The Grey sources that a table names. -/
def greySources : List Nat :=
  [80, 97, 112, 113, 119, 129, 131, 132, 145, 160, 163, 178, 179, 212, 228, 243, 245, 261, 277, 289, 292, 305, 308, 322, 323,
   338, 361, 369, 372, 374, 384, 385, 403, 416, 417, 434, 466, 492]

/-- A table names the source; no other is ever raised (R602). -/
def namedSource (src : Nat) : Bool :=
  greySources.contains src || amberSources.contains src || vermilionSources.contains src || blackSources.contains src

/-- A sector of the sample ring is reported as DECODE_FAIL: the one `psa` names, else every one without a verdict (R196). -/
def State.ringParity (s : State) (k psa : Nat) : State :=
  let waiting := (s.chn k).ring.filter (fun r => r.verdict == 0)
  let hit := if waiting.any (fun r => r.psa == psa) then waiting.filter (fun r => r.psa == psa) else waiting
  hit.foldl (fun t r => (t.cancelWork r.psa).erase k r.psa r.kind 2 r) s

/-- The sector in instance `n` is reported as DECODE_FAIL and is not confirmed (R215). -/
def State.messageParity (s : State) (n : Nat) : State :=
  match s.dec.inst.getD n none with
  | none => s
  | some w =>
    let s1 := s.setInst n none 0
    (match w.stored, (s1.chn w.k).ring.find? (fun (r : RingSector) => r.psa == w.psa && r.verdict == 0) with
    | none, some r => s1.erase w.k w.psa r.kind 2 r
    | _, _ => s1.ladderBack w).dispatchAll

/-- Every key is cleared and both IDE streams are Insecure (source 433). -/
def State.clearKeys (s : State) : State :=
  let s1 := (s.setKeys 0 0).setKeys 1 0
  { s1 with nvc := { s1.nvc with pairKeys := [] }, cxc := { s1.cxc with spdm := false }, mig := s1.mig.dropSessions }

/-- Migration sessions are lost with MIG's state (source 402): receivers drop what is not committed, and a sender establishes its
session again (R551, R563). -/
def State.loseSessions (s : State) : State :=
  let s1 := s.mig.rx.foldl (fun (t : State) (r : MigRx) => t.dropRx r.slot) s
  match s1.mig.tx with
  | some t => s1.setMig { s1.mig with tx := some { t with phase := 4, session := 0 } }
  | none => s1

/-- What the detecting unit does itself on every occurrence, before its message is collected (R191, R196, R215, R536, R603). -/
def State.localAction (s : State) (src addr : Nat) : State :=
  match src with
  | 209 => s.ringParity 0 addr
  | 225 => s.ringParity 1 addr
  | 210 => (s.setChn 0 { s.chn 0 with gateFault := true }).inhibit 0 11
  | 226 => (s.setChn 1 { s.chn 1 with gateFault := true }).inhibit 1 11
  | 240 => s.messageParity addr
  | 144 => if addr < 32 && s.getF (Fld.DMA_STAT_STATE addr) = 1 then (s.setF (Fld.DMA_STAT_CAUSE addr) 1).dmaEnd addr 4 8 else s
  | 402 => s.loseSessions
  | 433 => s.clearKeys
  | _ => s

/-- A copy fails its CRC: discarded and counted, source 49 (R597). -/
def State.corruptCopy (s : State) : State := (s.bumpF Fld.FCL_CNT_CORRUPT 1).raise 49 0 0

/-- FAULT_MESSAGE: a source detects its fault and sends its message twice; `ok1` and `ok2` tell which copies pass their CRC. The
first that passes is collected. Motion-die messages wait for the link; those of the core die need it out of reset (R596, R597,
R706). -/
def execFaultMessage (src kind addr : Nat) (ok1 ok2 : Bool) (s : State) : Res :=
  let motion := decide (352 < src && src < 368)
  .next (if !namedSource src || kind > 63 || addr ≥ 2 ^ 48 || !(motion || src ≥ 448 || s.coreRuns) then s
    else
      let s1 := s.localAction src addr
      let s2 := if ok1 then s1 else s1.corruptCopy
      let s3 := if ok2 then s2 else s2.corruptCopy
      if !ok1 && !ok2 then s3
      else if motion then s3.raiseMotion src kind addr
      else s3.raise src kind addr)

-- ---------------------------------------------------------------------------------------------------------------
-- The end of reactions (R607, R608, R610, R613)

/-- REACTION_END: every part of the reaction has ended; a Black one runs until both actuators are parked. -/
def execReactionEnd (s : State) : Res :=
  .next (match s.fcl.reaction with
    | none => s
    | some r =>
      if r.sev = 3 && s.offRamp then s
      else ({ s with fcl := { s.fcl with reaction := none } }).setF Fld.FCL_STATUS_REACT 0)

/-- REACTION_TIMEOUT: a Vermilion reaction has not completed within 100 ms: source 50, and it escalates to Black whatever the
severity of that source (R600, R608). -/
def execReactionTimeout (s : State) : Res :=
  .next (match s.fcl.reaction with
    | none => s
    | some r =>
      if r.sev != 2 then s
      else
        let s1 := s.raise 50 0 0
        match s1.fcl.reaction with
        | none => s1
        | some q =>
          if q.sev = 3 then s1
          else
            let s2 := { s1 with fcl := { s1.fcl with reaction := some { q with sev := 3 } } }
            (((s2.setF Fld.FCL_STATUS_REACTSEV 3).stat 0x8020 3 1).enterSafe q.first).settle)

/-- STORAGE_COMPARE: the two copies of the sticky bits and severities are compared (R601). -/
def execStorageCompare (agree : Bool) (s : State) : Res :=
  let s1 := { s with fcl := { s.fcl with storageSplit := !agree } }
  .next (if agree then s1 else s1.raise 48 0 0)

-- ---------------------------------------------------------------------------------------------------------------
-- Clearing sticky bits (R605, R612)

/-- What waits for a source to be cleared is released: write-inhibit bit 7 with the last clock source of R91, bit 11 with the CHN
faults of its actuator, bit 8 with the last Black bit (R263); heads with a writer fault take new segments again once it is cleared
(R270). -/
def State.releaseCleared (s : State) : State :=
  let s1 := if gateClockSources.any (fun x => s.sticky x) then s else s.uninhibitBoth 7
  let chn (t : State) (k : Nat) : State :=
    if t.sticky (210 + 16 * k) || t.sticky (211 + 16 * k) then t
    else (t.setChn k { t.chn k with gateFault := false }).uninhibit k 11
  let head (t : State) (k : Nat) : State :=
    if t.sticky (256 + 16 * k) then t
    else { t with obj := { t.obj with closedHeads := t.obj.closedHeads.filter (fun h => h / 12 != k) } }
  let s2 := head (head (chn (chn s1 0) 1) 0) 1
  if s2.blackSet then s2 else s2.uninhibitBoth 8

/-- The safe state ends once no Black bit is left: media service is restored through Ochre (R612). -/
def State.leaveSafe (s : State) : State :=
  if s.blackSet || !s.isSet Fld.FCL_STATUS_SAFE then s
  else
    let s1 := s.setF Fld.FCL_STATUS_SAFE 0
    let was := decide (s1.stage = 3)
    { s1 with boot := { s1.boot with restore := s1.boot.restore || was, reopen := s1.boot.reopen || was,
                                     ochreRunning := false, stageKept := false } }

/-- A clear of `src` counts unless its reaction runs (R605). -/
def State.mayClear (s : State) (src : Nat) : Bool :=
  match s.fcl.reaction with
  | some r => !r.joined.contains src
  | none => true

/-- One sticky bit is cleared. -/
def State.clearSticky (s : State) (src : Nat) : State :=
  if src > 511 || !s.sticky src || !s.mayClear src then s else ((s.setSticky src false).releaseCleared).leaveSafe

/-- Every sticky bit is cleared, subject to R605. -/
def State.clearAllSticky (s : State) : State := s.stickySources.foldl State.clearSticky s

def execClearSticky (src : Nat) (s : State) : Res := .next (if s.coreRuns then s.clearSticky src else s)
def execClearAllSticky (s : State) : Res := .next (if s.coreRuns then s.clearAllSticky else s)

-- ---------------------------------------------------------------------------------------------------------------
-- Watchdogs and lockstep (R26, R600, R617)

/-- The domain that a pair's failure resets: 0 the Platform pair, by a warm reset with `cause`, then Media 0, Media 1, Motion and the
object cores. The source joins the reaction; the reset runs whatever its severity. -/
def State.pairFails (s : State) (src pair : Nat) (cause : FieldRef) (i : SlateInputs) : State :=
  let s1 := s.raise src 0 0
  match pair with
  | 0 => (s1.warmReset cause).slateRun i
  | 1 => s1.requestDomain 4
  | 2 => s1.requestDomain 5
  | 3 => s1.requestDomain 6
  | _ => s1.requestDomain 3

/-- WATCHDOG_EXPIRY: 0 the Platform pair, 1 and 2 the media pairs, 3 the Motion pair, 4 the object cores (R617). -/
def execWatchdogExpiry (w : Nat) (i : SlateInputs) (s : State) : Res :=
  .next (if !s.coreRuns || w > 4 then s else s.pairFails (9 + w) w Fld.PLT_RSTCAUSE_WDOG i)

/-- LOCKSTEP_MISMATCH: the outputs of pair 0 Platform, 1 Media 0, 2 Media 1 or 3 Motion differ (R26); during boot Slate fails with
code 0x06 (R77). -/
def execLockstepMismatch (p : Nat) (i : SlateInputs) (s : State) : Res :=
  .next (if !s.coreRuns || p > 3 then s
    else if !s.boot.slateDone then (s.raise (4 + p) 0 0).slateFail 0x06
    else s.pairFails (4 + p) p Fld.PLT_RSTCAUSE_LOCKSTEP i)

end Sys2Proof.Machine
end

