-- ==== Sys2Proof/Machine/RegView.lean ====
section
/-!
DEFINITION. What a register or a dictionary entry reads as: the register file and the entry map, with the fields and entries that
report state held elsewhere (R5, R567 to R579 and the register tables of spec/02 to spec/20).
Choices: assumption log 7, 56, 63.
-/
namespace Sys2Proof.Machine
open Sys2Proof

-- ---------------------------------------------------------------------------------------------------------------
-- Registers

/-- QMG_CTXVIEW for queue `q` (R417, R429, R440). -/
def State.ctxView (s : State) (q : Nat) : Nat :=
  match s.queue q with
  | none => 0
  | some x =>
    2 ^ 24 * (x.errPos % 64) + 2 ^ 16 * (x.tail % 64) + 2 ^ 8 * (x.fetched % 64) + 16 * (x.err % 16) + 8 * b2n x.mailbox.isSome + x.state

/-- QMG_CTXOUT for queue `q`: bit t for each outstanding tag (R438). -/
def State.ctxOut (s : State) (q : Nat) : Nat :=
  match s.queue q with
  | none => 0
  | some x => (List.range 32).foldl (fun a t => a + b2n (s.tagOutstanding x t) * 2 ^ t) 0

/-- KEY_STATUS but its IDE field: pairing slots with a key, the gated root, the zeroise fuse, the random generator, the key store in
service once the boot loader runs. -/
def State.keyView (s : State) (w : Word) : Word :=
  let paired := s.nvc.pairKeys.foldl (fun a p => a + 2 ^ (p.1 - 1)) 0
  let up := s.coreRuns && s.boot.slateStep ≥ 3
  let w1 := (Word.set (Word.set w 23 8 paired) 3 3 (b2n s.lcm.gated)) 
  let w2 := Word.set (Word.set w1 2 2 (b2n s.lcm.zeroised)) 1 1 (b2n (up && !s.lcm.rngBad))
  Word.set w2 0 0 (b2n up)

/-- The bits of `w` that `m` covers, taken from `v`. -/
def merged (m w v : Word) : Word := (w &&& ~~~m) ||| (v &&& m)

/-- A register whose value was loaded from the channel tables reads as loaded, unless it was written since (R164, R168, R200, R260). -/
def State.tableWord (s : State) (a : Nat) (w : Word) : Word :=
  let from_ (l : List Nat) (i : Nat) (m : Word) : Word :=
    match l[i]? with
    | some v => merged m w (BitVec.ofNat 32 v)
    | none => w
  if a = 0x2600024 then from_ (s.pre 0).precomp.toList 0 0x1F1F1F
  else if a = 0x2700024 then from_ (s.pre 1).precomp.toList 0 0x1F1F1F
  else if a < 0x2000000 || a ≥ 0x2400000 then w
  else
    let c := s.chn ((a - 0x2000000) / 0x200000)
    let o := (a - 0x2000000) % 0x200000
    if c.own.contains o then w
    else if 0x40 ≤ o && o < 0x4C then from_ c.front ((o - 0x40) / 4) 0x3FFFF
    else if o = 0x110 then from_ c.front 3 0xFFF0FFF
    else if 0x414 ≤ o && o < 0x424 then from_ c.taps ((o - 0x414) / 4) 0xFFFF
    else if 0x800 ≤ o && o < 0x8C0 then from_ c.taps (4 + (o - 0x800) / 4) 0xFFF
    else w

/-- What register `a` reads as. -/
def State.regView (s : State) (a : Nat) : Word :=
  let w := s.reg a
  match a with
  | 0x0 => Word.set w 15 8 (b2n s.factory.gradeX)
  | 0x300004 => Word.set (Word.set w 25 16 s.stickySources.length) 14 12 s.highest
  | 0x500000 => Word.set (Word.set (Word.set w 16 16 (b2n s.lcm.copiesAgree)) 15 8 s.lcm.pending) 2 0 s.lifeCycle
  | 0x500004 => s.lcm.fuse
  | 0x500008 =>
    let open_ := b2n (s.manufacture || s.returned)
    BitVec.ofNat 32 (4 * b2n s.lcm.scanOpen + 3 * open_)
  | 0x600010 => Word.set w 31 16 s.lcm.repairFuses
  | 0x1600004 => Word.set w 18 18 (b2n s.allQueues)
  | 0x1600104 => BitVec.ofNat 32 (s.ctxView (s.getF Fld.QMG_CTXSEL_QID))
  | 0x1600108 => BitVec.ofNat 32 (s.ctxOut (s.getF Fld.QMG_CTXSEL_QID))
  | 0x4600000 =>
    match s.can.session with
    | some x => Word.set (Word.set w 23 16 x.tid) 11 11 1
    | none => Word.set (Word.set w 23 16 0) 11 11 0
  | 0x4800000 => s.keyView w
  | _ => s.tableWord a w

-- ---------------------------------------------------------------------------------------------------------------
-- Entry descriptors (R577)

/-- Signed types (R568). -/
def signedType (t : DictType) : Bool := t == .i16 || t == .i32 || t == .q15 || t == .q31

/-- Types without an order: R577 gives them no MIN and MAX. -/
def rawType (t : DictType) : Bool := t == .str || t == .blob || t == .key128

def accCode (a : DictAcc) : Nat :=
  match a with
  | .ro => 0 | .rw => 1 | .rwp => 2 | .wo => 3 | .rwm => 4

/-- Entries that a restore of defaults leaves alone within its range (R575). -/
def restoreExcluded (idx : Nat) : Bool := (0x6101 ≤ idx && idx ≤ 0x6110) || idx == 0x5300

/-- Entries whose write starts work (R570, R571). -/
def startsWork (idx sub : Nat) : Bool :=
  [(0x1011, 1), (0x2002, 1), (0x2002, 2), (0x2100, 4), (0x2100, 8), (0x2410, 1), (0x2410, 2), (0x2410, 3), (0x3300, 4),
    (0x3400, 1), (0x3400, 5), (0x4000, 0xE), (0x4010, 6), (0x4140, 9), (0x7000, 2), (0x7010, 2), (0x7020, 2), (0x7020, 4),
    (0x7030, 1)].contains (idx, sub)

/-- The register field of an entry, the first where it reaches several; none for an entry that drives none. -/
def entryField (r : DictRow) (idx sub : Nat) : Option FieldRef :=
  if 0x2010 ≤ idx && idx < 0x2018 then
    let src := 64 * (idx - 0x2010) + sub - 1
    some ⟨0x300100 + 4 * (src / 16), 2 * (src % 16) + 1, 2 * (src % 16)⟩
  else r.drives.map (fun f => ⟨f.addr + (idx - r.idx) * r.idxStep + (sub - r.sub) * r.subStep, f.hi, f.lo⟩)

/-- An entry exists: a row of a table, or the subindex 0 of R567. -/
def entryExists (idx sub : Nat) : Bool := (dictRowAt idx sub).isSome || (sub == 0 && (highestSub idx).isSome)

/-- The row of an entry, that of R567 for a subindex 0 without one of its own. -/
def entryRow (idx sub : Nat) : Option DictRow :=
  match dictRowAt idx sub with
  | some r => some r
  | none =>
    if sub = 0 then (highestSub idx).map (fun n => ⟨idx, 1, 0, 1, .u8, .ro, n, 0, 0xFF, 0, none, 0, 0, .same⟩) else none

/-- MIN and MAX of a row in 8 bytes, sign-extended for signed types. -/
def rowBounds (r : DictRow) : List Byte :=
  if rawType r.ty then zeros 16
  else if signedType r.ty then
    let n := 8 * dictSize r
    leBytes 8 (2 ^ 64 - 2 ^ (n - 1)) ++ leBytes 8 (2 ^ (n - 1) - 1)
  else leBytes 8 r.lo ++ leBytes 8 r.hi

/-- The 48 bytes that describe entry idx:sub (R577). -/
def describeEntry (gradeX : Bool) (r : DictRow) (idx sub : Nat) : List Byte :=
  let f := entryField r idx sub
  let later := (idx == 0x2300 && (sub == 1 || sub == 2 || sub == 5 || sub == 6)) || (idx == 0x1200 && sub == 2)
    || (idx == 0x2310 && sub == 2)
  let flags := b2n f.isSome + 2 * b2n later + 4 * b2n (startsWork idx sub) + 8 * b2n (restoreExcluded idx)
  let dflt := if dictSize r ≤ 8 && r.acc != .wo then leNat (dictDefault r gradeX idx sub) else 0
  leBytes 2 idx ++ leBytes 1 sub ++ leBytes 1 (typeCode r.ty) ++ leBytes 1 (accCode r.acc) ++ leBytes 1 flags
    ++ leBytes 2 (dictSize r) ++ leBytes 8 dflt ++ rowBounds r
    ++ leBytes 4 (match f with | some x => x.addr | none => 0xFFFFFFFF)
    ++ leBytes 1 (match f with | some x => x.hi | none => 0) ++ leBytes 1 (match f with | some x => x.lo | none => 0) ++ zeros 10

/-- The entries of a row after `cursor` that come first at its own index and at the next one; every index has subindex 0. -/
def rowAfter (r : DictRow) (cursor : Nat) : List Nat :=
  let ci := cursor / 256
  let cs := cursor % 256
  let here := if r.idx ≤ ci && ci < r.idx + r.idxCount && max r.sub (cs + 1) < r.sub + r.subCount then
      [256 * ci + max r.sub (cs + 1)] else []
  let j := max r.idx (ci + 1)
  here ++ (if j < r.idx + r.idxCount then [256 * j] else [])

/-- The next existing entry after `cursor`, 0xFFFF_FFFF after the last (R577). -/
def nextEntry (cursor : Nat) : Nat :=
  (dictRows.flatMap (fun r => rowAfter r cursor)).foldl min 0xFFFFFFFF

-- ---------------------------------------------------------------------------------------------------------------
-- Entries that report state (R567, R577, R579, R620, R654, R672)

/-- R620: every severity at or above its default, PINTH at or below Amber, WI_TH and RES_TH at or below their
defaults. -/
def State.guaranteeHolds (s : State) : Bool :=
  let atMost (idx sub d : Nat) : Bool := s.dictNum idx sub ≤ d
  (List.range 512).all (fun x => s.severity x ≥ defaultSeverity x) && s.getF Fld.FCL_CTRL_PINTH ≤ 1
    && [0x3600, 0x3601].all (fun i => atMost i 5 100 && atMost i 6 150)

/-- The event log records that are held: programmed, then queued (R642). -/
def State.heldLog (s : State) : List (List Byte) := s.nvc.log ++ s.nvc.logQueue

/-- SEQ of an event log record. -/
def logSeqOf (r : List Byte) : Nat := numAt r 0 4

/-- ASCII text. -/
def asciiOf (t : String) : List Byte := asciiBytes t.toList

/-- The bytes of a STR without the zero bytes behind its text. -/
def trimZeros (bs : List Byte) : List Byte := ((bs.reverse).dropWhile (· == 0)).reverse

/-- An entry whose value is computed on read; none for one that is held. -/
def State.computedEntry (s : State) (idx sub : Nat) : Option (Option (List Byte)) :=
  let num (n v : Nat) : Option (Option (List Byte)) := some (some (leBytes n v))
  match idx, sub with
  | 0x1008, 0 => some (some (asciiOf (if s.factory.gradeX then "GX-480-X" else "GX-480-S")))
  | 0x100A, 0 => some (some (trimZeros (((s.imageOf s.nvc.running).map (·.version)).getD [])))
  | 0x1018, 6 => some (some s.driveId)
  | 0x1018, 7 => num 8 s.factory.serial
  | 0x1F00, 2 =>
    let c := s.dictNum 0x1F00 1
    some ((entryRow (c / 256) (c % 256)).map (fun r => describeEntry s.factory.gradeX r (c / 256) (c % 256)))
  | 0x1F00, 3 => num 4 (nextEntry (s.dictNum 0x1F00 1))
  | 0x2000, 2 => num 1 (b2n s.guaranteeHolds)
  | 0x2100, 0xA => num 4 s.boot.cobaltMs
  | 0x2100, 0xB => num 1 s.boot.domainsReset
  | 0x2400, 1 => num 1 s.nvc.running
  | 0x2400, 2 =>
    num 1 (if s.nvc.boot.trial != 0 && s.nvc.running = s.nvc.boot.trial then 1 else if s.nvc.fellBack then 2 else 0)
  | 0x2400, 3 => num 1 (if s.nvc.boot.trial != 0 then s.nvc.boot.attempts else 0)
  | 0x2400, 4 => some (some (trimZeros ((s.nvc.image1.map (·.version)).getD [])))
  | 0x2400, 5 => some (some (trimZeros ((s.nvc.image2.map (·.version)).getD [])))
  | 0x2400, 6 => num 1 s.nvc.boot.pending
  | 0x2400, 7 => num 2 s.nvc.boot.floor
  | 0x2420, 2 => some (s.heldLog.find? (fun r => logSeqOf r == s.dictNum 0x2420 1))
  | 0x2420, 3 => num 4 (match s.heldLog with | r :: _ => logSeqOf r | [] => (Config.unstated 0x242003).toNat)
  | 0x2420, 4 => num 4 (match s.heldLog.getLast? with | some r => logSeqOf r | none => (Config.unstated 0x242004).toNat)
  | 0x4140, 0xB =>
    some (some ((List.range s.captureLen).flatMap (fun i => leBytes 4 (s.reg (0x2D00000 + 4 * i)).toNat)))
  | 0x5200, 1 => num 8 s.utc
  | 0x5200, 2 => num 1 (b2n s.obj.clock.isSome)
  | 0x7000, 1 => num 1 s.lifeCycle
  | 0x7000, 3 => num 1 s.lcm.pending
  | 0x7020, 3 =>
    some (some (leBytes 4 (s.reg 0x600104).toNat ++ leBytes 4 (s.getF Fld.TST_LBSTAT_ERRORS) ++ leBytes 8 s.tst.lbBits))
  | 0x7020, 4 => num 1 (b2n s.tst.hold)
  | 0x7030, 2 => num 2 s.lcm.repairFuses
  | 0x8220, 7 => num 4 s.spareBlocks.length
  | i, j =>
    if 0x6101 ≤ i && i ≤ 0x6110 && j = 4 then num 1 (b2n (s.pairKey (i - 0x6100)).isSome)
    else if 0x3420 ≤ i && i < 0x3438 && j = 0 then num 1 (s.planZones (i - 0x3420)).length
    else if (i / 0x100 = 0x84 || i / 0x100 = 0x85 || i / 0x100 = 0x86) && j = 0 && i % 0x100 < 24 then
      num 1 (match s.surfaceOf (i % 0x100) with | some f => f.zones.length | none => 0)
    else none

/-- What entry idx:sub reads as; none where a read returns NO_ENTRY. -/
def State.entryValue (s : State) (idx sub : Nat) : Option (List Byte) :=
  match entryRow idx sub with
  | none => none
  | some r =>
    match s.computedEntry idx sub with
    | some v => v
    | none =>
      if r.acc = .ro then
        match r.drives with
        | some f =>
          some (leBytes (dictSize r)
            (Word.get (s.regView (f.addr + (idx - r.idx) * r.idxStep + (sub - r.sub) * r.subStep)) f.hi f.lo))
        | none => if (dictRowAt idx sub).isSome then some (s.dictBytes idx sub) else some (leBytes 1 r.dflt)
      else some (s.dictBytes idx sub)

/-- The result of a read (R570, R577): its status and the value. -/
def State.dictRead (s : State) (idx sub : Nat) : Nat × List Byte :=
  match entryRow idx sub with
  | none => (Dr.noEntry, [])
  | some r =>
    if r.acc = .wo then (Dr.access, [])
    else match s.entryValue idx sub with
      | some v => (Dr.ok, v)
      | none => (Dr.noEntry, [])

end Sys2Proof.Machine
end

