-- ==== Sys2Proof/Machine/Dictionary.lean ====
section
/-!
DEFINITION. Writes of dictionary entries: the checks of R570, the effects of R571 and of the entries that start work, the restore
of defaults (R567 to R577).
Choices: assumption log 7, 43.
-/
namespace Sys2Proof.Machine
open Sys2Proof

-- ---------------------------------------------------------------------------------------------------------------
-- The checks of R570

/-- The life-cycle states in which an entry is written: RWM and the entries marked so in Manufacture alone, others in Manufacture and
Returned, the rest in every state (R569, R654, R658). -/
def lifeCycleAllows (r : DictRow) (idx sub st : Nat) : Bool :=
  if r.acc = .rwm || [(0x2410, 2), (0x3400, 1), (0x3400, 5), (0x7030, 1)].contains (idx, sub) then st == 1
  else if [(0x2410, 1), (0x4140, 9), (0x7010, 2)].contains (idx, sub) then st == 1 || st == 3
  else true

/-- The access right, the life-cycle state and, for GDP, the write lock permit the access (R570 step 2). -/
def State.permitsWrite (s : State) (gdp : Bool) (r : DictRow) (idx sub : Nat) : Bool :=
  r.acc != .ro && lifeCycleAllows r idx sub s.lifeCycle && !(gdp && s.dictNum 0x1200 6 = 1)

/-- A write that bank 3 has to hold finds no page it could program (R576, R643). -/
def State.storeBlocked (s : State) (r : DictRow) (idx sub : Nat) : Bool :=
  (r.acc == .rwp || r.acc == .rwm || (idx == 0x1011 && sub == 1)) && s.bank3Full

/-- Steps 1 to 3 of R570 for a value of `len` bytes. -/
def State.precheck (s : State) (gdp : Bool) (idx sub len : Nat) : Nat :=
  match entryRow idx sub with
  | none => Dr.noEntry
  | some r =>
    if !s.permitsWrite gdp r idx sub || s.storeBlocked r idx sub then Dr.access
    else if (if r.ty = .str then len > dictSize r else len != dictSize r) then Dr.type
    else Dr.ok

/-- Source 419 tells of each refusal for want of a page (R576). -/
def State.tellBlocked (s : State) (gdp : Bool) (idx sub : Nat) : State :=
  match entryRow idx sub with
  | none => s
  | some r => if s.permitsWrite gdp r idx sub && s.storeBlocked r idx sub then s.raise 419 0 0 else s

/-- The object index region that a buffer layout leaves, in MiB: 960 MiB are fixed (R349). -/
def indexRegion (chsize hdm pool : Nat) : Int := (2 * (4096 * 2 ^ chsize) : Nat) - (960 + 256 * (hdm + pool) : Nat)

/-- The bounds of a row hold for a number of its type; BOOL is 0 or 1 (R568, R570 step 4). -/
def inBounds (r : DictRow) (v : Nat) : Bool := rawType r.ty || signedType r.ty || (r.lo ≤ v && v ≤ r.hi)

/-- Zones of actuator k that a WG_LEAD of `lead` ns breaks under the first condition of R274. -/
def State.leadBreaks (s : State) (k lead : Nat) : Bool :=
  s.media.surfaces.any (fun f => actuatorOf f.head == k && f.zones.any (fun z =>
    !(z.doff * 1000000 * s.srate k ≥ (1300000 + (160 + lead) * s.srate k) * z.rate)))

/-- What single entries ask of a value beyond their bounds (R97, R96, R274, R306, R350, R599 and the ranges of their tables). -/
def State.entryConstraint (s : State) (idx sub : Nat) (bs : List Byte) (v : Nat) : Bool :=
  match idx, sub with
  | 0x2300, 1 => indexRegion v (s.dictNum 0x2300 5) (s.dictNum 0x2300 6) ≥ 1024
  | 0x2300, 5 => indexRegion (s.dictNum 0x2300 1) v (s.dictNum 0x2300 6) ≥ 1024
  | 0x2300, 6 => indexRegion (s.dictNum 0x2300 1) (s.dictNum 0x2300 5) v ≥ 1024
  | 0x3500, 2 => !s.leadBreaks 0 v
  | 0x3501, 2 => !s.leadBreaks 1 v
  | 0x4000, 2 => v == 8 || v == 12
  | 0x4000, 5 =>
    let vt := v * s.dictNum 0x4000 1
    3 * (vt * vt) ≤ 110000 * 110000 && 3 * (vt * vt) ≥ 50000 * 50000
  | 0x5800, 1 => v == 1 || v == 2 || v == 4 || v == 8
  | 0x5800, 2 => v == 1 || v == 3 || v == 4 || v == 5
  | 0x4140, 8 => (List.range 32).all (fun i => numAt bs (4 * i) 2 ≤ 2047)
  | 0x5200, 1 =>
    s.manufacture || (match s.obj.clock with | some _ => v + 1000000 ≥ s.utc | none => true)
  | i, j =>
    if i = 0x2200 then
      (List.range 16).foldl (fun a n => if n + 1 = j then a else a + s.dictNum 0x2200 (n + 1)) v ≤ 1536
    else if i = 0x2201 then !(tintMedia (j - 1) && v != 0)
    else if 0x2010 ≤ i && i < 0x2018 then !(64 * (i - 0x2010) + j - 1 ≥ 448 && v == 3)
    else true

/-- Conditions of the writes that start work, for a value that asks for the work (R72, R247, R300, R301, R319, R635, R659). -/
def State.startRefusal (s : State) (idx sub : Nat) (bs : List Byte) (v : Nat) : Nat :=
  match idx, sub with
  | 0x2100, 4 => if s.restartAccess then Dr.ok else Dr.access
  | 0x2410, 2 => if s.newPasswordAllowed then Dr.ok else Dr.access
  | 0x3400, 5 => if !s.formatAccess then Dr.access else if s.planBad then Dr.range else Dr.ok
  | 0x4140, 9 => if s.cle.inject.isNone && s.injectShort then Dr.range else Dr.ok
  | 0x7000, 2 => s.transitionStatus (leNat bs)
  | 0x3300, 4 => if s.stage = 3 then Dr.ok else Dr.notReady
  | 0x4000, 0xD =>
    if v != s.getF Fld.SPM_CTRL_DIR && s.turning then Dr.access else Dr.ok
  | _, _ => Dr.ok

/-- Steps 4 and 5 of R570 for a value that passed step 3. A BOOL of 0 asks for nothing. -/
def State.valueCheck (s : State) (r : DictRow) (idx sub : Nat) (bs : List Byte) : Nat :=
  let v := leNat bs
  if !inBounds r v || !s.entryConstraint idx sub bs v then Dr.range
  else if r.ty = .bool && v = 0 then Dr.ok
  else s.startRefusal idx sub bs v

-- ---------------------------------------------------------------------------------------------------------------
-- The effects of R571

/-- A value that bank 3 keeps is stored there first; RWP writes are counted (R571, R579). -/
def State.storeEntry (s : State) (r : DictRow) (idx sub : Nat) (bs : List Byte) : State :=
  match r.acc with
  | .rwp => (s.storeValue idx sub bs).stat 0x8010 6 1
  | .rwm => s.storeValue idx sub bs
  | _ => s

/-- Fields that an entry without a row of its own drives: the test and the loopback that 0x7010 and 0x7020 select. -/
def State.applySelection (s : State) (idx sub v : Nat) : State :=
  match idx, sub with
  | 0x7010, 1 => (s.setF Fld.TST_CTRL_TEST v).setF Fld.TST_CTRL_UNIT (bitsOf v 20 16)
  | 0x7020, 1 => s.setReg Fld.TST_LBCTL_GO.addr (BitVec.ofNat 32 (v &&& 0x073FCFFF))
  | 0x5200, 1 => { s with obj := { s.obj with clock := some (v, s.pwr.timeUs) } }
  | i, j =>
    -- a plan entry written anew has not been qualified (R245)
    if 0x3420 ≤ i && i < 0x3438 && 1 ≤ j && j ≤ 64 then
      { s with media := { s.media with qualDone := s.media.qualDone.filter (· != headZone (i - 0x3420) (j - 1)) } }
    else s

/-- A held value becomes current and reaches its field, unless its rule names another moment (R571). -/
def State.holdEntry (s : State) (r : DictRow) (idx sub : Nat) (bs : List Byte) : State :=
  let s1 := (s.storeEntry r idx sub bs).setDict idx sub bs
  let s2 := if appliedLater idx sub then s1 else s1.applyEntry idx sub
  s2.applySelection idx sub (leNat bs)

/-- The defaults of every RWP entry from 0x2000 to 0x6FFF are in bank 3, but for the excluded ones; the next warm reset applies
them (R575). -/
def State.restoreDefaults (s : State) : State :=
  let reverts (k : Nat) : Bool :=
    match dictRowAt (k / 256) (k % 256) with
    | some r => r.acc == .rwp && 0x2000 ≤ k / 256 && k / 256 ≤ 0x6FFF && !restoreExcluded (k / 256)
    | none => false
  (s.bank3.filter (fun p => reverts p.1)).foldl (fun (t : State) p =>
    t.storeValue (p.1 / 256) (p.1 % 256) ((entryDefault s.factory.gradeX p.1).getD [])) s

/-- The work that a write starts before it is confirmed; with the status of its own. -/
def State.startWork (s : State) (gdp : Bool) (idx sub : Nat) (bs : List Byte) (a : ActIn) : State × Nat :=
  let v := leNat bs
  match idx, sub with
  | 0x1011, 1 => (s.restoreDefaults, Dr.ok)
  | 0x2002, 1 => (s.clearSticky v, Dr.ok)
  | 0x2002, 2 => (s.clearAllSticky, Dr.ok)
  | 0x2100, 4 => (s.restartOchre, Dr.ok)
  | 0x2100, 8 => (s.spinUpNow, Dr.ok)
  | 0x2410, 1 =>
    let (s1, good) := s.tryUnlock bs
    (s1, if good then Dr.ok else Dr.access)
  | 0x2410, 2 => (s.setPassword bs, Dr.ok)
  | 0x2410, 3 => (s.relock, Dr.ok)
  | 0x3300, 4 => (s.computeEfficiency, Dr.ok)
  | 0x3400, 1 => (s.beginQualification a.selfOk, Dr.ok)
  | 0x3400, 5 => (s.runFormat a.driveId, Dr.ok)
  | 0x4000, 0xE => (s.spinDownUnparked, Dr.ok)
  | 0x4010, 6 => (s.clearLatches, Dr.ok)
  | 0x4140, 9 => (s.startInjection, Dr.ok)
  | 0x7000, 2 => (s.transitionBegin v, Dr.ok)
  | 0x7010, 2 =>
    let w := s.dictNum 0x7010 1
    (s.startTest (w % 16) (bitsOf w 20 16), Dr.ok)
  | 0x7020, 2 => (s.startLoop (s.dictNum 0x7020 1) (b2n (!gdp)) a.testImpl, Dr.ok)
  | 0x7030, 1 => (s.startTest 3 0, Dr.ok)
  | i, j =>
    if 0x6101 ≤ i && i ≤ 0x6110 && j = 3 then
      let s1 := { s with nvc := { s.nvc with pairKeys := Assoc.put s.nvc.pairKeys (i - 0x6100) bs } }
      -- the 24 bytes of the wrapped key are free values: the key of KEY that wraps it is not stated (R639)
      ({ s1 with free := s1.free + 24 }.appendRecord i j (s1.freeBytes 24), Dr.ok)
    else (s, Dr.ok)

/-- What a write that is out of range still does: a multi-sine too short shows in 0x4140:0A (R301). -/
def State.rangeMark (s : State) (idx sub code : Nat) : State :=
  if idx = 0x4140 && sub = 9 && code = Dr.range && s.injectShort then s.setDictNum 0x4140 0x0A 1 3 else s

/-- A write of an entry: the checks of R570 in their order, then the effects of R571 up to its confirmation. Answers the state and
the result of R587. -/
def State.dictWrite (s : State) (gdp : Bool) (idx sub : Nat) (bs : List Byte) (a : ActIn) : State × Nat :=
  let c := s.precheck gdp idx sub bs.length
  if c != Dr.ok then (if c = Dr.access then s.tellBlocked gdp idx sub else s, c)
  else match entryRow idx sub with
    | none => (s, Dr.noEntry)
    | some r =>
      let d := s.valueCheck r idx sub bs
      if d != Dr.ok then (s.rangeMark idx sub d, d)
      else if r.acc = .wo then
        if r.ty = .bool && leNat bs = 0 then (s, Dr.ok) else s.startWork gdp idx sub bs a
      else (s.holdEntry r idx sub bs, Dr.ok)

/-- What follows the confirmation of a write: the rest of a life-cycle transition (R660), and the warm reset that enters or leaves
test hold (R670). -/
def State.dictAfter (s : State) (idx sub : Nat) (bs : List Byte) (a : ActIn) : State :=
  match idx, sub with
  | 0x7000, 2 => s.transitionRun a.cut a.slate
  | 0x7020, 4 => s.testHold (leNat bs = 1) a.slate
  | _, _ => s

-- ---------------------------------------------------------------------------------------------------------------
-- Commands

/-- RESTORE_DEFAULTS: a write of 0x0DEF_A017 to 0x1011:01 (R575, R576). -/
def execRestoreDefaults (s : State) : Res :=
  .next (if !s.boot.slateDone then s
    else if s.bank3Full then s.raise 419 0 0
    else s.restoreDefaults)

end Sys2Proof.Machine
end

