-- ==== Sys2Proof/Machine/Gdp.lean ====
section
/-!
DEFINITION. The Grenolo Dictionary Protocol on CAN FD, and the states of the CAN node (R580 to R595).
Choices: assumption log 47, 48.
-/
namespace Sys2Proof.Machine
open Sys2Proof

-- ---------------------------------------------------------------------------------------------------------------
-- Frames (R581, R582, R584 to R587)

/-- GDP is served: from Slate step 10 on, by a node that is strapped and on the bus (R61, R582, R593). -/
def State.gdpServes (s : State) : Bool :=
  s.coreRuns && s.boot.slateDone && s.ash.nodeId != 0 && s.getF Fld.CAN_STATUS_STATE < 2

/-- A 64 B frame to the client, zero beyond its content (R584). -/
def State.gdpSend (s : State) (bytes : List Byte) : State := s.canSend (0x380 + s.ash.nodeId.toNat) (slice bytes 0 64)

/-- A response: LEN counts the bytes of DATA (R585). -/
def State.gdpRespond (s : State) (cmd tid idx sub status : Nat) (data : List Byte) : State :=
  s.gdpSend (leBytes 1 cmd ++ leBytes 1 tid ++ leBytes 2 idx ++ leBytes 1 sub ++ leBytes 1 status ++ leBytes 2 data.length ++ data)

/-- SEG_ACK with NEXT (R585). -/
def State.gdpAck (s : State) (tid next : Nat) : State := s.gdpSend ([6] ++ leBytes 1 tid ++ leBytes 2 next)

/-- ABORT with its reason (R586). -/
def State.gdpAbort (s : State) (tid idx sub status : Nat) : State := s.gdpRespond 7 tid idx sub status []

def frTid (f : List Byte) : Nat := numAt f 1 1
def frIndex (f : List Byte) : Nat := numAt f 2 2
def frSub (f : List Byte) : Nat := numAt f 4 1
def frLen (f : List Byte) : Nat := numAt f 6 2
/-- SEQ of a segment, NEXT of an acknowledgement. -/
def frSeq (f : List Byte) : Nat := numAt f 2 2

/-- A frame on identifier 0x300 + n reaches the node. One that is not 64 B long is an error frame (R584); an unknown CMD is answered
with PROTOCOL (R587); a frame of another command is another event, and this one does not occur. -/
def State.gdpFrame (s : State) (cmd : Nat) (f : List Byte) (act : State → State) : State :=
  let c := numAt f 0 1
  if !s.gdpServes then s
  else if f.length != 64 then s.bumpF Fld.CAN_CNT_ERRFRM 1
  else if c = cmd then act (s.stat 0x8010 1 1)
  else if 1 ≤ c && c ≤ 8 then s
  else (s.stat 0x8010 1 1).gdpRespond (c ||| 0x80) (frTid f) (frIndex f) (frSub f) Dr.protocol []

-- ---------------------------------------------------------------------------------------------------------------
-- Expedited requests (R588)

/-- READ: a value of up to 56 B. -/
def execRead (f : List Byte) (s : State) : Res :=
  .next (s.gdpFrame 1 f (fun (t : State) =>
    let (c, v) := t.dictRead (frIndex f) (frSub f)
    let c1 := if c = Dr.ok && v.length > 56 then Dr.tooLong else c
    t.gdpRespond 0x81 (frTid f) (frIndex f) (frSub f) c1 (if c1 = Dr.ok then v else [])))

/-- WRITE: a value of up to 56 B, checked and applied. -/
def execWrite (f : List Byte) (a : ActIn) (s : State) : Res :=
  .next (s.gdpFrame 2 f (fun (t : State) =>
    let i := frIndex f
    let j := frSub f
    let v := slice f 8 (frLen f)
    if frLen f > 56 then t.gdpRespond 0x82 (frTid f) i j Dr.protocol []
    else
      let (t1, c) := t.dictWrite true i j v a
      let t2 := t1.gdpRespond 0x82 (frTid f) i j c []
      if c = Dr.ok then t2.dictAfter i j v a else t2))

-- ---------------------------------------------------------------------------------------------------------------
-- Segmented transfers (R589 to R591)

def State.setSession (s : State) (x : Option GdpSession) : State := { s with can := { s.can with session := x } }

/-- The open session ends before its transfer does (0x8010:05). -/
def State.abortSession (s : State) : State := (s.setSession none).stat 0x8010 5 1

/-- Segments of a value. -/
def segCount (size : Nat) : Nat := ceilDiv size 60

/-- SEGMENT `i` of a value (R585). -/
def segmentBytes (tid i : Nat) (v : List Byte) : List Byte := [5] ++ leBytes 1 tid ++ leBytes 2 i ++ slice v (60 * i) 60

/-- The part sends segments, at most 16 beyond the last NEXT (R589). -/
def State.sendSegments (s : State) (x : GdpSession) : State :=
  let till := min (segCount x.size) (x.next + 16)
  let s1 := (List.range (till - x.sent)).foldl (fun (t : State) i => t.gdpSend (segmentBytes x.tid (x.sent + i) x.value)) s
  s1.setSession (some { x with sent := max till x.sent })

/-- A READ_INIT or WRITE_INIT meets an open session: BUSY with another TID; with the same one the session is aborted (R590). -/
def State.sessionTaken (s : State) (tid : Nat) : Bool :=
  match s.can.session with
  | some x => x.tid != tid
  | none => false

def State.makeRoom (s : State) : State := if s.can.session.isSome then s.abortSession else s

/-- READ_INIT: the value of this moment, its SIZE, and its first segments (R589). -/
def execReadInit (f : List Byte) (s : State) : Res :=
  .next (s.gdpFrame 3 f (fun (t : State) =>
    let tid := frTid f
    let i := frIndex f
    let j := frSub f
    if t.sessionTaken tid then t.gdpRespond 0x83 tid i j Dr.busy []
    else
      let t1 := t.makeRoom
      let (c, v) := t1.dictRead i j
      if c != Dr.ok then t1.gdpRespond 0x83 tid i j c []
      else (t1.gdpRespond 0x83 tid i j Dr.ok (leBytes 4 v.length)).sendSegments
        ⟨tid, i, j, false, v.length, 0, 0, 0, false, v⟩))

/-- The whole value of a segmented write is there: steps 4 and 5 of R570, R571, WRITE_DONE (R589). Step 2 was passed at WRITE_INIT, so
a write lock set since does not refuse it (R594). -/
def State.finishWrite (s : State) (x : GdpSession) (a : ActIn) : State :=
  let v := slice x.value 0 x.size
  let (s1, c) := (s.setSession none).dictWrite false x.index x.sub v a
  let s2 := s1.gdpRespond 0x85 x.tid x.index x.sub c []
  if c = Dr.ok then s2.dictAfter x.index x.sub v a else s2

/-- WRITE_INIT: steps 1 to 3 of R570 with SIZE, then WINDOW 16 (R589). A value of no bytes is complete at once. -/
def execWriteInit (f : List Byte) (a : ActIn) (s : State) : Res :=
  .next (s.gdpFrame 4 f (fun (t : State) =>
    let tid := frTid f
    let i := frIndex f
    let j := frSub f
    let size := numAt f 8 4
    if t.sessionTaken tid then t.gdpRespond 0x84 tid i j Dr.busy []
    else
      let t1 := t.makeRoom
      let c := t1.precheck true i j size
      if c != Dr.ok then (if c = Dr.access then t1.tellBlocked true i j else t1).gdpRespond 0x84 tid i j c []
      else
        let t2 := t1.gdpRespond 0x84 tid i j Dr.ok (leBytes 2 16)
        let x : GdpSession := ⟨tid, i, j, true, size, 0, 0, 0, false, []⟩
        if size = 0 then t2.finishWrite x a else t2.setSession (some x)))

/-- SEGMENT from the client (R589): in order it is taken and every 16th acknowledged; out of order it is acknowledged at once with
the place to resume; outside the session it is answered with ABORT. -/
def execSegment (f : List Byte) (a : ActIn) (s : State) : Res :=
  .next (s.gdpFrame 5 f (fun (t : State) =>
    let tid := frTid f
    let q := frSeq f
    match t.can.session with
    | none => t.gdpAbort tid 0 0 Dr.protocol
    | some x =>
      if !x.write || x.tid != tid then t.gdpAbort tid 0 0 Dr.protocol
      else if q ≥ x.next + 16 || q ≥ segCount x.size then (t.abortSession).gdpAbort tid x.index x.sub Dr.protocol
      else if q != x.next then t.gdpAck tid x.next
      else
        let x1 := { x with next := x.next + 1, since := (x.since + 1) % 16, value := x.value ++ slice f 4 60 }
        let t1 := t.setSession (some x1)
        let t2 := if x1.since = 0 then t1.gdpAck tid x1.next else t1
        if x1.next = segCount x1.size then t2.finishWrite x1 a else t2))

/-- SEG_ACK from the client (R589): the read goes on from NEXT, and ends with the last one. -/
def execSegAck (f : List Byte) (s : State) : Res :=
  .next (s.gdpFrame 6 f (fun (t : State) =>
    let tid := frTid f
    let n := frSeq f
    match t.can.session with
    | none => t.gdpAbort tid 0 0 Dr.protocol
    | some x =>
      if x.write || x.tid != tid then t.gdpAbort tid 0 0 Dr.protocol
      else if n > x.sent then (t.abortSession).gdpAbort tid x.index x.sub Dr.protocol
      else if n = segCount x.size then t.setSession none
      else t.sendSegments { x with next := n, sent := n, resent := false }))

/-- ABORT from the client ends the open session of its TID (R586). -/
def execGdpAbort (f : List Byte) (s : State) : Res :=
  .next (s.gdpFrame 7 f (fun (t : State) =>
    match t.can.session with
    | some x => if x.tid = frTid f then t.abortSession else t
    | none => t))

/-- KEEP keeps the session of its TID open (R591). -/
def execKeep (f : List Byte) (s : State) : Res :=
  .next (s.gdpFrame 8 f (fun (t : State) =>
    let open_ : Bool := match t.can.session with
      | some x => x.tid = frTid f
      | none => false
    let t1 := match t.can.session with
      | some x => if open_ then t.setSession (some { x with resent := false }) else t
      | none => t
    t1.gdpRespond 0x88 (frTid f) (frIndex f) (frSub f) (if open_ then Dr.ok else Dr.protocol) []))

/-- SESSION_TIMEOUT: no frame of the session for SESS_TO: ABORT with TIMEOUT; a partial write is discarded (R591). -/
def execSessionTimeout (s : State) : Res :=
  .next (match s.can.session with
    | none => s
    | some x => (s.abortSession).gdpAbort x.tid x.index x.sub Dr.timeout)

/-- SEGMENT_RESEND: after SESS_TO / 2 the segments without acknowledgement are sent again, once (R591). -/
def execSegmentResend (s : State) : Res :=
  .next (match s.can.session with
    | none => s
    | some x => if x.write || x.resent then s else s.sendSegments { x with sent := x.next, resent := true })

-- ---------------------------------------------------------------------------------------------------------------
-- Fault confinement (R593, R595)

/-- The node is strapped and its core die runs. -/
def State.canNode (s : State) : Bool := s.coreRuns && s.boot.slateDone && s.ash.nodeId != 0

/-- BUS_OFF: the node leaves the bus; source 416; an open session is kept. -/
def execBusOff (s : State) : Res :=
  .next (if !s.canNode || s.getF Fld.CAN_STATUS_STATE = 2 then s
    else
      let s1 := (s.setF Fld.CAN_STATUS_STATE 2).bumpF Fld.CAN_CNT_BUSOFF 1
      s1.raise 416 0 0)

/-- BUS_OFF_RECOVERY: the node is on the bus again. Frames that waited are sent, but responses older than SESS_TO. -/
def execBusOffRecovery (s : State) : Res :=
  .next (if s.getF Fld.CAN_STATUS_STATE != 2 then s
    else
      let waiting := s.can.unsent
      let limit := 1000 * s.dictNum 0x1200 5
      let late (t id : Nat) : Bool := id == 0x380 + s.ash.nodeId.toNat && s.pwr.timeUs ≥ t + limit
      let s1 := ((s.setF Fld.CAN_STATUS_STATE 0).setF Fld.CAN_ERR_TEC 0).setF Fld.CAN_ERR_REC 0
      let s2 := { s1 with can := { s1.can with unsent := [] } }
      waiting.foldl (fun (t : State) (w : Nat × Nat × List Byte) =>
        if late w.1 w.2.1 then t else t.canSend w.2.1 w.2.2) s2)

/-- ERROR_PASSIVE_TIMEOUT: error passive for more than 1 s: source 417. -/
def execErrorPassiveTimeout (s : State) : Res :=
  .next (if !s.canNode || s.getF Fld.CAN_STATUS_STATE ≥ 2 then s else (s.setF Fld.CAN_STATUS_STATE 1).raise 417 0 0)

end Sys2Proof.Machine
end

