-- ==== Sys2Proof/Machine/Queues.lean ====
section
/-!
DEFINITION. The queue manager (spec/12): queue 0, acceptance, head words, coalescing, and the commands of queue 0 on queues, rings,
arming and the event ring, and ABORT (R417 to R456, R492, R494).
Choices: assumption log 40, 41.
-/
namespace Sys2Proof.Machine
open Sys2Proof

-- ---------------------------------------------------------------------------------------------------------------
-- Acceptance (R421, R432 to R434, R438 to R440, R462)

/-- The queue has notified entries that are not accepted. -/
def Queue.notified (q : Queue) : Bool := q.tail != q.fetched

/-- The queue whose entry is accepted next: queue 0 before every other, the others round-robin by number, each up to its BURST
entries a turn (R433). -/
def State.dueQueue (s : State) : Option Queue :=
  let due (q : Queue) : Bool := s.mayFetch q && q.notified && s.slotFree q.qid
  let io := s.qmg.queues.filter (fun q => q.qid != 0 && due q)
  match s.qmg.queues.find? (fun q => q.qid == 0 && due q) with
  | some q => some q
  | none =>
    match io.find? (fun q => q.qid == s.qmg.lastQueue && s.qmg.turn < q.burst) with
    | some q => some q
    | none => (io.find? (fun q => s.qmg.lastQueue < q.qid)).orElse (fun _ => io.head?)

/-- A turn counts one more entry of queue `q`; it ends with the last notified one (R433). -/
def State.countTurn (s : State) (q : Queue) (last : Bool) : State :=
  if q.qid = 0 then s
  else
    let n := if q.qid = s.qmg.lastQueue && s.qmg.turn < q.burst then s.qmg.turn + 1 else 1
    { s with qmg := { s.qmg with lastQueue := q.qid, turn := if last then q.burst else n } }

/-- The line of an entry is read and dropped from HCC once copied (R432, R502). -/
def State.fetchLine (s : State) (addr : Nat) : State :=
  let t := s.hccRead 2 addr false
  match t.hcc.find (addr / 64) with
  | some l => if l.kind = 2 then ({ t with hcc := t.hcc.drop (addr / 64) }).hccCount else t
  | none => t

/-- The opcodes that a kind of queue takes (R462). -/
def opcodeListed (qid op : Nat) : Bool :=
  if qid = 0 then (1 ≤ op && op ≤ 0xE) || op = 0x4A else 0x40 ≤ op && op ≤ 0x4A

/-- The entry enters a slot at its place in the device-wide order (R432); one whose opcode the queue does not take completes at
once (R462). -/
def State.acceptEntry (s : State) (q : Queue) (e : List Byte) : State :=
  let n := s.qmg.order + 1
  let f := (q.fetched + 1) % 64
  let q1 := { q with fetched := f, completed := q.completed.filter (· != entTag e),
                     posted := q.posted.filter (fun (p : Nat × Nat) => p.1 != entTag e) }
  let s1 := (s.setQueue q1).countTurn q (q.tail == f)
  let s2 := { s1 with qmg := { s1.qmg with order := n } }
  let s3 := (s2.setSlots (s2.qmg.slots ++ [⟨q.qid, entTag e, e, n, 0, [], 0⟩])).stat 0x8310 1 1
  if opcodeListed q.qid (entOpcode e) then s3 else s3.complete q.qid (entTag e) St.invalidOpcode 0

/-- A fetched entry whose tag has a completion posted and not known consumed: the head word is read again before the part decides
(R439); `head` is what it holds, none when that read fails (R441). -/
def State.rereadFor (s : State) (q : Queue) (tag : Nat) (head : Option Nat) : State :=
  if q.posted.any (fun p => p.1 == tag) then
    match s.cring q.cring, head with
    | some r, some h => (s.hccRead 1 r.headAddr false).takeHead r.id h
    | _, none => s.raise 374 0 0
    | none, _ => s
  else s

/-- ENTRY_ACCEPT: the queue that is due has its next entry fetched; `entry` holds its 64 bytes, none when the read fails (R440), and
`head` what the head word of its ring holds should it be read. -/
def execEntryAccept (entry : Option (List Byte)) (head : Option Nat) (s : State) : Res :=
  match s.dueQueue with
  | none => .next s
  | some q =>
    let s1 := (s.touchContext q.qid).fetchLine (q.base + 64 * (q.fetched % 32))
    match entry with
    | none => (s1.queueError q 3 q.fetched).done
    | some b =>
      let e := slice b 0 64
      let s2 := s1.rereadFor q (entTag e) head
      match s2.queue q.qid with
      | none => .next s2
      | some q2 =>
        if s2.tagOutstanding q2 (entTag e) then (s2.queueError q2 1 q2.fetched).done
        else (s2.acceptEntry q2 e).done

-- ---------------------------------------------------------------------------------------------------------------
-- Head words, full rings, coalescing (R426, R436, R437, R441)

/-- The head word of a ring, or with none of the event ring, is read again while a completion waits; `head` is what it holds, none
when the read fails. A ring still full after it counts as a ring-full wait, once. -/
def execHeadWordReread (ring head : Option Nat) (s : State) : Res :=
  if !s.canWriteHost then .next s else
  match ring, head with
  | _, none => .next (s.raise 374 0 0)
  | none, some h =>
    .next ({ s with evt := { s.evt with head := if s.evt.ringDepth = 0 then s.evt.head else h % 65536 } })
  | some id, some h =>
    match s.cring id with
    | none => .next s
    | some r =>
      if r.waiting.isEmpty then .next s
      else
        let s1 := (s.hccRead 1 r.headAddr false).takeHead id h
        match s1.cring id with
        | some r1 =>
          if r1.space = 0 && !r1.waiting.isEmpty && !r1.full then
            ((s1.setRing { r1 with full := true }).stat 0x8310 5 1).done
          else s1.done
        | none => s1.done

/-- A ring has stayed full for more than 1 s (R436). -/
def execRingFullTimeout (ring : Nat) (s : State) : Res :=
  .next (match s.cring ring with
    | some r => if r.full && r.space = 0 then s.raise 178 0 0 else s
    | none => s)

/-- The oldest uncounted entry of a ring of group `g` is older than its CTIME (R437, R456). -/
def execCoalescingTimeout (g : Nat) (s : State) : Res :=
  .next (if s.qmg.crings.any (fun r => r.group == g && r.uncounted != 0 && r.cthresh != 0 && r.ctime != 0)
      || (s.evt.group == g && s.evt.ringDepth != 0 && s.evt.uncounted != 0 && s.evt.cthresh != 0 && s.evt.ctime != 0)
    then s.groupEvent g else s)

-- ---------------------------------------------------------------------------------------------------------------
-- Queue 0 (R422)

/-- A write of 1 to QMG_ACTL.EN, once the Host domain units have left reset (R66). While the reset of an earlier queue 0 runs, its
end takes the write. -/
def execAdminQueueEnable (s : State) : Res :=
  .next (if s.boot.slateStep < 9 || s.isSet Fld.QMG_ACTL_EN then s
    else
      let s1 := (s.setF Fld.QMG_ACTL_EN 1).setF Fld.QMG_ACTL_SETUPERR 0
      if (s1.queue 0).isSome then s1 else s1.adminCreate)

/-- The position of the next notified entry that a reset of the queue fetches: past an erring one (R452). -/
def Queue.resetFrom (q : Queue) : Nat := if q.err = 1 || q.err = 3 then q.fetched + 1 else q.fetched

/-- The notified entries of a queue in its reset, read in ring order: each completes with ABORTED_BY_RESET; one that cannot be read
is recorded with code 3 and source 177 (R451, R452). -/
def State.abortEntries (s0 : State) (qid base pos : Nat) (l : List (Option (List Byte))) : State :=
  let s := s0.fetchLine (base + 64 * (pos % 32))
  match l with
  | [] => s0
  | none :: t =>
    let s1 := (((s.setF Fld.QMG_QERR_VALID 1).setF Fld.QMG_QERR_POS (pos % 64)).setF Fld.QMG_QERR_CODE 3).setF
      Fld.QMG_QERR_QID qid
    (s1.raise 177 0 qid).abortEntries qid base (pos + 1) t
  | some e :: t =>
    let s1 := if (s.slot qid (entTag e)).isSome then s else s.complete qid (entTag e) St.abortedByReset 0
    s1.abortEntries qid base (pos + 1) t

/-- A queue is reset: commands before their commit points and notified entries end with ABORTED_BY_RESET, and F will be the last
TAIL seen (R451). `entries` are the notified entries as read, in ring order. -/
def State.resetQueue (s : State) (q : Queue) (entries : List (Option (List Byte))) : State :=
  let keeps (t : Nat) : Bool := match s.slot q.qid t with | some x => q.qid = 0 || entOpcode x.entry = 0x4A | none => false
  let s1 := (s.setQueue { q with state := 3 }).cancelQueue q.qid St.abortedByReset keeps
  let n := (q.tail + 64 - q.resetFrom % 64) % 64
  s1.abortEntries q.qid q.base q.resetFrom ((List.range (if n > 32 then 0 else n)).map (fun i => entries.getD i none))

/-- A write of 0 to QMG_ACTL.EN: queue 0 is reset and ring 0 deleted; RDY reads 0 (R422). -/
def execAdminQueueDisable (entries : List (Option (List Byte))) (s : State) : Res :=
  if !s.isSet Fld.QMG_ACTL_EN then .next s
  else
    let s1 := (s.setF Fld.QMG_ACTL_EN 0).setF Fld.QMG_ACTL_RDY 0
    match s1.queue 0 with
    | none => .next s1
    | some q => (s1.resetQueue q entries).done

-- ---------------------------------------------------------------------------------------------------------------
-- Admin commands: the order of checks (R464, R471, R494)

/-- Bytes 4 to 47 of an entry outside `lo` to `hi` are zero. -/
def onlyBytes (e : List Byte) (lo hi : Nat) : Bool := entZero e 4 (lo - 4) && entZero e (hi + 1) (47 - hi)

/-- Steps 2 to 5 of R471 for an admin command: the first status that applies, 0 when none does. -/
def State.adminCheck (s : State) (e : List Byte) (h : HostData) (fields : Bool) (kinds : List Nat) (lenOk : Nat → Bool) : Nat :=
  if !commonOk e || !fields || !descriptorOk e then St.invalidField else s.checkBuffer e h kinds lenOk

/-- What a command that names no buffer finds in host memory. -/
def noHost : HostData := ⟨[], true, [], true, []⟩

/-- The command `op` of queue 0 in tag `t` that has not begun. -/
def State.adminCommand (s : State) (t op : Nat) : Option Slot :=
  match s.slot 0 t with
  | some x => if entOpcode x.entry = op && x.stage = 0 then some x else none
  | none => none

/-- Check a command without a buffer and, when nothing is amiss, do `run`, which answers a status. -/
def State.runAdmin (s : State) (x : Slot) (fields : Bool) (run : State → State × Nat) : Res :=
  let st := s.adminCheck x.entry noHost fields [0] (fun _ => true)
  if st != 0 then (s.endWith x st).done
  else
    let (s1, r) := run s
    (s1.endWith x r).done

/-- QID of an admin command, and whether its upper bits are zero (R494). -/
def entQid (e : List Byte) : Nat := numAt e 4 4
def qidFits (e : List Byte) : Bool := entQid e < 2 ^ 20

-- ---------------------------------------------------------------------------------------------------------------
-- Queues and rings (R417 to R419, R451 to R453, R494)

/-- The effect of CREATE_QUEUE. -/
def State.createQueue (s : State) (e : List Byte) : State × Nat :=
  let id := entQid e
  let ring := numAt e 16 2
  let b := numAt e 18 1
  if s.ownSpace (numAt e 8 8) 2048 then (s, St.bufferAddress)
  else if id = 0 then (s, St.qInvalidId)
  else if (s.queue id).isSome then (s, St.qExists)
  else if ring = 0 || (s.cring ring).isNone then (s, St.qCringInvalid)
  else ((s.setQueue (newQueue id (numAt e 8 8) ring (if b = 0 then s.dictNum 0x5100 2 else b))).holdContext id 0, St.success)

def execCreateQueue (t : Nat) (s : State) : Res :=
  match s.adminCommand t 2 with
  | none => .next s
  | some x =>
    let e := x.entry
    s.runAdmin x (onlyBytes e 4 18 && qidFits e && numAt e 8 8 % 2048 = 0 && numAt e 18 1 ≤ 32) (fun u => u.createQueue e)

/-- RESET_QUEUE and DELETE_QUEUE: the reset begins, and the command waits for the completions that it causes (R452). -/
def State.beginReset (s : State) (x : Slot) (entries : List (Option (List Byte))) : Res :=
  let e := x.entry
  let st := s.adminCheck e noHost (onlyBytes e 4 7 && qidFits e) [0] (fun _ => true)
  if st != 0 then (s.endWith x st).done
  else
    match s.queue (entQid e) with
    | none => (s.endWith x St.qInvalidId).done
    | some q =>
      if q.qid = 0 then (s.endWith x St.qInvalidId).done
      else if q.state = 3 then (s.endWith x St.qBusy).done
      else ((s.setSlot { x with stage := 3 }).resetQueue q entries).done

def execDeleteQueue (t : Nat) (entries : List (Option (List Byte))) (s : State) : Res :=
  match s.adminCommand t 3 with
  | none => .next s
  | some x => s.beginReset x entries

def execResetQueue (t : Nat) (entries : List (Option (List Byte))) (s : State) : Res :=
  match s.adminCommand t 4 with
  | none => .next s
  | some x => s.beginReset x entries

/-- DEPTHLOG of CREATE_CRING and EVENT_RING_SETUP, with its upper bits. -/
def entDepthlog (e : List Byte) : Nat := numAt e 6 1

def State.createCring (s : State) (e : List Byte) : State × Nat :=
  let id := numAt e 4 2
  let depth := 2 ^ entDepthlog e
  if !s.ringFits (numAt e 8 8) depth (numAt e 16 8) 16 then (s, St.bufferAddress)
  else if id = 0 then (s, St.qInvalidId)
  else if (s.cring id).isSome then (s, St.qExists)
  else (s.setRing (newRing id (numAt e 8 8) depth (numAt e 16 8) (numAt e 7 1) (numAt e 24 1) (numAt e 25 1)), St.success)

def execCreateCring (t : Nat) (s : State) : Res :=
  match s.adminCommand t 5 with
  | none => .next s
  | some x =>
    let e := x.entry
    s.runAdmin x (onlyBytes e 4 25 && 4 ≤ entDepthlog e && entDepthlog e ≤ 12 && numAt e 8 8 % 64 = 0 && numAt e 16 8 % 4 = 0)
      (fun u => u.createCring e)

def State.deleteCring (s : State) (id : Nat) : State × Nat :=
  if id = 0 || (s.cring id).isNone then (s, St.qInvalidId)
  else if s.qmg.queues.any (fun q => q.cring == id) then (s, St.qCringInUse)
  else ({ s with qmg := { s.qmg with crings := s.qmg.crings.filter (fun r => r.id != id) } }, St.success)

def execDeleteCring (t : Nat) (s : State) : Res :=
  match s.adminCommand t 6 with
  | none => .next s
  | some x => s.runAdmin x (onlyBytes x.entry 4 5) (fun u => u.deleteCring (numAt x.entry 4 2))

-- ---------------------------------------------------------------------------------------------------------------
-- Arming (R430, R431)

/-- ARM is refused with a queue-class status: not on an armed queue for want of room, nor without a coherent, and where required
Secure, link. -/
def State.armRefused (s : State) (q : Queue) : Bool :=
  (q.mailbox.isNone && s.armedCount ≥ 16384) || !s.isSet Fld.CXC_LINK_CACHE
    || (s.dictNum 0x5800 3 = 1 && !s.isSet Fld.CXC_IDE_CM_SECURE)

/-- The line leaves HCC, and the mailbox is read once more and its TAIL acted on. -/
def State.leaveMailbox (s : State) (q : Queue) (tail : Option Nat) : State :=
  match q.mailbox with
  | none => s
  | some _ =>
    let s1 := s.mailboxTail q.qid tail
    match s1.queue q.qid with
    | some q1 => s1.disarm q1
    | none => s1

def State.arm (s : State) (e : List Byte) (old new : Option Nat) : State × Nat :=
  let id := entQid e
  let a := numAt e 8 8
  if s.ownSpace a 64 then (s, St.bufferAddress)
  else if id = 0 then (s, St.qArmRefused)
  else match s.queue id with
    | none => (s, St.qInvalidId)
    | some q =>
      if s.armRefused q then (s, St.qArmRefused)
      else
        let s1 := s.leaveMailbox q old
        match s1.queue id with
        | none => (s1, St.success)
        | some q1 =>
          let s2 := s1.placeMailbox q1 a
          ((s2.setF Fld.QMG_CTXCACHE_ARMED s2.armedCount).mailboxTail id new, St.success)

/-- ARM; `new` is the TAIL that the mailbox holds, and `old` the one in the mailbox of a queue armed already, none where a read
fails. -/
def execArm (t : Nat) (old new : Option Nat) (s : State) : Res :=
  match s.adminCommand t 7 with
  | none => .next s
  | some x =>
    let e := x.entry
    s.runAdmin x (onlyBytes e 4 15 && qidFits e && numAt e 8 8 % 64 = 0) (fun u => u.arm e old new)

/-- DISARM; `tail` is the TAIL that the mailbox holds. -/
def execDisarm (t : Nat) (tail : Option Nat) (s : State) : Res :=
  match s.adminCommand t 8 with
  | none => .next s
  | some x =>
    let e := x.entry
    s.runAdmin x (onlyBytes e 4 7 && qidFits e) (fun u =>
      match u.queue (entQid e) with
      | none => (u, St.qInvalidId)
      | some q => if q.qid = 0 then (u, St.qInvalidId) else (u.leaveMailbox q tail, St.success))

-- ---------------------------------------------------------------------------------------------------------------
-- The event ring (R456)

def State.eventRing (s : State) (e : List Byte) : State × Nat :=
  let log := entDepthlog e
  if log = 0 then ({ s with evt := { s.evt with ringDepth := 0, uncounted := 0 } }, St.success)
  else if !s.ringFits (numAt e 8 8) (2 ^ log) (numAt e 16 8) 32 then (s, St.bufferAddress)
  else
    let v := { s.evt with ringBase := numAt e 8 8, ringDepth := 2 ^ log, headAddr := numAt e 16 8, group := numAt e 7 1,
                          cthresh := numAt e 24 1, ctime := numAt e 25 1, posted := 0, head := 0, uncounted := 0 }
    ({ s with evt := v }, St.success)

def execEventRingSetup (t : Nat) (s : State) : Res :=
  match s.adminCommand t 0xE with
  | none => .next s
  | some x =>
    let e := x.entry
    let log := entDepthlog e
    s.runAdmin x (onlyBytes e 6 25 && (log = 0 || (6 ≤ log && log ≤ 12 && numAt e 8 8 % 64 = 0 && numAt e 16 8 % 4 = 0)))
      (fun u => u.eventRing e)

-- ---------------------------------------------------------------------------------------------------------------
-- ABORT (R448 to R450, R492, R560)

def abortQid (e : List Byte) : Nat := numAt e 32 4
def abortTag (e : List Byte) : Nat := numAt e 36 1

/-- ABORT passes its checks and waits until the notified entries of its target queue are accepted. -/
def execAbort (q t : Nat) (s : State) : Res :=
  match s.slot q t with
  | none => .next s
  | some x =>
    let e := x.entry
    if entOpcode e != 0x4A || x.stage != 0 then .next s
    else
      let st := s.adminCheck e noHost (onlyBytes e 32 36 && abortQid e < 2 ^ 20 && abortTag e < 32) [0] (fun _ => true)
      if st != 0 then (s.endWith x st).done
      else if q != 0 && s.boot.abandoned then (s.endWith x St.notReady).done
      else .next (s.setSlot { x with stage := 3 })

/-- The command whose acceptance was `n` has not reached its completion point. -/
def State.runs (s : State) (n : Nat) : Bool := s.qmg.slots.any (fun y => y.order == n)

/-- The target `y` of the ABORT `x` runs before its commit point: a MIGRATE ends at its next object boundary, every other command
at once; the ABORT completes once that completion is posted (R449, R450, R560). -/
def State.abortTarget (s : State) (x y : Slot) : State :=
  let s1 := s.setSlot { x with failed := 1, data := leBytes 8 y.order }
  if entOpcode y.entry = 0x49 && y.stage = 3 then s1.migAbort
  else (s1.cancelSlot y St.aborted).dropStaleMig

/-- The ABORT of slot `x` that waits for its target completes once the target has (R449). -/
def State.abortEnds (s : State) (x : Slot) : State :=
  if s.runs (leNat x.data) then s
  else s.endWith x (if x.failed = 1 then St.success else St.abortTooLate)

/-- ABORT resolves (R449). -/
def State.abortResolve (s : State) (x : Slot) : State :=
  let qid := abortQid x.entry
  let tag := abortTag x.entry
  match s.queue qid with
  | none => s.endWith x St.abortNotFound
  | some q =>
    if q.notified then s
    else if qid = x.qid && tag = x.tag then s.endWith x St.abortNotFound
    else match s.slot qid tag with
      | none => s.endWith x (if q.completed.contains tag then St.abortTooLate else St.abortNotFound)
      | some y =>
        if entOpcode y.entry = 0x4A then s.endWith x St.abortTooLate
        else if qid = 0 || s.committed y then
          s.setSlot { x with failed := 2, data := leBytes 8 y.order }
        else
          let s1 := s.abortTarget x y
          match s1.slot x.qid x.tag with
          | some z => s1.abortEnds z
          | none => s1

/-- ABORT_RESOLVE of the ABORT in slot (q, t). -/
def execAbortResolve (q t : Nat) (s : State) : Res :=
  match s.slot q t with
  | none => .next s
  | some x =>
    if entOpcode x.entry != 0x4A || x.stage != 3 then .next s
    else (if x.failed = 0 then s.abortResolve x else s.abortEnds x).done

end Sys2Proof.Machine
end

