-- ==== Sys2Proof/Machine/Admin.lean ====
section
/-!
DEFINITION. Commands of queue 0 on the identity, the dictionary and firmware (spec/13, spec/19): IDENTIFY, DICT_READ, DICT_WRITE,
FW_DOWNLOAD, FW_COMMIT, FW_ACTIVATE and the steps of an activation (R454, R455, R495, R496, R644 to R653).
Choices: assumption log 42, 43, 45.
-/
namespace Sys2Proof.Machine
open Sys2Proof

-- ---------------------------------------------------------------------------------------------------------------
-- IDENTIFY (R496)

/-- The 4,096 bytes of R496. -/
def State.identity (s : State) : List Byte :=
  let version := ((s.imageOf s.nvc.running).map (·.version)).getD []
  leBytes 2 0x0480 ++ leBytes 1 0xB0 ++ leBytes 1 (Word.get (s.regView 0) 15 8) ++ slice version 0 16 ++ leBytes 2 1
    ++ leBytes 1 s.stage ++ leBytes 1 2 ++ s.driveId ++ leBytes 8 s.capacity ++ leBytes 8 s.freeCapacity
    ++ leBytes 8 (2 ^ 32) ++ leBytes 8 (2 ^ 44) ++ leBytes 4 16777216 ++ leBytes 4 1048576 ++ leBytes 4 65536
    ++ leBytes 4 131072 ++ leBytes 2 16384 ++ leBytes 2 512 ++ leBytes 2 (s.getF Fld.BMC_HDM_SIZE)
    ++ leBytes 2 (s.regView Fld.CXC_LINK_UP.addr).toNat ++ zeros 4000

def execIdentify (t : Nat) (h : HostData) (s : State) : Res :=
  match s.adminCommand t 1 with
  | none => .next s
  | some x =>
    let e := x.entry
    let st := s.adminCheck e h (entZero e 4 44) [1, 2, 3] (fun n => n = 4096)
    let ps := bufferPieces e h
    if st != 0 then (s.endWith x st).done
    else if !s.transferOk ps h then (s.endWith x St.transferError).done
    else (((s.writeBuffer 0 ps s.identity).charge 0 64).endWith x St.success).done

-- ---------------------------------------------------------------------------------------------------------------
-- The dictionary through queue 0 (R495)

/-- The status that a dictionary result maps to (R495). -/
def dictStatus (r : Nat) : Nat :=
  if r = Dr.ok then St.success
  else if r = Dr.noEntry then St.dictNoEntry
  else if r = Dr.access then St.dictAccess
  else if r = Dr.range then St.dictRange
  else if r = Dr.type then St.dictType
  else St.notReady

def entIndex (e : List Byte) : Nat := numAt e 4 2
def entSub (e : List Byte) : Nat := numAt e 6 1

def execDictRead (t : Nat) (h : HostData) (s : State) : Res :=
  match s.adminCommand t 0xC with
  | none => .next s
  | some x =>
    let e := x.entry
    let st := s.adminCheck e h (onlyBytes e 4 6) [0, 1, 2, 3] (fun _ => true)
    let ps := bufferPieces e h
    if st != 0 then (s.endWith x st).done
    else
      let (r, v) := s.dictRead (entIndex e) (entSub e)
      if r != Dr.ok then (s.endWith x (dictStatus r)).done
      else if entBufkind e != 0 && entBufLen e < v.length then (s.endWith x St.bufferLength).done
      else if !s.transferOk ps h then (s.endWith x St.transferError).done
      else
        ((s.writeBuffer 0 ps v).complete x.qid x.tag St.success (if v.length ≤ 8 then leNat v else v.length)).done

/-- The value that a DICT_WRITE carries: VALUE, or its buffer. -/
def State.dictValue (s : State) (e : List Byte) (h : HostData) : List Byte :=
  if entBufkind e = 0 then slice e 8 (numAt e 7 1) else s.readBuffer (bufferPieces e h) h.data

/-- DICT_WRITE: it completes, and what follows the confirmation of a write comes after (R571). Commands and
GDP accesses are served one at a time, in their order in the queue (R573). -/
def execDictWrite (t : Nat) (h : HostData) (a : ActIn) (s : State) : Res :=
  match s.adminCommand t 0xD with
  | none => .next s
  | some x =>
    let e := x.entry
    let n := numAt e 7 1
    let fields := if entBufkind e = 0 then onlyBytes e 4 15 && 1 ≤ n && n ≤ 8 else onlyBytes e 4 6
    let st := s.adminCheck e h fields [0, 1, 2, 3] (fun _ => true)
    let ps := bufferPieces e h
    if st != 0 then (s.endWith x st).done
    else if !s.transferOk ps h then (s.endWith x St.transferError).done
    else
    let s := s.obtainPieces ps h.held
    if s.bufferPoisoned ps then (s.endWith x St.intPoison).done
    else
      let v := s.dictValue e h
      let (s1, r) := s.dictWrite false (entIndex e) (entSub e) v a
      let s2 := (s1.endWith x (dictStatus r)).settleResets
      .next (if r = Dr.ok then s2.dictAfter (entIndex e) (entSub e) v a else s2)

-- ---------------------------------------------------------------------------------------------------------------
-- FW_DOWNLOAD (R638, R645)

/-- The good blocks of a bank, ascending: logical block i of an image lies in the i-th (R638). -/
def State.bankMap (s : State) (bank : Nat) : List Nat :=
  ((List.range 512).map (fun i => 512 * bank + i)).filter (fun b => !s.nvc.bad.contains b)

/-- Logical blocks `l` of the download bank take their parts of `data`, which lies at `off` of the image: each is erased as the data
reaches it, then programmed. The block that `fail` names fails in its erase or its program, and the rest is left. Answers whether
all went well. -/
def State.downloadBlocks (s : State) (map : List Nat) (off : Nat) (data : List Byte) (fail : Option (Nat × Bool)) (l : List Nat) :
    State × Bool :=
  match l with
  | [] => (s, true)
  | i :: r =>
    let b := map.getD i 0
    let lo := max off (65536 * i)
    let hi := min (off + data.length) (65536 * (i + 1))
    let part := slice data (lo - off) (hi - lo)
    let unit0 := 2048 * b + lo % 65536 / 32
    let fresh := off ≤ 65536 * i
    if s.protectedBlock b then (s, false)
    else if fail = some (b, true) && fresh then (s.flashFails ⟨true, b, 2048 * b, []⟩, false)
    else
      let s1 := if fresh then (s.blockErased b).stat 0x8220 2 1 else s
      if fail = some (b, false) then (s1.flashFails ⟨false, b, unit0, part⟩, false)
      else ((s1.programUnits unit0 part).stat 0x8220 1 (part.length / 256)).downloadBlocks map off data fail r

/-- Whether a piece at `off` goes on from what was downloaded: R645, with the bank still the download bank. -/
def State.downloadGoesOn (s : State) (off n : Nat) : Option Download :=
  match s.nvc.download with
  | none => none
  | some d => if d.bank = s.downloadBank && off = d.next && off < d.image.length && off + n ≤ d.image.length then some d else none

/-- A download at OFFSET 0 begins: the name of the bank leaves the boot record, and the commit block is erased (R645). -/
def State.downloadBegins (s : State) (bank : Nat) (fail : Option (Nat × Bool)) : State × Bool :=
  let r := s.nvc.boot
  let clear (x : Nat) : Nat := if x = bank then 0 else x
  let s1 := s.setBootRec { r with trial := clear r.trial, pending := clear r.pending,
                                  attempts := if r.trial = bank then 0 else r.attempts }
  let c := s1.commitBlock bank
  if s1.protectedBlock c then (s1, false)
  else if fail = some (c, true) then (s1.flashFails ⟨true, c, 2048 * c, []⟩, false)
  else ((s1.blockErased c).stat 0x8220 2 1, true)

/-- The image, bank and place that a piece is written to, or the status that refuses it. -/
def State.downloadPlace (s : State) (off : Nat) (data : List Byte) : Except Nat Download :=
  let bank := s.downloadBank
  if off = 0 then
    let i := headerImage data
    if !headerOk data then .error St.fwSignature
    else if i.length < data.length || s.goodBlocks bank < i.length / 65536 + 1 then .error St.fwOffset
    else .ok ⟨bank, i, 0⟩
  else match s.downloadGoesOn off data.length with
    | some d => .ok d
    | none => .error St.fwOffset

/-- Write a piece of an image. A failure ends the download, which must start again (R645). -/
def State.fwDownload (s : State) (off : Nat) (data : List Byte) (fail : Option (Nat × Bool)) : State × Nat :=
  match s.downloadPlace off data with
  | .error st => (s, st)
  | .ok d =>
    let (s1, began) := if off = 0 then s.downloadBegins d.bank fail else (s, true)
    let map := s1.bankMap d.bank
    let first := off / 65536
    let last := (off + data.length - 1) / 65536
    let (s2, good) := if began then
        s1.downloadBlocks map off data fail ((List.range (last + 1 - first)).map (fun i => first + i))
      else (s1, false)
    if good then
      let d1 : Download := { d with next := off + data.length }
      ({ s2 with nvc := { s2.nvc with download := some d1 } }, St.success)
    else ({ s2 with nvc := { s2.nvc with download := none } }, St.fwOffset)

/-- FW_DOWNLOAD; `fail` names a block whose erase (true) or program fails. -/
def execFwDownload (t : Nat) (h : HostData) (fail : Option (Nat × Bool)) (s : State) : Res :=
  match s.adminCommand t 9 with
  | none => .next s
  | some x =>
    let e := x.entry
    let off := numAt e 4 4
    let st := s.adminCheck e h (onlyBytes e 4 7 && off % 4096 = 0) [1, 2, 3] (fun n => n != 0 && n % 4096 = 0 && n ≤ 1048576)
    let ps := bufferPieces e h
    if st != 0 then (s.endWith x st).done
    else if !s.transferOk ps h then (s.endWith x St.transferError).done
    else
    let s := s.obtainPieces ps h.held
    if s.bufferPoisoned ps then (s.endWith x St.intPoison).done
    else
      let (s1, r) := s.fwDownload off (slice (s.readBuffer ps h.data) 0 (entBufLen e)) fail
      (s1.endWith x r).done

-- ---------------------------------------------------------------------------------------------------------------
-- FW_COMMIT (R646, R647)

/-- The image that is wholly downloaded into the download bank. -/
def State.downloaded (s : State) : Option Image :=
  match s.nvc.download with
  | some d => if d.bank = s.downloadBank && d.image.length ≤ d.next then some d.image else none
  | none => none

/-- The checks of FW_COMMIT before it writes, for ACTION `act`: the first status that applies, 0 when none does. `verifies` says that
DIGEST and SIGNATURE hold. -/
def State.commitStatus (s : State) (act : Nat) (verifies : Bool) : Nat :=
  match s.downloaded with
  | none => St.fwNoImage
  | some i =>
    if (i.kind = 1) != (act = 2) then St.invalidField
    else if !verifies || i.svn < s.nvc.boot.floor then St.fwSignature
    else if act = 2 && (!(s.manufacture || s.returned) || bitOf (s.getF Fld.NVC_PROT_LOCKED) 0 || s.isSet Fld.NVC_PROT_LOCKOUT) then
      St.dictAccess
    else 0

/-- The 32 bytes of a commit record (R647). -/
def commitRecord (i : Image) : List Byte :=
  let b := [0x47, 0x58, 0x43, 0x4D] ++ leBytes 4 i.seq ++ leBytes 4 i.length ++ slice i.digest 0 16
  b ++ leBytes 4 (crc32 b).toNat

/-- RESULT of FW_COMMIT: the bank and SVN. -/
def State.commitResult (s : State) (i : Image) : Nat := s.downloadBank + 65536 * (i.svn % 65536)

/-- Write the commit record of the download bank, unless it is there already; false when its program fails. -/
def State.writeCommit (s : State) (i : Image) (programOk : Bool) : State × Bool :=
  let bank := s.downloadBank
  let c := s.commitBlock bank
  let seqOf (x : Option Image) : Nat := match x with | some y => y.seq | none => 0
  let i1 : Image := { i with seq := max (seqOf s.nvc.image1) (seqOf s.nvc.image2) + 1 }
  if (s.imageOf bank).isSome then (s, true)
  else if s.protectedBlock c then (s, false)
  else if !programOk then
    let t := s.flashFails ⟨false, c, 2048 * c, commitRecord i1⟩
    ({ t with nvc := { t.nvc with download := none } }, false)
  else (((s.programUnits (2048 * c) (commitRecord i1)).stat 0x8220 1 1).setImage bank (some i1), true)

/-- FW_COMMIT with ACTION 0 or 1: the record is written, with ACTION 1 the bank becomes PENDING, event 520. -/
def State.fwCommit (s : State) (x : Slot) (act : Nat) (verifies programOk : Bool) : State :=
  let st := s.commitStatus act verifies
  match s.downloaded with
  | none => s.endWith x st
  | some i =>
    if st != 0 then s.endWith x st
    else
      let (s1, good) := s.writeCommit i programOk
      if !good then s1.endWith x St.fwOffset
      else
        let s2 := if act = 1 then s1.setBootRec { s1.nvc.boot with pending := s1.downloadBank } else s1
        let r := s.commitResult i
        (s2.event 520 r).complete x.qid x.tag St.success r

/-- The command FW_COMMIT with its ACTION in tag `t`. -/
def State.commitCommand (s : State) (t : Nat) (acts : Nat → Bool) : Option Slot :=
  (s.adminCommand t 0xA).filter (fun x => acts (numAt x.entry 4 1))

/-- Fields of FW_COMMIT: ACTION from 0 to 2. -/
def commitFields (e : List Byte) : Bool := onlyBytes e 4 4 && numAt e 4 1 ≤ 2

/-- FW_COMMIT with ACTION 0, or with one outside its range; `programOk` says that the program of the record ends well. -/
def execFwCommit (t : Nat) (verifies programOk : Bool) (s : State) : Res :=
  match s.commitCommand t (fun a => a != 1 && a != 2) with
  | none => .next s
  | some x =>
    let st := s.adminCheck x.entry noHost (commitFields x.entry) [0] (fun _ => true)
    if st != 0 then (s.endWith x st).done else (s.fwCommit x 0 verifies programOk).done

/-- FW_COMMIT with ACTION 1. -/
def execFwCommitTrial (t : Nat) (verifies programOk : Bool) (s : State) : Res :=
  match s.commitCommand t (fun a => a == 1) with
  | none => .next s
  | some x =>
    let st := s.adminCheck x.entry noHost (commitFields x.entry) [0] (fun _ => true)
    if st != 0 then (s.endWith x st).done else (s.fwCommit x 1 verifies programOk).done

/-- The blocks of a downloaded image as they stand in the flash die. -/
def State.imageBytes (s : State) (bank n : Nat) : List (List Byte) :=
  (s.bankMap bank).take (n / 65536) |>.map (fun b => (List.range 2048).flatMap (fun u => s.flashUnit (2048 * b + u)))

/-- A copy of the boot loader is rewritten from block `first` on (R633, R646). -/
def State.writeLoader (s : State) (first : Nat) (l : List (List Byte)) : State :=
  let s1 := (List.range 8).foldl (fun t i => (t.blockErased (first + i)).stat 0x8220 2 1) s
  (List.range l.length).foldl (fun t i =>
    (t.programUnits (2048 * (first + i)) (l.getD i [])).stat 0x8220 1 256) s1

/-- FW_COMMIT with ACTION 2: both copies of the boot loader are rewritten, event 523; no commit record (R646). -/
def execFwCommitBootLoader (t : Nat) (verifies : Bool) (s : State) : Res :=
  match s.commitCommand t (fun a => a == 2) with
  | none => .next s
  | some x =>
    let st := s.adminCheck x.entry noHost (commitFields x.entry) [0] (fun _ => true)
    if st != 0 then (s.endWith x st).done
    else
      let c := s.commitStatus 2 verifies
      match s.downloaded with
      | none => (s.endWith x c).done
      | some i =>
        if c != 0 then (s.endWith x c).done
        else
          let bytes := s.imageBytes s.downloadBank i.length
          let s1 := (s.writeLoader 0 bytes).writeLoader 8 bytes
          let s2 := { s1 with nvc := { s1.nvc with bootLoaderSvn := i.svn } }
          ((s2.event 523 0).complete x.qid x.tag St.success (s.commitResult i)).done

-- ---------------------------------------------------------------------------------------------------------------
-- Activation (R454, R455, R562, R648 to R653)

/-- FW_ACTIVATE: step 1 begins (R454). Before Cobalt it is not ready (R67), and one at a time runs (R455). -/
def execFwActivate (t : Nat) (s : State) : Res :=
  match s.adminCommand t 0xB with
  | none => .next s
  | some x =>
    let st := s.adminCheck x.entry noHost (entZero x.entry 4 44) [0] (fun _ => true)
    if st != 0 then (s.endWith x st).done
    else if s.stage != 3 then (s.endWith x St.notReady).done
    else if s.qmg.activation.isSome then (s.endWith x St.qBusy).done
    else
      let s1 := s.setSlot { x with stage := 2 }
      .next { s1 with qmg := { s1.qmg with activation := some ⟨0, t, x.order, 1, 0⟩ } }

/-- What an implicit flush leaves behind: stripes closed as by FLUSH, where their actuators may write (R131). -/
def State.flushed (s : State) : State := s.closeStripes

/-- ACTIVATION_FETCH_STOP: the flush of step 1 has ended; fetching stops, event 513, and a running MIGRATE is suspended. -/
def execActivationFetchStop (s : State) : Res :=
  .next (match s.qmg.activation with
    | none => s
    | some a =>
      if a.step != 1 || (s.flushOutcome a.order).isNone then s
      else
        let s1 := (s.flushed.setF Fld.QMG_STATUS_ACTSTOP 1).event 513 0
        let b : Activation := { a with step := 2, stopUs := s1.pwr.timeUs }
        ({ s1 with qmg := { s1.qmg with activation := some b } }).migSuspend)

/-- Step 3 is over: every accepted command has completed, but for suspended MIGRATEs and VERIFYs and completions that wait for room,
or 1 s has passed; and the flush of step 4 has ended. -/
def State.activationReady (s : State) (a : Activation) : Bool :=
  let out (x : Slot) : Bool := (x.qid == 0 && x.tag == a.tag) || x.stage == 4 || [0x47, 0x49].contains (entOpcode x.entry)
  (s.qmg.slots.all out || s.pwr.timeUs ≥ a.stopUs + 1000000) && (s.flushOutcome (s.qmg.order + 1)).isSome

/-- ACTIVATION_SWITCH: steps 5 and 6 of R454. Without a committed image the images stay (R648, R653). -/
def execActivationSwitch (s : State) : Res :=
  match s.qmg.activation with
  | none => .next s
  | some a =>
    if a.step != 2 || !s.activationReady a then .next s
    else
      let found : Bool := match s.imageOf s.downloadBank with | some i => i.kind == 0 | none => false
      let s1 := s.flushed.switchImages.setF Fld.QMG_STATUS_ACTSTOP 0
      let s2 := ({ s1 with qmg := { s1.qmg with activation := none } }).migResume
      let s3 := s2.event 514 ((s2.pwr.timeUs - a.stopUs) % 2 ^ 32)
      (s3.complete 0 a.tag (if found then St.success else St.fwNoImage) 0).done

/-- TRIAL_CONFIRM: 60 s after Slate without a reset that R650 names. -/
def execTrialConfirm (s : State) : Res := .next s.confirmTrial

end Sys2Proof.Machine
end

