-- ==== Sys2Proof/Machine/Queries.lean ====
section
/-!
DEFINITION. The object commands that write a result to a buffer: GET_RANGE, STAT, LIST (R479 to R484). Their parts are in
Machine/Objects.lean; the buffer may lie in the HDM window, whose lines pass the merge buffer (R364).
Choices: assumption log 17, 29.
-/
namespace Sys2Proof.Machine
open Sys2Proof

/-- GET_RANGE of queue `q` and tag `t`. While a media domain it needs is out of service for less than 30 s it waits (R31, R32). -/
def execGetRange (q t : Nat) (h : HostData) (s : State) : Res :=
  match s.command q t 0x42 with
  | none => .next s
  | some x =>
    let e := x.entry
    let off := numAt e 32 8
    let n := entBufLen e
    let st := s.objectCheck e h (entFlags e = 0 && entZero e 40 8) [1, 2, 3] (fun n => 1 ≤ n && n ≤ 16777216)
    if st != 0 then (s.endWith x st).done
    else match s.readVersion x with
      | none =>
        (s.endWith x (if s.damagedVersion (entKey e) (entVersion e) then St.intIndex else St.objNotFound)).done
      | some v =>
        if off + n > v.size then (s.endWith x St.objRange).done
        else if s.damagedVersion v.key v.ver then (s.endWith x St.intIndex).done
        else if s.mustWait v off n then .next (s.holdLookup x v)
        else
          let (s1, st1, bs) := ((s.chargeReads 4 v off n).charge 9 1).readRange v off n
          let ps := bufferPieces e h
          if st1 != 0 then (s1.endWith x st1).done
          else if !s1.transferOk ps h then (s1.endWith x St.transferError).done
          else
            (((s1.writeBuffer 0 ps bs).chargeOut ps).stat 0x8320 3 1 |>.complete x.qid x.tag St.success
              (n + 2 ^ 63 * b2n (v.touchesUnflushed off n))).done

/-- STAT of queue `q` and tag `t` (R481). -/
def execStat (q t : Nat) (h : HostData) (s : State) : Res :=
  match s.command q t 0x43 with
  | none => .next s
  | some x =>
    let e := x.entry
    let st := s.objectCheck e h (entFlags e = 0 && entZero e 32 16) [1, 2, 3] (fun n => 128 ≤ n)
    let ps := bufferPieces e h
    if st != 0 then (s.endWith x st).done
    else match s.lookup (entKey e) (entVersion e) with
      | none =>
        (s.endWith x (if s.damagedVersion (entKey e) (entVersion e) then St.intIndex else St.objNotFound)).done
      | some v =>
        if s.damagedVersion v.key v.ver then (s.endWith x St.intIndex).done
        else if !s.transferOk ps h then (s.endWith x St.transferError).done
        else ((((s.writeBuffer 0 ps (s.statRecord v)).charge 0 2).charge 9 1).complete x.qid x.tag St.success v.ver).done

/-- LIST of queue `q` and tag `t` (R482 to R484). -/
def execList (q t : Nat) (h : HostData) (s : State) : Res :=
  match s.command q t 0x44 with
  | none => .next s
  | some x =>
    let e := x.entry
    let bits := entFlags e % 256
    let cookie := numAt e 32 8
    let st := s.objectCheck e h (bits ≤ 128 && entFlags e < 512 && entVersion e = 0 && entZero e 40 8) [1, 2, 3]
      (fun n => 64 ≤ n && n ≤ 16777216)
    let ps := bufferPieces e h
    if st != 0 then (s.endWith x st).done
    else
      let pos := s.obj.cookies.find? (fun c => c.id == cookie)
      if cookie != 0 && pos.isNone then (s.endWith x St.cookieStale).done
      else if !s.transferOk ps h then
        -- the cookie has been used all the same (R484)
        let used (c : Cookie) : Cookie := if c.id = cookie then { c with usedUs := s.pwr.timeUs } else c
        (({ s with obj := { s.obj with cookies := s.obj.cookies.map used } }).endWith x St.transferError).done
      else
        let all := s.listing (entKey e) bits (bitOf (entFlags e) 8) (pos.map (·.pos))
        let now := all.take (min ((entBufLen e - 16) / 48) 1024)
        let more := now.length < all.length
        let s1 := { s with obj := { s.obj with cookies := s.obj.cookies.filter (fun c => c.id != cookie) } }
        let next := if more then s1.obj.nextCookie else 0
        let s2 := match now.getLast? with
          | some v => if more then s1.newCookie ⟨v.key, v.ver, false, 0⟩ else s1
          | none => s1
        let bytes := leBytes 4 now.length ++ leBytes 4 (b2n more) ++ leBytes 8 next ++ now.flatMap s.listEntry
        ((((s2.writeBuffer 0 ps bytes).charge 0 (linesOf bytes.length)).charge 9 (1 + now.length)).complete x.qid x.tag St.success
          next).done

end Sys2Proof.Machine
end

