-- ==== Sys2Proof/Machine/RegIO.lean ====
section
/-!
DEFINITION. Host accesses to the memory BARs but doorbells (R5 to R12, R20, R35, R394, R395, R399), and the accumulation and storing of
statistics counters (R197, R574).
Choices: assumption log 7, 46, 62, 63.
-/
namespace Sys2Proof.Machine
open Sys2Proof

-- ---------------------------------------------------------------------------------------------------------------
-- Accesses

/-- 4 or 8 bytes, naturally aligned (R5, R394). -/
def accessFits (off width : Nat) : Bool := (width = 4 || width = 8) && off % width = 0

/-- Offsets of the 32-bit words that an access covers. -/
def accessWords (off width : Nat) : List Nat := (List.range (width / 4)).map (fun i => off + 4 * i)

/-- Offset of the MSI-X table or the PBA in BAR4 (R394, R395). -/
def bar4Inside (off : Nat) : Bool := off < 0x2000 || (0x8000 ≤ off && off < 0x8040)

/-- The MFE window while the core die sees the die-to-die link down (R20). -/
def State.mfeLost (s : State) (off : Nat) : Bool := unitAt off = some 22 && !s.d2d.coreUp

-- ---------------------------------------------------------------------------------------------------------------
-- Reads (R7, R8)

/-- Bits of a row that a read returns: every field but the write-only ones (R8). -/
def readMask (r : RegRow) : Word :=
  r.fields.foldl (fun w f => if f.acc = .wo then w else Word.set w f.hi f.lo (2 ^ 32 - 1)) 0

/-- A read of BAR0 offset `a`: reserved and write-only bits, and offsets without a register, read zero (R7,
R8, R35); CXC's component registers lie in a block of their own (R388). -/
def State.readReg (s : State) (a : Nat) : Word :=
  match regRowAt a with
  | some r => s.regView a &&& readMask r
  | none => match componentOffset a with
    | some off => BitVec.ofNat 32 (s.componentWord off)
    | none => 0

/-- The RC fields of register `a` clear with the read (R8). -/
def State.clearRead (s : State) (a : Nat) : State :=
  match regRowAt a with
  | some r => r.fields.foldl (fun t f => if f.acc = .rc then t.setF ⟨a, f.hi, f.lo⟩ 0 else t) s
  | none => s

/-- A 32-bit word of BAR4: the MSI-X table, or the pending bits (R394). -/
def State.readBar4 (s : State) (off : Nat) : Nat :=
  if off < 0x2000 then
    let e := msixEntry s.evt.table (off / 16)
    match off / 4 % 4 with
    | 0 => e.addr % 2 ^ 32
    | 1 => e.addr / 2 ^ 32
    | 2 => e.data
    | _ => b2n e.masked
  else (List.range 32).foldl (fun a i => a + b2n (s.evt.pba.contains (8 * (off - 0x8000) + i)) * 2 ^ i) 0

/-- RC_REGISTER_READ: a host read of `width` bytes at `off` of BAR `bar` (0, 2 or 4). RC fields that it includes clear. -/
def execRcRegisterRead (bar off width : Nat) (s : State) : Res :=
  .next (if !s.barsOn then s.emit .unsupported
    else if !accessFits off width then s.emit .completerAbort
    else if bar = 0 && off < 256 * mib then
      let ws := accessWords off width
      if s.mfeLost off then s.emit .completerAbort
      else ws.foldl State.clearRead (s.emit (.completion (ws.flatMap (fun a => leBytes 4 (s.readReg a).toNat))))
    else if bar = 2 && off < 8 * mib then s.emit (.completion (zeros width))
    else if bar = 4 && bar4Inside off then
      s.emit (.completion ((accessWords off width).flatMap (fun a => leBytes 4 (s.readBar4 a))))
    else s.emit .completerAbort)

-- ---------------------------------------------------------------------------------------------------------------
-- Writes (R8 to R11, R15)

/-- The Host column of a field permits a write in the life-cycle state (R9). -/
def State.hostPermits (s : State) (c : HostCol) : Bool :=
  match c with
  | .y => true
  | .m => s.manufacture || s.returned
  | .n => false

/-- Field `f` of a register that holds `w` after a permitted write of `v` (R8). A write-only field starts what a row of its own
stands for. -/
def State.fieldAfter (s : State) (f : RegField) (w v : Word) : Nat :=
  let old := Word.get w f.hi f.lo
  let new := Word.get v f.hi f.lo
  if !s.hostPermits f.host then old
  else match f.acc with
    | .rw => new
    | .rwl => if s.manufacture then new else old
    | .w1c => old - (old &&& new)
    | .w1s => old ||| new
    | _ => old

/-- A written register of CHN or PRE holds what was written, no value of the channel tables any more. -/
def State.ownWritten (s : State) (a : Nat) : State :=
  if !s.manufacture then s
  else if 0x2000000 ≤ a && a < 0x2400000 then
    let k := (a - 0x2000000) / 0x200000
    let c := s.chn k
    s.setChn k { c with own := insertNat ((a - 0x2000000) % 0x200000) c.own }
  else if a = 0x2600024 || a = 0x2700024 then
    let k := (a - 0x2600024) / 0x100000
    s.setPre k { s.pre k with precomp := none }
  else s

/-- CHN_MARKWIN takes no value outside the bounds of its fields. -/
def markWindow (v : Word) : Word :=
  Word.set (Word.set (Word.set v 21 16 (min 32 (Word.get v 21 16))) 12 8 (min 16 (max 2 (Word.get v 12 8)))) 6 0
    (min 64 (max 8 (Word.get v 6 0)))

/-- A write of `v` to register `a` as its row says (R10). -/
def State.writeFields (s : State) (r : RegRow) (a : Nat) (v : Word) : State :=
  let w := s.reg a
  (s.ownWritten a).setReg a (r.fields.foldl (fun x f => Word.set x f.hi f.lo (s.fieldAfter f w v)) w)

/-- Registers of queue 0 and ring 0, whose writes are discarded while EN is 1 (R422). -/
def adminReg (a : Nat) : Bool := [0x1600010, 0x1600014, 0x1600018, 0x160001C, 0x1600020, 0x1600024, 0x1600028].contains a

/-- What a write of register `a` does where it does more, or less, than its row says: sticky bits are cleared under R605;
0x2100:0B clears with PLT_RSTCAUSE.DOMAIN; a channel that the host does not own (R518), a bias request that runs, queue 0 that
exists and the slack bit of media classes take no write; QMG_ACTL.EN has rows of its own. -/
def State.writeReg (s : State) (a : Nat) (v : Word) : State :=
  match regRowAt a with
  | none => match componentOffset a with
    | some off => s.componentWrite off v.toNat
    | none => s
  | some r =>
    if r.base = 0x300200 then
      (List.range 32).foldl (fun t i => if bitOf v.toNat i then t.clearSticky (8 * (a - 0x300200) + i) else t) s
    else if a = 0x14 then
      let s1 := s.writeFields r a v
      if bitOf v.toNat 7 then { s1 with boot := { s1.boot with domainsReset := 0 } } else s1
    else if a = 0x1600000 || (adminReg a && s.isSet Fld.QMG_ACTL_EN) then s
    else if a = 0x1000064 && bitOf v.toNat 31 && s.isSet Fld.BMC_BIASCMD_BUSY then s
    else if 0x1210000 ≤ a && a < 0x1212000 && !s.dmaHostOwned ((a - 0x1210000) / 256) then s
    else if a = 0x2000140 || a = 0x2200140 then s.writeFields r a (markWindow v)
    else if r.base = 0x200100 && tintMedia ((a - r.base) / 4) then s.writeFields r a (Word.set v 16 16 0)
    else s.writeFields r a v

/-- A 32-bit word of the MSI-X table is written; a vector unmasked sends its pending message (R399). -/
def State.writeBar4 (s : State) (off v : Nat) : State :=
  if off < 0x2000 then
    let e := msixEntry s.evt.table (off / 16)
    let e1 : Msix := match off / 4 % 4 with
      | 0 => { e with addr := 2 ^ 32 * (e.addr / 2 ^ 32) + 4 * (v / 4) }
      | 1 => { e with addr := 2 ^ 32 * v + e.addr % 2 ^ 32 }
      | 2 => { e with data := v }
      | _ => { e with masked := bitOf v 0 }
    ({ s with evt := { s.evt with table := putMsix s.evt.table e1 } }).flushVectors
  else s

/-- REGISTER_WRITE: a host write of `width` bytes at `off` of BAR `bar` (0 or 4), for fields without a row of their own. A bad width
or alignment in BAR0 completes with Completer Abort (R6); in BAR4 the write is discarded (R395). -/
def execRegisterWrite (bar off width data : Nat) (s : State) : Res :=
  let ws := (List.range (width / 4)).map (fun i => (off + 4 * i, data / 2 ^ (32 * i) % 2 ^ 32))
  .next (if !s.barsOn then s.emit .unsupported
    else if bar = 0 && off < 256 * mib then
      if !accessFits off width then s.emit .completerAbort
      else if s.mfeLost off then s
      else ws.foldl (fun t p => t.writeReg p.1 (BitVec.ofNat 32 p.2)) s
    else if bar = 4 && accessFits off width then ws.foldl (fun t p => t.writeBar4 p.1 p.2) s
    else s)

-- ---------------------------------------------------------------------------------------------------------------
-- Statistics (R197, R574)

/-- Counters that firmware adds to statistics entries: field, index, subindex; index 0 where no entry takes the count of its own. -/
def accumulated : List (FieldRef × Nat × Nat) :=
  [(Fld.CHN_ERRCNT0_MARK_MISS 0, 0x8110, 1), (Fld.CHN_ERRCNT0_ALT_USED 0, 0x8110, 2), (Fld.CHN_ERRCNT1_RESYNC_MISS 0, 0x8110, 3),
    (Fld.CHN_ERRCNT1_REV_SLIP 0, 0x8110, 4), (Fld.CHN_ERRCNT2_LOCK_FAIL 0, 0x8110, 5), (Fld.CHN_ERRCNT0_MARK_MISS 1, 0x8111, 1),
    (Fld.CHN_ERRCNT0_ALT_USED 1, 0x8111, 2), (Fld.CHN_ERRCNT1_RESYNC_MISS 1, 0x8111, 3), (Fld.CHN_ERRCNT1_REV_SLIP 1, 0x8111, 4),
    (Fld.CHN_ERRCNT2_LOCK_FAIL 1, 0x8111, 5), (Fld.DEC_RECCNT_UNRECOVERED 0, 0x8120, 7), (Fld.DEC_RECCNT_UNRECOVERED 1, 0x8121, 7),
    (Fld.DEC_RECCNT_RECOVERED 0, 0, 0), (Fld.DEC_RECCNT_RECOVERED 1, 0, 0), (Fld.SPM_CNT_LOS, 0x8150, 1), (Fld.SPM_CNT_CATCHES, 0x8150, 2),
    (Fld.SPM_CNT_SKIPS, 0x8150, 3), (Fld.BMC_ECCCNT_CORR, 0x8200, 1), (Fld.BMC_ECCCNT_UNCORR, 0x8200, 2),
    (Fld.CXC_ERRCNT_CRCRETRY, 0x8300, 2), (Fld.CXC_ERRCNT_REPLAY, 0x8300, 3), (Fld.QMG_MISSCNT_MISSES, 0x8310, 3), (Fld.HCC_CNT_HITS, 0x8330, 1),
    (Fld.HCC_CNT_MISSES, 0x8330, 2), (Fld.MIG_CNT_RETX, 0x8340, 4), (Fld.MIG_CNT_AUTHFAIL, 0x8340, 5), (Fld.ETH_FECCNT_UNCORR, 0x8340, 6),
    (Fld.ETH_FECCNT_CORR, 0, 0), (Fld.CAN_CNT_ERRFRM, 0x8010, 3), (Fld.CAN_CNT_BUSOFF, 0x8010, 4), (Fld.FCL_CNT_MERGED, 0x8020, 4),
    (Fld.FCL_CNT_CORRUPT, 0x8020, 5)]

/-- Read a counter, which clears it, and add it to its entry. -/
def State.accumulate (s : State) (c : FieldRef × Nat × Nat) : State :=
  let n := s.getF c.1
  let s1 := s.setF c.1 0
  if n = 0 || c.2.1 = 0 then s1 else s1.stat c.2.1 c.2.2 n

/-- COUNTER_ACCUMULATE: once per second. `links` are the CRC retries and replays of the CXL link and the corrected and uncorrectable FEC
blocks of the Ethernet port that their hardware has counted since the last time: more retries than CRC_TH raise source 369 and stand in
the RAS status (R408), more than 100 uncorrectable blocks raise 384 (R565). The windows of 1 s are those of the accumulation (DESIGN
CHOICE, assumption log 62). -/
def execCounterAccumulate (links : Nat × Nat × Nat × Nat) (s : State) : Res :=
  .next (if !s.coreRuns then s
    else
      let s1 := (s.bumpF Fld.CXC_ERRCNT_CRCRETRY links.1).bumpF Fld.CXC_ERRCNT_REPLAY links.2.1
      let s2 := (s1.bumpF Fld.ETH_FECCNT_CORR links.2.2.1).bumpF Fld.ETH_FECCNT_UNCORR links.2.2.2
      let s3 := if links.1 > s.getF Fld.CXC_LINKCAP_CRC_TH then
          ({ s2 with cxc := { s2.cxc with rasCorr := s2.cxc.rasCorr ||| 4 } }).raise 369 0 0
        else s2
      let s4 := if links.2.2.2 > 100 then s3.raise 384 0 0 else s3
      accumulated.foldl State.accumulate s4)

/-- The key of a statistics entry (R574). -/
def statsKey (k : Nat) : Bool := 0x800000 ≤ k && k ≤ 0x8FFFFF

/-- STATISTICS_STORE: every hour the counters are stored in bank 3, where a page can be programmed (R574, R643). -/
def execStatisticsStore (s : State) : Res :=
  .next (if !s.coreRuns || s.areaFull 3 then s
    else { s with bank3 := (s.dict.filter (fun p => statsKey p.1)).foldl (fun m p => Assoc.put m p.1 p.2)
                             (s.bank3.filter (fun p => !statsKey p.1)) })

end Sys2Proof.Machine
end

