-- ==== Sys2Proof/Machine/Dispatch.lean ====
section
/-! DEFINITION. One arm per command: each calls the meaning of its command. -/

namespace Sys2Proof.Machine

/-- The effect of a command on everything but the queue. -/
def exec (i : Instr) (s : State) : Host.Outcome State Fault Refusal :=
  match i with
  | .supplyGood v12 v33 node inp => Sys2Proof.Machine.execSupplyGood v12 v33 node inp s
  | .supplyLost v12 v33 => Sys2Proof.Machine.execSupplyLost v12 v33 s
  | .vddAoPowerOn inp => Sys2Proof.Machine.execVddAoPowerOn inp s
  | .porstNLow => Sys2Proof.Machine.execPorstNLow s
  | .porstNRelease inp => Sys2Proof.Machine.execPorstNRelease inp s
  | .slateDeadline => Sys2Proof.Machine.execSlateDeadline s
  | .slateComplete => Sys2Proof.Machine.execSlateComplete s
  | .pwrGoodFall => Sys2Proof.Machine.execPwrGoodFall s
  | .railOutOfRange src => Sys2Proof.Machine.execRailOutOfRange src s
  | .supplyRestored inp => Sys2Proof.Machine.execSupplyRestored inp s
  | .rootReferenceLoss => Sys2Proof.Machine.execRootReferenceLoss s
  | .rootReferenceReturn inp => Sys2Proof.Machine.execRootReferenceReturn inp s
  | .rstreqWarm inp => Sys2Proof.Machine.execRstreqWarm inp s
  | .rstreqBuffer inp => Sys2Proof.Machine.execRstreqBuffer inp s
  | .rstreqHost => Sys2Proof.Machine.execRstreqHost s
  | .rstreqObject => Sys2Proof.Machine.execRstreqObject s
  | .rstreqMedia0 both => Sys2Proof.Machine.execRstreqMedia0 both s
  | .rstreqMedia1 both => Sys2Proof.Machine.execRstreqMedia1 both s
  | .rstreqMotion => Sys2Proof.Machine.execRstreqMotion s
  | .mediaServiceTimeout k => Sys2Proof.Machine.execMediaServiceTimeout k s
  | .beacon v12 vbus temp wins => Sys2Proof.Machine.execBeacon v12 vbus temp wins s
  | .beaconDrop => Sys2Proof.Machine.execBeaconDrop s
  | .spinUpDelayEnd => Sys2Proof.Machine.execSpinUpDelayEnd s
  | .spinUpNow => Sys2Proof.Machine.execSpinUpNow s
  | .ochreStart selfOk => Sys2Proof.Machine.execOchreStart selfOk s
  | .ochreDeadline => Sys2Proof.Machine.execOchreDeadline s
  | .ochreRetry selfOk => Sys2Proof.Machine.execOchreRetry selfOk s
  | .restartOchre => Sys2Proof.Machine.execRestartOchre s
  | .cobalt lost stale offsets => Sys2Proof.Machine.execCobalt lost stale offsets s
  | .d2dFlitReceive motion crcOk => Sys2Proof.Machine.execD2dFlitReceive motion crcOk s
  | .d2dResendLimit => Sys2Proof.Machine.execD2dResendLimit s
  | .d2dLinkTimeout => Sys2Proof.Machine.execD2dLinkTimeout s
  | .d2dLinkUp => Sys2Proof.Machine.execD2dLinkUp s
  | .clockMonitorGate out gated => Sys2Proof.Machine.execClockMonitorGate out gated s
  | .referenceDeviation => Sys2Proof.Machine.execReferenceDeviation s
  | .tintPeriod firmware upset => Sys2Proof.Machine.execTintPeriod firmware upset s
  | .floorRecompute k milliRevs => Sys2Proof.Machine.execFloorRecompute k milliRevs s
  | .coreWindow => Sys2Proof.Machine.execCoreWindow s
  | .hostShareSwitch c ran waits => Sys2Proof.Machine.execHostShareSwitch c ran waits s
  | .migrationCap ran => Sys2Proof.Machine.execMigrationCap ran s
  | .sectorWrite k cut => Sys2Proof.Machine.execSectorWrite k cut s
  | .journalRecordWrite k cuts => Sys2Proof.Machine.execJournalRecordWrite k cuts s
  | .journalResume k => Sys2Proof.Machine.execJournalResume k s
  | .checkpoint cut => Sys2Proof.Machine.execCheckpoint cut s
  | .reallocation wedges foreground cuts => Sys2Proof.Machine.execReallocation wedges foreground cuts s
  | .sectorRead k psa kind cap copied follow => Sys2Proof.Machine.execSectorRead k psa kind cap copied follow s
  | .decodeComplete n upset => Sys2Proof.Machine.execDecodeComplete n upset s
  | .spillDrainDone n => Sys2Proof.Machine.execSpillDrainDone n s
  | .decodeOvertime n => Sys2Proof.Machine.execDecodeOvertime n s
  | .sampleCopyDone k => Sys2Proof.Machine.execSampleCopyDone k s
  | .recoveryStepEnd psa wedges foreground cap => Sys2Proof.Machine.execRecoveryStepEnd psa wedges foreground cap s
  | .recoveryLimit psa => Sys2Proof.Machine.execRecoveryLimit psa s
  | .scrubRead k wedges foreground cap cuts => Sys2Proof.Machine.execScrubRead k wedges foreground cap cuts s
  | .scrubRecheck psa wedges foreground cap cuts => Sys2Proof.Machine.execScrubRecheck psa wedges foreground cap cuts s
  | .scrubPositionStore => Sys2Proof.Machine.execScrubPositionStore s
  | .computeEfficiency => Sys2Proof.Machine.execComputeEfficiency s
  | .startQualification selfOk => Sys2Proof.Machine.execStartQualification selfOk s
  | .qualificationRateResult h z beyond snr fails => Sys2Proof.Machine.execQualificationRateResult h z beyond snr fails s
  | .formatDrive id => Sys2Proof.Machine.execFormatDrive id s
  | .gateMonitorMismatch k => Sys2Proof.Machine.execGateMonitorMismatch k s
  | .writeInhibit k bit => Sys2Proof.Machine.execWriteInhibit k bit s
  | .inhibitRelease k => Sys2Proof.Machine.execInhibitRelease k s
  | .writeRetriesExhausted k => Sys2Proof.Machine.execWriteRetriesExhausted k s
  | .preampFault k fault answered => Sys2Proof.Machine.execPreampFault k fault answered s
  | .preScmdGo k read addr data answer back => Sys2Proof.Machine.execPreScmdGo k read addr data answer back s
  | .headSwitch k head back offsets => Sys2Proof.Machine.execHeadSwitch k head back offsets s
  | .headSwitchSettle k => Sys2Proof.Machine.execHeadSwitchSettle k s
  | .servoWedge k w trajEnd dac => Sys2Proof.Machine.execServoWedge k w trajEnd dac s
  | .wedgePredicted k trajEnd dac => Sys2Proof.Machine.execWedgePredicted k trajEnd dac s
  | .wedgeSequenceLost k => Sys2Proof.Machine.execWedgeSequenceLost k s
  | .reacquireTimeout k => Sys2Proof.Machine.execReacquireTimeout k s
  | .cleOverrun k => Sys2Proof.Machine.execCleOverrun k s
  | .srvTargetWrite k target => Sys2Proof.Machine.execSrvTargetWrite k target s
  | .cleLoopEnable l => Sys2Proof.Machine.execCleLoopEnable l s
  | .headLoad k ws ident rcoil => Sys2Proof.Machine.execHeadLoad k ws ident rcoil s
  | .loadNoLock k rcoil => Sys2Proof.Machine.execLoadNoLock k rcoil s
  | .runoutLearnTimeout h => Sys2Proof.Machine.execRunoutLearnTimeout h s
  | .injectionStart => Sys2Proof.Machine.execInjectionStart s
  | .captureComplete => Sys2Proof.Machine.execCaptureComplete s
  | .pwmPeriod arrived isamp emf angle speed => Sys2Proof.Machine.execPwmPeriod arrived isamp emf angle speed s
  | .dutySetLoss => Sys2Proof.Machine.execDutySetLoss s
  | .sampleShiftTimeout => Sys2Proof.Machine.execSampleShiftTimeout s
  | .speedLoop speed rev revEnd => Sys2Proof.Machine.execSpeedLoop speed rev revEnd s
  | .standstillStartTimeout => Sys2Proof.Machine.execStandstillStartTimeout s
  | .bemfZeroCrossing interval c => Sys2Proof.Machine.execBemfZeroCrossing interval c s
  | .catchTimeout => Sys2Proof.Machine.execCatchTimeout s
  | .lossOfSynchronism p1 p2 p3 => Sys2Proof.Machine.execLossOfSynchronism p1 p2 p3 s
  | .spinDownUnparked => Sys2Proof.Machine.execSpinDownUnparked s
  | .spindleStopped speed => Sys2Proof.Machine.execSpindleStopped speed s
  | .vbusAbove13v8 vbus => Sys2Proof.Machine.execVbusAbove13v8 vbus s
  | .vbusBelow13v6 vbus => Sys2Proof.Machine.execVbusBelow13v6 vbus s
  | .vbusAbove14v2 vbus => Sys2Proof.Machine.execVbusAbove14v2 vbus s
  | .vbusAbove15v vbus => Sys2Proof.Machine.execVbusAbove15v vbus s
  | .vbusBelow14v2Again vbus => Sys2Proof.Machine.execVbusBelow14v2Again vbus s
  | .idealDiodeSwitch v12 vbus => Sys2Proof.Machine.execIdealDiodeSwitch v12 vbus s
  | .fetNotConducting => Sys2Proof.Machine.execFetNotConducting s
  | .chopperOpen amps vbus => Sys2Proof.Machine.execChopperOpen amps vbus s
  | .chopperShort amps => Sys2Proof.Machine.execChopperShort amps s
  | .clearLatches => Sys2Proof.Machine.execClearLatches s
  | .vcmSetpointLoss k => Sys2Proof.Machine.execVcmSetpointLoss k s
  | .retractVelocityEnd k mv ma late => Sys2Proof.Machine.execRetractVelocityEnd k mv ma late s
  | .retractEnd k => Sys2Proof.Machine.execRetractEnd k s
  | .supplyBelowThreshold => Sys2Proof.Machine.execSupplyBelowThreshold s
  | .powerLossConfirm => Sys2Proof.Machine.execPowerLossConfirm s
  | .phaseShort ma mv => Sys2Proof.Machine.execPhaseShort ma mv s
  | .openPhase ma want => Sys2Proof.Machine.execOpenPhase ma want s
  | .vcmShort k ma desat => Sys2Proof.Machine.execVcmShort k ma desat s
  | .vcmOpen k ma => Sys2Proof.Machine.execVcmOpen k ma s
  | .gateDriveSupplyLow => Sys2Proof.Machine.execGateDriveSupplyLow s
  | .reversedInput => Sys2Proof.Machine.execReversedInput s
  | .shock mv => Sys2Proof.Machine.execShock mv s
  | .shockHoldEnd => Sys2Proof.Machine.execShockHoldEnd s
  | .dramAccess l err what cls => Sys2Proof.Machine.execDramAccess l err what cls s
  | .patrolStep what => Sys2Proof.Machine.execPatrolStep what s
  | .mergeWrite l cls cells => Sys2Proof.Machine.execMergeWrite l cls cells s
  | .mergeHoldExpire l parityOk => Sys2Proof.Machine.execMergeHoldExpire l parityOk s
  | .initBlockDone => Sys2Proof.Machine.execInitBlockDone s
  | .dqsOscillatorRead sub drift => Sys2Proof.Machine.execDqsOscillatorRead sub drift s
  | .zqCalibration => Sys2Proof.Machine.execZqCalibration s
  | .dramTemperatureRead hot => Sys2Proof.Machine.execDramTemperatureRead hot s
  | .biasRequest count => Sys2Proof.Machine.execBiasRequest count s
  | .cxlMemAccess hpa write poison => Sys2Proof.Machine.execCxlMemAccess hpa write poison s
  | .linkTraining width rate cxl presets => Sys2Proof.Machine.execLinkTraining width rate cxl presets s
  | .surpriseLinkDown => Sys2Proof.Machine.execSurpriseLinkDown s
  | .hotReset => Sys2Proof.Machine.execHotReset s
  | .perstNAssert => Sys2Proof.Machine.execPerstNAssert s
  | .perstNDeassert => Sys2Proof.Machine.execPerstNDeassert s
  | .configRequest off be write ready tails => Sys2Proof.Machine.execConfigRequest off be write ready tails s
  | .functionLevelReset => Sys2Proof.Machine.execFunctionLevelReset s
  | .cxlReset => Sys2Proof.Machine.execCxlReset s
  | .hdmCommit base size lock => Sys2Proof.Machine.execHdmCommit base size lock s
  | .doorbellWrite off width data mb => Sys2Proof.Machine.execDoorbellWrite off width data mb s
  | .msixUnmask v => Sys2Proof.Machine.execMsixUnmask v s
  | .ideKmMessage stream action skid => Sys2Proof.Machine.execIdeKmMessage stream action skid s
  | .ideIntegrityFail stream flit => Sys2Proof.Machine.execIdeIntegrityFail stream flit s
  | .completionTimeout ch l onDst x more => Sys2Proof.Machine.execCompletionTimeout ch l onDst x more s
  | .poisonReceived cache ch l onDst x more => Sys2Proof.Machine.execPoisonReceived cache ch l onDst x more s
  | .d3hotEntry => Sys2Proof.Machine.execD3hotEntry s
  | .d0Return => Sys2Proof.Machine.execD0Return s
  | .hccDisable => Sys2Proof.Machine.execHccDisable s
  | .hccWalkOvertime => Sys2Proof.Machine.execHccWalkOvertime s
  | .hccEnable tails => Sys2Proof.Machine.execHccEnable tails s
  | .hostSnoop addr inv old tail => Sys2Proof.Machine.execHostSnoop addr inv old tail s
  | .writebackGo addr => Sys2Proof.Machine.execWritebackGo addr s
  | .unplacedMailboxPoll qid tail => Sys2Proof.Machine.execUnplacedMailboxPoll qid tail s
  | .hccParitySweep set errors => Sys2Proof.Machine.execHccParitySweep set errors s
  | .adminQueueEnable => Sys2Proof.Machine.execAdminQueueEnable s
  | .adminQueueDisable entries => Sys2Proof.Machine.execAdminQueueDisable entries s
  | .mailboxSnoop qid tail => Sys2Proof.Machine.execMailboxSnoop qid tail s
  | .entryAccept entry head => Sys2Proof.Machine.execEntryAccept entry head s
  | .headWordReread ring head => Sys2Proof.Machine.execHeadWordReread ring head s
  | .ringFullTimeout ring => Sys2Proof.Machine.execRingFullTimeout ring s
  | .coalescingTimeout g => Sys2Proof.Machine.execCoalescingTimeout g s
  | .identify t h => Sys2Proof.Machine.execIdentify t h s
  | .createQueue t => Sys2Proof.Machine.execCreateQueue t s
  | .deleteQueue t entries => Sys2Proof.Machine.execDeleteQueue t entries s
  | .resetQueue t entries => Sys2Proof.Machine.execResetQueue t entries s
  | .createCring t => Sys2Proof.Machine.execCreateCring t s
  | .deleteCring t => Sys2Proof.Machine.execDeleteCring t s
  | .arm t old new => Sys2Proof.Machine.execArm t old new s
  | .disarm t tail => Sys2Proof.Machine.execDisarm t tail s
  | .fwDownload t h fail => Sys2Proof.Machine.execFwDownload t h fail s
  | .fwCommit t verifies programOk => Sys2Proof.Machine.execFwCommit t verifies programOk s
  | .fwCommitTrial t verifies programOk => Sys2Proof.Machine.execFwCommitTrial t verifies programOk s
  | .fwCommitBootLoader t verifies => Sys2Proof.Machine.execFwCommitBootLoader t verifies s
  | .fwActivate t => Sys2Proof.Machine.execFwActivate t s
  | .activationFetchStop => Sys2Proof.Machine.execActivationFetchStop s
  | .activationSwitch => Sys2Proof.Machine.execActivationSwitch s
  | .trialConfirm => Sys2Proof.Machine.execTrialConfirm s
  | .dictRead t h => Sys2Proof.Machine.execDictRead t h s
  | .dictWrite t h a => Sys2Proof.Machine.execDictWrite t h a s
  | .eventRingSetup t => Sys2Proof.Machine.execEventRingSetup t s
  | .putSegment q t h => Sys2Proof.Machine.execPutSegment q t h s
  | .tilePoolSlotFree => Sys2Proof.Machine.execTilePoolSlotFree s
  | .seal q t h ends => Sys2Proof.Machine.execSeal q t h ends s
  | .getRange q t h => Sys2Proof.Machine.execGetRange q t h s
  | .stat q t h => Sys2Proof.Machine.execStat q t h s
  | .list q t h => Sys2Proof.Machine.execList q t h s
  | .cookieExpiry => Sys2Proof.Machine.execCookieExpiry s
  | .delete q t h => Sys2Proof.Machine.execDelete q t h s
  | .setRetention q t h => Sys2Proof.Machine.execSetRetention q t h s
  | .verify q t h laddered => Sys2Proof.Machine.execVerify q t h laddered s
  | .flush q t h => Sys2Proof.Machine.execFlush q t h s
  | .flushComplete q t => Sys2Proof.Machine.execFlushComplete q t s
  | .migrate q t h session ns => Sys2Proof.Machine.execMigrate q t h session ns s
  | .migrateToHost q t h => Sys2Proof.Machine.execMigrateToHost q t h s
  | .abort q t => Sys2Proof.Machine.execAbort q t s
  | .abortResolve q t => Sys2Proof.Machine.execAbortResolve q t s
  | .dmaGo n srcL dstL listsOk => Sys2Proof.Machine.execDmaGo n srcL dstL listsOk s
  | .dmaAbort n l x error => Sys2Proof.Machine.execDmaAbort n l x error s
  | .dmaResume n => Sys2Proof.Machine.execDmaResume n s
  | .dmaHalt n l onDst cause x more => Sys2Proof.Machine.execDmaHalt n l onDst cause x more s
  | .dmaDone n x => Sys2Proof.Machine.execDmaDone n x s
  | .dmaStall n => Sys2Proof.Machine.execDmaStall n s
  | .modulePresenceChange present mode => Sys2Proof.Machine.execModulePresenceChange present mode s
  | .ethLinkChange up => Sys2Proof.Machine.execEthLinkChange up s
  | .neighborSolicitation dst target => Sys2Proof.Machine.execNeighborSolicitation dst target s
  | .echoRequest dst body => Sys2Proof.Machine.execEchoRequest dst body s
  | .hello d nr => Sys2Proof.Machine.execHello d nr s
  | .helloAck d => Sys2Proof.Machine.execHelloAck d s
  | .confirm d => Sys2Proof.Machine.execConfirm d s
  | .offer d => Sys2Proof.Machine.execOffer d s
  | .data d => Sys2Proof.Machine.execData d s
  | .receiveDurable p obj => Sys2Proof.Machine.execReceiveDurable p obj s
  | .sack d => Sys2Proof.Machine.execSack d s
  | .result d => Sys2Proof.Machine.execResult d s
  | .keepalive d => Sys2Proof.Machine.execKeepalive d s
  | .close d => Sys2Proof.Machine.execClose d s
  | .sackTimer p => Sys2Proof.Machine.execSackTimer p s
  | .retransmitTimeout pseq => Sys2Proof.Machine.execRetransmitTimeout pseq s
  | .keepaliveTimer => Sys2Proof.Machine.execKeepaliveTimer s
  | .peerSilence p session ns => Sys2Proof.Machine.execPeerSilence p session ns s
  | .migTimeout => Sys2Proof.Machine.execMigTimeout s
  | .read f => Sys2Proof.Machine.execRead f s
  | .write f a => Sys2Proof.Machine.execWrite f a s
  | .readInit f => Sys2Proof.Machine.execReadInit f s
  | .writeInit f a => Sys2Proof.Machine.execWriteInit f a s
  | .segment f a => Sys2Proof.Machine.execSegment f a s
  | .segAck f => Sys2Proof.Machine.execSegAck f s
  | .gdpAbort f => Sys2Proof.Machine.execGdpAbort f s
  | .keep f => Sys2Proof.Machine.execKeep f s
  | .sessionTimeout => Sys2Proof.Machine.execSessionTimeout s
  | .segmentResend => Sys2Proof.Machine.execSegmentResend s
  | .busOff => Sys2Proof.Machine.execBusOff s
  | .busOffRecovery => Sys2Proof.Machine.execBusOffRecovery s
  | .restoreDefaults => Sys2Proof.Machine.execRestoreDefaults s
  | .lifecycleTransition req cut inp => Sys2Proof.Machine.execLifecycleTransition req cut inp s
  | .unlock pw => Sys2Proof.Machine.execUnlock pw s
  | .newPassword pw => Sys2Proof.Machine.execNewPassword pw s
  | .relock => Sys2Proof.Machine.execRelock s
  | .testStart test unit => Sys2Proof.Machine.execTestStart test unit s
  | .extendedMemoryTest => Sys2Proof.Machine.execExtendedMemoryTest s
  | .loopbackStart cfg path testImpl => Sys2Proof.Machine.execLoopbackStart cfg path testImpl s
  | .loopbackStop errors bits ok => Sys2Proof.Machine.execLoopbackStop errors bits ok s
  | .loopbackEnd errors bits ok => Sys2Proof.Machine.execLoopbackEnd errors bits ok s
  | .testHold enter inp => Sys2Proof.Machine.execTestHold enter inp s
  | .scanEnable => Sys2Proof.Machine.execScanEnable s
  | .nvcProgram block page first data => Sys2Proof.Machine.execNvcProgram block page first data s
  | .nvcErase block => Sys2Proof.Machine.execNvcErase block s
  | .nvcOperationDone ok pulses => Sys2Proof.Machine.execNvcOperationDone ok pulses s
  | .faultMessage src kind addr ok1 ok2 => Sys2Proof.Machine.execFaultMessage src kind addr ok1 ok2 s
  | .reactionEnd => Sys2Proof.Machine.execReactionEnd s
  | .reactionTimeout => Sys2Proof.Machine.execReactionTimeout s
  | .storageCompare agree => Sys2Proof.Machine.execStorageCompare agree s
  | .clearSticky src => Sys2Proof.Machine.execClearSticky src s
  | .clearAllSticky => Sys2Proof.Machine.execClearAllSticky s
  | .watchdogExpiry w inp => Sys2Proof.Machine.execWatchdogExpiry w inp s
  | .lockstepMismatch p inp => Sys2Proof.Machine.execLockstepMismatch p inp s
  | .counterAccumulate links => Sys2Proof.Machine.execCounterAccumulate links s
  | .statisticsStore => Sys2Proof.Machine.execStatisticsStore s
  | .rcRegisterRead bar off width => Sys2Proof.Machine.execRcRegisterRead bar off width s
  | .registerWrite bar off width data => Sys2Proof.Machine.execRegisterWrite bar off width data s
  | .initPatrolStall => Sys2Proof.Machine.execInitPatrolStall s
  | .errorPassiveTimeout => Sys2Proof.Machine.execErrorPassiveTimeout s
  | .referenceDeviationCleared => Sys2Proof.Machine.execReferenceDeviationCleared s
  | .fltNRelease k => Sys2Proof.Machine.execFltNRelease k s
  | .testComplete pass detail entries => Sys2Proof.Machine.execTestComplete pass detail entries s
  | .spdmRequest kind signed => Sys2Proof.Machine.execSpdmRequest kind signed s
  | .rngHealthTest pass => Sys2Proof.Machine.execRngHealthTest pass s

end Sys2Proof.Machine
end

