-- ==== Sys2Proof/Machine/Step.lean ====
section
/-!
DEFINITION. One step of the block: the command at the front of the queue, or with none waiting one microsecond of time.
Choices: assumption log 2.
-/
namespace Sys2Proof.Machine
open Sys2Proof

/-- A step runs the command at the front of the queue on the state with the rest of the queue; with nothing waiting, time goes on
(assumption log 2). -/
def step (s : State) : Host.Outcome State Fault Refusal :=
  match s.pending with
  | [] => .next s.tick
  | c :: rest => exec c { s with pending := rest }

/-- The state with the command that a word of the opcode table spells at the front of the queue. No row of the table gives bits, so no
word spells one (assumption log 3). -/
def State.withFetchWord (s : State) (nbits w : Nat) : State :=
  match decodeTableWord nbits w with
  | some c => { s with pending := c :: s.pending }
  | none => s

end Sys2Proof.Machine
end

