-- ==== Sys2Proof/Safety.lean ====
section
/-!
DEFINITION. What a safe run is: one that never stops, over states whose stores are in canonical form. Beside it, what a step may
never undo.
-/
namespace Sys2Proof.Machine
open Sys2Proof

/-- The machine goes on: its next step answers a state. -/
def State.goesOn (s : State) : Prop := ∃ t, step s = .next t

/-- Registers, dictionary entries, their stored copies and DRAM each stand in their one canonical form, so that equal contents are
equal data. -/
def State.wellKept (s : State) : Prop :=
  RegsWf s.regs ∧ DictWf s.factory.gradeX s.dict ∧ DictWf s.factory.gradeX s.bank3 ∧ Memory.wf s.bmc.dram

/-- Every fuse blown in `s` is blown in `t` (R656). -/
def fusesKept (s t : State) : Prop := ∀ i, s.lcm.fuse.getLsbD i = true → t.lcm.fuse.getLsbD i = true

end Sys2Proof.Machine
end

