-- ==== Sys2Proof/Certificates/Slice0/Obligations.lean ====
section
/-!
DEFINITION. The statements for the provers, one definition each. Unless a docstring says otherwise, a statement holds of every state,
those that no run reaches included.
-/
namespace Sys2Proof.Machine
open Sys2Proof
end Sys2Proof.Machine

open Sys2Proof Sys2Proof.Machine

/-- SUPPLY_GOOD after a loss enters Ash with the node as strapped, time from zero and, with PORST_N high, a power-on reset before it; Slate
runs from there unless PORST_N is low or the core die held. After a dip without a loss it ends the low supply and does what SUPPLY_BACK of
the model says (write-inhibit bit 5 released, the Motion domain back once a loss was confirmed); with nothing lost it changes nothing.
SUPPLY_LOST records both supplies and raises bit 5. PWR_GOOD_FALL and RAIL_OUT_OF_RANGE hold a core die that runs in reset, and with the
core die held already only record what they saw. SUPPLY_RESTORED takes a held core die into Slate, and else only notes the supplies (R46,
R51, R52, R337). -/
def Obligations.SupplyEdgesRunTheirEffect : Prop :=
  (∀ (v12 v33 : Nat) (node : BitVec 7) (i : SlateInputs) (s u : State), 10200 ≤ v12 → 3000 ≤ v33 → s.pwr.good = false →
    s.pwr.porstLow = true →
    u = ((({ s with pwr := { s.pwr with v12Good := true, v33Good := true, good := true, timeUs := 0 },
                    media := { s.media with passUs := [0, 0] } } : State).enterAsh node v12).setF Fld.PLT_RSTCAUSE_MOTION_POR
                      (b2n s.ash.armed)) →
    exec (.supplyGood v12 v33 node i) s = .next u ∧ u.pwr.good = true ∧ u.pwr.timeUs = 0 ∧ u.ash.armed = true ∧
      u.ash.nodeId = node ∧ u.ash.beaconOn = true ∧ u.ash.canStbyLow = true) ∧
  (∀ (v12 v33 : Nat) (node : BitVec 7) (i : SlateInputs) (s u : State), 10200 ≤ v12 → 3000 ≤ v33 → s.pwr.good = false →
    s.pwr.porstLow = false →
    u = (((({ s with pwr := { s.pwr with v12Good := true, v33Good := true, good := true, timeUs := 0 },
                     media := { s.media with passUs := [0, 0] } } : State).powerOnReset false Fld.PLT_RSTCAUSE_MOTION_POR).enterAsh
                       node v12).setF Fld.PLT_RSTCAUSE_MOTION_POR (b2n s.ash.armed)) →
    exec (.supplyGood v12 v33 node i) s = .next (if s.pwr.held then u else u.slateRun i) ∧
      u.pwr.good = true ∧ u.pwr.timeUs = 0 ∧ u.ash.armed = true ∧ u.ash.nodeId = node ∧ u.ash.beaconOn = true ∧
      u.dict = s.bank3 ∧ u.qmg = Qmg.reset ∧ u.disk = s.disk ∧ u.lcm.fuse = s.lcm.fuse) ∧
  (∀ (v12 v33 : Nat) (node : BitVec 7) (i : SlateInputs) (s : State), 10200 ≤ v12 → 3000 ≤ v33 → s.pwr.good = true →
    exec (.supplyGood v12 v33 node i) s = .next (if s.mfe.supplyLow then s.supplyBack.settle else s)) ∧
  (∀ s : State, s.supplyBack.mfe.supplyLow = false ∧
    (s.pwr.pwrGood = true → s.pwr.railsOut = [] → s.mfe.lossConfirmed = false →
      s.supplyBack = ({ s with mfe := { s.mfe with supplyLow := false } } : State).uninhibitBoth 5)) ∧
  (∀ (v12 v33 : Nat) (s : State), v12 < 9800 ∨ v33 < 2850 →
    exec (.supplyLost v12 v33) s = .next ((({ s with
      pwr := { s.pwr with v12Good := decide (9800 ≤ v12), v33Good := decide (2850 ≤ v33), good := false },
      ash := { s.ash with beaconOn := s.ash.beaconOn && decide (2850 ≤ v33) },
      mfe := { s.mfe with supplyLow := true } } : State).inhibitBoth 5).settle)) ∧
  (∀ s : State, s.pwr.pwrGood = true → s.coreRuns = true →
    ∃ t, exec .pwrGoodFall s = .next t ∧ t.pwr.held = true ∧ t.pwr.pwrGood = false ∧ t.boot.slateDone = false ∧
      t.qmg = Qmg.reset ∧ t.disk = s.disk ∧ t.lcm = s.lcm ∧ (t.chn 0).wgate = false ∧ (t.chn 1).wgate = false) ∧
  (∀ s : State, s.pwr.pwrGood = true → s.coreRuns = false →
    exec .pwrGoodFall s = .next { s with pwr := { s.pwr with pwrGood := false } }) ∧
  (∀ (src : Nat) (s : State), 448 ≤ src → src ≤ 456 → s.coreRuns = false →
    exec (.railOutOfRange src) s =
      .next (({ s with pwr := { s.pwr with railsOut := insertNat src s.pwr.railsOut } } : State).raise src 0 0)) ∧
  (∀ (src : Nat) (s : State), 448 ≤ src → src ≤ 456 → s.coreRuns = true →
    ∃ u : State, u.pwr.held = true ∧ u.pwr.railsOut = insertNat src s.pwr.railsOut ∧ u.boot.slateDone = false ∧
      u.qmg = Qmg.reset ∧ u.disk = s.disk ∧ u.lcm = s.lcm ∧ (u.chn 0).wgate = false ∧ (u.chn 1).wgate = false ∧
      exec (.railOutOfRange src) s = .next (u.raise src 0 0)) ∧
  (∀ (i : SlateInputs) (s u : State), u = { s with pwr := { s.pwr with pwrGood := true, railsOut := [] } } →
    exec (.supplyRestored i) s =
      .next (if s.pwr.held && s.pwr.rootOk && !s.boot.slateFailed && !s.pwr.porstLow then
        (u.setF Fld.PLT_RSTCAUSE_SUPPLY 1).slateRun i else u))

/-- A rise of VDD_AO takes a power-on reset that clears the unlock count too, then runs Slate unless PORST_N is low or the core die held,
and PORST_N low takes one that keeps fuses and stored entries (R50). A release of PORST_N runs Slate (R62). A loss of the root reference
holds a core die that runs in reset with the die-to-die link down, and one held already only loses the reference; its return runs Slate
again when nothing else holds the core die (R82). The deadline of Slate fails it with code 0x0C and the core die held (R68). -/
def Obligations.ResetInputsRunTheirEffect : Prop :=
  (∀ (i : SlateInputs) (s : State),
    exec (.vddAoPowerOn i) s = .next ((s.powerOnReset true Fld.PLT_RSTCAUSE_POWER_ON).intoSlate i) ∧
    (s.powerOnReset true Fld.PLT_RSTCAUSE_POWER_ON).dict = s.bank3 ∧
    (s.powerOnReset true Fld.PLT_RSTCAUSE_POWER_ON).getF Fld.NVC_PROT_ATTEMPTS = 0 ∧
    (s.powerOnReset true Fld.PLT_RSTCAUSE_POWER_ON).getF Fld.NVC_PROT_LOCKOUT = 0) ∧
  (∀ (i : SlateInputs) (s : State), s.intoSlate i = if s.pwr.porstLow || s.pwr.held then s else s.slateRun i) ∧
  (∀ s : State, s.pwr.porstLow = false →
    ∃ t, exec .porstNLow s = .next t ∧ t.pwr.porstLow = true ∧ t.getF Fld.PLT_RSTCAUSE_PORST = 1 ∧
      t.qmg = Qmg.reset ∧ t.disk = s.disk ∧ t.lcm.fuse = s.lcm.fuse ∧ t.dict = s.bank3 ∧ t.bank3 = s.bank3) ∧
  (∀ (i : SlateInputs) (s : State), s.pwr.porstLow = true →
    exec (.porstNRelease i) s = .next (({ s with pwr := { s.pwr with porstLow := false } } : State).slateRun i)) ∧
  (∀ s : State, s.coreRuns = true →
    ∃ t, exec .rootReferenceLoss s = .next t ∧ t.pwr.held = true ∧ t.pwr.rootOk = false ∧ t.boot.slateDone = false ∧
      t.d2d.coreUp = false ∧ t.disk = s.disk) ∧
  (∀ s : State, s.coreRuns = false → exec .rootReferenceLoss s = .next { s with pwr := { s.pwr with rootOk := false } }) ∧
  (∀ (i : SlateInputs) (s : State), s.pwr.porstLow = false → s.pwr.held = true → s.boot.slateFailed = false →
    s.pwr.rootOk = false → s.pwr.pwrGood = true → s.pwr.railsOut = [] →
    exec (.rootReferenceReturn i) s = .next ((({ s with pwr := { s.pwr with rootOk := true } } : State).setF
      Fld.PLT_RSTCAUSE_ROOT_LOSS 1).slateRun i)) ∧
  (∀ (i : SlateInputs) (s : State), s.pwr.porstLow = true ∨ s.pwr.held = false →
    exec (.rootReferenceReturn i) s = .next { s with pwr := { s.pwr with rootOk := true } }) ∧
  (∀ s : State, s.boot.slateRunning = true → s.boot.slateDone = false →
    ∃ t, exec .slateDeadline s = .next t ∧ t.getF Fld.PLT_STAGE_FAILCODE = 0x0C ∧ t.pwr.held = true ∧
      t.boot.slateFailed = true)

/-- SLATE_COMPLETE, after step 9 or in test hold after step 7, ends Slate: the CAN node up, the Ethernet reference good, stage 1 with its
event, then the faults and the life-cycle transition that were held back, and last event 515 when 0x2100:06 asks the part to wait for a
spin-up request and none otherwise. A BEACON that is due measures both voltages and counts SEQ up; without arbitration its frame waits,
and with it the frame goes out, from the motion die while it drives the beacon and else from the CAN node; one that is not due changes
nothing. BEACON_DROP drops the frame that waits. SPIN_UP_DELAY_END notes in Slate that the delay is over (R57 to R62, R69, R670). -/
def Obligations.SlateEndAndBeaconRunTheirEffect : Prop :=
  (∀ s u : State, s.coreRuns = true → s.boot.slateDone = false →
    s.boot.slateStep = 9 ∨ (s.boot.slateStep = 7 ∧ s.tst.hold = true) →
    u = (((((({ s with boot := { s.boot with slateDone := true, slateRunning := false, slateStep := 10 },
                       ash := { s.ash with beaconOn := false } } : State).canUp).setF Fld.ETH_STATUS_REFOK 1).setStage
                         1).forwardKept).tellTransition) →
    (u.dictNum 0x2100 6 = 1 → exec .slateComplete s = .next (u.event 515 0)) ∧
    (u.dictNum 0x2100 6 ≠ 1 → exec .slateComplete s = .next u)) ∧
  (∀ s : State, s.canUp.getF Fld.CAN_STATUS_NODE = s.ash.nodeId.toNat % 128 ∧
    s.canUp.getF Fld.CAN_STATUS_BEACON = b2n (s.ash.nodeId != 0) ∧ s.canUp.dict = s.dict) ∧
  (∀ (v12 vbus : Nat) (temp : BitVec 8) (s u : State), s.beaconDue = true →
    u = (s.setF Fld.MFE_VSENSE_V12 (senseVolts v12)).setF Fld.MFE_VSENSE_VBUS (senseVolts vbus) →
    exec (.beacon v12 vbus temp false) s = .next { u with ash := { u.ash with
      seq := u.ash.seq + 1, temp := temp, queued := true,
      frame := u.beaconBytes (senseVolts v12) (senseVolts vbus) (s.speed16 / 16) temp } }) ∧
  (∀ (v12 vbus : Nat) (temp : BitVec 8) (s u t : State), s.beaconDue = true →
    u = (s.setF Fld.MFE_VSENSE_V12 (senseVolts v12)).setF Fld.MFE_VSENSE_VBUS (senseVolts vbus) →
    t = { u with ash := { u.ash with
      seq := u.ash.seq + 1, temp := temp, queued := false,
      frame := u.beaconBytes (senseVolts v12) (senseVolts vbus) (s.speed16 / 16) temp } } →
    (s.ash.beaconOn = true →
      exec (.beacon v12 vbus temp true) s = .next (t.emit (.canFrame (0x680 + s.ash.nodeId.toNat) false t.ash.frame))) ∧
    (s.ash.beaconOn = false →
      exec (.beacon v12 vbus temp true) s = .next (t.canSend (0x680 + s.ash.nodeId.toNat) t.ash.frame))) ∧
  (∀ (v12 vbus : Nat) (temp : BitVec 8) (wins : Bool) (s : State), s.beaconDue = false →
    exec (.beacon v12 vbus temp wins) s = .next s) ∧
  (∀ s : State, exec .beaconDrop s = .next { s with ash := { s.ash with queued := false, frame := [] } }) ∧
  (∀ s : State, s.boot.slateDone = true → s.stage = 1 →
    exec .spinUpDelayEnd s = .next { s with boot := { s.boot with delayEnded := true } }) ∧
  (∀ s : State, s.boot.slateDone = false ∨ s.stage ≠ 1 → exec .spinUpDelayEnd s = .next s)
/-- Each bit of PLT_RSTREQ that is taken resets what it names, with the cause in PLT_RSTCAUSE and the domain in 0x2100:0B: WARM the core
die, BUFFER with Slate, HOST and OBJECT their domain, MEDIA0 and MEDIA1 their actuator, which is held out of service under write-inhibit
bit 10 (DEC too when one write sets both), MOTION the spindle and both actuators. In Deployed the host's MEDIA and MOTION bits change
nothing, while WARM, HOST and OBJECT are taken (R9, R28, R30, R79, R81). -/
def Obligations.ResetRequestsRunTheirEffect : Prop :=
  (∀ (i : SlateInputs) (s : State), s.takesRequest true = true →
    exec (.rstreqWarm i) s = .next ((s.warmReset Fld.PLT_RSTCAUSE_WARM_REQ).slateRun i) ∧
    (s.warmReset Fld.PLT_RSTCAUSE_WARM_REQ).getF Fld.PLT_RSTCAUSE_WARM_REQ = 1 ∧
    (s.warmReset Fld.PLT_RSTCAUSE_WARM_REQ).boot.slateDone = false ∧ (s.warmReset Fld.PLT_RSTCAUSE_WARM_REQ).qmg = Qmg.reset ∧
    (s.warmReset Fld.PLT_RSTCAUSE_WARM_REQ).disk = s.disk) ∧
  (∀ (i : SlateInputs) (s : State), s.takesRequest false = true →
    exec (.rstreqBuffer i) s = .next ((s.requestDomain 1).slateRun i)) ∧
  (∀ s : State, s.takesRequest true = true → exec .rstreqHost s = .next (s.requestDomain 2)) ∧
  (∀ s : State, s.takesRequest true = true → exec .rstreqObject s = .next (s.requestDomain 3)) ∧
  (∀ s : State, s.takesRequest false = true → exec (.rstreqMedia0 false) s = .next (s.requestDomain 4)) ∧
  (∀ s : State, s.takesRequest false = true → exec (.rstreqMedia1 false) s = .next (s.requestDomain 5)) ∧
  (∀ s : State, s.takesRequest false = true →
    exec (.rstreqMedia0 true) s = .next s.requestBothMedia ∧ exec (.rstreqMedia1 true) s = .next s.requestBothMedia) ∧
  (∀ s : State, s.takesRequest false = true → exec .rstreqMotion s = .next (s.requestDomain 6)) ∧
  (∀ (d : Nat) (s : State), ∃ u : State, s.requestDomain d = u.settle ∧ u.getF Fld.PLT_RSTCAUSE_DOMAIN = 1 ∧
    u.boot.domainsReset = (s.domainReset d).boot.domainsReset ||| 2 ^ d) ∧
  (∀ (k : Nat) (s : State), k < 2 → ∃ u : State, s.domainReset (4 + k) = u.forgetRunout k ∧
    domMedia k ∈ u.boot.outOfService ∧ k ∉ u.boot.locked ∧ bitOf (u.inhibits k) 10 = true) ∧
  (∀ s : State, (s.domainReset 6).mfe.setPointsIgnored = true ∧ domMotion ∈ (s.domainReset 6).boot.outOfService ∧
    (s.domainReset 6).boot.locked = [] ∧ (s.domainReset 6).boot.ochreRunning = false) ∧
  (∀ (both : Bool) (s : State), s.coreRuns = true → s.deployed = true → exec (.rstreqMedia0 both) s = .next s ∧
    exec (.rstreqMedia1 both) s = .next s ∧ exec .rstreqMotion s = .next s ∧ s.takesRequest true = true)

/-- A spin-up request is noted in Slate and nowhere else; OCHRE_START begins Ochre when R69 allows it, OCHRE_RETRY after the wait; a new
start from standstill counts the attempt, enters stage 2 and starts the spindle; the deadline fails a running Ochre with code 0x25;
RESTART_OCHRE starts afresh with the attempt count at 0 and the safe end of R72 lifted, its own choices being those of assumption log
65; COBALT reads the Ivory tracks with reader A, then takes the tables up with all three readers, opens the object service on a good
index, and otherwise fails Ochre with the code of the step (R69 to R75, R258). -/
def Obligations.SpinUpAndOchreRunTheirEffect : Prop :=
  (∀ s : State, s.boot.slateDone = true → s.stage = 1 → s.boot.abandoned = false →
    exec .spinUpNow s = .next { s with boot := { s.boot with spinRequested := true } }) ∧
  (∀ s : State, s.stage ≠ 1 → exec .spinUpNow s = .next s) ∧
  (∀ (ok : Bool) (s : State), s.ochreMayBegin = true → exec (.ochreStart ok) s = .next (s.beginOchre ok)) ∧
  (∀ s : State, s.stage = 1 → s.boot.stageKept = false → s.isSet Fld.SPM_STATUS_AT_SPEED = false → s.getF Fld.PLT_STAGE_ATTEMPT < 255 →
    ∃ u : State, u.boot.ochreRunning = true ∧ u.boot.retryWait = false ∧ u.boot.ochreStep = 0 ∧ u.stage = 2 ∧
      u.getF Fld.PLT_STAGE_ATTEMPT = s.getF Fld.PLT_STAGE_ATTEMPT + 1 ∧ u.spm.spinDown = false ∧
      s.beginOchre true = u.startSpin.settle) ∧
  (∀ s : State, s.stage = 2 ∨ (s.boot.stageKept = true ∧ s.boot.ochreRunning = true) → s.isSet Fld.FCL_STATUS_SAFE = false →
    exec .ochreDeadline s = .next (s.ochreFail 0x25)) ∧
  (∀ (ok : Bool) (s : State), s.boot.retryWait = true → s.stage = 1 → s.boot.slateDone = true → s.motionLinkUp = true →
    s.retracting 0 = false → s.retracting 1 = false → s.blackSet = false →
    exec (.ochreRetry ok) s = .next (s.beginOchre ok)) ∧
  (∀ s : State, s.boot.slateDone = true → s.stage = 1 ∨ s.stage = 2 →
    exec .restartOchre s = .next s.restartOchre ∧ s.restartOchre.boot.abandoned = false ∧ s.restartOchre.boot.retryWait = false ∧
      s.restartOchre.boot.ochreRunning = false ∧ s.restartOchre.boot.spinRequested = true ∧
      s.restartOchre.getF Fld.PLT_STAGE_OCHRE_FAIL = 0 ∧ s.restartOchre.getF Fld.PLT_STAGE_ATTEMPT = 0) ∧
  (∀ s : State, s.stage = 3 → exec .restartOchre s = .next s) ∧
  (∀ (lost : List (Nat × Nat)) (stale : List Nat) (offsets : Nat × Nat) (s u v : State), s.boot.ochreRunning = true →
    3 ≤ s.boot.ochreStep → s.bothInService = true → (((s.useIvory 0).useIvory 1).enableReaders 1).ivoryStep lost = (0, u) →
    v = (u.enableReaders 7).tableStep stale offsets → v.obj.recovered = true →
    exec (.cobalt lost stale offsets) s = .next v.openCobalt) ∧
  (∀ (lost : List (Nat × Nat)) (stale : List Nat) (offsets : Nat × Nat) (s u v w : State), s.boot.ochreRunning = true →
    3 ≤ s.boot.ochreStep → s.bothInService = true → (((s.useIvory 0).useIvory 1).enableReaders 1).ivoryStep lost = (0, u) →
    v = (u.enableReaders 7).tableStep stale offsets → v.obj.recovered = false → v.recoverIndex = some w →
    exec (.cobalt lost stale offsets) s = .next w.openCobalt) ∧
  (∀ (lost : List (Nat × Nat)) (stale : List Nat) (offsets : Nat × Nat) (s u v : State), s.boot.ochreRunning = true →
    3 ≤ s.boot.ochreStep → s.bothInService = true → (((s.useIvory 0).useIvory 1).enableReaders 1).ivoryStep lost = (0, u) →
    v = (u.enableReaders 7).tableStep stale offsets → v.obj.recovered = false → v.recoverIndex = none →
    exec (.cobalt lost stale offsets) s = .next (v.ochreFail 0x24)) ∧
  (∀ (lost : List (Nat × Nat)) (stale : List Nat) (offsets : Nat × Nat) (s u : State) (code : Nat), s.boot.ochreRunning = true →
    3 ≤ s.boot.ochreStep → s.bothInService = true → (((s.useIvory 0).useIvory 1).enableReaders 1).ivoryStep lost = (code, u) →
    code ≠ 0 → exec (.cobalt lost stale offsets) s = .next ((u.enableReaders 7).ochreFail code)) ∧
  (∀ s : State, s.boot.reopen = false → s.openCobalt.boot.ochreRunning = false ∧ s.openCobalt.stage = 3 ∧
    s.openCobalt.getF Fld.PLT_STAGE_FAILCODE = 0 ∧ s.openCobalt.boot.restore = false ∧
    (s.boot.restore = false → s.openCobalt.boot.cobaltMs = s.pwr.timeUs / 1000 % 2 ^ 32))

/-- D2D_FLIT_RECEIVE counts a whole flit at either die, resends one with a CRC error up to four times, and takes the link down when the
fourth resend fails; D2D_RESEND_LIMIT takes it down after four resends, D2D_LINK_TIMEOUT at once; a link that goes down with both actuators
parked raises write-inhibit bit 6 and source 352 and gives the beacon to the motion die; D2D_LINK_UP brings a lost link back from Slate
step 7 on, with media service left to a repeated Ochre; REFERENCE_DEVIATION holds the Ethernet link down until
REFERENCE_DEVIATION_CLEARED. MEDIA_SERVICE_TIMEOUT completes every command that waits on a media domain out of service with
MEDIA_UNAVAILABLE, once a FLUSH among them has closed the stripes that can be closed, and does nothing while the domain is in service
(R16 to R21, R32, R88, R131). -/
def Obligations.DieLinkEventsRunTheirEffect : Prop :=
  (∀ s : State, s.d2d.coreUp = true →
    exec (.d2dFlitReceive false true) s = .next { s with d2d := { s.d2d with resends := 0, flits := s.d2d.flits + 1 } } ∧
    exec (.d2dFlitReceive true true) s = .next { s with d2d := { s.d2d with motionResends := 0, flits := s.d2d.flits + 1 } }) ∧
  (∀ s : State, s.d2d.coreUp = true → s.d2d.resends < 4 →
    exec (.d2dFlitReceive false false) s = .next { s with d2d := { s.d2d with resends := s.d2d.resends + 1 } }) ∧
  (∀ s : State, s.d2d.coreUp = true → s.d2d.motionResends < 4 →
    exec (.d2dFlitReceive true false) s = .next { s with d2d := { s.d2d with motionResends := s.d2d.motionResends + 1 } }) ∧
  (∀ s : State, s.d2d.coreUp = true → 4 ≤ s.d2d.resends →
    exec (.d2dFlitReceive false false) s = .next (({ s with d2d := { s.d2d with resends := 0 } } : State).linkLost)) ∧
  (∀ s : State, s.d2d.coreUp = true → 4 ≤ s.d2d.motionResends →
    exec (.d2dFlitReceive true false) s = .next (({ s with d2d := { s.d2d with motionResends := 0 } } : State).linkLost)) ∧
  (∀ s : State, s.d2d.resends = 4 ∨ s.d2d.motionResends = 4 → exec .d2dResendLimit s =
    .next (({ s with d2d := { s.d2d with resends := 0, motionResends := 0 } } : State).linkLost)) ∧
  (∀ s : State, exec .d2dLinkTimeout s = .next s.linkLost) ∧
  (∀ s : State, s.motionLinkUp = true → s.d2d.coreUp = true → s.parked 0 = true → s.parked 1 = true → s.spinMode ≠ 5 →
    ∃ u : State, u.motionLinkUp = false ∧ u.d2d.coreUp = false ∧ u.ash.declaredDown = true ∧ u.ash.beaconOn = true ∧
      u.dict = s.dict ∧ s.linkLost = ((u.inhibitBoth 6).send 352 0 0).settle) ∧
  (∀ s : State, s.coreRuns = true → 7 ≤ s.boot.slateStep → s.motionLinkUp = false ∨ s.d2d.coreUp = false →
    ∃ t, exec .d2dLinkUp s = .next t ∧ t.boot.ochreRunning = false ∧ t.getF Fld.SPM_STATUS_AT_SPEED = 0 ∧
      t.boot.restore = (s.linkUp.boot.restore || decide (s.linkUp.stage = 3)) ∧
      t.ash.beaconOn = (s.linkUp.ash.beaconOn && !s.linkUp.boot.slateDone)) ∧
  (∀ s : State, s.isSet Fld.ETH_STATUS_REFOK = true →
    exec .referenceDeviation s = .next ((s.setF Fld.ETH_STATUS_REFOK 0).ethDown).settle) ∧
  (∀ s : State, s.coreRuns = true → exec .referenceDeviationCleared s = .next (s.setF Fld.ETH_STATUS_REFOK 1)) ∧
  (∀ (k : Nat) (s u : State), s.mediaOut k = true →
    u = { s with boot := { s.boot with svcTimedOut := insertNat (domMedia k) s.boot.svcTimedOut } } →
    exec (.mediaServiceTimeout k) s = .next ((((u.qmg.slots.filter (u.waitsOnMedia k)).foldl
      (fun (t : State) (x : Slot) => t.complete x.qid x.tag St.mediaUnavailable 0)
      (if (u.qmg.slots.filter (u.waitsOnMedia k)).any (fun x => entOpcode x.entry == 0x48) then u.closeStripes else u)).migPump).settled)) ∧
  (∀ (k : Nat) (s : State), s.mediaOut k = false → exec (.mediaServiceTimeout k) s = .next s)

/-- CLOCK_MONITOR_GATE remembers the domains that are outside and not gated, and fires the monitor of a group when one of its domains was
outside in the gate before too. TINT_PERIOD charges the firmware's own reads and writes to class 12, serves what is asked, media first
while TNT is in reset and by the budgets else, loads the budgets as they stand into both copies of the counter cells, and raises source 32
when a cell of one copy differed; where no class may borrow and the ceiling holds each class is issued up to its own tokens.
FLOOR_RECOMPUTE sets FLOOR by R105, at most 512 and then with source 33. CORE_WINDOW restarts the window and lets migration work that was
held go on, unless MIG_PCT is 0; HOST_SHARE_SWITCH and MIGRATION_CAP act in it (R90, R95, R96, R100, R105 to R107). -/
def Obligations.BudgetEventsRunTheirEffect : Prop :=
  (∀ (out gated : List Nat) (s : State), (∀ d, d ∈ out → d ∉ s.clk.outside) →
    exec (.clockMonitorGate out gated) s = .next { s with clk := ⟨(List.range 112).filter (fun d => out.contains d && !gated.contains d)⟩ }) ∧
  (∀ (d : Nat) (s : State), d < 112 → d ∈ s.clk.outside → exec (.clockMonitorGate [d] []) s =
    .next (({ s with clk := ⟨[d]⟩ } : State).clockFires (clockSource d))) ∧
  (∀ (firmware : Nat) (s : State), s.tntReset = true →
    ∃ t, exec (.tintPeriod firmware none) s = .next t ∧
      t.tint.tokens = (if s.pwr.held || s.pwr.porstLow then [] else (List.range 16).map (fun n => s.getF (Fld.TNT_CLASS_TOKENS n))) ∧
      t.tint.copy = t.tint.tokens ∧ t.tint.asked = (s.tintUnbudgeted (s.charge 12 firmware).tint.asked).left ∧
      t.regs = s.regs ∧ t.dict = s.dict) ∧
  (∀ (firmware : Nat) (s : State), s.tntReset = false → s.tint.copy = s.tint.tokens →
    ∃ t, exec (.tintPeriod firmware none) s = .next t ∧ t.tint.tokens.length = 16 ∧ t.tint.copy = t.tint.tokens ∧
      t.tint.asked = (s.tintBudgeted s.tint.tokens (s.charge 12 firmware).tint.asked).left ∧ t.pwr = s.pwr ∧ t.obj = s.obj) ∧
  (∀ (firmware n v : Nat) (s : State), s.tntReset = false → n < 16 → s.tint.tokens.length = 16 → s.tint.copy = s.tint.tokens →
    v ≠ s.tint.tokens.getD n 0 →
    ∃ u : State, u.tint.copy = u.tint.tokens ∧ u.tint.tokens.length = 16 ∧
      exec (.tintPeriod firmware (some (n, v))) s = .next (u.raise 32 0 0)) ∧
  (∀ (tok asked : List Nat) (s : State), (∀ n, n < 16 → s.isSet (Fld.TNT_CLASS_SLACK n) = false) →
    tintSum ((List.range 16).map (fun n => min (asked.getD n 0) (tok.getD n 0))) false ≤ s.getF Fld.TNT_TOTAL_TOTAL - tintSum tok true →
    ∀ n : Nat, n < 16 → (s.tintBudgeted tok asked).left.getD n 0 = asked.getD n 0 - min (asked.getD n 0) (tok.getD n 0)) ∧
  (∀ (k milliRevs f : Nat) (s : State), k < 2 →
    scrubFloor (s.scrubUsLeft k) (s.getF Fld.SPM_SPEED_SPEED) (s.scrubTracksLeft k) milliRevs = some f →
    (f ≤ 512 → exec (.floorRecompute k milliRevs) s = .next (s.setF (Fld.TNT_MT_FLOOR k) f)) ∧
    (512 < f → exec (.floorRecompute k milliRevs) s = .next ((s.raise 33 0 0).setF (Fld.TNT_MT_FLOOR k) 512))) ∧
  (∀ (k milliRevs : Nat) (s : State), k < 2 →
    scrubFloor (s.scrubUsLeft k) (s.getF Fld.SPM_SPEED_SPEED) (s.scrubTracksLeft k) milliRevs = none →
    exec (.floorRecompute k milliRevs) s = .next ((s.raise 33 0 0).setF (Fld.TNT_MT_FLOOR k) 512)) ∧
  (∀ s : State, s.getF Fld.TNT_CORE_MIG_PCT ≠ 0 → exec .coreWindow s = .next (s.mig.held.foldl State.runMig
    { s with tint := { s.tint with switched := [], migSuspended := false }, mig := { s.mig with held := [] } }).migPump) ∧
  (∀ s : State, s.getF Fld.TNT_CORE_MIG_PCT = 0 →
    exec .coreWindow s = .next { s with tint := { s.tint with switched := [], migSuspended := true } }) ∧
  (∀ (c ran : Nat) (s : State), c < 2 → ran < s.getF Fld.TNT_CORE_HOST_PCT →
    exec (.hostShareSwitch c ran true) s = .next { s with tint := { s.tint with switched := insertNat c s.tint.switched } } ∧
    exec (.hostShareSwitch c ran false) s = .next s) ∧
  (∀ (ran : Nat) (s : State), 8 * s.getF Fld.TNT_CORE_MIG_PCT ≤ ran →
    exec (.migrationCap ran) s = .next { s with tint := { s.tint with migSuspended := true } }) ∧
  (∀ (ran : Nat) (s : State), ran < 8 * s.getF Fld.TNT_CORE_MIG_PCT → exec (.migrationCap ran) s = .next s)
/-- SECTOR_WRITE with every check passed sets the preamp to write, takes the zone's tables, raises the gate (or keeps it and writes the
gap), puts the tile of the front operation on the media and takes it off the queue; the gate stays high only where the next operation
follows on. A write-inhibit source that becomes active during the sector leaves a sector that no longer decodes, the operation in the
queue and the source asserted. With write-inhibit active it counts as cut and the media stay; a damaged tile is refused and not written;
a sector that has joined the defect list since is not written, another one takes its tile; and while the actuator cannot write nothing
happens (R37, R148, R258, R261, R262, R264, R372, R473). -/
def Obligations.SectorWritesRunTheirEffect : Prop :=
  (∀ (k : Nat) (s u v w d : State) (o : WriteOp) (rest : List WriteOp) (j : Job), k < 2 → (s.chn k).ops = o :: rest →
    s.canWrite k o.psa = true → s.inhibited k = false → s.obj.jobs.find? (fun j => j.seq == o.seq) = some j →
    s.defective o.psa = false → u = s.readSlot (j.slots.getD o.tile 0) →
    u.tileGood (j.slots.getD o.tile 0) (some (tagOf (keyHash (keyBytes j.key)) j.seg o.tile)) = true →
    v = (if (u.pre k).mode = 3 then u else u.preampSet k 1 3 []).useZone k o.psa →
    w = (if (v.chn k).wgate then v.writeGap k o.psa else v.setChn k { v.chn k with wgate := true }).setF (Fld.CHN_STATUS_STATE k) 2 →
    d = w.sectorDone k o (w.tileAt (j.slots.getD o.tile 0)) (!(v.chn k).wgate) (!w.runsOn k o.psa) →
    exec (.sectorWrite k none) s = .next (if w.runsOn k o.psa then d else
      (d.setChn k { d.chn k with wgate := false }).setF (Fld.CHN_STATUS_STATE k) 0) ∧
    d.disk.sectors = Assoc.put w.disk.sectors o.psa (w.tileAt (j.slots.getD o.tile 0)) ∧ (d.chn k).ops = (w.chn k).ops.tail) ∧
  (∀ (k bit n : Nat) (s u v w : State) (o : WriteOp) (rest : List WriteOp) (j : Job), k < 2 → (s.chn k).ops = o :: rest →
    s.canWrite k o.psa = true → s.inhibited k = false → s.obj.jobs.find? (fun j => j.seq == o.seq) = some j →
    s.defective o.psa = false → u = s.readSlot (j.slots.getD o.tile 0) →
    u.tileGood (j.slots.getD o.tile 0) (some (tagOf (keyHash (keyBytes j.key)) j.seg o.tile)) = true →
    v = (if (u.pre k).mode = 3 then u else u.preampSet k 1 3 []).useZone k o.psa →
    w = (if (v.chn k).wgate then v.writeGap k o.psa else v.setChn k { v.chn k with wgate := true }).setF (Fld.CHN_STATUS_STATE k) 2 →
    bit ≤ 12 →
    ∃ x : State, x.disk.sectors = Assoc.del w.disk.sectors o.psa ∧ x.chn k = w.chn k ∧
      exec (.sectorWrite k (some (bit, n))) s = .next (if 4 ≤ bit && bit ≤ 8 then x.inhibitBoth bit else x.inhibit k bit).settle) ∧
  (∀ (k : Nat) (cut : Option (Nat × Nat)) (s : State) (o : WriteOp) (rest : List WriteOp), (s.chn k).ops = o :: rest →
    s.canWrite k o.psa = true → s.inhibited k = true →
    exec (.sectorWrite k cut) s = .next (s.writeCut k).settle ∧ (s.writeCut k).disk = s.disk ∧ ((s.writeCut k).chn k).cut = true ∧
      ((s.writeCut k).chn k).ops = (s.chn k).ops) ∧
  (∀ (k : Nat) (cut : Option (Nat × Nat)) (s u : State) (o : WriteOp) (rest : List WriteOp) (j : Job), (s.chn k).ops = o :: rest →
    s.canWrite k o.psa = true → s.inhibited k = false → s.obj.jobs.find? (fun j => j.seq == o.seq) = some j →
    s.defective o.psa = false → u = s.readSlot (j.slots.getD o.tile 0) →
    u.tileGood (j.slots.getD o.tile 0) (some (tagOf (keyHash (keyBytes j.key)) j.seg o.tile)) = false →
    exec (.sectorWrite k cut) s = .next (u.refuseJob k o.seq (j.slots.getD o.tile 0))) ∧
  (∀ (k : Nat) (cut : Option (Nat × Nat)) (s : State) (o : WriteOp) (rest : List WriteOp) (j : Job), (s.chn k).ops = o :: rest →
    s.canWrite k o.psa = true → s.inhibited k = false → s.obj.jobs.find? (fun j => j.seq == o.seq) = some j →
    s.defective o.psa = true → exec (.sectorWrite k cut) s = .next ((s.gateLow k).dodgeDefect k o j)) ∧
  (∀ (k : Nat) (cut : Option (Nat × Nat)) (s : State) (o : WriteOp) (rest : List WriteOp), (s.chn k).ops = o :: rest →
    s.canWrite k o.psa = false → exec (.sectorWrite k cut) s = .next s)

/-- JOURNAL_RECORD_WRITE writes the ready records of its stream as one block in the next free sector of the stream, after the cuts its
operand names; JOURNAL_RESUME goes on after the stream was full; CHECKPOINT takes one when it is due and its sectors may be written,
with a root for CKPT_SEQ in force after it; SCRUB_POSITION_STORE stores both positions. While the actuator may not be written a journal
waits (R154, R157, R158, R241, R266, R704). -/
def Obligations.JournalAndCheckpointRunTheirEffect : Prop :=
  (∀ (k : Nat) (s : State), k < 2 → s.obj.recovered = true → s.mediaWritable k = true →
    (s.nextJournal k).any (fun x => s.underRecovery x.2) = false →
    exec (.journalRecordWrite k []) s = .next (s.writeJournal k)) ∧
  (∀ (k c pos psa : Nat) (cs : List Nat) (blk : List Byte) (s : State), k < 2 → s.obj.recovered = true → s.mediaWritable k = true →
    s.nextJournal k = some (pos, psa) → s.underRecovery psa = false → s.nextBlock k = some blk →
    exec (.journalRecordWrite k (c :: cs)) s = .next ((s.writeSurvives psa blk ((c :: cs).filter (· < 13))).1.writeJournal k)) ∧
  (∀ (k pos psa : Nat) (s : State) (w : WaitRec) (ws : List WaitRec), s.readyRecs k = w :: ws → s.nextJournal k = some (pos, psa) →
    ∃ (u : State) (done : List WaitRec), s.writeJournal k = ((done.foldl State.recordWritten u).journalCheck k) ∧
      done = (w :: ws).take (journalFit ((w :: ws).map (fun w => (w.seq, w.body)))).length ∧
      (u.stream k).bseq = (s.stream k).bseq + 1 ∧ (Assoc.find u.disk.sectors psa).isSome = true ∧
      u.disk.wseq = (s.disk.wseq + 1) % 2 ^ 32) ∧
  (∀ (k : Nat) (s : State), s.readyRecs k = [] → s.writeJournal k = s) ∧
  (∀ (k : Nat) (s : State), (s.stream k).full = true → (s.nextJournal k).isSome = true → s.mediaWritable k = true →
    (s.nextJournal k).any (fun x => s.underRecovery x.2) = false →
    exec (.journalResume k) s =
      .next ((s.setStream k { s.stream k with full := false }).drainJournal k s.obj.recs.length)) ∧
  (∀ s : State, s.obj.recovered = true → s.checkpointDue = true → s.mediaWritable 0 = true → s.mediaWritable 1 = true →
    s.checkpointWaits = false → exec (.checkpoint none) s = .next s.takeCheckpoint) ∧
  (∀ (i : Nat) (cuts : List Nat) (psa : Nat) (blk : List Byte) (s t : State) (ok : Bool), s.obj.recovered = true →
    s.checkpointDue = true → s.mediaWritable 0 = true → s.mediaWritable 1 = true → s.checkpointWaits = false →
    s.checkpointSectors[i]? = some (psa, blk) → s.writeSurvives psa blk (cuts.filter (· < 13)) = (t, ok) →
    exec (.checkpoint (some (i, cuts))) s = .next (if ok then t.takeCheckpoint else t)) ∧
  (∀ s : State, (checkpointTiles ((s.snapshot s.ckptSeq).length + 1) (s.snapshot s.ckptSeq) 0 s.disk.wseq).length = 1 →
    s.obj.defects = [] → (s.ckptPlace 1).length = 1 → ∃ r : Root, s.takeCheckpoint.obj.root = some r ∧ r.ckptSeq = s.ckptSeq ∧
      s.takeCheckpoint.obj.ckptSectors = s.ckptPlace 1 ∧ s.takeCheckpoint.obj.blocksSince = 0 ∧
      s.takeCheckpoint.obj.recsSince = false ∧ s.takeCheckpoint.nvc.defectCopy = s.takeCheckpoint.obj.defects) ∧
  (∀ s : State, exec .scrubPositionStore s = .next { s with nvc := { s.nvc with scrubPos := s.media.scrub } }) ∧
  (∀ (k : Nat) (cuts : List Nat) (s : State), s.mediaWritable k = false →
    exec (.journalRecordWrite k cuts) s = .next s ∧ exec (.journalResume k) s = .next s)

/-- REALLOCATION carries out the oldest one due that may be written, charged to class 3, or to class 7 and to scrub's share where scrub
started it, and waits for the next index when only such are due and the share is spent; what it does depends on what stands at the sector:
parity, a data tile, or a sector that joins the defect list. SCRUB_RECHECK reads its sector again within the share: a good margin ends it,
a low one relocates the tile. INHIBIT_RELEASE starts the rewrite of a cut sector while rewrites are left, and WRITE_RETRIES_EXHAUSTED
moves the tile of one without to a spare sector, gives up a tile that no sector can take, and refuses one that fails its check (R37,
R232 to R238, R266, R267). -/
def Obligations.ReallocationsRunTheirEffect : Prop :=
  (∀ (psa wedges : Nat) (fg : Bool) (cuts : List Nat) (s : State),
    (s.dec.due.filter (fun p => s.mediaWritable (actuatorOf (psaSurface p.1)) &&
      (!s.isParity p.1 || s.closable (stripeOf p.1)))).find? (fun p =>
      !p.2 || s.bgAllowed (actuatorOf (psaSurface p.1)) wedges fg) = some (psa, false) →
    exec (.reallocation wedges fg cuts) s = .next ((s.reallocate psa (cuts.filter (· < 13))).charge 3 65)) ∧
  (∀ (psa wedges : Nat) (fg : Bool) (cuts : List Nat) (s : State),
    (s.dec.due.filter (fun p => s.mediaWritable (actuatorOf (psaSurface p.1)) &&
      (!s.isParity p.1 || s.closable (stripeOf p.1)))).find? (fun p =>
      !p.2 || s.bgAllowed (actuatorOf (psaSurface p.1)) wedges fg) = some (psa, true) →
    exec (.reallocation wedges fg cuts) s = .next
      (((s.reallocate psa (cuts.filter (· < 13))).bgCharge (actuatorOf (psaSurface psa)) wedges).charge 7 65)) ∧
  (∀ (psa wedges : Nat) (cuts : List Nat) (s : State), s.dec.due = [(psa, true)] → s.isParity psa = false →
    s.mediaWritable (actuatorOf (psaSurface psa)) = true → s.bgAllowed (actuatorOf (psaSurface psa)) wedges true = false →
    exec (.reallocation wedges true cuts) s = .next (s.bgHold (actuatorOf (psaSurface psa)))) ∧
  (∀ (psa : Nat) (cuts : List Nat) (s u : State),
    u = { s with dec := { s.dec with due := s.dec.due.filter (fun x => x.1 != psa), recovered := Assoc.del s.dec.recovered psa } } →
    (u.isParity psa = true → s.reallocate psa cuts = u.parityDue psa) ∧
    (u.isParity psa = false → u.dataSectorAt psa = true → s.reallocate psa cuts = u.relocate psa 2
      (((Assoc.find s.dec.recovered psa).orElse (fun _ => Assoc.find s.disk.sectors psa)).getD []) cuts) ∧
    (u.isParity psa = false → u.dataSectorAt psa = false → s.reallocate psa cuts = u.addDefect psa 2)) ∧
  (∀ (psa wedges : Nat) (fg : Bool) (cap : Capture) (cuts : List Nat) (s : State), s.dec.recheck.contains psa = true →
    s.readBlocked (actuatorOf (psaSurface psa)) psa = false → s.underRecovery psa = false →
    s.bgAllowed (actuatorOf (psaSurface psa)) wedges fg = false →
    exec (.scrubRecheck psa wedges fg cap cuts) s = .next (s.bgHold (actuatorOf (psaSurface psa)))) ∧
  (∀ (psa wedges snr k : Nat) (fg : Bool) (cap : Capture) (cuts : List Nat) (s s1 s2 u : State) (r : SampleRec),
    s.dec.recheck.contains psa = true → k = actuatorOf (psaSurface psa) → s.readBlocked k psa = false → s.underRecovery psa = false →
    s.bgAllowed k wedges fg = true → (s.bgCharge k wedges).acquire k psa cap none = (s1, r) → (s1.l0 k psa r).res = 1 →
    s1.readConfirmed k psa r (s1.l0 k psa r) = (snr, s2) → s2.mediaWritable k = true →
    u = { s2 with dec := { s2.dec with recheck := s2.dec.recheck.filter (· != psa) } } →
    (s2.marginLow psa (s1.l0 k psa r).iters snr = false → exec (.scrubRecheck psa wedges fg cap cuts) s = .next u) ∧
    (s2.marginLow psa (s1.l0 k psa r).iters snr = true → exec (.scrubRecheck psa wedges fg cap cuts) s =
      .next ((u.relocate psa 3 (s2.positionBlock psa) (cuts.filter (· < 13))).charge 7 65))) ∧
  (∀ (k : Nat) (s : State) (o : WriteOp) (rest : List WriteOp), s.inhibited k = false → (s.chn k).cut = true →
    (s.chn k).ops = o :: rest → o.rewrites < s.dictNum (0x3500 + k) 5 →
    exec (.inhibitRelease k) s =
      .next (s.setChn k { s.chn k with cut := false, ops := { o with rewrites := o.rewrites + 1 } :: rest })) ∧
  (∀ (k : Nat) (s u w : State) (o : WriteOp) (rest : List WriteOp) (j : Job), (s.chn k).cut = true →
    (s.chn k).ops = o :: rest → s.dictNum (0x3500 + k) 5 ≤ o.rewrites → s.mediaWritable k = true →
    s.obj.jobs.find? (fun j => j.seq == o.seq) = some j → u = s.readSlot (j.slots.getD o.tile 0) →
    u.tileGood (j.slots.getD o.tile 0) (some (tagOf (keyHash (keyBytes j.key)) j.seg o.tile)) = true →
    u.takeSpare o.psa 4 = (none, w) →
    ∃ t, exec (.writeRetriesExhausted k) s = .next t ∧ t.disk = w.disk ∧ (t.chn k).cut = false ∧
      ∀ x, x ∈ t.obj.jobs → x.seq = o.seq → x.noSector = true) ∧
  (∀ (k dest : Nat) (s u w : State) (o : WriteOp) (rest : List WriteOp) (j : Job), k < 2 → (s.chn k).cut = true →
    (s.chn k).ops = o :: rest → s.dictNum (0x3500 + k) 5 ≤ o.rewrites → s.mediaWritable k = true →
    s.obj.jobs.find? (fun j => j.seq == o.seq) = some j → u = s.readSlot (j.slots.getD o.tile 0) →
    u.tileGood (j.slots.getD o.tile 0) (some (tagOf (keyHash (keyBytes j.key)) j.seg o.tile)) = true →
    u.takeSpare o.psa 4 = (some dest, w) →
    ∃ x y : State, y = ((x.moveTile j o.tile dest).stat (0x8130 + k) 14 1).raise (262 + 16 * k) 0 0 ∧
      (x.chn k).cut = false ∧ (x.chn k).ops = rest ∧ (Assoc.find x.disk.sectors dest).isSome = true ∧
      (∃ df ∈ x.obj.defects, df.psa = o.psa ∧ df.reason = 4) ∧
      exec (.writeRetriesExhausted k) s = .next (if (y.jobExtents j).length > 32 then y.rewriteSegment k j else y)) ∧
  (∀ (k : Nat) (s u : State) (o : WriteOp) (rest : List WriteOp) (j : Job), (s.chn k).cut = true →
    (s.chn k).ops = o :: rest → s.dictNum (0x3500 + k) 5 ≤ o.rewrites → s.mediaWritable k = true →
    s.obj.jobs.find? (fun j => j.seq == o.seq) = some j → u = s.readSlot (j.slots.getD o.tile 0) →
    u.tileGood (j.slots.getD o.tile 0) (some (tagOf (keyHash (keyBytes j.key)) j.seg o.tile)) = false →
    exec (.writeRetriesExhausted k) s =
      .next ((u.setChn k { s.chn k with cut := false }).refuseJob k o.seq (j.slots.getD o.tile 0)))

/-- SECTOR_READ acquires a sector into the ring and starts its first trial, or erases it when no candidate is found; with the ring full
and nothing copied it lets the sector slip; a scrub read waits for the next index while the background share is spent, and charges its
wedges; a sector that the channel cannot read, or that a ladder holds, is left alone. SAMPLE_COPY_DONE moves the oldest failed sector of
a ladder to the store, SPILL_DRAIN_DONE lets the instance spill again, DECODE_OVERTIME of an instance at work raises source 242 (R101,
R104, R175 to R190, R212, R216, R225, R249). -/
def Obligations.ChannelEventsRunTheirEffect : Prop :=
  (∀ (k psa kind : Nat) (cap : Capture) (follow : Option Nat) (s : State), s.readBlocked k psa = false → s.underRecovery psa = false →
    kind ≠ 3 → ringSize ≤ ((s.chn k).ring.filter (fun r => !r.copied)).length →
    ∃ t, exec (.sectorRead k psa kind cap false follow) s = .next t ∧
      t.chn k = { s.chn k with slips := insertNat psa (s.chn k).slips } ∧ t.dec = s.dec ∧ t.dict = s.dict ∧ t.disk = s.disk) ∧
  (∀ (k psa kind : Nat) (cap : Capture) (copied : Bool) (follow : Option Nat) (s s0 s1 : State) (r : SampleRec),
    s.readBlocked k psa = false → s.underRecovery psa = false → ((s.chn k).ring.filter (fun r => !r.copied)).length < ringSize →
    (kind = 3 → s.bgAllowed k (s.sectorSpan psa) (s.foregroundQueued k) = true) →
    s0 = (if kind = 3 then s.bgCharge k (s.sectorSpan psa) else s) → s0.acquire k psa cap follow = (s1, r) → r.cands ≠ [] →
    ∃ u : State, u.chn k = { s1.chn k with
        slips := (s1.chn k).slips.filter (· != psa), lost := (s1.chn k).lost.filter (· != psa),
        ringAt := ((s1.chn k).ringAt + r.bytes) % 524288,
        ring := (s1.chn k).ring ++ [⟨psa, kind, r, 0, 0, (s1.chn k).ringAt, false⟩] } ∧ u.disk = s1.disk ∧
      exec (.sectorRead k psa kind cap copied follow) s = .next (u.addWork (firstTrial k psa kind r))) ∧
  (∀ (k psa kind : Nat) (cap : Capture) (copied : Bool) (follow : Option Nat) (s s0 s1 : State) (r : SampleRec),
    s.readBlocked k psa = false → s.underRecovery psa = false → ((s.chn k).ring.filter (fun r => !r.copied)).length < ringSize →
    (kind = 3 → s.bgAllowed k (s.sectorSpan psa) (s.foregroundQueued k) = true) →
    s0 = (if kind = 3 then s.bgCharge k (s.sectorSpan psa) else s) → s0.acquire k psa cap follow = (s1, r) → r.cands = [] →
    ∃ u : State, (u.chn k).ring = (s1.chn k).ring ++ [⟨psa, kind, r, 0, 0, (s1.chn k).ringAt, false⟩] ∧ u.disk = s1.disk ∧
      exec (.sectorRead k psa kind cap copied follow) s =
        .next (u.erase k psa kind 1 ⟨psa, kind, r, 0, 1, (s1.chn k).ringAt, false⟩)) ∧
  (∀ (k psa : Nat) (cap : Capture) (copied : Bool) (follow : Option Nat) (s : State), s.readBlocked k psa = false →
    s.underRecovery psa = false → s.bgAllowed k (s.sectorSpan psa) (s.foregroundQueued k) = false →
    exec (.sectorRead k psa 3 cap copied follow) s = .next (s.bgHold k)) ∧
  (∀ (k psa kind : Nat) (cap : Capture) (copied : Bool) (follow : Option Nat) (s : State),
    s.readBlocked k psa = true ∨ s.underRecovery psa = true → exec (.sectorRead k psa kind cap copied follow) s = .next s) ∧
  (∀ (n : Nat) (s : State), exec (.spillDrainDone n) s =
    .next (({ s with dec := { s.dec with draining := s.dec.draining.filter (fun d => d.inst != n) } } : State).dispatchAll)) ∧
  (∀ (n : Nat) (w : Work) (s : State), s.dec.inst.getD n none = some w → exec (.decodeOvertime n) s = .next (s.raise 242 0 0)) ∧
  (∀ (k : Nat) (r : RingSector) (s u : State), (s.chn k).ring.find? (fun r => r.verdict != 0 && !r.copied) = some r →
    u = s.setRing_ k ((s.chn k).ring.filter (fun x => x.psa != r.psa)) →
    exec (.sampleCopyDone k) s =
      .next (if u.dec.ladders.any (fun l => l.psa == r.psa) then u.storeRev k r.psa r.kind r.rec_ r.untried else u)) ∧
  (∀ (k psa kind : Nat) (r : SampleRec) (untried : Bool) (s : State), (s.stored psa).length < 8 →
    (s.dec.store.filter (fun y => y.k == k)).length < 1024 →
    (s.storeRev k psa kind r untried).dec.store = s.dec.store ++ [⟨s.freeSlot, k, psa, kind, s.copied psa r, untried⟩])

/-- DECODE_COMPLETE frees its instance, reports the iterations and lets waiting work take the instance. A converged word that the
independent checker rejects raises source 241 first. A sector of the ring gets its verdict (one that does not converge, or fails its
CRC-64, ends the trial; a good word confirms the sector, records its SNR and lets the taps adapt except in qualification), a stored record
goes back to its ladder with its verdict, and an instance without work changes nothing (R180, R203, R207 to R209). -/
def Obligations.DecodesEndInOneVerdict : Prop :=
  (∀ (n upset : Nat) (s : State), s.dec.inst.getD n none = none → exec (.decodeComplete n upset) s = .next s) ∧
  (∀ (n upset word : Nat) (w : Work) (s u v : State) (r : RingSector), s.dec.inst.getD n none = some w → w.stored = none →
    word = (s.decodeOf w).word ^^^ upset → u = (s.setF (Fld.DEC_INST_ITER n) (s.decodeOf w).iters).setInst n none 0 →
    v = (if (s.decodeOf w).ok && !isCodeword dataCode word then u.raise 241 0 0 else u) →
    (v.chn w.k).ring.find? (fun r => r.psa == w.psa && r.verdict == 0) = some r →
    exec (.decodeComplete n upset) s = .next (v.trialVerdict w r (s.decodeVerdict w.psa (s.decodeOf w).ok word) word
      (s.decodeOf w).iters).dispatchAll) ∧
  (∀ (n upset word : Nat) (w : Work) (s u v : State) (r : SampleRec), s.dec.inst.getD n none = some w → w.stored = some r →
    word = (s.decodeOf w).word ^^^ upset → u = (s.setF (Fld.DEC_INST_ITER n) (s.decodeOf w).iters).setInst n none 0 →
    v = (if (s.decodeOf w).ok && !isCodeword dataCode word then u.raise 241 0 0 else u) →
    exec (.decodeComplete n upset) s = .next (v.ladderVerdict w r (s.decodeVerdict w.psa (s.decodeOf w).ok word) word
      (s.decodeOf w).iters).dispatchAll) ∧
  (∀ (psa word : Nat) (ok : Bool) (s : State), ok = false ∨ isCodeword dataCode word = false → s.decodeVerdict psa ok word = 2) ∧
  (∀ (psa word : Nat) (s : State), isCodeword dataCode word = true → s.isParity psa = false → tileCrcOk (infoBlock word) = false →
    s.decodeVerdict psa true word = 2) ∧
  (∀ (psa word : Nat) (g : List Byte) (s : State), isCodeword dataCode word = true → s.isParity psa = false →
    tileCrcOk (infoBlock word) = true → s.expectedTag psa = some g →
    s.decodeVerdict psa true word = if tileTag (infoBlock word) = g then 1 else 3) ∧
  (∀ (word iters : Nat) (w : Work) (r : RingSector) (u : State), u.trialVerdict w r 2 word iters = u.trialFailed w r) ∧
  (∀ (word iters : Nat) (w : Work) (r : RingSector) (u v : State), u.isParity w.psa = false → w.kind ≠ 4 →
    v = ((((u.trialEnds w r 1).confirm w.k w.psa).seen w.psa word).recordSnr w.k w.psa r.rec_.eqset iters
      (u.errorOf w.k w.psa r.rec_ w.offset w.resync word)) →
    u.trialVerdict w r 1 word iters = v.adapt w.k w.psa r.rec_ w.offset w.resync word) ∧
  (∀ (word iters : Nat) (w : Work) (r : SampleRec) (u : State), u.ladderVerdict w r 2 word iters = u.ladderBack w) ∧
  (∀ (psa word : Nat) (s : State), s.isParity psa = false →
    (s.seen psa word).disk.sectors = Assoc.put s.disk.sectors psa (infoBlock word)) ∧
  (∀ (k psa : Nat) (s : State), psa ∉ (s.confirm k psa).dec.erased ∧ psa ∉ (s.confirm k psa).dec.unread ∧
    psa ∈ (s.confirm k psa).dec.confirmed)
/-- RECOVERY_STEP_END without a ladder on the sector changes nothing. With a capture it re-reads the sector while its stage wants another
revolution and the channel can read; for a sector that scrub reads it needs the share of that actuator, which it charges, and holds at a
spent share. Without a capture it ends the step once every sector of the stripe has been read and no copy is under way. RECOVERY_LIMIT gives
up every foreground sector of the stripe once the sector has cost the limit's revolutions, and does nothing for any other sector or before
that. SCRUB_READ takes a sector next to an abandoned write first, then one whose ladder starts again, then the next of the pass; it waits
while it cannot read, the pool is shut or, for an adjacent sector, while its stripe is under recovery, holds at a spent share and charges
what it uses. What it reads is confirmed, confirmed with a low margin, a tag mismatch, or starts a ladder (R101 to R104, R220, R222, R224,
R236, R237, R241). -/
def Obligations.RecoveryEventsRunTheirEffect : Prop :=
  (∀ (psa wedges : Nat) (fg : Bool) (cap : Option Capture) (s : State), s.ladder psa = none →
    exec (.recoveryStepEnd psa wedges fg cap) s = .next s ∧ exec (.recoveryLimit psa) s = .next s) ∧
  (∀ (psa wedges : Nat) (fg : Bool) (c : Capture) (x : Ladder) (s : State), s.ladder psa = some x →
    exec (.recoveryStepEnd psa wedges fg (some c)) s = .next (
      if s.mayReread x = false then s
      else if x.kind = 3 then
        if s.bgAllowed x.k wedges fg = true then (s.bgCharge x.k wedges).reread x c else s.bgHold x.k
      else s.reread x c)) ∧
  (∀ (psa wedges : Nat) (fg : Bool) (x : Ladder) (s : State), s.ladder psa = some x →
    exec (.recoveryStepEnd psa wedges fg none) s = .next (
      if x.back = false ∨ s.stripeUnread psa = true ∨ s.copyPending x.k psa = true then s else s.stepEnds x)) ∧
  (∀ (psa : Nat) (x : Ladder) (s : State), s.ladder psa = some x →
    exec (.recoveryLimit psa) s = .next (
      if x.kind = 2 ∧ s.dictNum (0x3200 + x.k) 8 ≤ x.revs.getD 0 then
        ((s.stripeLadders psa).filter (fun l => l.kind == 2)).foldl State.unrecovered s else s)) ∧
  (∀ (k psa wedges : Nat) (fg : Bool) (cap : Capture) (cuts l : List Nat) (s : State), (s.chn k).adjacent = psa :: l →
    exec (.scrubRead k wedges fg cap cuts) s = .next (
      if s.readBlocked k psa = true ∨ s.underRecovery psa = true then s
      else (s.setChn k { s.chn k with adjacent := l }).scrubJudge k psa 2 cap (cuts.filter (· < 13)))) ∧
  (∀ (k wedges : Nat) (fg : Bool) (cap : Capture) (cuts : List Nat) (s : State), (s.chn k).adjacent = [] →
    s.scrubAgain k = none → s.scrubNext k = none → exec (.scrubRead k wedges fg cap cuts) s = .next s) ∧
  (∀ (k psa wedges : Nat) (fg : Bool) (cap : Capture) (cuts : List Nat) (s : State), (s.chn k).adjacent = [] →
    s.scrubAgain k = some psa ∨ (s.scrubAgain k = none ∧ s.scrubNext k = some psa) →
    (s.readBlocked k psa = true → exec (.scrubRead k wedges fg cap cuts) s = .next s) ∧
    (s.readBlocked k psa = false → s.bgAllowed k wedges fg = false →
      exec (.scrubRead k wedges fg cap cuts) s = .next (s.bgHold k)) ∧
    (s.readBlocked k psa = false → s.bgAllowed k wedges fg = true → s.poolOpen k = false →
      exec (.scrubRead k wedges fg cap cuts) s = .next s)) ∧
  (∀ (k psa wedges : Nat) (fg : Bool) (cap : Capture) (cuts : List Nat) (s u : State), (s.chn k).adjacent = [] →
    s.scrubAgain k = some psa → s.readBlocked k psa = false → s.bgAllowed k wedges fg = true → s.poolOpen k = true →
    u = { s with dec := { s.dec with again := s.dec.again.filter (fun (p : Nat × Nat) => p.1 != psa) } } →
    exec (.scrubRead k wedges fg cap cuts) s = .next (
      if (u.ladder psa).isSome then u
      else ((u.bgCharge k wedges).rewritesDue k).scrubJudge k psa 3 cap (cuts.filter (· < 13)))) ∧
  (∀ (k psa wedges : Nat) (fg : Bool) (cap : Capture) (cuts : List Nat) (s : State), (s.chn k).adjacent = [] →
    s.scrubAgain k = none → s.scrubNext k = some psa → s.readBlocked k psa = false → s.bgAllowed k wedges fg = true →
    s.poolOpen k = true →
    exec (.scrubRead k wedges fg cap cuts) s = .next ((if ((s.scrubAt k psa).ladder psa).isSome then s.scrubAt k psa
      else (((s.scrubAt k psa).bgCharge k wedges).rewritesDue k).scrubJudge k psa 3 cap (cuts.filter (· < 13))).zonePassEnd k psa)) ∧
  (∀ (k psa kind : Nat) (cap : Capture) (cuts : List Nat) (s s1 s2 s3 : State) (r : SampleRec) (snr : Nat),
    s.acquire k psa cap none = (s1, r) → (s1.l0 k psa r).res = 1 → s1.readConfirmed k psa r (s1.l0 k psa r) = (snr, s2) →
    s3 = (if kind = 3 then s2.countPass psa (s1.l0 k psa r).iters snr else s2) →
    s.scrubJudge k psa kind cap cuts = if s3.marginLow psa (s1.l0 k psa r).iters snr = true then s3.lowMargin psa cuts else s3) ∧
  (∀ (k psa kind : Nat) (cap : Capture) (cuts : List Nat) (s s1 : State) (r : SampleRec), s.acquire k psa cap none = (s1, r) →
    ((s1.l0 k psa r).res = 3 → s.scrubJudge k psa kind cap cuts = (s1.confirm k psa).tagMismatch psa) ∧
    ((s1.l0 k psa r).res ≠ 1 → (s1.l0 k psa r).res ≠ 3 → s.scrubJudge k psa kind cap cuts = s1.scrubFailed k psa kind r))

/-- START_QUALIFICATION outside Manufacture or during a qualification changes nothing of it. On a formatted drive, or once both actuators
are locked, it lists every zone of every head of the plan as to be tested, with the media cleared and the status at 1; else it brings the
drive up first: a spindle not at speed starts after its self-test, and a self-test that fails ends the qualification with source 98.
QUALIFICATION_RATE_RESULT passes a zone whose rate meets the target with nothing beyond L1, sets the status to 3 when it was the last, and
otherwise lowers the rate by half a percent and writes the pattern again, or stops the head with status 2 after 20 steps; a zone that is
not under test changes nothing. FORMAT_DRIVE formats where that is allowed, the plan is good and the identity is not zero, and changes
nothing where one of these fails. COMPUTE_EFFICIENCY in stage 3 reports for every zone of the drive its efficiency and its SNR, and in any
other stage nothing (R43, R140, R243 to R245, R247). -/
def Obligations.QualificationAndFormatRunTheirEffect : Prop :=
  (∀ (selfOk : Bool) (s : State), s.manufacture = false ∨ s.qualStatus = 1 →
    exec (.startQualification selfOk) s = .next s.settle) ∧
  (∀ (selfOk : Bool) (s : State), s.manufacture = true → s.qualStatus ≠ 1 → s.media.drive.isSome = true ∨ s.boot.locked = [0, 1] →
    exec (.startQualification selfOk) s = .next s.startQualification.settle) ∧
  (∀ (selfOk : Bool) (s u : State), s.manufacture = true → s.qualStatus ≠ 1 → s.media.drive = none → s.boot.locked ≠ [0, 1] →
    u = ({ s with boot := { s.boot with bringUp := true }, media := { s.media with qual := [] } } : State).setDictNum 0x3400 4 1 1 →
    exec (.startQualification selfOk) s = .next (
      if u.isSet Fld.SPM_STATUS_AT_SPEED = true ∧ u.spm.focOn = true then u.settle
      else if selfOk = false then ((u.raise 98 0 0).bringUpFails).settle
      else (({ u with spm := { u.spm with spinDown := false, blackBraked := false } } : State).startSpin).settle)) ∧
  (∀ s : State, s.startQualification.disk.sectors = [] ∧ s.startQualification.media.qualDone = [] ∧
    s.startQualification.media.qualFails = [] ∧ s.startQualification.boot.bringUp = false ∧
    s.startQualification.media.qual = s.planHeads.flatMap (fun h => (s.planZones h).map (fun z => (headZone h z.zone, 0)))) ∧
  (∀ (h z beyond snr : Nat) (fails : List Nat) (s : State), Assoc.find s.media.qual (headZone h z) = none ∨ s.planZone h z = none →
    exec (.qualificationRateResult h z beyond snr fails) s = .next s) ∧
  (∀ (h z snr steps : Nat) (fails : List Nat) (x : Zone) (s s1 s2 : State),
    Assoc.find s.media.qual (headZone h z) = some steps → s.planZone h z = some x →
    fails.length * 1000000 ≤ s.dictNum 0x3400 3 * s.dictNum 0x3400 2 →
    s1 = s.keepPlanZone h z { x with sectors := largestLayout x } →
    s2 = { s1 with media := { s1.media with
      qual := Assoc.del s1.media.qual (headZone h z),
      qualDone := insertNat (headZone h z) s1.media.qualDone, qualSnr := Assoc.put s1.media.qualSnr (headZone h z) snr,
      qualFails := fails.foldl (fun l p => insertNat p l) s1.media.qualFails } } →
    exec (.qualificationRateResult h z 0 snr fails) s = .next (
      if s2.media.qual = [] ∧ s2.qualStatus = 1 then s2.setDictNum 0x3400 4 1 3 else s2)) ∧
  (∀ (h z beyond snr steps : Nat) (fails : List Nat) (x : Zone) (s : State),
    Assoc.find s.media.qual (headZone h z) = some steps → s.planZone h z = some x →
    beyond ≠ 0 ∨ s.dictNum 0x3400 3 * s.dictNum 0x3400 2 < fails.length * 1000000 → 20 ≤ steps →
    exec (.qualificationRateResult h z beyond snr fails) s = .next (({ s with
      media := { s.media with qual := s.media.qual.filter (fun p => p.1 / 64 != h) } } : State).setDictNum 0x3400 4 1 2)) ∧
  (∀ (h z beyond snr steps : Nat) (fails : List Nat) (x y : Zone) (s s1 : State),
    Assoc.find s.media.qual (headZone h z) = some steps → s.planZone h z = some x →
    beyond ≠ 0 ∨ s.dictNum 0x3400 3 * s.dictNum 0x3400 2 < fails.length * 1000000 → steps < 20 →
    y = { x with rate := divRound (x.rate * 995) 1000 } →
    s1 = s.keepPlanZone h z { y with sectors := largestLayout y } →
    exec (.qualificationRateResult h z beyond snr fails) s = .next (({ s1 with
      media := { s1.media with qual := Assoc.put s1.media.qual (headZone h z) (steps + 1) } } : State).testPattern h z)) ∧
  (∀ (id : List Byte) (s : State), exec (.formatDrive id) s = .next (
    if s.formatAccess = true ∧ s.planBad = false ∧ id.all (· == 0) = false then s.runFormat id else s)) ∧
  (∀ s : State, exec .computeEfficiency s = .next (if s.stage = 3 then s.allZones.foldl State.zoneEfficiency s else s)) ∧
  (∀ (h z snr : Nat) (f : Surface) (x : Zone) (s : State), s.surfaceOf h = some f → f.zones.find? (fun x => x.zone == z) = some x →
    snr = ((s.chanTable (headZone h z)).map (·.snr)).getD 0 →
    s.zoneEfficiency (h, z) =
      (s.setDictNum (0x8400 + h) (1 + z) 2 (efficiency x (s.infoRate (headZone h z) snr))).setDictNum (0x8500 + h) (1 + z) 2 snr)

/-- GATE_MONITOR_MISMATCH forces the gate low under bit 11 and raises its source, WRITE_INHIBIT raises bits 4 to 8 on both channels and any
other bit of the register on its own channel. PREAMP_FAULT reads FAULT under bit 9, counts and notes the head; bits 0, 1 and 5 of what it
reads close the head with source 256, bits 2, 3 and 4 raise 257, 258 and 259, and no answer raises 258. FLT_N_RELEASE takes the line back
up, and with FAULT read lets bit 9 go. PRE_SCMD_GO sends one frame: a read puts the answer into its register and raises 258 where there is
none, a read of FAULT counts as the read that bit 9 waits for, and a write of HEAD switches the head (R195, R250, R252, R253, R257, R263,
R269, R270). -/
def Obligations.WriteGateEventsRunTheirEffect : Prop :=
  (∀ (k : Nat) (s : State), exec (.gateMonitorMismatch k) s =
    .next ((((s.gateLow k).setChn k { (s.gateLow k).chn k with gateFault := true }).inhibit k 11).raise (211 + 16 * k) 0 0)) ∧
  (∀ (k bit : Nat) (s : State), 4 ≤ bit → bit ≤ 8 → exec (.writeInhibit k bit) s = .next (s.inhibitBoth bit).settle) ∧
  (∀ (k bit : Nat) (s : State), bit ≤ 12 → bit < 4 ∨ 8 < bit → exec (.writeInhibit k bit) s = .next (s.inhibit k bit).settle) ∧
  (∀ (k fault : Nat) (s u : State),
    u = (((((s.setPre k { s.pre k with fltLow := true, faultRead := false, mute := true }).inhibit k 9).bumpF (Fld.PRE_FLT_COUNT k) 1).setF
      (Fld.PRE_FLT_HEAD k) (s.pre k).head).preampFrame k true 9 0) →
    exec (.preampFault k fault false) s = .next (u.raise (258 + 16 * k) 0 0)) ∧
  (∀ (k fault : Nat) (s u a b c : State),
    u = ((((((s.setPre k { s.pre k with fltLow := true, faultRead := true, mute := false }).inhibit k 9).bumpF (Fld.PRE_FLT_COUNT k) 1).setF
      (Fld.PRE_FLT_HEAD k) (s.pre k).head).preampFrame k true 9 0).setF (Fld.PRE_FLT_FAULT k) fault) →
    a = (if bitOf fault 0 || bitOf fault 1 || bitOf fault 5 then ({ u with
      obj := { u.obj with closedHeads := insertNat (12 * k + (s.pre k).head) u.obj.closedHeads } } : State).raise (256 + 16 * k) 0 0 else u) →
    b = (if bitOf fault 2 then a.raise (257 + 16 * k) 0 0 else a) →
    c = (if bitOf fault 3 then b.raise (258 + 16 * k) 0 0 else b) →
    exec (.preampFault k fault true) s = .next (if bitOf fault 4 then c.raise (259 + 16 * k) 0 0 else c)) ∧
  (∀ (k : Nat) (s u : State), k < 2 → u = s.setPre k { s.pre k with fltLow := false } →
    exec (.fltNRelease k) s = .next (if (s.pre k).faultRead = true then u.uninhibit k 9 else u)) ∧
  (∀ (k addr data v : Nat) (back : List Nat) (s u : State),
    u = ((s.setF (Fld.PRE_SCMD_READ k) 1).setF (Fld.PRE_SCMD_ADDR k) addr).setF (Fld.PRE_SCMD_DATA k) data →
    (addr ≠ 9 → exec (.preScmdGo k true addr data (some v) back) s = .next
      (((u.preampFrame k true addr 0).setPre k { u.pre k with mute := false }).setF (Fld.PRE_SCMD_DATA k) v)) ∧
    exec (.preScmdGo k true addr data none back) s = .next
      (((u.preampFrame k true addr 0).setPre k { u.pre k with mute := true }).raise (258 + 16 * k) 0 0)) ∧
  (∀ (k data v : Nat) (back : List Nat) (s u w : State),
    u = ((s.setF (Fld.PRE_SCMD_READ k) 1).setF (Fld.PRE_SCMD_ADDR k) 9).setF (Fld.PRE_SCMD_DATA k) data →
    w = ((u.preampFrame k true 9 0).setPre k { u.pre k with mute := false }).setF (Fld.PRE_SCMD_DATA k) v →
    exec (.preScmdGo k true 9 data (some v) back) s = .next ((w.setPre k { w.pre k with faultRead := true }).faultSeen k)) ∧
  (∀ (k data : Nat) (answer : Option Nat) (back : List Nat) (s u : State),
    u = ((s.setF (Fld.PRE_SCMD_READ k) 0).setF (Fld.PRE_SCMD_ADDR k) 2).setF (Fld.PRE_SCMD_DATA k) data →
    exec (.preScmdGo k false 2 data answer back) s = .next (u.headWritten k (data % 16) back)) ∧
  (∀ (k addr data : Nat) (answer : Option Nat) (back : List Nat) (s u : State), addr ≠ 2 →
    u = ((s.setF (Fld.PRE_SCMD_READ k) 0).setF (Fld.PRE_SCMD_ADDR k) addr).setF (Fld.PRE_SCMD_DATA k) data →
    exec (.preScmdGo k false addr data answer back) s = .next (u.preampSet k addr data back))

/-- HEAD_SWITCH raises write-inhibit bit 3, writes HEAD with its read-back, keeps the track on the new surface as the target where the
surfaces say it, loads that head's linearisation, takes the on-track signals away and starts the settling; a reader offset above 4 raises
source 208 of the channel. HEAD_SWITCH_SETTLE ends the settling, widens the search and lets the target wait for the first valid wedge, and
without a switch changes nothing (R178, R257, R277, R293). -/
def Obligations.HeadSwitchesRunTheirEffect : Prop :=
  (∀ (k head : Nat) (back offsets : List Nat) (s : State),
    exec (.headSwitch k head back offsets) s = .next (
      if offsets.any (· > 4) = true then ((s.headWritten k head back).raise (208 + 16 * k) 0 0).showServo k
      else (s.headWritten k head back).showServo k)) ∧
  (∀ (k head : Nat) (back : List Nat) (s u v w : State), u = (s.inhibit k 3).preampSet k 2 head back →
    v = (match s.sameTrack k (12 * k + head) with
      | some p => (u.setPre k { u.pre k with settling := true }).setF (Fld.SRV_TARGET_TARGET k) (unsigned 32 p)
      | none => u.setPre k { u.pre k with settling := true }) →
    w = ((v.packLin k).setF (Fld.SRV_STATUS_RD_OK k) 0).setF (Fld.SRV_STATUS_WR_OK k) 0 →
    s.headWritten k head back = (w.setSrv k { w.srv k with counting := false, rd := 0, wr := 0, held := none }).settle) ∧
  (∀ (k : Nat) (s : State), k < 2 → (s.pre k).settling = true →
    ∃ t, exec (.headSwitchSettle k) s = .next t ∧ t.pre k = { s.pre k with settling := false } ∧ (t.srv k).searching = true ∧
      (t.srv k).waits = true ∧ (t.srv k).seeds = 0 ∧ (t.srv k).amps = [] ∧ t.regs = s.regs ∧ t.dict = s.dict) ∧
  (∀ (k : Nat) (s : State), (s.pre k).settling = false → exec (.headSwitchSettle k) s = .next s)
/-- SERVO_WEDGE takes a wedge whose mark is found and which is valid, misses the wedge where no mark is found, and lacks an invalid one; after
a loss it seeks the marks again. WEDGE_PREDICTED misses a wedge, and after a loss counts one more wedge sought with no run of marks. A
lacking wedge counts one more prediction, under write-inhibit bit 1 and its source, and once PRED_MAX of them stand the sequence is lost.
Seeking restores the position at the fourth valid mark in a row within REACQ wedges. WEDGE_SEQUENCE_LOST loses the sequence too;
REACQUIRE_TIMEOUT after the limit retracts the actuator, takes it out of the locked ones and raises its source, and does nothing before. On
the ramp or with the servo mode 0 none of the first three does anything (R274 to R280, R296 to R298). -/
def Obligations.ServoWedgesRunTheirEffect : Prop :=
  (∀ (k : Nat) (w : WedgeData) (trajEnd : Bool) (dac : Int) (s : State), s.parked k = true ∨ s.getF (Fld.SRV_CTRL_MODE k) = 0 →
    exec (.servoWedge k w trajEnd dac) s = .next s ∧ exec (.wedgePredicted k trajEnd dac) s = .next s ∧
    exec (.wedgeSequenceLost k) s = .next s) ∧
  (∀ (k : Nat) (w : WedgeData) (trajEnd : Bool) (dac : Int) (s t : State), s.parked k = false → s.getF (Fld.SRV_CTRL_MODE k) ≠ 0 →
    s.isSet (Fld.SRV_STATUS_LOST k) = false → t = s.overServo k →
    (markFound w.marks (if (t.srv k).searching then 16 else t.getF (Fld.SRV_CTRL_SAMWIN k)) = none →
      exec (.servoWedge k w trajEnd dac) s = .next (t.missWedge k trajEnd dac).settle) ∧
    (markFound w.marks (if (t.srv k).searching then 16 else t.getF (Fld.SRV_CTRL_SAMWIN k)) ≠ none →
      exec (.servoWedge k w trajEnd dac) s = .next (
        if t.wedgeValid k w = true then (t.validWedge k w trajEnd dac).settle
        else ((t.markTw k w false).lackWedge k trajEnd dac).settle))) ∧
  (∀ (k : Nat) (w : WedgeData) (trajEnd : Bool) (dac : Int) (s : State), s.parked k = false → s.getF (Fld.SRV_CTRL_MODE k) ≠ 0 →
    s.isSet (Fld.SRV_STATUS_LOST k) = true → exec (.servoWedge k w trajEnd dac) s =
      .next ((s.overServo k).seekMarks k w (w.marks.any (fun m => markMatches m.2)) dac)) ∧
  (∀ (k : Nat) (w : WedgeData) (found : Bool) (dac : Int) (run : Nat) (s a b c d : State),
    run = (if (found && idOk w && w.a != 0) = false then 0
      else if (s.srv k).run = 0 ∨ idOf w = (s.getF (Fld.SRV_STATUS_WEDGE k) + 1) % 512 then (s.srv k).run + 1 else 1) →
    a = s.setSrv k { s.srv k with run := run, sought := (s.srv k).sought + 1, marked := (s.srv k).marked && found } →
    b = (if found then a.markTw k w ((found && idOk w && w.a != 0) && decide (run ≥ 2)) else a) →
    c = (if (found && idOk w && w.a != 0) = true then (b.setF (Fld.SRV_STATUS_WEDGE k) (idOf w)).rroCheck k w else b) →
    d = (c.setF (Fld.SRV_STATUS_LOST k) 0).uninhibit k 1 →
    s.seekMarks k w found dac =
      if run < 4 ∨ s.dictNum (0x3600 + k) 0x0C ≤ (s.srv k).sought then
        (c.cleCompute k ((s.getF (Fld.SRV_STATUS_WEDGE k) + 1) % 512) dac).showServo k
      else ((((((d.setSrv k { (d.srv k).unseed.take (c.measuredP k w) with amps := [w.a] }).reportWedge k (c.measuredP k w) 0).retarget
        k).cleCompute k (idOf w) dac).settle).showServo k)) ∧
  (∀ (k : Nat) (trajEnd : Bool) (dac : Int) (s : State), s.parked k = false → s.getF (Fld.SRV_CTRL_MODE k) ≠ 0 →
    (s.isSet (Fld.SRV_STATUS_LOST k) = false →
      exec (.wedgePredicted k trajEnd dac) s = .next ((s.overServo k).missWedge k trajEnd dac).settle) ∧
    (s.isSet (Fld.SRV_STATUS_LOST k) = true → exec (.wedgePredicted k trajEnd dac) s = .next
      (((s.overServo k).setSrv k { s.srv k with run := 0, sought := (s.srv k).sought + 1, marked := false }).cleCompute k
        (s.getF (Fld.SRV_STATUS_WEDGE k)) dac))) ∧
  (∀ (k : Nat) (trajEnd : Bool) (dac : Int) (s : State),
    s.missWedge k trajEnd dac = ((s.setSrv k { s.srv k with marked := false }).stat (0x8140 + k) 4 1).lackWedge k trajEnd dac) ∧
  (∀ (k : Nat) (trajEnd : Bool) (dac : Int) (s u : State), (s.srv k).pred < s.dictNum (0x3600 + k) 0x0B →
    u = (s.setSrv k { s.srv k with p1 := s.predicted k, p2 := (s.srv k).p1, pred := (s.srv k).pred + 1 }).inhibit k 1 →
    s.lackWedge k trajEnd dac = ((((((u.stat (0x8140 + k) 2 1).advanceRef k trajEnd).reportWedge k (s.predicted k) 0).cleCompute k
      ((s.getF (Fld.SRV_STATUS_WEDGE k) + 1) % 512) dac).wedgeId k ((s.getF (Fld.SRV_STATUS_WEDGE k) + 1) % 512)).raise
      (289 + 16 * k) 0 0).showServo k) ∧
  (∀ (k : Nat) (trajEnd : Bool) (dac : Int) (s : State), s.dictNum (0x3600 + k) 0x0B ≤ (s.srv k).pred →
    s.lackWedge k trajEnd dac = s.sequenceLost k) ∧
  (∀ (k : Nat) (s : State), s.parked k = false → s.getF (Fld.SRV_CTRL_MODE k) ≠ 0 →
    exec (.wedgeSequenceLost k) s = .next (
      if s.isSet (Fld.SRV_STATUS_LOST k) = false ∧ s.dictNum (0x3600 + k) 0x0B ≤ (s.srv k).pred then (s.overServo k).sequenceLost k
      else s)) ∧
  (∀ (k : Nat) (s u : State), s.isSet (Fld.SRV_STATUS_LOST k) = true → s.dictNum (0x3600 + k) 0x0C ≤ (s.srv k).sought →
    u = s.retract k 0 → exec (.reacquireTimeout k) s =
      .next (({ u with boot := { u.boot with locked := u.boot.locked.filter (· != k) } } : State).raise (290 + 16 * k) 0 0)) ∧
  (∀ (k : Nat) (s : State), s.isSet (Fld.SRV_STATUS_LOST k) = false ∨ (s.srv k).sought < s.dictNum (0x3600 + k) 0x0C →
    exec (.reacquireTimeout k) s = .next s)

/-- CLE_OVERRUN clears RUN, sends the outputs of the last wedge again and raises source 321. SRV_TARGET_WRITE holds the target, which waits
while wedges are predicted with the target before it in force, waits for a position without a wedge taken or after a loss, and else starts
a move to it at once; on the ramp it changes nothing. CLE_LOOP_ENABLE starts loop 8 with its soft start and its slew from the measured
speed, and a loop of an actuator with its output kept and its ramp. RUNOUT_LEARN_TIMEOUT tells once with source 324 after four times
LRN_REVS without what was to be learned, and else changes nothing (R281, R285 to R289, R297, R299, R316). -/
def Obligations.ServoCommandsRunTheirEffect : Prop :=
  (∀ (k : Nat) (v : Int) (m : Int) (s : State), v = (s.srv k).uv.getD 1 0 → m = (s.srv k).uma.getD 1 0 →
    exec (.cleOverrun k) s =
      .next ((((s.setSrv k { s.srv k with uv := [v, v], uma := [m, m] }).setPoint k v m).setF Fld.CLE_CTRL_RUN 0).raise 321 0 0)) ∧
  (∀ (k : Nat) (target : BitVec 32) (s u : State), u = s.setF (Fld.SRV_TARGET_TARGET k) target.toNat →
    (s.parked k = true ∨ (s.srv k).unloading = true → exec (.srvTargetWrite k target) s = .next s) ∧
    (s.parked k = false → (s.srv k).unloading = false →
      (s.isSet (Fld.SRV_STATUS_LOST k) = true ∨ (s.srv k).seeds = 0 → exec (.srvTargetWrite k target) s = .next u) ∧
      (s.isSet (Fld.SRV_STATUS_LOST k) = false → (s.srv k).seeds ≠ 0 →
        exec (.srvTargetWrite k target) s = .next (
          if (s.srv k).pred = 0 then ((u.retarget k).settle).showServo k
          else u.setSrv k { u.srv k with waits := true, held := some (s.target k) })))) ∧
  (∀ (l : Nat) (s : State), l < 8 → exec (.cleLoopEnable l) s = .next ((s.enableLoop l (s.inForce l)).startRamp l)) ∧
  (∀ s u : State, u = s.enableLoop 8 s.spm.iqTarget →
    exec (.cleLoopEnable 8) s = .next (({ u with
      cle := { u.cle with spinRamp := some ⟨8, s.speed16, 0, s.rampN 8⟩ },
      spm := { u.spm with slew := 5000 * s.speed16, target := s.getF Fld.SPM_TARGET_SPEED } } : State).setF (Fld.CLE_LSTAT_RAMP 8) 1)) ∧
  (∀ (h : Nat) (l : Learn) (s : State), Assoc.find s.cle.learn h = some l →
    exec (.runoutLearnTimeout h) s = .next (
      if s.learned h = false ∧ l.told = false ∧ 4 * s.getF (Fld.CLE_LRN_REVS (h / 12)) ≤ l.since then
        ({ s with cle := { s.cle with learn := Assoc.put s.cle.learn h { l with told := true } } } : State).raise 324 0 0
      else s)) ∧
  (∀ (h : Nat) (s : State), Assoc.find s.cle.learn h = none → exec (.runoutLearnTimeout h) s = .next s)

/-- HEAD_LOAD with the spindle at speed and four marks in a row takes the actuator off the ramp, meets its preamplifier, locks it at the last
wedge, puts it back in service, moves it to the target, and with both locked lets Ochre go on or a qualification begin; in Deployed with B0
zero it goes back to the ramp and fails the start with code 0x21; without four marks or where no load may begin it changes nothing.
LOAD_NO_LOCK counts the attempt, goes back to the ramp and raises its source, and the last attempt allowed fails the start. INJECTION_START
outside Manufacture and Returned or during an injection does nothing, with too short a capture it reports status 3, and else starts the
injection under write-inhibit bit 12. CAPTURE_COMPLETE waits for the whole capture, and then ends the injection, marks it done, releases
bit 12 and writes its response (R288, R292, R296, R300 to R302, R334). -/
def Obligations.HeadLoadsAndInjectionsRunTheirEffect : Prop :=
  (∀ (k : Nat) (ws : List WedgeData) (ident : Option Nat) (rcoil : Nat) (s : State), s.mayLoad k = false ∨ lockRun ws = false →
    exec (.headLoad k ws ident rcoil) s = .next s) ∧
  (∀ (k : Nat) (ws : List WedgeData) (ident : Option Nat) (rcoil : Nat) (s u : State), s.mayLoad k = true → lockRun ws = true →
    u = ((({ s with tint := { s.tint with counting := s.tint.counting.set k false } } : State).measureCoil k rcoil).leaveRamp k).meetPreamp
      k ident → u.deployed = true → u.modelCoef k 2 = 0 →
    exec (.headLoad k ws ident rcoil) s = .next ((u.retract k 0).startFails 0x21)) ∧
  (∀ (k : Nat) (ws : List WedgeData) (ident : Option Nat) (rcoil : Nat) (w : WedgeData) (p : Int) (s u a b c d e f : State),
    s.mayLoad k = true → lockRun ws = true → ws.getLast? = some w →
    u = ((({ s with tint := { s.tint with counting := s.tint.counting.set k false } } : State).measureCoil k rcoil).leaveRamp k).meetPreamp
      k ident → u.deployed = false ∨ u.modelCoef k 2 ≠ 0 → p = u.measuredP k w →
    a = (ws.foldl (fun (t : State) x => t.rroCheck k x) ((u.setSrv k { u.srv k with marked := true }).markTw k w true)).setF
      (Fld.SRV_STATUS_LOST k) 0 →
    b = (a.setF (Fld.SRV_STATUS_WEDGE k) (idOf w)).uninhibit k 1 →
    c = b.setSrv k { (b.srv k).unseed.take p with amps := [w.a], tries := 0, pred := 0, ref := p } →
    d = (((((c.enableLoop (4 * k) 0).enableLoop (4 * k + 3) 0).reportWedge k p 0).backInService k).retarget k).event (534 + k) 0 →
    e = (if d.boot.ochreRunning = true ∧ d.boot.ochreStep = 2 ∧ d.boot.locked = [0, 1] then
      { d with boot := { d.boot with ochreStep := 3 } } else d) →
    f = (if e.boot.bringUp = true ∧ e.boot.locked = [0, 1] then e.startQualification else e) →
    exec (.headLoad k ws ident rcoil) s = .next (f.settle.showServo k)) ∧
  (∀ (k : Nat) (s : State), k < 2 → (s.chn k).wgate = false → (s.leaveRamp k).parked k = false ∧ (s.leaveRamp k).dict = s.dict ∧
    bitOf ((s.leaveRamp k).inhibits k) 3 = true) ∧
  (∀ (k rcoil : Nat) (s : State), s.mayLoad k = false → exec (.loadNoLock k rcoil) s = .next s) ∧
  (∀ (k rcoil : Nat) (s u : State), s.mayLoad k = true →
    u = ((((s.measureCoil k rcoil).leaveRamp k).setSrv k { s.srv k with tries := (s.srv k).tries + 1 }).retract k 0).raise
      (291 + 16 * k) 0 0 →
    exec (.loadNoLock k rcoil) s = .next (
      if u.dictNum (0x3600 + k) 0x0D ≤ (u.srv k).tries then (u.setSrv k { u.srv k with tries := 0 }).startFails 0x21 else u)) ∧
  (∀ (code : Nat) (s : State), s.startFails code = if s.boot.ochreRunning = true then s.ochreFail code else s.bringUpFails) ∧
  (∀ s : State, (s.manufacture = false ∧ s.returned = false) ∨ s.cle.inject.isSome = true ∨
    (s.injectShort = false ∧ 9 < s.getF Fld.CLE_INJCTL_NODE) → exec .injectionStart s = .next s) ∧
  (∀ s : State, s.manufacture = true ∨ s.returned = true → s.cle.inject = none → s.injectShort = true →
    exec .injectionStart s = .next (s.setDictNum 0x4140 0x0A 1 3)) ∧
  (∀ (kind node : Nat) (s u : State), s.manufacture = true ∨ s.returned = true → s.cle.inject = none → s.injectShort = false →
    kind = s.getF Fld.CLE_INJCTL_TYPE → node = s.getF Fld.CLE_INJCTL_NODE → node ≤ 9 →
    u = ((({ s with cle := { s.cle with inject := some ⟨node, kind, if kind = 1 then 4096 else 0, 0, s.captureLen⟩ } } : State).setF
      Fld.CLE_INJCTL_ACTIVE 1).setF Fld.CLE_CAPCTL_DONE 0).setDictNum 0x4140 0x0A 1 1 →
    exec .injectionStart s = .next (if 8 ≤ node then (u.inhibitBoth 12).settle else (u.inhibit (node / 4) 12).settle)) ∧
  (∀ s : State, s.cle.inject = none → exec .captureComplete s = .next s) ∧
  (∀ (x : Inject) (s u : State), s.cle.inject = some x →
    u = ((({ s with cle := { s.cle with inject := none } } : State).setF Fld.CLE_INJCTL_ACTIVE 0).setF Fld.CLE_CAPCTL_DONE 1).setDictNum
      0x4140 0x0A 1 2 →
    exec .captureComplete s = .next (
      if x.taken < x.len then s
      else if 8 ≤ x.node then ((u.uninhibitBoth 12).writeResponse x).event 536 x.node
      else ((u.uninhibit (x.node / 4) 12).writeResponse x).event 536 x.node))
/-- PWM_PERIOD counts the pulses of a start and goes on to the open loop after the 32nd; in the open loop the angle turns on by a step that
the spec leaves open, and there and under FOC the duty set that arrived, or the last one again, is applied, shifted while a shift is active,
and the samples, the observer and the current loop run; a zero-vector brake checks its current limit, a catch and a bridge off do nothing.
Without the bridge or under a power loss nothing runs. Two duty sets missed under FOC turn the bridge off by DUTY_SET_LOSS and retract;
SAMPLE_SHIFT_TIMEOUT raises source 338 after eight periods of a shift without a valid pair. SPEED_LOOP after ten periods takes the speed, a
new slewed goal with its soft start and a current target within the limit, and runs only under FOC. STANDSTILL_START_TIMEOUT in a start
turns the bridge off under source 340 and fails the start with code 0x20 (R309 to R317, R336). -/
def Obligations.SpindlePeriodsRunTheirEffect : Prop :=
  (∀ (arrived : Bool) (isamp emf : List Int) (angle speed : Nat) (s : State),
    s.isSet Fld.MFE_STATUS_SPIN_ON = false ∨ s.mfe.rectifier = true ∨ s.spinMode = 0 ∨ s.spinMode = 4 →
    exec (.pwmPeriod arrived isamp emf angle speed) s = .next s) ∧
  (∀ (arrived : Bool) (isamp emf l : List Int) (angle speed : Nat) (s : State), s.isSet Fld.MFE_STATUS_SPIN_ON = true →
    s.mfe.rectifier = false → l = isamp.map (clampInt (-(s.isFs : Int)) s.isFs) →
    (s.spinMode = 1 → s.spm.pulses < 31 → exec (.pwmPeriod arrived isamp emf angle speed) s =
      .next (s.setSpm { s.spm with pulses := s.spm.pulses + 1, peaks := pulsePeaks s.spm.peaks s.spm.pulses l })) ∧
    (s.spinMode = 1 → 31 ≤ s.spm.pulses → exec (.pwmPeriod arrived isamp emf angle speed) s =
      .next ((s.setSpm { s.spm with pulses := s.spm.pulses + 1, peaks := pulsePeaks s.spm.peaks s.spm.pulses l }).startOpenLoop
        (pulsePeaks s.spm.peaks s.spm.pulses l))) ∧
    (s.spinMode = 6 → exec (.pwmPeriod arrived isamp emf angle speed) s =
      .next (s.setMfe { s.mfe with lowOpen := l.any (fun i => decide (i > s.getF Fld.MFE_BRAKE_ZV_ILIM)) })) ∧
    (s.spinMode = 2 → exec (.pwmPeriod arrived isamp emf angle speed) s =
      .next ((s.useFree.setSpm { s.spm with turn := s.spm.turn + s.freeWord.toNat }).drivenPeriod arrived l emf
        ((s.spm.angle + (s.spm.turn + s.freeWord.toNat)) % 65536) speed)) ∧
    (s.spinMode ≠ 0 → s.spinMode ≠ 1 → s.spinMode ≠ 2 → s.spinMode ≠ 4 → s.spinMode ≠ 6 → exec (.pwmPeriod arrived isamp emf angle speed) s =
      .next (s.drivenPeriod arrived l emf (angle % 65536) speed))) ∧
  (∀ (peaks : List Nat) (s : State), (s.startOpenLoop peaks).getF Fld.SPM_CTRL_MODE = 2 ∧
    (s.startOpenLoop peaks).spm.angle = pulseAngle peaks ∧ (s.startOpenLoop peaks).spm.iqTarget = s.getF Fld.SPM_CURLIM_IQ_MAX ∧
    (s.startOpenLoop peaks).dict = s.dict) ∧
  (∀ (arrived : Bool) (isamp emf : List Int) (angle speed : Nat) (asked : List Nat) (s u v : State),
    asked = (if arrived then s.spm.sent else s.spm.duty) → s.isSet Fld.SPM_STATUS_SHIFT = false →
    u = (s.setSpm { s.spm with duty := asked, carry := none, pwmCount := s.spm.pwmCount + 1, angle := angle }).setMfe
      { s.mfe with missedDuty := if arrived = true ∨ s.spm.focOn = false then 0 else s.mfe.missedDuty + 1 } →
    v = (u.takeSample asked isamp angle).shiftControl asked (decide (s.spm.shiftPeriods % 2 = 0))
      (decide (shortWindows (s.getF Fld.MFE_GATE_DT) asked < 2)) →
    s.drivenPeriod arrived isamp emf angle speed = ((v.setSpm { v.spm with emf := emf }).observe speed).currentLoop angle) ∧
  (∀ (arrived : Bool) (isamp emf : List Int) (angle speed : Nat) (asked duty : List Nat) (carry : Option (Nat × Nat)) (s u v : State),
    asked = (if arrived then s.spm.sent else s.spm.duty) → s.isSet Fld.SPM_STATUS_SHIFT = true →
    shiftedDuty (s.getF Fld.MFE_GATE_DT) (decide (s.spm.shiftPeriods % 2 = 0)) s.spm.carry asked = (duty, carry) →
    u = (s.setSpm { s.spm with duty := duty, carry := carry, pwmCount := s.spm.pwmCount + 1, angle := angle }).setMfe
      { s.mfe with missedDuty := if arrived = true ∨ s.spm.focOn = false then 0 else s.mfe.missedDuty + 1 } →
    v = (u.takeSample duty isamp angle).shiftControl asked (decide (s.spm.shiftPeriods % 2 = 0))
      (decide (shortWindows (s.getF Fld.MFE_GATE_DT) duty < 2)) →
    s.drivenPeriod arrived isamp emf angle speed = ((v.setSpm { v.spm with emf := emf }).observe speed).currentLoop angle) ∧
  (∀ s : State, exec .dutySetLoss s = .next (
    if s.spm.focOn = true ∧ 2 ≤ s.mfe.missedDuty then ((s.bridgeOff.setMfe { s.mfe with missedDuty := 0 }).retractOffRamp 4).settle
    else s)) ∧
  (∀ s : State, s.bridgeOff.getF Fld.MFE_STATUS_SPIN_ON = 0 ∧ s.bridgeOff.getF Fld.SPM_CTRL_MODE = 0 ∧ s.bridgeOff.spm.focOn = false) ∧
  (∀ s : State, exec .sampleShiftTimeout s = .next (
    if s.isSet Fld.SPM_STATUS_SHIFT = true ∧ s.spm.shiftValid = false ∧ 8 ≤ s.spm.shiftPeriods then s.raise 338 0 0 else s)) ∧
  (∀ (speed : Nat) (rev revEnd : Bool) (s : State), s.spinMode ≠ 3 ∨ s.spm.focOn = false ∨ s.spm.pwmCount < 10 →
    exec (.speedLoop speed rev revEnd) s = .next s) ∧
  (∀ (speed : Nat) (rev revEnd : Bool) (slew : Nat) (r d uo iq : Int) (ramp : Option Ramp) (s a b u v w : State) (y : Int), s.spinMode = 3 →
    s.spm.focOn = true → 10 ≤ s.spm.pwmCount →
    a = (if speed < 16 * s.getF Fld.SPM_SPDLIM_OBS_MIN then s else s.measured speed) →
    b = (a.setF Fld.SPM_SPEED_REV (b2n rev)).retargetSpin →
    slew = toward b.spm.slew (5000 * b.getF Fld.SPM_TARGET_SPEED) (16 * b.dictNum 0x4000 0x0B) →
    r = (match b.cle.spinRamp with
      | some x => ({ x with n := x.n + 1 } : Ramp).at_ ((slew / 5000 : Nat) : Int)
      | none => ((slew / 5000 : Nat) : Int)) →
    ramp = (match b.cle.spinRamp with
      | some x => if x.n + 1 ≥ x.len then none else some { x with n := x.n + 1 }
      | none => none) →
    u = (({ b with cle := { b.cle with spinRamp := ramp } } : State).setSpm { b.spm with slew := slew, pwmCount := 0 }).setF
      (Fld.CLE_LSTAT_RAMP 8) (b2n ramp.isSome) →
    d = r - b.speed16 + u.testSignal 8 → u.runLoop 8 d = (v, y) → uo = satInt 16 (y + u.testSignal 9) →
    w = (v.capture 8 d (r - b.speed16)).capture 9 uo y →
    iq = clampInt (-((w.getF Fld.SPM_CURLIM_IQ_MAX : Nat) : Int)) (w.getF Fld.SPM_CURLIM_IQ_MAX : Nat) (rnd (uo * w.isFs) 15) →
    exec (.speedLoop speed rev revEnd) s = .next (
      if revEnd then (w.setSpm { w.spm with iqTarget := iq }).spinRevolution b.speed16 else w.setSpm { w.spm with iqTarget := iq })) ∧
  (∀ s : State, exec .standstillStartTimeout s = .next (
    if s.spinMode = 1 ∨ s.spinMode = 2 then (s.bridgeOff.raise 340 0 0).startFails 0x20 else s))

/-- BEMF_ZERO_CROSSING shows the speed of the crossing and its direction; in a catch, a direction that is not the one wanted brakes in
reverse, a speed below CATCH_MIN turns the bridge off and waits, five alike intervals catch the spindle with event 531, and anything else
starts the count again; while the observer is valid under FOC it changes nothing. CATCH_TIMEOUT counts an attempt, and the third one turns
the bridge off under source 337, brakes by zero vector and goes back to Slate from Cobalt or fails the start. LOSS_OF_SYNCHRONISM needs
three implausible periods under FOC, and then counts, reports and either ends a brake by zero vector or retracts and starts the spindle
again. SPINDLE_STOPPED below 30 rpm ends a spin-down with event 529 and starts again where a start waited for it; during a start, above that
speed or at rest already it is no stop. SPIN_DOWN_UNPARKED begins a spin-down with the bridge off where an actuator cannot be parked (R318
to R323, R339, R345, R707). -/
def Obligations.SpindleEventsRunTheirEffect : Prop :=
  (∀ (interval c : Nat) (s : State), s.spm.focOn = true → s.isSet Fld.SPM_STATUS_OBS_VALID = true →
    exec (.bemfZeroCrossing interval c) s = .next s) ∧
  (∀ (interval c speed : Nat) (ahead back : Bool) (s a u : State), s.spm.focOn = false ∨ s.isSet Fld.SPM_STATUS_OBS_VALID = false →
    speed = crossingSpeed interval (s.getF Fld.SPM_MOTOR_POLES) → ahead = (s.spm.lastCross == some ((c + 5) % 6)) →
    back = (s.spm.lastCross == some ((c + 1) % 6)) →
    a = (if (ahead || back) = true then (s.measured speed).setF Fld.SPM_SPEED_REV (b2n back) else s.measured speed) →
    u = a.setSpm { s.spm with lastCross := some c } →
    (u.spinMode ≠ 4 → exec (.bemfZeroCrossing interval c) s = .next u) ∧
    (u.spinMode = 4 → (ahead || back) = true → u.turnsBack = true → exec (.bemfZeroCrossing interval c) s = .next u.reverseBrake) ∧
    (u.spinMode = 4 → ((ahead || back) && u.turnsBack) = false → speed < 16 * u.getF Fld.SPM_SPDLIM_CATCH_MIN →
      exec (.bemfZeroCrossing interval c) s =
        .next (u.bridgeOff.setSpm { u.bridgeOff.spm with belowCatch := true, crossings := [] })) ∧
    (u.spinMode = 4 → ((ahead || back) && u.turnsBack) = false → 16 * u.getF Fld.SPM_SPDLIM_CATCH_MIN ≤ speed →
      ∀ (go : Bool) (l : List Nat), go = (!u.spm.crossings.isEmpty && (ahead || back) &&
          alikeIntervals (interval :: u.spm.crossings.filter (· != 0))) →
        l = (if go then interval :: u.spm.crossings else [0]) →
        (l.length < 6 → exec (.bemfZeroCrossing interval c) s = .next (u.setSpm { u.spm with crossings := l })) ∧
        (6 ≤ l.length → exec (.bemfZeroCrossing interval c) s = .next ((((((u.setSpm { u.spm with
          crossings := [], angle := c * 65536 / 6 }).startFoc).setF Fld.SPM_STATUS_OBS_VALID 1).setF Fld.SPM_STATUS_CATCHFAIL 0).bumpF Fld.SPM_CNT_CATCHES
            1).event 531 (u.getF Fld.SPM_STATUS_CATCHFAIL)).startBrake))) ∧
  (∀ s : State, s.spinMode ≠ 4 → exec .catchTimeout s = .next s) ∧
  (∀ (n : Nat) (s u v w : State), s.spinMode = 4 → n = s.getF Fld.SPM_STATUS_CATCHFAIL + 1 →
    u = (s.setSpm { s.spm with crossings := [], lastCross := none }).setF Fld.SPM_STATUS_CATCHFAIL n →
    v = u.bridgeOff.raise 337 0 0 → w = State.startBrake (v.setSpm { v.spm with spinDown := true, zvOnly := true }) →
    (n < 3 → exec .catchTimeout s = .next u) ∧
    (3 ≤ n → exec .catchTimeout s = .next (if w.stage = 3 then w.backToSlate 0x20 else w.startFails 0x20))) ∧
  (∀ (p1 p2 p3 : Nat × Nat × Nat) (s : State), s.spm.focOn = false ∨ s.implausible p1 = false ∨ s.implausible p2 = false ∨
    s.implausible p3 = false → exec (.lossOfSynchronism p1 p2 p3) s = .next s) ∧
  (∀ (p1 p2 p3 : Nat × Nat × Nat) (s u : State), s.spm.focOn = true → s.implausible p1 = true → s.implausible p2 = true →
    s.implausible p3 = true →
    u = (((((s.measured p3.2.2).setF Fld.SPM_STATUS_OBS_VALID 0).bumpF Fld.SPM_CNT_LOS 1).event 530 p3.2.2).raise 336 0 0) →
    exec (.lossOfSynchronism p1 p2 p3) s = .next (
      if s.spinMode = 5 then (u.setSpm { u.spm with focOn := false, iqTarget := 0 }).setF Fld.SPM_CTRL_MODE 6
      else ((((u.retractOffRamp 5).bridgeOff).setF Fld.SPM_STATUS_AT_SPEED 0).setF Fld.SPM_STATUS_LOS 1).startSpin.settle)) ∧
  (∀ s : State, s.unparkable 0 = false → s.unparkable 1 = false → exec .spinDownUnparked s = .next s) ∧
  (∀ s u : State, s.unparkable 0 = true ∨ s.unparkable 1 = true →
    u = ((s.retractOffRamp 0).bridgeOff).setF Fld.SPM_STATUS_AT_SPEED 0 →
    exec .spinDownUnparked s = .next (u.setSpm { u.spm with spinDown := true }).settle) ∧
  (∀ (speed : Nat) (s : State), 480 ≤ speed ∨ s.spinMode = 1 ∨ s.spinMode = 2 → exec (.spindleStopped speed) s = .next s) ∧
  (∀ (speed : Nat) (s a b c : State), speed < 480 → s.spinMode ≠ 1 → s.spinMode ≠ 2 →
    a = (((s.measured speed).bridgeOff.setF Fld.SPM_STATUS_STOPPED 1).setF Fld.SPM_STATUS_AT_SPEED 0).setF Fld.SPM_STATUS_OBS_VALID 0 →
    b = a.setSpm { a.spm with spinDown := false, zvOnly := false, belowCatch := false, iqTarget := 0 } →
    c = (if b.isSet Fld.SPM_SPEED_REV = true then b.setF Fld.SPM_SPEED_REV 0 else b) →
    exec (.spindleStopped speed) s = .next (
      if s.isSet Fld.SPM_STATUS_STOPPED = true ∧ s.turning = false ∧ s.spm.belowCatch = false ∧ s.spm.spinDown = false then
        s.measured speed
      else if s.spm.belowCatch = true ∧ s.spm.spinDown = false then (c.event 529 0).startSpin
      else c.event 529 0))

/-- Every bus command shows VBUS. Past its threshold each does what the rules give: the chopper on and off, regeneration stopped under
source 359, the bridges off under source 360 with the retracts, and back again with a turning spindle caught; not past it, nothing more.
The ideal diode conducts from 8.00 V at its input while the input is within 20 mV of the bus and no loss is confirmed, is held off at a
negative input, and a good input ends a low supply; FET_NOT_CONDUCTING raises source 362 while it is on. An open chopper stops regeneration
under source 357 and a shorted one unloads both actuators and begins a spin-down by zero vector under source 358. CLEAR_LATCHES clears the
latches of the chopper, the shorts and the open phase (R324 to R330, R337, R339). -/
def Obligations.BusVoltageEventsRunTheirEffect : Prop :=
  (∀ (vbus : Nat) (s u v : State), u = s.setVbus vbus →
    v = (u.setMfe { u.mfe with brkOn := true, vbusAtBrk := vbus }).stat 0x8150 6 1 →
    exec (.vbusAbove13v8 vbus) s = .next (
      if vbus < s.getF Fld.MFE_BUSTH0_CHOP_ON ∨ s.mfe.brkOn = true then u
      else v.setF Fld.MFE_STATUS_BUS (max 1 (v.getF Fld.MFE_STATUS_BUS)))) ∧
  (∀ (vbus : Nat) (s u : State), u = s.setVbus vbus →
    exec (.vbusBelow13v6 vbus) s = .next (
      if s.getF Fld.MFE_BUSTH0_CHOP_OFF ≤ vbus ∨ s.getF Fld.MFE_STATUS_BUS = 3 then u
      else (u.setMfe { u.mfe with brkOn := false, regenOff := u.isSet Fld.MFE_PROT_CHOP_OPEN }).setF Fld.MFE_STATUS_BUS 0)) ∧
  (∀ (vbus : Nat) (s u : State), u = s.setVbus vbus →
    exec (.vbusAbove14v2 vbus) s = .next (
      if vbus ≤ s.getF Fld.MFE_BUSTH1_NO_REGEN then u
      else ((u.noRegen.setF Fld.MFE_STATUS_BUS (max 2 (u.getF Fld.MFE_STATUS_BUS))).setF Fld.MFE_PROT_BUS142 1).raiseMotion 359 0 0)) ∧
  (∀ (vbus : Nat) (s u v : State), u = s.setVbus vbus →
    v = (u.bridgeOff.setMfe { u.mfe with bridgeReady := false, regenOff := true, brkOn := true }).retractOffRamp 7 →
    exec (.vbusAbove15v vbus) s = .next (
      if vbus ≤ s.getF Fld.MFE_BUSTH1_BRIDGE_OFF then u
      else (((((v.vcmOffAfter 0).vcmOffAfter 1).setF Fld.MFE_STATUS_BUS 3).setF Fld.MFE_PROT_BUS15 1).setF Fld.SPM_STATUS_AT_SPEED
        0).raiseMotion 360 0 0)) ∧
  (∀ (vbus : Nat) (keep : Bool) (s u v : State), keep = decide (s.getF Fld.MFE_BUSTH0_CHOP_OFF ≤ vbus) → u = s.setVbus vbus →
    v = (((u.setMfe { u.mfe with bridgeReady := true, regenOff := u.isSet Fld.MFE_PROT_CHOP_OPEN, brkOn := keep }).setF
      Fld.MFE_STATUS_BUS (b2n keep)).vcmAgain 0).vcmAgain 1 →
    exec (.vbusBelow14v2Again vbus) s = .next (
      if s.getF Fld.MFE_BUSTH1_NO_REGEN ≤ vbus ∨ s.getF Fld.MFE_STATUS_BUS ≠ 3 then u
      else if v.turning = true then v.startSpin else v)) ∧
  (∀ (v12 : Int) (vbus : Nat) (s a u : State), a = (s.setVbus vbus).setF Fld.MFE_VSENSE_V12 (senseVolts v12) →
    u = (a.setF Fld.MFE_STATUS_IDF_ON (b2n (decide (v12 ≥ 800 ∧ v12 + 2 ≥ vbus) && !s.isSet Fld.MFE_STATUS_PWRLOSS))).setMfe
      { a.mfe with fetHeldOff := decide (v12 < 0) } →
    exec (.idealDiodeSwitch v12 vbus) s = .next (
      if 1020 ≤ v12 ∧ u.pwr.v33Good = true ∧ u.pwr.v12Good = true ∧ u.mfe.supplyLow = true then u.supplyBack.settle else u)) ∧
  (∀ s : State, exec .fetNotConducting s = .next (if s.isSet Fld.MFE_STATUS_IDF_ON = true then s.raiseMotion 362 0 0 else s)) ∧
  (∀ (amps vbus : Nat) (s : State), exec (.chopperOpen amps vbus) s = .next (
    if s.mfe.brkOn = true ∧ amps < s.getF Fld.MFE_CHOP_IMIN ∧ s.mfe.vbusAtBrk < vbus then
      (((s.setVbus vbus).noRegen).setF Fld.MFE_PROT_CHOP_OPEN 1).raiseMotion 357 0 0
    else s.setVbus vbus)) ∧
  (∀ (amps : Nat) (s : State), s.mfe.brkOn = true ∨ amps ≤ s.getF Fld.MFE_CHOP_IMIN → exec (.chopperShort amps) s = .next s) ∧
  (∀ (amps : Nat) (s u : State), s.mfe.brkOn = false → s.getF Fld.MFE_CHOP_IMIN < amps →
    u = ((s.setF Fld.MFE_PROT_CHOP_SHORT 1).raiseMotion 358 0 0).unloadBoth →
    exec (.chopperShort amps) s = .next
      ((u.setSpm { u.spm with spinDown := true, zvOnly := true }).setF Fld.SPM_STATUS_AT_SPEED 0).startBrake.settle) ∧
  (∀ s : State, ∃ t, exec .clearLatches s = .next t ∧ t.getF Fld.MFE_PROT_CHOP_OPEN = 0 ∧ t.getF Fld.MFE_PROT_CHOP_SHORT = 0 ∧
    t.getF Fld.MFE_PROT_SHORT = 0 ∧ t.getF Fld.MFE_PROT_OPEN = 0 ∧ t.spm.secondShort = false ∧ t.dict = s.dict ∧ t.out = s.out)

/-- VCM_SETPOINT_LOSS starts a retract with cause 4 off the ramp and does nothing on it. RETRACT_VELOCITY_END goes on to the push once the
coil's voltage falls under a fifth of the velocity asked for, or late. RETRACT_END parks the actuator with its coil shorted and its drive
off where that waited, reports it where the core die runs, ends a power loss with the last of the two, and else goes on with a reverse brake
or a spin-down that waited; without a retract it does nothing. SUPPLY_BELOW_THRESHOLD raises write-inhibit bit 5, POWER_LOSS_CONFIRM on a
low supply begins the sequence once, and SHOCK_HOLD_END releases bit 4 (R263, R332, R334 to R337, R340, R342). -/
def Obligations.RetractsRunTheirEffect : Prop :=
  (∀ (k : Nat) (s : State), exec (.vcmSetpointLoss k) s = .next (if s.parked k = true then s else (s.retract k 4).settle)) ∧
  (∀ (k cause : Nat) (s : State), s.retracting k = true ∨ s.unparkable k = true → s.retract k cause = s) ∧
  (∀ (k cause : Nat) (s : State), k < 2 → s.retracting k = false → s.unparkable k = false →
    ∃ t, s.retract k cause = t ∧ t.retracting k = true ∧ t.ret k = ⟨1, cause⟩ ∧ t.disk = s.disk) ∧
  (∀ (k : Nat) (mv ma : Int) (late : Bool) (s : State), exec (.retractVelocityEnd k mv ma late) s = .next (
    if s.retracting k = true ∧ (s.ret k).phase = 1 ∧
        (late = true ∨ 5 * (mv - rdiv (ma * s.coil k) 1000).natAbs < s.getF (Fld.MFE_RET_RET_VEL k)) then
      s.setRet k { s.ret k with phase := 2 } else s)) ∧
  (∀ (k : Nat) (s : State), s.retracting k = false → exec (.retractEnd k) s = .next s) ∧
  (∀ (k : Nat) (s a b c d u v : State), s.retracting k = true →
    a = ((s.setRet k ⟨0, (s.ret k).cause⟩).setRetracting k false).setParked k true →
    b = (if k = 0 then a.setMfe { a.mfe with coilShorted0 := true } else a.setMfe { a.mfe with coilShorted1 := true }) →
    c = (if (if k = 0 then b.mfe.offAfter0 else b.mfe.offAfter1) then b.setVcmOff k true else b) → d = (c.servoOff k).showServo k →
    u = (if d.boot.slateDone = true ∧ d.pwr.held = false then d.event (532 + k) (s.ret k).cause else d) →
    v = (u.bridgeOff.setF Fld.MFE_STATUS_PWRLOSS 0).setMfe { u.mfe with rectifier := false } →
    (u.isSet Fld.MFE_STATUS_PWRLOSS = true → u.retracting 0 = false → u.retracting 1 = false →
      exec (.retractEnd k) s = .next (if v.mfe.supplyLow = true then v.settle else v.supplyBack.settle)) ∧
    (u.isSet Fld.MFE_STATUS_PWRLOSS = false ∨ u.retracting 0 = true ∨ u.retracting 1 = true →
      exec (.retractEnd k) s = .next (
        if u.spm.belowCatch = true ∧ u.turnsBack = true ∧ u.turning = true ∧ u.spm.spinDown = false then u.reverseBrake
        else u.startBrake))) ∧
  (∀ s : State, exec .supplyBelowThreshold s = .next ((s.setMfe { s.mfe with supplyLow := true }).inhibitBoth 5).settle) ∧
  (∀ s : State, s.mfe.supplyLow = false ∨ s.isSet Fld.MFE_STATUS_PWRLOSS = true → exec .powerLossConfirm s = .next s) ∧
  (∀ s a b : State, s.mfe.supplyLow = true → s.isSet Fld.MFE_STATUS_PWRLOSS = false →
    a = ((s.setF Fld.MFE_STATUS_IDF_ON 0).setF Fld.MFE_STATUS_PWRLOSS 1).setF Fld.MFE_PROT_PWRLOSS 1 →
    b = (a.bridgeOff.setMfe { a.mfe with rectifier := true, lossConfirmed := true }).setF Fld.SPM_STATUS_AT_SPEED 0 →
    exec .powerLossConfirm s =
      .next ((((b.retractBoth 3).setSpm { b.spm with crossings := [] }).stat 0x8150 4 1).raiseMotion 363 0 0)) ∧
  (∀ s : State, exec .shockHoldEnd s = .next (s.uninhibitBoth 4))

/-- PHASE_SHORT above 95 % of full scale or above 1 V, OPEN_PHASE under a tenth of a wanted current above a fifth of full scale, VCM_SHORT
above 125 % of full scale or in desaturation, VCM_OPEN under 2 % at more than a tenth of the voltage, GATE_DRIVE_SUPPLY_LOW,
REVERSED_INPUT and a SHOCK above the threshold each set their latch where they have one, take what they stop out of service and raise
their source; within the limits none of them changes anything. The cause of a retract at a spindle fault is left open by the spec; a second
short within a minute is noted (R325, R330, R338 to R341). -/
def Obligations.MotionFaultsRunTheirEffect : Prop :=
  (∀ (ma : Int) (mv : Nat) (s : State), 100 * ma.natAbs ≤ 95 * s.isFs → mv ≤ 1000 → exec (.phaseShort ma mv) s = .next s) ∧
  (∀ (ma : Int) (mv cause : Nat) (second : Bool) (s t u : State), 95 * s.isFs < 100 * ma.natAbs ∨ 1000 < mv →
    s.freeCause = (t, cause) →
    second = (match s.spm.lastShortUs with | some x => decide (s.pwr.timeUs < x + 60000000) | none => false) →
    u = (((t.bridgeOff.retractOffRamp cause).setF Fld.MFE_PROT_SHORT 1).setF Fld.SPM_STATUS_AT_SPEED 0).raiseMotion 353 0 0 →
    exec (.phaseShort ma mv) s = .next (u.setSpm { u.spm with
      shortUs := some s.pwr.timeUs, secondShort := u.spm.secondShort || second, lastShortUs := s.spm.lastShortUs })) ∧
  (∀ (ma want : Nat) (s : State), want ≤ 10 * ma ∨ 5 * want ≤ s.isFs → exec (.openPhase ma want) s = .next s) ∧
  (∀ (ma want cause : Nat) (s t : State), 10 * ma < want → s.isFs < 5 * want → s.freeCause = (t, cause) →
    exec (.openPhase ma want) s = .next
      ((((t.bridgeOff.retractOffRamp cause).setF Fld.MFE_PROT_OPEN 1).setF Fld.SPM_STATUS_AT_SPEED 0).raiseMotion 354 0 0)) ∧
  (∀ (k : Nat) (ma : Int) (desat : Bool) (s : State), exec (.vcmShort k ma desat) s = .next (
    if 5 * s.vcmFs k < 4 * ma.natAbs ∨ desat = true then
      (((((s.holdMedia k).setVcmOff k true).setRetracting k false).setRet k ⟨0, 0⟩).setF (vcmLatch k) 1).raiseMotion (355 + k) 0 0
    else s)) ∧
  (∀ (k : Nat) (ma : Int) (s : State), exec (.vcmOpen k ma) s = .next (
    if 32768 < 10 * ((s.srv k).uv.getD 0 0).natAbs ∧ 50 * ma.natAbs < s.vcmFs k then (s.setF (vcmLatch k) 1).raiseMotion (355 + k) 0 1
    else s)) ∧
  (∀ (cause : Nat) (s t : State), s.freeCause = (t, cause) → exec .gateDriveSupplyLow s = .next
    (((((t.bridgeOff.retractOffRamp cause).vcmOffAfter 0).vcmOffAfter 1).setF Fld.SPM_STATUS_AT_SPEED 0).raiseMotion 365 0 0)) ∧
  (∀ s : State, exec .reversedInput s = .next
    ((((s.setF Fld.MFE_STATUS_IDF_ON 0).setMfe { s.mfe with fetHeldOff := true }).setF Fld.MFE_PROT_REVERSE 1).raiseMotion 362 0 0)) ∧
  (∀ (mv : Int) (s : State), exec (.shock mv) s = .next (
    if mv.natAbs ≤ s.getF Fld.MFE_SHOCK_TH then s
    else (((s.inhibitBoth 4).setF Fld.MFE_PROT_SHOCK 1).stat 0x8150 5 1).raiseMotion 361 0 0))
/-- DRAM_ACCESS charges its class, takes the errors that came and reads a line in use, and outside the lines in use changes nothing.
PATROL_STEP repairs the oldest line due or checks the next line and moves on, the last line ending the pass, and off or during
initialisation does nothing. MERGE_WRITE writes a whole line at once, and a part of one joins the line's entry of the merge buffer, or a new
entry after the oldest gave way at 64; MERGE_HOLD_EXPIRE flushes the entry, onto a line that is read good, and else the line is poisoned.
INIT_BLOCK_DONE ends the next block of the host's window or of initialisation. DQS_OSCILLATOR_READ records the drift of its subchannel and
above 64 raises source 134; ZQ_CALIBRATION changes nothing; DRAM_TEMPERATURE_READ doubles the refresh rate while one is hot; BIAS_REQUEST
turns its pages to device bias unless one is under way; INIT_PATROL_STALL raises source 135 while blocks or the patrol run (R93, R353, R355,
R362 to R378). -/
def Obligations.DramLinesRunTheirEffect : Prop :=
  (∀ (l what cls : Nat) (err e : List (Nat × Nat)) (s u : State), u = (s.initFor l).charge cls 1 →
    e = addErrs ((Assoc.find u.bmc.errs l).getD []) (err.filter (fun p => p.1 < 84)) →
    exec (.dramAccess l err what cls) s = .next (
      if l < s.linesInUse then (({ u with bmc := { u.bmc with
        errs := if e.isEmpty then Assoc.del u.bmc.errs l else Assoc.put u.bmc.errs l e } } : State).readLine l what).1 else s)) ∧
  (∀ (l what : Nat) (s : State),
    (s.lineDecode l = .clean → s.readLine l what = (s, true)) ∧
    (∀ fixed, s.lineDecode l = .corrected fixed → s.readLine l what = ((s.countCorrected l).queueRepair l, true)) ∧
    (s.lineDecode l = .uncorrectable → s.readLine l what = (s.countLost l 1 what, false)) ∧
    (s.lineDecode l = .poisoned → s.readLine l what = (s.countLost l 2 what, false))) ∧
  (∀ (what : Nat) (s : State), s.isSet Fld.BMC_PATROL_EN = false ∨ s.initialising = true → exec (.patrolStep what) s = .next s) ∧
  (∀ (what l : Nat) (rest : List Nat) (s : State), s.isSet Fld.BMC_PATROL_EN = true → s.initialising = false → s.bmc.repairs = l :: rest →
    exec (.patrolStep what) s = .next (((({ s with bmc := { s.bmc with repairs := rest } } : State).setF Fld.BMC_REPQ_USED
      rest.length).charge 6 1).repairLine l what)) ∧
  (∀ (what l : Nat) (s u v : State), s.isSet Fld.BMC_PATROL_EN = true → s.initialising = false → s.bmc.repairs = [] →
    l = s.getF Fld.BMC_PATROLPOS_LINE → u = (s.charge 6 1).patrolLine l what →
    v = (u.setF Fld.BMC_PATROLPOS_LINE 0).stat 0x8200 4 1 →
    exec (.patrolStep what) s = .next (
      if l + 1 < u.linesInUse then u.setF Fld.BMC_PATROLPOS_LINE (l + 1)
      else { v with bmc := { v.bmc with repaired := [] } })) ∧
  (∀ (l cls : Nat) (cells : List Host.Cell) (s : State),
    exec (.mergeWrite l cls cells) s = .next (if l < s.linesInUse then (s.initFor l).writeCells l cls cells else s)) ∧
  (∀ (l cls : Nat) (cells all : List Host.Cell) (s : State),
    all = (cells.filter (fun c => c.1 < 64)).foldl (fun m c => Assoc.put m c.1 c.2)
      (((s.bmc.merge.find? (fun e => e.line == l)).map (·.bytes)).getD []) →
    (all.length = 64 → s.writeCells l cls cells = (s.dramWrite (64 * l) (all.map (·.2))).charge cls 1) ∧
    (all = [] → s.writeCells l cls cells = s) ∧
    (all ≠ [] → all.length ≠ 64 → ∀ e : MergeEntry, s.bmc.merge.find? (fun e => e.line == l) = some e →
      s.writeCells l cls cells = s.setMerge (s.bmc.merge.map (fun e => if e.line = l then ⟨l, all, cls⟩ else e))) ∧
    (all ≠ [] → all.length ≠ 64 → s.bmc.merge.find? (fun e => e.line == l) = none →
      (s.bmc.merge.length < 64 → s.writeCells l cls cells = s.setMerge (s.bmc.merge ++ [⟨l, all, cls⟩])) ∧
      (64 ≤ s.bmc.merge.length → ∀ (e : MergeEntry) (rest : List MergeEntry), s.bmc.merge = e :: rest →
        s.writeCells l cls cells = (s.flushMerge e true).setMerge ((s.flushMerge e true).bmc.merge ++ [⟨l, all, cls⟩])))) ∧
  (∀ (l : Nat) (ok : Bool) (s : State),
    (s.bmc.merge.find? (fun e => e.line == l) = none → exec (.mergeHoldExpire l ok) s = .next s) ∧
    (∀ e, s.bmc.merge.find? (fun e => e.line == l) = some e → exec (.mergeHoldExpire l ok) s = .next (s.flushMerge e ok))) ∧
  (∀ (e : MergeEntry) (ok good : Bool) (s a u v : State),
    a = ((s.setMerge (s.bmc.merge.filter (fun x => x.line != e.line))).stat 0x8200 7 1).charge e.cls 2 →
    a.readLine e.line (a.lineHolder e.line) = (u, good) →
    v = (match u.lineDecode e.line with | .corrected fixed => u.rewriteLine e.line fixed | _ => u) →
    s.flushMerge e ok = if ok = false then (u.poisonLine e.line).raise 133 0 0 else if good = false then u.poisonLine e.line
      else v.setDram (e.bytes.foldl (fun m c => memPut m (64 * e.line + c.1) c.2) v.bmc.dram)) ∧
  (∀ s : State, s.bmc.hdmLeft = [] → exec .initBlockDone s = .next (s.blockDone (s.getF Fld.BMC_INITPOS_BLOCK))) ∧
  (∀ (b : Nat) (rest : List Nat) (s : State), s.bmc.hdmLeft = b :: rest → exec .initBlockDone s = .next (s.blockDone b)) ∧
  (∀ (b : Nat) (s u : State), s.bmc.hdmLeft.contains b = true →
    u = ({ s with bmc := { s.bmc with hdmLeft := s.bmc.hdmLeft.filter (· != b) } } : State).charge 6 32768 →
    s.blockDone b = if (s.bmc.hdmLeft.filter (· != b)).isEmpty then u.windowBack else u) ∧
  (∀ (sub drift : Nat) (s u : State), u = { s with bmc := { s.bmc with drift := s.bmc.drift.set sub drift } } →
    exec (.dqsOscillatorRead sub drift) s = .next (if drift > 64 then u.raise 134 0 0 else u)) ∧
  (∀ s : State, exec .zqCalibration s = .next s) ∧
  (∀ (hot : List Nat) (s : State), exec (.dramTemperatureRead hot) s =
    .next (({ s with bmc := { s.bmc with hot := hot } } : State).setF Fld.BMC_CFG_REF2X (b2n (!hot.isEmpty)))) ∧
  (∀ (count : Nat) (s : State), s.isSet Fld.BMC_BIASCMD_BUSY = true → exec (.biasRequest count) s = .next s) ∧
  (∀ (count : Nat) (s u : State), s.isSet Fld.BMC_BIASCMD_BUSY = false →
    u = { s with bmc := { s.bmc with bias := (List.range s.hdmPages).filter (fun p =>
      (decide (s.getF Fld.BMC_BIASPAGE_PAGE ≤ p) && decide (p < s.getF Fld.BMC_BIASPAGE_PAGE + count)) || s.bmc.bias.contains p) } } →
    exec (.biasRequest count) s = .next ((u.setF Fld.BMC_BIASCMD_COUNT count).setF Fld.BMC_BIASCMD_DONE 1)) ∧
  (∀ s : State, exec .initPatrolStall s = .next (
    if s.initRuns = true ∨ s.bmc.hdmLeft ≠ [] ∨ s.isSet Fld.BMC_PATROL_EN = true then s.raise 135 0 0 else s))

/-- A CXL_MEM_ACCESS that reads a good line answers the 64 bytes that DRAM holds there, and of a bad one 64 bytes that the spec leaves open,
with poison; a write goes to DRAM and is confirmed, a poisoned one poisons the line; each is charged to class 2 and turns the page to host
bias. Outside the window, or on a stream that failed its integrity check, nothing happens (R361, R373, R375, R392, R406). -/
def Obligations.CxlMemAccessesRunTheirEffect : Prop :=
  (∀ (hpa x l : Nat) (poison : Bool) (s u v : State), s.hdmOffset hpa = some x → s.cxc.cmKeys ≠ 3 → l = (hdmBase + x) / 64 →
    u = (s.initFor l).flipBias (x / 65536) → (u.charge 2 1).readLine l (u.lineHolder l) = (v, true) →
    exec (.cxlMemAccess hpa none poison) s = .next (v.emit (.memData (64 * (hpa / 64)) (u.dramRead (64 * l) 64) false))) ∧
  (∀ (hpa x l : Nat) (poison : Bool) (s u v : State), s.hdmOffset hpa = some x → s.cxc.cmKeys ≠ 3 → l = (hdmBase + x) / 64 →
    u = (s.initFor l).flipBias (x / 65536) → (u.charge 2 1).readLine l (u.lineHolder l) = (v, false) →
    exec (.cxlMemAccess hpa none poison) s =
      .next (({ v with free := v.free + 64 } : State).emit (.memData (64 * (hpa / 64)) (v.freeBytes 64) true))) ∧
  (∀ (hpa x l : Nat) (cells : List Host.Cell) (s u : State), s.hdmOffset hpa = some x → s.cxc.cmKeys ≠ 3 → l = (hdmBase + x) / 64 →
    u = (s.initFor l).flipBias (x / 65536) →
    exec (.cxlMemAccess hpa (some cells) false) s = .next ((u.writeCells l 2 cells).emit (.memDone (64 * (hpa / 64)))) ∧
    exec (.cxlMemAccess hpa (some cells) true) s = .next ((((u.setMerge (u.bmc.merge.filter (fun e => e.line != l))).poisonLine l).charge
      2 1).emit (.memDone (64 * (hpa / 64))))) ∧
  (∀ (hpa : Nat) (write : Option (List Host.Cell)) (poison : Bool) (s : State), s.hdmOffset hpa = none ∨ s.cxc.cmKeys = 3 →
    exec (.cxlMemAccess hpa write poison) s = .next s)

/-- LINK_TRAINING after Slate step 9, PERST_N high and no loopback on the link, brings the link up with the highest width and rate both sides
offer, in CXL mode where asked at 8 GT/s or above, with the presets of its lanes, event 576 in CXL mode or on a new result and source 375
on a lower one; else it does nothing. The resets of the host record their cause and, but for a function-level reset, reset the host's
domain: a surprise loss of the link also raises source 368, and a CXL reset leaves its reset running until the window is written again.
Without a link none of these but PERST_N acts. D3HOT_ENTRY enters D3hot, and D0_RETURN lets the host's work go on (R79, R383 to R386, R411
to R415). -/
def Obligations.HostLinkEventsRunTheirEffect : Prop :=
  (∀ (width rate : Nat) (cxl : Bool) (presets : List Nat) (s : State), s.cxc.perstLow = true ∨ s.boot.slateStep < 9 ∨
    (s.tst.loop = true ∧ s.getF Fld.TST_LBCTL_IF = 0 ∧ s.getF Fld.TST_LBCTL_DEPTH ≠ 3) →
    exec (.linkTraining width rate cxl presets) s = .next s) ∧
  (∀ (width rate w r : Nat) (cxl mode : Bool) (presets : List Nat) (s a b c d e : State), s.cxc.perstLow = false → 9 ≤ s.boot.slateStep →
    s.tst.loop = false ∨ s.getF Fld.TST_LBCTL_IF ≠ 0 ∨ s.getF Fld.TST_LBCTL_DEPTH = 3 →
    a = (s.applyEntry 0x5800 1).applyEntry 0x5800 2 → w = highestOf [8, 4, 2, 1] (min width (a.getF Fld.CXC_LINKCAP_MAXWIDTH)) →
    r = highestOf [5, 4, 3, 1] (min rate (a.getF Fld.CXC_LINKCAP_MAXRATE)) → mode = (cxl && decide (3 ≤ r)) →
    b = (((a.setF Fld.CXC_LINK_LTSSM 0x18).setF Fld.CXC_LINK_UP 1).setF Fld.CXC_LINK_CXL (b2n mode)).setF Fld.CXC_LINK_CACHE (b2n mode) →
    c = ((b.setF Fld.CXC_LINK_MEM (b2n (mode && s.hdmSize != 0))).setF Fld.CXC_LINK_WIDTH w).setF Fld.CXC_LINK_RATE r →
    d = { c.stat 0x8300 1 1 with cxc := { c.cxc with
      prevLink := some (b2n mode, w, r),
      presets := if r < 3 then c.cxc.presets
        else (List.range w).map (fun i => if presets.getD i 11 ≤ 10 then presets.getD i 11 else c.cxc.presets.getD i 0) } } →
    e = (if mode = true ∨ s.cxc.prevLink ≠ some (0, w, r) then d.event 576 0 else d) →
    (s.cxc.prevLink = none → exec (.linkTraining width rate cxl presets) s = .next e) ∧
    (∀ m pw pr : Nat, s.cxc.prevLink = some (m, pw, pr) →
      exec (.linkTraining width rate cxl presets) s = .next (if w < pw ∨ r < pr then e.raise 375 0 0 else e))) ∧
  (∀ s : State, s.isSet Fld.CXC_LINK_UP = true →
    exec .surpriseLinkDown s = .next ((((s.setF Fld.PLT_RSTCAUSE_PERST 1).stat 0x8300 4 1).hostReset true).raise 368 0 0) ∧
    exec .hotReset s = .next ((s.setF Fld.PLT_RSTCAUSE_PERST 1).hostReset true) ∧
    exec .functionLevelReset s = .next ((s.setF Fld.PLT_RSTCAUSE_FLR 1).functionReset) ∧
    exec .cxlReset s = .next s.cxlReset) ∧
  (∀ s : State, s.isSet Fld.CXC_LINK_UP = false → exec .surpriseLinkDown s = .next s ∧ exec .hotReset s = .next s ∧
    exec .functionLevelReset s = .next s ∧ exec .cxlReset s = .next s) ∧
  (∀ s u : State, u = (s.setF Fld.PLT_RSTCAUSE_CXL_RESET 1).hostReset false →
    s.cxlReset = if u.bmc.hdmLeft = [] then State.cxlResetComplete { u with cxc := { u.cxc with resetRunning := true } }
      else { u with cxc := { u.cxc with resetRunning := true } }) ∧
  (∀ s : State, exec .perstNAssert s = .next (
    if s.cxc.perstLow = true then s
    else ({ s.setF Fld.PLT_RSTCAUSE_PERST 1 with cxc := { s.cxc with perstLow := true } } : State).hostReset true)) ∧
  (∀ s : State, exec .perstNDeassert s = .next { s with cxc := { s.cxc with perstLow := false } }) ∧
  (∀ s u : State, u = (if s.isSet Fld.CXC_LINK_UP = true then s.setF Fld.CXC_LINK_LTSSM 0x19 else s) →
    exec .d3hotEntry s = .next { u with cxc := { u.cxc with d3 := true } }) ∧
  (∀ s u : State, s.cxc.d3 = true → u = (if s.isSet Fld.CXC_LINK_UP = true then s.setF Fld.CXC_LINK_LTSSM 0x18 else s) →
    exec .d0Return s = .next (({ u with cxc := { u.cxc with d3 := false } } : State).hostResume)) ∧
  (∀ s : State, s.cxc.d3 = false → exec .d0Return s = .next s)

/-- CONFIG_REQUEST is answered with a retry until the part is ready and then with the bytes asked for, or does its write and is answered
with a completion; without a link it does nothing. HDM_COMMIT shows its window in the decoder's registers and takes one that fits, refuses
one that does not, and a locked decoder stays. DOORBELL_WRITE takes the TAIL of its queue and polls its mailbox, and outside the doorbells,
misaligned or without BARs changes nothing. MSIX_UNMASK sends what was pending. SPDM_REQUEST is answered on the mailbox, and a session
begins and ends by it; with a bad random number generator none begins (R64, R388 to R390, R399, R402, R427, R434, R701). -/
def Obligations.HostAccessesRunTheirEffect : Prop :=
  (∀ (off be : Nat) (write : Option Nat) (ready : Bool) (tails : List (Nat × Option Nat)) (s : State),
    s.cxc.perstLow = true ∨ s.isSet Fld.CXC_LINK_UP = false → exec (.configRequest off be write ready tails) s = .next s) ∧
  (∀ (off be : Nat) (write : Option Nat) (ready : Bool) (tails : List (Nat × Option Nat)) (s : State), s.cxc.perstLow = false →
    s.isSet Fld.CXC_LINK_UP = true → ready = false ∨ s.boot.slateStep < 9 →
    exec (.configRequest off be write ready tails) s = .next (s.emit .configRetry)) ∧
  (∀ (off be : Nat) (tails : List (Nat × Option Nat)) (s : State), s.cxc.perstLow = false → s.isSet Fld.CXC_LINK_UP = true →
    9 ≤ s.boot.slateStep → exec (.configRequest off be none true tails) s = .next (s.emit (.completion
      ((List.range 4).map (fun i => if bitOf be i then s.cfgByte (off / 4 * 4 + i) else 0))))) ∧
  (∀ (off be v : Nat) (tails : List (Nat × Option Nat)) (s u : State), s.cxc.perstLow = false → s.isSet Fld.CXC_LINK_UP = true →
    9 ≤ s.boot.slateStep →
    u = (List.range 4).foldl (fun (t : State) i => if bitOf be i then t.cfgPut (off / 4 * 4 + i) (BitVec.ofNat 8 (v / 2 ^ (8 * i)))
      else t) s →
    exec (.configRequest off be (some v) true tails) s =
      .next ((u.cfgEffect (off / 4 * 4) (fun i => bitOf be (i / 8)) v tails).emit (.completion []))) ∧
  (∀ (base size : Nat) (lock : Bool) (s : State), s.isSet Fld.CXC_HDM_LOCKED = true → exec (.hdmCommit base size lock) s = .next s) ∧
  (∀ (base size : Nat) (lock : Bool) (s u v : State), s.isSet Fld.CXC_HDM_LOCKED = false →
    u = { s with cxc := { s.cxc with hdmRegs := [base % 2 ^ 32, base / 2 ^ 32 % 2 ^ 32, size % 2 ^ 32, size / 2 ^ 32 % 2 ^ 32,
      0x200 + 0x100 * b2n lock] } } →
    v = ((u.setF Fld.CXC_HDM_ERROR 0).setF Fld.CXC_HDM_COMMITTED 1).setF Fld.CXC_HDM_SIZE (size / 268435456) →
    exec (.hdmCommit base size lock) s = .next (
      if u.hdmSize < size ∨ size < 268435456 ∨ base % 268435456 ≠ 0 ∨ size % 268435456 ≠ 0 then
        (u.setF Fld.CXC_HDM_ERROR 1).setF Fld.CXC_HDM_COMMITTED 0
      else ((v.setF Fld.CXC_HDM_LOCKED (b2n lock)).setF Fld.CXC_HDMBASE_BASE (base / 268435456)).event 579 0)) ∧
  (∀ (off width data : Nat) (mb : Option Nat) (s : State),
    s.barsOn = false ∨ 8388608 ≤ off ∨ (width ≠ 4 ∧ width ≠ 8) ∨ off % width ≠ 0 →
    exec (.doorbellWrite off width data mb) s = .next s) ∧
  (∀ (off width data : Nat) (mb : Option Nat) (s : State), s.barsOn = true → off < 8388608 → width = 4 ∨ width = 8 → off % width = 0 →
    exec (.doorbellWrite off width data mb) s = .next (
      if off % 8 = 0 then (s.takeTail (off / 8) (data % 64)).pollMailbox (off / 8) mb else s.pollMailbox (off / 8) mb)) ∧
  (∀ (q tail : Nat) (s : State), s.queue q = none → s.takeTail q tail = s) ∧
  (∀ (q tail : Nat) (x : Queue) (s : State), s.queue q = some x →
    s.takeTail q tail = if (tail + 64 - x.fetched) % 64 > 32 then
        (if x.state = 1 then (s.touchContext q).queueError x 2 tail else s.touchContext q)
      else (s.touchContext q).setQueue { x with tail := tail % 64 }) ∧
  (∀ (v : Nat) (s : State), exec (.msixUnmask v) s = .next (
    if v < 512 then ({ s with evt := { s.evt with table := putMsix s.evt.table { msixEntry s.evt.table v with masked := false } } } :
      State).flushVectors else s)) ∧
  (∀ (kind : Nat) (signed : List Byte) (s : State), s.isSet Fld.CXC_LINK_UP = false ∨ s.boot.slateStep < 9 →
    exec (.spdmRequest kind signed) s = .next s) ∧
  (∀ (signed : List Byte) (s : State), s.isSet Fld.CXC_LINK_UP = true → 9 ≤ s.boot.slateStep →
    exec (.spdmRequest 0 signed) s = .next (s.emit (.doe signed)) ∧
    exec (.spdmRequest 1 signed) s = .next (s.emit (.doe (s.measurements ++ signed))) ∧
    exec (.spdmRequest 2 signed) s = .next (
      if s.lcm.rngBad = true then s.emit (.doe []) else ({ s with cxc := { s.cxc with spdm := true } } : State).emit (.doe signed)) ∧
    exec (.spdmRequest 3 signed) s = .next (({ s with cxc := { s.cxc with spdm := false } } : State).emit (.doe [])) ∧
    exec (.spdmRequest 4 signed) s = .next (s.emit (.doe s.cdat)))

/-- IDE_KM_MESSAGE in a session keys a stream, sets it Secure with event 577 or Insecure with event 578 where its keys allow that, and
outside one does nothing. A failed integrity check makes a Secure stream fail under source 371, that of CXL.cachemem also with a fatal error
of the link, and does nothing otherwise. COMPLETION_TIMEOUT raises source 372 and POISON_RECEIVED source 374, each failing the channel it
belongs to, and poison on the cache also records the link's corrected error (R402 to R410). -/
def Obligations.LinkSecurityAndErrorsRunTheirEffect : Prop :=
  (∀ (stream action : Nat) (skid : Bool) (s : State), s.cxc.spdm = false ∨ s.isSet Fld.CXC_LINK_UP = false →
    exec (.ideKmMessage stream action skid) s = .next s) ∧
  (∀ (skid : Bool) (s : State), s.cxc.spdm = true → s.isSet Fld.CXC_LINK_UP = true →
    exec (.ideKmMessage 0 0 skid) s = .next (if s.keys 0 = 2 then s else s.setKeys 0 1) ∧
    exec (.ideKmMessage 1 0 skid) s = .next (if s.keys 1 = 2 then s else (s.setKeys 1 1).setF Fld.CXC_IDE_CM_MODE (b2n skid))) ∧
  (∀ (stream : Nat) (skid : Bool) (s : State), stream < 2 → s.cxc.spdm = true → s.isSet Fld.CXC_LINK_UP = true →
    exec (.ideKmMessage stream 1 skid) s = .next (if s.keys stream = 1 then (s.setKeys stream 2).event 577 0 else s) ∧
    exec (.ideKmMessage stream 2 skid) s = .next (if s.keys stream = 2 then (s.setKeys stream 1).event 578 0 else s)) ∧
  (∀ (stream v : Nat) (s : State), stream < 2 → (s.setKeys stream v).keys stream = v) ∧
  (∀ (flit : List Byte) (s u : State), u = (((s.setKeys 0 3).setF Fld.CXC_IDE_FAILED 1).stat 0x8300 5 1).event 578 0 →
    exec (.ideIntegrityFail 0 flit) s = .next (if s.keys 0 = 2 then u.raise 371 0 0 else s)) ∧
  (∀ (flit : List Byte) (s u : State), u = (((s.setKeys 1 3).setF Fld.CXC_IDE_FAILED 1).stat 0x8300 5 1).event 578 0 →
    exec (.ideIntegrityFail 1 flit) s = .next (
      if s.keys 1 = 2 then ((({ u with cxc := { u.cxc with rasLog := if u.cxc.rasLog.isEmpty then flit else u.cxc.rasLog } } :
        State).cxlFatal 16).raise 371 0 0) else s)) ∧
  (∀ (l : Nat) (onDst : Bool) (x : DmaData) (more : List Nat) (s : State),
    exec (.completionTimeout none l onDst x more) s = .next ((s.stat 0x8300 6 1).raise 372 0 0)) ∧
  (∀ (n l : Nat) (onDst : Bool) (x : DmaData) (more : List Nat) (s : State),
    exec (.completionTimeout (some n) l onDst x more) s = .next (((s.dmaFails n l onDst 0 x more).stat 0x8300 6 1).raise 372 0 0)) ∧
  (∀ (cache : Bool) (l : Nat) (onDst : Bool) (x : DmaData) (more : List Nat) (s u : State),
    u = (if cache then { s with cxc := { s.cxc with rasCorr := s.cxc.rasCorr ||| 16 } } else s) →
    exec (.poisonReceived cache none l onDst x more) s = .next (u.raise 374 0 0) ∧
    ∀ n, exec (.poisonReceived cache (some n) l onDst x more) s = .next ((u.dmaFails n l onDst 1 x more).raise 374 0 0))

/-- HCC_DISABLE begins a walk that writes every dirty line back; HCC_ENABLE after the walk lets the cache work again and reads the armed
mailboxes. HCC_WALK_OVERTIME raises source 164 once per walk. HOST_SNOOP answers by the state of the line: on its way out with its bytes,
not held, held clean or dirty, poisoned after a parity error, and an invalidating one takes the line away and reads a placed mailbox again.
WRITEBACK_GO writes a line that is on its way; UNPLACED_MAILBOX_POLL reads a mailbox that is not placed and takes the TAIL read;
MAILBOX_SNOOP takes the mailbox's line away or reads it again; HCC_PARITY_SWEEP takes its errors in order. A cache that failed answers
nothing (R502 to R513). -/
def Obligations.CoherentCacheEventsRunTheirEffect : Prop :=
  (∀ s u : State, u = (s.setDisableCaching true).setF Fld.HCC_STATUS_WALK 1 →
    exec .hccDisable s = .next (
      if s.hccOn = false ∨ s.isSet Fld.HCC_STATUS_WALK = true then s
      else (u.hcc.dirty.foldl (fun (t : State) l => t.hccWriteback l.line) u).walkEnds)) ∧
  (∀ (tails : List (Nat × Option Nat)) (s u : State),
    u = ((s.setF Fld.HCC_STATUS_DISABLED 0).setCacheInvalid false).setDisableCaching false →
    exec (.hccEnable tails) s = .next (
      if s.isSet Fld.HCC_STATUS_DISABLED = true then
        (tails.filter (fun p => ((u.qmg.queues.filter (fun q => q.mailbox.isSome)).map (·.qid)).contains p.1)).foldl
          (fun (t : State) p => t.mailboxTail p.1 p.2) u.readMailboxes
      else s)) ∧
  (∀ s : State, exec .hccWalkOvertime s = .next (
    if s.isSet Fld.HCC_STATUS_WALK = true ∧ s.hcc.walkOver = false then
      ({ s with hcc := { s.hcc with walkOver := true } } : State).raise 164 0 0 else s)) ∧
  (∀ (addr : Nat) (inv : Bool) (old : List Byte) (tail : Option Nat) (s : State), s.cacheFailed = true →
    exec (.hostSnoop addr inv old tail) s = .next s) ∧
  (∀ (addr : Nat) (inv : Bool) (old : List Byte) (tail : Option Nat) (l : HLine) (s : State), s.cacheFailed = false →
    s.hcc.evict.find? (fun l => l.line == addr / 64) = some l →
    exec (.hostSnoop addr inv old tail) s = .next (
      if l.bad then s.emit (.snoopRsp (if inv then rspIFwdMPoison else rspSFwdMPoison) (64 * (addr / 64)) [])
      else s.emit (.snoopRsp (if inv then rspIFwdM else rspSFwdM) (64 * (addr / 64)) (l.bytes old)))) ∧
  (∀ (addr : Nat) (inv : Bool) (old : List Byte) (tail : Option Nat) (s : State), s.cacheFailed = false →
    s.hcc.evict.find? (fun l => l.line == addr / 64) = none → s.hcc.find (addr / 64) = none →
    exec (.hostSnoop addr inv old tail) s = .next (s.emit (.snoopRsp rspIHitI (64 * (addr / 64)) []))) ∧
  (∀ (addr : Nat) (old : List Byte) (tail : Option Nat) (l : HLine) (s : State), s.cacheFailed = false →
    s.hcc.evict.find? (fun l => l.line == addr / 64) = none → s.hcc.find (addr / 64) = some l →
    (l.bad = true → ∀ inv, exec (.hostSnoop addr inv old tail) s =
      .next (s.emit (.snoopRsp (if inv then rspIFwdMPoison else rspSFwdMPoison) (64 * (addr / 64)) []))) ∧
    (l.bad = false → l.st = 2 → exec (.hostSnoop addr false old tail) s = .next
      ((({ s with hcc := s.hcc.put { l with st := 0, writes := [] } } : State).emit
        (.snoopRsp rspSFwdM (64 * (addr / 64)) (l.bytes old))).hccCount).walkEnds) ∧
    (l.bad = false → l.st ≠ 2 → exec (.hostSnoop addr false old tail) s = .next
      (({ s with hcc := s.hcc.put { l with st := 0 } } : State).emit (.snoopRsp rspSHitSE (64 * (addr / 64)) [])))) ∧
  (∀ (addr : Nat) (old : List Byte) (tail : Option Nat) (l : HLine) (s u : State), s.cacheFailed = false →
    s.hcc.evict.find? (fun l => l.line == addr / 64) = none → s.hcc.find (addr / 64) = some l → l.bad = false →
    u = (({ s with hcc := s.hcc.drop (addr / 64) } : State).emit (.snoopRsp (if l.st = 2 then rspIFwdM else rspIHitSE) (64 * (addr / 64))
      (if l.st = 2 then l.bytes old else []))).hccCount →
    (l.kind ≠ 0 → exec (.hostSnoop addr true old tail) s = .next u.walkEnds) ∧
    (l.kind = 0 → (u.stat 0x8330 3 1).mailboxOf (addr / 64) = none →
      exec (.hostSnoop addr true old tail) s = .next (u.stat 0x8330 3 1)) ∧
    (l.kind = 0 → ∀ q, (u.stat 0x8330 3 1).mailboxOf (addr / 64) = some q →
      exec (.hostSnoop addr true old tail) s = .next ((u.stat 0x8330 3 1).rereadMailbox q tail))) ∧
  (∀ (addr : Nat) (l : HLine) (s u : State), s.cacheFailed = false → s.hcc.evict.find? (fun l => l.line == addr / 64) = some l →
    u = l.writes.foldl (fun (t : State) w => t.emit (.hostWrite (64 * (addr / 64) + w.1) w.2))
      { s with hcc := { s.hcc with evict := s.hcc.evict.filter (fun x => x.line != addr / 64) } } →
    (u.hcc.evictWait = [] → exec (.writebackGo addr) s = .next (((u.reissue).readMailboxes).walkEnds)) ∧
    (∀ (w : Nat) (rest : List Nat), u.hcc.evictWait = w :: rest → exec (.writebackGo addr) s = .next
      ((((({ u with hcc := { u.hcc with evictWait := rest } } : State).hccWriteback w).reissue).readMailboxes).walkEnds))) ∧
  (∀ (addr : Nat) (s : State), s.hcc.evict.find? (fun l => l.line == addr / 64) = none ∨ s.cacheFailed = true →
    exec (.writebackGo addr) s = .next s) ∧
  (∀ (qid a : Nat) (tail : Option Nat) (q : Queue) (s : State), s.queue qid = some q → q.mailbox = some a →
    exec (.unplacedMailboxPoll qid tail) s = .next (
      if q.unplaced = true ∧ s.hccOn = true ∧ s.cacheFailed = false ∧ s.isSet Fld.HCC_STATUS_WALK = false then
        (s.emit (.cacheReq opRdCurr a)).mailboxTail qid tail else s)) ∧
  (∀ (qid : Nat) (tail : Option Nat) (s : State), (∀ q, s.queue qid = some q → q.mailbox = none) →
    exec (.unplacedMailboxPoll qid tail) s = .next s ∧ exec (.mailboxSnoop qid tail) s = .next s) ∧
  (∀ (qid a : Nat) (tail : Option Nat) (q : Queue) (s : State), s.queue qid = some q → q.mailbox = some a →
    exec (.mailboxSnoop qid tail) s = .next (
      if s.cacheFailed = true then s else if (s.hcc.find (a / 64)).isSome then s.snoop a true [] tail else s.rereadMailbox q tail)) ∧
  (∀ (q : Queue) (tail : Option Nat) (a : Nat) (s : State), q.mailbox = some a →
    s.rereadMailbox q tail = if s.hccOn = false ∨ s.isSet Fld.HCC_STATUS_WALK = true then s
      else if q.unplaced = true ∨ (s.hcc.find (a / 64)).isSome = true then s.mailboxTail q.qid tail
      else (s.placeMailbox q a).mailboxTail q.qid tail) ∧
  (∀ (set : Nat) (s : State), exec (.hccParitySweep set []) s = .next s.walkEnds) ∧
  (∀ (set : Nat) (e : Nat × Nat × Nat) (rest : List (Nat × Nat × Nat)) (s : State),
    exec (.hccParitySweep set (e :: rest)) s = exec (.hccParitySweep set rest) (s.parityError set e.1 e.2.1 e.2.2))
/-- ADMIN_QUEUE_ENABLE after Slate step 9 creates queue 0 with its ring and sets RDY where its memory fits, and else a setup error;
ADMIN_QUEUE_DISABLE clears both bits and resets queue 0. ENTRY_ACCEPT takes the entry of the queue that is due, or puts that queue in error
for an entry it cannot read or a TAG outstanding, and without a queue that is due changes nothing. HEAD_WORD_REREAD takes a ring's head
word and lets its waiting completions go, a ring still full counts once, a word it cannot read raises source 374, and where nothing waits or
the host cannot be reached it changes nothing; RING_FULL_TIMEOUT of a full ring raises source 178; COALESCING_TIMEOUT sends the group's
vector when entries are uncounted (R422, R432 to R440, R500). -/
def Obligations.QueueServiceRunsItsEffect : Prop :=
  (∀ s : State, s.boot.slateStep < 9 ∨ s.isSet Fld.QMG_ACTL_EN = true → exec .adminQueueEnable s = .next s) ∧
  (∀ s u : State, 9 ≤ s.boot.slateStep → s.isSet Fld.QMG_ACTL_EN = false → u = (s.setF Fld.QMG_ACTL_EN 1).setF Fld.QMG_ACTL_SETUPERR 0 →
    exec .adminQueueEnable s = .next (
      if (u.queue 0).isSome then u
      else if u.adminFits = true then
        (((u.setRing (newRing 0 u.acrBase (2 ^ u.getF Fld.QMG_ACRCFG_DEPTHLOG) u.acrHead (u.getF Fld.QMG_ACRCFG_GROUP)
          (u.getF Fld.QMG_ACRCFG_CTHRESH) (u.getF Fld.QMG_ACRCFG_CTIME))).setQueue (newQueue 0 u.asqBase 0 1)).holdContext 0 0).setF
            Fld.QMG_ACTL_RDY 1
      else (u.setF Fld.QMG_ACTL_EN 0).setF Fld.QMG_ACTL_SETUPERR 1)) ∧
  (∀ (entries : List (Option (List Byte))) (s : State), s.isSet Fld.QMG_ACTL_EN = false →
    exec (.adminQueueDisable entries) s = .next s) ∧
  (∀ (entries : List (Option (List Byte))) (s u : State), s.isSet Fld.QMG_ACTL_EN = true →
    u = (s.setF Fld.QMG_ACTL_EN 0).setF Fld.QMG_ACTL_RDY 0 →
    (u.queue 0 = none → exec (.adminQueueDisable entries) s = .next u) ∧
    (∀ q, u.queue 0 = some q → exec (.adminQueueDisable entries) s = .next (u.resetQueue q entries).settled)) ∧
  (∀ (entry : Option (List Byte)) (head : Option Nat) (s : State), s.dueQueue = none →
    exec (.entryAccept entry head) s = .next s) ∧
  (∀ (head : Option Nat) (q : Queue) (s : State), s.dueQueue = some q → exec (.entryAccept none head) s = .next
    ((((s.touchContext q.qid).fetchLine (q.base + 64 * (q.fetched % 32))).queueError q 3 q.fetched).settled)) ∧
  (∀ (b : List Byte) (head : Option Nat) (q : Queue) (s u : State), s.dueQueue = some q →
    u = ((s.touchContext q.qid).fetchLine (q.base + 64 * (q.fetched % 32))).rereadFor q (entTag (slice b 0 64)) head →
    (u.queue q.qid = none → exec (.entryAccept (some b) head) s = .next u) ∧
    (∀ p, u.queue q.qid = some p → exec (.entryAccept (some b) head) s = .next (
      if u.tagOutstanding p (entTag (slice b 0 64)) = true then (u.queueError p 1 p.fetched).settled
      else (u.acceptEntry p (slice b 0 64)).settled))) ∧
  (∀ (ring head : Option Nat) (s : State), s.canWriteHost = false → exec (.headWordReread ring head) s = .next s) ∧
  (∀ (ring : Option Nat) (s : State), s.canWriteHost = true → exec (.headWordReread ring none) s = .next (s.raise 374 0 0)) ∧
  (∀ (h : Nat) (s : State), s.canWriteHost = true → exec (.headWordReread none (some h)) s =
    .next { s with evt := { s.evt with head := if s.evt.ringDepth = 0 then s.evt.head else h % 65536 } }) ∧
  (∀ (id h : Nat) (s : State), s.canWriteHost = true → (∀ r, s.cring id = some r → r.waiting = []) →
    exec (.headWordReread (some id) (some h)) s = .next s) ∧
  (∀ (id h : Nat) (r r1 : CRing) (s u : State), s.canWriteHost = true → s.cring id = some r → r.waiting ≠ [] →
    u = (s.hccRead 1 r.headAddr false).takeHead id h → u.cring id = some r1 →
    exec (.headWordReread (some id) (some h)) s = .next (
      if r1.space = 0 ∧ r1.waiting ≠ [] ∧ r1.full = false then ((u.setRing { r1 with full := true }).stat 0x8310 5 1).settled
      else u.settled)) ∧
  (∀ (id : Nat) (s : State), s.cring id = none → exec (.ringFullTimeout id) s = .next s) ∧
  (∀ (id : Nat) (r : CRing) (s : State), s.cring id = some r →
    exec (.ringFullTimeout id) s = .next (if r.full = true ∧ r.space = 0 then s.raise 178 0 0 else s)) ∧
  (∀ (g : Nat) (s : State), exec (.coalescingTimeout g) s = .next (
    if s.qmg.crings.any (fun r => r.group == g && r.uncounted != 0 && r.cthresh != 0 && r.ctime != 0) = true ∨
        (s.evt.group = g ∧ s.evt.ringDepth ≠ 0 ∧ s.evt.uncounted ≠ 0 ∧ s.evt.cthresh ≠ 0 ∧ s.evt.ctime ≠ 0) then s.groupEvent g
    else s))

/-- CREATE_QUEUE, DELETE_QUEUE, RESET_QUEUE, CREATE_CRING, DELETE_CRING, ARM, DISARM and EVENT_RING_SETUP that wait in queue 0: a failed check
completes with its status, and else a new queue or ring with the entry's parameters, the queue's reset under way, the ring gone, the mailbox
placed or given up, the event ring in force or off, each with the status of what stands in its way; a command that does not wait in queue 0
changes nothing (R417, R418, R431, R451 to R456, R494). -/
def Obligations.QueueCommandsRunTheirEffect : Prop :=
  (∀ (t : Nat) (entries : List (Option (List Byte))) (old new : Option Nat) (s : State),
    (s.adminCommand t 2 = none → exec (.createQueue t) s = .next s) ∧ (s.adminCommand t 3 = none → exec (.deleteQueue t entries) s = .next s) ∧
    (s.adminCommand t 4 = none → exec (.resetQueue t entries) s = .next s) ∧ (s.adminCommand t 5 = none → exec (.createCring t) s = .next s) ∧
    (s.adminCommand t 6 = none → exec (.deleteCring t) s = .next s) ∧ (s.adminCommand t 7 = none → exec (.arm t old new) s = .next s) ∧
    (s.adminCommand t 8 = none → exec (.disarm t new) s = .next s) ∧ (s.adminCommand t 0xE = none → exec (.eventRingSetup t) s = .next s)) ∧
  (∀ (t st r : Nat) (x : Slot) (s u : State), s.adminCommand t 2 = some x →
    st = s.adminCheck x.entry noHost (onlyBytes x.entry 4 18 && qidFits x.entry && numAt x.entry 8 8 % 2048 = 0 && numAt x.entry 18 1 ≤ 32)
      [0] (fun _ => true) → s.createQueue x.entry = (u, r) →
    exec (.createQueue t) s = .next (if st = 0 then (u.endWith x r).settled else (s.endWith x st).settled)) ∧
  (∀ (s : State) (e : List Byte), s.createQueue e =
    if s.ownSpace (numAt e 8 8) 2048 = true then (s, St.bufferAddress) else if entQid e = 0 then (s, St.qInvalidId)
    else if (s.queue (entQid e)).isSome then (s, St.qExists)
    else if numAt e 16 2 = 0 ∨ s.cring (numAt e 16 2) = none then (s, St.qCringInvalid)
    else ((s.setQueue (newQueue (entQid e) (numAt e 8 8) (numAt e 16 2) (if numAt e 18 1 = 0 then s.dictNum 0x5100 2
      else numAt e 18 1))).holdContext (entQid e) 0, St.success)) ∧
  (∀ (t op st : Nat) (entries : List (Option (List Byte))) (x : Slot) (s : State), op = 3 ∨ op = 4 → s.adminCommand t op = some x →
    st = s.adminCheck x.entry noHost (onlyBytes x.entry 4 7 && qidFits x.entry) [0] (fun _ => true) →
    (st ≠ 0 → exec (if op = 3 then .deleteQueue t entries else .resetQueue t entries) s = .next (s.endWith x st).settled) ∧
    (st = 0 → s.queue (entQid x.entry) = none → exec (if op = 3 then .deleteQueue t entries else .resetQueue t entries) s =
      .next (s.endWith x St.qInvalidId).settled) ∧
    (st = 0 → ∀ q, s.queue (entQid x.entry) = some q → exec (if op = 3 then .deleteQueue t entries else .resetQueue t entries) s = .next (
      if q.qid = 0 then (s.endWith x St.qInvalidId).settled else if q.state = 3 then (s.endWith x St.qBusy).settled
      else ((s.setSlot { x with stage := 3 }).resetQueue q entries).settled))) ∧
  (∀ (t st r : Nat) (x : Slot) (s u : State), s.adminCommand t 5 = some x →
    st = s.adminCheck x.entry noHost (onlyBytes x.entry 4 25 && 4 ≤ entDepthlog x.entry && entDepthlog x.entry ≤ 12 &&
      numAt x.entry 8 8 % 64 = 0 && numAt x.entry 16 8 % 4 = 0) [0] (fun _ => true) → s.createCring x.entry = (u, r) →
    exec (.createCring t) s = .next (if st = 0 then (u.endWith x r).settled else (s.endWith x st).settled)) ∧
  (∀ (s : State) (e : List Byte), s.createCring e =
    if s.ringFits (numAt e 8 8) (2 ^ entDepthlog e) (numAt e 16 8) 16 = false then (s, St.bufferAddress)
    else if numAt e 4 2 = 0 then (s, St.qInvalidId) else if (s.cring (numAt e 4 2)).isSome then (s, St.qExists)
    else (s.setRing (newRing (numAt e 4 2) (numAt e 8 8) (2 ^ entDepthlog e) (numAt e 16 8) (numAt e 7 1) (numAt e 24 1)
      (numAt e 25 1)), St.success)) ∧
  (∀ (t st r : Nat) (x : Slot) (s u : State), s.adminCommand t 6 = some x →
    st = s.adminCheck x.entry noHost (onlyBytes x.entry 4 5) [0] (fun _ => true) → s.deleteCring (numAt x.entry 4 2) = (u, r) →
    exec (.deleteCring t) s = .next (if st = 0 then (u.endWith x r).settled else (s.endWith x st).settled)) ∧
  (∀ (s : State) (id : Nat), s.deleteCring id =
    if id = 0 ∨ s.cring id = none then (s, St.qInvalidId)
    else if s.qmg.queues.any (fun q => q.cring == id) = true then (s, St.qCringInUse)
    else ({ s with qmg := { s.qmg with crings := s.qmg.crings.filter (fun r => r.id != id) } }, St.success)) ∧
  (∀ (t st r : Nat) (old new : Option Nat) (x : Slot) (s u : State), s.adminCommand t 7 = some x →
    st = s.adminCheck x.entry noHost (onlyBytes x.entry 4 15 && qidFits x.entry && numAt x.entry 8 8 % 64 = 0) [0] (fun _ => true) →
    s.arm x.entry old new = (u, r) →
    exec (.arm t old new) s = .next (if st = 0 then (u.endWith x r).settled else (s.endWith x st).settled)) ∧
  (∀ (s : State) (e : List Byte) (old new : Option Nat),
    (s.ownSpace (numAt e 8 8) 64 = true → s.arm e old new = (s, St.bufferAddress)) ∧
    (s.ownSpace (numAt e 8 8) 64 = false → entQid e = 0 → s.arm e old new = (s, St.qArmRefused)) ∧
    (s.ownSpace (numAt e 8 8) 64 = false → entQid e ≠ 0 → s.queue (entQid e) = none → s.arm e old new = (s, St.qInvalidId)) ∧
    (s.ownSpace (numAt e 8 8) 64 = false → entQid e ≠ 0 → ∀ q, s.queue (entQid e) = some q →
      (s.armRefused q = true → s.arm e old new = (s, St.qArmRefused)) ∧
      (s.armRefused q = false → ∀ (q1 : Queue) (u : State), (s.leaveMailbox q old).queue (entQid e) = some q1 →
        u = (s.leaveMailbox q old).placeMailbox q1 (numAt e 8 8) →
        s.arm e old new = ((u.setF Fld.QMG_CTXCACHE_ARMED u.armedCount).mailboxTail (entQid e) new, St.success)))) ∧
  (∀ (t st : Nat) (tail : Option Nat) (x : Slot) (s : State), s.adminCommand t 8 = some x →
    st = s.adminCheck x.entry noHost (onlyBytes x.entry 4 7 && qidFits x.entry) [0] (fun _ => true) →
    (st ≠ 0 → exec (.disarm t tail) s = .next (s.endWith x st).settled) ∧
    (st = 0 → s.queue (entQid x.entry) = none → exec (.disarm t tail) s = .next (s.endWith x St.qInvalidId).settled) ∧
    (st = 0 → ∀ q, s.queue (entQid x.entry) = some q → exec (.disarm t tail) s = .next (
      if q.qid = 0 then (s.endWith x St.qInvalidId).settled else ((s.leaveMailbox q tail).endWith x St.success).settled))) ∧
  (∀ (t st r : Nat) (x : Slot) (s u : State), s.adminCommand t 0xE = some x →
    st = s.adminCheck x.entry noHost (onlyBytes x.entry 6 25 && (entDepthlog x.entry = 0 || (6 ≤ entDepthlog x.entry &&
      entDepthlog x.entry ≤ 12 && numAt x.entry 8 8 % 64 = 0 && numAt x.entry 16 8 % 4 = 0))) [0] (fun _ => true) →
    s.eventRing x.entry = (u, r) →
    exec (.eventRingSetup t) s = .next (if st = 0 then (u.endWith x r).settled else (s.endWith x st).settled)) ∧
  (∀ (s : State) (e : List Byte),
    (entDepthlog e = 0 → s.eventRing e = ({ s with evt := { s.evt with ringDepth := 0, uncounted := 0 } }, St.success)) ∧
    (entDepthlog e ≠ 0 → s.ringFits (numAt e 8 8) (2 ^ entDepthlog e) (numAt e 16 8) 32 = false →
      s.eventRing e = (s, St.bufferAddress)) ∧
    (entDepthlog e ≠ 0 → s.ringFits (numAt e 8 8) (2 ^ entDepthlog e) (numAt e 16 8) 32 = true →
      s.eventRing e = ({ s with evt := { s.evt with
        ringBase := numAt e 8 8, ringDepth := 2 ^ entDepthlog e, headAddr := numAt e 16 8,
        group := numAt e 7 1, cthresh := numAt e 24 1, ctime := numAt e 25 1, posted := 0, head := 0, uncounted := 0 } }, St.success)))

/-- For commands that wait in queue 0: a failed check, a transfer that fails and a poisoned buffer complete with their status. IDENTIFY
writes the identity record and DICT_READ the entry's value; DICT_WRITE writes the entry and then starts what the write asks for. FW_DOWNLOAD
writes its part of the image; FW_COMMIT and FW_COMMIT_TRIAL write the commit record of the image that was downloaded and report it, the
trial with the bank pending for the next start, FW_COMMIT_BOOT_LOADER both copies of the boot loader; FW_ACTIVATE begins an activation in
stage 3 when none runs. A command that does not wait changes nothing (R454, R455, R495, R496, R645, R646). -/
def Obligations.AdminCommandsRunTheirEffect : Prop :=
  (∀ (t : Nat) (h : HostData) (a : ActIn) (fail : Option (Nat × Bool)) (v ok : Bool) (s : State),
    (s.adminCommand t 1 = none → exec (.identify t h) s = .next s) ∧ (s.adminCommand t 0xC = none → exec (.dictRead t h) s = .next s) ∧
    (s.adminCommand t 0xD = none → exec (.dictWrite t h a) s = .next s) ∧
    (s.adminCommand t 9 = none → exec (.fwDownload t h fail) s = .next s) ∧
    (s.commitCommand t (fun a => a != 1 && a != 2) = none → exec (.fwCommit t v ok) s = .next s) ∧
    (s.commitCommand t (fun a => a == 1) = none → exec (.fwCommitTrial t v ok) s = .next s) ∧
    (s.commitCommand t (fun a => a == 2) = none → exec (.fwCommitBootLoader t v) s = .next s) ∧
    (s.adminCommand t 0xB = none → exec (.fwActivate t) s = .next s)) ∧
  (∀ (t st : Nat) (h : HostData) (x : Slot) (s : State), s.adminCommand t 1 = some x →
    st = s.adminCheck x.entry h (entZero x.entry 4 44) [1, 2, 3] (fun n => n = 4096) →
    exec (.identify t h) s = .next (
      if st ≠ 0 then (s.endWith x st).settled
      else if s.transferOk (bufferPieces x.entry h) h = false then (s.endWith x St.transferError).settled
      else (((s.writeBuffer 0 (bufferPieces x.entry h) s.identity).charge 0 64).endWith x St.success).settled)) ∧
  (∀ (t st r : Nat) (h : HostData) (v : List Byte) (x : Slot) (s : State), s.adminCommand t 0xC = some x →
    st = s.adminCheck x.entry h (onlyBytes x.entry 4 6) [0, 1, 2, 3] (fun _ => true) →
    s.dictRead (entIndex x.entry) (entSub x.entry) = (r, v) →
    exec (.dictRead t h) s = .next (
      if st ≠ 0 then (s.endWith x st).settled
      else if r ≠ Dr.ok then (s.endWith x (dictStatus r)).settled
      else if entBufkind x.entry ≠ 0 ∧ entBufLen x.entry < v.length then (s.endWith x St.bufferLength).settled
      else if s.transferOk (bufferPieces x.entry h) h = false then (s.endWith x St.transferError).settled
      else ((s.writeBuffer 0 (bufferPieces x.entry h) v).complete x.qid x.tag St.success
        (if v.length ≤ 8 then leNat v else v.length)).settled)) ∧
  (∀ (t st r : Nat) (h : HostData) (a : ActIn) (x : Slot) (s v u w : State), s.adminCommand t 0xD = some x →
    st = s.adminCheck x.entry h (if entBufkind x.entry = 0 then onlyBytes x.entry 4 15 && 1 ≤ numAt x.entry 7 1 && numAt x.entry 7 1 ≤ 8
      else onlyBytes x.entry 4 6) [0, 1, 2, 3] (fun _ => true) →
    v = s.obtainPieces (bufferPieces x.entry h) h.held →
    v.dictWrite false (entIndex x.entry) (entSub x.entry) (v.dictValue x.entry h) a = (u, r) →
    w = (u.endWith x (dictStatus r)).settleResets →
    exec (.dictWrite t h a) s = .next (
      if st ≠ 0 then (s.endWith x st).settled
      else if s.transferOk (bufferPieces x.entry h) h = false then (s.endWith x St.transferError).settled
      else if v.bufferPoisoned (bufferPieces x.entry h) = true then (v.endWith x St.intPoison).settled
      else if r = Dr.ok then w.dictAfter (entIndex x.entry) (entSub x.entry) (v.dictValue x.entry h) a else w)) ∧
  (∀ (t st r : Nat) (h : HostData) (fail : Option (Nat × Bool)) (x : Slot) (s v u : State), s.adminCommand t 9 = some x →
    st = s.adminCheck x.entry h (onlyBytes x.entry 4 7 && numAt x.entry 4 4 % 4096 = 0) [1, 2, 3]
      (fun n => n != 0 && n % 4096 = 0 && n ≤ 1048576) →
    v = s.obtainPieces (bufferPieces x.entry h) h.held →
    v.fwDownload (numAt x.entry 4 4) (slice (v.readBuffer (bufferPieces x.entry h) h.data) 0 (entBufLen x.entry)) fail = (u, r) →
    exec (.fwDownload t h fail) s = .next (
      if st ≠ 0 then (s.endWith x st).settled
      else if s.transferOk (bufferPieces x.entry h) h = false then (s.endWith x St.transferError).settled
      else if v.bufferPoisoned (bufferPieces x.entry h) = true then (v.endWith x St.intPoison).settled
      else (u.endWith x r).settled)) ∧
  (∀ (t st : Nat) (v ok : Bool) (x : Slot) (s : State), s.commitCommand t (fun a => a != 1 && a != 2) = some x →
    st = s.adminCheck x.entry noHost (commitFields x.entry) [0] (fun _ => true) →
    exec (.fwCommit t v ok) s = .next (if st ≠ 0 then (s.endWith x st).settled else (s.fwCommit x 0 v ok).settled)) ∧
  (∀ (t st : Nat) (v ok : Bool) (x : Slot) (s : State), s.commitCommand t (fun a => a == 1) = some x →
    st = s.adminCheck x.entry noHost (commitFields x.entry) [0] (fun _ => true) →
    exec (.fwCommitTrial t v ok) s = .next (if st ≠ 0 then (s.endWith x st).settled else (s.fwCommit x 1 v ok).settled)) ∧
  (∀ (act : Nat) (v ok : Bool) (x : Slot) (s : State), s.downloaded = none →
    s.fwCommit x act v ok = s.endWith x (s.commitStatus act v)) ∧
  (∀ (act : Nat) (v ok good : Bool) (x : Slot) (i : Image) (s u w : State), s.downloaded = some i → s.writeCommit i ok = (u, good) →
    w = (if act = 1 then u.setBootRec { u.nvc.boot with pending := u.downloadBank } else u) →
    s.fwCommit x act v ok = if s.commitStatus act v ≠ 0 then s.endWith x (s.commitStatus act v)
      else if good = false then u.endWith x St.fwOffset
      else (w.event 520 (s.commitResult i)).complete x.qid x.tag St.success (s.commitResult i)) ∧
  (∀ (t st : Nat) (v : Bool) (x : Slot) (s : State), s.commitCommand t (fun a => a == 2) = some x →
    st = s.adminCheck x.entry noHost (commitFields x.entry) [0] (fun _ => true) →
    (st ≠ 0 → exec (.fwCommitBootLoader t v) s = .next (s.endWith x st).settled) ∧
    (st = 0 → s.downloaded = none ∨ s.commitStatus 2 v ≠ 0 →
      exec (.fwCommitBootLoader t v) s = .next (s.endWith x (s.commitStatus 2 v)).settled) ∧
    (st = 0 → s.commitStatus 2 v = 0 → ∀ (i : Image) (u : State), s.downloaded = some i →
      u = (s.writeLoader 0 (s.imageBytes s.downloadBank i.length)).writeLoader 8 (s.imageBytes s.downloadBank i.length) →
      exec (.fwCommitBootLoader t v) s = .next ((({ u with nvc := { u.nvc with bootLoaderSvn := i.svn } } : State).event 523 0).complete
        x.qid x.tag St.success (s.commitResult i)).settled)) ∧
  (∀ (t st : Nat) (x : Slot) (s u : State), s.adminCommand t 0xB = some x →
    st = s.adminCheck x.entry noHost (entZero x.entry 4 44) [0] (fun _ => true) → u = s.setSlot { x with stage := 2 } →
    exec (.fwActivate t) s = .next (
      if st ≠ 0 then (s.endWith x st).settled else if s.stage ≠ 3 then (s.endWith x St.notReady).settled
      else if s.qmg.activation.isSome then (s.endWith x St.qBusy).settled
      else { u with qmg := { u.qmg with activation := some ⟨0, t, x.order, 1, 0⟩ } }))

/-- ACTIVATION_FETCH_STOP stops fetching once what was accepted before the activation is durable, and ACTIVATION_SWITCH switches the images
once the commands have ended or a second has passed, and completes the command with the result of the switch; in any other step and without
an activation they do nothing. TRIAL_CONFIRM makes the bank of a trial that runs the active one, raises the floor to its version and reports
it, and without such a trial changes nothing. ABORT waits for the notified entries of its target queue, and ABORT_RESOLVE looks for the
target, aborts it, waits for it to end where it cannot be aborted any more, or finds it too late or not at all (R449, R454, R648, R650). -/
def Obligations.ActivationsRunTheirEffect : Prop :=
  (∀ s : State, s.qmg.activation = none → exec .activationFetchStop s = .next s ∧ exec .activationSwitch s = .next s) ∧
  (∀ (a : Activation) (s u : State), s.qmg.activation = some a → u = (s.flushed.setF Fld.QMG_STATUS_ACTSTOP 1).event 513 0 →
    exec .activationFetchStop s = .next (
      if a.step ≠ 1 ∨ s.flushOutcome a.order = none then s
      else ({ u with qmg := { u.qmg with activation := some { a with step := 2, stopUs := u.pwr.timeUs } } } : State).migSuspend)) ∧
  (∀ (a : Activation) (s : State), s.qmg.activation = some a → a.step ≠ 2 ∨ s.activationReady a = false →
    exec .activationSwitch s = .next s) ∧
  (∀ (a : Activation) (found : Bool) (s u v : State), s.qmg.activation = some a → a.step = 2 → s.activationReady a = true →
    found = (match s.imageOf s.downloadBank with | some i => i.kind == 0 | none => false) →
    u = s.flushed.switchImages.setF Fld.QMG_STATUS_ACTSTOP 0 →
    v = ({ u with qmg := { u.qmg with activation := none } } : State).migResume →
    exec .activationSwitch s = .next ((v.event 514 ((v.pwr.timeUs - a.stopUs) % 2 ^ 32)).complete 0 a.tag
      (if found then St.success else St.fwNoImage) 0).settled) ∧
  (∀ s : State, exec .trialConfirm s = .next (
    if s.boot.slateDone = true ∧ s.nvc.boot.trial ≠ 0 ∧ s.nvc.running = s.nvc.boot.trial ∧ s.nvc.disqualified = false then
      (s.setBootRec ⟨s.nvc.boot.trial, 0, s.nvc.boot.pending, 0,
        max s.nvc.boot.floor (((s.imageOf s.nvc.boot.trial).map (·.svn)).getD 0)⟩).event 521 0
    else s)) ∧
  (∀ (q t : Nat) (s : State), s.slot q t = none → exec (.abort q t) s = .next s ∧ exec (.abortResolve q t) s = .next s) ∧
  (∀ (q t st : Nat) (x : Slot) (s : State), s.slot q t = some x →
    st = s.adminCheck x.entry noHost (onlyBytes x.entry 32 36 && abortQid x.entry < 2 ^ 20 && abortTag x.entry < 32) [0]
      (fun _ => true) →
    exec (.abort q t) s = .next (
      if entOpcode x.entry ≠ 0x4A ∨ x.stage ≠ 0 then s else if st ≠ 0 then (s.endWith x st).settled
      else if q ≠ 0 ∧ s.boot.abandoned = true then (s.endWith x St.notReady).settled else s.setSlot { x with stage := 3 })) ∧
  (∀ (q t : Nat) (x : Slot) (s : State), s.slot q t = some x →
    exec (.abortResolve q t) s = .next (
      if entOpcode x.entry ≠ 0x4A ∨ x.stage ≠ 3 then s else if x.failed = 0 then (s.abortResolve x).settled
      else (s.abortEnds x).settled)) ∧
  (∀ (x : Slot) (s : State), s.queue (abortQid x.entry) = none → s.abortResolve x = s.endWith x St.abortNotFound) ∧
  (∀ (x : Slot) (p : Queue) (s : State), s.queue (abortQid x.entry) = some p →
    (p.notified = true → s.abortResolve x = s) ∧
    (p.notified = false → abortQid x.entry = x.qid → abortTag x.entry = x.tag → s.abortResolve x = s.endWith x St.abortNotFound) ∧
    (p.notified = false → abortQid x.entry ≠ x.qid ∨ abortTag x.entry ≠ x.tag → s.slot (abortQid x.entry) (abortTag x.entry) = none →
      s.abortResolve x = s.endWith x (if p.completed.contains (abortTag x.entry) then St.abortTooLate else St.abortNotFound))) ∧
  (∀ (x y : Slot) (p : Queue) (s : State), s.queue (abortQid x.entry) = some p → p.notified = false →
    abortQid x.entry ≠ x.qid ∨ abortTag x.entry ≠ x.tag → s.slot (abortQid x.entry) (abortTag x.entry) = some y →
    (entOpcode y.entry = 0x4A → s.abortResolve x = s.endWith x St.abortTooLate) ∧
    (entOpcode y.entry ≠ 0x4A → abortQid x.entry = 0 ∨ s.committed y = true →
      s.abortResolve x = s.setSlot { x with failed := 2, data := leBytes 8 y.order }) ∧
    (entOpcode y.entry ≠ 0x4A → abortQid x.entry ≠ 0 → s.committed y = false → ∀ z, (s.abortTarget x y).slot x.qid x.tag = some z →
      s.abortResolve x = (s.abortTarget x y).abortEnds z)) ∧
  (∀ (x : Slot) (s : State), s.abortEnds x = if s.runs (leNat x.data) = true then s
    else s.endWith x (if x.failed = 1 then St.success else St.abortTooLate))
/-- For commands that wait: a failed check completes with its status. PUT_SEGMENT takes its slots and enters its segment, or waits for slots
until TILE_POOL_SLOT_FREE tries again in order; a transfer that fails and a poisoned buffer complete with their status. SEAL waits for the
tiles it reads and then seals with their hash, or ends with the status of what stands against it; DELETE removes a version, and one in a lock
that has not run out is not deleted; SET_RETENTION sets a lock, and one that would shorten it is refused. FLUSH waits, and FLUSH_COMPLETE
closes the stripes and completes it once its outcome stands and every stripe can close, or with MEDIA_UNAVAILABLE where a stripe's actuator
has timed out or the safe state holds, and does nothing before. A command that does not wait changes nothing (R131, R445, R472 to R476,
R485, R486). -/
def Obligations.ObjectWritesRunTheirEffect : Prop :=
  (∀ (q t : Nat) (h : HostData) (ends : Bool) (s : State),
    (s.command q t 0x40 = none → exec (.putSegment q t h) s = .next s) ∧ (s.command q t 0x41 = none → exec (.seal q t h ends) s = .next s) ∧
    (s.command q t 0x45 = none → exec (.delete q t h) s = .next s) ∧ (s.command q t 0x46 = none → exec (.setRetention q t h) s = .next s) ∧
    (s.command q t 0x48 = none → exec (.flush q t h) s = .next s ∧ exec (.flushComplete q t) s = .next s)) ∧
  (∀ (q t st : Nat) (h : HostData) (x : Slot) (s v : State), s.command q t 0x40 = some x →
    st = s.objectCheck x.entry h (entFlags x.entry = 0 && putSegment x.entry ≤ 0xFFFFFF && entZero x.entry 36 12) [1, 2, 3]
      (fun n => 1 ≤ n && n ≤ 1048576) → v = s.obtainPieces (bufferPieces x.entry h) h.held →
    exec (.putSegment q t h) s = .next (
      if st ≠ 0 then (s.endWith x st).settled
      else if s.transferOk (bufferPieces x.entry h) h = false then (s.endWith x St.transferError).settled
      else if v.bufferPoisoned (bufferPieces x.entry h) = true then (v.endWith x St.intPoison).settled
      else ((v.chargePieces (bufferPieces x.entry h) (putTiles x.entry)).putCommit x (v.readBuffer (bufferPieces x.entry h) h.data)).settled)) ∧
  (∀ (x : Slot) (data : List Byte) (s : State), s.takeSlots (putTiles x.entry) = none →
    s.putCommit x data = s.setSlot { x with stage := 1, data := data }) ∧
  (∀ (x : Slot) (data : List Byte) (slots : List Nat) (s u : State), s.takeSlots (putTiles x.entry) = some slots →
    u = (s.ingest (keyHash (slice x.entry 8 16)) (putSegment x.entry) (entBufLen x.entry) slots data).charge 9 1 →
    s.putCommit x data = if s.putStatus (entKey x.entry) (entVersion x.entry) (putTiles x.entry) ≠ 0 then
        s.endWith x (s.putStatus (entKey x.entry) (entVersion x.entry) (putTiles x.entry))
      else ((u.enterSegment (entKey x.entry) (entVersion x.entry) (putSegment x.entry) (putTiles x.entry)
        (entBufLen x.entry - 4096 * (putTiles x.entry - 1)) x.order slots).stat 0x8320 1 1).complete x.qid x.tag St.success
          (putTiles x.entry + 65536 * u.chooseActuator)) ∧
  (∀ s : State, exec .tilePoolSlotFree s = .next (State.settled ((s.qmg.slots.filter (fun x => x.stage = 1 &&
    entOpcode x.entry = 0x40)).foldl (fun (t : State) x => t.putCommit x x.data) s))) ∧
  (∀ (q t st : Nat) (h : HostData) (ends : Bool) (x : Slot) (s : State), s.command q t 0x41 = some x →
    st = s.objectCheck x.entry h (entFlags x.entry < 256 && numAt x.entry 32 8 ≤ 2 ^ 44) [0] (fun _ => true) →
    (st ≠ 0 → exec (.seal q t h ends) s = .next (s.endWith x st).settled) ∧
    (st = 0 → s.version (entKey x.entry) (entVersion x.entry) = none →
      exec (.seal q t h ends) s = .next (s.endWith x St.objNotFound).settled)) ∧
  (∀ (q t st1 : Nat) (h : HostData) (ends : Bool) (x : Slot) (v : Version) (bs : List Byte) (s u : State), s.command q t 0x41 = some x →
    s.objectCheck x.entry h (entFlags x.entry < 256 && numAt x.entry 32 8 ≤ 2 ^ 44) [0] (fun _ => true) = 0 →
    s.version (entKey x.entry) (entVersion x.entry) = some v →
    ((s.chargeReads 4 v 0 (numAt x.entry 32 8)).chargeHash v).readRange v 0 (numAt x.entry 32 8) = (u, st1, bs) →
    exec (.seal q t h ends) s = .next (
      if s.damagedVersion v.key v.ver = true then (s.endWith x St.intIndex).settled
      else if x.stage = 0 ∧ numAt x.entry 32 8 < v.end_ then (s.endWith x St.objSize).settled
      else if ends = false ∨ s.mustWait v 0 (numAt x.entry 32 8) = true then
        (if x.stage = 0 then s.setSlot { x with stage := 3, data := leBytes 8 v.changes } else s).settled
      else if v.sealed.isSome then (s.endWith x St.objSealed).settled
      else if x.stage = 3 ∧ leNat x.data ≠ v.changes then ((s.stat 0x8320 6 1).endWith x St.objChanged).settled
      else if st1 ≠ 0 then (u.endWith x st1).settled else (u.sealCommit x v (sha256 bs)).settled)) ∧
  (∀ (q t st : Nat) (h : HostData) (x : Slot) (s : State), s.command q t 0x45 = some x →
    st = s.objectCheck x.entry h (entFlags x.entry = 0 && entZero x.entry 32 16) [0] (fun _ => true) →
    (st ≠ 0 → exec (.delete q t h) s = .next (s.endWith x st).settled) ∧
    (st = 0 → s.version (entKey x.entry) (entVersion x.entry) = none → exec (.delete q t h) s = .next (s.endWith x St.objNotFound).settled) ∧
    (st = 0 → ∀ v, s.version (entKey x.entry) (entVersion x.entry) = some v →
      exec (.delete q t h) s = .next (
        if s.lockUnexpired v = true then ((s.stat 0x8320 5 1).endWith x St.objRetained).settled
        else (((s.removeVersion v x.order).stat 0x8320 4 1).endWith x St.success).settled))) ∧
  (∀ (q t st : Nat) (h : HostData) (x : Slot) (s : State), s.command q t 0x46 = some x →
    st = s.objectCheck x.entry h (entFlags x.entry < 256 && entZero x.entry 40 8) [0] (fun _ => true) →
    (st ≠ 0 → exec (.setRetention q t h) s = .next (s.endWith x st).settled) ∧
    (st = 0 → s.version (entKey x.entry) (entVersion x.entry) = none →
      exec (.setRetention q t h) s = .next (s.endWith x St.objNotFound).settled) ∧
    (st = 0 → ∀ v, s.version (entKey x.entry) (entVersion x.entry) = some v →
      (v.sealed = none → exec (.setRetention q t h) s = .next (s.endWith x St.objNotSealed).settled) ∧
      (v.sealed ≠ none → ∀ u0 r0 n0, v.lock = some (u0, r0, n0) → numAt x.entry 32 8 ≤ u0 →
        exec (.setRetention q t h) s = .next (s.endWith x St.retentionNotExtended).settled) ∧
      (v.sealed ≠ none → (∀ u0 r0 n0, v.lock = some (u0, r0, n0) → u0 < numAt x.entry 32 8) →
        exec (.setRetention q t h) s = .next (((((s.issue s.homeStream x.order (.retention v.key v.ver (numAt x.entry 32 8)
          (entFlags x.entry))).setVersion { v with lock := some (numAt x.entry 32 8, entFlags x.entry, s.obj.nextSeq) }).charge 9
            1).endWith x St.success).settled)))) ∧
  (∀ (q t st : Nat) (h : HostData) (x : Slot) (s : State), s.command q t 0x48 = some x →
    st = s.objectCheck x.entry h (entZero x.entry 4 44) [0] (fun _ => true) →
    exec (.flush q t h) s = .next (if st ≠ 0 then (s.endWith x st).settled else s.setSlot { x with stage := 3 })) ∧
  (∀ (q t : Nat) (x : Slot) (s : State), s.command q t 0x48 = some x → x.stage ≠ 3 ∨ s.flushOutcome x.order = none →
    exec (.flushComplete q t) s = .next s) ∧
  (∀ (q t st : Nat) (x : Slot) (left : List Nat) (s : State), s.command q t 0x48 = some x → x.stage = 3 → s.flushOutcome x.order = some st →
    left = s.obj.openStripes.filter (fun g => !s.closable g) →
    exec (.flushComplete q t) s = .next (
      if left = [] ∨ st = St.mediaUnavailable then (s.closeStripes.endWith x st).settled
      else if s.isSet Fld.FCL_STATUS_SAFE = true ∨ left.any (fun g => s.mediaTimedOut (actuatorOf (psaSurface g))) = true then
        (s.closeStripes.endWith x (if st = 0 then St.mediaUnavailable else st)).settled
      else s))

/-- For commands that wait: a failed check completes with its status, and an object that is not there or damaged with its own. GET_RANGE
writes the bytes of the range to the buffer, waits with its version held while a sector of it is out of reach, and refuses a range past the
end. STAT writes the version's record, LIST the entries that match after its cookie, as many as fit, with a new cookie for the rest, and a
stale cookie is refused. VERIFY completes with its counts when the hash agrees, with INT_HASH when it does not, and waits likewise.
COOKIE_EXPIRY forgets the cookies not used for ten minutes. A command that does not wait changes nothing (R479, R481 to R484, R488). -/
def Obligations.ObjectReadsRunTheirEffect : Prop :=
  (∀ (q t l : Nat) (h : HostData) (s : State),
    (s.command q t 0x42 = none → exec (.getRange q t h) s = .next s) ∧ (s.command q t 0x43 = none → exec (.stat q t h) s = .next s) ∧
    (s.command q t 0x44 = none → exec (.list q t h) s = .next s) ∧ (s.command q t 0x47 = none → exec (.verify q t h l) s = .next s)) ∧
  (∀ (q t st : Nat) (h : HostData) (x : Slot) (s : State), s.command q t 0x42 = some x →
    st = s.objectCheck x.entry h (entFlags x.entry = 0 && entZero x.entry 40 8) [1, 2, 3] (fun n => 1 ≤ n && n ≤ 16777216) →
    (st ≠ 0 → exec (.getRange q t h) s = .next (s.endWith x st).settled) ∧
    (st = 0 → s.readVersion x = none → exec (.getRange q t h) s = .next
      (s.endWith x (if s.damagedVersion (entKey x.entry) (entVersion x.entry) then St.intIndex else St.objNotFound)).settled)) ∧
  (∀ (q t off n st1 : Nat) (h : HostData) (x : Slot) (v : Version) (bs : List Byte) (s u : State), s.command q t 0x42 = some x →
    s.objectCheck x.entry h (entFlags x.entry = 0 && entZero x.entry 40 8) [1, 2, 3] (fun n => 1 ≤ n && n ≤ 16777216) = 0 →
    s.readVersion x = some v → off = numAt x.entry 32 8 → n = entBufLen x.entry →
    ((s.chargeReads 4 v off n).charge 9 1).readRange v off n = (u, st1, bs) →
    exec (.getRange q t h) s = .next (
      if v.size < off + n then (s.endWith x St.objRange).settled
      else if s.damagedVersion v.key v.ver = true then (s.endWith x St.intIndex).settled
      else if s.mustWait v off n = true then s.holdLookup x v
      else if st1 ≠ 0 then (u.endWith x st1).settled
      else if u.transferOk (bufferPieces x.entry h) h = false then (u.endWith x St.transferError).settled
      else ((((u.writeBuffer 0 (bufferPieces x.entry h) bs).chargeOut (bufferPieces x.entry h)).stat 0x8320 3 1).complete x.qid x.tag
        St.success (n + 2 ^ 63 * b2n (v.touchesUnflushed off n))).settled)) ∧
  (∀ (q t st : Nat) (h : HostData) (x : Slot) (s : State), s.command q t 0x43 = some x →
    st = s.objectCheck x.entry h (entFlags x.entry = 0 && entZero x.entry 32 16) [1, 2, 3] (fun n => 128 ≤ n) →
    (st ≠ 0 → exec (.stat q t h) s = .next (s.endWith x st).settled) ∧
    (st = 0 → s.lookup (entKey x.entry) (entVersion x.entry) = none → exec (.stat q t h) s = .next
      (s.endWith x (if s.damagedVersion (entKey x.entry) (entVersion x.entry) then St.intIndex else St.objNotFound)).settled) ∧
    (st = 0 → ∀ v, s.lookup (entKey x.entry) (entVersion x.entry) = some v → exec (.stat q t h) s = .next (
      if s.damagedVersion v.key v.ver = true then (s.endWith x St.intIndex).settled
      else if s.transferOk (bufferPieces x.entry h) h = false then (s.endWith x St.transferError).settled
      else ((((s.writeBuffer 0 (bufferPieces x.entry h) (s.statRecord v)).charge 0 2).charge 9 1).complete x.qid x.tag St.success
        v.ver).settled))) ∧
  (∀ (q t st cookie : Nat) (h : HostData) (x : Slot) (s : State), s.command q t 0x44 = some x →
    st = s.objectCheck x.entry h (entFlags x.entry % 256 ≤ 128 && entFlags x.entry < 512 && entVersion x.entry = 0 &&
      entZero x.entry 40 8) [1, 2, 3] (fun n => 64 ≤ n && n ≤ 16777216) → cookie = numAt x.entry 32 8 →
    (st ≠ 0 → exec (.list q t h) s = .next (s.endWith x st).settled) ∧
    (st = 0 → cookie ≠ 0 → s.obj.cookies.find? (fun c => c.id == cookie) = none →
      exec (.list q t h) s = .next (s.endWith x St.cookieStale).settled) ∧
    (st = 0 → cookie = 0 ∨ s.obj.cookies.find? (fun c => c.id == cookie) ≠ none → s.transferOk (bufferPieces x.entry h) h = false →
      exec (.list q t h) s = .next (({ s with obj := { s.obj with cookies := s.obj.cookies.map (fun c => if c.id = cookie then
        { c with usedUs := s.pwr.timeUs } else c) } } : State).endWith x St.transferError).settled)) ∧
  (∀ (q t cookie next : Nat) (h : HostData) (x : Slot) (all now : List Version) (bytes : List Byte) (s a u : State),
    s.command q t 0x44 = some x →
    s.objectCheck x.entry h (entFlags x.entry % 256 ≤ 128 && entFlags x.entry < 512 && entVersion x.entry = 0 &&
      entZero x.entry 40 8) [1, 2, 3] (fun n => 64 ≤ n && n ≤ 16777216) = 0 → cookie = numAt x.entry 32 8 →
    cookie = 0 ∨ s.obj.cookies.find? (fun c => c.id == cookie) ≠ none → s.transferOk (bufferPieces x.entry h) h = true →
    all = s.listing (entKey x.entry) (entFlags x.entry % 256) (bitOf (entFlags x.entry) 8)
      ((s.obj.cookies.find? (fun c => c.id == cookie)).map (·.pos)) →
    now = all.take (min ((entBufLen x.entry - 16) / 48) 1024) →
    a = { s with obj := { s.obj with cookies := s.obj.cookies.filter (fun c => c.id != cookie) } } →
    next = (if now.length < all.length then a.obj.nextCookie else 0) →
    u = (match now.getLast? with
      | some v => if now.length < all.length then a.newCookie ⟨v.key, v.ver, false, 0⟩ else a
      | none => a) →
    bytes = leBytes 4 now.length ++ leBytes 4 (b2n (decide (now.length < all.length))) ++ leBytes 8 next ++ now.flatMap s.listEntry →
    exec (.list q t h) s = .next ((((u.writeBuffer 0 (bufferPieces x.entry h) bytes).charge 0 (linesOf bytes.length)).charge 9
      (1 + now.length)).complete x.qid x.tag St.success next).settled) ∧
  (∀ (q t st l : Nat) (h : HostData) (x : Slot) (s : State), s.command q t 0x47 = some x →
    st = s.objectCheck x.entry h (entFlags x.entry = 0 && entZero x.entry 32 16) [0] (fun _ => true) →
    (st ≠ 0 → exec (.verify q t h l) s = .next (s.endWith x st).settled) ∧
    (st = 0 → s.readVersion x = none → exec (.verify q t h l) s = .next
      (s.endWith x (if s.damagedVersion (entKey x.entry) (entVersion x.entry) then St.intIndex else St.objNotFound)).settled) ∧
    (st = 0 → ∀ v, s.readVersion x = some v → v.sealed = none → exec (.verify q t h l) s = .next (s.endWith x St.objNotSealed).settled)) ∧
  (∀ (q t l st1 : Nat) (h : HostData) (x : Slot) (v : Version) (z : Seal) (bs : List Byte) (s u : State), s.command q t 0x47 = some x →
    s.objectCheck x.entry h (entFlags x.entry = 0 && entZero x.entry 32 16) [0] (fun _ => true) = 0 → s.readVersion x = some v →
    v.sealed = some z → (((s.chargeReads 4 v 0 z.size).chargeHash v).charge 9 1).readRange v 0 z.size = (u, st1, bs) →
    exec (.verify q t h l) s = .next (
      if s.damagedVersion v.key v.ver = true then (s.endWith x St.intIndex).settled
      else if s.mustWait v 0 z.size = true then s.holdLookup x v
      else if st1 ≠ 0 then (u.endWith x st1).settled
      else if sha256 bs ≠ z.sha then ((u.stat 0x8320 7 1).endWith x St.intHash).settled
      else (u.complete x.qid x.tag St.success
        (v.segs.foldl (fun a g => a + g.tiles) 0 % 2 ^ 32 + 2 ^ 32 * min l 0xFFFF)).settled)) ∧
  (∀ s : State, exec .cookieExpiry s = .next { s with obj := { s.obj with
    cookies := s.obj.cookies.filter (fun c => s.pwr.timeUs < c.usedUs + 600000000) } })

/-- DMA_GO starts a channel or ends it with the code of its check, from its registers or its lists, a firmware channel's lists read from
device memory; a busy or halted channel and operation 3 ignore it. DMA_DONE moves what is left and ends the run; DMA_HALT stops at the line
that failed; DMA_ABORT ends a halted run, and one at work after the lines moved, with the error that came; DMA_RESUME lets a halted run go
on. DMA_STALL of a channel at work raises source 146 (R526 to R536). -/
def Obligations.DmaCommandsRunTheirEffect : Prop :=
  (∀ (n : Nat) (srcL dstL : List Byte) (ok : Bool) (s : State), 32 ≤ n ∨ s.getF (Fld.DMA_STAT_STATE n) = 1 ∨
    s.getF (Fld.DMA_STAT_STATE n) = 4 ∨ s.getF (Fld.DMA_CTL_OP n) = 3 → exec (.dmaGo n srcL dstL ok) s = .next s) ∧
  (∀ (n code : Nat) (srcL dstL : List Byte) (ok : Bool) (p : DmaPar) (s : State), n < 32 → s.getF (Fld.DMA_STAT_STATE n) ≠ 1 →
    s.getF (Fld.DMA_STAT_STATE n) ≠ 4 → s.getF (Fld.DMA_CTL_OP n) ≠ 3 → p = s.dmaPar n [] [] → p.sg = false →
    code = s.dmaCheck n p ((p.op == 1 || (s.dmaListOk n p.src (s.getF (Fld.DMA_SG_SNENT n)) ok &&
      !listBad (s.dmaList n p.src (s.getF (Fld.DMA_SG_SNENT n)) srcL) (s.getF (Fld.DMA_SG_SNENT n)))) &&
      s.dmaListOk n p.dst (s.getF (Fld.DMA_SG_DNENT n)) ok &&
      !listBad (s.dmaList n p.dst (s.getF (Fld.DMA_SG_DNENT n)) dstL) (s.getF (Fld.DMA_SG_DNENT n))) →
    exec (.dmaGo n srcL dstL ok) s = .next (
      if code ≠ 0 then (s.chargeDma n 0).dmaEnd n 3 code else ((s.chargeDma n 0).setRun ⟨n, p, 0⟩).dmaState n 1 0)) ∧
  (∀ (n code sn dn : Nat) (srcL dstL : List Byte) (ok : Bool) (p0 p : DmaPar) (s u : State), n < 32 → s.getF (Fld.DMA_STAT_STATE n) ≠ 1 →
    s.getF (Fld.DMA_STAT_STATE n) ≠ 4 → s.getF (Fld.DMA_CTL_OP n) ≠ 3 → p0 = s.dmaPar n [] [] → p0.sg = true →
    sn = s.getF (Fld.DMA_SG_SNENT n) → dn = s.getF (Fld.DMA_SG_DNENT n) →
    u = (if s.dmaHostOwned n = true then s
      else (if p0.op = 1 then s else s.readLines p0.src (16 * min sn 256)).readLines p0.dst (16 * min dn 256)) →
    p = u.dmaPar n (if p0.op = 1 then [] else sglPieces (u.dmaList n p0.src sn srcL) sn) (sglPieces (u.dmaList n p0.dst dn dstL) dn) →
    code = u.dmaCheck n p ((p0.op == 1 || (u.dmaListOk n p0.src sn ok && !listBad (u.dmaList n p0.src sn srcL) sn)) &&
      u.dmaListOk n p0.dst dn ok && !listBad (u.dmaList n p0.dst dn dstL) dn) →
    (s.boot.slateDone = true → u.boot.slateDone = false → exec (.dmaGo n srcL dstL ok) s = .next u) ∧
    (s.boot.slateDone = false ∨ u.boot.slateDone = true → ∀ v : State,
      v = u.chargeDma n (if u.dmaHostOwned n = true then 0 else linesOf (16 * sn) + linesOf (16 * dn)) →
      exec (.dmaGo n srcL dstL ok) s = .next (if code ≠ 0 then v.dmaEnd n 3 code else (v.setRun ⟨n, p, 0⟩).dmaState n 1 0))) ∧
  (∀ (n : Nat) (x : DmaData) (s : State), s.dmaRun n = none ∨ s.getF (Fld.DMA_STAT_STATE n) ≠ 1 → exec (.dmaDone n x) s = .next s) ∧
  (∀ (n : Nat) (x : DmaData) (all : Bool) (r : DmaRun) (s u : State), s.dmaRun n = some r → s.getF (Fld.DMA_STAT_STATE n) = 1 →
    s.dmaUpTo r x r.par.total = (u, all) →
    exec (.dmaDone n x) s = .next (if all = true then (u.dropRun n).dmaEnd n 2 0 else u)) ∧
  (∀ (n l cause : Nat) (onDst : Bool) (x : DmaData) (more : List Nat) (s : State), s.getF (Fld.DMA_STAT_STATE n) ≠ 1 ∨ s.dmaRun n = none →
    exec (.dmaHalt n l onDst cause x more) s = .next s) ∧
  (∀ (n l cause : Nat) (onDst all : Bool) (x : DmaData) (more : List Nat) (r : DmaRun) (s u : State), s.dmaRun n = some r →
    s.getF (Fld.DMA_STAT_STATE n) = 1 → s.dmaUpTo r x (l / r.par.lines * r.par.lines) = (u, all) →
    exec (.dmaHalt n l onDst cause x more) s = .next (
      if l < r.line ∨ r.par.total ≤ l then s
      else if all = true then (u.dmaPartly r x (l / r.par.lines * r.par.lines) more).dmaHalt r l onDst cause else u)) ∧
  (∀ (n l : Nat) (x : DmaData) (error : Option (Bool × Nat)) (s : State), s.dmaRun n = none ∨
    (s.getF (Fld.DMA_STAT_STATE n) ≠ 1 ∧ s.getF (Fld.DMA_STAT_STATE n) ≠ 4) → exec (.dmaAbort n l x error) s = .next s) ∧
  (∀ (n l : Nat) (x : DmaData) (error : Option (Bool × Nat)) (r : DmaRun) (s : State), s.dmaRun n = some r →
    s.getF (Fld.DMA_STAT_STATE n) = 4 → exec (.dmaAbort n l x error) s = .next ((s.dropRun n).dmaEnd n 5 9)) ∧
  (∀ (n l : Nat) (x : DmaData) (r : DmaRun) (s u : State), s.dmaRun n = some r → s.getF (Fld.DMA_STAT_STATE n) = 1 →
    (s.dmaUpTo r x (max l r.line) = (u, true) → exec (.dmaAbort n l x none) s = .next ((u.dropRun n).dmaEnd n 5 9) ∧
      ∀ (onDst : Bool) (cause : Nat), exec (.dmaAbort n l x (some (onDst, cause))) s =
        .next (((u.dmaHalt r (max l r.line) onDst cause).dropRun n).dmaEnd n 5 9)) ∧
    (s.dmaUpTo r x (max l r.line) = (u, false) → ∀ error, exec (.dmaAbort n l x error) s = .next (
      if u.getF (Fld.DMA_STAT_STATE n) = 4 then (u.dropRun n).dmaEnd n 5 9 else u))) ∧
  (∀ (n : Nat) (s : State), exec (.dmaResume n) s = .next (
    if (s.dmaRun n).isSome ∧ s.getF (Fld.DMA_STAT_STATE n) = 4 then s.dmaState n 1 0 else s)) ∧
  (∀ (n : Nat) (s : State), exec (.dmaStall n) s = .next (
    if n < 32 ∧ s.getF (Fld.DMA_STAT_STATE n) = 1 then s.raise 146 0 0 else s))
/-- MODULE_PRESENCE_CHANGE with the configured module leaves the link and raises event 546, with another or none it also takes the link down
and raises source 385. ETH_LINK_CHANGE brings the link up with the configured module and the reference good and no loopback on it, or takes
it down with event 545 where it was up. NEIGHBOR_SOLICITATION and ECHO_REQUEST are answered for an own address with the link up, and
otherwise not at all (R537 to R540). -/
def Obligations.EthernetPortRunsItsEffect : Prop :=
  (∀ (present : Bool) (mode : Nat) (s u : State),
    u = ((s.setF Fld.ETH_STATUS_MODPRES (b2n present)).setMig { s.mig with modMode := if present then mode else 0 }).event 546 0 →
    exec (.modulePresenceChange present mode) s = .next (
      if present = true ∧ mode = u.getF Fld.ETH_CFG_MODE ∧ mode ≠ 0 then u else (u.ethDown).raise 385 0 0)) ∧
  (∀ s u : State, u = (s.setF Fld.ETH_STATUS_LOCK 0).setF Fld.ETH_STATUS_UP 0 →
    exec (.ethLinkChange false) s = .next (if s.isSet Fld.ETH_STATUS_UP = true then u.event 545 0 else u)) ∧
  (∀ s : State, exec (.ethLinkChange true) s = .next (
    if s.isSet Fld.ETH_STATUS_MODPRES = true ∧ s.isSet Fld.ETH_STATUS_REFOK = true ∧ s.getF Fld.ETH_CFG_MODE ≠ 0 ∧
        s.mig.modMode = s.getF Fld.ETH_CFG_MODE ∧ s.isSet Fld.ETH_STATUS_UP = false ∧
        ¬ (s.tst.loop = true ∧ s.getF Fld.TST_LBCTL_IF = 1) then
      ((s.setF Fld.ETH_STATUS_LOCK 1).setF Fld.ETH_STATUS_UP 1).event 544 0
    else s)) ∧
  (∀ (dst target : List Byte) (s : State), exec (.neighborSolicitation dst target) s = .next (
    if s.isSet Fld.ETH_STATUS_UP = true ∧ s.ownAddresses.contains target = true ∧
        (s.ownAddresses.contains dst = true ∨ dst = solicitedNode target) then
      s.emit (.icmp 136 ([0x60, 0, 0, 0] ++ target ++ [2, 1] ++ s.mac)) else s)) ∧
  (∀ (dst body : List Byte) (s : State), exec (.echoRequest dst body) s = .next (
    if s.isSet Fld.ETH_STATUS_UP = true ∧ s.ownAddresses.contains dst = true then s.emit (.icmp 129 body) else s))

/-- While migration work is not suspended: HELLO is answered with HELLO_ACK and a session, or with CLOSE 1, 2 or 4; HELLO_ACK and CONFIRM
whose MAC fails end the session with source 400, and those that are in order establish it, HELLO_ACK with the offers sent again; CLOSE ends
the session it names, and one for a failed MAC the MIGRATE; PEER_SILENCE drops a receiver's session and renews the sender's with a new
HELLO; MIG_TIMEOUT ends a MIGRATE that has no session. A datagram that is not taken or names no session of that state changes nothing
(R545 to R551, R559). -/
def Obligations.MigrationHandshakeRunsItsEffect : Prop :=
  (∀ (d : Dgram) (nr : List Byte) (s : State), s.tint.migSuspended = false →
    (s.takes d 1 32 = false → exec (.hello d nr) s = .next s) ∧ (s.takes d 2 64 = false → exec (.helloAck d) s = .next s) ∧
    (s.takes d 3 32 = false → exec (.confirm d) s = .next s) ∧ (s.takes d 9 1 = false → exec (.close d) s = .next s)) ∧
  (∀ (d : Dgram) (nr : List Byte) (s : State), s.tint.migSuspended = false → s.takes d 1 32 = true →
    s.dictNum 0x6200 1 = 0 ∨ s.stage ≠ 3 ∨ s.lcm.rngBad = true →
    exec (.hello d nr) s = .next (s.sendTo d.src 9 (dSession d) 0 (leBytes 1 1))) ∧
  (∀ (d : Dgram) (nr : List Byte) (s : State), s.tint.migSuspended = false → s.takes d 1 32 = true → s.dictNum 0x6200 1 ≠ 0 →
    s.stage = 3 → s.lcm.rngBad = false → s.slotFor (slice (dBody d) 16 16) d.src = none →
    exec (.hello d nr) s = .next (s.sendTo d.src 9 (dSession d) 0 (leBytes 1 2))) ∧
  (∀ (d : Dgram) (nr k ks : List Byte) (p : Nat) (s a u : State), s.tint.migSuspended = false → s.takes d 1 32 = true →
    s.dictNum 0x6200 1 ≠ 0 → s.stage = 3 → s.lcm.rngBad = false → s.slotFor (slice (dBody d) 16 16) d.src = some (p, k) →
    a = s.dropRx p → ks = sessionKey k (slice (dBody d) 0 16) nr →
    u = a.setMig { a.mig with rx := a.mig.rx ++ [⟨p, dSession d, ks, false, [], 1, [], 0⟩] } →
    exec (.hello d nr) s = .next (
      if 4 ≤ a.mig.rx.length then a.sendClose p (dSession d) 4
      else u.sendMsg p 2 (dSession d) 0 (slice nr 0 16 ++ u.driveId ++ handshakeMac ks 0x52 (u.peerId p) u.driveId))) ∧
  (∀ (d : Dgram) (s : State), s.tint.migSuspended = false → (∀ t, s.txFor d = some t → t.phase ≠ 1 ∧ t.phase ≠ 4) →
    exec (.helloAck d) s = .next s) ∧
  (∀ (d : Dgram) (t t1 : MigTx) (ks : List Byte) (again : List MigOffer) (s u : State), s.tint.migSuspended = false →
    s.takes d 2 64 = true → s.txFor d = some t → t.phase = 1 ∨ t.phase = 4 →
    ks = sessionKey ((s.pairKey t.slot).getD []) t.ns (slice (dBody d) 0 16) →
    again = (List.range t.offers.length).map (fun i => { t.offers.getD i ⟨0, Version.new 0 0, 0, 0⟩ with obj := i + 1, next := 0 }) →
    t1 = { t with phase := if s.isSet Fld.QMG_STATUS_ACTSTOP then 3 else 2, ks := ks, offers := again, nextObj := again.length + 1 } →
    u = ((s.setMig { s.mig with tx := some t1 }).sendMsg t.slot 3 t.session 0
      (handshakeMac ks 0x53 s.driveId (s.peerId t.slot))).event 547 0 →
    exec (.helloAck d) s = .next (
      if slice (dBody d) 32 32 = handshakeMac ks 0x52 s.driveId (s.peerId t.slot) then
        (State.migPump (again.foldl (fun (u : State) o => u.sendOffer t1 o) u)).settled
      else ((s.endMigrate t St.migAuth t.back (some 3)).authFail t.slot).settled)) ∧
  (∀ (d : Dgram) (s : State), s.tint.migSuspended = false → (∀ r, s.rxFor d = some r → r.established = true) →
    exec (.confirm d) s = .next s) ∧
  (∀ (d : Dgram) (r : MigRx) (s : State), s.tint.migSuspended = false → s.takes d 3 32 = true → s.rxFor d = some r →
    r.established = false →
    exec (.confirm d) s = .next (
      if dBody d = handshakeMac r.ks 0x53 (s.peerId r.slot) s.driveId then s.putRx { r with established := true }
      else ((s.dropRx r.slot).sendClose r.slot r.session 3).authFail r.slot)) ∧
  (∀ (p session : Nat) (ns : List Byte) (s : State), s.tint.migSuspended = false →
    exec (.peerSilence (some p) session ns) s = .next (s.dropRx p) ∧
    (s.mig.tx = none → exec (.peerSilence none session ns) s = .next s) ∧
    (∀ t, s.mig.tx = some t → exec (.peerSilence none session ns) s = .next (s.sendHello t session ns 4))) ∧
  (∀ (session phase : Nat) (ns : List Byte) (t : MigTx) (s : State), s.lcm.rngBad = false → session % 2 ^ 32 ≠ 0 →
    ∃ (t1 : MigTx) (u : State), t1.phase = phase ∧ t1.session = session % 2 ^ 32 ∧ t1.ns = slice ns 0 16 ∧ t1.unacked = [] ∧
      u.mig.tx = some t1 ∧ u.regs = s.regs ∧ u.dict = s.dict ∧
      s.sendHello t session ns phase = u.sendMsg t.slot 1 (session % 2 ^ 32) 0 (slice ns 0 16 ++ u.driveId)) ∧
  (∀ s : State, s.tint.migSuspended = false → (∀ t, s.mig.tx = some t → t.phase ≠ 1 ∧ t.phase ≠ 4) → exec .migTimeout s = .next s) ∧
  (∀ (t : MigTx) (s : State), s.tint.migSuspended = false → s.mig.tx = some t → t.phase = 1 ∨ t.phase = 4 →
    exec .migTimeout s = .next (
      if s.isSet Fld.ETH_STATUS_UP = true then ((s.endMigrate t St.migTimeout t.back none).raise 403 0 0).settled
      else (s.endMigrate t St.migLinkDown t.back none).settled)) ∧
  (∀ (d : Dgram) (s : State), s.tint.migSuspended = false → s.takes d 9 1 = true →
    (∀ r, s.rxFor d = some r → exec (.close d) s = .next (s.dropRx r.slot)) ∧
    (s.rxFor d = none → s.txFor d = none → exec (.close d) s = .next s) ∧
    (s.rxFor d = none → ∀ t, s.txFor d = some t → exec (.close d) s = .next (
      if numAt (dBody d) 0 1 = 3 then (s.endMigrate t St.migAuth t.back none).settled
      else s.setMig { s.mig with tx := some { t with phase := 4, session := 0 } })))

/-- What the receiver and the sender do with the datagrams of an established session and with their timers while migration work is not
suspended: an OFFER is taken, answered again or refused with source 400; DATA is acknowledged again, left outside the window, without its
object or without a slot, or taken and acknowledged at 16 or out of order; RECEIVE_DURABLE answers for an object on the media, or with 7
for one that cannot get there; a SACK moves the window and resends what is lost; a RESULT ends its offer, and one that fails or refuses the
MIGRATE; the timers send a SACK, the tile that was lost, or a KEEPALIVE, which is answered with a SACK. What is not taken changes nothing
(R547 to R556, R560). -/
def Obligations.MigrationTrafficRunsItsEffect : Prop :=
  (∀ (d : Dgram) (s : State), s.tint.migSuspended = false →
    (s.takes d 4 160 = false ∨ s.rxFor d = none ∨ (∃ r, s.rxFor d = some r ∧ r.established = false) → exec (.offer d) s = .next s) ∧
    (s.takes d 5 4140 = false ∨ s.rxFor d = none ∨ (∃ r, s.rxFor d = some r ∧ r.established = false) → exec (.data d) s = .next s) ∧
    (s.takes d 8 0 = false ∨ s.rxFor d = none ∨ (∃ r, s.rxFor d = some r ∧ r.established = false) → exec (.keepalive d) s = .next s) ∧
    (s.takes d 6 16 = false ∨ s.txFor d = none ∨ (∃ t, s.txFor d = some t ∧ t.phase ≠ 2 ∧ t.phase ≠ 3) → exec (.sack d) s = .next s) ∧
    (s.takes d 7 48 = false ∨ s.txFor d = none ∨ (∃ t, s.txFor d = some t ∧ t.phase ≠ 2 ∧ t.phase ≠ 3) →
      exec (.result d) s = .next s)) ∧
  (∀ (d : Dgram) (r : MigRx) (b : List Byte) (o : MigObj) (s : State), s.tint.migSuspended = false → s.takes d 4 160 = true →
    s.rxFor d = some r → r.established = true → b = slice (dBody d) 0 128 → o = offeredObject b →
    (slice (dBody d) 128 32 ≠ hmac256 r.ks b → exec (.offer d) s = .next (s.authFail r.slot)) ∧
    (slice (dBody d) 128 32 = hmac256 r.ks b → r.find o.obj = none → exec (.offer d) s = .next
      ((((s.putRx { r with objs := r.objs ++ [o] }).takeOffer { r with objs := r.objs ++ [o] } o).takeHeld).settled)) ∧
    (slice (dBody d) 128 32 = hmac256 r.ks b → ∀ x, r.find o.obj = some x →
      exec (.offer d) s = .next (if x.st = 3 then s.sendResult r x.obj x.code else s))) ∧
  (∀ (d : Dgram) (r : MigRx) (s : State), s.tint.migSuspended = false → s.takes d 5 4140 = true → s.rxFor d = some r →
    r.established = true →
    (dPseq d < r.base ∨ dPseq d ∈ r.got → exec (.data d) s = .next (s.sendSack r)) ∧
    (r.base + s.rxWindow ≤ dPseq d → dPseq d ∉ r.got → exec (.data d) s = .next s) ∧
    (r.base ≤ dPseq d → dPseq d ∉ r.got → r.find (numAt (dBody d) 0 4) = none ∨ s.takeSlots 1 = none →
      exec (.data d) s = .next s)) ∧
  (∀ (d : Dgram) (r r1 : MigRx) (o : MigObj) (slot base : Nat) (l got : List Nat) (s u v : State), s.tint.migSuspended = false →
    s.takes d 5 4140 = true → s.rxFor d = some r → r.established = true → r.base ≤ dPseq d → dPseq d ∉ r.got →
    dPseq d < r.base + s.rxWindow → r.find (numAt (dBody d) 0 4) = some o → s.takeSlots 1 = some (slot :: l) →
    advance (r.got.length + 1) r.base (insertNat (dPseq d) r.got) = (base, got) →
    r1 = { r with base := base, got := got, since := r.since + 1 } →
    u = (if o.st = 0 then (s.putRx r1).ingestData r1 o (numAt (dBody d) 4 4) (numAt (dBody d) 8 2) slot (slice (dBody d) 12 4128)
      else s.putRx r1) →
    v = (match u.mig.rx.find? (fun x => x.slot = r.slot) with
      | some x => if x.since ≥ 16 ∨ dPseq d ≠ r.got.foldl max (r.base - 1) + 1 then u.sendSack x else u
      | none => u) →
    exec (.data d) s = .next (if o.st = 1 then s else v.takeHeld.settled)) ∧
  (∀ (p obj : Nat) (s : State), s.tint.migSuspended = false →
    (∀ r o, s.mig.rx.find? (fun r => r.slot = p) = some r → r.find obj = some o → o.st ≠ 2) →
    exec (.receiveDurable p obj) s = .next s) ∧
  (∀ (p obj : Nat) (failed : Bool) (r : MigRx) (o : MigObj) (s a b : State), s.tint.migSuspended = false →
    s.mig.rx.find? (fun r => r.slot = p) = some r → r.find obj = some o → o.st = 2 →
    failed = (s.obj.jobs.any (fun j => o.recs.contains j.seq && (j.refused || j.noSector || s.mediaTimedOut j.actuator)) ||
      s.obj.recs.any (fun w => o.recs.contains w.seq && s.journalFull w.stream) ||
      (s.isSet Fld.FCL_STATUS_SAFE && s.obj.jobs.any (fun j => o.recs.contains j.seq))) →
    a = (match s.version o.key o.ver with | some v => s.withdrawVersion v o.recs | none => s) →
    b = (s.closeStripes.stat 0x8340 2 1).postEvent 548 0 0 obj 0 →
    exec (.receiveDurable p obj) s = .next (
      if failed = true then ((a.answer r o 7).takeHeld).settled
      else if s.obj.recs.any (fun w => o.recs.contains w.seq) = true ∨ s.obj.openStripes.all s.closable = false then s
      else ((b.answer r o 0).takeHeld).settled)) ∧
  (∀ (d : Dgram) (base : Nat) (t t1 : MigTx) (lost : List Nat) (s : State), s.tint.migSuspended = false → s.takes d 6 16 = true →
    s.txFor d = some t → t.phase = 2 ∨ t.phase = 3 → base = numAt (dBody d) 0 4 →
    t1 = { t with
      ackBase := max t.ackBase base, window := min 1024 (numAt (dBody d) 12 4),
      unacked := t.unacked.filter (fun u => !(decide (u.1 < base) ||
        (decide (u.1 > base) && decide (u.1 ≤ base + 64) && bitOf (numAt (dBody d) 4 8) (u.1 - base - 1)))) } →
    lost = (t1.unacked.filter (fun u => ((List.range 64).filter (fun i => bitOf (numAt (dBody d) 4 8) i &&
      decide (base + 1 + i > u.1))).length ≥ 3)).map (·.1) →
    exec (.sack d) s = .next (State.settled (State.migPump (lost.foldl State.resend (s.setMig { s.mig with tx := some t1 }))))) ∧
  (∀ (d : Dgram) (t : MigTx) (b : List Byte) (at_ : Pos) (s : State), s.tint.migSuspended = false → s.takes d 7 48 = true →
    s.txFor d = some t → t.phase = 2 ∨ t.phase = 3 → b = slice (dBody d) 0 16 →
    at_ = (match (t.offers.find? (fun o => o.obj = numAt b 0 4)).orElse (fun _ => t.offers.head?) with
      | some o => ⟨o.v.key, o.v.ver, true, 0⟩
      | none => t.back) →
    (slice (dBody d) 16 32 ≠ hmac256 t.ks b →
      exec (.result d) s = .next ((s.endMigrate t St.migAuth at_ (some 0)).authFail t.slot).settled) ∧
    (slice (dBody d) 16 32 = hmac256 t.ks b → t.offers.find? (fun o => o.obj = numAt b 0 4) = none →
      exec (.result d) s = .next s) ∧
    (slice (dBody d) 16 32 = hmac256 t.ks b → ∀ o, t.offers.find? (fun o => o.obj = numAt b 0 4) = some o → 2 ≤ numAt b 4 1 →
      exec (.result d) s = .next (((s.event 549 (numAt b 4 1)).stat 0x8340 3 1).endMigrate t
        (if numAt b 4 1 = 5 ∨ numAt b 4 1 = 6 then St.migPeerVerify else St.migPeerRefused) at_ (some 0)).settled)) ∧
  (∀ (d : Dgram) (t t1 : MigTx) (b : List Byte) (o : MigOffer) (s a u : State), s.tint.migSuspended = false → s.takes d 7 48 = true →
    s.txFor d = some t → t.phase = 2 ∨ t.phase = 3 → b = slice (dBody d) 0 16 → slice (dBody d) 16 32 = hmac256 t.ks b →
    t.offers.find? (fun o => o.obj = numAt b 0 4) = some o → numAt b 4 1 ≤ 1 →
    t1 = { t with
      offers := t.offers.filter (fun x => x.obj != o.obj), done := t.done + 1,
      unacked := t.unacked.filter (fun u => u.2.1 != o.obj), back := ⟨o.v.key, o.v.ver, false, 0⟩ } →
    a = s.setMig { s.mig with tx := some t1 } →
    u = (if numAt b 4 1 = 0 then (a.freeTiles (a.orphans s.heldSlots)).stat 0x8340 1 1 else a.freeTiles (a.orphans s.heldSlots)) →
    exec (.result d) s = .next (
      if t.abort = true then (u.endMigrate t1 St.aborted t1.back (some 0)).settled else u.migPump.settled)) ∧
  (∀ (p : Nat) (s : State), s.tint.migSuspended = false →
    (s.mig.rx.find? (fun r => r.slot = p) = none → exec (.sackTimer p) s = .next s) ∧
    (∀ r, s.mig.rx.find? (fun r => r.slot = p) = some r → exec (.sackTimer p) s = .next (
      if r.established = true ∧ 0 < r.since then s.sendSack r else s))) ∧
  (∀ (pseq : Nat) (s : State), s.tint.migSuspended = false → exec (.retransmitTimeout pseq) s = .next (s.resend pseq).settled) ∧
  (∀ (pseq : Nat) (t : MigTx) (u : Nat × Nat × Nat) (o : MigOffer) (sent : Bool) (s v : State), s.mig.tx = some t →
    t.unacked.find? (fun u => u.1 = pseq) = some u → t.offers.find? (fun o => o.obj = u.2.1) = some o →
    s.sendTile t o u.2.2 pseq = (v, sent) →
    s.resend pseq = if s.tileWaits o.v u.2.2 = true then s.setMig { s.mig with tx := some { t with late := insertNat pseq t.late } }
      else if sent = true then v.bumpF Fld.MIG_CNT_RETX 1 else v) ∧
  (∀ (pseq : Nat) (s : State), s.mig.tx = none ∨ (∃ t, s.mig.tx = some t ∧ t.unacked.find? (fun u => u.1 = pseq) = none) →
    s.resend pseq = s) ∧
  (∀ s : State, s.tint.migSuspended = false →
    (s.mig.tx = none → exec .keepaliveTimer s = .next s) ∧
    (∀ t, s.mig.tx = some t → exec .keepaliveTimer s = .next (
      if t.phase = 3 ∨ (t.phase = 2 ∧ t.window = 0) then s.sendMsg t.slot 8 t.session 0 [] else s))) ∧
  (∀ (d : Dgram) (r : MigRx) (s : State), s.tint.migSuspended = false → s.takes d 8 0 = true → s.rxFor d = some r →
    r.established = true → exec (.keepalive d) s = .next (s.sendSack r))

/-- While migration work is not suspended: a MIGRATE to a peer that waits completes with the status of its check, COOKIE_STALE,
MIG_NO_PAIRING, MIG_LINK_DOWN, or SUCCESS with nothing to send, or opens its session with HELLO; a second one waits. MIGRATE_TO_HOST
completes with the status of its check, COOKIE_STALE or TRANSFER_ERROR, waits while a tile of its units is out of reach or another MIGRATE
runs, and else writes its units and the end unit with NEXT and completes (R557 to R562). -/
def Obligations.MigrateCommandsRunTheirEffect : Prop :=
  (∀ (q t session : Nat) (h : HostData) (ns : List Byte) (s : State), s.tint.migSuspended = false →
    (s.command q t 0x49 = none ∨ (∃ x, s.command q t 0x49 = some x ∧ (migToHost x.entry = true ∨ x.stage = 3)) →
      exec (.migrate q t h session ns) s = .next s) ∧
    (s.command q t 0x49 = none ∨ (∃ x, s.command q t 0x49 = some x ∧ migToHost x.entry = false) →
      exec (.migrateToHost q t h) s = .next s)) ∧
  (∀ (q t session st : Nat) (h : HostData) (ns : List Byte) (x : Slot) (s : State), s.tint.migSuspended = false →
    s.command q t 0x49 = some x → migToHost x.entry = false → x.stage ≠ 3 →
    st = s.objectCheck x.entry h (migFields x.entry) [0] (fun _ => true) →
    (st ≠ 0 → exec (.migrate q t h session ns) s = .next (s.endWith x st).settled) ∧
    (st = 0 → s.mig.tx.isSome = true → exec (.migrate q t h session ns) s = .next s) ∧
    (st = 0 → s.mig.tx = none → s.migStart x.entry = none →
      exec (.migrate q t h session ns) s = .next (s.endWith x St.cookieStale).settled)) ∧
  (∀ (q t session : Nat) (h : HostData) (ns : List Byte) (x : Slot) (p : Pos) (s a : State), s.tint.migSuspended = false →
    s.command q t 0x49 = some x → migToHost x.entry = false → x.stage ≠ 3 →
    s.objectCheck x.entry h (migFields x.entry) [0] (fun _ => true) = 0 →
    s.mig.tx = none → s.migStart x.entry = some p → a = s.useCookie x.entry →
    exec (.migrate q t h session ns) s = .next (
      if s.pairKey (numAt x.entry 40 1) = none then (s.refuseMigrate x St.migNoPairing p).settled
      else if s.isSet Fld.ETH_STATUS_UP = false then (s.refuseMigrate x St.migLinkDown p).settled
      else if a.toMigrate (entKey x.entry) (entFlags x.entry % 256) p = [] then (a.complete x.qid x.tag St.success 0).settled
      else ((a.setSlot { x with stage := 3 }).sendHello
        { qid := q, tag := t, slot := numAt x.entry 40 1, key := entKey x.entry, bits := entFlags x.entry % 256,
          limit := numAt x.entry 44 4, phase := 1, session := 0, ns := [], ks := [], next := p, back := p, taken := 0, done := 0,
          abort := false, offers := [], nextObj := 1, ackBase := 1, window := 0, nextSeq := 1, unacked := [], late := [] }
        session ns 1).settled)) ∧
  (∀ (q t st : Nat) (h : HostData) (x : Slot) (s : State), s.tint.migSuspended = false → s.command q t 0x49 = some x →
    migToHost x.entry = true → st = s.objectCheck x.entry h (migFields x.entry) [1, 2, 3] (fun n => 1056896 ≤ n) →
    (st ≠ 0 → exec (.migrateToHost q t h) s = .next (s.endWith x st).settled) ∧
    (st = 0 → s.mig.tx.isSome = true → exec (.migrateToHost q t h) s = .next s) ∧
    (st = 0 → s.mig.tx = none → s.migStart x.entry = none →
      exec (.migrateToHost q t h) s = .next (s.endWith x St.cookieStale).settled)) ∧
  (∀ (q t skip st1 n : Nat) (h : HostData) (x : Slot) (p : Pos) (l : List Version) (b : List Byte) (stop : Pos) (s u w : State),
    s.tint.migSuspended = false → s.command q t 0x49 = some x → migToHost x.entry = true →
    s.objectCheck x.entry h (migFields x.entry) [1, 2, 3] (fun n => 1056896 ≤ n) = 0 → s.mig.tx = none →
    s.migStart x.entry = some p → l = s.toMigrate (entKey x.entry) (entFlags x.entry % 256) p →
    skip = (match l with | v :: _ => if p.here && v.key = p.key && v.ver = p.ver then p.segs else 0 | [] => 0) →
    s.units l skip (numAt x.entry 44 4) (entBufLen x.entry - 64) p = (u, st1, b, stop) →
    (u.useCookie x.entry).nextAt (entKey x.entry) (entFlags x.entry % 256) stop = (w, n) →
    exec (.migrateToHost q t h) s = .next (
      if (unitsRead (entBufLen x.entry - 64) (numAt x.entry 44 4) l).any (fun v => s.mustWait v 0 v.end_) = true then s
      else if s.transferOk (bufferPieces x.entry h) h = false then (s.endWith x St.transferError).settled
      else ((w.writeBuffer 8 (bufferPieces x.entry h) (b ++ endUnit n)).complete x.qid x.tag st1 (b ++ endUnit n).length).settled))

/-- While migration work is suspended, each command that is migration work joins the end of what waits for the next window, and changes
nothing else (R107). -/
def Obligations.SuspendedMigrationWorkWaits : Prop :=
  ∀ s : State, s.tint.migSuspended = true →
    (∀ (d : Dgram) (nr : List Byte), exec (.hello d nr) s = .next (s.setMig { s.mig with held := s.mig.held ++ [.hello d nr] })) ∧
    (∀ d : Dgram, exec (.helloAck d) s = .next (s.setMig { s.mig with held := s.mig.held ++ [.helloAck d] }) ∧
      exec (.confirm d) s = .next (s.setMig { s.mig with held := s.mig.held ++ [.confirm d] }) ∧
      exec (.offer d) s = .next (s.setMig { s.mig with held := s.mig.held ++ [.offer d] }) ∧
      exec (.data d) s = .next (s.setMig { s.mig with held := s.mig.held ++ [.data d] }) ∧
      exec (.sack d) s = .next (s.setMig { s.mig with held := s.mig.held ++ [.sack d] }) ∧
      exec (.result d) s = .next (s.setMig { s.mig with held := s.mig.held ++ [.result d] }) ∧
      exec (.keepalive d) s = .next (s.setMig { s.mig with held := s.mig.held ++ [.keepalive d] }) ∧
      exec (.close d) s = .next (s.setMig { s.mig with held := s.mig.held ++ [.close d] })) ∧
    (∀ (q t session : Nat) (h : HostData) (ns : List Byte), exec (.migrate q t h session ns) s =
      .next (s.setMig { s.mig with held := s.mig.held ++ [.migrate q t h session ns] })) ∧
    (∀ (q t : Nat) (h : HostData), exec (.migrateToHost q t h) s =
      .next (s.setMig { s.mig with held := s.mig.held ++ [.migrateToHost q t h] })) ∧
    (∀ p obj : Nat, exec (.receiveDurable p obj) s =
      .next (s.setMig { s.mig with held := s.mig.held ++ [.receiveDurable p obj] })) ∧
    (∀ p : Nat, exec (.sackTimer p) s = .next (s.setMig { s.mig with held := s.mig.held ++ [.sackTimer p] })) ∧
    (∀ pseq : Nat, exec (.retransmitTimeout pseq) s =
      .next (s.setMig { s.mig with held := s.mig.held ++ [.retransmitTimeout pseq] })) ∧
    exec .keepaliveTimer s = .next (s.setMig { s.mig with held := s.mig.held ++ [.keepaliveTimer] }) ∧
    (∀ (p : Option Nat) (session : Nat) (ns : List Byte), exec (.peerSilence p session ns) s =
      .next (s.setMig { s.mig with held := s.mig.held ++ [.peerSilence p session ns] })) ∧
    exec .migTimeout s = .next (s.setMig { s.mig with held := s.mig.held ++ [.migTimeout] })
/-- Whole frames on a node that serves GDP, each counted: READ answers the value, its code, or that it is too long, WRITE writes it, answers
with its code and starts what the write asks for; READ_INIT begins to send a value and WRITE_INIT to take one, each busy while a session of
another transfer runs and ending one of its own. SEGMENT takes the segment that is next, acknowledges every sixteenth, acknowledges again one
out of order, ends the write with the last, and is aborted without its session or out of the window; SEG_ACK of the last segment ends the
session, and of an earlier one sends on; ABORT ends the session, and KEEP keeps it and is answered, without a session with PROTOCOL. A frame
of another length counts as an error frame, one of another command of the list is none of this command, and one of no command of the list is
answered with PROTOCOL; a node that does not serve does nothing (R584 to R591). -/
def Obligations.GdpRequestsRunTheirEffect : Prop :=
  (∀ (f : List Byte) (a : ActIn) (s : State), ∀ p ∈ [(1, Instr.read f), (2, .write f a), (3, .readInit f), (4, .writeInit f a),
      (5, .segment f a), (6, .segAck f), (7, .gdpAbort f), (8, .keep f)],
    (s.gdpServes = false → exec p.2 s = .next s) ∧
    (s.gdpServes = true → f.length ≠ 64 → exec p.2 s = .next (s.bumpF Fld.CAN_CNT_ERRFRM 1)) ∧
    (s.gdpServes = true → f.length = 64 → numAt f 0 1 ≠ p.1 → 1 ≤ numAt f 0 1 → numAt f 0 1 ≤ 8 → exec p.2 s = .next s) ∧
    (s.gdpServes = true → f.length = 64 → numAt f 0 1 = 0 ∨ 8 < numAt f 0 1 →
      exec p.2 s = .next ((s.stat 0x8010 1 1).gdpRespond (numAt f 0 1 ||| 0x80) (frTid f) (frIndex f) (frSub f) Dr.protocol []))) ∧
  (∀ (f v : List Byte) (c : Nat) (s t : State), s.gdpServes = true → f.length = 64 → numAt f 0 1 = 1 →
    t = s.stat 0x8010 1 1 → t.dictRead (frIndex f) (frSub f) = (c, v) → exec (.read f) s = .next (
      if c ≠ Dr.ok then t.gdpRespond 0x81 (frTid f) (frIndex f) (frSub f) c []
      else if 56 < v.length then t.gdpRespond 0x81 (frTid f) (frIndex f) (frSub f) Dr.tooLong []
      else t.gdpRespond 0x81 (frTid f) (frIndex f) (frSub f) Dr.ok v)) ∧
  (∀ (f : List Byte) (a : ActIn) (c : Nat) (s t u : State), s.gdpServes = true → f.length = 64 → numAt f 0 1 = 2 →
    t = s.stat 0x8010 1 1 → t.dictWrite true (frIndex f) (frSub f) (slice f 8 (frLen f)) a = (u, c) →
    exec (.write f a) s = .next (
      if 56 < frLen f then t.gdpRespond 0x82 (frTid f) (frIndex f) (frSub f) Dr.protocol []
      else if c = Dr.ok then (u.gdpRespond 0x82 (frTid f) (frIndex f) (frSub f) c []).dictAfter (frIndex f) (frSub f)
        (slice f 8 (frLen f)) a
      else u.gdpRespond 0x82 (frTid f) (frIndex f) (frSub f) c [])) ∧
  (∀ (f v : List Byte) (c : Nat) (s t u : State), s.gdpServes = true → f.length = 64 → numAt f 0 1 = 3 → t = s.stat 0x8010 1 1 →
    u = (if t.can.session.isSome then t.abortSession else t) → u.dictRead (frIndex f) (frSub f) = (c, v) →
    exec (.readInit f) s = .next (
      if t.sessionTaken (frTid f) = true then t.gdpRespond 0x83 (frTid f) (frIndex f) (frSub f) Dr.busy []
      else if c ≠ Dr.ok then u.gdpRespond 0x83 (frTid f) (frIndex f) (frSub f) c []
      else (u.gdpRespond 0x83 (frTid f) (frIndex f) (frSub f) Dr.ok (leBytes 4 v.length)).sendSegments
        ⟨frTid f, frIndex f, frSub f, false, v.length, 0, 0, 0, false, v⟩)) ∧
  (∀ (f : List Byte) (a : ActIn) (c : Nat) (x : GdpSession) (s t u v : State), s.gdpServes = true → f.length = 64 → numAt f 0 1 = 4 →
    t = s.stat 0x8010 1 1 → u = (if t.can.session.isSome then t.abortSession else t) →
    c = u.precheck true (frIndex f) (frSub f) (numAt f 8 4) →
    v = u.gdpRespond 0x84 (frTid f) (frIndex f) (frSub f) Dr.ok (leBytes 2 16) →
    x = ⟨frTid f, frIndex f, frSub f, true, numAt f 8 4, 0, 0, 0, false, []⟩ →
    exec (.writeInit f a) s = .next (
      if t.sessionTaken (frTid f) = true then t.gdpRespond 0x84 (frTid f) (frIndex f) (frSub f) Dr.busy []
      else if c = Dr.access then (u.tellBlocked true (frIndex f) (frSub f)).gdpRespond 0x84 (frTid f) (frIndex f) (frSub f) c []
      else if c ≠ Dr.ok then u.gdpRespond 0x84 (frTid f) (frIndex f) (frSub f) c []
      else if numAt f 8 4 = 0 then v.finishWrite x a else v.setSession (some x))) ∧
  (∀ (f : List Byte) (a : ActIn) (s t : State), s.gdpServes = true → f.length = 64 → t = s.stat 0x8010 1 1 →
    t.can.session = none →
    (numAt f 0 1 = 5 → exec (.segment f a) s = .next (t.gdpAbort (frTid f) 0 0 Dr.protocol)) ∧
    (numAt f 0 1 = 6 → exec (.segAck f) s = .next (t.gdpAbort (frTid f) 0 0 Dr.protocol)) ∧
    (numAt f 0 1 = 7 → exec (.gdpAbort f) s = .next t) ∧
    (numAt f 0 1 = 8 → exec (.keep f) s = .next (t.gdpRespond 0x88 (frTid f) (frIndex f) (frSub f) Dr.protocol []))) ∧
  (∀ (f : List Byte) (a : ActIn) (x x1 : GdpSession) (s t u v : State), s.gdpServes = true → f.length = 64 → numAt f 0 1 = 5 →
    t = s.stat 0x8010 1 1 → t.can.session = some x →
    x1 = { x with next := x.next + 1, since := (x.since + 1) % 16, value := x.value ++ slice f 4 60 } →
    u = t.setSession (some x1) → v = (if x1.since = 0 then u.gdpAck (frTid f) x1.next else u) →
    exec (.segment f a) s = .next (
      if x.write = false ∨ x.tid ≠ frTid f then t.gdpAbort (frTid f) 0 0 Dr.protocol
      else if x.next + 16 ≤ frSeq f ∨ segCount x.size ≤ frSeq f then t.abortSession.gdpAbort (frTid f) x.index x.sub Dr.protocol
      else if frSeq f ≠ x.next then t.gdpAck (frTid f) x.next
      else if x1.next = segCount x.size then v.finishWrite x1 a else v)) ∧
  (∀ (f : List Byte) (x : GdpSession) (s t : State), s.gdpServes = true → f.length = 64 → numAt f 0 1 = 6 →
    t = s.stat 0x8010 1 1 → t.can.session = some x →
    exec (.segAck f) s = .next (
      if x.write = true ∨ x.tid ≠ frTid f then t.gdpAbort (frTid f) 0 0 Dr.protocol
      else if x.sent < frSeq f then t.abortSession.gdpAbort (frTid f) x.index x.sub Dr.protocol
      else if frSeq f = segCount x.size then t.setSession none
      else t.sendSegments { x with next := frSeq f, sent := frSeq f, resent := false })) ∧
  (∀ (f : List Byte) (x : GdpSession) (s t : State), s.gdpServes = true → f.length = 64 →
    t = s.stat 0x8010 1 1 → t.can.session = some x →
    (numAt f 0 1 = 7 → exec (.gdpAbort f) s = .next (if x.tid = frTid f then (t.setSession none).stat 0x8010 5 1 else t)) ∧
    (numAt f 0 1 = 8 → exec (.keep f) s = .next (
      if x.tid = frTid f then (t.setSession (some { x with resent := false })).gdpRespond 0x88 (frTid f) (frIndex f) (frSub f) Dr.ok []
      else t.gdpRespond 0x88 (frTid f) (frIndex f) (frSub f) Dr.protocol [])))

/-- SESSION_TIMEOUT ends the session with ABORT, and SEGMENT_RESEND sends a read session's segments from NEXT once; without a session, or a
second time, nothing happens. BUS_OFF sets STATE 2, counts and raises source 416, BUS_OFF_RECOVERY returns to STATE 0 with both error counts
0 and sends what waited, but for events past their time, and ERROR_PASSIVE_TIMEOUT raises source 417, the first and the last on a node at
work alone. RESTORE_DEFAULTS once Slate is done stores the default of each stored value it restores, or raises source 419 where bank 3 can
take no value, and before that does nothing (R575, R576, R591, R593, R595, R641). -/
def Obligations.GdpTimersAndBusStatesRunTheirEffect : Prop :=
  (∀ s : State, s.can.session = none → exec .sessionTimeout s = .next s ∧ exec .segmentResend s = .next s) ∧
  (∀ (x : GdpSession) (s : State), s.can.session = some x →
    exec .sessionTimeout s = .next (s.abortSession.gdpAbort x.tid x.index x.sub Dr.timeout) ∧
    exec .segmentResend s = .next (
      if x.write = true ∨ x.resent = true then s else s.sendSegments { x with sent := x.next, resent := true })) ∧
  (∀ s : State, exec .busOff s = .next (
    if s.canNode = true ∧ s.getF Fld.CAN_STATUS_STATE ≠ 2 then
      ((s.setF Fld.CAN_STATUS_STATE 2).bumpF Fld.CAN_CNT_BUSOFF 1).raise 416 0 0 else s)) ∧
  (∀ s : State, s.getF Fld.CAN_STATUS_STATE ≠ 2 → exec .busOffRecovery s = .next s) ∧
  (∀ s u : State, s.getF Fld.CAN_STATUS_STATE = 2 →
    u = ((s.setF Fld.CAN_STATUS_STATE 0).setF Fld.CAN_ERR_TEC 0).setF Fld.CAN_ERR_REC 0 →
    exec .busOffRecovery s = .next (s.can.unsent.foldl (fun (t : State) w =>
      if (w.2.1 == 0x380 + s.ash.nodeId.toNat && decide (s.pwr.timeUs ≥ w.1 + 1000 * s.dictNum 0x1200 5)) = true then t
      else t.canSend w.2.1 w.2.2) { u with can := { u.can with unsent := [] } })) ∧
  (∀ s : State, exec .errorPassiveTimeout s = .next (
    if s.canNode = true ∧ s.getF Fld.CAN_STATUS_STATE < 2 then (s.setF Fld.CAN_STATUS_STATE 1).raise 417 0 0 else s)) ∧
  (∀ s : State, s.boot.slateDone = false → exec .restoreDefaults s = .next s) ∧
  (∀ s : State, s.boot.slateDone = true → exec .restoreDefaults s = .next (
    if s.bank3Full = true then s.raise 419 0 0
    else (s.bank3.filter (fun p => match dictRowAt (p.1 / 256) (p.1 % 256) with
        | some r => r.acc == .rwp && decide (0x2000 ≤ p.1 / 256) && decide (p.1 / 256 ≤ 0x6FFF) && !restoreExcluded (p.1 / 256)
        | none => false)).foldl (fun (t : State) p =>
      t.storeValue (p.1 / 256) (p.1 % 256) ((entryDefault s.factory.gradeX p.1).getD [])) s))
/-- LIFECYCLE_TRANSITION that is allowed clears what the new state must not hold, blows its fuses, records the new state and starts the part
again, or stops where it is cut, and one that is not allowed changes nothing. UNLOCK in Manufacture or Returned with the password unlocks, a
wrong one counts, and the eighth sets LOCKOUT under source 116, after which nothing is taken. NEW_PASSWORD is taken in Manufacture while
there is none or nothing is locked, and outside it not at all. RELOCK sets the locked regions again; SCAN_ENABLE in Manufacture or Returned
drops the keys and sessions and holds the core die, once; RNG_HEALTH_TEST clears the failure, or counts and records one under source 432
(R634 to R636, R657 to R663, R673). -/
def Obligations.LifeCycleAndPasswordRowsRunTheirEffect : Prop :=
  (∀ (req : Nat) (cut : Option Nat) (i : SlateInputs) (s : State), s.transitionStatus req ≠ Dr.ok →
    exec (.lifecycleTransition req cut i) s = .next s) ∧
  (∀ (req : Nat) (i : SlateInputs) (s : State), s.transitionStatus req = Dr.ok →
    exec (.lifecycleTransition req none i) s = .next (((s.transitionBegin req).lifeCycleSteps (s.transitionBegin req).lcm.pending
      none).warmReset Fld.PLT_RSTCAUSE_FIRMWARE |>.slateRun i) ∧
    ∀ n, exec (.lifecycleTransition req (some n) i) s =
      .next ((s.transitionBegin req).lifeCycleSteps (s.transitionBegin req).lcm.pending (some n))) ∧
  (∀ (t : Nat) (s u : State), u = s.lifeCycleClear t →
    s.lifeCycleSteps t none =
      ({ u with lcm := { u.lcm with fuse := BitVec.ofNat 32 (blowFuses u.lcm.fuse.toNat t 32) } } : State).lifeCycleRecord t ∧
    ∀ n, s.lifeCycleSteps t (some n) = { u with lcm := { u.lcm with fuse := BitVec.ofNat 32 (blowFuses u.lcm.fuse.toNat t n) } }) ∧
  (∀ (pw : List Byte) (s : State), (s.manufacture = false ∧ s.returned = false) ∨ s.isSet Fld.NVC_PROT_LOCKOUT = true →
    exec (.unlock pw) s = .next s) ∧
  (∀ (pw : List Byte) (n : Nat) (s : State), s.manufacture = true ∨ s.returned = true → s.isSet Fld.NVC_PROT_LOCKOUT = false →
    n = s.getF Fld.NVC_PROT_ATTEMPTS + 1 →
    exec (.unlock pw) s = .next (
      if s.nvc.pwdHash = some (s.passwordHash pw) then (s.setF Fld.NVC_PROT_LOCKED 0).setF Fld.NVC_PROT_ATTEMPTS 0
      else if n < 8 then s.setF Fld.NVC_PROT_ATTEMPTS n
      else ((s.setF Fld.NVC_PROT_ATTEMPTS n).setF Fld.NVC_PROT_LOCKOUT 1).raise 116 0 0)) ∧
  (∀ (pw : List Byte) (s : State), exec (.newPassword pw) s = .next (
    if s.manufacture = true ∧ (s.nvc.pwdHash = none ∨ s.getF Fld.NVC_PROT_LOCKED = 0) then
      ({ s with nvc := { s.nvc with pwdHash := some (s.passwordHash pw) } } : State).stat 0x8220 1 1 else s)) ∧
  (∀ s : State, exec .relock s = .next (s.setF Fld.NVC_PROT_LOCKED s.lockMask)) ∧
  (∀ s : State, (s.manufacture = false ∧ s.returned = false) ∨ s.lcm.scanOpen = true → exec .scanEnable s = .next s) ∧
  (∀ s a b c : State, s.manufacture = true ∨ s.returned = true → s.lcm.scanOpen = false → a = (s.setKeys 0 0).setKeys 1 0 →
    b = ({ a with cxc := { a.cxc with spdm := false }, mig := a.mig.dropSessions } : State).raise 434 0 0 →
    c = ({ b with lcm := { b.lcm with gated := true, scanOpen := true } } : State).intoReset →
    exec .scanEnable s = .next { c with pwr := { c.pwr with held := true } }) ∧
  (∀ s : State, exec (.rngHealthTest true) s = .next { s with lcm := { s.lcm with rngBad := false } }) ∧
  (∀ s : State, exec (.rngHealthTest false) s =
    .next ((({ s with lcm := { s.lcm with rngBad := true } } : State).bumpF Fld.KEY_RNG_FAILS 1).raise 432 0 0))

/-- TEST_START and EXTENDED_MEMORY_TEST that are allowed show BUSY, and a test of a unit takes the unit; one during a reaction, in a life
cycle that does not allow it or of no unit is refused, and one while a test runs changes nothing. TEST_COMPLETE shows the result, counts the
repair fuses that an extended memory test used, and raises source 98 for a failed check and source 96 for another failure or when the fuses
run out. LOOPBACK_START begins a loopback that is allowed, which takes its link down, and refuses another with RESULT 3; LOOPBACK_STOP and
LOOPBACK_END end it with its counts and source 97 for a failure. TEST_HOLD enters or leaves the hold by a warm reset, and changes nothing
when nothing is to change (R665 to R671). -/
def Obligations.TestsAndLoopbacksRunTheirEffect : Prop :=
  (∀ (test u : Nat) (s : State), s.tst.test ≠ 0 → exec (.testStart test u) s = .next s ∧ exec .extendedMemoryTest s = .next s) ∧
  (∀ (test u : Nat) (s a b : State), s.tst.test = 0 → a = (s.setF Fld.TST_CTRL_TEST test).setF Fld.TST_CTRL_UNIT u →
    b = ({ a with tst := { a.tst with test := test } } : State).setReg Fld.TST_STATUS_BUSY.addr 0x80000000 →
    exec (.testStart test u) s = .next (
      if a.fcl.reaction.isSome ∨ a.testAllowed test = false ∨ 27 < u then a.setF Fld.TST_STATUS_RESULT 3
      else if test = 3 ∨ test = 5 then b else b.isolate u)) ∧
  (∀ s a : State, s.tst.test = 0 → a = (s.setF Fld.TST_CTRL_TEST 3).setF Fld.TST_CTRL_UNIT 0 →
    exec .extendedMemoryTest s = .next (
      if a.fcl.reaction.isSome ∨ a.testAllowed 3 = false then a.setF Fld.TST_STATUS_RESULT 3
      else ({ a with tst := { a.tst with test := 3 } } : State).setReg Fld.TST_STATUS_BUSY.addr 0x80000000)) ∧
  (∀ (pass : Bool) (detail entries : Nat) (s : State), s.tst.test = 0 → exec (.testComplete pass detail entries) s = .next s) ∧
  (∀ (pass : Bool) (detail entries : Nat) (s u v : State), s.tst.test ≠ 0 → s.tst.test ≠ 3 →
    u = s.testOver (if pass then 1 else 2) detail → v = { u with lcm := { u.lcm with repairFuses := s.lcm.repairFuses } } →
    exec (.testComplete pass detail entries) s = .next (
      if pass = true then v else (v.stat 0x8030 1 1).raise (if s.tst.test = 5 then 98 else 96) 0 0)) ∧
  (∀ (pass good : Bool) (detail entries : Nat) (s u v : State), s.tst.test = 3 →
    good = (pass && decide (s.lcm.repairFuses + entries ≤ 1024)) → u = s.testOver (if good then 1 else 2) detail →
    v = { u with lcm := { u.lcm with repairFuses := min 1024 (s.lcm.repairFuses + entries) } } →
    exec (.testComplete pass detail entries) s = .next (if good = true then v else (v.stat 0x8030 1 1).raise 96 0 0)) ∧
  (∀ (cfg path : Nat) (ti : Bool) (s : State), s.tst.loop = true → exec (.loopbackStart cfg path ti) s = .next s) ∧
  (∀ (cfg path iface depth : Nat) (ti : Bool) (s u v : State), s.tst.loop = false →
    u = s.setReg Fld.TST_LBCTL_GO.addr (BitVec.ofNat 32 (cfg &&& 0x073FCFFF)) → iface = u.getF Fld.TST_LBCTL_IF →
    depth = u.getF Fld.TST_LBCTL_DEPTH →
    v = ({ u with tst := { u.tst with loop := true, lbBits := 0 } } : State).setReg Fld.TST_LBSTAT_BUSY.addr 0x80000000 →
    exec (.loopbackStart cfg path ti) s = .next (
      if u.loopAllowed iface depth (u.getF Fld.TST_LBCTL_LANE) path ti = false then u.setF Fld.TST_LBSTAT_RESULT 3
      else if iface = 1 then v.ethDown
      else if iface = 0 then
        (if depth ≠ 3 ∧ v.isSet Fld.CXC_LINK_UP = true then v.hostReset true else v).setF Fld.CXC_LINK_LTSSM
          (if depth = 3 then 0x21 else 0x22)
      else v)) ∧
  (∀ (errors bits : Nat) (ok : Bool) (s : State), exec (.loopbackStop errors bits ok) s = .next (s.endLoop errors bits ok) ∧
    exec (.loopbackEnd errors bits ok) s = .next (s.endLoop errors bits ok)) ∧
  (∀ (errors bits : Nat) (ok good : Bool) (s a b c : State),
    good = (ok && (decide (3 ≤ s.getF Fld.TST_LBCTL_IF) || decide (errors = 0))) →
    a = (if s.getF Fld.TST_LBCTL_IF = 0 then s.setF Fld.CXC_LINK_LTSSM (if s.isSet Fld.CXC_LINK_UP then 0x18 else 0) else s) →
    b = { a with tst := { a.tst with loop := false, lbBits := bits % 2 ^ 64 } } →
    c = ((b.setF Fld.TST_LBSTAT_BUSY 0).setF Fld.TST_LBSTAT_RESULT (if good then 1 else 2)).setF Fld.TST_LBSTAT_ERRORS
      (min errors (2 ^ 28 - 1)) →
    s.endLoop errors bits ok = if s.tst.loop = false then s else if good = true then c else (c.stat 0x8030 2 1).raise 97 0 0) ∧
  (∀ (enter : Bool) (i : SlateInputs) (s : State), exec (.testHold enter i) s = .next (
    if s.tst.hold = enter then s
    else (({ s with tst := { s.tst with hold := enter } } : State).warmReset Fld.PLT_RSTCAUSE_FIRMWARE).slateRun i))

/-- NVC_PROGRAM and NVC_ERASE of a block that NVC does not refuse begin the operation, of one it refuses leave its code with no pulse, and
of no block of the die, or while an operation runs, neither is taken. NVC_OPERATION_DONE programs, erases or records the failure, with the
event log that waited programmed after it, and without an operation does nothing; a unit of the flash reads as programmed, and every other
one as before (R625 to R627, R634, R637, R643). -/
def Obligations.FlashOperationsRunTheirEffect : Prop :=
  (∀ (block : Nat) (s : State), s.nvc.op.isSome = true ∨ 2048 ≤ block → exec (.nvcErase block) s = .next s) ∧
  (∀ (block : Nat) (s u : State), s.nvc.op = none → block < 2048 → u = s.flashCmd 2 block 0 0 1 →
    (u.refusesFlash block = none → exec (.nvcErase block) s = .next (((({ u with
      nvc := { u.nvc with op := some ⟨true, block, 2048 * block, []⟩ } } : State).setF Fld.NVC_STATUS_BUSY 1).setF
        Fld.NVC_STATUS_OP 2).setF Fld.NVC_STATUS_RESULT 0)) ∧
    (∀ r, u.refusesFlash block = some r → exec (.nvcErase block) s = .next (u.flashResult 2 r 0))) ∧
  (∀ (block page first : Nat) (data : List Byte) (s : State), s.nvc.op.isSome = true ∨ 2048 ≤ block ∨ 256 ≤ page ∨
    data.length % 32 ≠ 0 ∨ data.length / 32 = 0 ∨ 8 < first + data.length / 32 →
    exec (.nvcProgram block page first data) s = .next s) ∧
  (∀ (block page first n : Nat) (data : List Byte) (s u : State), s.nvc.op = none → block < 2048 → page < 256 →
    data.length % 32 = 0 → n = data.length / 32 → 1 ≤ n → first + n ≤ 8 →
    u = (List.range (8 * n)).foldl (fun (t : State) i => t.setReg (Fld.NVC_BUF_DATA i).addr (BitVec.ofNat 32
      (numAt data (4 * i) 4))) (s.flashCmd 1 block page first n) →
    (u.refusesFlash block = none → exec (.nvcProgram block page first data) s = .next (((({ u with nvc := { u.nvc with
      op := some ⟨false, block, 2048 * block + page * 8 + first, data⟩ } } : State).setF Fld.NVC_STATUS_BUSY 1).setF
        Fld.NVC_STATUS_OP 1).setF Fld.NVC_STATUS_RESULT 0)) ∧
    (∀ r, u.refusesFlash block = some r → exec (.nvcProgram block page first data) s = .next (u.flashResult 1 r 0))) ∧
  (∀ (ok : Bool) (pulses : Nat) (s : State), s.nvc.op = none → exec (.nvcOperationDone ok pulses) s = .next s) ∧
  (∀ (pulses : Nat) (o : FlashOp) (s u : State), s.nvc.op = some o → u = { s with nvc := { s.nvc with op := none } } →
    exec (.nvcOperationDone false pulses) s = .next (u.flashFails o).drainLog ∧
    exec (.nvcOperationDone true pulses) s = .next (
      if o.erase = true then (((u.blockErased o.block).flashResult 2 0 pulses).stat 0x8220 2 1).drainLog
      else (((u.programUnits o.unit0 o.data).flashResult 1 0 pulses).stat 0x8220 1 1).drainLog)) ∧
  (∀ (u : Nat) (bs : List Byte) (s : State), s.programmed u = none →
    (s.programUnit u bs).flashUnit u = bs ∧ ∀ w, w ≠ u → (s.programUnit u bs).flashUnit w = s.flashUnit w)
/-- FAULT_MESSAGE of a named source, from a die that runs, takes the unit's own action and is collected once while a copy is in order, each
corrupt copy counted, of the motion die through its own link; of no named source, or out of the fields of a message, it is ignored.
REACTION_END ends the reaction, one of severity 3 once the heads are on the ramps; REACTION_TIMEOUT raises source 50 and turns a reaction of
severity 2 into one of severity 3. STORAGE_COMPARE records whether the copies agree, and source 48 when they do not. CLEAR_STICKY clears a
set bit that may be cleared and releases what it held, and CLEAR_ALL_STICKY each set one; with the core die not running neither does
anything (R596 to R612). -/
def Obligations.FaultMessagesRunTheirEffect : Prop :=
  (∀ (src kind addr : Nat) (ok1 ok2 : Bool) (s : State), namedSource src = false ∨ 63 < kind ∨ 2 ^ 48 ≤ addr ∨
    (s.coreRuns = false ∧ src < 448 ∧ (src ≤ 352 ∨ 368 ≤ src)) → exec (.faultMessage src kind addr ok1 ok2) s = .next s) ∧
  (∀ (src kind addr : Nat) (ok1 ok2 : Bool) (s a b c : State), namedSource src = true → kind ≤ 63 → addr < 2 ^ 48 →
    s.coreRuns = true ∨ 448 ≤ src ∨ (352 < src ∧ src < 368) → a = s.localAction src addr → b = (if ok1 then a else a.corruptCopy) →
    c = (if ok2 then b else b.corruptCopy) →
    exec (.faultMessage src kind addr ok1 ok2) s = .next (
      if ok1 = false ∧ ok2 = false then c else if 352 < src ∧ src < 368 then c.raiseMotion src kind addr else c.raise src kind addr)) ∧
  (∀ s : State, s.fcl.reaction = none → exec .reactionEnd s = .next s ∧ exec .reactionTimeout s = .next s) ∧
  (∀ (r : Reaction) (s : State), s.fcl.reaction = some r →
    exec .reactionEnd s = .next (
      if r.sev = 3 ∧ s.offRamp = true then s
      else ({ s with fcl := { s.fcl with reaction := none } } : State).setF Fld.FCL_STATUS_REACT 0) ∧
    (r.sev ≠ 2 → exec .reactionTimeout s = .next s)) ∧
  (∀ (r : Reaction) (s u : State), s.fcl.reaction = some r → r.sev = 2 → u = s.raise 50 0 0 →
    (u.fcl.reaction = none → exec .reactionTimeout s = .next u) ∧
    (∀ q, u.fcl.reaction = some q → exec .reactionTimeout s = .next (
      if q.sev = 3 then u
      else (((({ u with fcl := { u.fcl with reaction := some { q with sev := 3 } } } : State).setF Fld.FCL_STATUS_REACTSEV 3).stat 0x8020
        3 1).enterSafe q.first).settle))) ∧
  (∀ s : State, exec (.storageCompare true) s = .next { s with fcl := { s.fcl with storageSplit := false } }) ∧
  (∀ s : State, exec (.storageCompare false) s =
    .next (({ s with fcl := { s.fcl with storageSplit := true } } : State).raise 48 0 0)) ∧
  (∀ (src : Nat) (s : State), exec (.clearSticky src) s = .next (
    if s.coreRuns = true ∧ src ≤ 511 ∧ s.sticky src = true ∧ s.mayClear src = true then
      ((s.setSticky src false).releaseCleared).leaveSafe else s)) ∧
  (∀ s : State, exec .clearAllSticky s = .next (if s.coreRuns = true then s.stickySources.foldl State.clearSticky s else s))

/-- With the core die running, WATCHDOG_EXPIRY and LOCKSTEP_MISMATCH raise the pair's source and reset its domain, the Platform pair by a
warm reset; during boot a mismatch fails Slate with code 0x06. With the core die not running, or of no pair, nothing happens (R26, R77,
R617). -/
def Obligations.WatchdogsAndLockstepRunTheirEffect : Prop :=
  (∀ (i : SlateInputs) (s : State), s.coreRuns = true → exec (.watchdogExpiry 0 i) s =
    .next (((s.raise 9 0 0).warmReset Fld.PLT_RSTCAUSE_WDOG).slateRun i)) ∧
  (∀ (w : Nat) (i : SlateInputs) (s : State), s.coreRuns = true → w ∈ [1, 2, 3] → exec (.watchdogExpiry w i) s =
    .next ((s.raise (9 + w) 0 0).requestDomain (3 + w))) ∧
  (∀ (i : SlateInputs) (s : State), s.coreRuns = true → exec (.watchdogExpiry 4 i) s =
    .next ((s.raise 13 0 0).requestDomain 3)) ∧
  (∀ (i : SlateInputs) (s : State), s.coreRuns = true → s.boot.slateDone = true → exec (.lockstepMismatch 0 i) s =
    .next (((s.raise 4 0 0).warmReset Fld.PLT_RSTCAUSE_LOCKSTEP).slateRun i)) ∧
  (∀ (p : Nat) (i : SlateInputs) (s : State), s.coreRuns = true → s.boot.slateDone = true → p ∈ [1, 2, 3] →
    exec (.lockstepMismatch p i) s = .next ((s.raise (4 + p) 0 0).requestDomain (3 + p))) ∧
  (∀ (p : Nat) (i : SlateInputs) (s : State), s.coreRuns = true → s.boot.slateDone = false → p ≤ 3 →
    exec (.lockstepMismatch p i) s = .next ((s.raise (4 + p) 0 0).slateFail 0x06)) ∧
  (∀ (w : Nat) (i : SlateInputs) (s : State), s.coreRuns = false ∨ 4 < w →
    exec (.watchdogExpiry w i) s = .next s ∧ exec (.lockstepMismatch w i) s = .next s)

/-- With the BARs off both are unsupported. An RC_REGISTER_READ of BAR0 answers its words and clears the RC fields it includes; BAR2 reads
zero and BAR4 its vectors; a bad shape, an offset outside the BAR and a lost motion die's register are aborted. A REGISTER_WRITE of a good
shape takes each word by the register's access in BAR0 and the vectors in BAR4; a bad shape in BAR0 is aborted, and a lost motion die's
register, BAR2 and the rest take nothing. An offset without a register, outside the component registers, reads zero and takes nothing.
COUNTER_ACCUMULATE adds what the links counted, raises source 369 and 384 past their thresholds, and adds to the 64-bit totals;
STATISTICS_STORE stores them in place of the stored ones unless their area is full; both with the core die running alone (R5 to R9, R20,
R394, R395, R574). -/
def Obligations.RegisterAccessesRunTheirEffect : Prop :=
  (∀ (bar off width data : Nat) (s : State), s.barsOn = false → exec (.rcRegisterRead bar off width) s = .next (s.emit .unsupported) ∧
    exec (.registerWrite bar off width data) s = .next (s.emit .unsupported)) ∧
  (∀ (bar off width : Nat) (s : State), s.barsOn = true → accessFits off width = false ∨ (bar = 0 ∧ 256 * mib ≤ off) ∨
    (bar = 0 ∧ s.mfeLost off = true) ∨ (bar = 2 ∧ 8 * mib ≤ off) ∨ (bar = 4 ∧ bar4Inside off = false) ∨ (bar ≠ 0 ∧ bar ≠ 2 ∧ bar ≠ 4) →
    exec (.rcRegisterRead bar off width) s = .next (s.emit .completerAbort)) ∧
  (∀ (off width : Nat) (s : State), s.barsOn = true → accessFits off width = true →
    (off < 256 * mib → s.mfeLost off = false → exec (.rcRegisterRead 0 off width) s = .next ((accessWords off width).foldl State.clearRead
      (s.emit (.completion ((accessWords off width).flatMap (fun a => leBytes 4 (s.readReg a).toNat)))))) ∧
    (off < 8 * mib → exec (.rcRegisterRead 2 off width) s = .next (s.emit (.completion (zeros width)))) ∧
    (bar4Inside off = true → exec (.rcRegisterRead 4 off width) s = .next (s.emit (.completion ((accessWords off width).flatMap
      (fun a => leBytes 4 (s.readBar4 a))))))) ∧
  (∀ (off width data : Nat) (ws : List (Nat × Nat)) (s : State), s.barsOn = true →
    ws = (List.range (width / 4)).map (fun i => (off + 4 * i, data / 2 ^ (32 * i) % 2 ^ 32)) →
    (off < 256 * mib → exec (.registerWrite 0 off width data) s = .next (
      if accessFits off width = false then s.emit .completerAbort else if s.mfeLost off = true then s
      else ws.foldl (fun (t : State) p => t.writeReg p.1 (BitVec.ofNat 32 p.2)) s)) ∧
    exec (.registerWrite 4 off width data) s = .next (
      if accessFits off width = true then ws.foldl (fun (t : State) p => t.writeBar4 p.1 p.2) s else s)) ∧
  (∀ (bar off width data : Nat) (s : State), s.barsOn = true → bar ≠ 4 → bar ≠ 0 ∨ 256 * mib ≤ off →
    exec (.registerWrite bar off width data) s = .next s) ∧
  (∀ (a : Nat) (v : Word) (s : State), regRowAt a = none → componentOffset a = none → s.readReg a = 0 ∧ s.writeReg a v = s ∧ s.clearRead a = s) ∧
  (∀ (links : Nat × Nat × Nat × Nat) (s : State), s.coreRuns = false → exec (.counterAccumulate links) s = .next s ∧
    exec .statisticsStore s = .next s) ∧
  (∀ (links : Nat × Nat × Nat × Nat) (s a b c : State), s.coreRuns = true →
    a = (((s.bumpF Fld.CXC_ERRCNT_CRCRETRY links.1).bumpF Fld.CXC_ERRCNT_REPLAY links.2.1).bumpF Fld.ETH_FECCNT_CORR links.2.2.1).bumpF
      Fld.ETH_FECCNT_UNCORR links.2.2.2 →
    b = (if s.getF Fld.CXC_LINKCAP_CRC_TH < links.1 then
      ({ a with cxc := { a.cxc with rasCorr := a.cxc.rasCorr ||| 4 } } : State).raise 369 0 0 else a) →
    c = (if 100 < links.2.2.2 then b.raise 384 0 0 else b) →
    exec (.counterAccumulate links) s = .next (accumulated.foldl State.accumulate c)) ∧
  (∀ s : State, s.coreRuns = true → exec .statisticsStore s = .next (
    if s.areaFull 3 = true then s
    else { s with bank3 :=
      (s.dict.filter (fun p => statsKey p.1)).foldl (fun m p => Assoc.put m p.1 p.2) (s.bank3.filter (fun p => !statsKey p.1)) }))
/-- With a command at the front of the queue, a step is exec of that command on the state with the queue's rest; with nothing waiting
one microsecond of the model's clock passes while the supply is good, and nothing else changes (the model's choice, assumption log 2). -/
def Obligations.StepRunsTheFrontCommand : Prop :=
  (∀ (c : Instr) (rest : List Instr) (s : State), s.pending = c :: rest → step s = exec c { s with pending := rest }) ∧
  (∀ s : State, s.pending = [] → step s = .next s.tick) ∧
  (∀ s : State, s.tick = { s with pwr := { s.pwr with timeUs := s.pwr.timeUs + (if s.pwr.good then 1 else 0) } })

/-- In State.reset every register holds its reset word and every entry its default, nothing waits, no fault is sticky, and every store is
in canonical form; the values that only the model names (assumption logs 2 and 4) are its choice. -/
def Obligations.ResetStateIsAsStated : Prop :=
  (∀ a, State.reset.reg a = resetWord a) ∧
  (∀ i j, State.reset.dictBytes i j = match dictRowAt i j with | some r => dictDefault r false i j | none => []) ∧
  (∀ a, State.reset.lineByte a = 0) ∧ State.reset.pending = [] ∧ State.reset.out = [] ∧ State.reset.stickySources = [] ∧
  State.reset.getF Fld.PLT_ID_STEPPING = 0xB0 ∧ State.reset.severity 48 = 3 ∧ State.reset.severity 9 = 1 ∧
  State.reset.getF (Fld.TNT_CLASS_TOKENS 5) = 192 ∧ State.reset.wellKept

/-- Every command, in every state, answers a next state; it leaves the rest of the queue as it stands, and the part's serial number and
grade (R1, R138) never change. -/
def Obligations.EveryCommandGoesOn : Prop :=
  ∀ (c : Instr) (s : State), ∃ t, exec c s = .next t ∧ t.pending = s.pending ∧ t.factory = s.factory

/-- From every state whose register file, dictionary, stored entries and DRAM stand in canonical form, a step gives a state in which
they do: equal contents stay equal data. -/
def Obligations.StoresStayWellKept : Prop :=
  ∀ s t : State, s.wellKept → step s = .next t → t.wellKept

/-- A fuse that is blown stays blown through every step, with whatever command, in every state (R656). -/
def Obligations.BlownFusesStayBlown : Prop :=
  ∀ s t : State, step s = .next t → fusesKept s t

/-- No field of CHN0, CHN1, DEC, PRE0, PRE1, SRV0, SRV1, CLE, SPM and MFE has the host column Y, and in Deployed a host write to any offset
of those units, of any width and data, changes no register of the block (R11). -/
def Obligations.MotionAndMediaUnitsAreHostReadOnlyInDeployed : Prop :=
  (∀ u ∈ [13, 14, 15, 16, 17, 18, 19, 20, 21, 22], ∀ r ∈ regsOfUnit u, ∀ f ∈ r.fields, f.host ≠ HostCol.y) ∧
  (∀ (u off width data : Nat) (s : State), u ∈ [13, 14, 15, 16, 17, 18, 19, 20, 21, 22] → unitAt off = some u → s.deployed = true →
    ∃ t, exec (.registerWrite 0 off width data) s = .next t ∧ (∀ a, t.reg a = s.reg a))

/-- While the memory BARs are on, a host access to BAR0 of another width or alignment than 4 or 8 natural bytes gives Completer Abort and
changes no register; an offset of a unit's window that holds no register, of the unit or of CXC's component block, whose registers lie
at 0x1000 to 0x1227 of it (presumed, assumption log 34), reads zero, and a write to it is ignored (R6, R7). -/
def Obligations.BadAccessesAndHolesChangeNothing : Prop :=
  (∀ (off width data : Nat) (s : State), s.barsOn = true → off < 256 * mib → accessFits off width = false →
    (∃ t, exec (.rcRegisterRead 0 off width) s = .next t ∧ t.out = .completerAbort :: s.out ∧ ∀ a, t.reg a = s.reg a) ∧
    (∃ t, exec (.registerWrite 0 off width data) s = .next t ∧ t.out = .completerAbort :: s.out ∧ ∀ a, t.reg a = s.reg a)) ∧
  (∀ (off data : Nat) (s : State), s.barsOn = true → off < 256 * mib → off % 4 = 0 → (unitAt off).isSome = true →
    regRowAt off = none → (∀ c, componentOffset off = some c → c < 0x1000 ∨ 0x1228 ≤ c) → s.mfeLost off = false →
    (∃ t, exec (.rcRegisterRead 0 off 4) s = .next t ∧ t.out = .completion (zeros 4) :: s.out ∧ ∀ a, t.reg a = s.reg a) ∧
    exec (.registerWrite 0 off 4 data) s = .next s)

/-- The 16 bytes of a completion entry hold RESULT, QID, TAG, PHASE and STATUS where R424 states them, little-endian, with every
reserved bit zero; PHASE is 1 on the first pass through the ring and is inverted on each later pass. -/
def Obligations.CompletionEntriesAreLaidOut : Prop :=
  (∀ (w : Waiting) (phase : Nat), phase < 2 → w.result < 2 ^ 64 → w.qid < 2 ^ 20 → w.tag < 32 → w.status < 2 ^ 16 →
    (completionBytes w phase).length = 16 ∧ numAt (completionBytes w phase) 0 8 = w.result ∧
    bitsOf (numAt (completionBytes w phase) 8 4) 19 0 = w.qid ∧ bitsOf (numAt (completionBytes w phase) 8 4) 24 20 = w.tag ∧
    bitsOf (numAt (completionBytes w phase) 8 4) 30 25 = 0 ∧ bitsOf (numAt (completionBytes w phase) 8 4) 31 31 = phase ∧
    numAt (completionBytes w phase) 12 2 = w.status ∧ numAt (completionBytes w phase) 14 2 = 0) ∧
  (∀ n depth : Nat, 0 < depth → n < depth → phaseOf n depth = 1) ∧
  (∀ n depth : Nat, 0 < depth → phaseOf (n + depth) depth = 1 - phaseOf n depth)

/-- After a write of whole 64 B lines, each byte of them reads as written, whatever waited in the merge buffer, and every other byte of
DRAM reads as before (R365, R366). -/
def Obligations.DramReadsWhatWasWritten : Prop :=
  ∀ (a : Nat) (bs : List Byte) (s : State), a % 64 = 0 → bs.length % 64 = 0 →
    (∀ i, i < bs.length → (s.dramWrite a bs).lineByte (a + i) = bs.getD i 0) ∧
    (∀ x, (x < a ∨ a + bs.length ≤ x) → (s.dramWrite a bs).lineByte x = s.lineByte x)

/-- Of a source with no unit under test and an empty fault network: one whose bit is set is merged and counted; before Slate completes a
new one sets its bit and is kept for later, and no other sticky bit changes (R601, R603, R706). -/
def Obligations.FaultsAreCollectedOnce : Prop :=
  (∀ (src kind addr : Nat) (s : State), src < 512 → s.fcl.inbox = [] → s.tst.under = [] → s.sticky src = true →
    s.raise src kind addr = s.bumpF Fld.FCL_CNT_MERGED 1) ∧
  (∀ (src kind addr : Nat) (s : State), src < 512 → s.fcl.inbox = [] → s.tst.under = [] → s.sticky src = false →
    s.boot.slateDone = false → s.fcl.kept.length < 32 →
    (s.raise src kind addr).sticky src = true ∧ (s.raise src kind addr).fcl.kept = s.fcl.kept ++ [⟨src, kind, addr⟩] ∧
    (∀ x, x < 512 → x ≠ src → (s.raise src kind addr).sticky x = s.sticky x) ∧
    (s.raise src kind addr).dict = s.dict ∧ (s.raise src kind addr).out = s.out)
end

