-- ==== Sys2Proof/Laws/Exec.lean ====
section
/-! SUPPORT. What `exec` does with each command: its own meaning. -/
namespace Sys2Proof.Machine
open Sys2Proof
set_option Elab.async false

theorem exec_supplyGood (v12 v33 : Nat) (node : BitVec 7) (inp : SlateInputs) (s : State) : exec (.supplyGood v12 v33 node inp) s = execSupplyGood v12 v33 node inp s := rfl
theorem exec_supplyLost (v12 v33 : Nat) (s : State) : exec (.supplyLost v12 v33) s = execSupplyLost v12 v33 s := rfl
theorem exec_vddAoPowerOn (inp : SlateInputs) (s : State) : exec (.vddAoPowerOn inp) s = execVddAoPowerOn inp s := rfl
theorem exec_porstNLow (s : State) : exec (.porstNLow) s = execPorstNLow s := rfl
theorem exec_porstNRelease (inp : SlateInputs) (s : State) : exec (.porstNRelease inp) s = execPorstNRelease inp s := rfl
theorem exec_slateDeadline (s : State) : exec (.slateDeadline) s = execSlateDeadline s := rfl
theorem exec_slateComplete (s : State) : exec (.slateComplete) s = execSlateComplete s := rfl
theorem exec_pwrGoodFall (s : State) : exec (.pwrGoodFall) s = execPwrGoodFall s := rfl
theorem exec_railOutOfRange (src : Nat) (s : State) : exec (.railOutOfRange src) s = execRailOutOfRange src s := rfl
theorem exec_supplyRestored (inp : SlateInputs) (s : State) : exec (.supplyRestored inp) s = execSupplyRestored inp s := rfl
theorem exec_rootReferenceLoss (s : State) : exec (.rootReferenceLoss) s = execRootReferenceLoss s := rfl
theorem exec_rootReferenceReturn (inp : SlateInputs) (s : State) : exec (.rootReferenceReturn inp) s = execRootReferenceReturn inp s := rfl
theorem exec_rstreqWarm (inp : SlateInputs) (s : State) : exec (.rstreqWarm inp) s = execRstreqWarm inp s := rfl
theorem exec_rstreqBuffer (inp : SlateInputs) (s : State) : exec (.rstreqBuffer inp) s = execRstreqBuffer inp s := rfl
theorem exec_rstreqHost (s : State) : exec (.rstreqHost) s = execRstreqHost s := rfl
theorem exec_rstreqObject (s : State) : exec (.rstreqObject) s = execRstreqObject s := rfl
theorem exec_rstreqMedia0 (both : Bool) (s : State) : exec (.rstreqMedia0 both) s = execRstreqMedia0 both s := rfl
theorem exec_rstreqMedia1 (both : Bool) (s : State) : exec (.rstreqMedia1 both) s = execRstreqMedia1 both s := rfl
theorem exec_rstreqMotion (s : State) : exec (.rstreqMotion) s = execRstreqMotion s := rfl
theorem exec_mediaServiceTimeout (k : Nat) (s : State) : exec (.mediaServiceTimeout k) s = execMediaServiceTimeout k s := rfl
theorem exec_beacon (v12 vbus : Nat) (temp : BitVec 8) (wins : Bool) (s : State) : exec (.beacon v12 vbus temp wins) s = execBeacon v12 vbus temp wins s := rfl
theorem exec_beaconDrop (s : State) : exec (.beaconDrop) s = execBeaconDrop s := rfl
theorem exec_spinUpDelayEnd (s : State) : exec (.spinUpDelayEnd) s = execSpinUpDelayEnd s := rfl
theorem exec_spinUpNow (s : State) : exec (.spinUpNow) s = execSpinUpNow s := rfl
theorem exec_ochreStart (selfOk : Bool) (s : State) : exec (.ochreStart selfOk) s = execOchreStart selfOk s := rfl
theorem exec_ochreDeadline (s : State) : exec (.ochreDeadline) s = execOchreDeadline s := rfl
theorem exec_ochreRetry (selfOk : Bool) (s : State) : exec (.ochreRetry selfOk) s = execOchreRetry selfOk s := rfl
theorem exec_restartOchre (s : State) : exec (.restartOchre) s = execRestartOchre s := rfl
theorem exec_cobalt (lost : List (Nat × Nat)) (stale : List Nat) (offsets : Nat × Nat) (s : State) : exec (.cobalt lost stale offsets) s = execCobalt lost stale offsets s := rfl
theorem exec_d2dFlitReceive (motion crcOk : Bool) (s : State) : exec (.d2dFlitReceive motion crcOk) s = execD2dFlitReceive motion crcOk s := rfl
theorem exec_d2dResendLimit (s : State) : exec (.d2dResendLimit) s = execD2dResendLimit s := rfl
theorem exec_d2dLinkTimeout (s : State) : exec (.d2dLinkTimeout) s = execD2dLinkTimeout s := rfl
theorem exec_d2dLinkUp (s : State) : exec (.d2dLinkUp) s = execD2dLinkUp s := rfl
theorem exec_clockMonitorGate (out gated : List Nat) (s : State) : exec (.clockMonitorGate out gated) s = execClockMonitorGate out gated s := rfl
theorem exec_referenceDeviation (s : State) : exec (.referenceDeviation) s = execReferenceDeviation s := rfl
theorem exec_tintPeriod (firmware : Nat) (upset : Option (Nat × Nat)) (s : State) : exec (.tintPeriod firmware upset) s = execTintPeriod firmware upset s := rfl
theorem exec_floorRecompute (k milliRevs : Nat) (s : State) : exec (.floorRecompute k milliRevs) s = execFloorRecompute k milliRevs s := rfl
theorem exec_coreWindow (s : State) : exec (.coreWindow) s = execCoreWindow s := rfl
theorem exec_hostShareSwitch (c ran : Nat) (waits : Bool) (s : State) : exec (.hostShareSwitch c ran waits) s = execHostShareSwitch c ran waits s := rfl
theorem exec_migrationCap (ran : Nat) (s : State) : exec (.migrationCap ran) s = execMigrationCap ran s := rfl
theorem exec_sectorWrite (k : Nat) (cut : Option (Nat × Nat)) (s : State) : exec (.sectorWrite k cut) s = execSectorWrite k cut s := rfl
theorem exec_journalRecordWrite (k : Nat) (cuts : List Nat) (s : State) : exec (.journalRecordWrite k cuts) s = execJournalRecordWrite k cuts s := rfl
theorem exec_journalResume (k : Nat) (s : State) : exec (.journalResume k) s = execJournalResume k s := rfl
theorem exec_checkpoint (cut : Option (Nat × List Nat)) (s : State) : exec (.checkpoint cut) s = execCheckpoint cut s := rfl
theorem exec_reallocation (wedges : Nat) (foreground : Bool) (cuts : List Nat) (s : State) : exec (.reallocation wedges foreground cuts) s = execReallocation wedges foreground cuts s := rfl
theorem exec_sectorRead (k psa kind : Nat) (cap : Capture) (copied : Bool) (follow : Option Nat) (s : State) : exec (.sectorRead k psa kind cap copied follow) s = execSectorRead k psa kind cap copied follow s := rfl
theorem exec_decodeComplete (n upset : Nat) (s : State) : exec (.decodeComplete n upset) s = execDecodeComplete n upset s := rfl
theorem exec_spillDrainDone (n : Nat) (s : State) : exec (.spillDrainDone n) s = execSpillDrainDone n s := rfl
theorem exec_decodeOvertime (n : Nat) (s : State) : exec (.decodeOvertime n) s = execDecodeOvertime n s := rfl
theorem exec_sampleCopyDone (k : Nat) (s : State) : exec (.sampleCopyDone k) s = execSampleCopyDone k s := rfl
theorem exec_recoveryStepEnd (psa wedges : Nat) (foreground : Bool) (cap : Option Capture) (s : State) : exec (.recoveryStepEnd psa wedges foreground cap) s = execRecoveryStepEnd psa wedges foreground cap s := rfl
theorem exec_recoveryLimit (psa : Nat) (s : State) : exec (.recoveryLimit psa) s = execRecoveryLimit psa s := rfl
theorem exec_scrubRead (k wedges : Nat) (foreground : Bool) (cap : Capture) (cuts : List Nat) (s : State) : exec (.scrubRead k wedges foreground cap cuts) s = execScrubRead k wedges foreground cap cuts s := rfl
theorem exec_scrubRecheck (psa wedges : Nat) (foreground : Bool) (cap : Capture) (cuts : List Nat) (s : State) : exec (.scrubRecheck psa wedges foreground cap cuts) s = execScrubRecheck psa wedges foreground cap cuts s := rfl
theorem exec_scrubPositionStore (s : State) : exec (.scrubPositionStore) s = execScrubPositionStore s := rfl
theorem exec_computeEfficiency (s : State) : exec (.computeEfficiency) s = execComputeEfficiency s := rfl
theorem exec_startQualification (selfOk : Bool) (s : State) : exec (.startQualification selfOk) s = execStartQualification selfOk s := rfl
theorem exec_qualificationRateResult (h z beyond snr : Nat) (fails : List Nat) (s : State) : exec (.qualificationRateResult h z beyond snr fails) s = execQualificationRateResult h z beyond snr fails s := rfl
theorem exec_formatDrive (id : List Byte) (s : State) : exec (.formatDrive id) s = execFormatDrive id s := rfl
theorem exec_gateMonitorMismatch (k : Nat) (s : State) : exec (.gateMonitorMismatch k) s = execGateMonitorMismatch k s := rfl
theorem exec_writeInhibit (k bit : Nat) (s : State) : exec (.writeInhibit k bit) s = execWriteInhibit k bit s := rfl
theorem exec_inhibitRelease (k : Nat) (s : State) : exec (.inhibitRelease k) s = execInhibitRelease k s := rfl
theorem exec_writeRetriesExhausted (k : Nat) (s : State) : exec (.writeRetriesExhausted k) s = execWriteRetriesExhausted k s := rfl
theorem exec_preampFault (k fault : Nat) (answered : Bool) (s : State) : exec (.preampFault k fault answered) s = execPreampFault k fault answered s := rfl
theorem exec_preScmdGo (k : Nat) (read : Bool) (addr data : Nat) (answer : Option Nat) (back : List Nat) (s : State) : exec (.preScmdGo k read addr data answer back) s = execPreScmdGo k read addr data answer back s := rfl
theorem exec_headSwitch (k head : Nat) (back : List Nat) (offsets : List Nat) (s : State) : exec (.headSwitch k head back offsets) s = execHeadSwitch k head back offsets s := rfl
theorem exec_headSwitchSettle (k : Nat) (s : State) : exec (.headSwitchSettle k) s = execHeadSwitchSettle k s := rfl
theorem exec_servoWedge (k : Nat) (w : WedgeData) (trajEnd : Bool) (dac : Int) (s : State) : exec (.servoWedge k w trajEnd dac) s = execServoWedge k w trajEnd dac s := rfl
theorem exec_wedgePredicted (k : Nat) (trajEnd : Bool) (dac : Int) (s : State) : exec (.wedgePredicted k trajEnd dac) s = execWedgePredicted k trajEnd dac s := rfl
theorem exec_wedgeSequenceLost (k : Nat) (s : State) : exec (.wedgeSequenceLost k) s = execWedgeSequenceLost k s := rfl
theorem exec_reacquireTimeout (k : Nat) (s : State) : exec (.reacquireTimeout k) s = execReacquireTimeout k s := rfl
theorem exec_cleOverrun (k : Nat) (s : State) : exec (.cleOverrun k) s = execCleOverrun k s := rfl
theorem exec_srvTargetWrite (k : Nat) (target : BitVec 32) (s : State) : exec (.srvTargetWrite k target) s = execSrvTargetWrite k target s := rfl
theorem exec_cleLoopEnable (l : Nat) (s : State) : exec (.cleLoopEnable l) s = execCleLoopEnable l s := rfl
theorem exec_headLoad (k : Nat) (ws : List WedgeData) (ident : Option Nat) (rcoil : Nat) (s : State) : exec (.headLoad k ws ident rcoil) s = execHeadLoad k ws ident rcoil s := rfl
theorem exec_loadNoLock (k rcoil : Nat) (s : State) : exec (.loadNoLock k rcoil) s = execLoadNoLock k rcoil s := rfl
theorem exec_runoutLearnTimeout (h : Nat) (s : State) : exec (.runoutLearnTimeout h) s = execRunoutLearnTimeout h s := rfl
theorem exec_injectionStart (s : State) : exec (.injectionStart) s = execInjectionStart s := rfl
theorem exec_captureComplete (s : State) : exec (.captureComplete) s = execCaptureComplete s := rfl
theorem exec_pwmPeriod (arrived : Bool) (isamp emf : List Int) (angle speed : Nat) (s : State) : exec (.pwmPeriod arrived isamp emf angle speed) s = execPwmPeriod arrived isamp emf angle speed s := rfl
theorem exec_dutySetLoss (s : State) : exec (.dutySetLoss) s = execDutySetLoss s := rfl
theorem exec_sampleShiftTimeout (s : State) : exec (.sampleShiftTimeout) s = execSampleShiftTimeout s := rfl
theorem exec_speedLoop (speed : Nat) (rev revEnd : Bool) (s : State) : exec (.speedLoop speed rev revEnd) s = execSpeedLoop speed rev revEnd s := rfl
theorem exec_standstillStartTimeout (s : State) : exec (.standstillStartTimeout) s = execStandstillStartTimeout s := rfl
theorem exec_bemfZeroCrossing (interval c : Nat) (s : State) : exec (.bemfZeroCrossing interval c) s = execBemfZeroCrossing interval c s := rfl
theorem exec_catchTimeout (s : State) : exec (.catchTimeout) s = execCatchTimeout s := rfl
theorem exec_lossOfSynchronism (p1 p2 p3 : Nat × Nat × Nat) (s : State) : exec (.lossOfSynchronism p1 p2 p3) s = execLossOfSynchronism p1 p2 p3 s := rfl
theorem exec_spinDownUnparked (s : State) : exec (.spinDownUnparked) s = execSpinDownUnparked s := rfl
theorem exec_spindleStopped (speed : Nat) (s : State) : exec (.spindleStopped speed) s = execSpindleStopped speed s := rfl
theorem exec_vbusAbove13v8 (vbus : Nat) (s : State) : exec (.vbusAbove13v8 vbus) s = execVbusAbove13v8 vbus s := rfl
theorem exec_vbusBelow13v6 (vbus : Nat) (s : State) : exec (.vbusBelow13v6 vbus) s = execVbusBelow13v6 vbus s := rfl
theorem exec_vbusAbove14v2 (vbus : Nat) (s : State) : exec (.vbusAbove14v2 vbus) s = execVbusAbove14v2 vbus s := rfl
theorem exec_vbusAbove15v (vbus : Nat) (s : State) : exec (.vbusAbove15v vbus) s = execVbusAbove15v vbus s := rfl
theorem exec_vbusBelow14v2Again (vbus : Nat) (s : State) : exec (.vbusBelow14v2Again vbus) s = execVbusBelow14v2Again vbus s := rfl
theorem exec_idealDiodeSwitch (v12 : Int) (vbus : Nat) (s : State) : exec (.idealDiodeSwitch v12 vbus) s = execIdealDiodeSwitch v12 vbus s := rfl
theorem exec_fetNotConducting (s : State) : exec (.fetNotConducting) s = execFetNotConducting s := rfl
theorem exec_chopperOpen (amps vbus : Nat) (s : State) : exec (.chopperOpen amps vbus) s = execChopperOpen amps vbus s := rfl
theorem exec_chopperShort (amps : Nat) (s : State) : exec (.chopperShort amps) s = execChopperShort amps s := rfl
theorem exec_clearLatches (s : State) : exec (.clearLatches) s = execClearLatches s := rfl
theorem exec_vcmSetpointLoss (k : Nat) (s : State) : exec (.vcmSetpointLoss k) s = execVcmSetpointLoss k s := rfl
theorem exec_retractVelocityEnd (k : Nat) (mv ma : Int) (late : Bool) (s : State) : exec (.retractVelocityEnd k mv ma late) s = execRetractVelocityEnd k mv ma late s := rfl
theorem exec_retractEnd (k : Nat) (s : State) : exec (.retractEnd k) s = execRetractEnd k s := rfl
theorem exec_supplyBelowThreshold (s : State) : exec (.supplyBelowThreshold) s = execSupplyBelowThreshold s := rfl
theorem exec_powerLossConfirm (s : State) : exec (.powerLossConfirm) s = execPowerLossConfirm s := rfl
theorem exec_phaseShort (ma : Int) (mv : Nat) (s : State) : exec (.phaseShort ma mv) s = execPhaseShort ma mv s := rfl
theorem exec_openPhase (ma want : Nat) (s : State) : exec (.openPhase ma want) s = execOpenPhase ma want s := rfl
theorem exec_vcmShort (k : Nat) (ma : Int) (desat : Bool) (s : State) : exec (.vcmShort k ma desat) s = execVcmShort k ma desat s := rfl
theorem exec_vcmOpen (k : Nat) (ma : Int) (s : State) : exec (.vcmOpen k ma) s = execVcmOpen k ma s := rfl
theorem exec_gateDriveSupplyLow (s : State) : exec (.gateDriveSupplyLow) s = execGateDriveSupplyLow s := rfl
theorem exec_reversedInput (s : State) : exec (.reversedInput) s = execReversedInput s := rfl
theorem exec_shock (mv : Int) (s : State) : exec (.shock mv) s = execShock mv s := rfl
theorem exec_shockHoldEnd (s : State) : exec (.shockHoldEnd) s = execShockHoldEnd s := rfl
theorem exec_dramAccess (l : Nat) (err : List (Nat × Nat)) (what cls : Nat) (s : State) : exec (.dramAccess l err what cls) s = execDramAccess l err what cls s := rfl
theorem exec_patrolStep (what : Nat) (s : State) : exec (.patrolStep what) s = execPatrolStep what s := rfl
theorem exec_mergeWrite (l cls : Nat) (cells : List Host.Cell) (s : State) : exec (.mergeWrite l cls cells) s = execMergeWrite l cls cells s := rfl
theorem exec_mergeHoldExpire (l : Nat) (parityOk : Bool) (s : State) : exec (.mergeHoldExpire l parityOk) s = execMergeHoldExpire l parityOk s := rfl
theorem exec_initBlockDone (s : State) : exec (.initBlockDone) s = execInitBlockDone s := rfl
theorem exec_dqsOscillatorRead (sub drift : Nat) (s : State) : exec (.dqsOscillatorRead sub drift) s = execDqsOscillatorRead sub drift s := rfl
theorem exec_zqCalibration (s : State) : exec (.zqCalibration) s = execZqCalibration s := rfl
theorem exec_dramTemperatureRead (hot : List Nat) (s : State) : exec (.dramTemperatureRead hot) s = execDramTemperatureRead hot s := rfl
theorem exec_biasRequest (count : Nat) (s : State) : exec (.biasRequest count) s = execBiasRequest count s := rfl
theorem exec_cxlMemAccess (hpa : Nat) (write : Option (List Host.Cell)) (poison : Bool) (s : State) : exec (.cxlMemAccess hpa write poison) s = execCxlMemAccess hpa write poison s := rfl
theorem exec_linkTraining (width rate : Nat) (cxl : Bool) (presets : List Nat) (s : State) : exec (.linkTraining width rate cxl presets) s = execLinkTraining width rate cxl presets s := rfl
theorem exec_surpriseLinkDown (s : State) : exec (.surpriseLinkDown) s = execSurpriseLinkDown s := rfl
theorem exec_hotReset (s : State) : exec (.hotReset) s = execHotReset s := rfl
theorem exec_perstNAssert (s : State) : exec (.perstNAssert) s = execPerstNAssert s := rfl
theorem exec_perstNDeassert (s : State) : exec (.perstNDeassert) s = execPerstNDeassert s := rfl
theorem exec_configRequest (off be : Nat) (write : Option Nat) (ready : Bool) (tails : List (Nat × Option Nat)) (s : State) : exec (.configRequest off be write ready tails) s = execConfigRequest off be write ready tails s := rfl
theorem exec_functionLevelReset (s : State) : exec (.functionLevelReset) s = execFunctionLevelReset s := rfl
theorem exec_cxlReset (s : State) : exec (.cxlReset) s = execCxlReset s := rfl
theorem exec_hdmCommit (base size : Nat) (lock : Bool) (s : State) : exec (.hdmCommit base size lock) s = execHdmCommit base size lock s := rfl
theorem exec_doorbellWrite (off width data : Nat) (mb : Option Nat) (s : State) : exec (.doorbellWrite off width data mb) s = execDoorbellWrite off width data mb s := rfl
theorem exec_msixUnmask (v : Nat) (s : State) : exec (.msixUnmask v) s = execMsixUnmask v s := rfl
theorem exec_ideKmMessage (stream action : Nat) (skid : Bool) (s : State) : exec (.ideKmMessage stream action skid) s = execIdeKmMessage stream action skid s := rfl
theorem exec_ideIntegrityFail (stream : Nat) (flit : List Byte) (s : State) : exec (.ideIntegrityFail stream flit) s = execIdeIntegrityFail stream flit s := rfl
theorem exec_completionTimeout (ch : Option Nat) (l : Nat) (onDst : Bool) (x : DmaData) (more : List Nat) (s : State) : exec (.completionTimeout ch l onDst x more) s = execCompletionTimeout ch l onDst x more s := rfl
theorem exec_poisonReceived (cache : Bool) (ch : Option Nat) (l : Nat) (onDst : Bool) (x : DmaData) (more : List Nat) (s : State) : exec (.poisonReceived cache ch l onDst x more) s = execPoisonReceived cache ch l onDst x more s := rfl
theorem exec_d3hotEntry (s : State) : exec (.d3hotEntry) s = execD3hotEntry s := rfl
theorem exec_d0Return (s : State) : exec (.d0Return) s = execD0Return s := rfl
theorem exec_hccDisable (s : State) : exec (.hccDisable) s = execHccDisable s := rfl
theorem exec_hccWalkOvertime (s : State) : exec (.hccWalkOvertime) s = execHccWalkOvertime s := rfl
theorem exec_hccEnable (tails : List (Nat × Option Nat)) (s : State) : exec (.hccEnable tails) s = execHccEnable tails s := rfl
theorem exec_hostSnoop (addr : Nat) (inv : Bool) (old : List Byte) (tail : Option Nat) (s : State) : exec (.hostSnoop addr inv old tail) s = execHostSnoop addr inv old tail s := rfl
theorem exec_writebackGo (addr : Nat) (s : State) : exec (.writebackGo addr) s = execWritebackGo addr s := rfl
theorem exec_unplacedMailboxPoll (qid : Nat) (tail : Option Nat) (s : State) : exec (.unplacedMailboxPoll qid tail) s = execUnplacedMailboxPoll qid tail s := rfl
theorem exec_hccParitySweep (set : Nat) (errors : List (Nat × Nat × Nat)) (s : State) : exec (.hccParitySweep set errors) s = execHccParitySweep set errors s := rfl
theorem exec_adminQueueEnable (s : State) : exec (.adminQueueEnable) s = execAdminQueueEnable s := rfl
theorem exec_adminQueueDisable (entries : List (Option (List Byte))) (s : State) : exec (.adminQueueDisable entries) s = execAdminQueueDisable entries s := rfl
theorem exec_mailboxSnoop (qid : Nat) (tail : Option Nat) (s : State) : exec (.mailboxSnoop qid tail) s = execMailboxSnoop qid tail s := rfl
theorem exec_entryAccept (entry : Option (List Byte)) (head : Option Nat) (s : State) : exec (.entryAccept entry head) s = execEntryAccept entry head s := rfl
theorem exec_headWordReread (ring head : Option Nat) (s : State) : exec (.headWordReread ring head) s = execHeadWordReread ring head s := rfl
theorem exec_ringFullTimeout (ring : Nat) (s : State) : exec (.ringFullTimeout ring) s = execRingFullTimeout ring s := rfl
theorem exec_coalescingTimeout (g : Nat) (s : State) : exec (.coalescingTimeout g) s = execCoalescingTimeout g s := rfl
theorem exec_identify (t : Nat) (h : HostData) (s : State) : exec (.identify t h) s = execIdentify t h s := rfl
theorem exec_createQueue (t : Nat) (s : State) : exec (.createQueue t) s = execCreateQueue t s := rfl
theorem exec_deleteQueue (t : Nat) (entries : List (Option (List Byte))) (s : State) : exec (.deleteQueue t entries) s = execDeleteQueue t entries s := rfl
theorem exec_resetQueue (t : Nat) (entries : List (Option (List Byte))) (s : State) : exec (.resetQueue t entries) s = execResetQueue t entries s := rfl
theorem exec_createCring (t : Nat) (s : State) : exec (.createCring t) s = execCreateCring t s := rfl
theorem exec_deleteCring (t : Nat) (s : State) : exec (.deleteCring t) s = execDeleteCring t s := rfl
theorem exec_arm (t : Nat) (old new : Option Nat) (s : State) : exec (.arm t old new) s = execArm t old new s := rfl
theorem exec_disarm (t : Nat) (tail : Option Nat) (s : State) : exec (.disarm t tail) s = execDisarm t tail s := rfl
theorem exec_fwDownload (t : Nat) (h : HostData) (fail : Option (Nat × Bool)) (s : State) : exec (.fwDownload t h fail) s = execFwDownload t h fail s := rfl
theorem exec_fwCommit (t : Nat) (verifies programOk : Bool) (s : State) : exec (.fwCommit t verifies programOk) s = execFwCommit t verifies programOk s := rfl
theorem exec_fwCommitTrial (t : Nat) (verifies programOk : Bool) (s : State) : exec (.fwCommitTrial t verifies programOk) s = execFwCommitTrial t verifies programOk s := rfl
theorem exec_fwCommitBootLoader (t : Nat) (verifies : Bool) (s : State) : exec (.fwCommitBootLoader t verifies) s = execFwCommitBootLoader t verifies s := rfl
theorem exec_fwActivate (t : Nat) (s : State) : exec (.fwActivate t) s = execFwActivate t s := rfl
theorem exec_activationFetchStop (s : State) : exec (.activationFetchStop) s = execActivationFetchStop s := rfl
theorem exec_activationSwitch (s : State) : exec (.activationSwitch) s = execActivationSwitch s := rfl
theorem exec_trialConfirm (s : State) : exec (.trialConfirm) s = execTrialConfirm s := rfl
theorem exec_dictRead (t : Nat) (h : HostData) (s : State) : exec (.dictRead t h) s = execDictRead t h s := rfl
theorem exec_dictWrite (t : Nat) (h : HostData) (a : ActIn) (s : State) : exec (.dictWrite t h a) s = execDictWrite t h a s := rfl
theorem exec_eventRingSetup (t : Nat) (s : State) : exec (.eventRingSetup t) s = execEventRingSetup t s := rfl
theorem exec_putSegment (q t : Nat) (h : HostData) (s : State) : exec (.putSegment q t h) s = execPutSegment q t h s := rfl
theorem exec_tilePoolSlotFree (s : State) : exec (.tilePoolSlotFree) s = execTilePoolSlotFree s := rfl
theorem exec_seal (q t : Nat) (h : HostData) (ends : Bool) (s : State) : exec (.seal q t h ends) s = execSeal q t h ends s := rfl
theorem exec_getRange (q t : Nat) (h : HostData) (s : State) : exec (.getRange q t h) s = execGetRange q t h s := rfl
theorem exec_stat (q t : Nat) (h : HostData) (s : State) : exec (.stat q t h) s = execStat q t h s := rfl
theorem exec_list (q t : Nat) (h : HostData) (s : State) : exec (.list q t h) s = execList q t h s := rfl
theorem exec_cookieExpiry (s : State) : exec (.cookieExpiry) s = execCookieExpiry s := rfl
theorem exec_delete (q t : Nat) (h : HostData) (s : State) : exec (.delete q t h) s = execDelete q t h s := rfl
theorem exec_setRetention (q t : Nat) (h : HostData) (s : State) : exec (.setRetention q t h) s = execSetRetention q t h s := rfl
theorem exec_verify (q t : Nat) (h : HostData) (laddered : Nat) (s : State) : exec (.verify q t h laddered) s = execVerify q t h laddered s := rfl
theorem exec_flush (q t : Nat) (h : HostData) (s : State) : exec (.flush q t h) s = execFlush q t h s := rfl
theorem exec_flushComplete (q t : Nat) (s : State) : exec (.flushComplete q t) s = execFlushComplete q t s := rfl
theorem exec_migrate (q t : Nat) (h : HostData) (session : Nat) (ns : List Byte) (s : State) : exec (.migrate q t h session ns) s = execMigrate q t h session ns s := rfl
theorem exec_migrateToHost (q t : Nat) (h : HostData) (s : State) : exec (.migrateToHost q t h) s = execMigrateToHost q t h s := rfl
theorem exec_abort (q t : Nat) (s : State) : exec (.abort q t) s = execAbort q t s := rfl
theorem exec_abortResolve (q t : Nat) (s : State) : exec (.abortResolve q t) s = execAbortResolve q t s := rfl
theorem exec_dmaGo (n : Nat) (srcL dstL : List Byte) (listsOk : Bool) (s : State) : exec (.dmaGo n srcL dstL listsOk) s = execDmaGo n srcL dstL listsOk s := rfl
theorem exec_dmaAbort (n l : Nat) (x : DmaData) (error : Option (Bool × Nat)) (s : State) : exec (.dmaAbort n l x error) s = execDmaAbort n l x error s := rfl
theorem exec_dmaResume (n : Nat) (s : State) : exec (.dmaResume n) s = execDmaResume n s := rfl
theorem exec_dmaHalt (n l : Nat) (onDst : Bool) (cause : Nat) (x : DmaData) (more : List Nat) (s : State) : exec (.dmaHalt n l onDst cause x more) s = execDmaHalt n l onDst cause x more s := rfl
theorem exec_dmaDone (n : Nat) (x : DmaData) (s : State) : exec (.dmaDone n x) s = execDmaDone n x s := rfl
theorem exec_dmaStall (n : Nat) (s : State) : exec (.dmaStall n) s = execDmaStall n s := rfl
theorem exec_modulePresenceChange (present : Bool) (mode : Nat) (s : State) : exec (.modulePresenceChange present mode) s = execModulePresenceChange present mode s := rfl
theorem exec_ethLinkChange (up : Bool) (s : State) : exec (.ethLinkChange up) s = execEthLinkChange up s := rfl
theorem exec_neighborSolicitation (dst target : List Byte) (s : State) : exec (.neighborSolicitation dst target) s = execNeighborSolicitation dst target s := rfl
theorem exec_echoRequest (dst body : List Byte) (s : State) : exec (.echoRequest dst body) s = execEchoRequest dst body s := rfl
theorem exec_hello (d : Dgram) (nr : List Byte) (s : State) : exec (.hello d nr) s = execHello d nr s := rfl
theorem exec_helloAck (d : Dgram) (s : State) : exec (.helloAck d) s = execHelloAck d s := rfl
theorem exec_confirm (d : Dgram) (s : State) : exec (.confirm d) s = execConfirm d s := rfl
theorem exec_offer (d : Dgram) (s : State) : exec (.offer d) s = execOffer d s := rfl
theorem exec_data (d : Dgram) (s : State) : exec (.data d) s = execData d s := rfl
theorem exec_receiveDurable (p obj : Nat) (s : State) : exec (.receiveDurable p obj) s = execReceiveDurable p obj s := rfl
theorem exec_sack (d : Dgram) (s : State) : exec (.sack d) s = execSack d s := rfl
theorem exec_result (d : Dgram) (s : State) : exec (.result d) s = execResult d s := rfl
theorem exec_keepalive (d : Dgram) (s : State) : exec (.keepalive d) s = execKeepalive d s := rfl
theorem exec_close (d : Dgram) (s : State) : exec (.close d) s = execClose d s := rfl
theorem exec_sackTimer (p : Nat) (s : State) : exec (.sackTimer p) s = execSackTimer p s := rfl
theorem exec_retransmitTimeout (pseq : Nat) (s : State) : exec (.retransmitTimeout pseq) s = execRetransmitTimeout pseq s := rfl
theorem exec_keepaliveTimer (s : State) : exec (.keepaliveTimer) s = execKeepaliveTimer s := rfl
theorem exec_peerSilence (p : Option Nat) (session : Nat) (ns : List Byte) (s : State) : exec (.peerSilence p session ns) s = execPeerSilence p session ns s := rfl
theorem exec_migTimeout (s : State) : exec (.migTimeout) s = execMigTimeout s := rfl
theorem exec_read (f : List Byte) (s : State) : exec (.read f) s = execRead f s := rfl
theorem exec_write (f : List Byte) (a : ActIn) (s : State) : exec (.write f a) s = execWrite f a s := rfl
theorem exec_readInit (f : List Byte) (s : State) : exec (.readInit f) s = execReadInit f s := rfl
theorem exec_writeInit (f : List Byte) (a : ActIn) (s : State) : exec (.writeInit f a) s = execWriteInit f a s := rfl
theorem exec_segment (f : List Byte) (a : ActIn) (s : State) : exec (.segment f a) s = execSegment f a s := rfl
theorem exec_segAck (f : List Byte) (s : State) : exec (.segAck f) s = execSegAck f s := rfl
theorem exec_gdpAbort (f : List Byte) (s : State) : exec (.gdpAbort f) s = execGdpAbort f s := rfl
theorem exec_keep (f : List Byte) (s : State) : exec (.keep f) s = execKeep f s := rfl
theorem exec_sessionTimeout (s : State) : exec (.sessionTimeout) s = execSessionTimeout s := rfl
theorem exec_segmentResend (s : State) : exec (.segmentResend) s = execSegmentResend s := rfl
theorem exec_busOff (s : State) : exec (.busOff) s = execBusOff s := rfl
theorem exec_busOffRecovery (s : State) : exec (.busOffRecovery) s = execBusOffRecovery s := rfl
theorem exec_restoreDefaults (s : State) : exec (.restoreDefaults) s = execRestoreDefaults s := rfl
theorem exec_lifecycleTransition (req : Nat) (cut : Option Nat) (inp : SlateInputs) (s : State) : exec (.lifecycleTransition req cut inp) s = execLifecycleTransition req cut inp s := rfl
theorem exec_unlock (pw : List Byte) (s : State) : exec (.unlock pw) s = execUnlock pw s := rfl
theorem exec_newPassword (pw : List Byte) (s : State) : exec (.newPassword pw) s = execNewPassword pw s := rfl
theorem exec_relock (s : State) : exec (.relock) s = execRelock s := rfl
theorem exec_testStart (test unit : Nat) (s : State) : exec (.testStart test unit) s = execTestStart test unit s := rfl
theorem exec_extendedMemoryTest (s : State) : exec (.extendedMemoryTest) s = execExtendedMemoryTest s := rfl
theorem exec_loopbackStart (cfg path : Nat) (testImpl : Bool) (s : State) : exec (.loopbackStart cfg path testImpl) s = execLoopbackStart cfg path testImpl s := rfl
theorem exec_loopbackStop (errors bits : Nat) (ok : Bool) (s : State) : exec (.loopbackStop errors bits ok) s = execLoopbackStop errors bits ok s := rfl
theorem exec_loopbackEnd (errors bits : Nat) (ok : Bool) (s : State) : exec (.loopbackEnd errors bits ok) s = execLoopbackEnd errors bits ok s := rfl
theorem exec_testHold (enter : Bool) (inp : SlateInputs) (s : State) : exec (.testHold enter inp) s = execTestHold enter inp s := rfl
theorem exec_scanEnable (s : State) : exec (.scanEnable) s = execScanEnable s := rfl
theorem exec_nvcProgram (block page first : Nat) (data : List Byte) (s : State) : exec (.nvcProgram block page first data) s = execNvcProgram block page first data s := rfl
theorem exec_nvcErase (block : Nat) (s : State) : exec (.nvcErase block) s = execNvcErase block s := rfl
theorem exec_nvcOperationDone (ok : Bool) (pulses : Nat) (s : State) : exec (.nvcOperationDone ok pulses) s = execNvcOperationDone ok pulses s := rfl
theorem exec_faultMessage (src kind addr : Nat) (ok1 ok2 : Bool) (s : State) : exec (.faultMessage src kind addr ok1 ok2) s = execFaultMessage src kind addr ok1 ok2 s := rfl
theorem exec_reactionEnd (s : State) : exec (.reactionEnd) s = execReactionEnd s := rfl
theorem exec_reactionTimeout (s : State) : exec (.reactionTimeout) s = execReactionTimeout s := rfl
theorem exec_storageCompare (agree : Bool) (s : State) : exec (.storageCompare agree) s = execStorageCompare agree s := rfl
theorem exec_clearSticky (src : Nat) (s : State) : exec (.clearSticky src) s = execClearSticky src s := rfl
theorem exec_clearAllSticky (s : State) : exec (.clearAllSticky) s = execClearAllSticky s := rfl
theorem exec_watchdogExpiry (w : Nat) (inp : SlateInputs) (s : State) : exec (.watchdogExpiry w inp) s = execWatchdogExpiry w inp s := rfl
theorem exec_lockstepMismatch (p : Nat) (inp : SlateInputs) (s : State) : exec (.lockstepMismatch p inp) s = execLockstepMismatch p inp s := rfl
theorem exec_counterAccumulate (links : Nat × Nat × Nat × Nat) (s : State) : exec (.counterAccumulate links) s = execCounterAccumulate links s := rfl
theorem exec_statisticsStore (s : State) : exec (.statisticsStore) s = execStatisticsStore s := rfl
theorem exec_rcRegisterRead (bar off width : Nat) (s : State) : exec (.rcRegisterRead bar off width) s = execRcRegisterRead bar off width s := rfl
theorem exec_registerWrite (bar off width data : Nat) (s : State) : exec (.registerWrite bar off width data) s = execRegisterWrite bar off width data s := rfl
theorem exec_initPatrolStall (s : State) : exec (.initPatrolStall) s = execInitPatrolStall s := rfl
theorem exec_errorPassiveTimeout (s : State) : exec (.errorPassiveTimeout) s = execErrorPassiveTimeout s := rfl
theorem exec_referenceDeviationCleared (s : State) : exec (.referenceDeviationCleared) s = execReferenceDeviationCleared s := rfl
theorem exec_fltNRelease (k : Nat) (s : State) : exec (.fltNRelease k) s = execFltNRelease k s := rfl
theorem exec_testComplete (pass : Bool) (detail entries : Nat) (s : State) : exec (.testComplete pass detail entries) s = execTestComplete pass detail entries s := rfl
theorem exec_spdmRequest (kind : Nat) (signed : List Byte) (s : State) : exec (.spdmRequest kind signed) s = execSpdmRequest kind signed s := rfl
theorem exec_rngHealthTest (pass : Bool) (s : State) : exec (.rngHealthTest pass) s = execRngHealthTest pass s := rfl

end Sys2Proof.Machine
end

