-- ==== Sys2Proof/Laws/Maps.lean ====
section
/-!
SUPPORT. Sparse maps in canonical form: what a put, a removal and a filter do to a lookup, and that each keeps keys rising. The
register file, the dictionary and DRAM are such maps.
-/
namespace Sys2Proof.Machine
open Sys2Proof

section
variable {α : Type}

/-- Every key of a map is above `k`. -/
def Assoc.above (k : Nat) (m : List (Nat × α)) : Prop := ∀ p ∈ m, k < p.1

theorem Assoc.rising_cons (k : Nat) (v : α) (m : List (Nat × α)) :
    Assoc.rising ((k, v) :: m) = true ↔ Assoc.above k m ∧ Assoc.rising m = true := by
  induction m generalizing k v with
  | nil => simp [Assoc.rising, Assoc.above]
  | cons p t ih =>
    obtain ⟨j, w⟩ := p
    constructor
    · intro h
      simp only [Assoc.rising, Bool.and_eq_true, decide_eq_true_eq] at h
      have h2 := (ih j w).1 h.2
      refine ⟨?_, h.2⟩
      intro q hq
      rcases List.mem_cons.1 hq with rfl | hq
      · exact h.1
      · exact Nat.lt_trans h.1 (h2.1 q hq)
    · intro h
      simp only [Assoc.rising, Bool.and_eq_true, decide_eq_true_eq]
      exact ⟨h.1 (j, w) (by simp), h.2⟩

theorem Assoc.mem_del (m : List (Nat × α)) (k : Nat) (p : Nat × α) : p ∈ Assoc.del m k → p ∈ m ∧ p.1 ≠ k := by
  induction m with
  | nil => simp [Assoc.del]
  | cons q t ih =>
    obtain ⟨i, v⟩ := q
    simp only [Assoc.del]
    split
    · intro h; have := ih h; exact ⟨List.mem_cons_of_mem _ this.1, this.2⟩
    · intro h
      rcases List.mem_cons.1 h with rfl | h
      · exact ⟨by simp, by simpa using ‹¬_›⟩
      · have := ih h; exact ⟨List.mem_cons_of_mem _ this.1, this.2⟩

theorem Assoc.mem_ins (m : List (Nat × α)) (k : Nat) (v : α) (p : Nat × α) :
    p ∈ Assoc.ins m k v → p = (k, v) ∨ p ∈ m := by
  induction m with
  | nil => simp [Assoc.ins]
  | cons q t ih =>
    obtain ⟨i, w⟩ := q
    simp only [Assoc.ins]
    split
    · intro h; simpa using h
    · intro h
      rcases List.mem_cons.1 h with rfl | h
      · right; simp
      · rcases ih h with h | h
        · exact .inl h
        · exact .inr (List.mem_cons_of_mem _ h)

theorem Assoc.rising_del (m : List (Nat × α)) (k : Nat) (h : Assoc.rising m = true) : Assoc.rising (Assoc.del m k) = true := by
  induction m with
  | nil => simp [Assoc.del, Assoc.rising]
  | cons q t ih =>
    obtain ⟨i, v⟩ := q
    have h' := (Assoc.rising_cons i v t).1 h
    simp only [Assoc.del]
    split
    · exact ih h'.2
    · exact (Assoc.rising_cons _ _ _).2 ⟨fun p hp => h'.1 p (Assoc.mem_del t k p hp).1, ih h'.2⟩

theorem Assoc.rising_ins (m : List (Nat × α)) (k : Nat) (v : α) (h : Assoc.rising m = true) (hk : ∀ p ∈ m, p.1 ≠ k) :
    Assoc.rising (Assoc.ins m k v) = true := by
  induction m with
  | nil => simp [Assoc.ins, Assoc.rising]
  | cons q t ih =>
    obtain ⟨i, w⟩ := q
    have h' := (Assoc.rising_cons i w t).1 h
    simp only [Assoc.ins]
    split
    · rename_i hlt
      refine (Assoc.rising_cons _ _ _).2 ⟨?_, h⟩
      intro p hp
      rcases List.mem_cons.1 hp with rfl | hp
      · exact hlt
      · exact Nat.lt_trans hlt (h'.1 p hp)
    · rename_i hge
      have hne : i ≠ k := hk (i, w) (by simp)
      refine (Assoc.rising_cons _ _ _).2 ⟨?_, ih h'.2 (fun p hp => hk p (List.mem_cons_of_mem _ hp))⟩
      intro p hp
      rcases Assoc.mem_ins t k v p hp with rfl | hp
      · show i < k; omega
      · exact h'.1 p hp

theorem Assoc.rising_put (m : List (Nat × α)) (k : Nat) (v : α) (h : Assoc.rising m = true) :
    Assoc.rising (Assoc.put m k v) = true :=
  Assoc.rising_ins _ k v (Assoc.rising_del m k h) (fun p hp => (Assoc.mem_del m k p hp).2)

theorem Assoc.rising_filter (m : List (Nat × α)) (f : Nat × α → Bool) (h : Assoc.rising m = true) :
    Assoc.rising (m.filter f) = true := by
  induction m with
  | nil => simp [Assoc.rising]
  | cons q t ih =>
    obtain ⟨i, v⟩ := q
    have h' := (Assoc.rising_cons i v t).1 h
    simp only [List.filter]
    split
    · exact (Assoc.rising_cons _ _ _).2 ⟨fun p hp => h'.1 p ((List.mem_filter.1 hp).1), ih h'.2⟩
    · exact ih h'.2

theorem Assoc.find_del_same (m : List (Nat × α)) (k : Nat) : Assoc.find (Assoc.del m k) k = none := by
  induction m with
  | nil => rfl
  | cons q t ih =>
    obtain ⟨i, v⟩ := q
    simp only [Assoc.del]
    split
    · exact ih
    · rename_i h; simp [Assoc.find, h, ih]

theorem Assoc.find_del_other (m : List (Nat × α)) (k j : Nat) (h : j ≠ k) :
    Assoc.find (Assoc.del m k) j = Assoc.find m j := by
  induction m with
  | nil => rfl
  | cons q t ih =>
    obtain ⟨i, v⟩ := q
    simp only [Assoc.del]
    split
    · rename_i e; rw [ih]; subst e; simp [Assoc.find, Ne.symm h]
    · simp only [Assoc.find, ih]

theorem Assoc.find_ins_same (m : List (Nat × α)) (k : Nat) (v : α) (h : Assoc.find m k = none) :
    Assoc.find (Assoc.ins m k v) k = some v := by
  induction m with
  | nil => simp [Assoc.ins, Assoc.find]
  | cons q t ih =>
    obtain ⟨i, w⟩ := q
    simp only [Assoc.ins]
    simp only [Assoc.find] at h
    split
    · simp [Assoc.find]
    · by_cases e : i = k
      · simp [e] at h
      · simp only [e, if_false] at h; simp [Assoc.find, e, ih h]

theorem Assoc.find_ins_other (m : List (Nat × α)) (k j : Nat) (v : α) (h : j ≠ k) :
    Assoc.find (Assoc.ins m k v) j = Assoc.find m j := by
  induction m with
  | nil => simp [Assoc.ins, Assoc.find, Ne.symm h]
  | cons q t ih =>
    obtain ⟨i, w⟩ := q
    simp only [Assoc.ins]
    split
    · simp [Assoc.find, Ne.symm h]
    · simp only [Assoc.find, ih]

@[simp] theorem Assoc.find_put_same (m : List (Nat × α)) (k : Nat) (v : α) : Assoc.find (Assoc.put m k v) k = some v :=
  Assoc.find_ins_same _ k v (Assoc.find_del_same m k)

theorem Assoc.find_put_other (m : List (Nat × α)) (k j : Nat) (v : α) (h : j ≠ k) :
    Assoc.find (Assoc.put m k v) j = Assoc.find m j := by
  rw [Assoc.put, Assoc.find_ins_other _ _ _ _ h, Assoc.find_del_other _ _ _ h]

theorem Assoc.mem_put (m : List (Nat × α)) (k : Nat) (v : α) (p : Nat × α) (h : p ∈ Assoc.put m k v) :
    p = (k, v) ∨ p ∈ m := by
  rcases Assoc.mem_ins _ k v p h with h | h
  · exact .inl h
  · exact .inr (Assoc.mem_del m k p h).1

theorem Assoc.mem_of_find (m : List (Nat × α)) (k : Nat) (v : α) (h : Assoc.find m k = some v) : (k, v) ∈ m := by
  induction m with
  | nil => simp [Assoc.find] at h
  | cons q t ih =>
    obtain ⟨i, w⟩ := q
    simp only [Assoc.find] at h
    split at h
    · rename_i e; cases h; subst e; simp
    · exact List.mem_cons_of_mem _ (ih h)

end

theorem RegsWf.nil : RegsWf [] := ⟨rfl, by simp⟩

theorem RegsWf.put (m : List (Nat × Word)) (a : Nat) (w : Word) (h : RegsWf m) : RegsWf (regsPut m a w) := by
  unfold regsPut
  split
  · exact ⟨Assoc.rising_del m a h.1, fun p hp => h.2 p (Assoc.mem_del m a p hp).1⟩
  · rename_i hw
    refine ⟨Assoc.rising_put m a w h.1, fun p hp => ?_⟩
    rcases Assoc.mem_put m a w p hp with rfl | hp
    · exact hw
    · exact h.2 p hp

theorem RegsWf.filter (m : List (Nat × Word)) (f : Nat × Word → Bool) (h : RegsWf m) : RegsWf (m.filter f) :=
  ⟨Assoc.rising_filter m f h.1, fun p hp => h.2 p ((List.mem_filter.1 hp).1)⟩

/-- No entry of the tables has a subindex above 255. -/
theorem dictRows_sub (i : Nat) : ∀ r ∈ dictRowsAt i, r.sub + r.subCount ≤ 256 := by
  unfold dictRowsAt
  split <;> decide

theorem dictRowAt_sub (i j : Nat) (r : DictRow) (h : dictRowAt i j = some r) : j < 256 := by
  unfold dictRowAt at h
  have hm := dictRows_sub i r (List.mem_of_find?_eq_some h)
  have hc := List.find?_some h
  simp [dictCovers] at hc
  omega

theorem dkey_div (i j : Nat) (h : j < 256) : dkey i j / 256 = i ∧ dkey i j % 256 = j := by
  unfold dkey; omega

theorem DictWf.nil (g : Bool) : DictWf g [] := ⟨rfl, by simp⟩

theorem DictWf.put (g : Bool) (m : List (Nat × List Byte)) (i j : Nat) (v : List Byte) (h : DictWf g m) :
    DictWf g (dictPut g m i j v) := by
  unfold dictPut
  split
  · rename_i r hr
    have hj := dkey_div i j (dictRowAt_sub i j r hr)
    split
    · exact ⟨Assoc.rising_del m _ h.1, fun p hp => h.2 p (Assoc.mem_del m _ p hp).1⟩
    · rename_i hv
      refine ⟨Assoc.rising_put m _ v h.1, fun p hp => ?_⟩
      rcases Assoc.mem_put m _ v p hp with rfl | hp
      · simp only [entryDefault, hj.1, hj.2, hr, Option.map_some]
        intro e
        exact hv (Option.some.inj e).symm
      · exact h.2 p hp
  · exact h

theorem DictWf.filter (g : Bool) (m : List (Nat × List Byte)) (f : Nat × List Byte → Bool) (h : DictWf g m) :
    DictWf g (m.filter f) :=
  ⟨Assoc.rising_filter m f h.1, fun p hp => h.2 p (List.mem_filter.1 hp).1⟩

theorem DictWf.del (g : Bool) (m : List (Nat × List Byte)) (k : Nat) (h : DictWf g m) : DictWf g (Assoc.del m k) :=
  ⟨Assoc.rising_del m k h.1, fun p hp => h.2 p (Assoc.mem_del m k p hp).1⟩

/-- Memory keeps its canonical form under a write of one byte. -/
theorem Memory.wf_put (m : List Host.Cell) (a : Nat) (b : Byte) (h : Memory.wf m) : Memory.wf (memPut m a b) := by
  have h2 := h.2
  rw [List.all_eq_true] at h2
  unfold memPut storeCell
  split
  · refine ⟨Assoc.rising_del m a h.1, ?_⟩
    rw [List.all_eq_true]
    exact fun p hp => h2 p (Assoc.mem_del m a p hp).1
  · rename_i hb
    refine ⟨Assoc.rising_put m a b h.1, ?_⟩
    rw [List.all_eq_true]
    intro p hp
    rcases Assoc.mem_put m a b p hp with rfl | hp
    · simpa using hb
    · exact h2 p hp

theorem Memory.wf_putBytes (m : List Host.Cell) (a : Nat) (bs : List Byte) (h : Memory.wf m) :
    Memory.wf (memPutBytes m a bs) := by
  induction bs generalizing m a with
  | nil => exact h
  | cons b t ih => exact ih _ _ (Memory.wf_put m a b h)

theorem Memory.wf_filter (m : List Host.Cell) (f : Host.Cell → Bool) (h : Memory.wf m) : Memory.wf (m.filter f) := by
  refine ⟨Assoc.rising_filter m f h.1, ?_⟩
  have h2 := h.2
  rw [List.all_eq_true] at h2 ⊢
  exact fun p hp => h2 p ((List.mem_filter.1 hp).1)

/-- A read after a write of one byte: the byte written there, every other byte as before. -/
theorem memGet_put (m : List Host.Cell) (a j : Nat) (b : Byte) :
    memGet (memPut m a b) j = if j = a then b else memGet m j := by
  unfold memPut storeCell memGet
  split <;> split
  · rename_i e1 e2; subst e2; simp [Assoc.find_del_same, e1]
  · rename_i _ e; simp [Assoc.find_del_other _ _ _ e]
  · rename_i _ e; subst e; simp
  · rename_i _ e; simp [Assoc.find_put_other _ _ _ _ e]

end Sys2Proof.Machine
end

