-- ==== Sys2Proof/Laws/State.lean ====
section
/-!
SUPPORT. What each update of the state leaves alone: one lemma per field per update.
-/
namespace Sys2Proof.Machine
open Sys2Proof
set_option Elab.async false

@[simp] theorem State.setReg_dict (s : State) (a : Nat) (w : Word) : (s.setReg a w).dict = s.dict := rfl
@[simp] theorem State.setReg_bank3 (s : State) (a : Nat) (w : Word) : (s.setReg a w).bank3 = s.bank3 := rfl
@[simp] theorem State.setReg_factory (s : State) (a : Nat) (w : Word) : (s.setReg a w).factory = s.factory := rfl
@[simp] theorem State.setReg_pwr (s : State) (a : Nat) (w : Word) : (s.setReg a w).pwr = s.pwr := rfl
@[simp] theorem State.setReg_ash (s : State) (a : Nat) (w : Word) : (s.setReg a w).ash = s.ash := rfl
@[simp] theorem State.setReg_boot (s : State) (a : Nat) (w : Word) : (s.setReg a w).boot = s.boot := rfl
@[simp] theorem State.setReg_d2d (s : State) (a : Nat) (w : Word) : (s.setReg a w).d2d = s.d2d := rfl
@[simp] theorem State.setReg_fcl (s : State) (a : Nat) (w : Word) : (s.setReg a w).fcl = s.fcl := rfl
@[simp] theorem State.setReg_evt (s : State) (a : Nat) (w : Word) : (s.setReg a w).evt = s.evt := rfl
@[simp] theorem State.setReg_can (s : State) (a : Nat) (w : Word) : (s.setReg a w).can = s.can := rfl
@[simp] theorem State.setReg_clk (s : State) (a : Nat) (w : Word) : (s.setReg a w).clk = s.clk := rfl
@[simp] theorem State.setReg_tint (s : State) (a : Nat) (w : Word) : (s.setReg a w).tint = s.tint := rfl
@[simp] theorem State.setReg_nvc (s : State) (a : Nat) (w : Word) : (s.setReg a w).nvc = s.nvc := rfl
@[simp] theorem State.setReg_lcm (s : State) (a : Nat) (w : Word) : (s.setReg a w).lcm = s.lcm := rfl
@[simp] theorem State.setReg_tst (s : State) (a : Nat) (w : Word) : (s.setReg a w).tst = s.tst := rfl
@[simp] theorem State.setReg_bmc (s : State) (a : Nat) (w : Word) : (s.setReg a w).bmc = s.bmc := rfl
@[simp] theorem State.setReg_dma (s : State) (a : Nat) (w : Word) : (s.setReg a w).dma = s.dma := rfl
@[simp] theorem State.setReg_hcc (s : State) (a : Nat) (w : Word) : (s.setReg a w).hcc = s.hcc := rfl
@[simp] theorem State.setReg_qmg (s : State) (a : Nat) (w : Word) : (s.setReg a w).qmg = s.qmg := rfl
@[simp] theorem State.setReg_obj (s : State) (a : Nat) (w : Word) : (s.setReg a w).obj = s.obj := rfl
@[simp] theorem State.setReg_media (s : State) (a : Nat) (w : Word) : (s.setReg a w).media = s.media := rfl
@[simp] theorem State.setReg_disk (s : State) (a : Nat) (w : Word) : (s.setReg a w).disk = s.disk := rfl
@[simp] theorem State.setReg_chn0 (s : State) (a : Nat) (w : Word) : (s.setReg a w).chn0 = s.chn0 := rfl
@[simp] theorem State.setReg_chn1 (s : State) (a : Nat) (w : Word) : (s.setReg a w).chn1 = s.chn1 := rfl
@[simp] theorem State.setReg_dec (s : State) (a : Nat) (w : Word) : (s.setReg a w).dec = s.dec := rfl
@[simp] theorem State.setReg_pre0 (s : State) (a : Nat) (w : Word) : (s.setReg a w).pre0 = s.pre0 := rfl
@[simp] theorem State.setReg_pre1 (s : State) (a : Nat) (w : Word) : (s.setReg a w).pre1 = s.pre1 := rfl
@[simp] theorem State.setReg_srv0 (s : State) (a : Nat) (w : Word) : (s.setReg a w).srv0 = s.srv0 := rfl
@[simp] theorem State.setReg_srv1 (s : State) (a : Nat) (w : Word) : (s.setReg a w).srv1 = s.srv1 := rfl
@[simp] theorem State.setReg_cle (s : State) (a : Nat) (w : Word) : (s.setReg a w).cle = s.cle := rfl
@[simp] theorem State.setReg_spm (s : State) (a : Nat) (w : Word) : (s.setReg a w).spm = s.spm := rfl
@[simp] theorem State.setReg_mfe (s : State) (a : Nat) (w : Word) : (s.setReg a w).mfe = s.mfe := rfl
@[simp] theorem State.setReg_cxc (s : State) (a : Nat) (w : Word) : (s.setReg a w).cxc = s.cxc := rfl
@[simp] theorem State.setReg_mig (s : State) (a : Nat) (w : Word) : (s.setReg a w).mig = s.mig := rfl
@[simp] theorem State.setReg_free (s : State) (a : Nat) (w : Word) : (s.setReg a w).free = s.free := rfl
@[simp] theorem State.setReg_out (s : State) (a : Nat) (w : Word) : (s.setReg a w).out = s.out := rfl
@[simp] theorem State.setReg_pending (s : State) (a : Nat) (w : Word) : (s.setReg a w).pending = s.pending := rfl

@[simp] theorem State.setF_dict (s : State) (f : FieldRef) (v : Nat) : (s.setF f v).dict = s.dict := rfl
@[simp] theorem State.setF_bank3 (s : State) (f : FieldRef) (v : Nat) : (s.setF f v).bank3 = s.bank3 := rfl
@[simp] theorem State.setF_factory (s : State) (f : FieldRef) (v : Nat) : (s.setF f v).factory = s.factory := rfl
@[simp] theorem State.setF_pwr (s : State) (f : FieldRef) (v : Nat) : (s.setF f v).pwr = s.pwr := rfl
@[simp] theorem State.setF_ash (s : State) (f : FieldRef) (v : Nat) : (s.setF f v).ash = s.ash := rfl
@[simp] theorem State.setF_boot (s : State) (f : FieldRef) (v : Nat) : (s.setF f v).boot = s.boot := rfl
@[simp] theorem State.setF_d2d (s : State) (f : FieldRef) (v : Nat) : (s.setF f v).d2d = s.d2d := rfl
@[simp] theorem State.setF_fcl (s : State) (f : FieldRef) (v : Nat) : (s.setF f v).fcl = s.fcl := rfl
@[simp] theorem State.setF_evt (s : State) (f : FieldRef) (v : Nat) : (s.setF f v).evt = s.evt := rfl
@[simp] theorem State.setF_can (s : State) (f : FieldRef) (v : Nat) : (s.setF f v).can = s.can := rfl
@[simp] theorem State.setF_clk (s : State) (f : FieldRef) (v : Nat) : (s.setF f v).clk = s.clk := rfl
@[simp] theorem State.setF_tint (s : State) (f : FieldRef) (v : Nat) : (s.setF f v).tint = s.tint := rfl
@[simp] theorem State.setF_nvc (s : State) (f : FieldRef) (v : Nat) : (s.setF f v).nvc = s.nvc := rfl
@[simp] theorem State.setF_lcm (s : State) (f : FieldRef) (v : Nat) : (s.setF f v).lcm = s.lcm := rfl
@[simp] theorem State.setF_tst (s : State) (f : FieldRef) (v : Nat) : (s.setF f v).tst = s.tst := rfl
@[simp] theorem State.setF_bmc (s : State) (f : FieldRef) (v : Nat) : (s.setF f v).bmc = s.bmc := rfl
@[simp] theorem State.setF_dma (s : State) (f : FieldRef) (v : Nat) : (s.setF f v).dma = s.dma := rfl
@[simp] theorem State.setF_hcc (s : State) (f : FieldRef) (v : Nat) : (s.setF f v).hcc = s.hcc := rfl
@[simp] theorem State.setF_qmg (s : State) (f : FieldRef) (v : Nat) : (s.setF f v).qmg = s.qmg := rfl
@[simp] theorem State.setF_obj (s : State) (f : FieldRef) (v : Nat) : (s.setF f v).obj = s.obj := rfl
@[simp] theorem State.setF_media (s : State) (f : FieldRef) (v : Nat) : (s.setF f v).media = s.media := rfl
@[simp] theorem State.setF_disk (s : State) (f : FieldRef) (v : Nat) : (s.setF f v).disk = s.disk := rfl
@[simp] theorem State.setF_chn0 (s : State) (f : FieldRef) (v : Nat) : (s.setF f v).chn0 = s.chn0 := rfl
@[simp] theorem State.setF_chn1 (s : State) (f : FieldRef) (v : Nat) : (s.setF f v).chn1 = s.chn1 := rfl
@[simp] theorem State.setF_dec (s : State) (f : FieldRef) (v : Nat) : (s.setF f v).dec = s.dec := rfl
@[simp] theorem State.setF_pre0 (s : State) (f : FieldRef) (v : Nat) : (s.setF f v).pre0 = s.pre0 := rfl
@[simp] theorem State.setF_pre1 (s : State) (f : FieldRef) (v : Nat) : (s.setF f v).pre1 = s.pre1 := rfl
@[simp] theorem State.setF_srv0 (s : State) (f : FieldRef) (v : Nat) : (s.setF f v).srv0 = s.srv0 := rfl
@[simp] theorem State.setF_srv1 (s : State) (f : FieldRef) (v : Nat) : (s.setF f v).srv1 = s.srv1 := rfl
@[simp] theorem State.setF_cle (s : State) (f : FieldRef) (v : Nat) : (s.setF f v).cle = s.cle := rfl
@[simp] theorem State.setF_spm (s : State) (f : FieldRef) (v : Nat) : (s.setF f v).spm = s.spm := rfl
@[simp] theorem State.setF_mfe (s : State) (f : FieldRef) (v : Nat) : (s.setF f v).mfe = s.mfe := rfl
@[simp] theorem State.setF_cxc (s : State) (f : FieldRef) (v : Nat) : (s.setF f v).cxc = s.cxc := rfl
@[simp] theorem State.setF_mig (s : State) (f : FieldRef) (v : Nat) : (s.setF f v).mig = s.mig := rfl
@[simp] theorem State.setF_free (s : State) (f : FieldRef) (v : Nat) : (s.setF f v).free = s.free := rfl
@[simp] theorem State.setF_out (s : State) (f : FieldRef) (v : Nat) : (s.setF f v).out = s.out := rfl
@[simp] theorem State.setF_pending (s : State) (f : FieldRef) (v : Nat) : (s.setF f v).pending = s.pending := rfl

@[simp] theorem State.bumpF_dict (s : State) (f : FieldRef) (d : Nat) : (s.bumpF f d).dict = s.dict := rfl
@[simp] theorem State.bumpF_bank3 (s : State) (f : FieldRef) (d : Nat) : (s.bumpF f d).bank3 = s.bank3 := rfl
@[simp] theorem State.bumpF_factory (s : State) (f : FieldRef) (d : Nat) : (s.bumpF f d).factory = s.factory := rfl
@[simp] theorem State.bumpF_pwr (s : State) (f : FieldRef) (d : Nat) : (s.bumpF f d).pwr = s.pwr := rfl
@[simp] theorem State.bumpF_ash (s : State) (f : FieldRef) (d : Nat) : (s.bumpF f d).ash = s.ash := rfl
@[simp] theorem State.bumpF_boot (s : State) (f : FieldRef) (d : Nat) : (s.bumpF f d).boot = s.boot := rfl
@[simp] theorem State.bumpF_d2d (s : State) (f : FieldRef) (d : Nat) : (s.bumpF f d).d2d = s.d2d := rfl
@[simp] theorem State.bumpF_fcl (s : State) (f : FieldRef) (d : Nat) : (s.bumpF f d).fcl = s.fcl := rfl
@[simp] theorem State.bumpF_evt (s : State) (f : FieldRef) (d : Nat) : (s.bumpF f d).evt = s.evt := rfl
@[simp] theorem State.bumpF_can (s : State) (f : FieldRef) (d : Nat) : (s.bumpF f d).can = s.can := rfl
@[simp] theorem State.bumpF_clk (s : State) (f : FieldRef) (d : Nat) : (s.bumpF f d).clk = s.clk := rfl
@[simp] theorem State.bumpF_tint (s : State) (f : FieldRef) (d : Nat) : (s.bumpF f d).tint = s.tint := rfl
@[simp] theorem State.bumpF_nvc (s : State) (f : FieldRef) (d : Nat) : (s.bumpF f d).nvc = s.nvc := rfl
@[simp] theorem State.bumpF_lcm (s : State) (f : FieldRef) (d : Nat) : (s.bumpF f d).lcm = s.lcm := rfl
@[simp] theorem State.bumpF_tst (s : State) (f : FieldRef) (d : Nat) : (s.bumpF f d).tst = s.tst := rfl
@[simp] theorem State.bumpF_bmc (s : State) (f : FieldRef) (d : Nat) : (s.bumpF f d).bmc = s.bmc := rfl
@[simp] theorem State.bumpF_dma (s : State) (f : FieldRef) (d : Nat) : (s.bumpF f d).dma = s.dma := rfl
@[simp] theorem State.bumpF_hcc (s : State) (f : FieldRef) (d : Nat) : (s.bumpF f d).hcc = s.hcc := rfl
@[simp] theorem State.bumpF_qmg (s : State) (f : FieldRef) (d : Nat) : (s.bumpF f d).qmg = s.qmg := rfl
@[simp] theorem State.bumpF_obj (s : State) (f : FieldRef) (d : Nat) : (s.bumpF f d).obj = s.obj := rfl
@[simp] theorem State.bumpF_media (s : State) (f : FieldRef) (d : Nat) : (s.bumpF f d).media = s.media := rfl
@[simp] theorem State.bumpF_disk (s : State) (f : FieldRef) (d : Nat) : (s.bumpF f d).disk = s.disk := rfl
@[simp] theorem State.bumpF_chn0 (s : State) (f : FieldRef) (d : Nat) : (s.bumpF f d).chn0 = s.chn0 := rfl
@[simp] theorem State.bumpF_chn1 (s : State) (f : FieldRef) (d : Nat) : (s.bumpF f d).chn1 = s.chn1 := rfl
@[simp] theorem State.bumpF_dec (s : State) (f : FieldRef) (d : Nat) : (s.bumpF f d).dec = s.dec := rfl
@[simp] theorem State.bumpF_pre0 (s : State) (f : FieldRef) (d : Nat) : (s.bumpF f d).pre0 = s.pre0 := rfl
@[simp] theorem State.bumpF_pre1 (s : State) (f : FieldRef) (d : Nat) : (s.bumpF f d).pre1 = s.pre1 := rfl
@[simp] theorem State.bumpF_srv0 (s : State) (f : FieldRef) (d : Nat) : (s.bumpF f d).srv0 = s.srv0 := rfl
@[simp] theorem State.bumpF_srv1 (s : State) (f : FieldRef) (d : Nat) : (s.bumpF f d).srv1 = s.srv1 := rfl
@[simp] theorem State.bumpF_cle (s : State) (f : FieldRef) (d : Nat) : (s.bumpF f d).cle = s.cle := rfl
@[simp] theorem State.bumpF_spm (s : State) (f : FieldRef) (d : Nat) : (s.bumpF f d).spm = s.spm := rfl
@[simp] theorem State.bumpF_mfe (s : State) (f : FieldRef) (d : Nat) : (s.bumpF f d).mfe = s.mfe := rfl
@[simp] theorem State.bumpF_cxc (s : State) (f : FieldRef) (d : Nat) : (s.bumpF f d).cxc = s.cxc := rfl
@[simp] theorem State.bumpF_mig (s : State) (f : FieldRef) (d : Nat) : (s.bumpF f d).mig = s.mig := rfl
@[simp] theorem State.bumpF_free (s : State) (f : FieldRef) (d : Nat) : (s.bumpF f d).free = s.free := rfl
@[simp] theorem State.bumpF_out (s : State) (f : FieldRef) (d : Nat) : (s.bumpF f d).out = s.out := rfl
@[simp] theorem State.bumpF_pending (s : State) (f : FieldRef) (d : Nat) : (s.bumpF f d).pending = s.pending := rfl

@[simp] theorem State.setSticky_dict (s : State) (src : Nat) (b : Bool) : (s.setSticky src b).dict = s.dict := rfl
@[simp] theorem State.setSticky_bank3 (s : State) (src : Nat) (b : Bool) : (s.setSticky src b).bank3 = s.bank3 := rfl
@[simp] theorem State.setSticky_factory (s : State) (src : Nat) (b : Bool) : (s.setSticky src b).factory = s.factory := rfl
@[simp] theorem State.setSticky_pwr (s : State) (src : Nat) (b : Bool) : (s.setSticky src b).pwr = s.pwr := rfl
@[simp] theorem State.setSticky_ash (s : State) (src : Nat) (b : Bool) : (s.setSticky src b).ash = s.ash := rfl
@[simp] theorem State.setSticky_boot (s : State) (src : Nat) (b : Bool) : (s.setSticky src b).boot = s.boot := rfl
@[simp] theorem State.setSticky_d2d (s : State) (src : Nat) (b : Bool) : (s.setSticky src b).d2d = s.d2d := rfl
@[simp] theorem State.setSticky_fcl (s : State) (src : Nat) (b : Bool) : (s.setSticky src b).fcl = s.fcl := rfl
@[simp] theorem State.setSticky_evt (s : State) (src : Nat) (b : Bool) : (s.setSticky src b).evt = s.evt := rfl
@[simp] theorem State.setSticky_can (s : State) (src : Nat) (b : Bool) : (s.setSticky src b).can = s.can := rfl
@[simp] theorem State.setSticky_clk (s : State) (src : Nat) (b : Bool) : (s.setSticky src b).clk = s.clk := rfl
@[simp] theorem State.setSticky_tint (s : State) (src : Nat) (b : Bool) : (s.setSticky src b).tint = s.tint := rfl
@[simp] theorem State.setSticky_nvc (s : State) (src : Nat) (b : Bool) : (s.setSticky src b).nvc = s.nvc := rfl
@[simp] theorem State.setSticky_lcm (s : State) (src : Nat) (b : Bool) : (s.setSticky src b).lcm = s.lcm := rfl
@[simp] theorem State.setSticky_tst (s : State) (src : Nat) (b : Bool) : (s.setSticky src b).tst = s.tst := rfl
@[simp] theorem State.setSticky_bmc (s : State) (src : Nat) (b : Bool) : (s.setSticky src b).bmc = s.bmc := rfl
@[simp] theorem State.setSticky_dma (s : State) (src : Nat) (b : Bool) : (s.setSticky src b).dma = s.dma := rfl
@[simp] theorem State.setSticky_hcc (s : State) (src : Nat) (b : Bool) : (s.setSticky src b).hcc = s.hcc := rfl
@[simp] theorem State.setSticky_qmg (s : State) (src : Nat) (b : Bool) : (s.setSticky src b).qmg = s.qmg := rfl
@[simp] theorem State.setSticky_obj (s : State) (src : Nat) (b : Bool) : (s.setSticky src b).obj = s.obj := rfl
@[simp] theorem State.setSticky_media (s : State) (src : Nat) (b : Bool) : (s.setSticky src b).media = s.media := rfl
@[simp] theorem State.setSticky_disk (s : State) (src : Nat) (b : Bool) : (s.setSticky src b).disk = s.disk := rfl
@[simp] theorem State.setSticky_chn0 (s : State) (src : Nat) (b : Bool) : (s.setSticky src b).chn0 = s.chn0 := rfl
@[simp] theorem State.setSticky_chn1 (s : State) (src : Nat) (b : Bool) : (s.setSticky src b).chn1 = s.chn1 := rfl
@[simp] theorem State.setSticky_dec (s : State) (src : Nat) (b : Bool) : (s.setSticky src b).dec = s.dec := rfl
@[simp] theorem State.setSticky_pre0 (s : State) (src : Nat) (b : Bool) : (s.setSticky src b).pre0 = s.pre0 := rfl
@[simp] theorem State.setSticky_pre1 (s : State) (src : Nat) (b : Bool) : (s.setSticky src b).pre1 = s.pre1 := rfl
@[simp] theorem State.setSticky_srv0 (s : State) (src : Nat) (b : Bool) : (s.setSticky src b).srv0 = s.srv0 := rfl
@[simp] theorem State.setSticky_srv1 (s : State) (src : Nat) (b : Bool) : (s.setSticky src b).srv1 = s.srv1 := rfl
@[simp] theorem State.setSticky_cle (s : State) (src : Nat) (b : Bool) : (s.setSticky src b).cle = s.cle := rfl
@[simp] theorem State.setSticky_spm (s : State) (src : Nat) (b : Bool) : (s.setSticky src b).spm = s.spm := rfl
@[simp] theorem State.setSticky_mfe (s : State) (src : Nat) (b : Bool) : (s.setSticky src b).mfe = s.mfe := rfl
@[simp] theorem State.setSticky_cxc (s : State) (src : Nat) (b : Bool) : (s.setSticky src b).cxc = s.cxc := rfl
@[simp] theorem State.setSticky_mig (s : State) (src : Nat) (b : Bool) : (s.setSticky src b).mig = s.mig := rfl
@[simp] theorem State.setSticky_free (s : State) (src : Nat) (b : Bool) : (s.setSticky src b).free = s.free := rfl
@[simp] theorem State.setSticky_out (s : State) (src : Nat) (b : Bool) : (s.setSticky src b).out = s.out := rfl
@[simp] theorem State.setSticky_pending (s : State) (src : Nat) (b : Bool) : (s.setSticky src b).pending = s.pending := rfl

@[simp] theorem State.setSeverity_dict (s : State) (src v : Nat) : (s.setSeverity src v).dict = s.dict := rfl
@[simp] theorem State.setSeverity_bank3 (s : State) (src v : Nat) : (s.setSeverity src v).bank3 = s.bank3 := rfl
@[simp] theorem State.setSeverity_factory (s : State) (src v : Nat) : (s.setSeverity src v).factory = s.factory := rfl
@[simp] theorem State.setSeverity_pwr (s : State) (src v : Nat) : (s.setSeverity src v).pwr = s.pwr := rfl
@[simp] theorem State.setSeverity_ash (s : State) (src v : Nat) : (s.setSeverity src v).ash = s.ash := rfl
@[simp] theorem State.setSeverity_boot (s : State) (src v : Nat) : (s.setSeverity src v).boot = s.boot := rfl
@[simp] theorem State.setSeverity_d2d (s : State) (src v : Nat) : (s.setSeverity src v).d2d = s.d2d := rfl
@[simp] theorem State.setSeverity_fcl (s : State) (src v : Nat) : (s.setSeverity src v).fcl = s.fcl := rfl
@[simp] theorem State.setSeverity_evt (s : State) (src v : Nat) : (s.setSeverity src v).evt = s.evt := rfl
@[simp] theorem State.setSeverity_can (s : State) (src v : Nat) : (s.setSeverity src v).can = s.can := rfl
@[simp] theorem State.setSeverity_clk (s : State) (src v : Nat) : (s.setSeverity src v).clk = s.clk := rfl
@[simp] theorem State.setSeverity_tint (s : State) (src v : Nat) : (s.setSeverity src v).tint = s.tint := rfl
@[simp] theorem State.setSeverity_nvc (s : State) (src v : Nat) : (s.setSeverity src v).nvc = s.nvc := rfl
@[simp] theorem State.setSeverity_lcm (s : State) (src v : Nat) : (s.setSeverity src v).lcm = s.lcm := rfl
@[simp] theorem State.setSeverity_tst (s : State) (src v : Nat) : (s.setSeverity src v).tst = s.tst := rfl
@[simp] theorem State.setSeverity_bmc (s : State) (src v : Nat) : (s.setSeverity src v).bmc = s.bmc := rfl
@[simp] theorem State.setSeverity_dma (s : State) (src v : Nat) : (s.setSeverity src v).dma = s.dma := rfl
@[simp] theorem State.setSeverity_hcc (s : State) (src v : Nat) : (s.setSeverity src v).hcc = s.hcc := rfl
@[simp] theorem State.setSeverity_qmg (s : State) (src v : Nat) : (s.setSeverity src v).qmg = s.qmg := rfl
@[simp] theorem State.setSeverity_obj (s : State) (src v : Nat) : (s.setSeverity src v).obj = s.obj := rfl
@[simp] theorem State.setSeverity_media (s : State) (src v : Nat) : (s.setSeverity src v).media = s.media := rfl
@[simp] theorem State.setSeverity_disk (s : State) (src v : Nat) : (s.setSeverity src v).disk = s.disk := rfl
@[simp] theorem State.setSeverity_chn0 (s : State) (src v : Nat) : (s.setSeverity src v).chn0 = s.chn0 := rfl
@[simp] theorem State.setSeverity_chn1 (s : State) (src v : Nat) : (s.setSeverity src v).chn1 = s.chn1 := rfl
@[simp] theorem State.setSeverity_dec (s : State) (src v : Nat) : (s.setSeverity src v).dec = s.dec := rfl
@[simp] theorem State.setSeverity_pre0 (s : State) (src v : Nat) : (s.setSeverity src v).pre0 = s.pre0 := rfl
@[simp] theorem State.setSeverity_pre1 (s : State) (src v : Nat) : (s.setSeverity src v).pre1 = s.pre1 := rfl
@[simp] theorem State.setSeverity_srv0 (s : State) (src v : Nat) : (s.setSeverity src v).srv0 = s.srv0 := rfl
@[simp] theorem State.setSeverity_srv1 (s : State) (src v : Nat) : (s.setSeverity src v).srv1 = s.srv1 := rfl
@[simp] theorem State.setSeverity_cle (s : State) (src v : Nat) : (s.setSeverity src v).cle = s.cle := rfl
@[simp] theorem State.setSeverity_spm (s : State) (src v : Nat) : (s.setSeverity src v).spm = s.spm := rfl
@[simp] theorem State.setSeverity_mfe (s : State) (src v : Nat) : (s.setSeverity src v).mfe = s.mfe := rfl
@[simp] theorem State.setSeverity_cxc (s : State) (src v : Nat) : (s.setSeverity src v).cxc = s.cxc := rfl
@[simp] theorem State.setSeverity_mig (s : State) (src v : Nat) : (s.setSeverity src v).mig = s.mig := rfl
@[simp] theorem State.setSeverity_free (s : State) (src v : Nat) : (s.setSeverity src v).free = s.free := rfl
@[simp] theorem State.setSeverity_out (s : State) (src v : Nat) : (s.setSeverity src v).out = s.out := rfl
@[simp] theorem State.setSeverity_pending (s : State) (src v : Nat) : (s.setSeverity src v).pending = s.pending := rfl

@[simp] theorem State.setParked_dict (s : State) (k : Nat) (b : Bool) : (s.setParked k b).dict = s.dict := rfl
@[simp] theorem State.setParked_bank3 (s : State) (k : Nat) (b : Bool) : (s.setParked k b).bank3 = s.bank3 := rfl
@[simp] theorem State.setParked_factory (s : State) (k : Nat) (b : Bool) : (s.setParked k b).factory = s.factory := rfl
@[simp] theorem State.setParked_pwr (s : State) (k : Nat) (b : Bool) : (s.setParked k b).pwr = s.pwr := rfl
@[simp] theorem State.setParked_ash (s : State) (k : Nat) (b : Bool) : (s.setParked k b).ash = s.ash := rfl
@[simp] theorem State.setParked_boot (s : State) (k : Nat) (b : Bool) : (s.setParked k b).boot = s.boot := rfl
@[simp] theorem State.setParked_d2d (s : State) (k : Nat) (b : Bool) : (s.setParked k b).d2d = s.d2d := rfl
@[simp] theorem State.setParked_fcl (s : State) (k : Nat) (b : Bool) : (s.setParked k b).fcl = s.fcl := rfl
@[simp] theorem State.setParked_evt (s : State) (k : Nat) (b : Bool) : (s.setParked k b).evt = s.evt := rfl
@[simp] theorem State.setParked_can (s : State) (k : Nat) (b : Bool) : (s.setParked k b).can = s.can := rfl
@[simp] theorem State.setParked_clk (s : State) (k : Nat) (b : Bool) : (s.setParked k b).clk = s.clk := rfl
@[simp] theorem State.setParked_tint (s : State) (k : Nat) (b : Bool) : (s.setParked k b).tint = s.tint := rfl
@[simp] theorem State.setParked_nvc (s : State) (k : Nat) (b : Bool) : (s.setParked k b).nvc = s.nvc := rfl
@[simp] theorem State.setParked_lcm (s : State) (k : Nat) (b : Bool) : (s.setParked k b).lcm = s.lcm := rfl
@[simp] theorem State.setParked_tst (s : State) (k : Nat) (b : Bool) : (s.setParked k b).tst = s.tst := rfl
@[simp] theorem State.setParked_bmc (s : State) (k : Nat) (b : Bool) : (s.setParked k b).bmc = s.bmc := rfl
@[simp] theorem State.setParked_dma (s : State) (k : Nat) (b : Bool) : (s.setParked k b).dma = s.dma := rfl
@[simp] theorem State.setParked_hcc (s : State) (k : Nat) (b : Bool) : (s.setParked k b).hcc = s.hcc := rfl
@[simp] theorem State.setParked_qmg (s : State) (k : Nat) (b : Bool) : (s.setParked k b).qmg = s.qmg := rfl
@[simp] theorem State.setParked_obj (s : State) (k : Nat) (b : Bool) : (s.setParked k b).obj = s.obj := rfl
@[simp] theorem State.setParked_media (s : State) (k : Nat) (b : Bool) : (s.setParked k b).media = s.media := rfl
@[simp] theorem State.setParked_disk (s : State) (k : Nat) (b : Bool) : (s.setParked k b).disk = s.disk := rfl
@[simp] theorem State.setParked_chn0 (s : State) (k : Nat) (b : Bool) : (s.setParked k b).chn0 = s.chn0 := rfl
@[simp] theorem State.setParked_chn1 (s : State) (k : Nat) (b : Bool) : (s.setParked k b).chn1 = s.chn1 := rfl
@[simp] theorem State.setParked_dec (s : State) (k : Nat) (b : Bool) : (s.setParked k b).dec = s.dec := rfl
@[simp] theorem State.setParked_pre0 (s : State) (k : Nat) (b : Bool) : (s.setParked k b).pre0 = s.pre0 := rfl
@[simp] theorem State.setParked_pre1 (s : State) (k : Nat) (b : Bool) : (s.setParked k b).pre1 = s.pre1 := rfl
@[simp] theorem State.setParked_srv0 (s : State) (k : Nat) (b : Bool) : (s.setParked k b).srv0 = s.srv0 := rfl
@[simp] theorem State.setParked_srv1 (s : State) (k : Nat) (b : Bool) : (s.setParked k b).srv1 = s.srv1 := rfl
@[simp] theorem State.setParked_cle (s : State) (k : Nat) (b : Bool) : (s.setParked k b).cle = s.cle := rfl
@[simp] theorem State.setParked_spm (s : State) (k : Nat) (b : Bool) : (s.setParked k b).spm = s.spm := rfl
@[simp] theorem State.setParked_mfe (s : State) (k : Nat) (b : Bool) : (s.setParked k b).mfe = s.mfe := rfl
@[simp] theorem State.setParked_cxc (s : State) (k : Nat) (b : Bool) : (s.setParked k b).cxc = s.cxc := rfl
@[simp] theorem State.setParked_mig (s : State) (k : Nat) (b : Bool) : (s.setParked k b).mig = s.mig := rfl
@[simp] theorem State.setParked_free (s : State) (k : Nat) (b : Bool) : (s.setParked k b).free = s.free := rfl
@[simp] theorem State.setParked_out (s : State) (k : Nat) (b : Bool) : (s.setParked k b).out = s.out := rfl
@[simp] theorem State.setParked_pending (s : State) (k : Nat) (b : Bool) : (s.setParked k b).pending = s.pending := rfl

@[simp] theorem State.setRetracting_dict (s : State) (k : Nat) (b : Bool) : (s.setRetracting k b).dict = s.dict := rfl
@[simp] theorem State.setRetracting_bank3 (s : State) (k : Nat) (b : Bool) : (s.setRetracting k b).bank3 = s.bank3 := rfl
@[simp] theorem State.setRetracting_factory (s : State) (k : Nat) (b : Bool) : (s.setRetracting k b).factory = s.factory := rfl
@[simp] theorem State.setRetracting_pwr (s : State) (k : Nat) (b : Bool) : (s.setRetracting k b).pwr = s.pwr := rfl
@[simp] theorem State.setRetracting_ash (s : State) (k : Nat) (b : Bool) : (s.setRetracting k b).ash = s.ash := rfl
@[simp] theorem State.setRetracting_boot (s : State) (k : Nat) (b : Bool) : (s.setRetracting k b).boot = s.boot := rfl
@[simp] theorem State.setRetracting_d2d (s : State) (k : Nat) (b : Bool) : (s.setRetracting k b).d2d = s.d2d := rfl
@[simp] theorem State.setRetracting_fcl (s : State) (k : Nat) (b : Bool) : (s.setRetracting k b).fcl = s.fcl := rfl
@[simp] theorem State.setRetracting_evt (s : State) (k : Nat) (b : Bool) : (s.setRetracting k b).evt = s.evt := rfl
@[simp] theorem State.setRetracting_can (s : State) (k : Nat) (b : Bool) : (s.setRetracting k b).can = s.can := rfl
@[simp] theorem State.setRetracting_clk (s : State) (k : Nat) (b : Bool) : (s.setRetracting k b).clk = s.clk := rfl
@[simp] theorem State.setRetracting_tint (s : State) (k : Nat) (b : Bool) : (s.setRetracting k b).tint = s.tint := rfl
@[simp] theorem State.setRetracting_nvc (s : State) (k : Nat) (b : Bool) : (s.setRetracting k b).nvc = s.nvc := rfl
@[simp] theorem State.setRetracting_lcm (s : State) (k : Nat) (b : Bool) : (s.setRetracting k b).lcm = s.lcm := rfl
@[simp] theorem State.setRetracting_tst (s : State) (k : Nat) (b : Bool) : (s.setRetracting k b).tst = s.tst := rfl
@[simp] theorem State.setRetracting_bmc (s : State) (k : Nat) (b : Bool) : (s.setRetracting k b).bmc = s.bmc := rfl
@[simp] theorem State.setRetracting_dma (s : State) (k : Nat) (b : Bool) : (s.setRetracting k b).dma = s.dma := rfl
@[simp] theorem State.setRetracting_hcc (s : State) (k : Nat) (b : Bool) : (s.setRetracting k b).hcc = s.hcc := rfl
@[simp] theorem State.setRetracting_qmg (s : State) (k : Nat) (b : Bool) : (s.setRetracting k b).qmg = s.qmg := rfl
@[simp] theorem State.setRetracting_obj (s : State) (k : Nat) (b : Bool) : (s.setRetracting k b).obj = s.obj := rfl
@[simp] theorem State.setRetracting_media (s : State) (k : Nat) (b : Bool) : (s.setRetracting k b).media = s.media := rfl
@[simp] theorem State.setRetracting_disk (s : State) (k : Nat) (b : Bool) : (s.setRetracting k b).disk = s.disk := rfl
@[simp] theorem State.setRetracting_chn0 (s : State) (k : Nat) (b : Bool) : (s.setRetracting k b).chn0 = s.chn0 := rfl
@[simp] theorem State.setRetracting_chn1 (s : State) (k : Nat) (b : Bool) : (s.setRetracting k b).chn1 = s.chn1 := rfl
@[simp] theorem State.setRetracting_dec (s : State) (k : Nat) (b : Bool) : (s.setRetracting k b).dec = s.dec := rfl
@[simp] theorem State.setRetracting_pre0 (s : State) (k : Nat) (b : Bool) : (s.setRetracting k b).pre0 = s.pre0 := rfl
@[simp] theorem State.setRetracting_pre1 (s : State) (k : Nat) (b : Bool) : (s.setRetracting k b).pre1 = s.pre1 := rfl
@[simp] theorem State.setRetracting_srv0 (s : State) (k : Nat) (b : Bool) : (s.setRetracting k b).srv0 = s.srv0 := rfl
@[simp] theorem State.setRetracting_srv1 (s : State) (k : Nat) (b : Bool) : (s.setRetracting k b).srv1 = s.srv1 := rfl
@[simp] theorem State.setRetracting_cle (s : State) (k : Nat) (b : Bool) : (s.setRetracting k b).cle = s.cle := rfl
@[simp] theorem State.setRetracting_spm (s : State) (k : Nat) (b : Bool) : (s.setRetracting k b).spm = s.spm := rfl
@[simp] theorem State.setRetracting_mfe (s : State) (k : Nat) (b : Bool) : (s.setRetracting k b).mfe = s.mfe := rfl
@[simp] theorem State.setRetracting_cxc (s : State) (k : Nat) (b : Bool) : (s.setRetracting k b).cxc = s.cxc := rfl
@[simp] theorem State.setRetracting_mig (s : State) (k : Nat) (b : Bool) : (s.setRetracting k b).mig = s.mig := rfl
@[simp] theorem State.setRetracting_free (s : State) (k : Nat) (b : Bool) : (s.setRetracting k b).free = s.free := rfl
@[simp] theorem State.setRetracting_out (s : State) (k : Nat) (b : Bool) : (s.setRetracting k b).out = s.out := rfl
@[simp] theorem State.setRetracting_pending (s : State) (k : Nat) (b : Bool) : (s.setRetracting k b).pending = s.pending := rfl

@[simp] theorem State.setDict_regs (s : State) (i j : Nat) (v : List Byte) : (s.setDict i j v).regs = s.regs := rfl
@[simp] theorem State.setDict_bank3 (s : State) (i j : Nat) (v : List Byte) : (s.setDict i j v).bank3 = s.bank3 := rfl
@[simp] theorem State.setDict_factory (s : State) (i j : Nat) (v : List Byte) : (s.setDict i j v).factory = s.factory := rfl
@[simp] theorem State.setDict_pwr (s : State) (i j : Nat) (v : List Byte) : (s.setDict i j v).pwr = s.pwr := rfl
@[simp] theorem State.setDict_ash (s : State) (i j : Nat) (v : List Byte) : (s.setDict i j v).ash = s.ash := rfl
@[simp] theorem State.setDict_boot (s : State) (i j : Nat) (v : List Byte) : (s.setDict i j v).boot = s.boot := rfl
@[simp] theorem State.setDict_d2d (s : State) (i j : Nat) (v : List Byte) : (s.setDict i j v).d2d = s.d2d := rfl
@[simp] theorem State.setDict_fcl (s : State) (i j : Nat) (v : List Byte) : (s.setDict i j v).fcl = s.fcl := rfl
@[simp] theorem State.setDict_evt (s : State) (i j : Nat) (v : List Byte) : (s.setDict i j v).evt = s.evt := rfl
@[simp] theorem State.setDict_can (s : State) (i j : Nat) (v : List Byte) : (s.setDict i j v).can = s.can := rfl
@[simp] theorem State.setDict_clk (s : State) (i j : Nat) (v : List Byte) : (s.setDict i j v).clk = s.clk := rfl
@[simp] theorem State.setDict_tint (s : State) (i j : Nat) (v : List Byte) : (s.setDict i j v).tint = s.tint := rfl
@[simp] theorem State.setDict_nvc (s : State) (i j : Nat) (v : List Byte) : (s.setDict i j v).nvc = s.nvc := rfl
@[simp] theorem State.setDict_lcm (s : State) (i j : Nat) (v : List Byte) : (s.setDict i j v).lcm = s.lcm := rfl
@[simp] theorem State.setDict_tst (s : State) (i j : Nat) (v : List Byte) : (s.setDict i j v).tst = s.tst := rfl
@[simp] theorem State.setDict_bmc (s : State) (i j : Nat) (v : List Byte) : (s.setDict i j v).bmc = s.bmc := rfl
@[simp] theorem State.setDict_dma (s : State) (i j : Nat) (v : List Byte) : (s.setDict i j v).dma = s.dma := rfl
@[simp] theorem State.setDict_hcc (s : State) (i j : Nat) (v : List Byte) : (s.setDict i j v).hcc = s.hcc := rfl
@[simp] theorem State.setDict_qmg (s : State) (i j : Nat) (v : List Byte) : (s.setDict i j v).qmg = s.qmg := rfl
@[simp] theorem State.setDict_obj (s : State) (i j : Nat) (v : List Byte) : (s.setDict i j v).obj = s.obj := rfl
@[simp] theorem State.setDict_media (s : State) (i j : Nat) (v : List Byte) : (s.setDict i j v).media = s.media := rfl
@[simp] theorem State.setDict_disk (s : State) (i j : Nat) (v : List Byte) : (s.setDict i j v).disk = s.disk := rfl
@[simp] theorem State.setDict_chn0 (s : State) (i j : Nat) (v : List Byte) : (s.setDict i j v).chn0 = s.chn0 := rfl
@[simp] theorem State.setDict_chn1 (s : State) (i j : Nat) (v : List Byte) : (s.setDict i j v).chn1 = s.chn1 := rfl
@[simp] theorem State.setDict_dec (s : State) (i j : Nat) (v : List Byte) : (s.setDict i j v).dec = s.dec := rfl
@[simp] theorem State.setDict_pre0 (s : State) (i j : Nat) (v : List Byte) : (s.setDict i j v).pre0 = s.pre0 := rfl
@[simp] theorem State.setDict_pre1 (s : State) (i j : Nat) (v : List Byte) : (s.setDict i j v).pre1 = s.pre1 := rfl
@[simp] theorem State.setDict_srv0 (s : State) (i j : Nat) (v : List Byte) : (s.setDict i j v).srv0 = s.srv0 := rfl
@[simp] theorem State.setDict_srv1 (s : State) (i j : Nat) (v : List Byte) : (s.setDict i j v).srv1 = s.srv1 := rfl
@[simp] theorem State.setDict_cle (s : State) (i j : Nat) (v : List Byte) : (s.setDict i j v).cle = s.cle := rfl
@[simp] theorem State.setDict_spm (s : State) (i j : Nat) (v : List Byte) : (s.setDict i j v).spm = s.spm := rfl
@[simp] theorem State.setDict_mfe (s : State) (i j : Nat) (v : List Byte) : (s.setDict i j v).mfe = s.mfe := rfl
@[simp] theorem State.setDict_cxc (s : State) (i j : Nat) (v : List Byte) : (s.setDict i j v).cxc = s.cxc := rfl
@[simp] theorem State.setDict_mig (s : State) (i j : Nat) (v : List Byte) : (s.setDict i j v).mig = s.mig := rfl
@[simp] theorem State.setDict_free (s : State) (i j : Nat) (v : List Byte) : (s.setDict i j v).free = s.free := rfl
@[simp] theorem State.setDict_out (s : State) (i j : Nat) (v : List Byte) : (s.setDict i j v).out = s.out := rfl
@[simp] theorem State.setDict_pending (s : State) (i j : Nat) (v : List Byte) : (s.setDict i j v).pending = s.pending := rfl

@[simp] theorem State.setDictNum_regs (s : State) (i j n v : Nat) : (s.setDictNum i j n v).regs = s.regs := rfl
@[simp] theorem State.setDictNum_bank3 (s : State) (i j n v : Nat) : (s.setDictNum i j n v).bank3 = s.bank3 := rfl
@[simp] theorem State.setDictNum_factory (s : State) (i j n v : Nat) : (s.setDictNum i j n v).factory = s.factory := rfl
@[simp] theorem State.setDictNum_pwr (s : State) (i j n v : Nat) : (s.setDictNum i j n v).pwr = s.pwr := rfl
@[simp] theorem State.setDictNum_ash (s : State) (i j n v : Nat) : (s.setDictNum i j n v).ash = s.ash := rfl
@[simp] theorem State.setDictNum_boot (s : State) (i j n v : Nat) : (s.setDictNum i j n v).boot = s.boot := rfl
@[simp] theorem State.setDictNum_d2d (s : State) (i j n v : Nat) : (s.setDictNum i j n v).d2d = s.d2d := rfl
@[simp] theorem State.setDictNum_fcl (s : State) (i j n v : Nat) : (s.setDictNum i j n v).fcl = s.fcl := rfl
@[simp] theorem State.setDictNum_evt (s : State) (i j n v : Nat) : (s.setDictNum i j n v).evt = s.evt := rfl
@[simp] theorem State.setDictNum_can (s : State) (i j n v : Nat) : (s.setDictNum i j n v).can = s.can := rfl
@[simp] theorem State.setDictNum_clk (s : State) (i j n v : Nat) : (s.setDictNum i j n v).clk = s.clk := rfl
@[simp] theorem State.setDictNum_tint (s : State) (i j n v : Nat) : (s.setDictNum i j n v).tint = s.tint := rfl
@[simp] theorem State.setDictNum_nvc (s : State) (i j n v : Nat) : (s.setDictNum i j n v).nvc = s.nvc := rfl
@[simp] theorem State.setDictNum_lcm (s : State) (i j n v : Nat) : (s.setDictNum i j n v).lcm = s.lcm := rfl
@[simp] theorem State.setDictNum_tst (s : State) (i j n v : Nat) : (s.setDictNum i j n v).tst = s.tst := rfl
@[simp] theorem State.setDictNum_bmc (s : State) (i j n v : Nat) : (s.setDictNum i j n v).bmc = s.bmc := rfl
@[simp] theorem State.setDictNum_dma (s : State) (i j n v : Nat) : (s.setDictNum i j n v).dma = s.dma := rfl
@[simp] theorem State.setDictNum_hcc (s : State) (i j n v : Nat) : (s.setDictNum i j n v).hcc = s.hcc := rfl
@[simp] theorem State.setDictNum_qmg (s : State) (i j n v : Nat) : (s.setDictNum i j n v).qmg = s.qmg := rfl
@[simp] theorem State.setDictNum_obj (s : State) (i j n v : Nat) : (s.setDictNum i j n v).obj = s.obj := rfl
@[simp] theorem State.setDictNum_media (s : State) (i j n v : Nat) : (s.setDictNum i j n v).media = s.media := rfl
@[simp] theorem State.setDictNum_disk (s : State) (i j n v : Nat) : (s.setDictNum i j n v).disk = s.disk := rfl
@[simp] theorem State.setDictNum_chn0 (s : State) (i j n v : Nat) : (s.setDictNum i j n v).chn0 = s.chn0 := rfl
@[simp] theorem State.setDictNum_chn1 (s : State) (i j n v : Nat) : (s.setDictNum i j n v).chn1 = s.chn1 := rfl
@[simp] theorem State.setDictNum_dec (s : State) (i j n v : Nat) : (s.setDictNum i j n v).dec = s.dec := rfl
@[simp] theorem State.setDictNum_pre0 (s : State) (i j n v : Nat) : (s.setDictNum i j n v).pre0 = s.pre0 := rfl
@[simp] theorem State.setDictNum_pre1 (s : State) (i j n v : Nat) : (s.setDictNum i j n v).pre1 = s.pre1 := rfl
@[simp] theorem State.setDictNum_srv0 (s : State) (i j n v : Nat) : (s.setDictNum i j n v).srv0 = s.srv0 := rfl
@[simp] theorem State.setDictNum_srv1 (s : State) (i j n v : Nat) : (s.setDictNum i j n v).srv1 = s.srv1 := rfl
@[simp] theorem State.setDictNum_cle (s : State) (i j n v : Nat) : (s.setDictNum i j n v).cle = s.cle := rfl
@[simp] theorem State.setDictNum_spm (s : State) (i j n v : Nat) : (s.setDictNum i j n v).spm = s.spm := rfl
@[simp] theorem State.setDictNum_mfe (s : State) (i j n v : Nat) : (s.setDictNum i j n v).mfe = s.mfe := rfl
@[simp] theorem State.setDictNum_cxc (s : State) (i j n v : Nat) : (s.setDictNum i j n v).cxc = s.cxc := rfl
@[simp] theorem State.setDictNum_mig (s : State) (i j n v : Nat) : (s.setDictNum i j n v).mig = s.mig := rfl
@[simp] theorem State.setDictNum_free (s : State) (i j n v : Nat) : (s.setDictNum i j n v).free = s.free := rfl
@[simp] theorem State.setDictNum_out (s : State) (i j n v : Nat) : (s.setDictNum i j n v).out = s.out := rfl
@[simp] theorem State.setDictNum_pending (s : State) (i j n v : Nat) : (s.setDictNum i j n v).pending = s.pending := rfl

@[simp] theorem State.stat_regs (s : State) (i j d : Nat) : (s.stat i j d).regs = s.regs := rfl
@[simp] theorem State.stat_bank3 (s : State) (i j d : Nat) : (s.stat i j d).bank3 = s.bank3 := rfl
@[simp] theorem State.stat_factory (s : State) (i j d : Nat) : (s.stat i j d).factory = s.factory := rfl
@[simp] theorem State.stat_pwr (s : State) (i j d : Nat) : (s.stat i j d).pwr = s.pwr := rfl
@[simp] theorem State.stat_ash (s : State) (i j d : Nat) : (s.stat i j d).ash = s.ash := rfl
@[simp] theorem State.stat_boot (s : State) (i j d : Nat) : (s.stat i j d).boot = s.boot := rfl
@[simp] theorem State.stat_d2d (s : State) (i j d : Nat) : (s.stat i j d).d2d = s.d2d := rfl
@[simp] theorem State.stat_fcl (s : State) (i j d : Nat) : (s.stat i j d).fcl = s.fcl := rfl
@[simp] theorem State.stat_evt (s : State) (i j d : Nat) : (s.stat i j d).evt = s.evt := rfl
@[simp] theorem State.stat_can (s : State) (i j d : Nat) : (s.stat i j d).can = s.can := rfl
@[simp] theorem State.stat_clk (s : State) (i j d : Nat) : (s.stat i j d).clk = s.clk := rfl
@[simp] theorem State.stat_tint (s : State) (i j d : Nat) : (s.stat i j d).tint = s.tint := rfl
@[simp] theorem State.stat_nvc (s : State) (i j d : Nat) : (s.stat i j d).nvc = s.nvc := rfl
@[simp] theorem State.stat_lcm (s : State) (i j d : Nat) : (s.stat i j d).lcm = s.lcm := rfl
@[simp] theorem State.stat_tst (s : State) (i j d : Nat) : (s.stat i j d).tst = s.tst := rfl
@[simp] theorem State.stat_bmc (s : State) (i j d : Nat) : (s.stat i j d).bmc = s.bmc := rfl
@[simp] theorem State.stat_dma (s : State) (i j d : Nat) : (s.stat i j d).dma = s.dma := rfl
@[simp] theorem State.stat_hcc (s : State) (i j d : Nat) : (s.stat i j d).hcc = s.hcc := rfl
@[simp] theorem State.stat_qmg (s : State) (i j d : Nat) : (s.stat i j d).qmg = s.qmg := rfl
@[simp] theorem State.stat_obj (s : State) (i j d : Nat) : (s.stat i j d).obj = s.obj := rfl
@[simp] theorem State.stat_media (s : State) (i j d : Nat) : (s.stat i j d).media = s.media := rfl
@[simp] theorem State.stat_disk (s : State) (i j d : Nat) : (s.stat i j d).disk = s.disk := rfl
@[simp] theorem State.stat_chn0 (s : State) (i j d : Nat) : (s.stat i j d).chn0 = s.chn0 := rfl
@[simp] theorem State.stat_chn1 (s : State) (i j d : Nat) : (s.stat i j d).chn1 = s.chn1 := rfl
@[simp] theorem State.stat_dec (s : State) (i j d : Nat) : (s.stat i j d).dec = s.dec := rfl
@[simp] theorem State.stat_pre0 (s : State) (i j d : Nat) : (s.stat i j d).pre0 = s.pre0 := rfl
@[simp] theorem State.stat_pre1 (s : State) (i j d : Nat) : (s.stat i j d).pre1 = s.pre1 := rfl
@[simp] theorem State.stat_srv0 (s : State) (i j d : Nat) : (s.stat i j d).srv0 = s.srv0 := rfl
@[simp] theorem State.stat_srv1 (s : State) (i j d : Nat) : (s.stat i j d).srv1 = s.srv1 := rfl
@[simp] theorem State.stat_cle (s : State) (i j d : Nat) : (s.stat i j d).cle = s.cle := rfl
@[simp] theorem State.stat_spm (s : State) (i j d : Nat) : (s.stat i j d).spm = s.spm := rfl
@[simp] theorem State.stat_mfe (s : State) (i j d : Nat) : (s.stat i j d).mfe = s.mfe := rfl
@[simp] theorem State.stat_cxc (s : State) (i j d : Nat) : (s.stat i j d).cxc = s.cxc := rfl
@[simp] theorem State.stat_mig (s : State) (i j d : Nat) : (s.stat i j d).mig = s.mig := rfl
@[simp] theorem State.stat_free (s : State) (i j d : Nat) : (s.stat i j d).free = s.free := rfl
@[simp] theorem State.stat_out (s : State) (i j d : Nat) : (s.stat i j d).out = s.out := rfl
@[simp] theorem State.stat_pending (s : State) (i j d : Nat) : (s.stat i j d).pending = s.pending := rfl

@[simp] theorem State.emit_regs (s : State) (o : Out) : (s.emit o).regs = s.regs := rfl
@[simp] theorem State.emit_dict (s : State) (o : Out) : (s.emit o).dict = s.dict := rfl
@[simp] theorem State.emit_bank3 (s : State) (o : Out) : (s.emit o).bank3 = s.bank3 := rfl
@[simp] theorem State.emit_factory (s : State) (o : Out) : (s.emit o).factory = s.factory := rfl
@[simp] theorem State.emit_pwr (s : State) (o : Out) : (s.emit o).pwr = s.pwr := rfl
@[simp] theorem State.emit_ash (s : State) (o : Out) : (s.emit o).ash = s.ash := rfl
@[simp] theorem State.emit_boot (s : State) (o : Out) : (s.emit o).boot = s.boot := rfl
@[simp] theorem State.emit_d2d (s : State) (o : Out) : (s.emit o).d2d = s.d2d := rfl
@[simp] theorem State.emit_fcl (s : State) (o : Out) : (s.emit o).fcl = s.fcl := rfl
@[simp] theorem State.emit_evt (s : State) (o : Out) : (s.emit o).evt = s.evt := rfl
@[simp] theorem State.emit_can (s : State) (o : Out) : (s.emit o).can = s.can := rfl
@[simp] theorem State.emit_clk (s : State) (o : Out) : (s.emit o).clk = s.clk := rfl
@[simp] theorem State.emit_tint (s : State) (o : Out) : (s.emit o).tint = s.tint := rfl
@[simp] theorem State.emit_nvc (s : State) (o : Out) : (s.emit o).nvc = s.nvc := rfl
@[simp] theorem State.emit_lcm (s : State) (o : Out) : (s.emit o).lcm = s.lcm := rfl
@[simp] theorem State.emit_tst (s : State) (o : Out) : (s.emit o).tst = s.tst := rfl
@[simp] theorem State.emit_bmc (s : State) (o : Out) : (s.emit o).bmc = s.bmc := rfl
@[simp] theorem State.emit_dma (s : State) (o : Out) : (s.emit o).dma = s.dma := rfl
@[simp] theorem State.emit_hcc (s : State) (o : Out) : (s.emit o).hcc = s.hcc := rfl
@[simp] theorem State.emit_qmg (s : State) (o : Out) : (s.emit o).qmg = s.qmg := rfl
@[simp] theorem State.emit_obj (s : State) (o : Out) : (s.emit o).obj = s.obj := rfl
@[simp] theorem State.emit_media (s : State) (o : Out) : (s.emit o).media = s.media := rfl
@[simp] theorem State.emit_disk (s : State) (o : Out) : (s.emit o).disk = s.disk := rfl
@[simp] theorem State.emit_chn0 (s : State) (o : Out) : (s.emit o).chn0 = s.chn0 := rfl
@[simp] theorem State.emit_chn1 (s : State) (o : Out) : (s.emit o).chn1 = s.chn1 := rfl
@[simp] theorem State.emit_dec (s : State) (o : Out) : (s.emit o).dec = s.dec := rfl
@[simp] theorem State.emit_pre0 (s : State) (o : Out) : (s.emit o).pre0 = s.pre0 := rfl
@[simp] theorem State.emit_pre1 (s : State) (o : Out) : (s.emit o).pre1 = s.pre1 := rfl
@[simp] theorem State.emit_srv0 (s : State) (o : Out) : (s.emit o).srv0 = s.srv0 := rfl
@[simp] theorem State.emit_srv1 (s : State) (o : Out) : (s.emit o).srv1 = s.srv1 := rfl
@[simp] theorem State.emit_cle (s : State) (o : Out) : (s.emit o).cle = s.cle := rfl
@[simp] theorem State.emit_spm (s : State) (o : Out) : (s.emit o).spm = s.spm := rfl
@[simp] theorem State.emit_mfe (s : State) (o : Out) : (s.emit o).mfe = s.mfe := rfl
@[simp] theorem State.emit_cxc (s : State) (o : Out) : (s.emit o).cxc = s.cxc := rfl
@[simp] theorem State.emit_mig (s : State) (o : Out) : (s.emit o).mig = s.mig := rfl
@[simp] theorem State.emit_free (s : State) (o : Out) : (s.emit o).free = s.free := rfl
@[simp] theorem State.emit_pending (s : State) (o : Out) : (s.emit o).pending = s.pending := rfl

@[simp] theorem State.useFree_regs (s : State) : (s.useFree).regs = s.regs := rfl
@[simp] theorem State.useFree_dict (s : State) : (s.useFree).dict = s.dict := rfl
@[simp] theorem State.useFree_bank3 (s : State) : (s.useFree).bank3 = s.bank3 := rfl
@[simp] theorem State.useFree_factory (s : State) : (s.useFree).factory = s.factory := rfl
@[simp] theorem State.useFree_pwr (s : State) : (s.useFree).pwr = s.pwr := rfl
@[simp] theorem State.useFree_ash (s : State) : (s.useFree).ash = s.ash := rfl
@[simp] theorem State.useFree_boot (s : State) : (s.useFree).boot = s.boot := rfl
@[simp] theorem State.useFree_d2d (s : State) : (s.useFree).d2d = s.d2d := rfl
@[simp] theorem State.useFree_fcl (s : State) : (s.useFree).fcl = s.fcl := rfl
@[simp] theorem State.useFree_evt (s : State) : (s.useFree).evt = s.evt := rfl
@[simp] theorem State.useFree_can (s : State) : (s.useFree).can = s.can := rfl
@[simp] theorem State.useFree_clk (s : State) : (s.useFree).clk = s.clk := rfl
@[simp] theorem State.useFree_tint (s : State) : (s.useFree).tint = s.tint := rfl
@[simp] theorem State.useFree_nvc (s : State) : (s.useFree).nvc = s.nvc := rfl
@[simp] theorem State.useFree_lcm (s : State) : (s.useFree).lcm = s.lcm := rfl
@[simp] theorem State.useFree_tst (s : State) : (s.useFree).tst = s.tst := rfl
@[simp] theorem State.useFree_bmc (s : State) : (s.useFree).bmc = s.bmc := rfl
@[simp] theorem State.useFree_dma (s : State) : (s.useFree).dma = s.dma := rfl
@[simp] theorem State.useFree_hcc (s : State) : (s.useFree).hcc = s.hcc := rfl
@[simp] theorem State.useFree_qmg (s : State) : (s.useFree).qmg = s.qmg := rfl
@[simp] theorem State.useFree_obj (s : State) : (s.useFree).obj = s.obj := rfl
@[simp] theorem State.useFree_media (s : State) : (s.useFree).media = s.media := rfl
@[simp] theorem State.useFree_disk (s : State) : (s.useFree).disk = s.disk := rfl
@[simp] theorem State.useFree_chn0 (s : State) : (s.useFree).chn0 = s.chn0 := rfl
@[simp] theorem State.useFree_chn1 (s : State) : (s.useFree).chn1 = s.chn1 := rfl
@[simp] theorem State.useFree_dec (s : State) : (s.useFree).dec = s.dec := rfl
@[simp] theorem State.useFree_pre0 (s : State) : (s.useFree).pre0 = s.pre0 := rfl
@[simp] theorem State.useFree_pre1 (s : State) : (s.useFree).pre1 = s.pre1 := rfl
@[simp] theorem State.useFree_srv0 (s : State) : (s.useFree).srv0 = s.srv0 := rfl
@[simp] theorem State.useFree_srv1 (s : State) : (s.useFree).srv1 = s.srv1 := rfl
@[simp] theorem State.useFree_cle (s : State) : (s.useFree).cle = s.cle := rfl
@[simp] theorem State.useFree_spm (s : State) : (s.useFree).spm = s.spm := rfl
@[simp] theorem State.useFree_mfe (s : State) : (s.useFree).mfe = s.mfe := rfl
@[simp] theorem State.useFree_cxc (s : State) : (s.useFree).cxc = s.cxc := rfl
@[simp] theorem State.useFree_mig (s : State) : (s.useFree).mig = s.mig := rfl
@[simp] theorem State.useFree_out (s : State) : (s.useFree).out = s.out := rfl
@[simp] theorem State.useFree_pending (s : State) : (s.useFree).pending = s.pending := rfl

@[simp] theorem State.setChn_regs (s : State) (k : Nat) (c : Chn) : (s.setChn k c).regs = s.regs := by
  unfold State.setChn; split <;> rfl
@[simp] theorem State.setChn_dict (s : State) (k : Nat) (c : Chn) : (s.setChn k c).dict = s.dict := by
  unfold State.setChn; split <;> rfl
@[simp] theorem State.setChn_bank3 (s : State) (k : Nat) (c : Chn) : (s.setChn k c).bank3 = s.bank3 := by
  unfold State.setChn; split <;> rfl
@[simp] theorem State.setChn_factory (s : State) (k : Nat) (c : Chn) : (s.setChn k c).factory = s.factory := by
  unfold State.setChn; split <;> rfl
@[simp] theorem State.setChn_pwr (s : State) (k : Nat) (c : Chn) : (s.setChn k c).pwr = s.pwr := by
  unfold State.setChn; split <;> rfl
@[simp] theorem State.setChn_ash (s : State) (k : Nat) (c : Chn) : (s.setChn k c).ash = s.ash := by
  unfold State.setChn; split <;> rfl
@[simp] theorem State.setChn_boot (s : State) (k : Nat) (c : Chn) : (s.setChn k c).boot = s.boot := by
  unfold State.setChn; split <;> rfl
@[simp] theorem State.setChn_d2d (s : State) (k : Nat) (c : Chn) : (s.setChn k c).d2d = s.d2d := by
  unfold State.setChn; split <;> rfl
@[simp] theorem State.setChn_fcl (s : State) (k : Nat) (c : Chn) : (s.setChn k c).fcl = s.fcl := by
  unfold State.setChn; split <;> rfl
@[simp] theorem State.setChn_evt (s : State) (k : Nat) (c : Chn) : (s.setChn k c).evt = s.evt := by
  unfold State.setChn; split <;> rfl
@[simp] theorem State.setChn_can (s : State) (k : Nat) (c : Chn) : (s.setChn k c).can = s.can := by
  unfold State.setChn; split <;> rfl
@[simp] theorem State.setChn_clk (s : State) (k : Nat) (c : Chn) : (s.setChn k c).clk = s.clk := by
  unfold State.setChn; split <;> rfl
@[simp] theorem State.setChn_tint (s : State) (k : Nat) (c : Chn) : (s.setChn k c).tint = s.tint := by
  unfold State.setChn; split <;> rfl
@[simp] theorem State.setChn_nvc (s : State) (k : Nat) (c : Chn) : (s.setChn k c).nvc = s.nvc := by
  unfold State.setChn; split <;> rfl
@[simp] theorem State.setChn_lcm (s : State) (k : Nat) (c : Chn) : (s.setChn k c).lcm = s.lcm := by
  unfold State.setChn; split <;> rfl
@[simp] theorem State.setChn_tst (s : State) (k : Nat) (c : Chn) : (s.setChn k c).tst = s.tst := by
  unfold State.setChn; split <;> rfl
@[simp] theorem State.setChn_bmc (s : State) (k : Nat) (c : Chn) : (s.setChn k c).bmc = s.bmc := by
  unfold State.setChn; split <;> rfl
@[simp] theorem State.setChn_dma (s : State) (k : Nat) (c : Chn) : (s.setChn k c).dma = s.dma := by
  unfold State.setChn; split <;> rfl
@[simp] theorem State.setChn_hcc (s : State) (k : Nat) (c : Chn) : (s.setChn k c).hcc = s.hcc := by
  unfold State.setChn; split <;> rfl
@[simp] theorem State.setChn_qmg (s : State) (k : Nat) (c : Chn) : (s.setChn k c).qmg = s.qmg := by
  unfold State.setChn; split <;> rfl
@[simp] theorem State.setChn_obj (s : State) (k : Nat) (c : Chn) : (s.setChn k c).obj = s.obj := by
  unfold State.setChn; split <;> rfl
@[simp] theorem State.setChn_media (s : State) (k : Nat) (c : Chn) : (s.setChn k c).media = s.media := by
  unfold State.setChn; split <;> rfl
@[simp] theorem State.setChn_disk (s : State) (k : Nat) (c : Chn) : (s.setChn k c).disk = s.disk := by
  unfold State.setChn; split <;> rfl
@[simp] theorem State.setChn_dec (s : State) (k : Nat) (c : Chn) : (s.setChn k c).dec = s.dec := by
  unfold State.setChn; split <;> rfl
@[simp] theorem State.setChn_pre0 (s : State) (k : Nat) (c : Chn) : (s.setChn k c).pre0 = s.pre0 := by
  unfold State.setChn; split <;> rfl
@[simp] theorem State.setChn_pre1 (s : State) (k : Nat) (c : Chn) : (s.setChn k c).pre1 = s.pre1 := by
  unfold State.setChn; split <;> rfl
@[simp] theorem State.setChn_srv0 (s : State) (k : Nat) (c : Chn) : (s.setChn k c).srv0 = s.srv0 := by
  unfold State.setChn; split <;> rfl
@[simp] theorem State.setChn_srv1 (s : State) (k : Nat) (c : Chn) : (s.setChn k c).srv1 = s.srv1 := by
  unfold State.setChn; split <;> rfl
@[simp] theorem State.setChn_cle (s : State) (k : Nat) (c : Chn) : (s.setChn k c).cle = s.cle := by
  unfold State.setChn; split <;> rfl
@[simp] theorem State.setChn_spm (s : State) (k : Nat) (c : Chn) : (s.setChn k c).spm = s.spm := by
  unfold State.setChn; split <;> rfl
@[simp] theorem State.setChn_mfe (s : State) (k : Nat) (c : Chn) : (s.setChn k c).mfe = s.mfe := by
  unfold State.setChn; split <;> rfl
@[simp] theorem State.setChn_cxc (s : State) (k : Nat) (c : Chn) : (s.setChn k c).cxc = s.cxc := by
  unfold State.setChn; split <;> rfl
@[simp] theorem State.setChn_mig (s : State) (k : Nat) (c : Chn) : (s.setChn k c).mig = s.mig := by
  unfold State.setChn; split <;> rfl
@[simp] theorem State.setChn_free (s : State) (k : Nat) (c : Chn) : (s.setChn k c).free = s.free := by
  unfold State.setChn; split <;> rfl
@[simp] theorem State.setChn_out (s : State) (k : Nat) (c : Chn) : (s.setChn k c).out = s.out := by
  unfold State.setChn; split <;> rfl
@[simp] theorem State.setChn_pending (s : State) (k : Nat) (c : Chn) : (s.setChn k c).pending = s.pending := by
  unfold State.setChn; split <;> rfl
@[simp] theorem State.chn_setChn (s : State) (k : Nat) (c : Chn) : (s.setChn k c).chn k = c := by
  unfold State.setChn State.chn; split <;> rfl

@[simp] theorem State.setPre_regs (s : State) (k : Nat) (c : Pre) : (s.setPre k c).regs = s.regs := by
  unfold State.setPre; split <;> rfl
@[simp] theorem State.setPre_dict (s : State) (k : Nat) (c : Pre) : (s.setPre k c).dict = s.dict := by
  unfold State.setPre; split <;> rfl
@[simp] theorem State.setPre_bank3 (s : State) (k : Nat) (c : Pre) : (s.setPre k c).bank3 = s.bank3 := by
  unfold State.setPre; split <;> rfl
@[simp] theorem State.setPre_factory (s : State) (k : Nat) (c : Pre) : (s.setPre k c).factory = s.factory := by
  unfold State.setPre; split <;> rfl
@[simp] theorem State.setPre_pwr (s : State) (k : Nat) (c : Pre) : (s.setPre k c).pwr = s.pwr := by
  unfold State.setPre; split <;> rfl
@[simp] theorem State.setPre_ash (s : State) (k : Nat) (c : Pre) : (s.setPre k c).ash = s.ash := by
  unfold State.setPre; split <;> rfl
@[simp] theorem State.setPre_boot (s : State) (k : Nat) (c : Pre) : (s.setPre k c).boot = s.boot := by
  unfold State.setPre; split <;> rfl
@[simp] theorem State.setPre_d2d (s : State) (k : Nat) (c : Pre) : (s.setPre k c).d2d = s.d2d := by
  unfold State.setPre; split <;> rfl
@[simp] theorem State.setPre_fcl (s : State) (k : Nat) (c : Pre) : (s.setPre k c).fcl = s.fcl := by
  unfold State.setPre; split <;> rfl
@[simp] theorem State.setPre_evt (s : State) (k : Nat) (c : Pre) : (s.setPre k c).evt = s.evt := by
  unfold State.setPre; split <;> rfl
@[simp] theorem State.setPre_can (s : State) (k : Nat) (c : Pre) : (s.setPre k c).can = s.can := by
  unfold State.setPre; split <;> rfl
@[simp] theorem State.setPre_clk (s : State) (k : Nat) (c : Pre) : (s.setPre k c).clk = s.clk := by
  unfold State.setPre; split <;> rfl
@[simp] theorem State.setPre_tint (s : State) (k : Nat) (c : Pre) : (s.setPre k c).tint = s.tint := by
  unfold State.setPre; split <;> rfl
@[simp] theorem State.setPre_nvc (s : State) (k : Nat) (c : Pre) : (s.setPre k c).nvc = s.nvc := by
  unfold State.setPre; split <;> rfl
@[simp] theorem State.setPre_lcm (s : State) (k : Nat) (c : Pre) : (s.setPre k c).lcm = s.lcm := by
  unfold State.setPre; split <;> rfl
@[simp] theorem State.setPre_tst (s : State) (k : Nat) (c : Pre) : (s.setPre k c).tst = s.tst := by
  unfold State.setPre; split <;> rfl
@[simp] theorem State.setPre_bmc (s : State) (k : Nat) (c : Pre) : (s.setPre k c).bmc = s.bmc := by
  unfold State.setPre; split <;> rfl
@[simp] theorem State.setPre_dma (s : State) (k : Nat) (c : Pre) : (s.setPre k c).dma = s.dma := by
  unfold State.setPre; split <;> rfl
@[simp] theorem State.setPre_hcc (s : State) (k : Nat) (c : Pre) : (s.setPre k c).hcc = s.hcc := by
  unfold State.setPre; split <;> rfl
@[simp] theorem State.setPre_qmg (s : State) (k : Nat) (c : Pre) : (s.setPre k c).qmg = s.qmg := by
  unfold State.setPre; split <;> rfl
@[simp] theorem State.setPre_obj (s : State) (k : Nat) (c : Pre) : (s.setPre k c).obj = s.obj := by
  unfold State.setPre; split <;> rfl
@[simp] theorem State.setPre_media (s : State) (k : Nat) (c : Pre) : (s.setPre k c).media = s.media := by
  unfold State.setPre; split <;> rfl
@[simp] theorem State.setPre_disk (s : State) (k : Nat) (c : Pre) : (s.setPre k c).disk = s.disk := by
  unfold State.setPre; split <;> rfl
@[simp] theorem State.setPre_chn0 (s : State) (k : Nat) (c : Pre) : (s.setPre k c).chn0 = s.chn0 := by
  unfold State.setPre; split <;> rfl
@[simp] theorem State.setPre_chn1 (s : State) (k : Nat) (c : Pre) : (s.setPre k c).chn1 = s.chn1 := by
  unfold State.setPre; split <;> rfl
@[simp] theorem State.setPre_dec (s : State) (k : Nat) (c : Pre) : (s.setPre k c).dec = s.dec := by
  unfold State.setPre; split <;> rfl
@[simp] theorem State.setPre_srv0 (s : State) (k : Nat) (c : Pre) : (s.setPre k c).srv0 = s.srv0 := by
  unfold State.setPre; split <;> rfl
@[simp] theorem State.setPre_srv1 (s : State) (k : Nat) (c : Pre) : (s.setPre k c).srv1 = s.srv1 := by
  unfold State.setPre; split <;> rfl
@[simp] theorem State.setPre_cle (s : State) (k : Nat) (c : Pre) : (s.setPre k c).cle = s.cle := by
  unfold State.setPre; split <;> rfl
@[simp] theorem State.setPre_spm (s : State) (k : Nat) (c : Pre) : (s.setPre k c).spm = s.spm := by
  unfold State.setPre; split <;> rfl
@[simp] theorem State.setPre_mfe (s : State) (k : Nat) (c : Pre) : (s.setPre k c).mfe = s.mfe := by
  unfold State.setPre; split <;> rfl
@[simp] theorem State.setPre_cxc (s : State) (k : Nat) (c : Pre) : (s.setPre k c).cxc = s.cxc := by
  unfold State.setPre; split <;> rfl
@[simp] theorem State.setPre_mig (s : State) (k : Nat) (c : Pre) : (s.setPre k c).mig = s.mig := by
  unfold State.setPre; split <;> rfl
@[simp] theorem State.setPre_free (s : State) (k : Nat) (c : Pre) : (s.setPre k c).free = s.free := by
  unfold State.setPre; split <;> rfl
@[simp] theorem State.setPre_out (s : State) (k : Nat) (c : Pre) : (s.setPre k c).out = s.out := by
  unfold State.setPre; split <;> rfl
@[simp] theorem State.setPre_pending (s : State) (k : Nat) (c : Pre) : (s.setPre k c).pending = s.pending := by
  unfold State.setPre; split <;> rfl
@[simp] theorem State.pre_setPre (s : State) (k : Nat) (c : Pre) : (s.setPre k c).pre k = c := by
  unfold State.setPre State.pre; split <;> rfl

@[simp] theorem State.setSrv_regs (s : State) (k : Nat) (c : Srv) : (s.setSrv k c).regs = s.regs := by
  unfold State.setSrv; split <;> rfl
@[simp] theorem State.setSrv_dict (s : State) (k : Nat) (c : Srv) : (s.setSrv k c).dict = s.dict := by
  unfold State.setSrv; split <;> rfl
@[simp] theorem State.setSrv_bank3 (s : State) (k : Nat) (c : Srv) : (s.setSrv k c).bank3 = s.bank3 := by
  unfold State.setSrv; split <;> rfl
@[simp] theorem State.setSrv_factory (s : State) (k : Nat) (c : Srv) : (s.setSrv k c).factory = s.factory := by
  unfold State.setSrv; split <;> rfl
@[simp] theorem State.setSrv_pwr (s : State) (k : Nat) (c : Srv) : (s.setSrv k c).pwr = s.pwr := by
  unfold State.setSrv; split <;> rfl
@[simp] theorem State.setSrv_ash (s : State) (k : Nat) (c : Srv) : (s.setSrv k c).ash = s.ash := by
  unfold State.setSrv; split <;> rfl
@[simp] theorem State.setSrv_boot (s : State) (k : Nat) (c : Srv) : (s.setSrv k c).boot = s.boot := by
  unfold State.setSrv; split <;> rfl
@[simp] theorem State.setSrv_d2d (s : State) (k : Nat) (c : Srv) : (s.setSrv k c).d2d = s.d2d := by
  unfold State.setSrv; split <;> rfl
@[simp] theorem State.setSrv_fcl (s : State) (k : Nat) (c : Srv) : (s.setSrv k c).fcl = s.fcl := by
  unfold State.setSrv; split <;> rfl
@[simp] theorem State.setSrv_evt (s : State) (k : Nat) (c : Srv) : (s.setSrv k c).evt = s.evt := by
  unfold State.setSrv; split <;> rfl
@[simp] theorem State.setSrv_can (s : State) (k : Nat) (c : Srv) : (s.setSrv k c).can = s.can := by
  unfold State.setSrv; split <;> rfl
@[simp] theorem State.setSrv_clk (s : State) (k : Nat) (c : Srv) : (s.setSrv k c).clk = s.clk := by
  unfold State.setSrv; split <;> rfl
@[simp] theorem State.setSrv_tint (s : State) (k : Nat) (c : Srv) : (s.setSrv k c).tint = s.tint := by
  unfold State.setSrv; split <;> rfl
@[simp] theorem State.setSrv_nvc (s : State) (k : Nat) (c : Srv) : (s.setSrv k c).nvc = s.nvc := by
  unfold State.setSrv; split <;> rfl
@[simp] theorem State.setSrv_lcm (s : State) (k : Nat) (c : Srv) : (s.setSrv k c).lcm = s.lcm := by
  unfold State.setSrv; split <;> rfl
@[simp] theorem State.setSrv_tst (s : State) (k : Nat) (c : Srv) : (s.setSrv k c).tst = s.tst := by
  unfold State.setSrv; split <;> rfl
@[simp] theorem State.setSrv_bmc (s : State) (k : Nat) (c : Srv) : (s.setSrv k c).bmc = s.bmc := by
  unfold State.setSrv; split <;> rfl
@[simp] theorem State.setSrv_dma (s : State) (k : Nat) (c : Srv) : (s.setSrv k c).dma = s.dma := by
  unfold State.setSrv; split <;> rfl
@[simp] theorem State.setSrv_hcc (s : State) (k : Nat) (c : Srv) : (s.setSrv k c).hcc = s.hcc := by
  unfold State.setSrv; split <;> rfl
@[simp] theorem State.setSrv_qmg (s : State) (k : Nat) (c : Srv) : (s.setSrv k c).qmg = s.qmg := by
  unfold State.setSrv; split <;> rfl
@[simp] theorem State.setSrv_obj (s : State) (k : Nat) (c : Srv) : (s.setSrv k c).obj = s.obj := by
  unfold State.setSrv; split <;> rfl
@[simp] theorem State.setSrv_media (s : State) (k : Nat) (c : Srv) : (s.setSrv k c).media = s.media := by
  unfold State.setSrv; split <;> rfl
@[simp] theorem State.setSrv_disk (s : State) (k : Nat) (c : Srv) : (s.setSrv k c).disk = s.disk := by
  unfold State.setSrv; split <;> rfl
@[simp] theorem State.setSrv_chn0 (s : State) (k : Nat) (c : Srv) : (s.setSrv k c).chn0 = s.chn0 := by
  unfold State.setSrv; split <;> rfl
@[simp] theorem State.setSrv_chn1 (s : State) (k : Nat) (c : Srv) : (s.setSrv k c).chn1 = s.chn1 := by
  unfold State.setSrv; split <;> rfl
@[simp] theorem State.setSrv_dec (s : State) (k : Nat) (c : Srv) : (s.setSrv k c).dec = s.dec := by
  unfold State.setSrv; split <;> rfl
@[simp] theorem State.setSrv_pre0 (s : State) (k : Nat) (c : Srv) : (s.setSrv k c).pre0 = s.pre0 := by
  unfold State.setSrv; split <;> rfl
@[simp] theorem State.setSrv_pre1 (s : State) (k : Nat) (c : Srv) : (s.setSrv k c).pre1 = s.pre1 := by
  unfold State.setSrv; split <;> rfl
@[simp] theorem State.setSrv_cle (s : State) (k : Nat) (c : Srv) : (s.setSrv k c).cle = s.cle := by
  unfold State.setSrv; split <;> rfl
@[simp] theorem State.setSrv_spm (s : State) (k : Nat) (c : Srv) : (s.setSrv k c).spm = s.spm := by
  unfold State.setSrv; split <;> rfl
@[simp] theorem State.setSrv_mfe (s : State) (k : Nat) (c : Srv) : (s.setSrv k c).mfe = s.mfe := by
  unfold State.setSrv; split <;> rfl
@[simp] theorem State.setSrv_cxc (s : State) (k : Nat) (c : Srv) : (s.setSrv k c).cxc = s.cxc := by
  unfold State.setSrv; split <;> rfl
@[simp] theorem State.setSrv_mig (s : State) (k : Nat) (c : Srv) : (s.setSrv k c).mig = s.mig := by
  unfold State.setSrv; split <;> rfl
@[simp] theorem State.setSrv_free (s : State) (k : Nat) (c : Srv) : (s.setSrv k c).free = s.free := by
  unfold State.setSrv; split <;> rfl
@[simp] theorem State.setSrv_out (s : State) (k : Nat) (c : Srv) : (s.setSrv k c).out = s.out := by
  unfold State.setSrv; split <;> rfl
@[simp] theorem State.setSrv_pending (s : State) (k : Nat) (c : Srv) : (s.setSrv k c).pending = s.pending := by
  unfold State.setSrv; split <;> rfl
@[simp] theorem State.srv_setSrv (s : State) (k : Nat) (c : Srv) : (s.setSrv k c).srv k = c := by
  unfold State.setSrv State.srv; split <;> rfl

@[simp] theorem State.emit_out (s : State) (o : Out) : (s.emit o).out = o :: s.out := rfl
@[simp] theorem State.useFree_free (s : State) : s.useFree.free = s.free + 1 := rfl
@[simp] theorem State.setReg_regs (s : State) (a : Nat) (w : Word) : (s.setReg a w).regs = regsPut s.regs a w := rfl
@[simp] theorem State.setDict_dict (s : State) (i j : Nat) (v : List Byte) :
    (s.setDict i j v).dict = dictPut s.factory.gradeX s.dict i j v := rfl

end Sys2Proof.Machine
end

