-- ==== Sys2Proof/Laws/Regs.lean ====
section
/-!
SUPPORT. What a write of a register, of a field or of a dictionary entry does to the reads that follow it.
-/
namespace Sys2Proof.Machine
open Sys2Proof

@[simp] theorem State.reg_setReg_same (s : State) (a : Nat) (w : Word) : (s.setReg a w).reg a = w := by
  unfold State.reg State.setReg regsPut
  split
  · rename_i e; simp [Assoc.find_del_same, e]
  · simp

theorem State.reg_setReg_other (s : State) (a b : Nat) (w : Word) (h : b ≠ a) : (s.setReg a w).reg b = s.reg b := by
  unfold State.reg State.setReg regsPut
  split
  · simp [Assoc.find_del_other _ _ _ h]
  · simp [Assoc.find_put_other _ _ _ _ h]

/-- A register reads what the file lists, whatever else the state holds. -/
theorem State.reg_congr {s t : State} (h : t.regs = s.regs) (a : Nat) : t.reg a = s.reg a := by
  unfold State.reg; rw [h]

theorem State.getF_congr {s t : State} (h : t.regs = s.regs) (f : FieldRef) : t.getF f = s.getF f := by
  unfold State.getF; rw [State.reg_congr h]

theorem Nat.mask_testBit (hi lo i : Nat) :
    ((2 ^ (hi + 1 - lo) - 1) * 2 ^ lo).testBit i = (decide (lo ≤ i) && decide (i - lo < hi + 1 - lo)) := by
  rw [Nat.testBit_mul_two_pow, Nat.testBit_two_pow_sub_one]

theorem Word.testBit_set (w : Word) (hi lo v i : Nat) (hi' : i < 32) :
    (Word.set w hi lo v).getLsbD i =
      if lo ≤ i ∧ i ≤ hi then v.testBit (i - lo) else w.getLsbD i := by
  unfold Word.set
  simp only [BitVec.getLsbD_or, BitVec.getLsbD_and, BitVec.getLsbD_not, BitVec.getLsbD_ofNat, hi', decide_true, Bool.true_and,
    Nat.testBit_mul_two_pow, Nat.testBit_mod_two_pow]
  by_cases h1 : lo ≤ i
  · by_cases h2 : i ≤ hi
    · have : i - lo < hi + 1 - lo := by omega
      simp [h1, h2, this]
    · have : ¬ (i - lo < hi + 1 - lo) := by omega
      simp [h1, h2, this]
  · simp [h1]

theorem bitsOf_testBit (v hi lo i : Nat) : (bitsOf v hi lo).testBit i = (decide (i < hi + 1 - lo) && v.testBit (i + lo)) := by
  unfold bitsOf
  rw [Nat.testBit_mod_two_pow, Nat.testBit_div_two_pow]

/-- A field reads what was last written to it: the low bits of the value. -/
theorem Word.get_set_same (w : Word) (hi lo v : Nat) (h : hi < 32) :
    Word.get (Word.set w hi lo v) hi lo = v % 2 ^ (hi + 1 - lo) := by
  apply Nat.eq_of_testBit_eq
  intro i
  unfold Word.get
  rw [bitsOf_testBit, Nat.testBit_mod_two_pow]
  by_cases hi2 : i < hi + 1 - lo
  · have h32 : i + lo < 32 := by omega
    have := Word.testBit_set w hi lo v (i + lo) h32
    rw [BitVec.getLsbD] at this
    rw [this]
    have h1 : lo ≤ i + lo ∧ i + lo ≤ hi := by omega
    simp [h1, hi2]
  · simp [hi2]

/-- A field keeps its value when other bits of its register are written. -/
theorem Word.get_set_other (w : Word) (hi lo v h2 l2 : Nat) (hd : h2 < lo ∨ hi < l2) (hb : h2 < 32) :
    Word.get (Word.set w hi lo v) h2 l2 = Word.get w h2 l2 := by
  apply Nat.eq_of_testBit_eq
  intro i
  unfold Word.get
  rw [bitsOf_testBit, bitsOf_testBit]
  by_cases hi2 : i < h2 + 1 - l2
  · have h32 : i + l2 < 32 := by omega
    have := Word.testBit_set w hi lo v (i + l2) h32
    rw [BitVec.getLsbD] at this
    rw [this]
    have h1 : ¬ (lo ≤ i + l2 ∧ i + l2 ≤ hi) := by omega
    simp [h1, BitVec.getLsbD]
  · simp [hi2]

@[simp] theorem State.getF_setF_same (s : State) (f : FieldRef) (v : Nat) (h : f.hi < 32 := by decide) :
    (s.setF f v).getF f = v % 2 ^ (f.hi + 1 - f.lo) := by
  unfold State.getF State.setF
  rw [State.reg_setReg_same, Word.get_set_same _ _ _ _ h]

/-- A field of another register keeps its value. -/
theorem State.getF_setF_addr (s : State) (f g : FieldRef) (v : Nat) (h : g.addr ≠ f.addr) :
    (s.setF f v).getF g = s.getF g := by
  unfold State.getF State.setF
  rw [State.reg_setReg_other _ _ _ _ h]

/-- A field of the same register with other bits keeps its value. -/
theorem State.getF_setF_bits (s : State) (f g : FieldRef) (v : Nat) (ha : g.addr = f.addr) (h : g.hi < f.lo ∨ f.hi < g.lo)
    (hb : g.hi < 32) : (s.setF f v).getF g = s.getF g := by
  unfold State.getF State.setF
  rw [ha, State.reg_setReg_same, Word.get_set_other _ _ _ _ _ _ h hb]

/-- The condition under which two fields share no bit. -/
def fieldsApart (f g : FieldRef) : Bool := g.addr != f.addr || ((g.hi < f.lo || f.hi < g.lo) && g.hi < 32)

theorem State.getF_setF_apart (s : State) (f g : FieldRef) (v : Nat) (h : fieldsApart f g = true) :
    (s.setF f v).getF g = s.getF g := by
  unfold fieldsApart at h
  by_cases ha : g.addr = f.addr
  · simp [ha] at h
    exact State.getF_setF_bits s f g v ha h.1 h.2
  · exact State.getF_setF_addr s f g v ha

/-- A dictionary entry reads what was last written to it, where the tables hold it. -/
theorem State.dictBytes_setDict_same (s : State) (i j : Nat) (v : List Byte) (r : DictRow) (h : dictRowAt i j = some r) :
    (s.setDict i j v).dictBytes i j = v := by
  unfold State.dictBytes State.setDict dictPut
  simp only [h]
  split
  · rename_i x hx
    split at hx
    · simp [Assoc.find_del_same] at hx
    · simpa using hx.symm
  · rename_i hx
    split at hx
    · rename_i e; exact e.symm
    · simp at hx

theorem Assoc.find_dictPut_other (g : Bool) (m : List (Nat × List Byte)) (i j k : Nat) (v : List Byte) (h : k ≠ dkey i j) :
    Assoc.find (dictPut g m i j v) k = Assoc.find m k := by
  unfold dictPut
  split
  · split
    · exact Assoc.find_del_other _ _ _ h
    · exact Assoc.find_put_other _ _ _ _ h
  · rfl

theorem State.dictBytes_setDict_other (s : State) (i j i' j' : Nat) (v : List Byte) (h : dkey i' j' ≠ dkey i j) :
    (s.setDict i j v).dictBytes i' j' = s.dictBytes i' j' := by
  unfold State.dictBytes
  rw [State.setDict_dict, State.setDict_factory, Assoc.find_dictPut_other _ _ _ _ _ _ h]

end Sys2Proof.Machine
end

