-- ==== Sys2Proof/Laws/Keeps.lean ====
section
/-!
SUPPORT. What every operation of the block keeps: the queue, the factory values, blown fuses and the canonical form of the stores.
`Keeps a s` says that s came from a in such a way; one lemma for each operation carries it on, so that no later proof unfolds one.
-/
namespace Sys2Proof.Machine
open Sys2Proof

/-- s keeps what a step starting from a must keep. -/
structure Keeps (a s : State) : Prop where
  pending : s.pending = a.pending
  factory : s.factory = a.factory
  fuses : fusesKept a s
  stores : a.wellKept → s.wellKept

theorem Keeps.refl (a : State) : Keeps a a := ⟨rfl, rfl, fun _ h => h, fun h => h⟩

/-- A state that differs only outside what is kept. -/
theorem Keeps.mk_ {a x : State} {pwr ash boot d2d fcl evt can clk tint nvc lcm tst bmc dma hcc qmg obj media disk chn0 chn1 dec pre0 pre1
    srv0 srv1 cle spm mfe cxc mig free out} (h : Keeps a x) (hl : Lcm.fuse lcm = x.lcm.fuse) (hb : Bmc.dram bmc = x.bmc.dram) :
    Keeps a (State.mk x.regs x.dict x.bank3 x.factory pwr ash boot d2d fcl evt can clk tint nvc lcm tst bmc dma hcc qmg obj media disk
      chn0 chn1 dec pre0 pre1 srv0 srv1 cle spm mfe cxc mig free out x.pending) := by
  obtain ⟨h1, h2, h3, h4⟩ := h
  refine ⟨h1, h2, fun i hi => ?_, fun ha => ?_⟩
  · show lcm.fuse.getLsbD i = true
    rw [hl]; exact h3 i hi
  · obtain ⟨r, d, b, m⟩ := h4 ha
    exact ⟨r, d, b, by show Memory.wf bmc.dram; rw [hb]; exact m⟩

/-- A state whose stores and fuses change in ways that keep them. -/
theorem Keeps.gen_ {a x : State} {regs dict bank3 pwr ash boot d2d fcl evt can clk tint nvc lcm tst bmc dma hcc qmg obj media disk chn0 chn1
    dec pre0 pre1 srv0 srv1 cle spm mfe cxc mig free out} (h : Keeps a x) (hr : RegsWf x.regs → RegsWf regs)
    (hd : DictWf x.factory.gradeX x.bank3 → DictWf x.factory.gradeX x.dict → DictWf x.factory.gradeX dict)
    (hb : DictWf x.factory.gradeX x.dict → DictWf x.factory.gradeX x.bank3 → DictWf x.factory.gradeX bank3)
    (hl : ∀ i, x.lcm.fuse.getLsbD i = true → (Lcm.fuse lcm).getLsbD i = true) (hm : Memory.wf x.bmc.dram → Memory.wf (Bmc.dram bmc)) :
    Keeps a (State.mk regs dict bank3 x.factory pwr ash boot d2d fcl evt can clk tint nvc lcm tst bmc dma hcc qmg obj media disk
      chn0 chn1 dec pre0 pre1 srv0 srv1 cle spm mfe cxc mig free out x.pending) := by
  obtain ⟨h1, h2, h3, h4⟩ := h
  exact ⟨h1, h2, fun i hi => hl i (h3 i hi),
    fun ha => ⟨hr (h4 ha).1, hd (h4 ha).2.2.1 (h4 ha).2.1, hb (h4 ha).2.1 (h4 ha).2.2.1, hm (h4 ha).2.2.2⟩⟩

/-- A state that differs, of what is kept, in its registers alone. -/
theorem Keeps.regs_ {a x : State} {m} (h : Keeps a x) (hm : RegsWf x.regs → RegsWf m) : Keeps a { x with regs := m } := by
  obtain ⟨h1, h2, h3, h4⟩ := h
  exact ⟨h1, h2, h3, fun ha => ⟨hm (h4 ha).1, (h4 ha).2⟩⟩

theorem Keeps.dict_ {a x : State} {m} (h : Keeps a x) (hm : DictWf x.factory.gradeX x.dict → DictWf x.factory.gradeX m) :
    Keeps a { x with dict := m } := by
  obtain ⟨h1, h2, h3, h4⟩ := h
  exact ⟨h1, h2, h3, fun ha => ⟨(h4 ha).1, hm (h4 ha).2.1, (h4 ha).2.2⟩⟩

theorem Keeps.bank3_ {a x : State} {m} (h : Keeps a x)
    (hm : DictWf x.factory.gradeX x.dict → DictWf x.factory.gradeX x.bank3 → DictWf x.factory.gradeX m) :
    Keeps a { x with bank3 := m } := by
  obtain ⟨h1, h2, h3, h4⟩ := h
  exact ⟨h1, h2, h3, fun ha => ⟨(h4 ha).1, (h4 ha).2.1, hm (h4 ha).2.1 (h4 ha).2.2.1, (h4 ha).2.2.2⟩⟩

theorem Keeps.dram_ {a x : State} {b : Bmc} (h : Keeps a x) (hm : Memory.wf x.bmc.dram → Memory.wf b.dram) :
    Keeps a { x with bmc := b } := by
  obtain ⟨h1, h2, h3, h4⟩ := h
  exact ⟨h1, h2, h3, fun ha => ⟨(h4 ha).1, (h4 ha).2.1, (h4 ha).2.2.1, hm (h4 ha).2.2.2⟩⟩

theorem Keeps.fuse_ {a x : State} {l : Lcm} (h : Keeps a x)
    (hm : ∀ i, x.lcm.fuse.getLsbD i = true → l.fuse.getLsbD i = true) : Keeps a { x with lcm := l } := by
  obtain ⟨h1, h2, h3, h4⟩ := h
  exact ⟨h1, h2, fun i hi => hm i (h3 i hi), h4⟩

theorem Keeps.ite_ {a x y : State} {c : Prop} [Decidable c] (h1 : Keeps a x) (h2 : Keeps a y) : Keeps a (if c then x else y) := by
  split
  · exact h1
  · exact h2

theorem Keeps.foldl_ {α : Type} {a s : State} {g : State → α → State} {l : List α} (hg : ∀ t x, Keeps a t → Keeps a (g t x))
    (h : Keeps a s) : Keeps a (l.foldl g s) := by
  induction l generalizing s with
  | nil => exact h
  | cons x l ih => exact ih (hg s x h)

theorem Keeps.next_ {a t : State} (h : Keeps a t) :
    ∃ u, (.next t : Host.Outcome State Fault Refusal) = .next u ∧ Keeps a u := ⟨t, rfl, h⟩

theorem Keeps.iteR_ {a : State} {x y : Host.Outcome State Fault Refusal} {c : Prop} [Decidable c] (h1 : ∃ u, x = .next u ∧ Keeps a u)
    (h2 : ∃ u, y = .next u ∧ Keeps a u) : ∃ u, (if c then x else y) = .next u ∧ Keeps a u := by
  split
  · exact h1
  · exact h2

theorem Keeps.of_eq {α : Type} {a x : State} {y : α} {p : State × α} (e : p = (x, y)) (h : Keeps a p.1) : Keeps a x := by
  rw [e] at h; exact h

theorem Keeps.of_eq2 {α : Type} {a x : State} {y : α} {p : α × State} (e : p = (y, x)) (h : Keeps a p.2) : Keeps a x := by
  rw [e] at h; exact h

theorem Keeps.foldlP_ {α β : Type} {a : State} {p : State × β} {g : State × β → α → State × β} {l : List α}
    (hg : ∀ t x, Keeps a t.1 → Keeps a (g t x).1) (h : Keeps a p.1) : Keeps a (l.foldl g p).1 := by
  induction l generalizing p with
  | nil => exact h
  | cons x l ih => exact ih (hg p x h)

theorem RegsWf.reset (u : Nat) (keep : List Nat) (m : List (Nat × Word)) (h : RegsWf m) : RegsWf (resetUnitRegs u keep m) :=
  RegsWf.filter _ _ h

theorem RegsWf.foldl_ {α : Type} {g : List (Nat × Word) → α → List (Nat × Word)} {l : List α} {m : List (Nat × Word)}
    (hg : ∀ n x, RegsWf n → RegsWf (g n x)) (h : RegsWf m) : RegsWf (l.foldl g m) := by
  induction l generalizing m with
  | nil => exact h
  | cons x l ih => exact ih (hg m x h)

theorem DictWf.foldl_ {α : Type} {b : Bool} {g : List (Nat × List Byte) → α → List (Nat × List Byte)} {l : List α} {m : List (Nat × List Byte)}
    (hg : ∀ n x, DictWf b n → DictWf b (g n x)) (h : DictWf b m) : DictWf b (l.foldl g m) := by
  induction l generalizing m with
  | nil => exact h
  | cons x l ih => exact ih (hg m x h)

theorem Memory.foldl_ {α : Type} {g : List Host.Cell → α → List Host.Cell} {l : List α} {m : List Host.Cell}
    (hg : ∀ n x, Memory.wf n → Memory.wf (g n x)) (h : Memory.wf m) : Memory.wf (l.foldl g m) := by
  induction l generalizing m with
  | nil => exact h
  | cons x l ih => exact ih (hg m x h)

theorem State.setReg_keeps {a s : State} {r : Nat} {w : Word} (h : Keeps a s) : Keeps a (s.setReg r w) :=
  h.regs_ (RegsWf.put _ _ _)

theorem State.setF_keeps {a s : State} {f : FieldRef} {v : Nat} (h : Keeps a s) : Keeps a (s.setF f v) := State.setReg_keeps h

theorem State.setDict_keeps {a s : State} {i j : Nat} {v : List Byte} (h : Keeps a s) : Keeps a (s.setDict i j v) :=
  h.dict_ (DictWf.put _ _ _ _ _)

end Sys2Proof.Machine
end

