-- ==== Sys2Proof/Laws/KeepsCore.lean ====
section
/-!
SUPPORT. What the operations of the block keep: start-up, events, faults and resets.
-/
namespace Sys2Proof.Machine
open Sys2Proof

set_option maxRecDepth 20000
set_option linter.unusedTactic false
set_option linter.unreachableTactic false

theorem State.bumpF_keeps {a₀ s : State} {f : FieldRef} {d : Nat} (hk : Keeps a₀ s) :
    Keeps a₀ (State.bumpF s f d) := by
  unfold State.bumpF
  try dsimp only
  repeat' first
    | with_reducible assumption | with_reducible refine State.setF_keeps ?_

theorem State.setChn_keeps {a₀ s : State} {k : Nat} {c : Chn} (hk : Keeps a₀ s) :
    Keeps a₀ (State.setChn s k c) := by
  unfold State.setChn
  try dsimp only
  repeat' first
    | with_reducible assumption | with_reducible refine Keeps.ite_ ?_ ?_
    | fail_if_no_progress with_reducible refine Keeps.mk_ ?_ rfl rfl

theorem State.setPre_keeps {a₀ s : State} {k : Nat} {c : Pre} (hk : Keeps a₀ s) :
    Keeps a₀ (State.setPre s k c) := by
  unfold State.setPre
  try dsimp only
  repeat' first
    | with_reducible assumption | with_reducible refine Keeps.ite_ ?_ ?_
    | fail_if_no_progress with_reducible refine Keeps.mk_ ?_ rfl rfl

theorem State.setSrv_keeps {a₀ s : State} {k : Nat} {c : Srv} (hk : Keeps a₀ s) :
    Keeps a₀ (State.setSrv s k c) := by
  unfold State.setSrv
  try dsimp only
  repeat' first
    | with_reducible assumption | with_reducible refine Keeps.ite_ ?_ ?_
    | fail_if_no_progress with_reducible refine Keeps.mk_ ?_ rfl rfl

theorem State.emit_keeps {a₀ s : State} {o : Out} (hk : Keeps a₀ s) :
    Keeps a₀ (State.emit s o) := by
  unfold State.emit
  try dsimp only
  repeat' first
    | with_reducible assumption | fail_if_no_progress with_reducible refine Keeps.mk_ ?_ rfl rfl

theorem State.charge_keeps {a₀ s : State} {c : Nat} {n : Nat} (hk : Keeps a₀ s) :
    Keeps a₀ (State.charge s c n) := by
  unfold State.charge
  try dsimp only
  repeat' first
    | with_reducible assumption | fail_if_no_progress with_reducible refine Keeps.mk_ ?_ rfl rfl

theorem State.useFree_keeps {a₀ s : State} (hk : Keeps a₀ s) :
    Keeps a₀ (State.useFree s) := by
  unfold State.useFree
  try dsimp only
  repeat' first
    | with_reducible assumption | fail_if_no_progress with_reducible refine Keeps.mk_ ?_ rfl rfl

theorem State.setDictNum_keeps {a₀ s : State} {idx : Nat} {sub : Nat} {n : Nat} {v : Nat} (hk : Keeps a₀ s) :
    Keeps a₀ (State.setDictNum s idx sub n v) := by
  unfold State.setDictNum
  try dsimp only
  repeat' first
    | with_reducible assumption | with_reducible refine State.setDict_keeps ?_

theorem State.stat_keeps {a₀ s : State} {idx : Nat} {sub : Nat} {d : Nat} (hk : Keeps a₀ s) :
    Keeps a₀ (State.stat s idx sub d) := by
  unfold State.stat
  try dsimp only
  repeat' first
    | with_reducible assumption | with_reducible refine State.setDict_keeps ?_

theorem State.setParked_keeps {a₀ s : State} {k : Nat} {b : Bool} (hk : Keeps a₀ s) :
    Keeps a₀ (State.setParked s k b) := by
  unfold State.setParked
  try dsimp only
  repeat' first
    | with_reducible assumption | with_reducible refine State.setF_keeps ?_ | with_reducible refine Keeps.ite_ ?_ ?_

theorem State.setRetracting_keeps {a₀ s : State} {k : Nat} {b : Bool} (hk : Keeps a₀ s) :
    Keeps a₀ (State.setRetracting s k b) := by
  unfold State.setRetracting
  try dsimp only
  repeat' first
    | with_reducible assumption | with_reducible refine State.setF_keeps ?_ | with_reducible refine Keeps.ite_ ?_ ?_

theorem State.measured_keeps {a₀ s : State} {v : Nat} (hk : Keeps a₀ s) :
    Keeps a₀ (State.measured s v) := by
  unfold State.measured
  try dsimp only
  repeat' first
    | with_reducible assumption | with_reducible refine State.setF_keeps ?_ | with_reducible refine Keeps.ite_ ?_ ?_
    | fail_if_no_progress with_reducible refine Keeps.mk_ ?_ rfl rfl

theorem State.setSticky_keeps {a₀ s : State} {src : Nat} {b : Bool} (hk : Keeps a₀ s) :
    Keeps a₀ (State.setSticky s src b) := by
  unfold State.setSticky
  try dsimp only
  repeat' first
    | with_reducible assumption | with_reducible refine State.setF_keeps ?_

theorem State.setSeverity_keeps {a₀ s : State} {src : Nat} {v : Nat} (hk : Keeps a₀ s) :
    Keeps a₀ (State.setSeverity s src v) := by
  unfold State.setSeverity
  try dsimp only
  repeat' first
    | with_reducible assumption | with_reducible refine State.setF_keeps ?_

theorem State.hostWrite_keeps {a₀ s : State} {addr : Nat} {bytes : List Byte} (hk : Keeps a₀ s) :
    Keeps a₀ (State.hostWrite s addr bytes) := by
  unfold State.hostWrite
  try dsimp only
  repeat' first
    | with_reducible assumption | with_reducible refine State.emit_keeps ?_ | with_reducible refine Keeps.ite_ ?_ ?_
    | fail_if_no_progress with_reducible refine Keeps.mk_ ?_ rfl rfl

theorem State.hccCount_keeps {a₀ s : State} (hk : Keeps a₀ s) :
    Keeps a₀ (State.hccCount s) := by
  unfold State.hccCount
  try dsimp only
  repeat' first
    | with_reducible assumption | with_reducible refine State.setF_keeps ?_

theorem State.hccWriteback_keeps {a₀ s : State} {line : Nat} (hk : Keeps a₀ s) :
    Keeps a₀ (State.hccWriteback s line) := by
  unfold State.hccWriteback
  try dsimp only
  repeat' first
    | with_reducible assumption | with_reducible refine State.charge_keeps ?_ | with_reducible refine State.stat_keeps ?_
    | with_reducible refine State.emit_keeps ?_ | with_reducible refine State.hccCount_keeps ?_
    | with_reducible refine Keeps.ite_ ?_ ?_ | fail_if_no_progress with_reducible refine Keeps.mk_ ?_ rfl rfl | split

theorem State.hccFill_keeps {a₀ s : State} {op : Nat} {kind : Nat} {st : Nat} {line : Nat} {pin : Bool} (hk : Keeps a₀ s) :
    Keeps a₀ (State.hccFill s op kind st line pin).1 := by
  unfold State.hccFill
  try dsimp only
  repeat' first
    | with_reducible assumption | with_reducible refine State.charge_keeps ?_ | with_reducible refine State.emit_keeps ?_
    | with_reducible refine State.bumpF_keeps ?_ | with_reducible refine State.hccCount_keeps ?_
    | with_reducible refine State.hccWriteback_keeps ?_ | with_reducible refine Keeps.ite_ ?_ ?_
    | fail_if_no_progress with_reducible refine Keeps.mk_ ?_ rfl rfl | split

theorem State.hccStore_keeps {a₀ s : State} {l : HLine} {off : Nat} {bytes : List Byte} (hk : Keeps a₀ s) :
    Keeps a₀ (State.hccStore s l off bytes) := by
  unfold State.hccStore
  try dsimp only
  repeat' first
    | with_reducible assumption | with_reducible refine State.charge_keeps ?_ | with_reducible refine State.emit_keeps ?_
    | with_reducible refine State.hccWriteback_keeps ?_ | with_reducible refine State.hccCount_keeps ?_
    | with_reducible refine Keeps.ite_ ?_ ?_ | fail_if_no_progress with_reducible refine Keeps.mk_ ?_ rfl rfl | split

theorem State.ringWrite_keeps {a₀ s : State} {kind : Nat} {addr : Nat} {bytes : List Byte} (hk : Keeps a₀ s) :
    Keeps a₀ (State.ringWrite s kind addr bytes) := by
  unfold State.ringWrite
  try dsimp only
  repeat' first
    | with_reducible assumption | with_reducible refine State.hostWrite_keeps ?_ | with_reducible refine State.bumpF_keeps ?_
    | with_reducible refine State.hccStore_keeps ?_ | with_reducible refine State.hccFill_keeps ?_
    | with_reducible refine Keeps.ite_ ?_ ?_ | fail_if_no_progress with_reducible refine Keeps.mk_ ?_ rfl rfl
    | refine Keeps.of_eq (by assumption) ?_ | split

theorem State.ringFlush_keeps {a₀ s : State} {base : Nat} {depth : Nat} (hk : Keeps a₀ s) :
    Keeps a₀ (State.ringFlush s base depth) := by
  unfold State.ringFlush
  try dsimp only
  repeat' first
    | with_reducible assumption | with_reducible refine State.hccWriteback_keeps ?_
    | (with_reducible refine Keeps.foldl_ (fun t x ht => ?_) ?_ <;> try dsimp only)

theorem State.hccRead_keeps {a₀ s : State} {kind : Nat} {addr : Nat} {pin : Bool} (hk : Keeps a₀ s) :
    Keeps a₀ (State.hccRead s kind addr pin) := by
  unfold State.hccRead
  try dsimp only
  repeat' first
    | with_reducible assumption | with_reducible refine State.bumpF_keeps ?_ | with_reducible refine State.hccFill_keeps ?_
    | with_reducible refine Keeps.ite_ ?_ ?_ | fail_if_no_progress with_reducible refine Keeps.mk_ ?_ rfl rfl | split

theorem State.signalVector_keeps {a₀ s : State} {v : Nat} (hk : Keeps a₀ s) :
    Keeps a₀ (State.signalVector s v) := by
  unfold State.signalVector
  try dsimp only
  repeat' first
    | with_reducible assumption | with_reducible refine State.emit_keeps ?_ | with_reducible refine Keeps.ite_ ?_ ?_
    | fail_if_no_progress with_reducible refine Keeps.mk_ ?_ rfl rfl

theorem State.postRing_keeps {a₀ s : State} {id : Nat} {sev : Nat} {kind : Nat} {addr : Nat} {data : Nat} (hk : Keeps a₀ s) :
    Keeps a₀ (State.postRing s id sev kind addr data) := by
  unfold State.postRing
  try dsimp only
  repeat' first
    | with_reducible assumption | with_reducible refine State.ringWrite_keeps ?_ | with_reducible refine State.bumpF_keeps ?_
    | with_reducible refine Keeps.ite_ ?_ ?_ | fail_if_no_progress with_reducible refine Keeps.mk_ ?_ rfl rfl

theorem State.route_keeps {a₀ s : State} {id : Nat} {sev : Nat} {kind : Nat} {addr : Nat} {data : Nat} (hk : Keeps a₀ s) :
    Keeps a₀ (State.route s id sev kind addr data) := by
  unfold State.route
  try dsimp only
  repeat' first
    | with_reducible assumption | with_reducible refine State.postRing_keeps ?_
    | with_reducible refine State.signalVector_keeps ?_ | with_reducible refine Keeps.ite_ ?_ ?_

theorem State.groupEvent_keeps {a₀ s : State} {g : Nat} (hk : Keeps a₀ s) :
    Keeps a₀ (State.groupEvent s g) := by
  unfold State.groupEvent
  try dsimp only
  repeat' first
    | with_reducible assumption | with_reducible refine State.ringFlush_keeps ?_ | with_reducible refine State.route_keeps ?_
    | with_reducible refine Keeps.ite_ ?_ ?_ | (with_reducible refine Keeps.foldl_ (fun t x ht => ?_) ?_ <;> try dsimp only)
    | fail_if_no_progress with_reducible refine Keeps.mk_ ?_ rfl rfl

theorem State.postEvent_keeps {a₀ s : State} {id : Nat} {sev : Nat} {kind : Nat} {addr : Nat} {data : Nat} (hk : Keeps a₀ s) :
    Keeps a₀ (State.postEvent s id sev kind addr data) := by
  unfold State.postEvent
  try dsimp only
  repeat' first
    | with_reducible assumption | with_reducible refine State.route_keeps ?_ | with_reducible refine State.groupEvent_keeps ?_
    | with_reducible refine Keeps.ite_ ?_ ?_

theorem State.event_keeps {a₀ s : State} {id : Nat} {data : Nat} (hk : Keeps a₀ s) :
    Keeps a₀ (State.event s id data) := by
  unfold State.event
  try dsimp only
  repeat' first
    | with_reducible assumption | with_reducible refine State.postEvent_keeps ?_

theorem State.setStage_keeps {a₀ s : State} {st : Nat} (hk : Keeps a₀ s) :
    Keeps a₀ (State.setStage s st) := by
  unfold State.setStage
  try dsimp only
  repeat' first
    | with_reducible assumption | with_reducible refine State.setF_keeps ?_ | with_reducible refine State.event_keeps ?_
    | with_reducible refine Keeps.ite_ ?_ ?_

theorem State.send_keeps {a₀ s : State} {src : Nat} {kind : Nat} {addr : Nat} (hk : Keeps a₀ s) :
    Keeps a₀ (State.send s src kind addr) := by
  unfold State.send
  try dsimp only
  repeat' first
    | with_reducible assumption | fail_if_no_progress with_reducible refine Keeps.mk_ ?_ rfl rfl

theorem State.sendMotion_keeps {a₀ s : State} {src : Nat} {kind : Nat} {addr : Nat} (hk : Keeps a₀ s) :
    Keeps a₀ (State.sendMotion s src kind addr) := by
  unfold State.sendMotion
  try dsimp only
  repeat' first
    | with_reducible assumption | with_reducible refine State.send_keeps ?_ | with_reducible refine Keeps.ite_ ?_ ?_
    | fail_if_no_progress with_reducible refine Keeps.mk_ ?_ rfl rfl

theorem State.gateLow_keeps {a₀ s : State} {k : Nat} (hk : Keeps a₀ s) :
    Keeps a₀ (State.gateLow s k) := by
  unfold State.gateLow
  try dsimp only
  repeat' first
    | with_reducible assumption | with_reducible refine State.setChn_keeps ?_ | with_reducible refine State.setF_keeps ?_
    | with_reducible refine State.emit_keeps ?_ | with_reducible refine Keeps.ite_ ?_ ?_
    | fail_if_no_progress with_reducible refine Keeps.mk_ ?_ rfl rfl

theorem State.writeCut_keeps {a₀ s : State} {k : Nat} (hk : Keeps a₀ s) :
    Keeps a₀ (State.writeCut s k) := by
  unfold State.writeCut
  try dsimp only
  repeat' first
    | with_reducible assumption | with_reducible refine State.gateLow_keeps ?_ | with_reducible refine State.setF_keeps ?_
    | with_reducible refine State.stat_keeps ?_ | with_reducible refine State.setChn_keeps ?_
    | with_reducible refine State.send_keeps ?_ | with_reducible refine Keeps.ite_ ?_ ?_
    | fail_if_no_progress with_reducible refine Keeps.mk_ ?_ rfl rfl | split

theorem State.inhibit_keeps {a₀ s : State} {k : Nat} {bit : Nat} (hk : Keeps a₀ s) :
    Keeps a₀ (State.inhibit s k bit) := by
  unfold State.inhibit
  try dsimp only
  repeat' first
    | with_reducible assumption | with_reducible refine State.setF_keeps ?_ | with_reducible refine State.writeCut_keeps ?_
    | with_reducible refine Keeps.ite_ ?_ ?_

theorem State.uninhibit_keeps {a₀ s : State} {k : Nat} {bit : Nat} (hk : Keeps a₀ s) :
    Keeps a₀ (State.uninhibit s k bit) := by
  unfold State.uninhibit
  try dsimp only
  repeat' first
    | with_reducible assumption | with_reducible refine State.setF_keeps ?_

theorem State.inhibitBoth_keeps {a₀ s : State} {bit : Nat} (hk : Keeps a₀ s) :
    Keeps a₀ (State.inhibitBoth s bit) := by
  unfold State.inhibitBoth
  try dsimp only
  repeat' first
    | with_reducible assumption | with_reducible refine State.inhibit_keeps ?_

theorem State.uninhibitBoth_keeps {a₀ s : State} {bit : Nat} (hk : Keeps a₀ s) :
    Keeps a₀ (State.uninhibitBoth s bit) := by
  unfold State.uninhibitBoth
  try dsimp only
  repeat' first
    | with_reducible assumption | with_reducible refine State.uninhibit_keeps ?_

theorem State.setRet_keeps {a₀ s : State} {k : Nat} {r : Retract} (hk : Keeps a₀ s) :
    Keeps a₀ (State.setRet s k r) := by
  unfold State.setRet
  try dsimp only
  repeat' first
    | with_reducible assumption | with_reducible refine Keeps.ite_ ?_ ?_
    | fail_if_no_progress with_reducible refine Keeps.mk_ ?_ rfl rfl

theorem State.setVcmOff_keeps {a₀ s : State} {k : Nat} {b : Bool} (hk : Keeps a₀ s) :
    Keeps a₀ (State.setVcmOff s k b) := by
  unfold State.setVcmOff
  try dsimp only
  repeat' first
    | with_reducible assumption | with_reducible refine Keeps.ite_ ?_ ?_
    | fail_if_no_progress with_reducible refine Keeps.mk_ ?_ rfl rfl

theorem State.holdMedia_keeps {a₀ s : State} {k : Nat} (hk : Keeps a₀ s) :
    Keeps a₀ (State.holdMedia s k) := by
  unfold State.holdMedia
  try dsimp only
  repeat' first
    | with_reducible assumption | with_reducible refine State.inhibit_keeps ?_ | with_reducible refine Keeps.ite_ ?_ ?_
    | fail_if_no_progress with_reducible refine Keeps.mk_ ?_ rfl rfl

theorem State.retract_keeps {a₀ s : State} {k : Nat} {cause : Nat} (hk : Keeps a₀ s) :
    Keeps a₀ (State.retract s k cause) := by
  unfold State.retract
  try dsimp only
  repeat' first
    | with_reducible assumption | with_reducible refine State.holdMedia_keeps ?_ | with_reducible refine State.setRet_keeps ?_
    | with_reducible refine State.setRetracting_keeps ?_ | with_reducible refine Keeps.ite_ ?_ ?_
    | fail_if_no_progress with_reducible refine Keeps.mk_ ?_ rfl rfl

theorem State.retractBoth_keeps {a₀ s : State} {cause : Nat} (hk : Keeps a₀ s) :
    Keeps a₀ (State.retractBoth s cause) := by
  unfold State.retractBoth
  try dsimp only
  repeat' first
    | with_reducible assumption | with_reducible refine State.retract_keeps ?_

theorem State.retractOffRamp_keeps {a₀ s : State} {cause : Nat} (hk : Keeps a₀ s) :
    Keeps a₀ (State.retractOffRamp s cause) := by
  unfold State.retractOffRamp
  try dsimp only
  repeat' first
    | with_reducible assumption | with_reducible refine State.retract_keeps ?_ | with_reducible refine Keeps.ite_ ?_ ?_

theorem State.unload_keeps {a₀ s : State} {k : Nat} (hk : Keeps a₀ s) :
    Keeps a₀ (State.unload s k) := by
  unfold State.unload
  try dsimp only
  repeat' first
    | with_reducible assumption | with_reducible refine State.holdMedia_keeps ?_ | with_reducible refine State.setF_keeps ?_
    | with_reducible refine State.setSrv_keeps ?_ | with_reducible refine State.retract_keeps ?_
    | with_reducible refine Keeps.ite_ ?_ ?_ | fail_if_no_progress with_reducible refine Keeps.mk_ ?_ rfl rfl

theorem State.unloadBoth_keeps {a₀ s : State} (hk : Keeps a₀ s) :
    Keeps a₀ (State.unloadBoth s) := by
  unfold State.unloadBoth
  try dsimp only
  repeat' first
    | with_reducible assumption | with_reducible refine State.unload_keeps ?_

theorem State.bridgeOff_keeps {a₀ s : State} (hk : Keeps a₀ s) :
    Keeps a₀ (State.bridgeOff s) := by
  unfold State.bridgeOff
  try dsimp only
  repeat' first
    | with_reducible assumption | with_reducible refine State.setF_keeps ?_
    | fail_if_no_progress with_reducible refine Keeps.mk_ ?_ rfl rfl

theorem State.motionLinkDown_keeps {a₀ s : State} (hk : Keeps a₀ s) :
    Keeps a₀ (State.motionLinkDown s) := by
  unfold State.motionLinkDown
  try dsimp only
  repeat' first
    | with_reducible assumption | with_reducible refine State.setF_keeps ?_ | with_reducible refine State.retractBoth_keeps ?_
    | with_reducible refine State.bridgeOff_keeps ?_ | with_reducible refine Keeps.ite_ ?_ ?_
    | fail_if_no_progress with_reducible refine Keeps.mk_ ?_ rfl rfl

theorem State.coreLinkDown_keeps {a₀ s : State} (hk : Keeps a₀ s) :
    Keeps a₀ (State.coreLinkDown s) := by
  unfold State.coreLinkDown
  try dsimp only
  repeat' first
    | with_reducible assumption | with_reducible refine State.inhibitBoth_keeps ?_ | with_reducible refine State.send_keeps ?_
    | with_reducible refine Keeps.ite_ ?_ ?_ | fail_if_no_progress with_reducible refine Keeps.mk_ ?_ rfl rfl

theorem State.packWords_keeps {a₀ s : State} {a : Nat} {bs : List Byte} (hk : Keeps a₀ s) :
    Keeps a₀ (State.packWords s a bs) := by
  unfold State.packWords
  try dsimp only
  repeat' first
    | with_reducible assumption | with_reducible refine State.setReg_keeps ?_
    | (with_reducible refine Keeps.foldl_ (fun t x ht => ?_) ?_ <;> try dsimp only)

theorem State.packBytes_keeps {a₀ s : State} {a : Nat} {bs : List Byte} (hk : Keeps a₀ s) :
    Keeps a₀ (State.packBytes s a bs) := by
  unfold State.packBytes
  try dsimp only
  repeat' first
    | with_reducible assumption | with_reducible refine State.setReg_keeps ?_
    | (with_reducible refine Keeps.foldl_ (fun t x ht => ?_) ?_ <;> try dsimp only)

theorem State.packSection_keeps {a₀ s : State} {n : Nat} {bs : List Byte} (hk : Keeps a₀ s) :
    Keeps a₀ (State.packSection s n bs) := by
  unfold State.packSection
  try dsimp only
  repeat' first
    | with_reducible assumption | with_reducible refine State.setF_keeps ?_

theorem State.initBudget_keeps {a₀ s : State} (hk : Keeps a₀ s) :
    Keeps a₀ (State.initBudget s) := by
  unfold State.initBudget
  try dsimp only
  repeat' first
    | with_reducible assumption | with_reducible refine State.setF_keeps ?_ | with_reducible refine Keeps.ite_ ?_ ?_
    | (with_reducible refine Keeps.foldl_ (fun t x ht => ?_) ?_ <;> try dsimp only)

theorem State.packLin_keeps {a₀ s : State} {k : Nat} (hk : Keeps a₀ s) :
    Keeps a₀ (State.packLin s k) := by
  unfold State.packLin
  try dsimp only
  repeat' first
    | with_reducible assumption | with_reducible refine State.packBytes_keeps ?_

theorem State.applyEntry_keeps {a₀ s : State} {idx : Nat} {sub : Nat} (hk : Keeps a₀ s) :
    Keeps a₀ (State.applyEntry s idx sub) := by
  unfold State.applyEntry
  try dsimp only
  repeat' first
    | with_reducible assumption | with_reducible refine State.setSeverity_keeps ?_
    | with_reducible refine State.packSection_keeps ?_ | with_reducible refine State.packLin_keeps ?_
    | with_reducible refine State.packWords_keeps ?_ | with_reducible refine State.setF_keeps ?_
    | with_reducible refine State.initBudget_keeps ?_ | with_reducible refine Keeps.ite_ ?_ ?_ | split

theorem State.applyListed_keeps {a₀ s : State} {u : Nat} (hk : Keeps a₀ s) :
    Keeps a₀ (State.applyListed s u) := by
  unfold State.applyListed
  try dsimp only
  repeat' first
    | with_reducible assumption | with_reducible refine State.applyEntry_keeps ?_ | with_reducible refine Keeps.ite_ ?_ ?_
    | (with_reducible refine Keeps.foldlP_ (fun t x ht => ?_) ?_ <;> try dsimp only)
    | (with_reducible refine Keeps.foldl_ (fun t x ht => ?_) ?_ <;> try dsimp only)

theorem RegsWf.del (m : List (Nat × Word)) (k : Nat) (h : RegsWf m) : RegsWf (Assoc.del m k) :=
  ⟨Assoc.rising_del _ _ h.1, fun p hp => h.2 p (Assoc.mem_del _ _ _ hp).1⟩

theorem State.applyUnit_keeps {a₀ s : State} {u : Nat} (h : Keeps a₀ s) : Keeps a₀ (State.applyUnit s u) := by
  unfold State.applyUnit
  repeat' first
    | with_reducible assumption | with_reducible refine State.applyEntry_keeps ?_ | with_reducible refine State.applyListed_keeps ?_
    | with_reducible refine State.initBudget_keeps ?_ | with_reducible refine Keeps.ite_ ?_ ?_
    | exact h.regs_ (RegsWf.foldl_ (fun _ _ hn => RegsWf.del _ _ hn))
    | (with_reducible refine Keeps.foldl_ (fun t x ht => ?_) ?_ <;> try dsimp only)

theorem State.dropVolatile_keeps {a₀ s : State} {d : Nat} (h : Keeps a₀ s) : Keeps a₀ (s.dropVolatile d) :=
  h.dict_ (fun hd => DictWf.foldl_ (fun _ _ hn => DictWf.del _ _ _ hn) hd)

theorem State.resetRegsOf_keeps {a₀ s : State} {u : Nat} (h : Keeps a₀ s) : Keeps a₀ (s.resetRegsOf u) := by
  unfold State.resetRegsOf
  exact State.applyUnit_keeps (Keeps.foldl_ (fun _ _ ht => State.setF_keeps ht) (h.regs_ (RegsWf.reset _ _ _)))

theorem State.showPool_keeps {a₀ s : State} (hk : Keeps a₀ s) :
    Keeps a₀ (State.showPool s) := by
  unfold State.showPool
  try dsimp only
  repeat' first
    | with_reducible assumption | with_reducible refine State.setF_keeps ?_
    | (with_reducible refine Keeps.foldl_ (fun t x ht => ?_) ?_ <;> try dsimp only)

theorem State.setInst_keeps {a₀ s : State} {n : Nat} {w : Option Work} {iter : Nat} (hk : Keeps a₀ s) :
    Keeps a₀ (State.setInst s n w iter) := by
  unfold State.setInst
  try dsimp only
  repeat' first
    | with_reducible assumption | with_reducible refine State.setF_keeps ?_
    | fail_if_no_progress with_reducible refine Keeps.mk_ ?_ rfl rfl | split

theorem State.takeWork_keeps {a₀ s : State} {i : Nat} {w : Work} (hk : Keeps a₀ s) :
    Keeps a₀ (State.takeWork s i w) := by
  unfold State.takeWork
  try dsimp only
  repeat' first
    | with_reducible assumption | with_reducible refine State.setInst_keeps ?_
    | fail_if_no_progress with_reducible refine Keeps.mk_ ?_ rfl rfl

theorem State.fillPool_keeps {a₀ s : State} {n : Nat} (hk : Keeps a₀ s) :
    Keeps a₀ (State.fillPool s n) := by
  induction n generalizing s with
  | zero =>
    unfold State.fillPool
    try dsimp only
    repeat' first
      | with_reducible assumption | with_reducible refine State.takeWork_keeps ?_ | split
  | succ m_ ih =>
    unfold State.fillPool
    try dsimp only
    repeat' first
      | with_reducible assumption | with_reducible refine ih ?_ | with_reducible refine State.takeWork_keeps ?_ | split

theorem State.refillPool_keeps {a₀ s : State} (hk : Keeps a₀ s) :
    Keeps a₀ (State.refillPool s) := by
  unfold State.refillPool
  try dsimp only
  repeat' first
    | with_reducible assumption | with_reducible refine State.showPool_keeps ?_ | with_reducible refine State.fillPool_keeps ?_

theorem State.chnReset_keeps {a₀ s : State} {k : Nat} (hk : Keeps a₀ s) :
    Keeps a₀ (State.chnReset s k) := by
  unfold State.chnReset
  try dsimp only
  repeat' first
    | with_reducible assumption | with_reducible refine State.setChn_keeps ?_ | with_reducible refine State.refillPool_keeps ?_
    | fail_if_no_progress with_reducible refine Keeps.mk_ ?_ rfl rfl

theorem State.preReset_keeps {a₀ s : State} {k : Nat} (hk : Keeps a₀ s) :
    Keeps a₀ (State.preReset s k) := by
  unfold State.preReset
  try dsimp only
  repeat' first
    | with_reducible assumption | with_reducible refine State.setPre_keeps ?_ | with_reducible refine State.setChn_keeps ?_
    | fail_if_no_progress with_reducible refine Keeps.mk_ ?_ rfl rfl

theorem State.resetHidden_keeps {a₀ s : State} {u : Nat} (h : Keeps a₀ s) : Keeps a₀ (s.resetHidden u) := by
  unfold State.resetHidden
  split
  case h_11 =>
    exact h.dram_ (fun hm => Memory.foldl_ (fun _ _ hn => Memory.foldl_ (fun _ _ hd => Memory.wf_put _ _ _ hd) hn) hm)
  all_goals
    repeat' first
      | with_reducible assumption | with_reducible refine State.setF_keeps ?_ | with_reducible refine State.setChn_keeps ?_
      | with_reducible refine State.chnReset_keeps ?_ | with_reducible refine State.preReset_keeps ?_
      | with_reducible refine State.setPre_keeps ?_ | with_reducible refine State.setSrv_keeps ?_
      | fail_if_no_progress with_reducible refine Keeps.mk_ ?_ rfl rfl

theorem State.canUp_keeps {a₀ s : State} (hk : Keeps a₀ s) :
    Keeps a₀ (State.canUp s) := by
  unfold State.canUp
  try dsimp only
  repeat' first
    | with_reducible assumption | with_reducible refine State.setF_keeps ?_ | with_reducible refine Keeps.ite_ ?_ ?_

theorem State.resetUnit_keeps {a₀ s : State} {u : Nat} (hk : Keeps a₀ s) :
    Keeps a₀ (State.resetUnit s u) := by
  unfold State.resetUnit
  try dsimp only
  repeat' first
    | with_reducible assumption | with_reducible refine State.resetHidden_keeps ?_
    | with_reducible refine State.resetRegsOf_keeps ?_ | with_reducible refine State.setF_keeps ?_
    | with_reducible refine State.canUp_keeps ?_ | with_reducible refine Keeps.ite_ ?_ ?_

theorem State.inhibitAfterReset_keeps {a₀ s : State} {k : Nat} (hk : Keeps a₀ s) :
    Keeps a₀ (State.inhibitAfterReset s k) := by
  unfold State.inhibitAfterReset
  try dsimp only
  repeat' first
    | with_reducible assumption | with_reducible refine State.setReg_keeps ?_

theorem State.forgetRunout_keeps {a₀ s : State} {k : Nat} (h : Keeps a₀ s) : Keeps a₀ (s.forgetRunout k) := by
  unfold State.forgetRunout
  refine State.setF_keeps ?_
  exact Keeps.gen_ h (RegsWf.filter _ _) (fun _ hd => hd) (fun _ hb => hb) (fun _ hl => hl) (fun hm => hm)

theorem State.mediaReset_keeps {a₀ s : State} {k : Nat} (hk : Keeps a₀ s) :
    Keeps a₀ (State.mediaReset s k) := by
  unfold State.mediaReset
  try dsimp only
  repeat' first
    | with_reducible assumption | with_reducible refine State.inhibit_keeps ?_ | with_reducible refine State.retract_keeps ?_
    | with_reducible refine State.resetUnit_keeps ?_ | with_reducible refine State.resetHidden_keeps ?_
    | with_reducible refine State.resetRegsOf_keeps ?_ | with_reducible refine State.inhibitAfterReset_keeps ?_
    | with_reducible refine State.refillPool_keeps ?_ | with_reducible refine State.forgetRunout_keeps ?_
    | fail_if_no_progress with_reducible refine Keeps.mk_ ?_ rfl rfl

theorem State.endInjection_keeps {a₀ s : State} (hk : Keeps a₀ s) :
    Keeps a₀ (State.endInjection s) := by
  unfold State.endInjection
  try dsimp only
  repeat' first
    | with_reducible assumption | with_reducible refine State.uninhibitBoth_keeps ?_
    | with_reducible refine State.uninhibit_keeps ?_ | with_reducible refine Keeps.ite_ ?_ ?_
    | fail_if_no_progress with_reducible refine Keeps.mk_ ?_ rfl rfl | split

theorem State.setSpm_keeps {a₀ s : State} {m : Spm} (hk : Keeps a₀ s) :
    Keeps a₀ (State.setSpm s m) := by
  unfold State.setSpm
  try dsimp only
  repeat' first
    | with_reducible assumption | fail_if_no_progress with_reducible refine Keeps.mk_ ?_ rfl rfl

theorem State.startCatch_keeps {a₀ s : State} (hk : Keeps a₀ s) :
    Keeps a₀ (State.startCatch s) := by
  unfold State.startCatch
  try dsimp only
  repeat' first
    | with_reducible assumption | with_reducible refine State.bridgeOff_keeps ?_ | with_reducible refine State.setF_keeps ?_
    | with_reducible refine State.setSpm_keeps ?_ | fail_if_no_progress with_reducible refine Keeps.mk_ ?_ rfl rfl

theorem State.reverseBrake_keeps {a₀ s : State} (hk : Keeps a₀ s) :
    Keeps a₀ (State.reverseBrake s) := by
  unfold State.reverseBrake
  try dsimp only
  repeat' first
    | with_reducible assumption | with_reducible refine State.bridgeOff_keeps ?_ | with_reducible refine State.setF_keeps ?_
    | with_reducible refine State.setSpm_keeps ?_ | with_reducible refine Keeps.ite_ ?_ ?_
    | fail_if_no_progress with_reducible refine Keeps.mk_ ?_ rfl rfl

theorem State.startSpin_keeps {a₀ s : State} (hk : Keeps a₀ s) :
    Keeps a₀ (State.startSpin s) := by
  unfold State.startSpin
  try dsimp only
  repeat' first
    | with_reducible assumption | with_reducible refine State.setF_keeps ?_ | with_reducible refine State.setSpm_keeps ?_
    | with_reducible refine State.reverseBrake_keeps ?_ | with_reducible refine State.startCatch_keeps ?_
    | with_reducible refine State.bridgeOff_keeps ?_ | with_reducible refine Keeps.ite_ ?_ ?_
    | fail_if_no_progress with_reducible refine Keeps.mk_ ?_ rfl rfl

theorem State.motionReset_keeps {a₀ s : State} (hk : Keeps a₀ s) :
    Keeps a₀ (State.motionReset s) := by
  unfold State.motionReset
  try dsimp only
  repeat' first
    | with_reducible assumption | with_reducible refine State.inhibitBoth_keeps ?_
    | with_reducible refine State.retractBoth_keeps ?_ | with_reducible refine State.bridgeOff_keeps ?_
    | with_reducible refine State.endInjection_keeps ?_ | with_reducible refine State.dropVolatile_keeps ?_
    | with_reducible refine State.resetUnit_keeps ?_ | with_reducible refine State.resetRegsOf_keeps ?_
    | with_reducible refine State.forgetRunout_keeps ?_ | with_reducible refine State.setSpm_keeps ?_
    | with_reducible refine State.startSpin_keeps ?_ | with_reducible refine Keeps.ite_ ?_ ?_
    | fail_if_no_progress with_reducible refine Keeps.mk_ ?_ rfl rfl

theorem State.cleReset_keeps {a₀ s : State} (hk : Keeps a₀ s) :
    Keeps a₀ (State.cleReset s) := by
  unfold State.cleReset
  try dsimp only
  repeat' first
    | with_reducible assumption | with_reducible refine State.retractBoth_keeps ?_
    | with_reducible refine State.endInjection_keeps ?_ | with_reducible refine State.resetUnit_keeps ?_
    | fail_if_no_progress with_reducible refine Keeps.mk_ ?_ rfl rfl

theorem State.preampFrame_keeps {a₀ s : State} {k : Nat} {read : Bool} {addr : Nat} {data : Nat} (hk : Keeps a₀ s) :
    Keeps a₀ (State.preampFrame s k read addr data) := by
  unfold State.preampFrame
  try dsimp only
  repeat' first
    | with_reducible assumption | with_reducible refine State.emit_keeps ?_

theorem State.preampTakes_keeps {a₀ s : State} {k : Nat} {addr : Nat} {data : Nat} (hk : Keeps a₀ s) :
    Keeps a₀ (State.preampTakes s k addr data) := by
  unfold State.preampTakes
  try dsimp only
  repeat' first
    | with_reducible assumption | with_reducible refine State.setPre_keeps ?_ | with_reducible refine State.setF_keeps ?_
    | with_reducible refine Keeps.ite_ ?_ ?_ | fail_if_no_progress with_reducible refine Keeps.mk_ ?_ rfl rfl | split

theorem State.preampWrite_keeps {a₀ s : State} {k : Nat} {addr : Nat} {data : Nat} {back : List Nat} (hk : Keeps a₀ s) :
    Keeps a₀ (State.preampWrite s k addr data back) := by
  unfold State.preampWrite
  try dsimp only
  repeat' first
    | with_reducible assumption | with_reducible refine State.preampFrame_keeps ?_
    | with_reducible refine State.preampTakes_keeps ?_ | with_reducible refine State.send_keeps ?_
    | with_reducible refine State.setPre_keeps ?_ | with_reducible refine Keeps.ite_ ?_ ?_
    | fail_if_no_progress with_reducible refine Keeps.mk_ ?_ rfl rfl

theorem State.preampIdent_keeps {a₀ s : State} {k : Nat} (hk : Keeps a₀ s) :
    Keeps a₀ (State.preampIdent s k) := by
  unfold State.preampIdent
  try dsimp only
  repeat' first
    | with_reducible assumption | with_reducible refine State.preampFrame_keeps ?_
    | with_reducible refine State.setDictNum_keeps ?_ | with_reducible refine State.send_keeps ?_
    | with_reducible refine State.useFree_keeps ?_ | with_reducible refine State.setPre_keeps ?_
    | with_reducible refine Keeps.ite_ ?_ ?_ | fail_if_no_progress with_reducible refine Keeps.mk_ ?_ rfl rfl

theorem State.preampInit_keeps {a₀ s : State} {k : Nat} {head : Nat} (hk : Keeps a₀ s) :
    Keeps a₀ (State.preampInit s k head) := by
  unfold State.preampInit
  try dsimp only
  repeat' first
    | with_reducible assumption | with_reducible refine State.preampIdent_keeps ?_
    | with_reducible refine State.preampWrite_keeps ?_ | with_reducible refine State.setPre_keeps ?_
    | with_reducible refine State.packLin_keeps ?_ | fail_if_no_progress with_reducible refine Keeps.mk_ ?_ rfl rfl

theorem State.resetPre_keeps {a₀ s : State} {k : Nat} (hk : Keeps a₀ s) :
    Keeps a₀ (State.resetPre s k) := by
  unfold State.resetPre
  try dsimp only
  repeat' first
    | with_reducible assumption | with_reducible refine State.resetUnit_keeps ?_ | with_reducible refine State.setReg_keeps ?_
    | with_reducible refine State.preampInit_keeps ?_

theorem State.reactionReset_keeps {a₀ s : State} {u : Nat} (hk : Keeps a₀ s) :
    Keeps a₀ (State.reactionReset s u) := by
  unfold State.reactionReset
  try dsimp only
  repeat' first
    | with_reducible assumption | with_reducible refine State.mediaReset_keeps ?_
    | with_reducible refine State.resetHidden_keeps ?_ | with_reducible refine State.resetRegsOf_keeps ?_
    | with_reducible refine State.cleReset_keeps ?_ | with_reducible refine State.motionReset_keeps ?_
    | with_reducible refine State.gateLow_keeps ?_ | with_reducible refine State.resetUnit_keeps ?_
    | with_reducible refine State.resetPre_keeps ?_ | split

theorem State.programUnit_keeps {a₀ s : State} {u : Nat} {bs : List Byte} (hk : Keeps a₀ s) :
    Keeps a₀ (State.programUnit s u bs) := by
  unfold State.programUnit
  try dsimp only
  repeat' first
    | with_reducible assumption | with_reducible refine State.units_keeps ?_
    | fail_if_no_progress with_reducible refine Keeps.mk_ ?_ rfl rfl | split

theorem State.programUnits_keeps {a₀ s : State} {u : Nat} {bs : List Byte} (hk : Keeps a₀ s) :
    Keeps a₀ (State.programUnits s u bs) := by
  unfold State.programUnits
  try dsimp only
  repeat' first
    | with_reducible assumption | with_reducible refine State.programUnit_keeps ?_
    | (with_reducible refine Keeps.foldl_ (fun t x ht => ?_) ?_ <;> try dsimp only)

theorem State.setImage_keeps {a₀ s : State} {bank : Nat} {i : Option Image} (hk : Keeps a₀ s) :
    Keeps a₀ (State.setImage s bank i) := by
  unfold State.setImage
  try dsimp only
  repeat' first
    | with_reducible assumption | with_reducible refine Keeps.ite_ ?_ ?_
    | fail_if_no_progress with_reducible refine Keeps.mk_ ?_ rfl rfl

theorem State.dropRecord_keeps {a₀ s : State} {b : Nat} (hk : Keeps a₀ s) :
    Keeps a₀ (State.dropRecord s b) := by
  unfold State.dropRecord
  try dsimp only
  repeat' first
    | with_reducible assumption | with_reducible refine State.setImage_keeps ?_ | with_reducible refine Keeps.ite_ ?_ ?_

theorem State.blockErased_keeps {a₀ s : State} {b : Nat} (hk : Keeps a₀ s) :
    Keeps a₀ (State.blockErased s b) := by
  unfold State.blockErased
  try dsimp only
  repeat' first
    | with_reducible assumption | with_reducible refine State.dropRecord_keeps ?_
    | with_reducible refine State.setDictNum_keeps ?_ | with_reducible refine Keeps.ite_ ?_ ?_
    | fail_if_no_progress with_reducible refine Keeps.mk_ ?_ rfl rfl

theorem State.areaPut_keeps {a₀ s : State} {h : AreaBlock} {bs : List Byte} (hk : Keeps a₀ s) :
    Keeps a₀ (State.areaPut s h bs) := by
  unfold State.areaPut
  try dsimp only
  repeat' first
    | with_reducible assumption | with_reducible refine State.programUnits_keeps ?_ | with_reducible refine State.stat_keeps ?_
    | with_reducible refine Keeps.ite_ ?_ ?_ | fail_if_no_progress with_reducible refine Keeps.mk_ ?_ rfl rfl

theorem State.openBlock_keeps {a₀ s : State} {a : Nat} (hk : Keeps a₀ s) :
    Keeps a₀ (State.openBlock s a) := by
  unfold State.openBlock
  try dsimp only
  repeat' first
    | with_reducible assumption | with_reducible refine State.units_keeps ?_ | with_reducible refine State.blockErased_keeps ?_
    | with_reducible refine State.stat_keeps ?_ | with_reducible refine State.areaPut_keeps ?_
    | with_reducible refine Keeps.ite_ ?_ ?_ | (with_reducible refine Keeps.foldlP_ (fun t x ht => ?_) ?_ <;> try dsimp only)
    | (with_reducible refine Keeps.foldl_ (fun t x ht => ?_) ?_ <;> try dsimp only)
    | fail_if_no_progress with_reducible refine Keeps.mk_ ?_ rfl rfl | split

theorem State.logRoom_keeps {a₀ s : State} (hk : Keeps a₀ s) :
    Keeps a₀ (State.logRoom s) := by
  unfold State.logRoom
  try dsimp only
  repeat' first
    | with_reducible assumption | with_reducible refine State.openBlock_keeps ?_ | with_reducible refine State.erase_keeps ?_
    | with_reducible refine Keeps.ite_ ?_ ?_ | fail_if_no_progress with_reducible refine Keeps.mk_ ?_ rfl rfl | split

theorem State.drainBatch_keeps {a₀ s : State} (hk : Keeps a₀ s) :
    Keeps a₀ (State.drainBatch s) := by
  unfold State.drainBatch
  try dsimp only
  repeat' first
    | with_reducible assumption | with_reducible refine State.logRoom_keeps ?_ | with_reducible refine State.areaPut_keeps ?_
    | fail_if_no_progress with_reducible refine Keeps.mk_ ?_ rfl rfl | split

theorem State.drainLog_keeps {a₀ s : State} (hk : Keeps a₀ s) :
    Keeps a₀ (State.drainLog s) := by
  unfold State.drainLog
  try dsimp only
  repeat' first
    | with_reducible assumption | with_reducible refine State.drainBatch_keeps ?_ | with_reducible refine Keeps.ite_ ?_ ?_
    | (with_reducible refine Keeps.foldl_ (fun t x ht => ?_) ?_ <;> try dsimp only)

theorem State.logFault_keeps {a₀ s : State} {m : FaultMsg} (hk : Keeps a₀ s) :
    Keeps a₀ (State.logFault s m) := by
  unfold State.logFault
  try dsimp only
  repeat' first
    | with_reducible assumption | with_reducible refine State.drainLog_keeps ?_ | with_reducible refine Keeps.ite_ ?_ ?_
    | fail_if_no_progress with_reducible refine Keeps.mk_ ?_ rfl rfl

theorem State.canSend_keeps {a₀ s : State} {id : Nat} {payload : List Byte} (hk : Keeps a₀ s) :
    Keeps a₀ (State.canSend s id payload) := by
  unfold State.canSend
  try dsimp only
  repeat' first
    | with_reducible assumption | with_reducible refine State.stat_keeps ?_ | with_reducible refine State.emit_keeps ?_
    | with_reducible refine Keeps.ite_ ?_ ?_ | fail_if_no_progress with_reducible refine Keeps.mk_ ?_ rfl rfl

theorem State.eventFrame_keeps {a₀ s : State} {m : FaultMsg} (hk : Keeps a₀ s) :
    Keeps a₀ (State.eventFrame s m) := by
  unfold State.eventFrame
  try dsimp only
  repeat' first
    | with_reducible assumption | with_reducible refine State.stat_keeps ?_ | with_reducible refine State.canSend_keeps ?_
    | with_reducible refine Keeps.ite_ ?_ ?_ | fail_if_no_progress with_reducible refine Keeps.mk_ ?_ rfl rfl | split

theorem State.forward_keeps {a₀ s : State} {m : FaultMsg} (hk : Keeps a₀ s) :
    Keeps a₀ (State.forward s m) := by
  unfold State.forward
  try dsimp only
  repeat' first
    | with_reducible assumption | with_reducible refine State.logFault_keeps ?_ | with_reducible refine State.postEvent_keeps ?_
    | with_reducible refine State.eventFrame_keeps ?_ | with_reducible refine Keeps.ite_ ?_ ?_

theorem State.cxlFatal_keeps {a₀ s : State} {bit : Nat} (hk : Keeps a₀ s) :
    Keeps a₀ (State.cxlFatal s bit) := by
  unfold State.cxlFatal
  try dsimp only
  repeat' first
    | with_reducible assumption | with_reducible refine State.emit_keeps ?_
    | fail_if_no_progress with_reducible refine Keeps.mk_ ?_ rfl rfl

theorem State.enterSafe_keeps {a₀ s : State} {src : Nat} (hk : Keeps a₀ s) :
    Keeps a₀ (State.enterSafe s src) := by
  unfold State.enterSafe
  try dsimp only
  repeat' first
    | with_reducible assumption | with_reducible refine State.event_keeps ?_ | with_reducible refine State.setF_keeps ?_
    | with_reducible refine State.inhibitBoth_keeps ?_ | with_reducible refine State.retractBoth_keeps ?_
    | with_reducible refine State.cxlFatal_keeps ?_ | fail_if_no_progress with_reducible refine Keeps.mk_ ?_ rfl rfl

theorem State.sourceReset_keeps {a₀ s : State} {src : Nat} {sev : Nat} (hk : Keeps a₀ s) :
    Keeps a₀ (State.sourceReset s src sev) := by
  unfold State.sourceReset
  try dsimp only
  repeat' first
    | with_reducible assumption | with_reducible refine State.reactionReset_keeps ?_ | with_reducible refine Keeps.ite_ ?_ ?_
    | split

theorem State.testReset_keeps {a₀ s : State} {u : Nat} (hk : Keeps a₀ s) :
    Keeps a₀ (State.testReset s u) := by
  unfold State.testReset
  try dsimp only
  repeat' first
    | with_reducible assumption | with_reducible refine State.resetRegsOf_keeps ?_
    | with_reducible refine State.reactionReset_keeps ?_ | split

theorem State.testOver_keeps {a₀ s : State} {result : Nat} {detail : Nat} (hk : Keeps a₀ s) :
    Keeps a₀ (State.testOver s result detail) := by
  unfold State.testOver
  try dsimp only
  repeat' first
    | with_reducible assumption | with_reducible refine State.testReset_keeps ?_ | with_reducible refine State.setF_keeps ?_
    | (with_reducible refine Keeps.foldl_ (fun t x ht => ?_) ?_ <;> try dsimp only)
    | fail_if_no_progress with_reducible refine Keeps.mk_ ?_ rfl rfl | split

theorem State.abandonTest_keeps {a₀ s : State} (hk : Keeps a₀ s) :
    Keeps a₀ (State.abandonTest s) := by
  unfold State.abandonTest
  try dsimp only
  repeat' first
    | with_reducible assumption | with_reducible refine State.testOver_keeps ?_ | with_reducible refine Keeps.ite_ ?_ ?_ | split

theorem State.react_keeps {a₀ s : State} {src : Nat} (hk : Keeps a₀ s) :
    Keeps a₀ (State.react s src) := by
  unfold State.react
  try dsimp only
  repeat' first
    | with_reducible assumption | with_reducible refine State.setF_keeps ?_ | with_reducible refine State.stat_keeps ?_
    | with_reducible refine State.enterSafe_keeps ?_ | with_reducible refine State.sourceReset_keeps ?_
    | with_reducible refine State.abandonTest_keeps ?_ | with_reducible refine Keeps.ite_ ?_ ?_
    | fail_if_no_progress with_reducible refine Keeps.mk_ ?_ rfl rfl | split

theorem State.captureMarked_keeps {a₀ s : State} {m : FaultMsg} (hk : Keeps a₀ s) :
    Keeps a₀ (State.captureMarked s m) := by
  unfold State.captureMarked
  try dsimp only
  repeat' first
    | with_reducible assumption | with_reducible refine State.setF_keeps ?_

theorem State.arrive_keeps {a₀ s : State} {m : FaultMsg} (hk : Keeps a₀ s) :
    Keeps a₀ (State.arrive s m) := by
  unfold State.arrive
  try dsimp only
  repeat' first
    | with_reducible assumption | with_reducible refine State.captureMarked_keeps ?_
    | with_reducible refine State.bumpF_keeps ?_ | with_reducible refine State.setSticky_keeps ?_
    | with_reducible refine State.forward_keeps ?_ | with_reducible refine State.react_keeps ?_
    | with_reducible refine Keeps.ite_ ?_ ?_ | fail_if_no_progress with_reducible refine Keeps.mk_ ?_ rfl rfl

theorem State.drain_keeps {a₀ s : State} {n : Nat} (hk : Keeps a₀ s) :
    Keeps a₀ (State.drain s n) := by
  induction n generalizing s with
  | zero =>
    unfold State.drain
    try dsimp only
    repeat' first
      | with_reducible assumption | with_reducible refine State.arrive_keeps ?_
      | fail_if_no_progress with_reducible refine Keeps.mk_ ?_ rfl rfl | split
  | succ m_ ih =>
    unfold State.drain
    try dsimp only
    repeat' first
      | with_reducible assumption | with_reducible refine ih ?_ | with_reducible refine State.arrive_keeps ?_
      | fail_if_no_progress with_reducible refine Keeps.mk_ ?_ rfl rfl | split

theorem State.settle_keeps {a₀ s : State} (hk : Keeps a₀ s) :
    Keeps a₀ (State.settle s) := by
  unfold State.settle
  try dsimp only
  repeat' first
    | with_reducible assumption | with_reducible refine State.drain_keeps ?_

theorem State.raise_keeps {a₀ s : State} {src : Nat} {kind : Nat} {addr : Nat} (hk : Keeps a₀ s) :
    Keeps a₀ (State.raise s src kind addr) := by
  unfold State.raise
  try dsimp only
  repeat' first
    | with_reducible assumption | with_reducible refine State.send_keeps ?_ | with_reducible refine State.settle_keeps ?_

theorem State.raiseMotion_keeps {a₀ s : State} {src : Nat} {kind : Nat} {addr : Nat} (hk : Keeps a₀ s) :
    Keeps a₀ (State.raiseMotion s src kind addr) := by
  unfold State.raiseMotion
  try dsimp only
  repeat' first
    | with_reducible assumption | with_reducible refine State.sendMotion_keeps ?_ | with_reducible refine State.settle_keeps ?_

theorem State.spoilUnits_keeps {a₀ s : State} {us : List Nat} (hk : Keeps a₀ s) :
    Keeps a₀ (State.spoilUnits s us) := by
  unfold State.spoilUnits
  try dsimp only
  repeat' first
    | with_reducible assumption | with_reducible refine State.units_keeps ?_
    | (with_reducible refine Keeps.foldl_ (fun t x ht => ?_) ?_ <;> try dsimp only)
    | fail_if_no_progress with_reducible refine Keeps.mk_ ?_ rfl rfl

theorem State.flashResult_keeps {a₀ s : State} {op : Nat} {result : Nat} {pulses : Nat} (hk : Keeps a₀ s) :
    Keeps a₀ (State.flashResult s op result pulses) := by
  unfold State.flashResult
  try dsimp only
  repeat' first
    | with_reducible assumption | with_reducible refine State.setF_keeps ?_

theorem State.moveRecord_keeps {a₀ s : State} {r : AreaRecord} (hk : Keeps a₀ s) :
    Keeps a₀ (State.moveRecord s r) := by
  unfold State.moveRecord
  try dsimp only
  repeat' first
    | with_reducible assumption | with_reducible refine State.units_keeps ?_ | with_reducible refine State.areaPut_keeps ?_
    | with_reducible refine Keeps.ite_ ?_ ?_ | fail_if_no_progress with_reducible refine Keeps.mk_ ?_ rfl rfl | split

theorem State.moveLive_keeps {a₀ s : State} {b : Nat} (hk : Keeps a₀ s) :
    Keeps a₀ (State.moveLive s b) := by
  unfold State.moveLive
  try dsimp only
  repeat' first
    | with_reducible assumption | with_reducible refine State.moveRecord_keeps ?_
    | (with_reducible refine Keeps.foldl_ (fun t x ht => ?_) ?_ <;> try dsimp only)

theorem State.reclaim_keeps {a₀ s : State} (hk : Keeps a₀ s) :
    Keeps a₀ (State.reclaim s) := by
  unfold State.reclaim
  try dsimp only
  repeat' first
    | with_reducible assumption | with_reducible refine State.moveLive_keeps ?_
    | with_reducible refine State.blockErased_keeps ?_ | with_reducible refine State.stat_keeps ?_
    | with_reducible refine Keeps.ite_ ?_ ?_ | split

theorem State.roomFor_keeps {a₀ s : State} {n : Nat} {fuel : Nat} (hk : Keeps a₀ s) :
    Keeps a₀ (State.roomFor s n fuel) := by
  induction fuel generalizing s with
  | zero =>
    unfold State.roomFor
    try dsimp only
    repeat' first
      | with_reducible assumption | with_reducible refine State.openBlock_keeps ?_
      | with_reducible refine State.reclaim_keeps ?_ | with_reducible refine Keeps.ite_ ?_ ?_ | split
  | succ m_ ih =>
    unfold State.roomFor
    try dsimp only
    repeat' first
      | with_reducible assumption | with_reducible refine ih ?_ | with_reducible refine State.openBlock_keeps ?_
      | with_reducible refine State.reclaim_keeps ?_ | with_reducible refine Keeps.ite_ ?_ ?_ | split

theorem State.tellFull_keeps {a₀ s : State} {was : Bool} {a : Nat} (hk : Keeps a₀ s) :
    Keeps a₀ (State.tellFull s was a) := by
  unfold State.tellFull
  try dsimp only
  repeat' first
    | with_reducible assumption | with_reducible refine State.raise_keeps ?_ | with_reducible refine Keeps.ite_ ?_ ?_

theorem State.appendRecord_keeps {a₀ s : State} {idx : Nat} {sub : Nat} {bs : List Byte} (hk : Keeps a₀ s) :
    Keeps a₀ (State.appendRecord s idx sub bs) := by
  unfold State.appendRecord
  try dsimp only
  repeat' first
    | with_reducible assumption | with_reducible refine State.roomFor_keeps ?_ | with_reducible refine State.areaPut_keeps ?_
    | with_reducible refine State.tellFull_keeps ?_ | fail_if_no_progress with_reducible refine Keeps.mk_ ?_ rfl rfl | split

theorem State.storeValue_keeps {a₀ s : State} {idx sub : Nat} {bs : List Byte} (h : Keeps a₀ s) :
    Keeps a₀ (State.storeValue s idx sub bs) := State.appendRecord_keeps (h.bank3_ (fun _ => DictWf.put _ _ _ _ _))

theorem State.markBad_keeps {a₀ s : State} {block : Nat} (hk : Keeps a₀ s) :
    Keeps a₀ (State.markBad s block) := by
  unfold State.markBad
  try dsimp only
  repeat' first
    | with_reducible assumption | with_reducible refine State.stat_keeps ?_ | with_reducible refine State.raise_keeps ?_
    | with_reducible refine State.setDictNum_keeps ?_ | with_reducible refine State.roomFor_keeps ?_
    | with_reducible refine State.moveLive_keeps ?_ | with_reducible refine State.tellFull_keeps ?_
    | with_reducible refine Keeps.ite_ ?_ ?_ | fail_if_no_progress with_reducible refine Keeps.mk_ ?_ rfl rfl | split

theorem State.stopFlash_keeps {a₀ s : State} (hk : Keeps a₀ s) :
    Keeps a₀ (State.stopFlash s) := by
  unfold State.stopFlash
  try dsimp only
  repeat' first
    | with_reducible assumption | with_reducible refine State.erase_keeps ?_ | with_reducible refine State.useFree_keeps ?_
    | with_reducible refine State.spoilUnits_keeps ?_ | with_reducible refine State.dropRecord_keeps ?_
    | with_reducible refine State.flashResult_keeps ?_ | with_reducible refine State.setF_keeps ?_
    | with_reducible refine Keeps.ite_ ?_ ?_ | fail_if_no_progress with_reducible refine Keeps.mk_ ?_ rfl rfl | split

theorem State.tryUnlock_keeps {a₀ s : State} {pw : List Byte} (hk : Keeps a₀ s) :
    Keeps a₀ (State.tryUnlock s pw).1 := by
  unfold State.tryUnlock
  try dsimp only
  repeat' first
    | with_reducible assumption | with_reducible refine State.setF_keeps ?_ | with_reducible refine State.raise_keeps ?_
    | with_reducible refine Keeps.ite_ ?_ ?_ | split

theorem State.setPassword_keeps {a₀ s : State} {pw : List Byte} (hk : Keeps a₀ s) :
    Keeps a₀ (State.setPassword s pw) := by
  unfold State.setPassword
  try dsimp only
  repeat' first
    | with_reducible assumption | with_reducible refine State.stat_keeps ?_
    | fail_if_no_progress with_reducible refine Keeps.mk_ ?_ rfl rfl

theorem State.relock_keeps {a₀ s : State} (hk : Keeps a₀ s) :
    Keeps a₀ (State.relock s) := by
  unfold State.relock
  try dsimp only
  repeat' first
    | with_reducible assumption | with_reducible refine State.setF_keeps ?_

theorem State.setBootRec_keeps {a₀ s : State} {b : BootRec} (hk : Keeps a₀ s) :
    Keeps a₀ (State.setBootRec s b) := by
  unfold State.setBootRec
  try dsimp only
  repeat' first
    | with_reducible assumption | fail_if_no_progress with_reducible refine Keeps.mk_ ?_ rfl rfl

theorem State.bootSelectImage_keeps {a₀ s : State} {i : SlateInputs} (hk : Keeps a₀ s) :
    Keeps a₀ (State.bootSelectImage s i) := by
  unfold State.bootSelectImage
  try dsimp only
  repeat' first
    | with_reducible assumption | with_reducible refine State.blockErased_keeps ?_ | with_reducible refine State.raise_keeps ?_
    | with_reducible refine State.markBad_keeps ?_ | with_reducible refine State.setReg_keeps ?_
    | with_reducible refine State.event_keeps ?_ | with_reducible refine State.setBootRec_keeps ?_
    | with_reducible refine State.setF_keeps ?_ | with_reducible refine Keeps.ite_ ?_ ?_
    | fail_if_no_progress with_reducible refine Keeps.mk_ ?_ rfl rfl

theorem State.confirmTrial_keeps {a₀ s : State} (hk : Keeps a₀ s) :
    Keeps a₀ (State.confirmTrial s) := by
  unfold State.confirmTrial
  try dsimp only
  repeat' first
    | with_reducible assumption | with_reducible refine State.setBootRec_keeps ?_ | with_reducible refine State.event_keeps ?_
    | with_reducible refine Keeps.ite_ ?_ ?_

theorem State.lifeCycleClear_keeps {a₀ s : State} {t : Nat} (h : Keeps a₀ s) : Keeps a₀ (State.lifeCycleClear s t) := by
  unfold State.lifeCycleClear
  dsimp only
  refine Keeps.ite_ ?_ ?_
  · refine Keeps.gen_ (x := (State.setF _ _ _).stat _ _ _) ?_ (fun hr => hr) (fun _ hd => hd) (fun _ _ => DictWf.nil _) (fun _ hl => hl)
      (fun hm => hm)
    exact State.stat_keeps (State.setF_keeps (Keeps.mk_ h rfl rfl))
  · exact State.stat_keeps (State.setF_keeps (Keeps.mk_ h rfl rfl))

theorem State.programRecord_keeps {a₀ s : State} (hk : Keeps a₀ s) :
    Keeps a₀ (State.programRecord s) := by
  unfold State.programRecord
  try dsimp only
  repeat' first
    | with_reducible assumption | with_reducible refine State.blockErased_keeps ?_ | with_reducible refine State.stat_keeps ?_
    | with_reducible refine State.programUnits_keeps ?_
    | (with_reducible refine Keeps.foldl_ (fun t x ht => ?_) ?_ <;> try dsimp only)

theorem State.lifeCycleRecord_keeps {a₀ s : State} {t : Nat} (hk : Keeps a₀ s) :
    Keeps a₀ (State.lifeCycleRecord s t) := by
  unfold State.lifeCycleRecord
  try dsimp only
  repeat' first
    | with_reducible assumption | with_reducible refine State.programRecord_keeps ?_ | with_reducible refine Keeps.ite_ ?_ ?_
    | fail_if_no_progress with_reducible refine Keeps.mk_ ?_ rfl rfl

theorem bitOf_testBit (v i : Nat) : bitOf v i = v.testBit i := by
  rw [Nat.testBit_eq_decide_div_mod_eq]; unfold bitOf
  by_cases h : v / 2 ^ i % 2 = 1 <;> simp [h]

/-- Blowing an unblown bit takes no blown one back. -/
theorem testBit_add_two_pow (f i j : Nat) (hi : f.testBit i = false) (hj : f.testBit j = true) : (f + 2 ^ i).testBit j = true := by
  rcases Nat.lt_trichotomy j i with h | h | h
  · rw [Nat.add_comm, Nat.testBit_two_pow_add_gt h]; exact hj
  · subst h; rw [hi] at hj; cases hj
  · obtain ⟨m, rfl⟩ : ∃ m, j = m + (i + 1) := ⟨j - (i + 1), by omega⟩
    rw [← Nat.testBit_div_two_pow] at hj ⊢
    have hq : f / 2 ^ i % 2 = 0 := by
      rw [Nat.testBit_eq_decide_div_mod_eq] at hi
      have := of_decide_eq_false hi
      omega
    have e : (f + 2 ^ i) / 2 ^ (i + 1) = f / 2 ^ (i + 1) := by
      rw [Nat.pow_succ, ← Nat.div_div_eq_div_mul, ← Nat.div_div_eq_div_mul, Nat.add_div_right _ (Nat.two_pow_pos i)]
      omega
    rw [e]; exact hj

theorem blowFuses_mono (f t n j : Nat) (hj : f.testBit j = true) : (blowFuses f t n).testBit j = true := by
  induction n generalizing f with
  | zero => exact hj
  | succ n ih =>
    unfold blowFuses
    split
    · exact hj
    · rename_i i hi
      have := List.find?_some hi
      refine ih _ (testBit_add_two_pow f i j ?_ hj)
      simpa [bitOf_testBit] using this

theorem blowFuses_getLsbD (f : BitVec 32) (t n i : Nat) (h : f.getLsbD i = true) :
    (BitVec.ofNat 32 (blowFuses f.toNat t n)).getLsbD i = true := by
  have hi : i < 32 := by
    by_contra hc
    rw [BitVec.getLsbD_of_ge _ _ (by omega)] at h
    cases h
  rw [BitVec.getLsbD_ofNat, decide_eq_true hi, Bool.true_and]
  exact blowFuses_mono _ _ _ _ h

theorem State.lifeCycleSteps_keeps {a₀ s : State} {t : Nat} {cut : Option Nat} (h : Keeps a₀ s) :
    Keeps a₀ (State.lifeCycleSteps s t cut) := by
  unfold State.lifeCycleSteps
  dsimp only
  have h1 : Keeps a₀ (s.lifeCycleClear t) := State.lifeCycleClear_keeps h
  split
  · exact h1.fuse_ (fun i hi => blowFuses_getLsbD _ _ _ _ hi)
  · exact State.lifeCycleRecord_keeps (h1.fuse_ (fun i hi => blowFuses_getLsbD _ _ _ _ hi))

theorem State.bootLifeCycle_keeps {a₀ s : State} {i : SlateInputs} (hk : Keeps a₀ s) :
    Keeps a₀ (State.bootLifeCycle s i) := by
  unfold State.bootLifeCycle
  try dsimp only
  repeat' first
    | with_reducible assumption | with_reducible refine State.raise_keeps ?_
    | with_reducible refine State.lifeCycleSteps_keeps ?_ | with_reducible refine State.setF_keeps ?_
    | with_reducible refine Keeps.ite_ ?_ ?_ | fail_if_no_progress with_reducible refine Keeps.mk_ ?_ rfl rfl

theorem State.ochreAbandon_keeps {a₀ s : State} {code : Nat} (hk : Keeps a₀ s) :
    Keeps a₀ (State.ochreAbandon s code) := by
  unfold State.ochreAbandon
  try dsimp only
  repeat' first
    | with_reducible assumption | with_reducible refine State.setF_keeps ?_ | with_reducible refine State.setStage_keeps ?_
    | with_reducible refine State.raise_keeps ?_ | fail_if_no_progress with_reducible refine Keeps.mk_ ?_ rfl rfl

theorem State.startBrake_keeps {a₀ s : State} (hk : Keeps a₀ s) :
    Keeps a₀ (State.startBrake s) := by
  unfold State.startBrake
  try dsimp only
  repeat' first
    | with_reducible assumption | with_reducible refine State.bridgeOff_keeps ?_ | with_reducible refine State.setF_keeps ?_
    | with_reducible refine Keeps.ite_ ?_ ?_ | fail_if_no_progress with_reducible refine Keeps.mk_ ?_ rfl rfl

theorem State.ochreFail_keeps {a₀ s : State} {code : Nat} (hk : Keeps a₀ s) :
    Keeps a₀ (State.ochreFail s code) := by
  unfold State.ochreFail
  try dsimp only
  repeat' first
    | with_reducible assumption | with_reducible refine State.unloadBoth_keeps ?_
    | with_reducible refine State.startBrake_keeps ?_ | with_reducible refine State.setStage_keeps ?_
    | with_reducible refine State.ochreAbandon_keeps ?_ | with_reducible refine Keeps.ite_ ?_ ?_
    | fail_if_no_progress with_reducible refine Keeps.mk_ ?_ rfl rfl

theorem State.bringUpFails_keeps {a₀ s : State} (hk : Keeps a₀ s) :
    Keeps a₀ (State.bringUpFails s) := by
  unfold State.bringUpFails
  try dsimp only
  repeat' first
    | with_reducible assumption | with_reducible refine State.setDictNum_keeps ?_ | with_reducible refine Keeps.ite_ ?_ ?_
    | fail_if_no_progress with_reducible refine Keeps.mk_ ?_ rfl rfl

theorem State.startFails_keeps {a₀ s : State} {code : Nat} (hk : Keeps a₀ s) :
    Keeps a₀ (State.startFails s code) := by
  unfold State.startFails
  try dsimp only
  repeat' first
    | with_reducible assumption | with_reducible refine State.ochreFail_keeps ?_
    | with_reducible refine State.bringUpFails_keeps ?_ | with_reducible refine Keeps.ite_ ?_ ?_

theorem State.backToSlate_keeps {a₀ s : State} {code : Nat} (hk : Keeps a₀ s) :
    Keeps a₀ (State.backToSlate s code) := by
  unfold State.backToSlate
  try dsimp only
  repeat' first
    | with_reducible assumption | with_reducible refine State.unloadBoth_keeps ?_ | with_reducible refine State.setF_keeps ?_
    | with_reducible refine State.setStage_keeps ?_ | fail_if_no_progress with_reducible refine Keeps.mk_ ?_ rfl rfl

theorem State.dictAfterReset_wf (s : State) (hb : DictWf s.factory.gradeX s.bank3) (hd : DictWf s.factory.gradeX s.dict) :
    DictWf s.factory.gradeX s.dictAfterReset := by
  unfold State.dictAfterReset
  refine DictWf.foldl_ (fun n a hn => ?_) hb
  split
  · rename_i v hv
    refine ⟨Assoc.rising_put _ _ _ hn.1, fun p hp => ?_⟩
    rcases Assoc.mem_put _ _ _ _ hp with h1 | h1
    · rw [h1]; exact hd.2 _ (Assoc.mem_of_find _ _ _ hv)
    · exact hn.2 p h1
  · exact DictWf.del _ _ _ hn

theorem State.coreReset_keeps {a₀ s : State} (h : Keeps a₀ s) : Keeps a₀ (State.coreReset s) := by
  unfold State.coreReset
  dsimp only
  refine Keeps.gen_ (x := (s.gateLow 0).gateLow 1) (State.gateLow_keeps (State.gateLow_keeps h)) ?_ ?_ (fun _ hb => hb) (fun _ hl => hl)
    (fun _ => ⟨rfl, rfl⟩)
  · exact RegsWf.foldl_ (fun n u hn => by
      split
      · exact hn
      · exact RegsWf.reset _ _ _ hn)
  · exact fun hb hd => State.dictAfterReset_wf _ hb hd

theorem State.intoReset_keeps {a₀ s : State} (hk : Keeps a₀ s) :
    Keeps a₀ (State.intoReset s) := by
  unfold State.intoReset
  try dsimp only
  repeat' first
    | with_reducible assumption | with_reducible refine State.motionLinkDown_keeps ?_
    | with_reducible refine State.stopFlash_keeps ?_ | with_reducible refine State.coreReset_keeps ?_
    | with_reducible refine State.bridgeOff_keeps ?_ | with_reducible refine Keeps.ite_ ?_ ?_
    | fail_if_no_progress with_reducible refine Keeps.mk_ ?_ rfl rfl

theorem State.warmReset_keeps {a₀ s : State} {cause : FieldRef} (hk : Keeps a₀ s) :
    Keeps a₀ (State.warmReset s cause) := by
  unfold State.warmReset
  try dsimp only
  repeat' first
    | with_reducible assumption | with_reducible refine State.intoReset_keeps ?_ | with_reducible refine State.setF_keeps ?_

theorem State.powerOnReset_keeps {a₀ s : State} {vddAo : Bool} {cause : FieldRef} (h : Keeps a₀ s) :
    Keeps a₀ (State.powerOnReset s vddAo cause) := by
  unfold State.powerOnReset
  dsimp only
  have hs := State.intoReset_keeps h
  repeat' first
    | with_reducible assumption | with_reducible refine State.setF_keeps ?_ | with_reducible refine State.setReg_keeps ?_
    | with_reducible refine Keeps.ite_ ?_ ?_
    | refine Keeps.gen_ (x := State.intoReset _) ?_
        (fun hr => RegsWf.reset _ _ _ (RegsWf.reset _ _ _ (RegsWf.filter _ _ hr))) (fun hb _ => hb) (fun _ hb => hb) (fun _ hl => hl)
        (fun hm => hm)

theorem State.startInit_keeps {a₀ s : State} (hk : Keeps a₀ s) :
    Keeps a₀ (State.startInit s) := by
  unfold State.startInit
  try dsimp only
  repeat' first
    | with_reducible assumption | with_reducible refine State.setF_keeps ?_ | with_reducible refine State.initBudget_keeps ?_

theorem State.slateFail_keeps {a₀ s : State} {code : Nat} (hk : Keeps a₀ s) :
    Keeps a₀ (State.slateFail s code) := by
  unfold State.slateFail
  try dsimp only
  repeat' first
    | with_reducible assumption | with_reducible refine State.intoReset_keeps ?_ | with_reducible refine State.setF_keeps ?_
    | fail_if_no_progress with_reducible refine Keeps.mk_ ?_ rfl rfl

theorem State.applyUnits_keeps {a₀ s : State} {us : List Nat} (hk : Keeps a₀ s) :
    Keeps a₀ (State.applyUnits s us) := by
  unfold State.applyUnits
  try dsimp only
  repeat' first
    | with_reducible assumption | with_reducible refine State.applyUnit_keeps ?_
    | (with_reducible refine Keeps.foldl_ (fun t x ht => ?_) ?_ <;> try dsimp only)

theorem State.linkUp_keeps {a₀ s : State} (hk : Keeps a₀ s) :
    Keeps a₀ (State.linkUp s) := by
  unfold State.linkUp
  try dsimp only
  repeat' first
    | with_reducible assumption | with_reducible refine State.setF_keeps ?_ | with_reducible refine State.settle_keeps ?_
    | fail_if_no_progress with_reducible refine Keeps.mk_ ?_ rfl rfl

theorem State.slateSteps89_keeps {a₀ s : State} {i : SlateInputs} (hk : Keeps a₀ s) :
    Keeps a₀ (State.slateSteps89 s i) := by
  unfold State.slateSteps89
  try dsimp only
  repeat' first
    | with_reducible assumption | with_reducible refine State.slateFail_keeps ?_ | with_reducible refine State.setF_keeps ?_
    | with_reducible refine State.startInit_keeps ?_ | with_reducible refine State.applyUnits_keeps ?_
    | with_reducible refine Keeps.ite_ ?_ ?_ | (with_reducible refine Keeps.foldl_ (fun t x ht => ?_) ?_ <;> try dsimp only)
    | fail_if_no_progress with_reducible refine Keeps.mk_ ?_ rfl rfl

theorem State.fltInhibit_keeps {a₀ s : State} {k : Nat} (hk : Keeps a₀ s) :
    Keeps a₀ (State.fltInhibit s k) := by
  unfold State.fltInhibit
  try dsimp only
  repeat' first
    | with_reducible assumption | with_reducible refine State.inhibit_keeps ?_ | with_reducible refine Keeps.ite_ ?_ ?_

theorem State.slateSteps67_keeps {a₀ s : State} {i : SlateInputs} (hk : Keeps a₀ s) :
    Keeps a₀ (State.slateSteps67 s i) := by
  unfold State.slateSteps67
  try dsimp only
  repeat' first
    | with_reducible assumption | with_reducible refine State.bootSelectImage_keeps ?_
    | with_reducible refine State.slateFail_keeps ?_ | with_reducible refine State.applyUnits_keeps ?_
    | with_reducible refine State.uninhibitBoth_keeps ?_ | with_reducible refine State.inhibitBoth_keeps ?_
    | with_reducible refine State.fltInhibit_keeps ?_ | with_reducible refine State.linkUp_keeps ?_
    | with_reducible refine State.slateSteps89_keeps ?_ | with_reducible refine Keeps.ite_ ?_ ?_
    | fail_if_no_progress with_reducible refine Keeps.mk_ ?_ rfl rfl

theorem State.slateSteps45_keeps {a₀ s : State} {i : SlateInputs} (hk : Keeps a₀ s) :
    Keeps a₀ (State.slateSteps45 s i) := by
  unfold State.slateSteps45
  try dsimp only
  repeat' first
    | with_reducible assumption | with_reducible refine State.setF_keeps ?_ | with_reducible refine State.slateFail_keeps ?_
    | with_reducible refine State.slateSteps67_keeps ?_ | with_reducible refine Keeps.ite_ ?_ ?_

theorem State.slateRun_keeps {a₀ s : State} {i : SlateInputs} (hk : Keeps a₀ s) :
    Keeps a₀ (State.slateRun s i) := by
  unfold State.slateRun
  try dsimp only
  repeat' first
    | with_reducible assumption | with_reducible refine State.setF_keeps ?_ | with_reducible refine State.slateFail_keeps ?_
    | with_reducible refine State.bootLifeCycle_keeps ?_ | with_reducible refine State.slateSteps45_keeps ?_
    | with_reducible refine Keeps.ite_ ?_ ?_ | fail_if_no_progress with_reducible refine Keeps.mk_ ?_ rfl rfl

theorem State.clockFires_keeps {a₀ s : State} {src : Nat} (hk : Keeps a₀ s) :
    Keeps a₀ (State.clockFires s src) := by
  unfold State.clockFires
  try dsimp only
  repeat' first
    | with_reducible assumption | with_reducible refine State.inhibitBoth_keeps ?_ | with_reducible refine State.raise_keeps ?_
    | with_reducible refine Keeps.ite_ ?_ ?_

theorem execClockMonitorGate_keeps {a₀ s : State} {out : List Nat} {gated : List Nat} (hk : Keeps a₀ s) :
    ∃ u₀, (execClockMonitorGate out gated s) = .next u₀ ∧ Keeps a₀ u₀ := by
  unfold execClockMonitorGate
  refine ⟨_, rfl, ?_⟩
  try dsimp only
  repeat' first
    | with_reducible assumption | with_reducible refine State.clockFires_keeps ?_
    | (with_reducible refine Keeps.foldlP_ (fun t x ht => ?_) ?_ <;> try dsimp only)
    | (with_reducible refine Keeps.foldl_ (fun t x ht => ?_) ?_ <;> try dsimp only)
    | fail_if_no_progress with_reducible refine Keeps.mk_ ?_ rfl rfl

theorem State.tintRecord_keeps {a₀ s : State} {n : Nat} {issued : Nat} {left : Nat} (hk : Keeps a₀ s) :
    Keeps a₀ (State.tintRecord s n issued left) := by
  unfold State.tintRecord
  try dsimp only
  repeat' first
    | with_reducible assumption | with_reducible refine State.setF_keeps ?_ | with_reducible refine State.bumpF_keeps ?_
    | with_reducible refine Keeps.ite_ ?_ ?_

theorem execTintPeriod_keeps {a₀ s : State} {firmware : Nat} {upset : Option (Nat × Nat)} (hk : Keeps a₀ s) :
    ∃ u₀, (execTintPeriod firmware upset s) = .next u₀ ∧ Keeps a₀ u₀ := by
  unfold execTintPeriod
  refine ⟨_, rfl, ?_⟩
  try dsimp only
  repeat' first
    | with_reducible assumption | with_reducible refine State.charge_keeps ?_ | with_reducible refine State.tintRecord_keeps ?_
    | with_reducible refine State.raise_keeps ?_ | with_reducible refine Keeps.ite_ ?_ ?_
    | (with_reducible refine Keeps.foldlP_ (fun t x ht => ?_) ?_ <;> try dsimp only)
    | (with_reducible refine Keeps.foldl_ (fun t x ht => ?_) ?_ <;> try dsimp only)
    | fail_if_no_progress with_reducible refine Keeps.mk_ ?_ rfl rfl | split

theorem State.bgCharge_keeps {a₀ s : State} {k : Nat} {wedges : Nat} (hk : Keeps a₀ s) :
    Keeps a₀ (State.bgCharge s k wedges) := by
  unfold State.bgCharge
  try dsimp only
  repeat' first
    | with_reducible assumption | with_reducible refine Keeps.ite_ ?_ ?_
    | fail_if_no_progress with_reducible refine Keeps.mk_ ?_ rfl rfl

theorem State.bgHold_keeps {a₀ s : State} {k : Nat} (hk : Keeps a₀ s) :
    Keeps a₀ (State.bgHold s k) := by
  unfold State.bgHold
  try dsimp only
  repeat' first
    | with_reducible assumption | fail_if_no_progress with_reducible refine Keeps.mk_ ?_ rfl rfl

theorem State.indexPasses_keeps {a₀ s : State} {k : Nat} (hk : Keeps a₀ s) :
    Keeps a₀ (State.indexPasses s k) := by
  unfold State.indexPasses
  try dsimp only
  repeat' first
    | with_reducible assumption | with_reducible refine State.setF_keeps ?_ | with_reducible refine State.bumpF_keeps ?_
    | with_reducible refine Keeps.ite_ ?_ ?_ | fail_if_no_progress with_reducible refine Keeps.mk_ ?_ rfl rfl

theorem execFloorRecompute_keeps {a₀ s : State} {k : Nat} {milliRevs : Nat} (hk : Keeps a₀ s) :
    ∃ u₀, (execFloorRecompute k milliRevs s) = .next u₀ ∧ Keeps a₀ u₀ := by
  unfold execFloorRecompute
  refine ⟨_, rfl, ?_⟩
  try dsimp only
  repeat' first
    | with_reducible assumption | with_reducible refine State.raise_keeps ?_ | with_reducible refine State.setF_keeps ?_
    | with_reducible refine Keeps.ite_ ?_ ?_ | split

theorem execHostShareSwitch_keeps {a₀ s : State} {c : Nat} {ran : Nat} {waits : Bool} (hk : Keeps a₀ s) :
    ∃ u₀, (execHostShareSwitch c ran waits s) = .next u₀ ∧ Keeps a₀ u₀ := by
  unfold execHostShareSwitch
  refine ⟨_, rfl, ?_⟩
  try dsimp only
  repeat' first
    | with_reducible assumption | with_reducible refine Keeps.ite_ ?_ ?_
    | fail_if_no_progress with_reducible refine Keeps.mk_ ?_ rfl rfl

theorem execMigrationCap_keeps {a₀ s : State} {ran : Nat} (hk : Keeps a₀ s) :
    ∃ u₀, (execMigrationCap ran s) = .next u₀ ∧ Keeps a₀ u₀ := by
  unfold execMigrationCap
  refine ⟨_, rfl, ?_⟩
  try dsimp only
  repeat' first
    | with_reducible assumption | with_reducible refine Keeps.ite_ ?_ ?_
    | fail_if_no_progress with_reducible refine Keeps.mk_ ?_ rfl rfl

theorem State.tick_keeps {a₀ s : State} (hk : Keeps a₀ s) :
    Keeps a₀ (State.tick s) := by
  unfold State.tick
  try dsimp only
  repeat' first
    | with_reducible assumption | with_reducible refine Keeps.ite_ ?_ ?_
    | fail_if_no_progress with_reducible refine Keeps.mk_ ?_ rfl rfl

end Sys2Proof.Machine
end

