-- ==== Sys2Proof/Laws/KeepsStore.lean ====
section
/-!
SUPPORT. What the operations of the block keep: buffer, queues, index, objects, write path, channel, servo and recovery.
-/
namespace Sys2Proof.Machine
open Sys2Proof

set_option maxRecDepth 20000
set_option linter.unusedTactic false
set_option linter.unreachableTactic false

theorem State.setDram_keeps {a₀ s : State} {m : List Host.Cell} (h : Keeps a₀ s) (hm : Memory.wf s.bmc.dram → Memory.wf m) :
    Keeps a₀ (s.setDram m) := h.dram_ hm

theorem State.class6Back_keeps {a₀ s : State} (hk : Keeps a₀ s) :
    Keeps a₀ (State.class6Back s) := by
  unfold State.class6Back
  try dsimp only
  repeat' first
    | with_reducible assumption | with_reducible refine State.applyEntry_keeps ?_ | with_reducible refine Keeps.ite_ ?_ ?_

theorem State.cxlResetComplete_keeps {a₀ s : State} (hk : Keeps a₀ s) :
    Keeps a₀ (State.cxlResetComplete s) := by
  unfold State.cxlResetComplete
  try dsimp only
  repeat' first
    | with_reducible assumption | fail_if_no_progress with_reducible refine Keeps.mk_ ?_ rfl rfl

theorem State.windowBack_keeps {a₀ s : State} (hk : Keeps a₀ s) :
    Keeps a₀ (State.windowBack s) := by
  unfold State.windowBack
  try dsimp only
  repeat' first
    | with_reducible assumption | with_reducible refine State.setF_keeps ?_ | with_reducible refine State.class6Back_keeps ?_
    | with_reducible refine State.event_keeps ?_ | with_reducible refine State.cxlResetComplete_keeps ?_
    | with_reducible refine Keeps.ite_ ?_ ?_

theorem State.blockDone_keeps {a₀ s : State} {b : Nat} (hk : Keeps a₀ s) :
    Keeps a₀ (State.blockDone s b) := by
  unfold State.blockDone
  try dsimp only
  repeat' first
    | with_reducible assumption | with_reducible refine State.charge_keeps ?_ | with_reducible refine State.windowBack_keeps ?_
    | with_reducible refine State.setF_keeps ?_ | with_reducible refine State.class6Back_keeps ?_
    | with_reducible refine State.applyEntry_keeps ?_ | with_reducible refine Keeps.ite_ ?_ ?_
    | fail_if_no_progress with_reducible refine Keeps.mk_ ?_ rfl rfl

theorem State.initFor_keeps {a₀ s : State} {l : Nat} (hk : Keeps a₀ s) :
    Keeps a₀ (State.initFor s l) := by
  unfold State.initFor
  try dsimp only
  repeat' first
    | with_reducible assumption | with_reducible refine State.blockDone_keeps ?_ | with_reducible refine Keeps.ite_ ?_ ?_

theorem State.initRange_keeps {a₀ s : State} {a : Nat} {n : Nat} (hk : Keeps a₀ s) :
    Keeps a₀ (State.initRange s a n) := by
  unfold State.initRange
  try dsimp only
  repeat' first
    | with_reducible assumption | with_reducible refine State.initFor_keeps ?_
    | (with_reducible refine Keeps.foldl_ (fun t x ht => ?_) ?_ <;> try dsimp only)

theorem State.queueRepair_keeps {a₀ s : State} {l : Nat} (hk : Keeps a₀ s) :
    Keeps a₀ (State.queueRepair s l) := by
  unfold State.queueRepair
  try dsimp only
  repeat' first
    | with_reducible assumption | with_reducible refine State.bumpF_keeps ?_ | with_reducible refine State.raise_keeps ?_
    | with_reducible refine State.setF_keeps ?_ | with_reducible refine Keeps.ite_ ?_ ?_
    | fail_if_no_progress with_reducible refine Keeps.mk_ ?_ rfl rfl

theorem State.countCorrected_keeps {a₀ s : State} {l : Nat} (hk : Keeps a₀ s) :
    Keeps a₀ (State.countCorrected s l) := by
  unfold State.countCorrected
  try dsimp only
  repeat' first
    | with_reducible assumption | with_reducible refine State.bumpF_keeps ?_ | with_reducible refine State.raise_keeps ?_
    | with_reducible refine State.stat_keeps ?_ | with_reducible refine Keeps.ite_ ?_ ?_
    | fail_if_no_progress with_reducible refine Keeps.mk_ ?_ rfl rfl

theorem State.countUncorrected_keeps {a₀ s : State} {l : Nat} {type : Nat} (hk : Keeps a₀ s) :
    Keeps a₀ (State.countUncorrected s l type) := by
  unfold State.countUncorrected
  try dsimp only
  repeat' first
    | with_reducible assumption | with_reducible refine State.bumpF_keeps ?_ | with_reducible refine State.setF_keeps ?_
    | with_reducible refine State.raise_keeps ?_

theorem State.readEcc_keeps {a₀ s : State} {a : Nat} {n : Nat} (hk : Keeps a₀ s) :
    Keeps a₀ (State.readEcc s a n) := by
  unfold State.readEcc
  try dsimp only
  repeat' first
    | with_reducible assumption | with_reducible refine State.countCorrected_keeps ?_
    | with_reducible refine State.queueRepair_keeps ?_ | with_reducible refine State.countUncorrected_keeps ?_
    | with_reducible refine State.initRange_keeps ?_
    | (with_reducible refine Keeps.foldl_ (fun t x ht => ?_) ?_ <;> try dsimp only) | split

theorem State.readSlot_keeps {a₀ s : State} {slot : Nat} (hk : Keeps a₀ s) :
    Keeps a₀ (State.readSlot s slot) := by
  unfold State.readSlot
  try dsimp only
  repeat' first
    | with_reducible assumption | with_reducible refine State.readEcc_keeps ?_

theorem State.dramWrite_keeps {a₀ s : State} {a : Nat} {bs : List Byte} (h : Keeps a₀ s) : Keeps a₀ (s.dramWrite a bs) :=
  State.setF_keeps (h.dram_ (Memory.wf_putBytes _ _ _))

theorem State.hdmWrite_keeps {a₀ s : State} {x : Nat} {bs : List Byte} (hk : Keeps a₀ s) :
    Keeps a₀ (State.hdmWrite s x bs) := by
  unfold State.hdmWrite
  try dsimp only
  repeat' first
    | with_reducible assumption | with_reducible refine State.initRange_keeps ?_
    | with_reducible refine State.dramWrite_keeps ?_

theorem State.obtainLine_keeps {a₀ s : State} {held : List (Nat × List Byte)} {i : Nat} (hk : Keeps a₀ s) :
    Keeps a₀ (State.obtainLine s held i) := by
  unfold State.obtainLine
  try dsimp only
  repeat' first
    | with_reducible assumption | with_reducible refine State.emit_keeps ?_ | with_reducible refine State.hdmWrite_keeps ?_
    | with_reducible refine State.charge_keeps ?_ | with_reducible refine Keeps.ite_ ?_ ?_ | split

theorem State.obtain_keeps {a₀ s : State} {held : List (Nat × List Byte)} {x : Nat} {n : Nat} (hk : Keeps a₀ s) :
    Keeps a₀ (State.obtain s held x n) := by
  unfold State.obtain
  try dsimp only
  repeat' first
    | with_reducible assumption | with_reducible refine State.obtainLine_keeps ?_ | with_reducible refine State.readEcc_keeps ?_
    | (with_reducible refine Keeps.foldl_ (fun t x ht => ?_) ?_ <;> try dsimp only)

theorem State.putTile_keeps {a₀ s : State} {slot : Nat} {t : List Byte} (hk : Keeps a₀ s) :
    Keeps a₀ (State.putTile s slot t) := by
  unfold State.putTile
  try dsimp only
  repeat' first
    | with_reducible assumption | fail_if_no_progress with_reducible refine Keeps.mk_ ?_ rfl rfl

theorem State.freeTiles_keeps {a₀ s : State} {slots : List Nat} (hk : Keeps a₀ s) :
    Keeps a₀ (State.freeTiles s slots) := by
  unfold State.freeTiles
  try dsimp only
  repeat' first
    | with_reducible assumption | fail_if_no_progress with_reducible refine Keeps.mk_ ?_ rfl rfl

theorem State.tileFails_keeps {a₀ s : State} {slot : Nat} (hk : Keeps a₀ s) :
    Keeps a₀ (State.tileFails s slot) := by
  unfold State.tileFails
  try dsimp only
  repeat' first
    | with_reducible assumption | with_reducible refine State.bumpF_keeps ?_ | with_reducible refine State.setF_keeps ?_
    | with_reducible refine State.stat_keeps ?_ | with_reducible refine State.raise_keeps ?_
    | fail_if_no_progress with_reducible refine Keeps.mk_ ?_ rfl rfl

theorem State.obtainPieces_keeps {a₀ s : State} {ps : Pieces} {held : List (Nat × List Byte)} (hk : Keeps a₀ s) :
    Keeps a₀ (State.obtainPieces s ps held) := by
  unfold State.obtainPieces
  try dsimp only
  repeat' first
    | with_reducible assumption | with_reducible refine State.obtain_keeps ?_ | with_reducible refine Keeps.ite_ ?_ ?_
    | (with_reducible refine Keeps.foldlP_ (fun t x ht => ?_) ?_ <;> try dsimp only)
    | (with_reducible refine Keeps.foldl_ (fun t x ht => ?_) ?_ <;> try dsimp only)

theorem State.setQueue_keeps {a₀ s : State} {q : Queue} (hk : Keeps a₀ s) :
    Keeps a₀ (State.setQueue s q) := by
  unfold State.setQueue
  try dsimp only
  repeat' first
    | with_reducible assumption | fail_if_no_progress with_reducible refine Keeps.mk_ ?_ rfl rfl

theorem State.setRing_keeps {a₀ s : State} {r : CRing} (hk : Keeps a₀ s) :
    Keeps a₀ (State.setRing s r) := by
  unfold State.setRing
  try dsimp only
  repeat' first
    | with_reducible assumption | fail_if_no_progress with_reducible refine Keeps.mk_ ?_ rfl rfl

theorem State.setSlot_keeps {a₀ s : State} {x : Slot} (hk : Keeps a₀ s) :
    Keeps a₀ (State.setSlot s x) := by
  unfold State.setSlot
  try dsimp only
  repeat' first
    | with_reducible assumption | with_reducible refine Keeps.ite_ ?_ ?_
    | fail_if_no_progress with_reducible refine Keeps.mk_ ?_ rfl rfl

theorem State.setSlots_keeps {a₀ s : State} {l : List Slot} (hk : Keeps a₀ s) :
    Keeps a₀ (State.setSlots s l) := by
  unfold State.setSlots
  try dsimp only
  repeat' first
    | with_reducible assumption | with_reducible refine State.setF_keeps ?_
    | fail_if_no_progress with_reducible refine Keeps.mk_ ?_ rfl rfl

theorem State.dropSlot_keeps {a₀ s : State} {q : Nat} {t : Nat} (hk : Keeps a₀ s) :
    Keeps a₀ (State.dropSlot s q t) := by
  unfold State.dropSlot
  try dsimp only
  repeat' first
    | with_reducible assumption | with_reducible refine State.setSlots_keeps ?_

theorem State.holdContext_keeps {a₀ s : State} {q : Nat} {fetch : Nat} (hk : Keeps a₀ s) :
    Keeps a₀ (State.holdContext s q fetch) := by
  unfold State.holdContext
  try dsimp only
  repeat' first
    | with_reducible assumption | with_reducible refine State.charge_keeps ?_ | with_reducible refine State.setF_keeps ?_
    | with_reducible refine Keeps.ite_ ?_ ?_ | fail_if_no_progress with_reducible refine Keeps.mk_ ?_ rfl rfl

theorem State.touchContext_keeps {a₀ s : State} {q : Nat} (hk : Keeps a₀ s) :
    Keeps a₀ (State.touchContext s q) := by
  unfold State.touchContext
  try dsimp only
  repeat' first
    | with_reducible assumption | with_reducible refine State.holdContext_keeps ?_ | with_reducible refine State.bumpF_keeps ?_
    | with_reducible refine Keeps.ite_ ?_ ?_

theorem State.dropContext_keeps {a₀ s : State} {q : Nat} (hk : Keeps a₀ s) :
    Keeps a₀ (State.dropContext s q) := by
  unfold State.dropContext
  try dsimp only
  repeat' first
    | with_reducible assumption | with_reducible refine State.setF_keeps ?_
    | fail_if_no_progress with_reducible refine Keeps.mk_ ?_ rfl rfl

theorem State.queueError_keeps {a₀ s : State} {q : Queue} {code : Nat} {pos : Nat} (hk : Keeps a₀ s) :
    Keeps a₀ (State.queueError s q code pos) := by
  unfold State.queueError
  try dsimp only
  repeat' first
    | with_reducible assumption | with_reducible refine State.setQueue_keeps ?_ | with_reducible refine State.setF_keeps ?_
    | with_reducible refine State.stat_keeps ?_ | with_reducible refine State.raise_keeps ?_
    | with_reducible refine Keeps.ite_ ?_ ?_ | fail_if_no_progress with_reducible refine Keeps.mk_ ?_ rfl rfl

theorem State.takeTail_keeps {a₀ s : State} {qid : Nat} {tail : Nat} (hk : Keeps a₀ s) :
    Keeps a₀ (State.takeTail s qid tail) := by
  unfold State.takeTail
  try dsimp only
  repeat' first
    | with_reducible assumption | with_reducible refine State.touchContext_keeps ?_
    | with_reducible refine State.queueError_keeps ?_ | with_reducible refine State.setQueue_keeps ?_
    | with_reducible refine Keeps.ite_ ?_ ?_ | fail_if_no_progress with_reducible refine Keeps.mk_ ?_ rfl rfl | split

theorem State.mailboxTail_keeps {a₀ s : State} {qid : Nat} {tail : Option Nat} (hk : Keeps a₀ s) :
    Keeps a₀ (State.mailboxTail s qid tail) := by
  unfold State.mailboxTail
  try dsimp only
  repeat' first
    | with_reducible assumption | with_reducible refine State.raise_keeps ?_ | with_reducible refine State.setQueue_keeps ?_
    | with_reducible refine State.takeTail_keeps ?_ | with_reducible refine Keeps.ite_ ?_ ?_
    | fail_if_no_progress with_reducible refine Keeps.mk_ ?_ rfl rfl | split

theorem State.postNow_keeps {a₀ s : State} {r : CRing} {w : Waiting} (hk : Keeps a₀ s) :
    Keeps a₀ (State.postNow s r w) := by
  unfold State.postNow
  try dsimp only
  repeat' first
    | with_reducible assumption | with_reducible refine State.touchContext_keeps ?_
    | with_reducible refine State.ringWrite_keeps ?_ | with_reducible refine State.setRing_keeps ?_
    | with_reducible refine State.dropSlot_keeps ?_ | with_reducible refine State.setQueue_keeps ?_
    | with_reducible refine State.stat_keeps ?_ | with_reducible refine State.groupEvent_keeps ?_
    | with_reducible refine Keeps.ite_ ?_ ?_ | fail_if_no_progress with_reducible refine Keeps.mk_ ?_ rfl rfl | split

theorem State.post_keeps {a₀ s : State} {w : Waiting} (hk : Keeps a₀ s) :
    Keeps a₀ (State.post s w) := by
  unfold State.post
  try dsimp only
  repeat' first
    | with_reducible assumption | with_reducible refine State.dropSlot_keeps ?_ | with_reducible refine State.postNow_keeps ?_
    | with_reducible refine State.setRing_keeps ?_ | with_reducible refine State.setSlot_keeps ?_
    | with_reducible refine Keeps.ite_ ?_ ?_ | fail_if_no_progress with_reducible refine Keeps.mk_ ?_ rfl rfl | split

theorem State.abortMissed_keeps {a₀ s : State} {q : Nat} {t : Nat} {status : Nat} (hk : Keeps a₀ s) :
    Keeps a₀ (State.abortMissed s q t status) := by
  unfold State.abortMissed
  try dsimp only
  repeat' first
    | with_reducible assumption | with_reducible refine Keeps.ite_ ?_ ?_
    | fail_if_no_progress with_reducible refine Keeps.mk_ ?_ rfl rfl | split

theorem State.complete_keeps {a₀ s : State} {q : Nat} {t : Nat} {status : Nat} {result : Nat} (hk : Keeps a₀ s) :
    Keeps a₀ (State.complete s q t status result) := by
  unfold State.complete
  try dsimp only
  repeat' first
    | with_reducible assumption | with_reducible refine State.abortMissed_keeps ?_ | with_reducible refine State.post_keeps ?_

theorem State.pump_keeps {a₀ s : State} {fuel : Nat} {id : Nat} (hk : Keeps a₀ s) :
    Keeps a₀ (State.pump fuel s id) := by
  induction fuel generalizing s with
  | zero =>
    unfold State.pump
    try dsimp only
    repeat' first
      | with_reducible assumption | with_reducible refine State.setRing_keeps ?_
      | with_reducible refine State.postNow_keeps ?_ | with_reducible refine Keeps.ite_ ?_ ?_
      | fail_if_no_progress with_reducible refine Keeps.mk_ ?_ rfl rfl | split
  | succ m_ ih =>
    unfold State.pump
    try dsimp only
    repeat' first
      | with_reducible assumption | with_reducible refine ih ?_ | with_reducible refine State.setRing_keeps ?_
      | with_reducible refine State.postNow_keeps ?_ | with_reducible refine Keeps.ite_ ?_ ?_
      | fail_if_no_progress with_reducible refine Keeps.mk_ ?_ rfl rfl | split

theorem State.pumpAll_keeps {a₀ s : State} (hk : Keeps a₀ s) :
    Keeps a₀ (State.pumpAll s) := by
  unfold State.pumpAll
  try dsimp only
  repeat' first
    | with_reducible assumption | with_reducible refine State.pump_keeps ?_
    | (with_reducible refine Keeps.foldl_ (fun t x ht => ?_) ?_ <;> try dsimp only)

theorem State.releaseTags_keeps {a₀ s : State} {r : CRing} (hk : Keeps a₀ s) :
    Keeps a₀ (State.releaseTags s r) := by
  unfold State.releaseTags
  try dsimp only
  repeat' first
    | with_reducible assumption | with_reducible refine Keeps.ite_ ?_ ?_
    | fail_if_no_progress with_reducible refine Keeps.mk_ ?_ rfl rfl

theorem State.takeHead_keeps {a₀ s : State} {id : Nat} {head : Nat} (hk : Keeps a₀ s) :
    Keeps a₀ (State.takeHead s id head) := by
  unfold State.takeHead
  try dsimp only
  repeat' first
    | with_reducible assumption | with_reducible refine State.setRing_keeps ?_
    | with_reducible refine State.releaseTags_keeps ?_ | with_reducible refine State.pump_keeps ?_
    | fail_if_no_progress with_reducible refine Keeps.mk_ ?_ rfl rfl | split

theorem State.setMig_keeps {a₀ s : State} {m : Mig} (hk : Keeps a₀ s) :
    Keeps a₀ (State.setMig s m) := by
  unfold State.setMig
  try dsimp only
  repeat' first
    | with_reducible assumption | with_reducible refine State.setF_keeps ?_
    | fail_if_no_progress with_reducible refine Keeps.mk_ ?_ rfl rfl | split

theorem State.sendTo_keeps {a₀ s : State} {addr : List Byte} {type : Nat} {session : Nat} {pseq : Nat} {body : List Byte} (hk : Keeps a₀ s) :
    Keeps a₀ (State.sendTo s addr type session pseq body) := by
  unfold State.sendTo
  try dsimp only
  repeat' first
    | with_reducible assumption | with_reducible refine State.emit_keeps ?_ | with_reducible refine Keeps.ite_ ?_ ?_

theorem State.sendMsg_keeps {a₀ s : State} {slot : Nat} {type : Nat} {session : Nat} {pseq : Nat} {body : List Byte} (hk : Keeps a₀ s) :
    Keeps a₀ (State.sendMsg s slot type session pseq body) := by
  unfold State.sendMsg
  try dsimp only
  repeat' first
    | with_reducible assumption | with_reducible refine State.sendTo_keeps ?_

theorem State.sendClose_keeps {a₀ s : State} {slot : Nat} {session : Nat} {reason : Nat} (hk : Keeps a₀ s) :
    Keeps a₀ (State.sendClose s slot session reason) := by
  unfold State.sendClose
  try dsimp only
  repeat' first
    | with_reducible assumption | with_reducible refine State.sendMsg_keeps ?_

theorem State.endTx_keeps {a₀ s : State} {reason : Option Nat} (hk : Keeps a₀ s) :
    Keeps a₀ (State.endTx s reason) := by
  unfold State.endTx
  try dsimp only
  repeat' first
    | with_reducible assumption | with_reducible refine State.sendClose_keeps ?_ | with_reducible refine State.setMig_keeps ?_
    | with_reducible refine State.freeTiles_keeps ?_ | with_reducible refine Keeps.ite_ ?_ ?_
    | fail_if_no_progress with_reducible refine Keeps.mk_ ?_ rfl rfl | split

theorem State.dropStaleMig_keeps {a₀ s : State} (hk : Keeps a₀ s) :
    Keeps a₀ (State.dropStaleMig s) := by
  unfold State.dropStaleMig
  try dsimp only
  repeat' first
    | with_reducible assumption | with_reducible refine State.endTx_keeps ?_ | with_reducible refine Keeps.ite_ ?_ ?_ | split

theorem State.cancelSlot_keeps {a₀ s : State} {x : Slot} {status : Nat} (hk : Keeps a₀ s) :
    Keeps a₀ (State.cancelSlot s x status) := by
  unfold State.cancelSlot
  try dsimp only
  repeat' first
    | with_reducible assumption | with_reducible refine State.complete_keeps ?_ | with_reducible refine Keeps.ite_ ?_ ?_
    | fail_if_no_progress with_reducible refine Keeps.mk_ ?_ rfl rfl

theorem State.cancelQueue_keeps {a₀ s : State} {q : Nat} {status : Nat} {keep : Nat → Bool} (hk : Keeps a₀ s) :
    Keeps a₀ (State.cancelQueue s q status keep) := by
  unfold State.cancelQueue
  try dsimp only
  repeat' first
    | with_reducible assumption | with_reducible refine State.dropStaleMig_keeps ?_
    | with_reducible refine State.cancelSlot_keeps ?_
    | (with_reducible refine Keeps.foldl_ (fun t x ht => ?_) ?_ <;> try dsimp only)

theorem State.tearDown_keeps {a₀ s : State} (hk : Keeps a₀ s) :
    Keeps a₀ (State.tearDown s) := by
  unfold State.tearDown
  try dsimp only
  repeat' first
    | with_reducible assumption | with_reducible refine State.dropStaleMig_keeps ?_ | with_reducible refine State.setF_keeps ?_
    | fail_if_no_progress with_reducible refine Keeps.mk_ ?_ rfl rfl

theorem State.dropMailbox_keeps {a₀ s : State} {addr : Nat} (hk : Keeps a₀ s) :
    Keeps a₀ (State.dropMailbox s addr) := by
  unfold State.dropMailbox
  try dsimp only
  repeat' first
    | with_reducible assumption | with_reducible refine State.hccCount_keeps ?_
    | fail_if_no_progress with_reducible refine Keeps.mk_ ?_ rfl rfl

theorem State.placeMailbox_keeps {a₀ s : State} {q : Queue} {addr : Nat} (hk : Keeps a₀ s) :
    Keeps a₀ (State.placeMailbox s q addr) := by
  unfold State.placeMailbox
  try dsimp only
  repeat' first
    | with_reducible assumption | with_reducible refine State.setQueue_keeps ?_ | with_reducible refine State.setF_keeps ?_
    | with_reducible refine State.setDictNum_keeps ?_ | with_reducible refine State.raise_keeps ?_
    | with_reducible refine State.hccRead_keeps ?_ | with_reducible refine Keeps.ite_ ?_ ?_
    | fail_if_no_progress with_reducible refine Keeps.mk_ ?_ rfl rfl

theorem State.placeWaiting_keeps {a₀ s : State} {set : Nat} (hk : Keeps a₀ s) :
    Keeps a₀ (State.placeWaiting s set) := by
  unfold State.placeWaiting
  try dsimp only
  repeat' first
    | with_reducible assumption | with_reducible refine State.placeMailbox_keeps ?_ | with_reducible refine State.setF_keeps ?_
    | with_reducible refine Keeps.ite_ ?_ ?_ | (with_reducible refine Keeps.foldl_ (fun t x ht => ?_) ?_ <;> try dsimp only)
    | fail_if_no_progress with_reducible refine Keeps.mk_ ?_ rfl rfl | split

theorem State.disarm_keeps {a₀ s : State} {q : Queue} (hk : Keeps a₀ s) :
    Keeps a₀ (State.disarm s q) := by
  unfold State.disarm
  try dsimp only
  repeat' first
    | with_reducible assumption | with_reducible refine State.dropMailbox_keeps ?_
    | with_reducible refine State.setQueue_keeps ?_ | with_reducible refine State.placeWaiting_keeps ?_
    | with_reducible refine State.setF_keeps ?_ | fail_if_no_progress with_reducible refine Keeps.mk_ ?_ rfl rfl | split

theorem State.adminCreate_keeps {a₀ s : State} (hk : Keeps a₀ s) :
    Keeps a₀ (State.adminCreate s) := by
  unfold State.adminCreate
  try dsimp only
  repeat' first
    | with_reducible assumption | with_reducible refine State.setRing_keeps ?_ | with_reducible refine State.setQueue_keeps ?_
    | with_reducible refine State.holdContext_keeps ?_ | with_reducible refine State.setF_keeps ?_
    | with_reducible refine Keeps.ite_ ?_ ?_

theorem State.settleAdmin_keeps {a₀ s : State} (hk : Keeps a₀ s) :
    Keeps a₀ (State.settleAdmin s) := by
  unfold State.settleAdmin
  try dsimp only
  repeat' first
    | with_reducible assumption | with_reducible refine State.dropContext_keeps ?_
    | with_reducible refine State.adminCreate_keeps ?_ | with_reducible refine Keeps.ite_ ?_ ?_
    | fail_if_no_progress with_reducible refine Keeps.mk_ ?_ rfl rfl | split

theorem State.settleResets_keeps {a₀ s : State} (hk : Keeps a₀ s) :
    Keeps a₀ (State.settleResets s) := by
  unfold State.settleResets
  try dsimp only
  repeat' first
    | with_reducible assumption | with_reducible refine State.settleAdmin_keeps ?_
    | with_reducible refine State.complete_keeps ?_ | with_reducible refine State.disarm_keeps ?_
    | with_reducible refine State.dropContext_keeps ?_ | with_reducible refine State.setQueue_keeps ?_
    | with_reducible refine Keeps.ite_ ?_ ?_ | (with_reducible refine Keeps.foldl_ (fun t x ht => ?_) ?_ <;> try dsimp only)
    | fail_if_no_progress with_reducible refine Keeps.mk_ ?_ rfl rfl | split

theorem State.preampSet_keeps {a₀ s : State} {k : Nat} {addr : Nat} {data : Nat} {back : List Nat} (hk : Keeps a₀ s) :
    Keeps a₀ (State.preampSet s k addr data back) := by
  unfold State.preampSet
  try dsimp only
  repeat' first
    | with_reducible assumption | with_reducible refine State.preampWrite_keeps ?_ | with_reducible refine State.settle_keeps ?_

theorem State.train_keeps {a₀ s : State} {key : Nat} (hk : Keeps a₀ s) :
    Keeps a₀ (State.train s key) := by
  unfold State.train
  try dsimp only
  repeat' first
    | with_reducible assumption | with_reducible refine State.bgCharge_keeps ?_
    | fail_if_no_progress with_reducible refine Keeps.mk_ ?_ rfl rfl

theorem State.useSet_keeps {a₀ s : State} {k : Nat} {n : Nat} (hk : Keeps a₀ s) :
    Keeps a₀ (State.useSet s k n) := by
  unfold State.useSet
  try dsimp only
  repeat' first
    | with_reducible assumption | with_reducible refine State.setF_keeps ?_ | with_reducible refine State.setChn_keeps ?_
    | fail_if_no_progress with_reducible refine Keeps.mk_ ?_ rfl rfl | split

theorem State.loadTables_keeps {a₀ s : State} {k : Nat} {head : Nat} {zone : Nat} (hk : Keeps a₀ s) :
    Keeps a₀ (State.loadTables s k head zone) := by
  unfold State.loadTables
  try dsimp only
  repeat' first
    | with_reducible assumption | with_reducible refine State.train_keeps ?_ | with_reducible refine State.setChn_keeps ?_
    | with_reducible refine State.setPre_keeps ?_ | with_reducible refine State.useSet_keeps ?_
    | with_reducible refine Keeps.ite_ ?_ ?_ | fail_if_no_progress with_reducible refine Keeps.mk_ ?_ rfl rfl | split

theorem State.rescale_keeps {a₀ s : State} {k : Nat} (hk : Keeps a₀ s) :
    Keeps a₀ (State.rescale s k) := by
  unfold State.rescale
  try dsimp only
  repeat' first
    | with_reducible assumption | with_reducible refine State.setSrv_keeps ?_ | with_reducible refine State.setChn_keeps ?_
    | fail_if_no_progress with_reducible refine Keeps.mk_ ?_ rfl rfl

theorem State.usePitch_keeps {a₀ s : State} {k : Nat} {z : Zone} (hk : Keeps a₀ s) :
    Keeps a₀ (State.usePitch s k z) := by
  unfold State.usePitch
  try dsimp only
  repeat' first
    | with_reducible assumption | with_reducible refine State.applyEntry_keeps ?_ | with_reducible refine Keeps.ite_ ?_ ?_
    | (with_reducible refine Keeps.foldl_ (fun t x ht => ?_) ?_ <;> try dsimp only)
    | fail_if_no_progress with_reducible refine Keeps.mk_ ?_ rfl rfl

theorem State.useZone_keeps {a₀ s : State} {k : Nat} {psa : Nat} (hk : Keeps a₀ s) :
    Keeps a₀ (State.useZone s k psa) := by
  unfold State.useZone
  try dsimp only
  repeat' first
    | with_reducible assumption | with_reducible refine State.loadTables_keeps ?_ | with_reducible refine State.setF_keeps ?_
    | with_reducible refine State.rescale_keeps ?_ | with_reducible refine State.usePitch_keeps ?_ | split

theorem State.useIvory_keeps {a₀ s : State} {k : Nat} (hk : Keeps a₀ s) :
    Keeps a₀ (State.useIvory s k) := by
  unfold State.useIvory
  try dsimp only
  repeat' first
    | with_reducible assumption | with_reducible refine State.setF_keeps ?_ | with_reducible refine State.rescale_keeps ?_

theorem State.standOnTrack_keeps {a₀ s : State} {k : Nat} {h : Nat} {t : Nat} (hk : Keeps a₀ s) :
    Keeps a₀ (State.standOnTrack s k h t) := by
  unfold State.standOnTrack
  try dsimp only
  repeat' first
    | with_reducible assumption | with_reducible refine State.setF_keeps ?_ | with_reducible refine State.setSrv_keeps ?_
    | fail_if_no_progress with_reducible refine Keeps.mk_ ?_ rfl rfl | split

theorem State.standOn_keeps {a₀ s : State} {psa : Nat} (hk : Keeps a₀ s) :
    Keeps a₀ (State.standOn s psa) := by
  unfold State.standOn
  try dsimp only
  repeat' first
    | with_reducible assumption | with_reducible refine State.preampSet_keeps ?_ | with_reducible refine State.packLin_keeps ?_
    | with_reducible refine State.standOnTrack_keeps ?_ | with_reducible refine State.useZone_keeps ?_
    | with_reducible refine Keeps.ite_ ?_ ?_

theorem State.writeGap_keeps {a₀ s : State} {k : Nat} {psa : Nat} (hk : Keeps a₀ s) :
    Keeps a₀ (State.writeGap s k psa) := by
  unfold State.writeGap
  try dsimp only
  repeat' first
    | with_reducible assumption | with_reducible refine State.emit_keeps ?_ | split

theorem State.setVersion_keeps {a₀ s : State} {v : Version} (hk : Keeps a₀ s) :
    Keeps a₀ (State.setVersion s v) := by
  unfold State.setVersion
  try dsimp only
  repeat' first
    | with_reducible assumption | fail_if_no_progress with_reducible refine Keeps.mk_ ?_ rfl rfl

theorem State.dropVersion_keeps {a₀ s : State} {key : Nat} {ver : Nat} (hk : Keeps a₀ s) :
    Keeps a₀ (State.dropVersion s key ver) := by
  unfold State.dropVersion
  try dsimp only
  repeat' first
    | with_reducible assumption | fail_if_no_progress with_reducible refine Keeps.mk_ ?_ rfl rfl

theorem State.holdLookup_keeps {a₀ s : State} {x : Slot} {v : Version} (hk : Keeps a₀ s) :
    Keeps a₀ (State.holdLookup s x v) := by
  unfold State.holdLookup
  try dsimp only
  repeat' first
    | with_reducible assumption | with_reducible refine Keeps.ite_ ?_ ?_
    | fail_if_no_progress with_reducible refine Keeps.mk_ ?_ rfl rfl

theorem State.dropLookups_keeps {a₀ s : State} (hk : Keeps a₀ s) :
    Keeps a₀ (State.dropLookups s) := by
  unfold State.dropLookups
  try dsimp only
  repeat' first
    | with_reducible assumption | with_reducible refine State.freeTiles_keeps ?_ | with_reducible refine Keeps.ite_ ?_ ?_
    | fail_if_no_progress with_reducible refine Keeps.mk_ ?_ rfl rfl

theorem State.replay_keeps {a₀ s : State} {seq : Nat} {r : Rec} (hk : Keeps a₀ s) :
    Keeps a₀ (State.replay s seq r) := by
  unfold State.replay
  try dsimp only
  repeat' first
    | with_reducible assumption | with_reducible refine State.setVersion_keeps ?_
    | with_reducible refine State.dropVersion_keeps ?_ | with_reducible refine Keeps.ite_ ?_ ?_
    | fail_if_no_progress with_reducible refine Keeps.mk_ ?_ rfl rfl | split

theorem State.replayAll_keeps {a₀ s : State} {l : List (Nat × Rec)} (hk : Keeps a₀ s) :
    Keeps a₀ (State.replayAll s l) := by
  unfold State.replayAll
  try dsimp only
  repeat' first
    | with_reducible assumption | with_reducible refine State.replay_keeps ?_
    | (with_reducible refine Keeps.foldlP_ (fun t x ht => ?_) ?_ <;> try dsimp only)
    | (with_reducible refine Keeps.foldl_ (fun t x ht => ?_) ?_ <;> try dsimp only)

theorem State.setStream_keeps {a₀ s : State} {k : Nat} {x : Stream} (hk : Keeps a₀ s) :
    Keeps a₀ (State.setStream s k x) := by
  unfold State.setStream
  try dsimp only
  repeat' first
    | with_reducible assumption | with_reducible refine Keeps.ite_ ?_ ?_
    | fail_if_no_progress with_reducible refine Keeps.mk_ ?_ rfl rfl

theorem State.putSectorIn_keeps {a₀ s : State} {psa : Nat} {blk : List Byte} {first : Bool} {last : Bool} (hk : Keeps a₀ s) :
    Keeps a₀ (State.putSectorIn s psa blk first last) := by
  unfold State.putSectorIn
  try dsimp only
  repeat' first
    | with_reducible assumption | with_reducible refine State.recovered_keeps ?_ | with_reducible refine Keeps.ite_ ?_ ?_
    | fail_if_no_progress with_reducible refine Keeps.mk_ ?_ rfl rfl

theorem State.putSectors_keeps {a₀ s : State} {prev : Option Nat} {l : List (Nat × List Byte)} (hk : Keeps a₀ s) :
    Keeps a₀ (State.putSectors s prev l) := by
  induction l generalizing s prev with
  | nil =>
    unfold State.putSectors
    try dsimp only
    repeat' first
      | with_reducible assumption | with_reducible refine State.writeGap_keeps ?_
      | with_reducible refine State.standOn_keeps ?_ | with_reducible refine State.putSectorIn_keeps ?_
      | with_reducible refine Keeps.ite_ ?_ ?_ | refine Keeps.of_eq (by assumption) ?_ | split
  | cons y_ l_ ih =>
    unfold State.putSectors
    try dsimp only
    repeat' first
      | with_reducible assumption | with_reducible refine ih ?_ | with_reducible refine State.writeGap_keeps ?_
      | with_reducible refine State.standOn_keeps ?_ | with_reducible refine State.putSectorIn_keeps ?_
      | with_reducible refine Keeps.ite_ ?_ ?_ | refine Keeps.of_eq (by assumption) ?_ | split

theorem State.writeTiles_keeps {a₀ s : State} {l : List (Nat × List Byte)} (hk : Keeps a₀ s) :
    Keeps a₀ (State.writeTiles s l) := by
  unfold State.writeTiles
  try dsimp only
  repeat' first
    | with_reducible assumption | with_reducible refine State.putSectors_keeps ?_
    | fail_if_no_progress with_reducible refine Keeps.mk_ ?_ rfl rfl

theorem State.writeTile_keeps {a₀ s : State} {psa : Nat} {mk : Nat → List Byte} (hk : Keeps a₀ s) :
    Keeps a₀ (State.writeTile s psa mk) := by
  unfold State.writeTile
  try dsimp only
  repeat' first
    | with_reducible assumption | with_reducible refine State.writeTiles_keeps ?_

theorem State.closeStripe_keeps {a₀ s : State} {g : Nat} (hk : Keeps a₀ s) :
    Keeps a₀ (State.closeStripe s g) := by
  unfold State.closeStripe
  try dsimp only
  repeat' first
    | with_reducible assumption | with_reducible refine State.charge_keeps ?_ | with_reducible refine State.putSectors_keeps ?_
    | fail_if_no_progress with_reducible refine Keeps.mk_ ?_ rfl rfl

theorem State.closeStripes_keeps {a₀ s : State} (hk : Keeps a₀ s) :
    Keeps a₀ (State.closeStripes s) := by
  unfold State.closeStripes
  try dsimp only
  repeat' first
    | with_reducible assumption | with_reducible refine State.closeStripe_keeps ?_
    | with_reducible refine State.setStream_keeps ?_ | with_reducible refine Keeps.ite_ ?_ ?_
    | (with_reducible refine Keeps.foldl_ (fun t x ht => ?_) ?_ <;> try dsimp only)
    | fail_if_no_progress with_reducible refine Keeps.mk_ ?_ rfl rfl | split

theorem State.issue_keeps {a₀ s : State} {stream : Nat} {order : Nat} {body : Rec} (hk : Keeps a₀ s) :
    Keeps a₀ (State.issue s stream order body) := by
  unfold State.issue
  try dsimp only
  repeat' first
    | with_reducible assumption | fail_if_no_progress with_reducible refine Keeps.mk_ ?_ rfl rfl

theorem State.journalCheck_keeps {a₀ s : State} {k : Nat} (hk : Keeps a₀ s) :
    Keeps a₀ (State.journalCheck s k) := by
  unfold State.journalCheck
  try dsimp only
  repeat' first
    | with_reducible assumption | with_reducible refine State.setStream_keeps ?_ | with_reducible refine State.raise_keeps ?_
    | with_reducible refine Keeps.ite_ ?_ ?_ | fail_if_no_progress with_reducible refine Keeps.mk_ ?_ rfl rfl

theorem State.recordWritten_keeps {a₀ s : State} {w : WaitRec} (hk : Keeps a₀ s) :
    Keeps a₀ (State.recordWritten s w) := by
  unfold State.recordWritten
  try dsimp only
  repeat' first
    | with_reducible assumption | with_reducible refine State.freeTiles_keeps ?_
    | with_reducible refine State.setVersion_keeps ?_ | with_reducible refine Keeps.ite_ ?_ ?_
    | fail_if_no_progress with_reducible refine Keeps.mk_ ?_ rfl rfl | split

theorem State.writeJournal_keeps {a₀ s : State} {k : Nat} (hk : Keeps a₀ s) :
    Keeps a₀ (State.writeJournal s k) := by
  unfold State.writeJournal
  try dsimp only
  repeat' first
    | with_reducible assumption | with_reducible refine State.journalCheck_keeps ?_
    | with_reducible refine State.writeTile_keeps ?_ | with_reducible refine State.setStream_keeps ?_
    | with_reducible refine State.recordWritten_keeps ?_ | with_reducible refine State.charge_keeps ?_
    | (with_reducible refine Keeps.foldl_ (fun t x ht => ?_) ?_ <;> try dsimp only)
    | fail_if_no_progress with_reducible refine Keeps.mk_ ?_ rfl rfl | split

theorem State.freeLater_keeps {a₀ s : State} {seq : Nat} {psas : List Nat} (hk : Keeps a₀ s) :
    Keeps a₀ (State.freeLater s seq psas) := by
  unfold State.freeLater
  try dsimp only
  repeat' first
    | with_reducible assumption | with_reducible refine Keeps.ite_ ?_ ?_
    | fail_if_no_progress with_reducible refine Keeps.mk_ ?_ rfl rfl

theorem State.dropJob_keeps {a₀ s : State} {seq : Nat} (hk : Keeps a₀ s) :
    Keeps a₀ (State.dropJob s seq) := by
  unfold State.dropJob
  try dsimp only
  repeat' first
    | with_reducible assumption | with_reducible refine State.setChn_keeps ?_ | with_reducible refine State.freeTiles_keeps ?_
    | fail_if_no_progress with_reducible refine Keeps.mk_ ?_ rfl rfl

theorem State.dropOrphans_keeps {a₀ s : State} (hk : Keeps a₀ s) :
    Keeps a₀ (State.dropOrphans s) := by
  unfold State.dropOrphans
  try dsimp only
  repeat' first
    | with_reducible assumption | with_reducible refine State.dropJob_keeps ?_
    | (with_reducible refine Keeps.foldl_ (fun t x ht => ?_) ?_ <;> try dsimp only)

theorem State.retireSeg_keeps {a₀ s : State} {g : Seg} {seq : Nat} (hk : Keeps a₀ s) :
    Keeps a₀ (State.retireSeg s g seq) := by
  unfold State.retireSeg
  try dsimp only
  repeat' first
    | with_reducible assumption | with_reducible refine State.dropJob_keeps ?_ | with_reducible refine State.freeLater_keeps ?_
    | with_reducible refine State.freeTiles_keeps ?_ | with_reducible refine Keeps.ite_ ?_ ?_
    | fail_if_no_progress with_reducible refine Keeps.mk_ ?_ rfl rfl | split

theorem State.enterSegment_keeps {a₀ s : State} {key : Nat} {ver : Nat} {n : Nat} {tiles : Nat} {lastValid : Nat} {order : Nat} {slots : List Nat} (hk : Keeps a₀ s) :
    Keeps a₀ (State.enterSegment s key ver n tiles lastValid order slots) := by
  unfold State.enterSegment
  try dsimp only
  repeat' first
    | with_reducible assumption | with_reducible refine State.retireSeg_keeps ?_ | with_reducible refine State.issue_keeps ?_
    | with_reducible refine State.setVersion_keeps ?_ | with_reducible refine State.setChn_keeps ?_
    | with_reducible refine Keeps.ite_ ?_ ?_ | fail_if_no_progress with_reducible refine Keeps.mk_ ?_ rfl rfl | split

theorem State.readMedia_keeps {a₀ s : State} {psa : Nat} {tag : List Byte} (hk : Keeps a₀ s) :
    Keeps a₀ (State.readMedia s psa tag).1 := by
  unfold State.readMedia
  try dsimp only
  repeat' first
    | with_reducible assumption | with_reducible refine State.recovered_keeps ?_ | with_reducible refine State.raise_keeps ?_
    | with_reducible refine Keeps.ite_ ?_ ?_ | split

theorem State.readTile_keeps {a₀ s : State} {v : Version} {g : Seg} {t : Nat} (hk : Keeps a₀ s) :
    Keeps a₀ (State.readTile s v g t).1 := by
  unfold State.readTile
  try dsimp only
  repeat' first
    | with_reducible assumption | with_reducible refine State.readMedia_keeps ?_ | with_reducible refine State.readSlot_keeps ?_
    | with_reducible refine State.tileFails_keeps ?_ | with_reducible refine Keeps.ite_ ?_ ?_ | split

theorem State.readTiles_keeps {a₀ s : State} {v : Version} {g : Seg} {ts : List Nat} (hk : Keeps a₀ s) :
    Keeps a₀ (State.readTiles s v g ts).1 := by
  induction ts generalizing s with
  | nil =>
    unfold State.readTiles
    try dsimp only
    repeat' first
      | with_reducible assumption | with_reducible refine State.readTile_keeps ?_
      | with_reducible refine Keeps.ite_ ?_ ?_ | refine Keeps.of_eq (by assumption) ?_ | split
  | cons y_ l_ ih =>
    unfold State.readTiles
    try dsimp only
    repeat' first
      | with_reducible assumption | with_reducible refine ih ?_ | with_reducible refine State.readTile_keeps ?_
      | with_reducible refine Keeps.ite_ ?_ ?_ | refine Keeps.of_eq (by assumption) ?_ | split

theorem State.readSegs_keeps {a₀ s : State} {v : Version} {l : List Seg} {off : Nat} {n : Nat} {acc : List Byte} (hk : Keeps a₀ s) :
    Keeps a₀ (State.readSegs s v l off n acc).1 := by
  induction l generalizing s acc with
  | nil =>
    unfold State.readSegs
    try dsimp only
    repeat' first
      | with_reducible assumption | with_reducible refine State.readTiles_keeps ?_
      | with_reducible refine Keeps.ite_ ?_ ?_ | refine Keeps.of_eq (by assumption) ?_ | split
  | cons y_ l_ ih =>
    unfold State.readSegs
    try dsimp only
    repeat' first
      | with_reducible assumption | with_reducible refine ih ?_ | with_reducible refine State.readTiles_keeps ?_
      | with_reducible refine Keeps.ite_ ?_ ?_ | refine Keeps.of_eq (by assumption) ?_ | split

theorem State.readRange_keeps {a₀ s : State} {v : Version} {off : Nat} {n : Nat} (hk : Keeps a₀ s) :
    Keeps a₀ (State.readRange s v off n).1 := by
  unfold State.readRange
  try dsimp only
  repeat' first
    | with_reducible assumption | with_reducible refine State.readSegs_keeps ?_ | split

theorem State.dropOutcomes_keeps {a₀ s : State} (hk : Keeps a₀ s) :
    Keeps a₀ (State.dropOutcomes s) := by
  unfold State.dropOutcomes
  try dsimp only
  repeat' first
    | with_reducible assumption | fail_if_no_progress with_reducible refine Keeps.mk_ ?_ rfl rfl

theorem State.chargeReads_keeps {a₀ s : State} {c : Nat} {v : Version} {off : Nat} {n : Nat} (hk : Keeps a₀ s) :
    Keeps a₀ (State.chargeReads s c v off n) := by
  unfold State.chargeReads
  try dsimp only
  repeat' first
    | with_reducible assumption | with_reducible refine State.charge_keeps ?_

theorem State.finishOrDiscard_keeps {a₀ s : State} (hk : Keeps a₀ s) :
    Keeps a₀ (State.finishOrDiscard s) := by
  unfold State.finishOrDiscard
  try dsimp only
  repeat' first
    | with_reducible assumption | with_reducible refine State.setChn_keeps ?_ | with_reducible refine State.freeTiles_keeps ?_
    | with_reducible refine State.replayAll_keeps ?_ | with_reducible refine State.replay_keeps ?_
    | with_reducible refine State.setVersion_keeps ?_
    | (with_reducible refine Keeps.foldl_ (fun t x ht => ?_) ?_ <;> try dsimp only)
    | fail_if_no_progress with_reducible refine Keeps.mk_ ?_ rfl rfl | split

theorem State.endWith_keeps {a₀ s : State} {x : Slot} {status : Nat} (hk : Keeps a₀ s) :
    Keeps a₀ (State.endWith s x status) := by
  unfold State.endWith
  try dsimp only
  repeat' first
    | with_reducible assumption | with_reducible refine State.complete_keeps ?_

theorem State.settled_keeps {a₀ s : State} (hk : Keeps a₀ s) :
    Keeps a₀ (State.settled s) := by
  unfold State.settled
  try dsimp only
  repeat' first
    | with_reducible assumption | with_reducible refine State.settleResets_keeps ?_
    | with_reducible refine State.dropOrphans_keeps ?_ | with_reducible refine State.dropLookups_keeps ?_
    | with_reducible refine State.dropOutcomes_keeps ?_

theorem State.done_keeps {a₀ s : State} (hk : Keeps a₀ s) :
    ∃ u₀, (State.done s) = .next u₀ ∧ Keeps a₀ u₀ := by
  unfold State.done
  try dsimp only
  repeat' first
    | with_reducible refine Keeps.next_ ?_ | with_reducible refine Keeps.iteR_ ?_ ?_
    | with_reducible assumption | with_reducible refine State.settled_keeps ?_
    | split

theorem State.ingest_keeps {a₀ s : State} {hash : List Byte} {n : Nat} {len : Nat} {slots : List Nat} {data : List Byte} (hk : Keeps a₀ s) :
    Keeps a₀ (State.ingest s hash n len slots data) := by
  unfold State.ingest
  try dsimp only
  repeat' first
    | with_reducible assumption | with_reducible refine State.putTile_keeps ?_ | with_reducible refine Keeps.ite_ ?_ ?_
    | (with_reducible refine Keeps.foldl_ (fun t x ht => ?_) ?_ <;> try dsimp only)
    | fail_if_no_progress with_reducible refine Keeps.mk_ ?_ rfl rfl

theorem State.putCommit_keeps {a₀ s : State} {x : Slot} {data : List Byte} (hk : Keeps a₀ s) :
    Keeps a₀ (State.putCommit s x data) := by
  unfold State.putCommit
  try dsimp only
  repeat' first
    | with_reducible assumption | with_reducible refine State.setSlot_keeps ?_ | with_reducible refine State.endWith_keeps ?_
    | with_reducible refine State.ingest_keeps ?_ | with_reducible refine State.charge_keeps ?_
    | with_reducible refine State.enterSegment_keeps ?_ | with_reducible refine State.stat_keeps ?_
    | with_reducible refine State.complete_keeps ?_ | with_reducible refine Keeps.ite_ ?_ ?_
    | fail_if_no_progress with_reducible refine Keeps.mk_ ?_ rfl rfl | split

theorem State.chargePieces_keeps {a₀ s : State} {ps : Pieces} {tiles : Nat} (hk : Keeps a₀ s) :
    Keeps a₀ (State.chargePieces s ps tiles) := by
  unfold State.chargePieces
  try dsimp only
  repeat' first
    | with_reducible assumption | with_reducible refine State.charge_keeps ?_ | with_reducible refine Keeps.ite_ ?_ ?_
    | (with_reducible refine Keeps.foldlP_ (fun t x ht => ?_) ?_ <;> try dsimp only)
    | (with_reducible refine Keeps.foldl_ (fun t x ht => ?_) ?_ <;> try dsimp only)

theorem State.chargeOut_keeps {a₀ s : State} {ps : Pieces} (hk : Keeps a₀ s) :
    Keeps a₀ (State.chargeOut s ps) := by
  unfold State.chargeOut
  try dsimp only
  repeat' first
    | with_reducible assumption | with_reducible refine State.charge_keeps ?_
    | (with_reducible refine Keeps.foldl_ (fun t x ht => ?_) ?_ <;> try dsimp only)

theorem State.chargeHash_keeps {a₀ s : State} {v : Version} (hk : Keeps a₀ s) :
    Keeps a₀ (State.chargeHash s v) := by
  unfold State.chargeHash
  try dsimp only
  repeat' first
    | with_reducible assumption | with_reducible refine State.charge_keeps ?_
    | (with_reducible refine Keeps.foldl_ (fun t x ht => ?_) ?_ <;> try dsimp only)

theorem execPutSegment_keeps {a₀ s : State} {q : Nat} {t : Nat} {h : HostData} (hk : Keeps a₀ s) :
    ∃ u₀, (execPutSegment q t h s) = .next u₀ ∧ Keeps a₀ u₀ := by
  unfold execPutSegment
  try dsimp only
  repeat' first
    | with_reducible refine State.done_keeps ?_
    | with_reducible refine Keeps.next_ ?_ | with_reducible refine Keeps.iteR_ ?_ ?_
    | with_reducible assumption | with_reducible refine State.endWith_keeps ?_
    | with_reducible refine State.obtainPieces_keeps ?_ | with_reducible refine State.chargePieces_keeps ?_
    | with_reducible refine State.putCommit_keeps ?_ | with_reducible refine Keeps.ite_ ?_ ?_ | split

theorem execTilePoolSlotFree_keeps {a₀ s : State} (hk : Keeps a₀ s) :
    ∃ u₀, (execTilePoolSlotFree s) = .next u₀ ∧ Keeps a₀ u₀ := by
  unfold execTilePoolSlotFree
  try dsimp only
  repeat' first
    | with_reducible refine State.done_keeps ?_
    | with_reducible refine Keeps.next_ ?_ | with_reducible refine Keeps.iteR_ ?_ ?_
    | with_reducible assumption | with_reducible refine State.putCommit_keeps ?_
    | (with_reducible refine Keeps.foldlP_ (fun t x ht => ?_) ?_ <;> try dsimp only)
    | (with_reducible refine Keeps.foldl_ (fun t x ht => ?_) ?_ <;> try dsimp only)
    | split

theorem State.sealCommit_keeps {a₀ s : State} {x : Slot} {v : Version} {digest : List Byte} (hk : Keeps a₀ s) :
    Keeps a₀ (State.sealCommit s x v digest) := by
  unfold State.sealCommit
  try dsimp only
  repeat' first
    | with_reducible assumption | with_reducible refine State.issue_keeps ?_ | with_reducible refine State.setVersion_keeps ?_
    | with_reducible refine State.charge_keeps ?_ | with_reducible refine State.stat_keeps ?_
    | with_reducible refine State.complete_keeps ?_ | with_reducible refine Keeps.ite_ ?_ ?_
    | fail_if_no_progress with_reducible refine Keeps.mk_ ?_ rfl rfl | split

theorem execSeal_keeps {a₀ s : State} {q : Nat} {t : Nat} {h : HostData} {ends : Bool} (hk : Keeps a₀ s) :
    ∃ u₀, (execSeal q t h ends s) = .next u₀ ∧ Keeps a₀ u₀ := by
  unfold execSeal
  try dsimp only
  repeat' first
    | with_reducible refine State.done_keeps ?_
    | with_reducible refine Keeps.next_ ?_ | with_reducible refine Keeps.iteR_ ?_ ?_
    | with_reducible assumption | with_reducible refine State.endWith_keeps ?_ | with_reducible refine State.setSlot_keeps ?_
    | with_reducible refine State.stat_keeps ?_ | with_reducible refine State.chargeReads_keeps ?_
    | with_reducible refine State.chargeHash_keeps ?_ | with_reducible refine State.readRange_keeps ?_
    | with_reducible refine State.sealCommit_keeps ?_ | with_reducible refine Keeps.ite_ ?_ ?_
    | fail_if_no_progress with_reducible refine Keeps.mk_ ?_ rfl rfl | refine Keeps.of_eq (by assumption) ?_ | split

theorem State.newCookie_keeps {a₀ s : State} {pos : Pos} (hk : Keeps a₀ s) :
    Keeps a₀ (State.newCookie s pos) := by
  unfold State.newCookie
  try dsimp only
  repeat' first
    | with_reducible assumption | with_reducible refine State.stat_keeps ?_ | with_reducible refine Keeps.ite_ ?_ ?_
    | fail_if_no_progress with_reducible refine Keeps.mk_ ?_ rfl rfl | split

theorem execCookieExpiry_keeps {a₀ s : State} (hk : Keeps a₀ s) :
    ∃ u₀, (execCookieExpiry s) = .next u₀ ∧ Keeps a₀ u₀ := by
  unfold execCookieExpiry
  try dsimp only
  repeat' first
    | with_reducible refine Keeps.next_ ?_ | with_reducible refine Keeps.iteR_ ?_ ?_
    | with_reducible assumption | fail_if_no_progress with_reducible refine Keeps.mk_ ?_ rfl rfl
    | split

theorem State.dropSeal_keeps {a₀ s : State} {key : Nat} {ver : Nat} (hk : Keeps a₀ s) :
    Keeps a₀ (State.dropSeal s key ver) := by
  unfold State.dropSeal
  try dsimp only
  repeat' first
    | with_reducible assumption | fail_if_no_progress with_reducible refine Keeps.mk_ ?_ rfl rfl | split

theorem State.removeVersion_keeps {a₀ s : State} {v : Version} {order : Nat} (hk : Keeps a₀ s) :
    Keeps a₀ (State.removeVersion s v order) := by
  unfold State.removeVersion
  try dsimp only
  repeat' first
    | with_reducible assumption | with_reducible refine State.issue_keeps ?_ | with_reducible refine State.retireSeg_keeps ?_
    | with_reducible refine State.dropSeal_keeps ?_ | with_reducible refine State.dropVersion_keeps ?_
    | with_reducible refine State.charge_keeps ?_
    | (with_reducible refine Keeps.foldl_ (fun t x ht => ?_) ?_ <;> try dsimp only)
    | fail_if_no_progress with_reducible refine Keeps.mk_ ?_ rfl rfl

theorem execDelete_keeps {a₀ s : State} {q : Nat} {t : Nat} {h : HostData} (hk : Keeps a₀ s) :
    ∃ u₀, (execDelete q t h s) = .next u₀ ∧ Keeps a₀ u₀ := by
  unfold execDelete
  try dsimp only
  repeat' first
    | with_reducible refine State.done_keeps ?_
    | with_reducible refine Keeps.next_ ?_ | with_reducible refine Keeps.iteR_ ?_ ?_
    | with_reducible assumption | with_reducible refine State.endWith_keeps ?_ | with_reducible refine State.stat_keeps ?_
    | with_reducible refine State.removeVersion_keeps ?_ | with_reducible refine Keeps.ite_ ?_ ?_ | split

theorem execSetRetention_keeps {a₀ s : State} {q : Nat} {t : Nat} {h : HostData} (hk : Keeps a₀ s) :
    ∃ u₀, (execSetRetention q t h s) = .next u₀ ∧ Keeps a₀ u₀ := by
  unfold execSetRetention
  try dsimp only
  repeat' first
    | with_reducible refine State.done_keeps ?_
    | with_reducible refine Keeps.next_ ?_ | with_reducible refine Keeps.iteR_ ?_ ?_
    | with_reducible assumption | with_reducible refine State.endWith_keeps ?_ | with_reducible refine State.issue_keeps ?_
    | with_reducible refine State.setVersion_keeps ?_ | with_reducible refine State.charge_keeps ?_
    | with_reducible refine Keeps.ite_ ?_ ?_ | fail_if_no_progress with_reducible refine Keeps.mk_ ?_ rfl rfl | split

theorem execVerify_keeps {a₀ s : State} {q : Nat} {t : Nat} {h : HostData} {laddered : Nat} (hk : Keeps a₀ s) :
    ∃ u₀, (execVerify q t h laddered s) = .next u₀ ∧ Keeps a₀ u₀ := by
  unfold execVerify
  try dsimp only
  repeat' first
    | with_reducible refine State.done_keeps ?_
    | with_reducible refine Keeps.next_ ?_ | with_reducible refine Keeps.iteR_ ?_ ?_
    | with_reducible assumption | with_reducible refine State.endWith_keeps ?_ | with_reducible refine State.holdLookup_keeps ?_
    | with_reducible refine State.chargeReads_keeps ?_ | with_reducible refine State.chargeHash_keeps ?_
    | with_reducible refine State.charge_keeps ?_ | with_reducible refine State.readRange_keeps ?_
    | with_reducible refine State.stat_keeps ?_ | with_reducible refine State.complete_keeps ?_
    | with_reducible refine Keeps.ite_ ?_ ?_ | (with_reducible refine Keeps.foldlP_ (fun t x ht => ?_) ?_ <;> try dsimp only)
    | (with_reducible refine Keeps.foldl_ (fun t x ht => ?_) ?_ <;> try dsimp only) | refine Keeps.of_eq (by assumption) ?_
    | split

theorem execFlush_keeps {a₀ s : State} {q : Nat} {t : Nat} {h : HostData} (hk : Keeps a₀ s) :
    ∃ u₀, (execFlush q t h s) = .next u₀ ∧ Keeps a₀ u₀ := by
  unfold execFlush
  try dsimp only
  repeat' first
    | with_reducible refine State.done_keeps ?_
    | with_reducible refine Keeps.next_ ?_ | with_reducible refine Keeps.iteR_ ?_ ?_
    | with_reducible assumption | with_reducible refine State.endWith_keeps ?_ | with_reducible refine State.setSlot_keeps ?_
    | with_reducible refine Keeps.ite_ ?_ ?_ | fail_if_no_progress with_reducible refine Keeps.mk_ ?_ rfl rfl | split

theorem execFlushComplete_keeps {a₀ s : State} {q : Nat} {t : Nat} (hk : Keeps a₀ s) :
    ∃ u₀, (execFlushComplete q t s) = .next u₀ ∧ Keeps a₀ u₀ := by
  unfold execFlushComplete
  try dsimp only
  repeat' first
    | with_reducible refine State.done_keeps ?_
    | with_reducible refine Keeps.next_ ?_ | with_reducible refine Keeps.iteR_ ?_ ?_
    | with_reducible assumption | with_reducible refine State.closeStripes_keeps ?_
    | with_reducible refine State.endWith_keeps ?_ | with_reducible refine Keeps.ite_ ?_ ?_ | split

theorem State.faultSeen_keeps {a₀ s : State} {k : Nat} (hk : Keeps a₀ s) :
    Keeps a₀ (State.faultSeen s k) := by
  unfold State.faultSeen
  try dsimp only
  repeat' first
    | with_reducible assumption | with_reducible refine State.uninhibit_keeps ?_ | with_reducible refine Keeps.ite_ ?_ ?_

theorem execPreampFault_keeps {a₀ s : State} {k : Nat} {fault : Nat} {answered : Bool} (hk : Keeps a₀ s) :
    ∃ u₀, (execPreampFault k fault answered s) = .next u₀ ∧ Keeps a₀ u₀ := by
  unfold execPreampFault
  refine ⟨_, rfl, ?_⟩
  try dsimp only
  repeat' first
    | with_reducible assumption | with_reducible refine State.setPre_keeps ?_ | with_reducible refine State.inhibit_keeps ?_
    | with_reducible refine State.bumpF_keeps ?_ | with_reducible refine State.setF_keeps ?_
    | with_reducible refine State.preampFrame_keeps ?_ | with_reducible refine State.raise_keeps ?_
    | with_reducible refine Keeps.ite_ ?_ ?_ | fail_if_no_progress with_reducible refine Keeps.mk_ ?_ rfl rfl

theorem execFltNRelease_keeps {a₀ s : State} {k : Nat} (hk : Keeps a₀ s) :
    ∃ u₀, (execFltNRelease k s) = .next u₀ ∧ Keeps a₀ u₀ := by
  unfold execFltNRelease
  refine ⟨_, rfl, ?_⟩
  try dsimp only
  repeat' first
    | with_reducible assumption | with_reducible refine State.setPre_keeps ?_ | with_reducible refine State.faultSeen_keeps ?_
    | fail_if_no_progress with_reducible refine Keeps.mk_ ?_ rfl rfl

theorem State.refuseJob_keeps {a₀ s : State} {k : Nat} {seq : Nat} {slot : Nat} (hk : Keeps a₀ s) :
    Keeps a₀ (State.refuseJob s k seq slot) := by
  unfold State.refuseJob
  try dsimp only
  repeat' first
    | with_reducible assumption | with_reducible refine State.gateLow_keeps ?_ | with_reducible refine State.tileFails_keeps ?_
    | with_reducible refine State.setChn_keeps ?_ | with_reducible refine Keeps.ite_ ?_ ?_
    | fail_if_no_progress with_reducible refine Keeps.mk_ ?_ rfl rfl

theorem State.sectorDone_keeps {a₀ s : State} {k : Nat} {o : WriteOp} {tile : List Byte} {first : Bool} {last : Bool} (hk : Keeps a₀ s) :
    Keeps a₀ (State.sectorDone s k o tile first last) := by
  unfold State.sectorDone
  try dsimp only
  repeat' first
    | with_reducible assumption | with_reducible refine State.putSectorIn_keeps ?_ | with_reducible refine State.charge_keeps ?_
    | with_reducible refine State.setChn_keeps ?_ | with_reducible refine Keeps.ite_ ?_ ?_
    | fail_if_no_progress with_reducible refine Keeps.mk_ ?_ rfl rfl

theorem State.sectorCut_keeps {a₀ s : State} {k : Nat} {o : WriteOp} {tile : List Byte} {first : Bool} {bit : Nat} {n : Nat} (hk : Keeps a₀ s) :
    Keeps a₀ (State.sectorCut s k o tile first bit n) := by
  unfold State.sectorCut
  try dsimp only
  repeat' first
    | with_reducible assumption | with_reducible refine State.inhibitBoth_keeps ?_ | with_reducible refine State.settle_keeps ?_
    | with_reducible refine State.inhibit_keeps ?_ | with_reducible refine Keeps.ite_ ?_ ?_
    | fail_if_no_progress with_reducible refine Keeps.mk_ ?_ rfl rfl

theorem State.moveTile_keeps {a₀ s : State} {j : Job} {t : Nat} {dest : Nat} (hk : Keeps a₀ s) :
    Keeps a₀ (State.moveTile s j t dest) := by
  unfold State.moveTile
  try dsimp only
  repeat' first
    | with_reducible assumption | with_reducible refine State.setVersion_keeps ?_ | with_reducible refine Keeps.ite_ ?_ ?_
    | fail_if_no_progress with_reducible refine Keeps.mk_ ?_ rfl rfl | split

theorem State.rewriteSegment_keeps {a₀ s : State} {k : Nat} {j : Job} (hk : Keeps a₀ s) :
    Keeps a₀ (State.rewriteSegment s k j) := by
  unfold State.rewriteSegment
  try dsimp only
  repeat' first
    | with_reducible assumption | with_reducible refine State.setVersion_keeps ?_ | with_reducible refine State.setChn_keeps ?_
    | with_reducible refine Keeps.ite_ ?_ ?_ | fail_if_no_progress with_reducible refine Keeps.mk_ ?_ rfl rfl | split

theorem State.dodgeDefect_keeps {a₀ s : State} {k : Nat} {o : WriteOp} {j : Job} (hk : Keeps a₀ s) :
    Keeps a₀ (State.dodgeDefect s k o j) := by
  unfold State.dodgeDefect
  try dsimp only
  repeat' first
    | with_reducible assumption | with_reducible refine State.setChn_keeps ?_ | with_reducible refine State.moveTile_keeps ?_
    | with_reducible refine State.rewriteSegment_keeps ?_ | with_reducible refine Keeps.ite_ ?_ ?_
    | fail_if_no_progress with_reducible refine Keeps.mk_ ?_ rfl rfl | split

theorem execSectorWrite_keeps {a₀ s : State} {k : Nat} {cut : Option (Nat × Nat)} (hk : Keeps a₀ s) :
    ∃ u₀, (execSectorWrite k cut s) = .next u₀ ∧ Keeps a₀ u₀ := by
  unfold execSectorWrite
  refine ⟨_, rfl, ?_⟩
  try dsimp only
  repeat' first
    | with_reducible assumption | with_reducible refine State.writeCut_keeps ?_ | with_reducible refine State.settle_keeps ?_
    | with_reducible refine State.gateLow_keeps ?_ | with_reducible refine State.dodgeDefect_keeps ?_
    | with_reducible refine State.readSlot_keeps ?_ | with_reducible refine State.refuseJob_keeps ?_
    | with_reducible refine State.preampSet_keeps ?_ | with_reducible refine State.useZone_keeps ?_
    | with_reducible refine State.setChn_keeps ?_ | with_reducible refine State.writeGap_keeps ?_
    | with_reducible refine State.setF_keeps ?_ | with_reducible refine State.sectorCut_keeps ?_
    | with_reducible refine State.sectorDone_keeps ?_ | with_reducible refine Keeps.ite_ ?_ ?_
    | fail_if_no_progress with_reducible refine Keeps.mk_ ?_ rfl rfl | split

theorem execGateMonitorMismatch_keeps {a₀ s : State} {k : Nat} (hk : Keeps a₀ s) :
    ∃ u₀, (execGateMonitorMismatch k s) = .next u₀ ∧ Keeps a₀ u₀ := by
  unfold execGateMonitorMismatch
  refine ⟨_, rfl, ?_⟩
  try dsimp only
  repeat' first
    | with_reducible assumption | with_reducible refine State.gateLow_keeps ?_ | with_reducible refine State.setChn_keeps ?_
    | with_reducible refine State.inhibit_keeps ?_ | with_reducible refine State.raise_keeps ?_
    | fail_if_no_progress with_reducible refine Keeps.mk_ ?_ rfl rfl

theorem execWriteInhibit_keeps {a₀ s : State} {k : Nat} {bit : Nat} (hk : Keeps a₀ s) :
    ∃ u₀, (execWriteInhibit k bit s) = .next u₀ ∧ Keeps a₀ u₀ := by
  unfold execWriteInhibit
  refine ⟨_, rfl, ?_⟩
  try dsimp only
  repeat' first
    | with_reducible assumption | with_reducible refine State.inhibitBoth_keeps ?_ | with_reducible refine State.settle_keeps ?_
    | with_reducible refine State.inhibit_keeps ?_ | with_reducible refine Keeps.ite_ ?_ ?_

theorem execInhibitRelease_keeps {a₀ s0 : State} {k : Nat} (hk : Keeps a₀ s0) :
    ∃ u₀, (execInhibitRelease k s0) = .next u₀ ∧ Keeps a₀ u₀ := by
  unfold execInhibitRelease
  refine ⟨_, rfl, ?_⟩
  try dsimp only
  repeat' first
    | with_reducible assumption | with_reducible refine State.uninhibit_keeps ?_ | with_reducible refine State.setChn_keeps ?_
    | with_reducible refine Keeps.ite_ ?_ ?_ | fail_if_no_progress with_reducible refine Keeps.mk_ ?_ rfl rfl | split

theorem State.addDefect_keeps {a₀ s : State} {psa : Nat} {reason : Nat} (hk : Keeps a₀ s) :
    Keeps a₀ (State.addDefect s psa reason) := by
  unfold State.addDefect
  try dsimp only
  repeat' first
    | with_reducible assumption | with_reducible refine State.issue_keeps ?_ | with_reducible refine State.journalCheck_keeps ?_
    | with_reducible refine Keeps.ite_ ?_ ?_ | fail_if_no_progress with_reducible refine Keeps.mk_ ?_ rfl rfl

theorem State.firmwareCut_keeps {a₀ s0 : State} {psa : Nat} {blk : List Byte} {bit : Nat} (hk : Keeps a₀ s0) :
    Keeps a₀ (State.firmwareCut psa blk s0 bit) := by
  unfold State.firmwareCut
  try dsimp only
  repeat' first
    | with_reducible assumption | with_reducible refine State.standOn_keeps ?_ | with_reducible refine State.useFree_keeps ?_
    | with_reducible refine State.setF_keeps ?_ | with_reducible refine State.stat_keeps ?_
    | with_reducible refine State.setChn_keeps ?_ | with_reducible refine State.send_keeps ?_
    | with_reducible refine Keeps.ite_ ?_ ?_ | fail_if_no_progress with_reducible refine Keeps.mk_ ?_ rfl rfl

theorem State.writeCuts_keeps {a₀ s : State} {psa : Nat} {blk : List Byte} {cuts : List Nat} (hk : Keeps a₀ s) :
    Keeps a₀ (State.writeCuts s psa blk cuts).1 := by
  unfold State.writeCuts
  try dsimp only
  repeat' first
    | with_reducible assumption | with_reducible refine State.firmwareCut_keeps ?_ | with_reducible refine State.settle_keeps ?_
    | (with_reducible refine Keeps.foldlP_ (fun t x ht => ?_) ?_ <;> try dsimp only)
    | (with_reducible refine Keeps.foldl_ (fun t x ht => ?_) ?_ <;> try dsimp only) | split

theorem State.writeSurvives_keeps {a₀ s : State} {psa : Nat} {blk : List Byte} {cuts : List Nat} (hk : Keeps a₀ s) :
    Keeps a₀ (State.writeSurvives s psa blk cuts).1 := by
  unfold State.writeSurvives
  try dsimp only
  repeat' first
    | with_reducible assumption | with_reducible refine State.writeCuts_keeps ?_
    | with_reducible refine State.addDefect_keeps ?_ | with_reducible refine State.settle_keeps ?_
    | with_reducible refine Keeps.ite_ ?_ ?_ | refine Keeps.of_eq (by assumption) ?_ | split

theorem State.takeSpare_keeps {a₀ s : State} {psa : Nat} {reason : Nat} (hk : Keeps a₀ s) :
    Keeps a₀ (State.takeSpare s psa reason).2 := by
  unfold State.takeSpare
  try dsimp only
  repeat' first
    | with_reducible assumption | with_reducible refine State.raise_keeps ?_ | with_reducible refine Keeps.ite_ ?_ ?_ | split

theorem State.copyTo_keeps {a₀ s : State} {psa : Nat} {reason : Nat} {dest : Nat} {tile : List Byte} {cuts : List Nat} (hk : Keeps a₀ s) :
    Keeps a₀ (State.copyTo s psa reason dest tile cuts).2 := by
  unfold State.copyTo
  try dsimp only
  repeat' first
    | with_reducible assumption | with_reducible refine State.writeTile_keeps ?_
    | with_reducible refine State.writeSurvives_keeps ?_ | with_reducible refine State.stat_keeps ?_
    | with_reducible refine State.send_keeps ?_ | with_reducible refine State.settle_keeps ?_
    | with_reducible refine State.takeSpare_keeps ?_ | with_reducible refine Keeps.ite_ ?_ ?_
    | refine Keeps.of_eq (by assumption) ?_ | refine Keeps.of_eq2 (by assumption) ?_ | split

theorem State.relocate_keeps {a₀ s : State} {psa : Nat} {reason : Nat} {tile : List Byte} {cuts : List Nat} (hk : Keeps a₀ s) :
    Keeps a₀ (State.relocate s psa reason tile cuts) := by
  unfold State.relocate
  try dsimp only
  repeat' first
    | with_reducible assumption | with_reducible refine State.addDefect_keeps ?_
    | with_reducible refine State.takeSpare_keeps ?_ | with_reducible refine State.copyTo_keeps ?_
    | with_reducible refine State.issue_keeps ?_ | with_reducible refine State.setVersion_keeps ?_
    | with_reducible refine State.stat_keeps ?_ | with_reducible refine State.raise_keeps ?_
    | with_reducible refine Keeps.ite_ ?_ ?_ | fail_if_no_progress with_reducible refine Keeps.mk_ ?_ rfl rfl
    | refine Keeps.of_eq (by assumption) ?_ | refine Keeps.of_eq2 (by assumption) ?_ | split

theorem State.parityDue_keeps {a₀ s : State} {psa : Nat} (hk : Keeps a₀ s) :
    Keeps a₀ (State.parityDue s psa) := by
  unfold State.parityDue
  try dsimp only
  repeat' first
    | with_reducible assumption | with_reducible refine State.addDefect_keeps ?_
    | with_reducible refine State.closeStripe_keeps ?_ | with_reducible refine Keeps.ite_ ?_ ?_
    | fail_if_no_progress with_reducible refine Keeps.mk_ ?_ rfl rfl

theorem State.reallocate_keeps {a₀ s : State} {psa : Nat} {cuts : List Nat} (hk : Keeps a₀ s) :
    Keeps a₀ (State.reallocate s psa cuts) := by
  unfold State.reallocate
  try dsimp only
  repeat' first
    | with_reducible assumption | with_reducible refine State.recovered_keeps ?_
    | with_reducible refine State.parityDue_keeps ?_ | with_reducible refine State.relocate_keeps ?_
    | with_reducible refine State.addDefect_keeps ?_ | with_reducible refine Keeps.ite_ ?_ ?_
    | fail_if_no_progress with_reducible refine Keeps.mk_ ?_ rfl rfl

theorem execReallocation_keeps {a₀ s : State} {wedges : Nat} {foreground : Bool} {cuts : List Nat} (hk : Keeps a₀ s) :
    ∃ u₀, (execReallocation wedges foreground cuts s) = .next u₀ ∧ Keeps a₀ u₀ := by
  unfold execReallocation
  refine ⟨_, rfl, ?_⟩
  try dsimp only
  repeat' first
    | with_reducible assumption | with_reducible refine State.reallocate_keeps ?_
    | with_reducible refine State.bgCharge_keeps ?_ | with_reducible refine State.charge_keeps ?_
    | with_reducible refine State.bgHold_keeps ?_ | with_reducible refine Keeps.ite_ ?_ ?_ | split

theorem execWriteRetriesExhausted_keeps {a₀ s : State} {k : Nat} (hk : Keeps a₀ s) :
    ∃ u₀, (execWriteRetriesExhausted k s) = .next u₀ ∧ Keeps a₀ u₀ := by
  unfold execWriteRetriesExhausted
  refine ⟨_, rfl, ?_⟩
  try dsimp only
  repeat' first
    | with_reducible assumption | with_reducible refine State.setChn_keeps ?_ | with_reducible refine State.readSlot_keeps ?_
    | with_reducible refine State.refuseJob_keeps ?_ | with_reducible refine State.takeSpare_keeps ?_
    | with_reducible refine State.writeTile_keeps ?_ | with_reducible refine State.issue_keeps ?_
    | with_reducible refine State.moveTile_keeps ?_ | with_reducible refine State.stat_keeps ?_
    | with_reducible refine State.raise_keeps ?_ | with_reducible refine State.rewriteSegment_keeps ?_
    | with_reducible refine Keeps.ite_ ?_ ?_ | fail_if_no_progress with_reducible refine Keeps.mk_ ?_ rfl rfl
    | refine Keeps.of_eq (by assumption) ?_ | refine Keeps.of_eq2 (by assumption) ?_ | split

theorem execJournalRecordWrite_keeps {a₀ s : State} {k : Nat} {cuts : List Nat} (hk : Keeps a₀ s) :
    ∃ u₀, (execJournalRecordWrite k cuts s) = .next u₀ ∧ Keeps a₀ u₀ := by
  unfold execJournalRecordWrite
  refine ⟨_, rfl, ?_⟩
  try dsimp only
  repeat' first
    | with_reducible assumption | with_reducible refine State.recovered_keeps ?_
    | with_reducible refine State.writeSurvives_keeps ?_ | with_reducible refine State.writeJournal_keeps ?_
    | with_reducible refine Keeps.ite_ ?_ ?_ | split

theorem State.drainJournal_keeps {a₀ s : State} {k : Nat} {n : Nat} (hk : Keeps a₀ s) :
    Keeps a₀ (State.drainJournal s k n) := by
  induction n generalizing s with
  | zero =>
    unfold State.drainJournal
    try dsimp only
    repeat' first
      | with_reducible assumption | with_reducible refine State.writeJournal_keeps ?_
      | with_reducible refine Keeps.ite_ ?_ ?_ | split
  | succ m_ ih =>
    unfold State.drainJournal
    try dsimp only
    repeat' first
      | with_reducible assumption | with_reducible refine ih ?_ | with_reducible refine State.writeJournal_keeps ?_
      | with_reducible refine Keeps.ite_ ?_ ?_ | split

theorem execJournalResume_keeps {a₀ s : State} {k : Nat} (hk : Keeps a₀ s) :
    ∃ u₀, (execJournalResume k s) = .next u₀ ∧ Keeps a₀ u₀ := by
  unfold execJournalResume
  refine ⟨_, rfl, ?_⟩
  try dsimp only
  repeat' first
    | with_reducible assumption | with_reducible refine State.setStream_keeps ?_
    | with_reducible refine State.drainJournal_keeps ?_ | with_reducible refine Keeps.ite_ ?_ ?_
    | fail_if_no_progress with_reducible refine Keeps.mk_ ?_ rfl rfl

theorem State.rootInForce_keeps {a₀ s : State} {q : Nat} {ck : List Nat} (hk : Keeps a₀ s) :
    Keeps a₀ (State.rootInForce s q ck) := by
  unfold State.rootInForce
  try dsimp only
  repeat' first
    | with_reducible assumption | fail_if_no_progress with_reducible refine Keeps.mk_ ?_ rfl rfl

theorem State.trimJournal_keeps {a₀ s : State} {k : Nat} {b : Nat} (hk : Keeps a₀ s) :
    Keeps a₀ (State.trimJournal s k b) := by
  unfold State.trimJournal
  try dsimp only
  repeat' first
    | with_reducible assumption | with_reducible refine State.setStream_keeps ?_
    | fail_if_no_progress with_reducible refine Keeps.mk_ ?_ rfl rfl

theorem State.writeRoot_keeps {a₀ s : State} {r : Root} (hk : Keeps a₀ s) :
    Keeps a₀ (State.writeRoot s r) := by
  unfold State.writeRoot
  try dsimp only
  repeat' first
    | with_reducible assumption | with_reducible refine State.writeTile_keeps ?_ | split

theorem State.takeCheckpoint_keeps {a₀ s : State} (hk : Keeps a₀ s) :
    Keeps a₀ (State.takeCheckpoint s) := by
  unfold State.takeCheckpoint
  try dsimp only
  repeat' first
    | with_reducible assumption | with_reducible refine State.writeTiles_keeps ?_ | with_reducible refine State.charge_keeps ?_
    | with_reducible refine State.closeStripe_keeps ?_ | with_reducible refine State.rootInForce_keeps ?_
    | with_reducible refine State.writeRoot_keeps ?_ | with_reducible refine State.trimJournal_keeps ?_
    | with_reducible refine State.journalCheck_keeps ?_ | with_reducible refine Keeps.ite_ ?_ ?_
    | (with_reducible refine Keeps.foldlP_ (fun t x ht => ?_) ?_ <;> try dsimp only)
    | (with_reducible refine Keeps.foldl_ (fun t x ht => ?_) ?_ <;> try dsimp only)
    | fail_if_no_progress with_reducible refine Keeps.mk_ ?_ rfl rfl

theorem execCheckpoint_keeps {a₀ s : State} {cut : Option (Nat × List Nat)} (hk : Keeps a₀ s) :
    ∃ u₀, (execCheckpoint cut s) = .next u₀ ∧ Keeps a₀ u₀ := by
  unfold execCheckpoint
  refine ⟨_, rfl, ?_⟩
  try dsimp only
  repeat' first
    | with_reducible assumption | with_reducible refine State.recovered_keeps ?_
    | with_reducible refine State.takeCheckpoint_keeps ?_ | with_reducible refine State.writeSurvives_keeps ?_
    | with_reducible refine Keeps.ite_ ?_ ?_ | refine Keeps.of_eq (by assumption) ?_ | split

theorem State.showCands_keeps {a₀ s : State} {k : Nat} {l : List Cand} {chosen : Option Nat} (hk : Keeps a₀ s) :
    Keeps a₀ (State.showCands s k l chosen) := by
  unfold State.showCands
  try dsimp only
  repeat' first
    | with_reducible assumption | with_reducible refine State.setReg_keeps ?_ | with_reducible refine State.setF_keeps ?_
    | (with_reducible refine Keeps.foldl_ (fun t x ht => ?_) ?_ <;> try dsimp only) | split

theorem State.spill_keeps {a₀ s : State} {i : Nat} {old : Work} (hk : Keeps a₀ s) :
    Keeps a₀ (State.spill s i old) := by
  unfold State.spill
  try dsimp only
  repeat' first
    | with_reducible assumption | with_reducible refine State.useFree_keeps ?_ | with_reducible refine State.charge_keeps ?_
    | with_reducible refine State.stat_keeps ?_ | fail_if_no_progress with_reducible refine Keeps.mk_ ?_ rfl rfl | split

theorem State.dispatch_keeps {a₀ s : State} {n : Nat} (hk : Keeps a₀ s) :
    Keeps a₀ (State.dispatch s n) := by
  induction n generalizing s with
  | zero =>
    unfold State.dispatch
    try dsimp only
    repeat' first
      | with_reducible assumption | with_reducible refine State.takeWork_keeps ?_
      | with_reducible refine State.spill_keeps ?_ | with_reducible refine Keeps.ite_ ?_ ?_ | split
  | succ m_ ih =>
    unfold State.dispatch
    try dsimp only
    repeat' first
      | with_reducible assumption | with_reducible refine ih ?_ | with_reducible refine State.takeWork_keeps ?_
      | with_reducible refine State.spill_keeps ?_ | with_reducible refine Keeps.ite_ ?_ ?_ | split

theorem State.dispatchAll_keeps {a₀ s : State} (hk : Keeps a₀ s) :
    Keeps a₀ (State.dispatchAll s) := by
  unfold State.dispatchAll
  try dsimp only
  repeat' first
    | with_reducible assumption | with_reducible refine State.dispatch_keeps ?_

theorem State.addWork_keeps {a₀ s : State} {w : Work} (hk : Keeps a₀ s) :
    Keeps a₀ (State.addWork s w) := by
  unfold State.addWork
  try dsimp only
  repeat' first
    | with_reducible assumption | with_reducible refine State.dispatchAll_keeps ?_
    | fail_if_no_progress with_reducible refine Keeps.mk_ ?_ rfl rfl

theorem State.cancelWork_keeps {a₀ s : State} {psa : Nat} (hk : Keeps a₀ s) :
    Keeps a₀ (State.cancelWork s psa) := by
  unfold State.cancelWork
  try dsimp only
  repeat' first
    | with_reducible assumption | with_reducible refine State.setInst_keeps ?_
    | with_reducible refine State.dispatchAll_keeps ?_ | with_reducible refine Keeps.ite_ ?_ ?_
    | (with_reducible refine Keeps.foldl_ (fun t x ht => ?_) ?_ <;> try dsimp only)
    | fail_if_no_progress with_reducible refine Keeps.mk_ ?_ rfl rfl | split

theorem execSpillDrainDone_keeps {a₀ s : State} {n : Nat} (hk : Keeps a₀ s) :
    ∃ u₀, (execSpillDrainDone n s) = .next u₀ ∧ Keeps a₀ u₀ := by
  unfold execSpillDrainDone
  try dsimp only
  repeat' first
    | with_reducible refine Keeps.next_ ?_ | with_reducible refine Keeps.iteR_ ?_ ?_
    | with_reducible assumption | with_reducible refine State.dispatchAll_keeps ?_
    | fail_if_no_progress with_reducible refine Keeps.mk_ ?_ rfl rfl
    | split

theorem execDecodeOvertime_keeps {a₀ s : State} {n : Nat} (hk : Keeps a₀ s) :
    ∃ u₀, (execDecodeOvertime n s) = .next u₀ ∧ Keeps a₀ u₀ := by
  unfold execDecodeOvertime
  refine ⟨_, rfl, ?_⟩
  try dsimp only
  repeat' first
    | with_reducible assumption | with_reducible refine State.raise_keeps ?_ | split

theorem State.setStore_keeps {a₀ s : State} {l : List StoreSlot} (hk : Keeps a₀ s) :
    Keeps a₀ (State.setStore s l) := by
  unfold State.setStore
  try dsimp only
  repeat' first
    | with_reducible assumption | with_reducible refine State.setF_keeps ?_
    | fail_if_no_progress with_reducible refine Keeps.mk_ ?_ rfl rfl

theorem State.releaseSlots_keeps {a₀ s : State} {psa : Nat} (hk : Keeps a₀ s) :
    Keeps a₀ (State.releaseSlots s psa) := by
  unfold State.releaseSlots
  try dsimp only
  repeat' first
    | with_reducible assumption | with_reducible refine State.setStore_keeps ?_ | with_reducible refine Keeps.ite_ ?_ ?_

theorem State.putSlot_keeps {a₀ s : State} {k : Nat} {psa : Nat} {kind : Nat} {r : SampleRec} {untried : Bool} (hk : Keeps a₀ s) :
    Keeps a₀ (State.putSlot s k psa kind r untried) := by
  unfold State.putSlot
  try dsimp only
  repeat' first
    | with_reducible assumption | with_reducible refine State.setStore_keeps ?_ | with_reducible refine State.charge_keeps ?_

theorem State.storeRev_keeps {a₀ s : State} {k : Nat} {psa : Nat} {kind : Nat} {r : SampleRec} {untried : Bool} (hk : Keeps a₀ s) :
    Keeps a₀ (State.storeRev s k psa kind r untried) := by
  unfold State.storeRev
  try dsimp only
  repeat' first
    | with_reducible assumption | with_reducible refine State.putSlot_keeps ?_
    | with_reducible refine State.releaseSlots_keeps ?_ | with_reducible refine State.cancelWork_keeps ?_
    | with_reducible refine State.stat_keeps ?_ | with_reducible refine State.raise_keeps ?_
    | with_reducible refine Keeps.ite_ ?_ ?_ | fail_if_no_progress with_reducible refine Keeps.mk_ ?_ rfl rfl | split

theorem State.setRing__keeps {a₀ s : State} {k : Nat} {l : List RingSector} (hk : Keeps a₀ s) :
    Keeps a₀ (State.setRing_ s k l) := by
  unfold State.setRing_
  try dsimp only
  repeat' first
    | with_reducible assumption | with_reducible refine State.setChn_keeps ?_ | with_reducible refine State.setF_keeps ?_
    | fail_if_no_progress with_reducible refine Keeps.mk_ ?_ rfl rfl

theorem State.startLadder_keeps {a₀ s : State} {k : Nat} {psa : Nat} {kind : Nat} (hk : Keeps a₀ s) :
    Keeps a₀ (State.startLadder s k psa kind) := by
  unfold State.startLadder
  try dsimp only
  repeat' first
    | with_reducible assumption | with_reducible refine Keeps.ite_ ?_ ?_
    | (with_reducible refine Keeps.foldl_ (fun t x ht => ?_) ?_ <;> try dsimp only)
    | fail_if_no_progress with_reducible refine Keeps.mk_ ?_ rfl rfl

theorem State.erase_keeps {a₀ s : State} {k : Nat} {psa : Nat} {kind : Nat} {v : Nat} {r : RingSector} (hk : Keeps a₀ s) :
    Keeps a₀ (State.erase s k psa kind v r) := by
  unfold State.erase
  try dsimp only
  repeat' first
    | with_reducible assumption | with_reducible refine State.bumpF_keeps ?_ | with_reducible refine State.stat_keeps ?_
    | with_reducible refine State.showCands_keeps ?_ | with_reducible refine State.setRing__keeps ?_
    | with_reducible refine State.setStore_keeps ?_ | with_reducible refine State.startLadder_keeps ?_
    | with_reducible refine Keeps.ite_ ?_ ?_ | fail_if_no_progress with_reducible refine Keeps.mk_ ?_ rfl rfl

theorem State.confirm_keeps {a₀ s : State} {k : Nat} {psa : Nat} (hk : Keeps a₀ s) :
    Keeps a₀ (State.confirm s k psa) := by
  unfold State.confirm
  try dsimp only
  repeat' first
    | with_reducible assumption | with_reducible refine State.releaseSlots_keeps ?_
    | with_reducible refine State.setRing__keeps ?_ | with_reducible refine Keeps.ite_ ?_ ?_
    | fail_if_no_progress with_reducible refine Keeps.mk_ ?_ rfl rfl

theorem State.lockFailed_keeps {a₀ s : State} {k : Nat} (hk : Keeps a₀ s) :
    Keeps a₀ (State.lockFailed s k) := by
  unfold State.lockFailed
  try dsimp only
  repeat' first
    | with_reducible assumption | with_reducible refine State.bumpF_keeps ?_ | with_reducible refine State.setChn_keeps ?_
    | with_reducible refine State.raise_keeps ?_ | with_reducible refine Keeps.ite_ ?_ ?_
    | fail_if_no_progress with_reducible refine Keeps.mk_ ?_ rfl rfl

theorem State.servoField_keeps {a₀ s : State} {k : Nat} (hk : Keeps a₀ s) :
    Keeps a₀ (State.servoField s k) := by
  unfold State.servoField
  try dsimp only
  repeat' first
    | with_reducible assumption | with_reducible refine State.emit_keeps ?_ | with_reducible refine Keeps.ite_ ?_ ?_
    | fail_if_no_progress with_reducible refine Keeps.mk_ ?_ rfl rfl | split

theorem State.acquire_keeps {a₀ s : State} {k : Nat} {psa : Nat} {cap : Capture} {follow : Option Nat} (hk : Keeps a₀ s) :
    Keeps a₀ (State.acquire s k psa cap follow).1 := by
  unfold State.acquire
  try dsimp only
  repeat' first
    | with_reducible assumption | with_reducible refine State.preampSet_keeps ?_ | with_reducible refine State.useZone_keeps ?_
    | with_reducible refine State.setChn_keeps ?_ | with_reducible refine State.emit_keeps ?_
    | with_reducible refine State.servoField_keeps ?_ | with_reducible refine State.lockFailed_keeps ?_
    | with_reducible refine State.setF_keeps ?_ | with_reducible refine State.bumpF_keeps ?_
    | with_reducible refine Keeps.ite_ ?_ ?_ | (with_reducible refine Keeps.foldlP_ (fun t x ht => ?_) ?_ <;> try dsimp only)
    | (with_reducible refine Keeps.foldl_ (fun t x ht => ?_) ?_ <;> try dsimp only)
    | fail_if_no_progress with_reducible refine Keeps.mk_ ?_ rfl rfl | split

theorem State.enterRing_keeps {a₀ s : State} {k : Nat} {psa : Nat} {kind : Nat} {r : SampleRec} (hk : Keeps a₀ s) :
    Keeps a₀ (State.enterRing s k psa kind r) := by
  unfold State.enterRing
  try dsimp only
  repeat' first
    | with_reducible assumption | with_reducible refine State.setChn_keeps ?_ | with_reducible refine State.setRing__keeps ?_
    | fail_if_no_progress with_reducible refine Keeps.mk_ ?_ rfl rfl

theorem State.copyDone_keeps {a₀ s : State} {k : Nat} {r : RingSector} (hk : Keeps a₀ s) :
    Keeps a₀ (State.copyDone s k r) := by
  unfold State.copyDone
  try dsimp only
  repeat' first
    | with_reducible assumption | with_reducible refine State.setRing__keeps ?_ | with_reducible refine State.storeRev_keeps ?_
    | with_reducible refine Keeps.ite_ ?_ ?_

theorem State.ringRoom_keeps {a₀ s t : State} {k : Nat} {copied : Bool} (h : Keeps a₀ s) (e : s.ringRoom k copied = some t) :
    Keeps a₀ t := by
  unfold State.ringRoom at e
  dsimp only at e
  repeat' split at e
  all_goals first
    | cases e
      try exact h
      try exact State.copyDone_keeps h
      try exact State.setRing__keeps (State.storeRev_keeps h)

theorem execSectorRead_keeps {a₀ s : State} {k : Nat} {psa : Nat} {kind : Nat} {cap : Capture} {copied : Bool} {follow : Option Nat} (hk : Keeps a₀ s) :
    ∃ u₀, (execSectorRead k psa kind cap copied follow s) = .next u₀ ∧ Keeps a₀ u₀ := by
  unfold execSectorRead
  refine ⟨_, rfl, ?_⟩
  try dsimp only
  repeat' first
    | with_reducible assumption | with_reducible refine State.bgHold_keeps ?_ | with_reducible refine State.bgCharge_keeps ?_
    | with_reducible refine State.bumpF_keeps ?_ | with_reducible refine State.setChn_keeps ?_
    | with_reducible refine State.acquire_keeps ?_ | with_reducible refine State.enterRing_keeps ?_
    | with_reducible refine State.erase_keeps ?_ | with_reducible refine State.addWork_keeps ?_
    | with_reducible refine Keeps.ite_ ?_ ?_ | fail_if_no_progress with_reducible refine Keeps.mk_ ?_ rfl rfl
    | refine Keeps.of_eq (by assumption) ?_ | refine State.ringRoom_keeps ?_ (by assumption) | split

theorem State.snrFrom_keeps {a₀ s : State} {k : Nat} {psa : Nat} {eqset : Nat} {l : List (Nat × Nat)} (hk : Keeps a₀ s) :
    Keeps a₀ (State.snrFrom s k psa eqset l).2 := by
  unfold State.snrFrom
  try dsimp only
  repeat' first
    | with_reducible assumption | with_reducible refine State.useFree_keeps ?_
    | (with_reducible refine Keeps.foldlP_ (fun t x ht => ?_) ?_ <;> try dsimp only)
    | (with_reducible refine Keeps.foldl_ (fun t x ht => ?_) ?_ <;> try dsimp only) | split

theorem State.recordSnr_keeps {a₀ s : State} {k : Nat} {psa : Nat} {eqset : Nat} {iters : Nat} {e : Nat × Nat} (hk : Keeps a₀ s) :
    Keeps a₀ (State.recordSnr s k psa eqset iters e) := by
  unfold State.recordSnr
  try dsimp only
  repeat' first
    | with_reducible assumption | with_reducible refine State.setChn_keeps ?_ | with_reducible refine State.setF_keeps ?_
    | with_reducible refine State.snrFrom_keeps ?_
    | (with_reducible refine Keeps.foldl_ (fun t x ht => ?_) ?_ <;> try dsimp only)
    | fail_if_no_progress with_reducible refine Keeps.mk_ ?_ rfl rfl | refine Keeps.of_eq (by assumption) ?_
    | refine Keeps.of_eq2 (by assumption) ?_ | split

theorem State.adapt_keeps {a₀ s : State} {k : Nat} {psa : Nat} {r : SampleRec} {offset : Int} {resync : List Int} {word : Nat} (hk : Keeps a₀ s) :
    Keeps a₀ (State.adapt s k psa r offset resync word) := by
  unfold State.adapt
  try dsimp only
  repeat' first
    | with_reducible assumption | with_reducible refine State.setChn_keeps ?_ | with_reducible refine Keeps.ite_ ?_ ?_
    | fail_if_no_progress with_reducible refine Keeps.mk_ ?_ rfl rfl | split

theorem State.trialFailed_keeps {a₀ s : State} {w : Work} {r : RingSector} (hk : Keeps a₀ s) :
    Keeps a₀ (State.trialFailed s w r) := by
  unfold State.trialFailed
  try dsimp only
  repeat' first
    | with_reducible assumption | with_reducible refine State.setRing__keeps ?_ | with_reducible refine State.addWork_keeps ?_
    | with_reducible refine State.erase_keeps ?_ | with_reducible refine Keeps.ite_ ?_ ?_
    | fail_if_no_progress with_reducible refine Keeps.mk_ ?_ rfl rfl | split

theorem State.trialEnds_keeps {a₀ s : State} {w : Work} {r : RingSector} {res : Nat} (hk : Keeps a₀ s) :
    Keeps a₀ (State.trialEnds s w r res) := by
  unfold State.trialEnds
  try dsimp only
  repeat' first
    | with_reducible assumption | with_reducible refine State.showCands_keeps ?_ | with_reducible refine State.bumpF_keeps ?_
    | with_reducible refine Keeps.ite_ ?_ ?_ | fail_if_no_progress with_reducible refine Keeps.mk_ ?_ rfl rfl

theorem State.seen_keeps {a₀ s : State} {psa : Nat} {word : Nat} (hk : Keeps a₀ s) :
    Keeps a₀ (State.seen s psa word) := by
  unfold State.seen
  try dsimp only
  repeat' first
    | with_reducible assumption | with_reducible refine Keeps.ite_ ?_ ?_
    | fail_if_no_progress with_reducible refine Keeps.mk_ ?_ rfl rfl

theorem State.tagMismatch_keeps {a₀ s : State} {psa : Nat} (hk : Keeps a₀ s) :
    Keeps a₀ (State.tagMismatch s psa) := by
  unfold State.tagMismatch
  try dsimp only
  repeat' first
    | with_reducible assumption | with_reducible refine State.raise_keeps ?_
    | fail_if_no_progress with_reducible refine Keeps.mk_ ?_ rfl rfl

theorem State.ladderBack_keeps {a₀ s : State} {w : Work} (hk : Keeps a₀ s) :
    Keeps a₀ (State.ladderBack s w) := by
  unfold State.ladderBack
  try dsimp only
  repeat' first
    | with_reducible assumption | with_reducible refine Keeps.ite_ ?_ ?_
    | fail_if_no_progress with_reducible refine Keeps.mk_ ?_ rfl rfl

theorem State.ladderMismatch_keeps {a₀ s : State} {psa : Nat} (hk : Keeps a₀ s) :
    Keeps a₀ (State.ladderMismatch s psa) := by
  unfold State.ladderMismatch
  try dsimp only
  repeat' first
    | with_reducible assumption | with_reducible refine Keeps.ite_ ?_ ?_
    | fail_if_no_progress with_reducible refine Keeps.mk_ ?_ rfl rfl | split

theorem State.trialVerdict_keeps {a₀ s : State} {w : Work} {r : RingSector} {res : Nat} {word : Nat} {iters : Nat} (hk : Keeps a₀ s) :
    Keeps a₀ (State.trialVerdict s w r res word iters) := by
  unfold State.trialVerdict
  try dsimp only
  repeat' first
    | with_reducible assumption | with_reducible refine State.trialFailed_keeps ?_
    | with_reducible refine State.trialEnds_keeps ?_ | with_reducible refine State.confirm_keeps ?_
    | with_reducible refine State.seen_keeps ?_ | with_reducible refine State.recordSnr_keeps ?_
    | with_reducible refine State.adapt_keeps ?_ | with_reducible refine State.tagMismatch_keeps ?_
    | with_reducible refine Keeps.ite_ ?_ ?_ | split

theorem State.ladderVerdict_keeps {a₀ s : State} {w : Work} {rec_ : SampleRec} {res : Nat} {word : Nat} {iters : Nat} (hk : Keeps a₀ s) :
    Keeps a₀ (State.ladderVerdict s w rec_ res word iters) := by
  unfold State.ladderVerdict
  try dsimp only
  repeat' first
    | with_reducible assumption | with_reducible refine State.confirm_keeps ?_ | with_reducible refine State.seen_keeps ?_
    | with_reducible refine State.recordSnr_keeps ?_ | with_reducible refine State.recovered_keeps ?_
    | with_reducible refine State.ladderBack_keeps ?_ | with_reducible refine State.tagMismatch_keeps ?_
    | with_reducible refine State.ladderMismatch_keeps ?_ | with_reducible refine Keeps.ite_ ?_ ?_
    | fail_if_no_progress with_reducible refine Keeps.mk_ ?_ rfl rfl | split

theorem execDecodeComplete_keeps {a₀ s : State} {n : Nat} {upset : Nat} (hk : Keeps a₀ s) :
    ∃ u₀, (execDecodeComplete n upset s) = .next u₀ ∧ Keeps a₀ u₀ := by
  unfold execDecodeComplete
  refine ⟨_, rfl, ?_⟩
  try dsimp only
  repeat' first
    | with_reducible assumption | with_reducible refine State.setF_keeps ?_ | with_reducible refine State.setInst_keeps ?_
    | with_reducible refine State.raise_keeps ?_ | with_reducible refine State.ladderVerdict_keeps ?_
    | with_reducible refine State.trialVerdict_keeps ?_ | with_reducible refine State.dispatchAll_keeps ?_
    | with_reducible refine Keeps.ite_ ?_ ?_ | split

theorem execSampleCopyDone_keeps {a₀ s : State} {k : Nat} (hk : Keeps a₀ s) :
    ∃ u₀, (execSampleCopyDone k s) = .next u₀ ∧ Keeps a₀ u₀ := by
  unfold execSampleCopyDone
  refine ⟨_, rfl, ?_⟩
  try dsimp only
  repeat' first
    | with_reducible assumption | with_reducible refine State.copyDone_keeps ?_ | split

theorem State.countRevs_keeps {a₀ s : State} {k : Nat} (hk : Keeps a₀ s) :
    Keeps a₀ (State.countRevs s k) := by
  unfold State.countRevs
  try dsimp only
  repeat' first
    | with_reducible assumption | with_reducible refine State.setChn_keeps ?_ | with_reducible refine Keeps.ite_ ?_ ?_
    | fail_if_no_progress with_reducible refine Keeps.mk_ ?_ rfl rfl

theorem State.setSec_keeps {a₀ s : State} {n : Nat} {x : SecState} (hk : Keeps a₀ s) :
    Keeps a₀ (State.setSec s n x) := by
  unfold State.setSec
  try dsimp only
  repeat' first
    | with_reducible assumption | with_reducible refine Keeps.ite_ ?_ ?_
    | fail_if_no_progress with_reducible refine Keeps.mk_ ?_ rfl rfl

theorem State.section_keeps {a₀ s : State} {n : Nat} {ilim : Nat} {x : Int} (hk : Keeps a₀ s) :
    Keeps a₀ (State.section s n ilim x).1 := by
  unfold State.section
  try dsimp only
  repeat' first
    | with_reducible assumption | with_reducible refine State.setSec_keeps ?_ | split

theorem State.countRun_keeps {a₀ s : State} {m : List (Nat × Nat)} {l : Nat} {limit : Nat} {src : Nat} {flag : Bool} (hk : Keeps a₀ s) :
    Keeps a₀ (State.countRun s m l limit src flag).1 := by
  unfold State.countRun
  try dsimp only
  repeat' first
    | with_reducible assumption | with_reducible refine State.raise_keeps ?_ | with_reducible refine Keeps.ite_ ?_ ?_ | split

theorem State.runLoop_keeps {a₀ s : State} {l : Nat} {input : Int} (hk : Keeps a₀ s) :
    Keeps a₀ (State.runLoop s l input).1 := by
  unfold State.runLoop
  try dsimp only
  repeat' first
    | with_reducible assumption | with_reducible refine State.section_keeps ?_ | with_reducible refine State.setF_keeps ?_
    | with_reducible refine State.countRun_keeps ?_ | with_reducible refine Keeps.ite_ ?_ ?_
    | (with_reducible refine Keeps.foldlP_ (fun t x ht => ?_) ?_ <;> try dsimp only)
    | (with_reducible refine Keeps.foldl_ (fun t x ht => ?_) ?_ <;> try dsimp only)
    | fail_if_no_progress with_reducible refine Keeps.mk_ ?_ rfl rfl | split

theorem State.enableLoop_keeps {a₀ s : State} {l : Nat} {out : Int} (hk : Keeps a₀ s) :
    Keeps a₀ (State.enableLoop s l out) := by
  unfold State.enableLoop
  try dsimp only
  repeat' first
    | with_reducible assumption | with_reducible refine State.setSec_keeps ?_ | with_reducible refine State.setF_keeps ?_
    | with_reducible refine Keeps.ite_ ?_ ?_ | fail_if_no_progress with_reducible refine Keeps.mk_ ?_ rfl rfl

theorem State.disableLoop_keeps {a₀ s : State} {l : Nat} (hk : Keeps a₀ s) :
    Keeps a₀ (State.disableLoop s l) := by
  unfold State.disableLoop
  try dsimp only
  repeat' first
    | with_reducible assumption | with_reducible refine State.setF_keeps ?_
    | (with_reducible refine Keeps.foldl_ (fun t x ht => ?_) ?_ <;> try dsimp only)
    | fail_if_no_progress with_reducible refine Keeps.mk_ ?_ rfl rfl

theorem State.startRamp_keeps {a₀ s : State} {l : Nat} (hk : Keeps a₀ s) :
    Keeps a₀ (State.startRamp s l) := by
  unfold State.startRamp
  try dsimp only
  repeat' first
    | with_reducible assumption | with_reducible refine State.setF_keeps ?_ | with_reducible refine State.setSrv_keeps ?_
    | fail_if_no_progress with_reducible refine Keeps.mk_ ?_ rfl rfl | split

theorem State.targetPitch_keeps {a₀ s : State} {k : Nat} (hk : Keeps a₀ s) :
    Keeps a₀ (State.targetPitch s k) := by
  unfold State.targetPitch
  try dsimp only
  repeat' first
    | with_reducible assumption | with_reducible refine State.usePitch_keeps ?_ | split

theorem State.startTrajectory_keeps {a₀ s : State} {k : Nat} (hk : Keeps a₀ s) :
    Keeps a₀ (State.startTrajectory s k) := by
  unfold State.startTrajectory
  try dsimp only
  repeat' first
    | with_reducible assumption | with_reducible refine State.disableLoop_keeps ?_
    | with_reducible refine State.enableLoop_keeps ?_ | with_reducible refine State.setSrv_keeps ?_
    | fail_if_no_progress with_reducible refine Keeps.mk_ ?_ rfl rfl

theorem State.servoMode_keeps {a₀ s : State} {k : Nat} {m : Nat} (hk : Keeps a₀ s) :
    Keeps a₀ (State.servoMode s k m) := by
  unfold State.servoMode
  try dsimp only
  repeat' first
    | with_reducible assumption | with_reducible refine State.setF_keeps ?_ | with_reducible refine Keeps.ite_ ?_ ?_

theorem State.retarget_keeps {a₀ t : State} {k : Nat} (hk : Keeps a₀ t) :
    Keeps a₀ (State.retarget t k) := by
  unfold State.retarget
  try dsimp only
  repeat' first
    | with_reducible assumption | with_reducible refine State.setSrv_keeps ?_ | with_reducible refine State.targetPitch_keeps ?_
    | with_reducible refine State.inhibit_keeps ?_ | with_reducible refine State.setF_keeps ?_
    | with_reducible refine State.disableLoop_keeps ?_ | with_reducible refine State.enableLoop_keeps ?_
    | with_reducible refine State.startRamp_keeps ?_ | with_reducible refine State.servoMode_keeps ?_
    | with_reducible refine State.startTrajectory_keeps ?_ | with_reducible refine Keeps.ite_ ?_ ?_
    | fail_if_no_progress with_reducible refine Keeps.mk_ ?_ rfl rfl

theorem State.advanceRef_keeps {a₀ s : State} {k : Nat} {trajEnd : Bool} (hk : Keeps a₀ s) :
    Keeps a₀ (State.advanceRef s k trajEnd) := by
  unfold State.advanceRef
  try dsimp only
  repeat' first
    | with_reducible assumption | with_reducible refine State.startTrajectory_keeps ?_
    | with_reducible refine State.setSrv_keeps ?_ | with_reducible refine State.disableLoop_keeps ?_
    | with_reducible refine State.enableLoop_keeps ?_ | with_reducible refine State.startRamp_keeps ?_
    | with_reducible refine State.servoMode_keeps ?_ | with_reducible refine State.useFree_keeps ?_
    | with_reducible refine State.retract_keeps ?_ | with_reducible refine State.setF_keeps ?_
    | with_reducible refine Keeps.ite_ ?_ ?_ | fail_if_no_progress with_reducible refine Keeps.mk_ ?_ rfl rfl | split

theorem State.capture_keeps {a₀ s : State} {node : Nat} {sum : Int} {ret : Int} (hk : Keeps a₀ s) :
    Keeps a₀ (State.capture s node sum ret) := by
  unfold State.capture
  try dsimp only
  repeat' first
    | with_reducible assumption | with_reducible refine State.setF_keeps ?_ | with_reducible refine Keeps.ite_ ?_ ?_
    | fail_if_no_progress with_reducible refine Keeps.mk_ ?_ rfl rfl | split

theorem State.startInjection_keeps {a₀ s : State} (hk : Keeps a₀ s) :
    Keeps a₀ (State.startInjection s) := by
  unfold State.startInjection
  try dsimp only
  repeat' first
    | with_reducible assumption | with_reducible refine State.setDictNum_keeps ?_ | with_reducible refine State.setF_keeps ?_
    | with_reducible refine State.inhibitBoth_keeps ?_ | with_reducible refine State.inhibit_keeps ?_
    | with_reducible refine State.settle_keeps ?_ | with_reducible refine Keeps.ite_ ?_ ?_
    | fail_if_no_progress with_reducible refine Keeps.mk_ ?_ rfl rfl

theorem execInjectionStart_keeps {a₀ s : State} (hk : Keeps a₀ s) :
    ∃ u₀, (execInjectionStart s) = .next u₀ ∧ Keeps a₀ u₀ := by
  unfold execInjectionStart
  try dsimp only
  repeat' first
    | with_reducible refine Keeps.next_ ?_ | with_reducible refine Keeps.iteR_ ?_ ?_
    | with_reducible assumption | with_reducible refine State.startInjection_keeps ?_
    | split

theorem State.writeResponse_keeps {a₀ s : State} {x : Inject} (hk : Keeps a₀ s) :
    Keeps a₀ (State.writeResponse s x) := by
  unfold State.writeResponse
  try dsimp only
  repeat' first
    | with_reducible assumption | with_reducible refine State.setDict_keeps ?_ | with_reducible refine State.setDictNum_keeps ?_
    | with_reducible refine State.useFree_keeps ?_ | with_reducible refine Keeps.ite_ ?_ ?_
    | (with_reducible refine Keeps.foldlP_ (fun t x ht => ?_) ?_ <;> try dsimp only)
    | (with_reducible refine Keeps.foldl_ (fun t x ht => ?_) ?_ <;> try dsimp only) | split

theorem execCaptureComplete_keeps {a₀ s : State} (hk : Keeps a₀ s) :
    ∃ u₀, (execCaptureComplete s) = .next u₀ ∧ Keeps a₀ u₀ := by
  unfold execCaptureComplete
  refine ⟨_, rfl, ?_⟩
  try dsimp only
  repeat' first
    | with_reducible assumption | with_reducible refine State.setF_keeps ?_ | with_reducible refine State.setDictNum_keeps ?_
    | with_reducible refine State.uninhibitBoth_keeps ?_ | with_reducible refine State.uninhibit_keeps ?_
    | with_reducible refine State.writeResponse_keeps ?_ | with_reducible refine State.event_keeps ?_
    | with_reducible refine Keeps.ite_ ?_ ?_ | fail_if_no_progress with_reducible refine Keeps.mk_ ?_ rfl rfl | split

theorem State.setDacZero_keeps {a₀ s : State} {k : Nat} {b : Bool} (hk : Keeps a₀ s) :
    Keeps a₀ (State.setDacZero s k b) := by
  unfold State.setDacZero
  try dsimp only
  repeat' first
    | with_reducible assumption | with_reducible refine Keeps.ite_ ?_ ?_
    | fail_if_no_progress with_reducible refine Keeps.mk_ ?_ rfl rfl

theorem State.setPoint_keeps {a₀ s : State} {k : Nat} {uv : Int} {uma : Int} (hk : Keeps a₀ s) :
    Keeps a₀ (State.setPoint s k uv uma) := by
  unfold State.setPoint
  try dsimp only
  repeat' first
    | with_reducible assumption | with_reducible refine Keeps.ite_ ?_ ?_
    | fail_if_no_progress with_reducible refine Keeps.mk_ ?_ rfl rfl

theorem State.cleCompute_keeps {a₀ s : State} {k : Nat} {w : Nat} {dac : Int} (hk : Keeps a₀ s) :
    Keeps a₀ (State.cleCompute s k w dac) := by
  unfold State.cleCompute
  try dsimp only
  repeat' first
    | with_reducible assumption | with_reducible refine State.runLoop_keeps ?_ | with_reducible refine State.useFree_keeps ?_
    | with_reducible refine State.capture_keeps ?_ | with_reducible refine State.setSrv_keeps ?_
    | with_reducible refine State.setPoint_keeps ?_ | with_reducible refine State.setF_keeps ?_
    | with_reducible refine State.setDacZero_keeps ?_ | with_reducible refine State.disableLoop_keeps ?_
    | with_reducible refine State.raiseMotion_keeps ?_ | with_reducible refine Keeps.ite_ ?_ ?_
    | fail_if_no_progress with_reducible refine Keeps.mk_ ?_ rfl rfl | split

theorem State.learnWedge_keeps {a₀ s : State} {k : Nat} {w : Nat} (hk : Keeps a₀ s) :
    Keeps a₀ (State.learnWedge s k w) := by
  unfold State.learnWedge
  try dsimp only
  repeat' first
    | with_reducible assumption | with_reducible refine State.setF_keeps ?_ | with_reducible refine Keeps.ite_ ?_ ?_
    | fail_if_no_progress with_reducible refine Keeps.mk_ ?_ rfl rfl

theorem State.learnRev_keeps {a₀ s : State} {h : Nat} (hk : Keeps a₀ s) :
    Keeps a₀ (State.learnRev s h) := by
  unfold State.learnRev
  try dsimp only
  repeat' first
    | with_reducible assumption | with_reducible refine State.setF_keeps ?_ | with_reducible refine Keeps.ite_ ?_ ?_
    | fail_if_no_progress with_reducible refine Keeps.mk_ ?_ rfl rfl | split

theorem State.revolution_keeps {a₀ s : State} {k : Nat} (hk : Keeps a₀ s) :
    Keeps a₀ (State.revolution s k) := by
  unfold State.revolution
  try dsimp only
  repeat' first
    | with_reducible assumption | with_reducible refine State.raise_keeps ?_ | with_reducible refine State.indexPasses_keeps ?_
    | with_reducible refine State.countRevs_keeps ?_ | with_reducible refine State.setSrv_keeps ?_
    | with_reducible refine State.learnRev_keeps ?_ | with_reducible refine Keeps.ite_ ?_ ?_
    | (with_reducible refine Keeps.foldl_ (fun t x ht => ?_) ?_ <;> try dsimp only)
    | fail_if_no_progress with_reducible refine Keeps.mk_ ?_ rfl rfl

theorem execRunoutLearnTimeout_keeps {a₀ s : State} {h : Nat} (hk : Keeps a₀ s) :
    ∃ u₀, (execRunoutLearnTimeout h s) = .next u₀ ∧ Keeps a₀ u₀ := by
  unfold execRunoutLearnTimeout
  refine ⟨_, rfl, ?_⟩
  try dsimp only
  repeat' first
    | with_reducible assumption | with_reducible refine State.raise_keeps ?_ | with_reducible refine Keeps.ite_ ?_ ?_
    | fail_if_no_progress with_reducible refine Keeps.mk_ ?_ rfl rfl | split

theorem State.showServo_keeps {a₀ s : State} {k : Nat} (hk : Keeps a₀ s) :
    Keeps a₀ (State.showServo s k) := by
  unfold State.showServo
  try dsimp only
  repeat' first
    | with_reducible assumption | with_reducible refine State.setF_keeps ?_

theorem State.residualCheck_keeps {a₀ s : State} {k : Nat} {resid : Int} (hk : Keeps a₀ s) :
    Keeps a₀ (State.residualCheck s k resid) := by
  unfold State.residualCheck
  try dsimp only
  repeat' first
    | with_reducible assumption | with_reducible refine State.setSrv_keeps ?_ | with_reducible refine State.stat_keeps ?_
    | with_reducible refine State.inhibit_keeps ?_ | with_reducible refine State.raise_keeps ?_
    | with_reducible refine State.uninhibit_keeps ?_ | with_reducible refine Keeps.ite_ ?_ ?_
    | fail_if_no_progress with_reducible refine Keeps.mk_ ?_ rfl rfl

theorem State.pesCheck_keeps {a₀ s : State} {k : Nat} {pes : Int} (hk : Keeps a₀ s) :
    Keeps a₀ (State.pesCheck s k pes) := by
  unfold State.pesCheck
  try dsimp only
  repeat' first
    | with_reducible assumption | with_reducible refine State.setSrv_keeps ?_ | with_reducible refine State.inhibit_keeps ?_
    | with_reducible refine State.uninhibit_keeps ?_ | with_reducible refine Keeps.ite_ ?_ ?_
    | fail_if_no_progress with_reducible refine Keeps.mk_ ?_ rfl rfl

theorem State.settleCheck_keeps {a₀ s : State} {k : Nat} {pes : Int} (hk : Keeps a₀ s) :
    Keeps a₀ (State.settleCheck s k pes) := by
  unfold State.settleCheck
  try dsimp only
  repeat' first
    | with_reducible assumption | with_reducible refine State.setSrv_keeps ?_ | with_reducible refine State.setF_keeps ?_
    | with_reducible refine State.enableLoop_keeps ?_ | with_reducible refine State.startRamp_keeps ?_
    | with_reducible refine State.uninhibit_keeps ?_ | with_reducible refine Keeps.ite_ ?_ ?_
    | fail_if_no_progress with_reducible refine Keeps.mk_ ?_ rfl rfl

theorem State.reportWedge_keeps {a₀ s : State} {k : Nat} {p : Int} {resid : Int} (hk : Keeps a₀ s) :
    Keeps a₀ (State.reportWedge s k p resid) := by
  unfold State.reportWedge
  try dsimp only
  repeat' first
    | with_reducible assumption | with_reducible refine State.setF_keeps ?_

theorem State.wedgeId_keeps {a₀ s : State} {k : Nat} {id : Nat} (hk : Keeps a₀ s) :
    Keeps a₀ (State.wedgeId s k id) := by
  unfold State.wedgeId
  try dsimp only
  repeat' first
    | with_reducible assumption | with_reducible refine State.setF_keeps ?_ | with_reducible refine State.setSrv_keeps ?_
    | with_reducible refine State.revolution_keeps ?_ | with_reducible refine Keeps.ite_ ?_ ?_
    | fail_if_no_progress with_reducible refine Keeps.mk_ ?_ rfl rfl

theorem State.markTw_keeps {a₀ s : State} {k : Nat} {w : WedgeData} {valid : Bool} (hk : Keeps a₀ s) :
    Keeps a₀ (State.markTw s k w valid) := by
  unfold State.markTw
  try dsimp only
  repeat' first
    | with_reducible assumption | with_reducible refine State.setSrv_keeps ?_ | with_reducible refine State.setF_keeps ?_
    | with_reducible refine State.rescale_keeps ?_ | with_reducible refine Keeps.ite_ ?_ ?_
    | fail_if_no_progress with_reducible refine Keeps.mk_ ?_ rfl rfl

theorem State.rroCheck_keeps {a₀ s : State} {k : Nat} {w : WedgeData} (hk : Keeps a₀ s) :
    Keeps a₀ (State.rroCheck s k w) := by
  unfold State.rroCheck
  try dsimp only
  repeat' first
    | with_reducible assumption | with_reducible refine State.stat_keeps ?_ | with_reducible refine State.setSrv_keeps ?_
    | with_reducible refine Keeps.ite_ ?_ ?_ | fail_if_no_progress with_reducible refine Keeps.mk_ ?_ rfl rfl

theorem State.validWedge_keeps {a₀ s : State} {k : Nat} {w : WedgeData} {trajEnd : Bool} {dac : Int} (hk : Keeps a₀ s) :
    Keeps a₀ (State.validWedge s k w trajEnd dac) := by
  unfold State.validWedge
  try dsimp only
  repeat' first
    | with_reducible assumption | with_reducible refine State.markTw_keeps ?_ | with_reducible refine State.rroCheck_keeps ?_
    | with_reducible refine State.residualCheck_keeps ?_ | with_reducible refine State.setSrv_keeps ?_
    | with_reducible refine State.uninhibit_keeps ?_ | with_reducible refine State.retarget_keeps ?_
    | with_reducible refine State.advanceRef_keeps ?_ | with_reducible refine State.reportWedge_keeps ?_
    | with_reducible refine State.pesCheck_keeps ?_ | with_reducible refine State.settleCheck_keeps ?_
    | with_reducible refine State.cleCompute_keeps ?_ | with_reducible refine State.learnWedge_keeps ?_
    | with_reducible refine State.wedgeId_keeps ?_ | with_reducible refine State.showServo_keeps ?_
    | with_reducible refine Keeps.ite_ ?_ ?_ | fail_if_no_progress with_reducible refine Keeps.mk_ ?_ rfl rfl

theorem State.abortSectors_keeps {a₀ s : State} {k : Nat} (hk : Keeps a₀ s) :
    Keeps a₀ (State.abortSectors s k) := by
  unfold State.abortSectors
  try dsimp only
  repeat' first
    | with_reducible assumption | with_reducible refine State.setRing__keeps ?_ | with_reducible refine State.setChn_keeps ?_
    | with_reducible refine State.setF_keeps ?_ | with_reducible refine Keeps.ite_ ?_ ?_
    | (with_reducible refine Keeps.foldl_ (fun t x ht => ?_) ?_ <;> try dsimp only)
    | fail_if_no_progress with_reducible refine Keeps.mk_ ?_ rfl rfl

theorem State.overServo_keeps {a₀ s : State} {k : Nat} (hk : Keeps a₀ s) :
    Keeps a₀ (State.overServo s k) := by
  unfold State.overServo
  try dsimp only
  repeat' first
    | with_reducible assumption | with_reducible refine State.setChn_keeps ?_ | with_reducible refine State.setF_keeps ?_
    | with_reducible refine State.emit_keeps ?_ | with_reducible refine State.servoField_keeps ?_
    | with_reducible refine Keeps.ite_ ?_ ?_ | fail_if_no_progress with_reducible refine Keeps.mk_ ?_ rfl rfl

theorem State.sequenceLost_keeps {a₀ s : State} {k : Nat} (hk : Keeps a₀ s) :
    Keeps a₀ (State.sequenceLost s k) := by
  unfold State.sequenceLost
  try dsimp only
  repeat' first
    | with_reducible assumption | with_reducible refine State.inhibit_keeps ?_
    | with_reducible refine State.abortSectors_keeps ?_ | with_reducible refine State.disableLoop_keeps ?_
    | with_reducible refine State.setF_keeps ?_ | with_reducible refine State.stat_keeps ?_
    | with_reducible refine State.setSrv_keeps ?_ | with_reducible refine State.settle_keeps ?_
    | with_reducible refine State.showServo_keeps ?_ | fail_if_no_progress with_reducible refine Keeps.mk_ ?_ rfl rfl

theorem State.lackWedge_keeps {a₀ s : State} {k : Nat} {trajEnd : Bool} {dac : Int} (hk : Keeps a₀ s) :
    Keeps a₀ (State.lackWedge s k trajEnd dac) := by
  unfold State.lackWedge
  try dsimp only
  repeat' first
    | with_reducible assumption | with_reducible refine State.sequenceLost_keeps ?_
    | with_reducible refine State.setSrv_keeps ?_ | with_reducible refine State.inhibit_keeps ?_
    | with_reducible refine State.stat_keeps ?_ | with_reducible refine State.advanceRef_keeps ?_
    | with_reducible refine State.reportWedge_keeps ?_ | with_reducible refine State.cleCompute_keeps ?_
    | with_reducible refine State.wedgeId_keeps ?_ | with_reducible refine State.raise_keeps ?_
    | with_reducible refine State.showServo_keeps ?_ | with_reducible refine Keeps.ite_ ?_ ?_
    | fail_if_no_progress with_reducible refine Keeps.mk_ ?_ rfl rfl

theorem State.missWedge_keeps {a₀ s : State} {k : Nat} {trajEnd : Bool} {dac : Int} (hk : Keeps a₀ s) :
    Keeps a₀ (State.missWedge s k trajEnd dac) := by
  unfold State.missWedge
  try dsimp only
  repeat' first
    | with_reducible assumption | with_reducible refine State.setSrv_keeps ?_ | with_reducible refine State.stat_keeps ?_
    | with_reducible refine State.lackWedge_keeps ?_ | fail_if_no_progress with_reducible refine Keeps.mk_ ?_ rfl rfl

theorem State.seekMarks_keeps {a₀ s : State} {k : Nat} {w : WedgeData} {found : Bool} {dac : Int} (hk : Keeps a₀ s) :
    Keeps a₀ (State.seekMarks s k w found dac) := by
  unfold State.seekMarks
  try dsimp only
  repeat' first
    | with_reducible assumption | with_reducible refine State.setSrv_keeps ?_ | with_reducible refine State.markTw_keeps ?_
    | with_reducible refine State.setF_keeps ?_ | with_reducible refine State.rroCheck_keeps ?_
    | with_reducible refine State.cleCompute_keeps ?_ | with_reducible refine State.showServo_keeps ?_
    | with_reducible refine State.uninhibit_keeps ?_ | with_reducible refine State.reportWedge_keeps ?_
    | with_reducible refine State.retarget_keeps ?_ | with_reducible refine State.settle_keeps ?_
    | with_reducible refine Keeps.ite_ ?_ ?_ | fail_if_no_progress with_reducible refine Keeps.mk_ ?_ rfl rfl

theorem execServoWedge_keeps {a₀ s : State} {k : Nat} {w : WedgeData} {trajEnd : Bool} {dac : Int} (hk : Keeps a₀ s) :
    ∃ u₀, (execServoWedge k w trajEnd dac s) = .next u₀ ∧ Keeps a₀ u₀ := by
  unfold execServoWedge
  refine ⟨_, rfl, ?_⟩
  try dsimp only
  repeat' first
    | with_reducible assumption | with_reducible refine State.overServo_keeps ?_
    | with_reducible refine State.seekMarks_keeps ?_ | with_reducible refine State.missWedge_keeps ?_
    | with_reducible refine State.settle_keeps ?_ | with_reducible refine State.validWedge_keeps ?_
    | with_reducible refine State.markTw_keeps ?_ | with_reducible refine State.lackWedge_keeps ?_
    | with_reducible refine Keeps.ite_ ?_ ?_ | split

theorem execWedgePredicted_keeps {a₀ s : State} {k : Nat} {trajEnd : Bool} {dac : Int} (hk : Keeps a₀ s) :
    ∃ u₀, (execWedgePredicted k trajEnd dac s) = .next u₀ ∧ Keeps a₀ u₀ := by
  unfold execWedgePredicted
  refine ⟨_, rfl, ?_⟩
  try dsimp only
  repeat' first
    | with_reducible assumption | with_reducible refine State.overServo_keeps ?_ | with_reducible refine State.setSrv_keeps ?_
    | with_reducible refine State.cleCompute_keeps ?_ | with_reducible refine State.missWedge_keeps ?_
    | with_reducible refine State.settle_keeps ?_ | with_reducible refine Keeps.ite_ ?_ ?_
    | fail_if_no_progress with_reducible refine Keeps.mk_ ?_ rfl rfl

theorem execWedgeSequenceLost_keeps {a₀ s : State} {k : Nat} (hk : Keeps a₀ s) :
    ∃ u₀, (execWedgeSequenceLost k s) = .next u₀ ∧ Keeps a₀ u₀ := by
  unfold execWedgeSequenceLost
  refine ⟨_, rfl, ?_⟩
  try dsimp only
  repeat' first
    | with_reducible assumption | with_reducible refine State.overServo_keeps ?_
    | with_reducible refine State.sequenceLost_keeps ?_ | with_reducible refine Keeps.ite_ ?_ ?_

theorem execReacquireTimeout_keeps {a₀ s : State} {k : Nat} (hk : Keeps a₀ s) :
    ∃ u₀, (execReacquireTimeout k s) = .next u₀ ∧ Keeps a₀ u₀ := by
  unfold execReacquireTimeout
  refine ⟨_, rfl, ?_⟩
  try dsimp only
  repeat' first
    | with_reducible assumption | with_reducible refine State.retract_keeps ?_ | with_reducible refine State.raise_keeps ?_
    | with_reducible refine Keeps.ite_ ?_ ?_ | fail_if_no_progress with_reducible refine Keeps.mk_ ?_ rfl rfl

theorem execCleOverrun_keeps {a₀ s : State} {k : Nat} (hk : Keeps a₀ s) :
    ∃ u₀, (execCleOverrun k s) = .next u₀ ∧ Keeps a₀ u₀ := by
  unfold execCleOverrun
  refine ⟨_, rfl, ?_⟩
  try dsimp only
  repeat' first
    | with_reducible assumption | with_reducible refine State.setSrv_keeps ?_ | with_reducible refine State.setPoint_keeps ?_
    | with_reducible refine State.setF_keeps ?_ | with_reducible refine State.raise_keeps ?_
    | fail_if_no_progress with_reducible refine Keeps.mk_ ?_ rfl rfl

theorem execSrvTargetWrite_keeps {a₀ s : State} {k : Nat} {target : BitVec 32} (hk : Keeps a₀ s) :
    ∃ u₀, (execSrvTargetWrite k target s) = .next u₀ ∧ Keeps a₀ u₀ := by
  unfold execSrvTargetWrite
  refine ⟨_, rfl, ?_⟩
  try dsimp only
  repeat' first
    | with_reducible assumption | with_reducible refine State.setF_keeps ?_ | with_reducible refine State.setSrv_keeps ?_
    | with_reducible refine State.retarget_keeps ?_ | with_reducible refine State.settle_keeps ?_
    | with_reducible refine State.showServo_keeps ?_ | with_reducible refine Keeps.ite_ ?_ ?_
    | fail_if_no_progress with_reducible refine Keeps.mk_ ?_ rfl rfl

theorem execCleLoopEnable_keeps {a₀ s : State} {l : Nat} (hk : Keeps a₀ s) :
    ∃ u₀, (execCleLoopEnable l s) = .next u₀ ∧ Keeps a₀ u₀ := by
  unfold execCleLoopEnable
  refine ⟨_, rfl, ?_⟩
  try dsimp only
  repeat' first
    | with_reducible assumption | with_reducible refine State.enableLoop_keeps ?_ | with_reducible refine State.setF_keeps ?_
    | with_reducible refine State.startRamp_keeps ?_ | with_reducible refine Keeps.ite_ ?_ ?_
    | fail_if_no_progress with_reducible refine Keeps.mk_ ?_ rfl rfl

theorem State.headWritten_keeps {a₀ s : State} {k : Nat} {head : Nat} {back : List Nat} (hk : Keeps a₀ s) :
    Keeps a₀ (State.headWritten s k head back) := by
  unfold State.headWritten
  try dsimp only
  repeat' first
    | with_reducible assumption | with_reducible refine State.inhibit_keeps ?_ | with_reducible refine State.preampSet_keeps ?_
    | with_reducible refine State.setPre_keeps ?_ | with_reducible refine State.setF_keeps ?_
    | with_reducible refine State.packLin_keeps ?_ | with_reducible refine State.setSrv_keeps ?_
    | with_reducible refine State.settle_keeps ?_ | fail_if_no_progress with_reducible refine Keeps.mk_ ?_ rfl rfl | split

theorem execHeadSwitch_keeps {a₀ s : State} {k : Nat} {head : Nat} {back : List Nat} {offsets : List Nat} (hk : Keeps a₀ s) :
    ∃ u₀, (execHeadSwitch k head back offsets s) = .next u₀ ∧ Keeps a₀ u₀ := by
  unfold execHeadSwitch
  refine ⟨_, rfl, ?_⟩
  try dsimp only
  repeat' first
    | with_reducible assumption | with_reducible refine State.headWritten_keeps ?_ | with_reducible refine State.raise_keeps ?_
    | with_reducible refine State.showServo_keeps ?_ | with_reducible refine Keeps.ite_ ?_ ?_

theorem execPreScmdGo_keeps {a₀ s : State} {k : Nat} {read : Bool} {addr : Nat} {data : Nat} {answer : Option Nat} {back : List Nat} (hk : Keeps a₀ s) :
    ∃ u₀, (execPreScmdGo k read addr data answer back s) = .next u₀ ∧ Keeps a₀ u₀ := by
  unfold execPreScmdGo
  refine ⟨_, rfl, ?_⟩
  try dsimp only
  repeat' first
    | with_reducible assumption | with_reducible refine State.setF_keeps ?_ | with_reducible refine State.preampFrame_keeps ?_
    | with_reducible refine State.setPre_keeps ?_ | with_reducible refine State.answer_keeps ?_
    | with_reducible refine State.faultSeen_keeps ?_ | with_reducible refine State.raise_keeps ?_
    | with_reducible refine State.headWritten_keeps ?_ | with_reducible refine State.preampSet_keeps ?_
    | with_reducible refine Keeps.ite_ ?_ ?_ | fail_if_no_progress with_reducible refine Keeps.mk_ ?_ rfl rfl | split

theorem execHeadSwitchSettle_keeps {a₀ s : State} {k : Nat} (hk : Keeps a₀ s) :
    ∃ u₀, (execHeadSwitchSettle k s) = .next u₀ ∧ Keeps a₀ u₀ := by
  unfold execHeadSwitchSettle
  refine ⟨_, rfl, ?_⟩
  try dsimp only
  repeat' first
    | with_reducible assumption | with_reducible refine State.setPre_keeps ?_ | with_reducible refine State.setSrv_keeps ?_
    | with_reducible refine Keeps.ite_ ?_ ?_ | fail_if_no_progress with_reducible refine Keeps.mk_ ?_ rfl rfl

theorem State.leaveRamp_keeps {a₀ s0 : State} {k : Nat} (hk : Keeps a₀ s0) :
    Keeps a₀ (State.leaveRamp s0 k) := by
  unfold State.leaveRamp
  try dsimp only
  repeat' first
    | with_reducible assumption | with_reducible refine State.emit_keeps ?_ | with_reducible refine State.setParked_keeps ?_
    | with_reducible refine State.setDacZero_keeps ?_ | with_reducible refine State.setRet_keeps ?_
    | with_reducible refine State.setF_keeps ?_ | with_reducible refine State.inhibit_keeps ?_
    | with_reducible refine Keeps.ite_ ?_ ?_ | fail_if_no_progress with_reducible refine Keeps.mk_ ?_ rfl rfl

theorem State.measureCoil_keeps {a₀ s : State} {k : Nat} {r : Nat} (hk : Keeps a₀ s) :
    Keeps a₀ (State.measureCoil s k r) := by
  unfold State.measureCoil
  try dsimp only
  repeat' first
    | with_reducible assumption | with_reducible refine Keeps.ite_ ?_ ?_
    | fail_if_no_progress with_reducible refine Keeps.mk_ ?_ rfl rfl

theorem State.backInService_keeps {a₀ s : State} {k : Nat} (hk : Keeps a₀ s) :
    Keeps a₀ (State.backInService s k) := by
  unfold State.backInService
  try dsimp only
  repeat' first
    | with_reducible assumption | with_reducible refine State.uninhibit_keeps ?_ | with_reducible refine Keeps.ite_ ?_ ?_
    | fail_if_no_progress with_reducible refine Keeps.mk_ ?_ rfl rfl

theorem State.meetPreamp_keeps {a₀ s : State} {k : Nat} {ident : Option Nat} (hk : Keeps a₀ s) :
    Keeps a₀ (State.meetPreamp s k ident) := by
  unfold State.meetPreamp
  try dsimp only
  repeat' first
    | with_reducible assumption | with_reducible refine State.setPre_keeps ?_ | with_reducible refine State.preampIdent_keeps ?_
    | with_reducible refine State.settle_keeps ?_ | with_reducible refine State.preampSet_keeps ?_
    | with_reducible refine Keeps.ite_ ?_ ?_ | fail_if_no_progress with_reducible refine Keeps.mk_ ?_ rfl rfl

theorem State.setLadder_keeps {a₀ s : State} {x : Ladder} (hk : Keeps a₀ s) :
    Keeps a₀ (State.setLadder s x) := by
  unfold State.setLadder
  try dsimp only
  repeat' first
    | with_reducible assumption | with_reducible refine Keeps.ite_ ?_ ?_
    | fail_if_no_progress with_reducible refine Keeps.mk_ ?_ rfl rfl

theorem State.moveToTrack_keeps {a₀ s : State} {k : Nat} {psa : Nat} {off : Int} (hk : Keeps a₀ s) :
    Keeps a₀ (State.moveToTrack s k psa off) := by
  unfold State.moveToTrack
  try dsimp only
  repeat' first
    | with_reducible assumption | with_reducible refine State.setF_keeps ?_ | with_reducible refine State.retarget_keeps ?_
    | split

theorem State.followOffset_keeps {a₀ s : State} {k : Nat} {psa : Nat} (hk : Keeps a₀ s) :
    Keeps a₀ (State.followOffset s k psa) := by
  unfold State.followOffset
  try dsimp only
  repeat' first
    | with_reducible assumption | with_reducible refine State.useSet_keeps ?_ | with_reducible refine State.moveToTrack_keeps ?_
    | with_reducible refine Keeps.ite_ ?_ ?_ | split

theorem State.freeze_keeps {a₀ s : State} {k : Nat} (hk : Keeps a₀ s) :
    Keeps a₀ (State.freeze s k) := by
  unfold State.freeze
  try dsimp only
  repeat' first
    | with_reducible assumption | with_reducible refine State.setF_keeps ?_

theorem State.dropLadder_keeps {a₀ s : State} {x : Ladder} (hk : Keeps a₀ s) :
    Keeps a₀ (State.dropLadder s x) := by
  unfold State.dropLadder
  try dsimp only
  repeat' first
    | with_reducible assumption | with_reducible refine State.cancelWork_keeps ?_
    | with_reducible refine State.releaseSlots_keeps ?_ | with_reducible refine State.followOffset_keeps ?_
    | with_reducible refine State.freeze_keeps ?_ | with_reducible refine Keeps.ite_ ?_ ?_
    | fail_if_no_progress with_reducible refine Keeps.mk_ ?_ rfl rfl

theorem State.recovered_keeps {a₀ s : State} {x : Ladder} (hk : Keeps a₀ s) :
    Keeps a₀ (State.recovered s x) := by
  unfold State.recovered
  try dsimp only
  repeat' first
    | with_reducible assumption | with_reducible refine State.dropLadder_keeps ?_ | with_reducible refine State.bumpF_keeps ?_
    | with_reducible refine State.stat_keeps ?_ | with_reducible refine Keeps.ite_ ?_ ?_
    | fail_if_no_progress with_reducible refine Keeps.mk_ ?_ rfl rfl

theorem State.unrecovered_keeps {a₀ s : State} {x : Ladder} (hk : Keeps a₀ s) :
    Keeps a₀ (State.unrecovered s x) := by
  unfold State.unrecovered
  try dsimp only
  repeat' first
    | with_reducible assumption | with_reducible refine State.dropLadder_keeps ?_ | with_reducible refine State.bumpF_keeps ?_
    | with_reducible refine State.dropOutcomes_keeps ?_ | with_reducible refine State.raise_keeps ?_
    | with_reducible refine Keeps.ite_ ?_ ?_ | fail_if_no_progress with_reducible refine Keeps.mk_ ?_ rfl rfl

theorem State.parityGivenUp_keeps {a₀ s : State} {x : Ladder} (hk : Keeps a₀ s) :
    Keeps a₀ (State.parityGivenUp s x) := by
  unfold State.parityGivenUp
  try dsimp only
  repeat' first
    | with_reducible assumption | with_reducible refine State.dropLadder_keeps ?_ | with_reducible refine State.raise_keeps ?_
    | with_reducible refine Keeps.ite_ ?_ ?_

theorem State.takeRebuilt_keeps {a₀ s : State} {psa : Nat} {blk : List Byte} (hk : Keeps a₀ s) :
    Keeps a₀ (State.takeRebuilt s psa blk) := by
  unfold State.takeRebuilt
  try dsimp only
  repeat' first
    | with_reducible assumption | with_reducible refine State.confirm_keeps ?_ | with_reducible refine State.recovered_keeps ?_
    | with_reducible refine Keeps.ite_ ?_ ?_ | fail_if_no_progress with_reducible refine Keeps.mk_ ?_ rfl rfl | split

theorem State.rebuildStripe_keeps {a₀ s : State} {psa : Nat} (hk : Keeps a₀ s) :
    Keeps a₀ (State.rebuildStripe s psa) := by
  unfold State.rebuildStripe
  try dsimp only
  repeat' first
    | with_reducible assumption | with_reducible refine State.takeRebuilt_keeps ?_ | with_reducible refine Keeps.ite_ ?_ ?_
    | refine Keeps.of_eq (by assumption) ?_ | split

theorem State.goOn_keeps {a₀ s : State} {x : Ladder} (hk : Keeps a₀ s) :
    Keeps a₀ (State.goOn s x) := by
  unfold State.goOn
  try dsimp only
  repeat' first
    | with_reducible assumption | with_reducible refine State.setLadder_keeps ?_ | with_reducible refine State.addWork_keeps ?_
    | with_reducible refine State.freeze_keeps ?_ | with_reducible refine Keeps.ite_ ?_ ?_
    | fail_if_no_progress with_reducible refine Keeps.mk_ ?_ rfl rfl | split

theorem State.afterL1_keeps {a₀ s : State} {x : Ladder} (hk : Keeps a₀ s) :
    Keeps a₀ (State.afterL1 s x) := by
  unfold State.afterL1
  try dsimp only
  repeat' first
    | with_reducible assumption | with_reducible refine State.setStore_keeps ?_ | with_reducible refine State.goOn_keeps ?_
    | with_reducible refine Keeps.ite_ ?_ ?_ | fail_if_no_progress with_reducible refine Keeps.mk_ ?_ rfl rfl

theorem State.startStage_keeps {a₀ s : State} {x : Ladder} {n : Nat} (hk : Keeps a₀ s) :
    Keeps a₀ (State.startStage s x n) := by
  unfold State.startStage
  try dsimp only
  repeat' first
    | with_reducible assumption | with_reducible refine State.setLadder_keeps ?_ | with_reducible refine State.freeze_keeps ?_
    | with_reducible refine State.goOn_keeps ?_ | with_reducible refine State.setStore_keeps ?_
    | with_reducible refine State.followOffset_keeps ?_ | fail_if_no_progress with_reducible refine Keeps.mk_ ?_ rfl rfl | split

theorem State.enterStage_keeps {a₀ s : State} {x : Ladder} (hk : Keeps a₀ s) :
    Keeps a₀ (State.enterStage s x) := by
  unfold State.enterStage
  try dsimp only
  repeat' first
    | with_reducible assumption | with_reducible refine State.parityGivenUp_keeps ?_
    | with_reducible refine State.unrecovered_keeps ?_ | with_reducible refine State.startStage_keeps ?_
    | with_reducible refine Keeps.ite_ ?_ ?_ | split

theorem State.stripeMoves_keeps {a₀ s : State} {fuel : Nat} {psa : Nat} (hk : Keeps a₀ s) :
    Keeps a₀ (State.stripeMoves fuel s psa) := by
  induction fuel generalizing s with
  | zero =>
    unfold State.stripeMoves
    try dsimp only
    repeat' first
      | with_reducible assumption | with_reducible refine State.enterStage_keeps ?_
      | with_reducible refine Keeps.ite_ ?_ ?_ | (with_reducible refine Keeps.foldl_ (fun t x ht => ?_) ?_ <;> try dsimp only)
      | split
  | succ m_ ih =>
    unfold State.stripeMoves
    try dsimp only
    repeat' first
      | with_reducible assumption | with_reducible refine ih ?_ | with_reducible refine State.enterStage_keeps ?_
      | with_reducible refine Keeps.ite_ ?_ ?_ | (with_reducible refine Keeps.foldl_ (fun t x ht => ?_) ?_ <;> try dsimp only)
      | split

theorem State.startRevs_keeps {a₀ s : State} {psa : Nat} (hk : Keeps a₀ s) :
    Keeps a₀ (State.startRevs s psa) := by
  unfold State.startRevs
  try dsimp only
  repeat' first
    | with_reducible assumption | with_reducible refine Keeps.ite_ ?_ ?_
    | fail_if_no_progress with_reducible refine Keeps.mk_ ?_ rfl rfl

theorem State.reread_keeps {a₀ s : State} {x : Ladder} {cap : Capture} (hk : Keeps a₀ s) :
    Keeps a₀ (State.reread s x cap) := by
  unfold State.reread
  try dsimp only
  repeat' first
    | with_reducible assumption | with_reducible refine State.startRevs_keeps ?_ | with_reducible refine State.acquire_keeps ?_
    | with_reducible refine State.storeRev_keeps ?_ | with_reducible refine State.setLadder_keeps ?_
    | with_reducible refine State.followOffset_keeps ?_ | with_reducible refine State.goOn_keeps ?_
    | with_reducible refine Keeps.ite_ ?_ ?_ | fail_if_no_progress with_reducible refine Keeps.mk_ ?_ rfl rfl
    | refine Keeps.of_eq (by assumption) ?_ | split

theorem State.endLadder_keeps {a₀ s : State} {x : Ladder} (hk : Keeps a₀ s) :
    Keeps a₀ (State.endLadder s x) := by
  unfold State.endLadder
  try dsimp only
  repeat' first
    | with_reducible assumption | with_reducible refine State.dropLadder_keeps ?_
    | with_reducible refine State.recovered_keeps ?_ | with_reducible refine Keeps.ite_ ?_ ?_ | split

theorem State.stepEnds_keeps {a₀ s : State} {x : Ladder} (hk : Keeps a₀ s) :
    Keeps a₀ (State.stepEnds s x) := by
  unfold State.stepEnds
  try dsimp only
  repeat' first
    | with_reducible assumption | with_reducible refine State.setLadder_keeps ?_
    | with_reducible refine State.endLadder_keeps ?_ | with_reducible refine State.rebuildStripe_keeps ?_
    | with_reducible refine State.afterL1_keeps ?_ | with_reducible refine State.goOn_keeps ?_
    | with_reducible refine State.stripeMoves_keeps ?_ | with_reducible refine Keeps.ite_ ?_ ?_
    | fail_if_no_progress with_reducible refine Keeps.mk_ ?_ rfl rfl | split

theorem execRecoveryStepEnd_keeps {a₀ s : State} {psa : Nat} {wedges : Nat} {foreground : Bool} {cap : Option Capture} (hk : Keeps a₀ s) :
    ∃ u₀, (execRecoveryStepEnd psa wedges foreground cap s) = .next u₀ ∧ Keeps a₀ u₀ := by
  unfold execRecoveryStepEnd
  refine ⟨_, rfl, ?_⟩
  try dsimp only
  repeat' first
    | with_reducible assumption | with_reducible refine State.bgCharge_keeps ?_ | with_reducible refine State.reread_keeps ?_
    | with_reducible refine State.bgHold_keeps ?_ | with_reducible refine State.stepEnds_keeps ?_
    | with_reducible refine Keeps.ite_ ?_ ?_ | split

theorem execRecoveryLimit_keeps {a₀ s : State} {psa : Nat} (hk : Keeps a₀ s) :
    ∃ u₀, (execRecoveryLimit psa s) = .next u₀ ∧ Keeps a₀ u₀ := by
  unfold execRecoveryLimit
  refine ⟨_, rfl, ?_⟩
  try dsimp only
  repeat' first
    | with_reducible assumption | with_reducible refine State.unrecovered_keeps ?_ | with_reducible refine Keeps.ite_ ?_ ?_
    | (with_reducible refine Keeps.foldlP_ (fun t x ht => ?_) ?_ <;> try dsimp only)
    | (with_reducible refine Keeps.foldl_ (fun t x ht => ?_) ?_ <;> try dsimp only) | split

theorem State.rewriteTile_keeps {a₀ s : State} {psa : Nat} {cuts : List Nat} (hk : Keeps a₀ s) :
    Keeps a₀ (State.rewriteTile s psa cuts) := by
  unfold State.rewriteTile
  try dsimp only
  repeat' first
    | with_reducible assumption | with_reducible refine State.writeCuts_keeps ?_
    | with_reducible refine State.writeTile_keeps ?_ | with_reducible refine State.closeStripe_keeps ?_
    | with_reducible refine State.relocate_keeps ?_ | with_reducible refine Keeps.ite_ ?_ ?_
    | fail_if_no_progress with_reducible refine Keeps.mk_ ?_ rfl rfl | refine Keeps.of_eq (by assumption) ?_ | split

theorem State.lowMargin_keeps {a₀ s : State} {psa : Nat} {cuts : List Nat} (hk : Keeps a₀ s) :
    Keeps a₀ (State.lowMargin s psa cuts) := by
  unfold State.lowMargin
  try dsimp only
  repeat' first
    | with_reducible assumption | with_reducible refine State.charge_keeps ?_ | with_reducible refine State.closeStripe_keeps ?_
    | with_reducible refine State.rewriteTile_keeps ?_ | with_reducible refine State.addDefect_keeps ?_
    | with_reducible refine Keeps.ite_ ?_ ?_ | fail_if_no_progress with_reducible refine Keeps.mk_ ?_ rfl rfl

theorem State.rewritesDue_keeps {a₀ s : State} {k : Nat} (hk : Keeps a₀ s) :
    Keeps a₀ (State.rewritesDue s k) := by
  unfold State.rewritesDue
  try dsimp only
  repeat' first
    | with_reducible assumption | with_reducible refine State.lowMargin_keeps ?_
    | (with_reducible refine Keeps.foldl_ (fun t x ht => ?_) ?_ <;> try dsimp only)

theorem State.scrubFailed_keeps {a₀ s : State} {k : Nat} {psa : Nat} {kind : Nat} {r : SampleRec} (hk : Keeps a₀ s) :
    Keeps a₀ (State.scrubFailed s k psa kind r) := by
  unfold State.scrubFailed
  try dsimp only
  repeat' first
    | with_reducible assumption | with_reducible refine State.bumpF_keeps ?_ | with_reducible refine State.stat_keeps ?_
    | with_reducible refine State.storeRev_keeps ?_ | with_reducible refine State.startLadder_keeps ?_
    | with_reducible refine Keeps.ite_ ?_ ?_ | fail_if_no_progress with_reducible refine Keeps.mk_ ?_ rfl rfl

theorem State.countPass_keeps {a₀ s : State} {psa : Nat} {iters : Nat} {snr : Nat} (hk : Keeps a₀ s) :
    Keeps a₀ (State.countPass s psa iters snr) := by
  unfold State.countPass
  try dsimp only
  repeat' first
    | with_reducible assumption | fail_if_no_progress with_reducible refine Keeps.mk_ ?_ rfl rfl | split

theorem State.readConfirmed_keeps {a₀ s : State} {k : Nat} {psa : Nat} {r : SampleRec} {x : L0} (hk : Keeps a₀ s) :
    Keeps a₀ (State.readConfirmed s k psa r x).2 := by
  unfold State.readConfirmed
  try dsimp only
  repeat' first
    | with_reducible assumption | with_reducible refine State.confirm_keeps ?_ | with_reducible refine State.seen_keeps ?_
    | with_reducible refine State.recordSnr_keeps ?_ | with_reducible refine State.adapt_keeps ?_
    | with_reducible refine State.snrFrom_keeps ?_ | with_reducible refine Keeps.ite_ ?_ ?_
    | refine Keeps.of_eq2 (by assumption) ?_ | split

theorem State.reportZone_keeps {a₀ s : State} {h : Nat} {z : Nat} {c : Nat} {snr : Nat} (hk : Keeps a₀ s) :
    Keeps a₀ (State.reportZone s h z c snr) := by
  unfold State.reportZone
  try dsimp only
  repeat' first
    | with_reducible assumption | with_reducible refine State.setDictNum_keeps ?_ | split

theorem State.scrubAt_keeps {a₀ s : State} {k : Nat} {psa : Nat} (hk : Keeps a₀ s) :
    Keeps a₀ (State.scrubAt s k psa) := by
  unfold State.scrubAt
  try dsimp only
  repeat' first
    | with_reducible assumption | with_reducible refine Keeps.ite_ ?_ ?_
    | fail_if_no_progress with_reducible refine Keeps.mk_ ?_ rfl rfl

theorem State.passEnds_keeps {a₀ s : State} {h : Nat} {z : Nat} (hk : Keeps a₀ s) :
    Keeps a₀ (State.passEnds s h z) := by
  unfold State.passEnds
  try dsimp only
  repeat' first
    | with_reducible assumption | with_reducible refine State.setDictNum_keeps ?_
    | with_reducible refine State.reportZone_keeps ?_ | with_reducible refine Keeps.ite_ ?_ ?_
    | fail_if_no_progress with_reducible refine Keeps.mk_ ?_ rfl rfl | split

theorem State.zonePassEnd_keeps {a₀ s : State} {k : Nat} {psa : Nat} (hk : Keeps a₀ s) :
    Keeps a₀ (State.zonePassEnd s k psa) := by
  unfold State.zonePassEnd
  try dsimp only
  repeat' first
    | with_reducible assumption | with_reducible refine State.passEnds_keeps ?_ | with_reducible refine Keeps.ite_ ?_ ?_
    | (with_reducible refine Keeps.foldl_ (fun t x ht => ?_) ?_ <;> try dsimp only) | split

theorem State.scrubJudge_keeps {a₀ s : State} {k : Nat} {psa : Nat} {kind : Nat} {cap : Capture} {cuts : List Nat} (hk : Keeps a₀ s) :
    Keeps a₀ (State.scrubJudge s k psa kind cap cuts) := by
  unfold State.scrubJudge
  try dsimp only
  repeat' first
    | with_reducible assumption | with_reducible refine State.acquire_keeps ?_
    | with_reducible refine State.readConfirmed_keeps ?_ | with_reducible refine State.countPass_keeps ?_
    | with_reducible refine State.lowMargin_keeps ?_ | with_reducible refine State.confirm_keeps ?_
    | with_reducible refine State.tagMismatch_keeps ?_ | with_reducible refine State.scrubFailed_keeps ?_
    | with_reducible refine Keeps.ite_ ?_ ?_ | refine Keeps.of_eq (by assumption) ?_ | refine Keeps.of_eq2 (by assumption) ?_
    | split

theorem State.scrubStep_keeps {a₀ s : State} {k : Nat} {wedges : Nat} {foreground : Bool} {cap : Capture} {cuts : List Nat} (hk : Keeps a₀ s) :
    Keeps a₀ (State.scrubStep s k wedges foreground cap cuts) := by
  unfold State.scrubStep
  try dsimp only
  repeat' first
    | with_reducible assumption | with_reducible refine State.bgHold_keeps ?_ | with_reducible refine State.scrubAt_keeps ?_
    | with_reducible refine State.bgCharge_keeps ?_ | with_reducible refine State.rewritesDue_keeps ?_
    | with_reducible refine State.scrubJudge_keeps ?_ | with_reducible refine State.zonePassEnd_keeps ?_
    | with_reducible refine Keeps.ite_ ?_ ?_ | fail_if_no_progress with_reducible refine Keeps.mk_ ?_ rfl rfl | split

theorem execScrubRead_keeps {a₀ s : State} {k : Nat} {wedges : Nat} {foreground : Bool} {cap : Capture} {cuts : List Nat} (hk : Keeps a₀ s) :
    ∃ u₀, (execScrubRead k wedges foreground cap cuts s) = .next u₀ ∧ Keeps a₀ u₀ := by
  unfold execScrubRead
  refine ⟨_, rfl, ?_⟩
  try dsimp only
  repeat' first
    | with_reducible assumption | with_reducible refine State.setChn_keeps ?_ | with_reducible refine State.scrubJudge_keeps ?_
    | with_reducible refine State.scrubStep_keeps ?_ | with_reducible refine Keeps.ite_ ?_ ?_
    | fail_if_no_progress with_reducible refine Keeps.mk_ ?_ rfl rfl | split

theorem execScrubRecheck_keeps {a₀ s : State} {psa : Nat} {wedges : Nat} {foreground : Bool} {cap : Capture} {cuts : List Nat} (hk : Keeps a₀ s) :
    ∃ u₀, (execScrubRecheck psa wedges foreground cap cuts s) = .next u₀ ∧ Keeps a₀ u₀ := by
  unfold execScrubRecheck
  refine ⟨_, rfl, ?_⟩
  try dsimp only
  repeat' first
    | with_reducible assumption | with_reducible refine State.bgHold_keeps ?_ | with_reducible refine State.bgCharge_keeps ?_
    | with_reducible refine State.acquire_keeps ?_ | with_reducible refine State.readConfirmed_keeps ?_
    | with_reducible refine State.relocate_keeps ?_ | with_reducible refine State.charge_keeps ?_
    | with_reducible refine State.confirm_keeps ?_ | with_reducible refine State.tagMismatch_keeps ?_
    | with_reducible refine State.scrubFailed_keeps ?_ | with_reducible refine Keeps.ite_ ?_ ?_
    | fail_if_no_progress with_reducible refine Keeps.mk_ ?_ rfl rfl | refine Keeps.of_eq (by assumption) ?_
    | refine Keeps.of_eq2 (by assumption) ?_ | split

theorem execScrubPositionStore_keeps {a₀ s : State} (hk : Keeps a₀ s) :
    ∃ u₀, (execScrubPositionStore s) = .next u₀ ∧ Keeps a₀ u₀ := by
  unfold execScrubPositionStore
  try dsimp only
  repeat' first
    | with_reducible refine Keeps.next_ ?_ | with_reducible refine Keeps.iteR_ ?_ ?_
    | with_reducible assumption | fail_if_no_progress with_reducible refine Keeps.mk_ ?_ rfl rfl
    | split

theorem State.zoneEfficiency_keeps {a₀ s : State} {p : Nat × Nat} (hk : Keeps a₀ s) :
    Keeps a₀ (State.zoneEfficiency s p) := by
  unfold State.zoneEfficiency
  try dsimp only
  repeat' first
    | with_reducible assumption | with_reducible refine State.reportZone_keeps ?_

theorem State.computeEfficiency_keeps {a₀ s : State} (hk : Keeps a₀ s) :
    Keeps a₀ (State.computeEfficiency s) := by
  unfold State.computeEfficiency
  try dsimp only
  repeat' first
    | with_reducible assumption | with_reducible refine State.zoneEfficiency_keeps ?_
    | (with_reducible refine Keeps.foldl_ (fun t x ht => ?_) ?_ <;> try dsimp only)

theorem execComputeEfficiency_keeps {a₀ s : State} (hk : Keeps a₀ s) :
    ∃ u₀, (execComputeEfficiency s) = .next u₀ ∧ Keeps a₀ u₀ := by
  unfold execComputeEfficiency
  refine ⟨_, rfl, ?_⟩
  try dsimp only
  repeat' first
    | with_reducible assumption | with_reducible refine State.computeEfficiency_keeps ?_
    | with_reducible refine Keeps.ite_ ?_ ?_

theorem State.setPlanZone_keeps {a₀ s : State} {h : Nat} {z : Nat} {x : Zone} (hk : Keeps a₀ s) :
    Keeps a₀ (State.setPlanZone s h z x) := by
  unfold State.setPlanZone
  try dsimp only
  repeat' first
    | with_reducible assumption | with_reducible refine State.setDict_keeps ?_

theorem State.keepPlanZone_keeps {a₀ s : State} {h : Nat} {z : Nat} {x : Zone} (hk : Keeps a₀ s) :
    Keeps a₀ (State.keepPlanZone s h z x) := by
  unfold State.keepPlanZone
  try dsimp only
  repeat' first
    | with_reducible assumption | with_reducible refine State.setPlanZone_keeps ?_
    | with_reducible refine State.storeValue_keeps ?_

theorem State.fillPlan_keeps {a₀ s : State} (hk : Keeps a₀ s) :
    Keeps a₀ (State.fillPlan s) := by
  unfold State.fillPlan
  try dsimp only
  repeat' first
    | with_reducible assumption | with_reducible refine State.setDict_keeps ?_
    | with_reducible refine State.setPlanZone_keeps ?_ | with_reducible refine State.setDictNum_keeps ?_
    | (with_reducible refine Keeps.foldl_ (fun t x ht => ?_) ?_ <;> try dsimp only) | split

theorem State.testPattern_keeps {a₀ s : State} {h : Nat} {z : Nat} (hk : Keeps a₀ s) :
    Keeps a₀ (State.testPattern s h z) := by
  unfold State.testPattern
  try dsimp only
  repeat' first
    | with_reducible assumption | with_reducible refine State.emit_keeps ?_ | split

theorem State.startQualification_keeps {a₀ s : State} (hk : Keeps a₀ s) :
    Keeps a₀ (State.startQualification s) := by
  unfold State.startQualification
  try dsimp only
  repeat' first
    | with_reducible assumption | with_reducible refine State.train_keeps ?_ | with_reducible refine State.setDictNum_keeps ?_
    | with_reducible refine State.testPattern_keeps ?_
    | (with_reducible refine Keeps.foldlP_ (fun t x ht => ?_) ?_ <;> try dsimp only)
    | (with_reducible refine Keeps.foldl_ (fun t x ht => ?_) ?_ <;> try dsimp only)
    | fail_if_no_progress with_reducible refine Keeps.mk_ ?_ rfl rfl

theorem execQualificationRateResult_keeps {a₀ s : State} {h : Nat} {z : Nat} {beyond : Nat} {snr : Nat} {fails : List Nat} (hk : Keeps a₀ s) :
    ∃ u₀, (execQualificationRateResult h z beyond snr fails s) = .next u₀ ∧ Keeps a₀ u₀ := by
  unfold execQualificationRateResult
  refine ⟨_, rfl, ?_⟩
  try dsimp only
  repeat' first
    | with_reducible assumption | with_reducible refine State.keepPlanZone_keeps ?_
    | with_reducible refine State.setDictNum_keeps ?_ | with_reducible refine State.testPattern_keeps ?_
    | with_reducible refine Keeps.ite_ ?_ ?_ | (with_reducible refine Keeps.foldlP_ (fun t x ht => ?_) ?_ <;> try dsimp only)
    | (with_reducible refine Keeps.foldl_ (fun t x ht => ?_) ?_ <;> try dsimp only)
    | fail_if_no_progress with_reducible refine Keeps.mk_ ?_ rfl rfl | split

theorem execHeadLoad_keeps {a₀ s : State} {k : Nat} {ws : List WedgeData} {ident : Option Nat} {rcoil : Nat} (hk : Keeps a₀ s) :
    ∃ u₀, (execHeadLoad k ws ident rcoil s) = .next u₀ ∧ Keeps a₀ u₀ := by
  unfold execHeadLoad
  refine ⟨_, rfl, ?_⟩
  try dsimp only
  repeat' first
    | with_reducible assumption | with_reducible refine State.measureCoil_keeps ?_
    | with_reducible refine State.leaveRamp_keeps ?_ | with_reducible refine State.meetPreamp_keeps ?_
    | with_reducible refine State.retract_keeps ?_ | with_reducible refine State.startFails_keeps ?_
    | with_reducible refine State.setSrv_keeps ?_ | with_reducible refine State.markTw_keeps ?_
    | with_reducible refine State.rroCheck_keeps ?_ | with_reducible refine State.setF_keeps ?_
    | with_reducible refine State.uninhibit_keeps ?_ | with_reducible refine State.enableLoop_keeps ?_
    | with_reducible refine State.reportWedge_keeps ?_ | with_reducible refine State.backInService_keeps ?_
    | with_reducible refine State.retarget_keeps ?_ | with_reducible refine State.event_keeps ?_
    | with_reducible refine State.startQualification_keeps ?_ | with_reducible refine State.settle_keeps ?_
    | with_reducible refine State.showServo_keeps ?_ | with_reducible refine Keeps.ite_ ?_ ?_
    | (with_reducible refine Keeps.foldlP_ (fun t x ht => ?_) ?_ <;> try dsimp only)
    | (with_reducible refine Keeps.foldl_ (fun t x ht => ?_) ?_ <;> try dsimp only)
    | fail_if_no_progress with_reducible refine Keeps.mk_ ?_ rfl rfl

theorem execLoadNoLock_keeps {a₀ s : State} {k : Nat} {rcoil : Nat} (hk : Keeps a₀ s) :
    ∃ u₀, (execLoadNoLock k rcoil s) = .next u₀ ∧ Keeps a₀ u₀ := by
  unfold execLoadNoLock
  refine ⟨_, rfl, ?_⟩
  try dsimp only
  repeat' first
    | with_reducible assumption | with_reducible refine State.measureCoil_keeps ?_
    | with_reducible refine State.leaveRamp_keeps ?_ | with_reducible refine State.setSrv_keeps ?_
    | with_reducible refine State.retract_keeps ?_ | with_reducible refine State.raise_keeps ?_
    | with_reducible refine State.startFails_keeps ?_ | with_reducible refine Keeps.ite_ ?_ ?_
    | fail_if_no_progress with_reducible refine Keeps.mk_ ?_ rfl rfl

theorem State.formatDrive_keeps {a₀ t : State} {id : List Byte} (hk : Keeps a₀ t) :
    Keeps a₀ (State.formatDrive t id) := by
  unfold State.formatDrive
  try dsimp only
  repeat' first
    | with_reducible assumption | with_reducible refine State.useIvory_keeps ?_
    | with_reducible refine State.writeTiles_keeps ?_ | with_reducible refine State.closeStripe_keeps ?_
    | with_reducible refine State.writeRoot_keeps ?_
    | (with_reducible refine Keeps.foldl_ (fun t x ht => ?_) ?_ <;> try dsimp only)
    | fail_if_no_progress with_reducible refine Keeps.mk_ ?_ rfl rfl

end Sys2Proof.Machine
end

