-- ==== Sys2Proof/Laws/KeepsDrive.lean ====
section
/-!
SUPPORT. What the operations of the block keep: motion, domains, buffer commands, cache, DMA and CXL.
-/
namespace Sys2Proof.Machine
open Sys2Proof

set_option maxRecDepth 20000
set_option linter.unusedTactic false
set_option linter.unreachableTactic false

theorem State.setMfe_keeps {a₀ s : State} {m : Mfe} (hk : Keeps a₀ s) :
    Keeps a₀ (State.setMfe s m) := by
  unfold State.setMfe
  try dsimp only
  repeat' first
    | with_reducible assumption | fail_if_no_progress with_reducible refine Keeps.mk_ ?_ rfl rfl

theorem State.takeSample_keeps {a₀ s : State} {applied : List Nat} {isamp : List Int} {angle : Nat} (hk : Keeps a₀ s) :
    Keeps a₀ (State.takeSample s applied isamp angle) := by
  unfold State.takeSample
  try dsimp only
  repeat' first
    | with_reducible assumption | with_reducible refine State.setSpm_keeps ?_ | with_reducible refine State.bumpF_keeps ?_
    | with_reducible refine State.setF_keeps ?_ | with_reducible refine Keeps.ite_ ?_ ?_
    | fail_if_no_progress with_reducible refine Keeps.mk_ ?_ rfl rfl

theorem State.shiftControl_keeps {a₀ s : State} {asked : List Nat} {first : Bool} {valid : Bool} (hk : Keeps a₀ s) :
    Keeps a₀ (State.shiftControl s asked first valid) := by
  unfold State.shiftControl
  try dsimp only
  repeat' first
    | with_reducible assumption | with_reducible refine State.setSpm_keeps ?_ | with_reducible refine State.setF_keeps ?_
    | with_reducible refine Keeps.ite_ ?_ ?_ | fail_if_no_progress with_reducible refine Keeps.mk_ ?_ rfl rfl

theorem State.currentLoop_keeps {a₀ s : State} {angle : Nat} (hk : Keeps a₀ s) :
    Keeps a₀ (State.currentLoop s angle) := by
  unfold State.currentLoop
  try dsimp only
  repeat' first
    | with_reducible assumption | with_reducible refine State.setSpm_keeps ?_ | with_reducible refine Keeps.ite_ ?_ ?_
    | fail_if_no_progress with_reducible refine Keeps.mk_ ?_ rfl rfl

theorem State.startFoc_keeps {a₀ s : State} (hk : Keeps a₀ s) :
    Keeps a₀ (State.startFoc s) := by
  unfold State.startFoc
  try dsimp only
  repeat' first
    | with_reducible assumption | with_reducible refine State.setF_keeps ?_ | with_reducible refine State.setMfe_keeps ?_
    | with_reducible refine State.setSpm_keeps ?_ | with_reducible refine State.enableLoop_keeps ?_
    | fail_if_no_progress with_reducible refine Keeps.mk_ ?_ rfl rfl

theorem State.observe_keeps {a₀ s : State} {speed : Nat} (hk : Keeps a₀ s) :
    Keeps a₀ (State.observe s speed) := by
  unfold State.observe
  try dsimp only
  repeat' first
    | with_reducible assumption | with_reducible refine State.measured_keeps ?_ | with_reducible refine State.setF_keeps ?_
    | with_reducible refine State.startFoc_keeps ?_ | with_reducible refine State.setSpm_keeps ?_
    | with_reducible refine Keeps.ite_ ?_ ?_ | fail_if_no_progress with_reducible refine Keeps.mk_ ?_ rfl rfl

theorem State.startOpenLoop_keeps {a₀ s : State} {peaks : List Nat} (hk : Keeps a₀ s) :
    Keeps a₀ (State.startOpenLoop s peaks) := by
  unfold State.startOpenLoop
  try dsimp only
  repeat' first
    | with_reducible assumption | with_reducible refine State.setSpm_keeps ?_ | with_reducible refine State.setF_keeps ?_
    | fail_if_no_progress with_reducible refine Keeps.mk_ ?_ rfl rfl

theorem State.drivenPeriod_keeps {a₀ s : State} {arrived : Bool} {isamp : List Int} {emf : List Int} {angle : Nat} {speed : Nat} (hk : Keeps a₀ s) :
    Keeps a₀ (State.drivenPeriod s arrived isamp emf angle speed) := by
  unfold State.drivenPeriod
  try dsimp only
  repeat' first
    | with_reducible assumption | with_reducible refine State.setSpm_keeps ?_ | with_reducible refine State.setMfe_keeps ?_
    | with_reducible refine State.takeSample_keeps ?_ | with_reducible refine State.shiftControl_keeps ?_
    | with_reducible refine State.observe_keeps ?_ | with_reducible refine State.currentLoop_keeps ?_
    | with_reducible refine Keeps.ite_ ?_ ?_ | fail_if_no_progress with_reducible refine Keeps.mk_ ?_ rfl rfl

theorem execPwmPeriod_keeps {a₀ s : State} {arrived : Bool} {samples : List Int} {emf : List Int} {angle : Nat} {speed : Nat} (hk : Keeps a₀ s) :
    ∃ u₀, (execPwmPeriod arrived samples emf angle speed s) = .next u₀ ∧ Keeps a₀ u₀ := by
  unfold execPwmPeriod
  refine ⟨_, rfl, ?_⟩
  try dsimp only
  repeat' first
    | with_reducible assumption | with_reducible refine State.setSpm_keeps ?_
    | with_reducible refine State.startOpenLoop_keeps ?_ | with_reducible refine State.setMfe_keeps ?_
    | with_reducible refine State.useFree_keeps ?_ | with_reducible refine State.drivenPeriod_keeps ?_
    | with_reducible refine Keeps.ite_ ?_ ?_ | fail_if_no_progress with_reducible refine Keeps.mk_ ?_ rfl rfl

theorem execDutySetLoss_keeps {a₀ s : State} (hk : Keeps a₀ s) :
    ∃ u₀, (execDutySetLoss s) = .next u₀ ∧ Keeps a₀ u₀ := by
  unfold execDutySetLoss
  refine ⟨_, rfl, ?_⟩
  try dsimp only
  repeat' first
    | with_reducible assumption | with_reducible refine State.bridgeOff_keeps ?_ | with_reducible refine State.setMfe_keeps ?_
    | with_reducible refine State.retractOffRamp_keeps ?_ | with_reducible refine State.settle_keeps ?_
    | with_reducible refine Keeps.ite_ ?_ ?_ | fail_if_no_progress with_reducible refine Keeps.mk_ ?_ rfl rfl

theorem execSampleShiftTimeout_keeps {a₀ s : State} (hk : Keeps a₀ s) :
    ∃ u₀, (execSampleShiftTimeout s) = .next u₀ ∧ Keeps a₀ u₀ := by
  unfold execSampleShiftTimeout
  refine ⟨_, rfl, ?_⟩
  try dsimp only
  repeat' first
    | with_reducible assumption | with_reducible refine State.raise_keeps ?_ | with_reducible refine Keeps.ite_ ?_ ?_

theorem State.spinRevolution_keeps {a₀ s : State} {speed : Nat} (hk : Keeps a₀ s) :
    Keeps a₀ (State.spinRevolution s speed) := by
  unfold State.spinRevolution
  try dsimp only
  repeat' first
    | with_reducible assumption | with_reducible refine State.setSpm_keeps ?_ | with_reducible refine State.setF_keeps ?_
    | with_reducible refine State.event_keeps ?_ | with_reducible refine State.raise_keeps ?_
    | with_reducible refine Keeps.ite_ ?_ ?_ | fail_if_no_progress with_reducible refine Keeps.mk_ ?_ rfl rfl

theorem State.retargetSpin_keeps {a₀ s : State} (hk : Keeps a₀ s) :
    Keeps a₀ (State.retargetSpin s) := by
  unfold State.retargetSpin
  try dsimp only
  repeat' first
    | with_reducible assumption | with_reducible refine Keeps.ite_ ?_ ?_
    | fail_if_no_progress with_reducible refine Keeps.mk_ ?_ rfl rfl

theorem execSpeedLoop_keeps {a₀ s : State} {estimate : Nat} {rev : Bool} {revEnd : Bool} (hk : Keeps a₀ s) :
    ∃ u₀, (execSpeedLoop estimate rev revEnd s) = .next u₀ ∧ Keeps a₀ u₀ := by
  unfold execSpeedLoop
  refine ⟨_, rfl, ?_⟩
  try dsimp only
  repeat' first
    | with_reducible assumption | with_reducible refine State.measured_keeps ?_ | with_reducible refine State.setF_keeps ?_
    | with_reducible refine State.retargetSpin_keeps ?_ | with_reducible refine State.setSpm_keeps ?_
    | with_reducible refine State.runLoop_keeps ?_ | with_reducible refine State.capture_keeps ?_
    | with_reducible refine State.spinRevolution_keeps ?_ | with_reducible refine Keeps.ite_ ?_ ?_
    | fail_if_no_progress with_reducible refine Keeps.mk_ ?_ rfl rfl | split

theorem execStandstillStartTimeout_keeps {a₀ s : State} (hk : Keeps a₀ s) :
    ∃ u₀, (execStandstillStartTimeout s) = .next u₀ ∧ Keeps a₀ u₀ := by
  unfold execStandstillStartTimeout
  refine ⟨_, rfl, ?_⟩
  try dsimp only
  repeat' first
    | with_reducible assumption | with_reducible refine State.bridgeOff_keeps ?_ | with_reducible refine State.raise_keeps ?_
    | with_reducible refine State.startFails_keeps ?_ | with_reducible refine Keeps.ite_ ?_ ?_

theorem execBemfZeroCrossing_keeps {a₀ s : State} {interval : Nat} {c : Nat} (hk : Keeps a₀ s) :
    ∃ u₀, (execBemfZeroCrossing interval c s) = .next u₀ ∧ Keeps a₀ u₀ := by
  unfold execBemfZeroCrossing
  refine ⟨_, rfl, ?_⟩
  try dsimp only
  repeat' first
    | with_reducible assumption | with_reducible refine State.measured_keeps ?_ | with_reducible refine State.setF_keeps ?_
    | with_reducible refine State.setSpm_keeps ?_ | with_reducible refine State.reverseBrake_keeps ?_
    | with_reducible refine State.bridgeOff_keeps ?_ | with_reducible refine State.startFoc_keeps ?_
    | with_reducible refine State.bumpF_keeps ?_ | with_reducible refine State.event_keeps ?_
    | with_reducible refine State.startBrake_keeps ?_ | with_reducible refine Keeps.ite_ ?_ ?_
    | fail_if_no_progress with_reducible refine Keeps.mk_ ?_ rfl rfl

theorem execCatchTimeout_keeps {a₀ s : State} (hk : Keeps a₀ s) :
    ∃ u₀, (execCatchTimeout s) = .next u₀ ∧ Keeps a₀ u₀ := by
  unfold execCatchTimeout
  refine ⟨_, rfl, ?_⟩
  try dsimp only
  repeat' first
    | with_reducible assumption | with_reducible refine State.setSpm_keeps ?_ | with_reducible refine State.setF_keeps ?_
    | with_reducible refine State.bridgeOff_keeps ?_ | with_reducible refine State.raise_keeps ?_
    | with_reducible refine State.startBrake_keeps ?_ | with_reducible refine State.backToSlate_keeps ?_
    | with_reducible refine State.startFails_keeps ?_ | with_reducible refine Keeps.ite_ ?_ ?_
    | fail_if_no_progress with_reducible refine Keeps.mk_ ?_ rfl rfl

theorem execLossOfSynchronism_keeps {a₀ s : State} {p1 : Nat × Nat × Nat} {p2 : Nat × Nat × Nat} {p3 : Nat × Nat × Nat} (hk : Keeps a₀ s) :
    ∃ u₀, (execLossOfSynchronism p1 p2 p3 s) = .next u₀ ∧ Keeps a₀ u₀ := by
  unfold execLossOfSynchronism
  refine ⟨_, rfl, ?_⟩
  try dsimp only
  repeat' first
    | with_reducible assumption | with_reducible refine State.measured_keeps ?_ | with_reducible refine State.setF_keeps ?_
    | with_reducible refine State.bumpF_keeps ?_ | with_reducible refine State.event_keeps ?_
    | with_reducible refine State.raise_keeps ?_ | with_reducible refine State.setSpm_keeps ?_
    | with_reducible refine State.retractOffRamp_keeps ?_ | with_reducible refine State.bridgeOff_keeps ?_
    | with_reducible refine State.startSpin_keeps ?_ | with_reducible refine State.settle_keeps ?_
    | with_reducible refine Keeps.ite_ ?_ ?_ | fail_if_no_progress with_reducible refine Keeps.mk_ ?_ rfl rfl

theorem State.spinDownUnparked_keeps {a₀ s : State} (hk : Keeps a₀ s) :
    Keeps a₀ (State.spinDownUnparked s) := by
  unfold State.spinDownUnparked
  try dsimp only
  repeat' first
    | with_reducible assumption | with_reducible refine State.retractOffRamp_keeps ?_
    | with_reducible refine State.bridgeOff_keeps ?_ | with_reducible refine State.setF_keeps ?_
    | with_reducible refine State.setSpm_keeps ?_ | with_reducible refine State.settle_keeps ?_
    | with_reducible refine Keeps.ite_ ?_ ?_ | fail_if_no_progress with_reducible refine Keeps.mk_ ?_ rfl rfl

theorem execSpinDownUnparked_keeps {a₀ s : State} (hk : Keeps a₀ s) :
    ∃ u₀, (execSpinDownUnparked s) = .next u₀ ∧ Keeps a₀ u₀ := by
  unfold execSpinDownUnparked
  try dsimp only
  repeat' first
    | with_reducible refine Keeps.next_ ?_ | with_reducible refine Keeps.iteR_ ?_ ?_
    | with_reducible assumption | with_reducible refine State.spinDownUnparked_keeps ?_
    | split

theorem execSpindleStopped_keeps {a₀ s : State} {speed : Nat} (hk : Keeps a₀ s) :
    ∃ u₀, (execSpindleStopped speed s) = .next u₀ ∧ Keeps a₀ u₀ := by
  unfold execSpindleStopped
  refine ⟨_, rfl, ?_⟩
  try dsimp only
  repeat' first
    | with_reducible assumption | with_reducible refine State.measured_keeps ?_ | with_reducible refine State.bridgeOff_keeps ?_
    | with_reducible refine State.setF_keeps ?_ | with_reducible refine State.setSpm_keeps ?_
    | with_reducible refine State.event_keeps ?_ | with_reducible refine State.startSpin_keeps ?_
    | with_reducible refine Keeps.ite_ ?_ ?_ | fail_if_no_progress with_reducible refine Keeps.mk_ ?_ rfl rfl

theorem State.setVbus_keeps {a₀ s : State} {v : Nat} (hk : Keeps a₀ s) :
    Keeps a₀ (State.setVbus s v) := by
  unfold State.setVbus
  try dsimp only
  repeat' first
    | with_reducible assumption | with_reducible refine State.setF_keeps ?_

theorem State.noRegen_keeps {a₀ s : State} (hk : Keeps a₀ s) :
    Keeps a₀ (State.noRegen s) := by
  unfold State.noRegen
  try dsimp only
  repeat' first
    | with_reducible assumption | with_reducible refine State.setMfe_keeps ?_ | with_reducible refine State.setSpm_keeps ?_
    | with_reducible refine State.setF_keeps ?_ | with_reducible refine Keeps.ite_ ?_ ?_
    | fail_if_no_progress with_reducible refine Keeps.mk_ ?_ rfl rfl

theorem execVbusAbove13v8_keeps {a₀ s : State} {vbus : Nat} (hk : Keeps a₀ s) :
    ∃ u₀, (execVbusAbove13v8 vbus s) = .next u₀ ∧ Keeps a₀ u₀ := by
  unfold execVbusAbove13v8
  refine ⟨_, rfl, ?_⟩
  try dsimp only
  repeat' first
    | with_reducible assumption | with_reducible refine State.setVbus_keeps ?_ | with_reducible refine State.setMfe_keeps ?_
    | with_reducible refine State.stat_keeps ?_ | with_reducible refine State.setF_keeps ?_
    | with_reducible refine Keeps.ite_ ?_ ?_ | fail_if_no_progress with_reducible refine Keeps.mk_ ?_ rfl rfl

theorem execVbusBelow13v6_keeps {a₀ s : State} {vbus : Nat} (hk : Keeps a₀ s) :
    ∃ u₀, (execVbusBelow13v6 vbus s) = .next u₀ ∧ Keeps a₀ u₀ := by
  unfold execVbusBelow13v6
  refine ⟨_, rfl, ?_⟩
  try dsimp only
  repeat' first
    | with_reducible assumption | with_reducible refine State.setVbus_keeps ?_ | with_reducible refine State.setMfe_keeps ?_
    | with_reducible refine State.setF_keeps ?_ | with_reducible refine Keeps.ite_ ?_ ?_
    | fail_if_no_progress with_reducible refine Keeps.mk_ ?_ rfl rfl

theorem execVbusAbove14v2_keeps {a₀ s : State} {vbus : Nat} (hk : Keeps a₀ s) :
    ∃ u₀, (execVbusAbove14v2 vbus s) = .next u₀ ∧ Keeps a₀ u₀ := by
  unfold execVbusAbove14v2
  refine ⟨_, rfl, ?_⟩
  try dsimp only
  repeat' first
    | with_reducible assumption | with_reducible refine State.setVbus_keeps ?_ | with_reducible refine State.noRegen_keeps ?_
    | with_reducible refine State.setF_keeps ?_ | with_reducible refine State.raiseMotion_keeps ?_
    | with_reducible refine Keeps.ite_ ?_ ?_

theorem State.vcmOffAfter_keeps {a₀ s : State} {k : Nat} (hk : Keeps a₀ s) :
    Keeps a₀ (State.vcmOffAfter s k) := by
  unfold State.vcmOffAfter
  try dsimp only
  repeat' first
    | with_reducible assumption | with_reducible refine State.setMfe_keeps ?_ | with_reducible refine State.setVcmOff_keeps ?_
    | with_reducible refine Keeps.ite_ ?_ ?_ | fail_if_no_progress with_reducible refine Keeps.mk_ ?_ rfl rfl

theorem execVbusAbove15v_keeps {a₀ s : State} {vbus : Nat} (hk : Keeps a₀ s) :
    ∃ u₀, (execVbusAbove15v vbus s) = .next u₀ ∧ Keeps a₀ u₀ := by
  unfold execVbusAbove15v
  refine ⟨_, rfl, ?_⟩
  try dsimp only
  repeat' first
    | with_reducible assumption | with_reducible refine State.setVbus_keeps ?_ | with_reducible refine State.bridgeOff_keeps ?_
    | with_reducible refine State.setMfe_keeps ?_ | with_reducible refine State.retractOffRamp_keeps ?_
    | with_reducible refine State.vcmOffAfter_keeps ?_ | with_reducible refine State.setF_keeps ?_
    | with_reducible refine State.raiseMotion_keeps ?_ | with_reducible refine Keeps.ite_ ?_ ?_
    | fail_if_no_progress with_reducible refine Keeps.mk_ ?_ rfl rfl

theorem State.vcmAgain_keeps {a₀ s : State} {k : Nat} (hk : Keeps a₀ s) :
    Keeps a₀ (State.vcmAgain s k) := by
  unfold State.vcmAgain
  try dsimp only
  repeat' first
    | with_reducible assumption | with_reducible refine State.setVcmOff_keeps ?_ | with_reducible refine State.setMfe_keeps ?_
    | with_reducible refine Keeps.ite_ ?_ ?_ | fail_if_no_progress with_reducible refine Keeps.mk_ ?_ rfl rfl

theorem execVbusBelow14v2Again_keeps {a₀ s : State} {vbus : Nat} (hk : Keeps a₀ s) :
    ∃ u₀, (execVbusBelow14v2Again vbus s) = .next u₀ ∧ Keeps a₀ u₀ := by
  unfold execVbusBelow14v2Again
  refine ⟨_, rfl, ?_⟩
  try dsimp only
  repeat' first
    | with_reducible assumption | with_reducible refine State.setVbus_keeps ?_ | with_reducible refine State.setMfe_keeps ?_
    | with_reducible refine State.setF_keeps ?_ | with_reducible refine State.vcmAgain_keeps ?_
    | with_reducible refine State.startSpin_keeps ?_ | with_reducible refine Keeps.ite_ ?_ ?_
    | fail_if_no_progress with_reducible refine Keeps.mk_ ?_ rfl rfl

theorem State.supplyBack_keeps {a₀ s : State} (hk : Keeps a₀ s) :
    Keeps a₀ (State.supplyBack s) := by
  unfold State.supplyBack
  try dsimp only
  repeat' first
    | with_reducible assumption | with_reducible refine State.setMfe_keeps ?_
    | with_reducible refine State.uninhibitBoth_keeps ?_ | with_reducible refine State.motionReset_keeps ?_
    | with_reducible refine Keeps.ite_ ?_ ?_ | fail_if_no_progress with_reducible refine Keeps.mk_ ?_ rfl rfl

theorem execIdealDiodeSwitch_keeps {a₀ s : State} {v12 : Int} {vbus : Nat} (hk : Keeps a₀ s) :
    ∃ u₀, (execIdealDiodeSwitch v12 vbus s) = .next u₀ ∧ Keeps a₀ u₀ := by
  unfold execIdealDiodeSwitch
  refine ⟨_, rfl, ?_⟩
  try dsimp only
  repeat' first
    | with_reducible assumption | with_reducible refine State.setVbus_keeps ?_ | with_reducible refine State.setF_keeps ?_
    | with_reducible refine State.setMfe_keeps ?_ | with_reducible refine State.supplyBack_keeps ?_
    | with_reducible refine State.settle_keeps ?_ | with_reducible refine Keeps.ite_ ?_ ?_
    | fail_if_no_progress with_reducible refine Keeps.mk_ ?_ rfl rfl

theorem execFetNotConducting_keeps {a₀ s : State} (hk : Keeps a₀ s) :
    ∃ u₀, (execFetNotConducting s) = .next u₀ ∧ Keeps a₀ u₀ := by
  unfold execFetNotConducting
  refine ⟨_, rfl, ?_⟩
  try dsimp only
  repeat' first
    | with_reducible assumption | with_reducible refine State.raiseMotion_keeps ?_ | with_reducible refine Keeps.ite_ ?_ ?_

theorem execChopperOpen_keeps {a₀ s : State} {amps : Nat} {vbus : Nat} (hk : Keeps a₀ s) :
    ∃ u₀, (execChopperOpen amps vbus s) = .next u₀ ∧ Keeps a₀ u₀ := by
  unfold execChopperOpen
  refine ⟨_, rfl, ?_⟩
  try dsimp only
  repeat' first
    | with_reducible assumption | with_reducible refine State.setVbus_keeps ?_ | with_reducible refine State.noRegen_keeps ?_
    | with_reducible refine State.setF_keeps ?_ | with_reducible refine State.raiseMotion_keeps ?_
    | with_reducible refine Keeps.ite_ ?_ ?_

theorem execChopperShort_keeps {a₀ s : State} {amps : Nat} (hk : Keeps a₀ s) :
    ∃ u₀, (execChopperShort amps s) = .next u₀ ∧ Keeps a₀ u₀ := by
  unfold execChopperShort
  refine ⟨_, rfl, ?_⟩
  try dsimp only
  repeat' first
    | with_reducible assumption | with_reducible refine State.setF_keeps ?_ | with_reducible refine State.raiseMotion_keeps ?_
    | with_reducible refine State.unloadBoth_keeps ?_ | with_reducible refine State.setSpm_keeps ?_
    | with_reducible refine State.startBrake_keeps ?_ | with_reducible refine State.settle_keeps ?_
    | with_reducible refine Keeps.ite_ ?_ ?_ | fail_if_no_progress with_reducible refine Keeps.mk_ ?_ rfl rfl

theorem State.clearLatches_keeps {a₀ s : State} (hk : Keeps a₀ s) :
    Keeps a₀ (State.clearLatches s) := by
  unfold State.clearLatches
  try dsimp only
  repeat' first
    | with_reducible assumption | with_reducible refine State.setF_keeps ?_ | with_reducible refine State.setMfe_keeps ?_
    | with_reducible refine State.setSpm_keeps ?_ | with_reducible refine Keeps.ite_ ?_ ?_
    | fail_if_no_progress with_reducible refine Keeps.mk_ ?_ rfl rfl

theorem execClearLatches_keeps {a₀ s : State} (hk : Keeps a₀ s) :
    ∃ u₀, (execClearLatches s) = .next u₀ ∧ Keeps a₀ u₀ := by
  unfold execClearLatches
  try dsimp only
  repeat' first
    | with_reducible refine Keeps.next_ ?_ | with_reducible refine Keeps.iteR_ ?_ ?_
    | with_reducible assumption | with_reducible refine State.clearLatches_keeps ?_
    | split

theorem execVcmSetpointLoss_keeps {a₀ s : State} {k : Nat} (hk : Keeps a₀ s) :
    ∃ u₀, (execVcmSetpointLoss k s) = .next u₀ ∧ Keeps a₀ u₀ := by
  unfold execVcmSetpointLoss
  refine ⟨_, rfl, ?_⟩
  try dsimp only
  repeat' first
    | with_reducible assumption | with_reducible refine State.retract_keeps ?_ | with_reducible refine State.settle_keeps ?_
    | with_reducible refine Keeps.ite_ ?_ ?_

theorem execRetractVelocityEnd_keeps {a₀ s : State} {k : Nat} {mv : Int} {ma : Int} {late : Bool} (hk : Keeps a₀ s) :
    ∃ u₀, (execRetractVelocityEnd k mv ma late s) = .next u₀ ∧ Keeps a₀ u₀ := by
  unfold execRetractVelocityEnd
  refine ⟨_, rfl, ?_⟩
  try dsimp only
  repeat' first
    | with_reducible assumption | with_reducible refine State.setRet_keeps ?_ | with_reducible refine Keeps.ite_ ?_ ?_
    | fail_if_no_progress with_reducible refine Keeps.mk_ ?_ rfl rfl

theorem State.servoOff_keeps {a₀ s : State} {k : Nat} (hk : Keeps a₀ s) :
    Keeps a₀ (State.servoOff s k) := by
  unfold State.servoOff
  try dsimp only
  repeat' first
    | with_reducible assumption | with_reducible refine State.disableLoop_keeps ?_ | with_reducible refine State.setF_keeps ?_
    | with_reducible refine State.setSrv_keeps ?_
    | (with_reducible refine Keeps.foldl_ (fun t x ht => ?_) ?_ <;> try dsimp only)
    | fail_if_no_progress with_reducible refine Keeps.mk_ ?_ rfl rfl

theorem execRetractEnd_keeps {a₀ s : State} {k : Nat} (hk : Keeps a₀ s) :
    ∃ u₀, (execRetractEnd k s) = .next u₀ ∧ Keeps a₀ u₀ := by
  unfold execRetractEnd
  refine ⟨_, rfl, ?_⟩
  try dsimp only
  repeat' first
    | with_reducible assumption | with_reducible refine State.setRet_keeps ?_
    | with_reducible refine State.setRetracting_keeps ?_ | with_reducible refine State.setParked_keeps ?_
    | with_reducible refine State.setMfe_keeps ?_ | with_reducible refine State.setVcmOff_keeps ?_
    | with_reducible refine State.servoOff_keeps ?_ | with_reducible refine State.showServo_keeps ?_
    | with_reducible refine State.event_keeps ?_ | with_reducible refine State.bridgeOff_keeps ?_
    | with_reducible refine State.setF_keeps ?_ | with_reducible refine State.supplyBack_keeps ?_
    | with_reducible refine State.settle_keeps ?_ | with_reducible refine State.reverseBrake_keeps ?_
    | with_reducible refine State.startBrake_keeps ?_ | with_reducible refine Keeps.ite_ ?_ ?_
    | fail_if_no_progress with_reducible refine Keeps.mk_ ?_ rfl rfl

theorem execSupplyBelowThreshold_keeps {a₀ s : State} (hk : Keeps a₀ s) :
    ∃ u₀, (execSupplyBelowThreshold s) = .next u₀ ∧ Keeps a₀ u₀ := by
  unfold execSupplyBelowThreshold
  refine ⟨_, rfl, ?_⟩
  try dsimp only
  repeat' first
    | with_reducible assumption | with_reducible refine State.setMfe_keeps ?_ | with_reducible refine State.inhibitBoth_keeps ?_
    | with_reducible refine State.settle_keeps ?_ | fail_if_no_progress with_reducible refine Keeps.mk_ ?_ rfl rfl

theorem execPowerLossConfirm_keeps {a₀ s : State} (hk : Keeps a₀ s) :
    ∃ u₀, (execPowerLossConfirm s) = .next u₀ ∧ Keeps a₀ u₀ := by
  unfold execPowerLossConfirm
  refine ⟨_, rfl, ?_⟩
  try dsimp only
  repeat' first
    | with_reducible assumption | with_reducible refine State.setF_keeps ?_ | with_reducible refine State.bridgeOff_keeps ?_
    | with_reducible refine State.setMfe_keeps ?_ | with_reducible refine State.retractBoth_keeps ?_
    | with_reducible refine State.setSpm_keeps ?_ | with_reducible refine State.stat_keeps ?_
    | with_reducible refine State.raiseMotion_keeps ?_ | with_reducible refine Keeps.ite_ ?_ ?_
    | fail_if_no_progress with_reducible refine Keeps.mk_ ?_ rfl rfl

theorem State.freeCause_keeps {a₀ s : State} (hk : Keeps a₀ s) :
    Keeps a₀ (State.freeCause s).1 := by
  unfold State.freeCause
  try dsimp only
  repeat' first
    | with_reducible assumption | with_reducible refine State.useFree_keeps ?_ | split

theorem execPhaseShort_keeps {a₀ s : State} {ma : Int} {mv : Nat} (hk : Keeps a₀ s) :
    ∃ u₀, (execPhaseShort ma mv s) = .next u₀ ∧ Keeps a₀ u₀ := by
  unfold execPhaseShort
  refine ⟨_, rfl, ?_⟩
  try dsimp only
  repeat' first
    | with_reducible assumption | with_reducible refine State.freeCause_keeps ?_
    | with_reducible refine State.bridgeOff_keeps ?_ | with_reducible refine State.retractOffRamp_keeps ?_
    | with_reducible refine State.setF_keeps ?_ | with_reducible refine State.raiseMotion_keeps ?_
    | with_reducible refine State.setSpm_keeps ?_ | with_reducible refine Keeps.ite_ ?_ ?_
    | fail_if_no_progress with_reducible refine Keeps.mk_ ?_ rfl rfl | split

theorem execOpenPhase_keeps {a₀ s : State} {ma : Nat} {want : Nat} (hk : Keeps a₀ s) :
    ∃ u₀, (execOpenPhase ma want s) = .next u₀ ∧ Keeps a₀ u₀ := by
  unfold execOpenPhase
  refine ⟨_, rfl, ?_⟩
  try dsimp only
  repeat' first
    | with_reducible assumption | with_reducible refine State.freeCause_keeps ?_
    | with_reducible refine State.bridgeOff_keeps ?_ | with_reducible refine State.retractOffRamp_keeps ?_
    | with_reducible refine State.setF_keeps ?_ | with_reducible refine State.raiseMotion_keeps ?_
    | with_reducible refine Keeps.ite_ ?_ ?_

theorem execVcmShort_keeps {a₀ s : State} {k : Nat} {ma : Int} {desat : Bool} (hk : Keeps a₀ s) :
    ∃ u₀, (execVcmShort k ma desat s) = .next u₀ ∧ Keeps a₀ u₀ := by
  unfold execVcmShort
  refine ⟨_, rfl, ?_⟩
  try dsimp only
  repeat' first
    | with_reducible assumption | with_reducible refine State.holdMedia_keeps ?_
    | with_reducible refine State.setVcmOff_keeps ?_ | with_reducible refine State.setRetracting_keeps ?_
    | with_reducible refine State.setRet_keeps ?_ | with_reducible refine State.setF_keeps ?_
    | with_reducible refine State.raiseMotion_keeps ?_ | with_reducible refine Keeps.ite_ ?_ ?_

theorem execVcmOpen_keeps {a₀ s : State} {k : Nat} {ma : Int} (hk : Keeps a₀ s) :
    ∃ u₀, (execVcmOpen k ma s) = .next u₀ ∧ Keeps a₀ u₀ := by
  unfold execVcmOpen
  refine ⟨_, rfl, ?_⟩
  try dsimp only
  repeat' first
    | with_reducible assumption | with_reducible refine State.setF_keeps ?_ | with_reducible refine State.raiseMotion_keeps ?_
    | with_reducible refine Keeps.ite_ ?_ ?_

theorem execGateDriveSupplyLow_keeps {a₀ s : State} (hk : Keeps a₀ s) :
    ∃ u₀, (execGateDriveSupplyLow s) = .next u₀ ∧ Keeps a₀ u₀ := by
  unfold execGateDriveSupplyLow
  refine ⟨_, rfl, ?_⟩
  try dsimp only
  repeat' first
    | with_reducible assumption | with_reducible refine State.freeCause_keeps ?_
    | with_reducible refine State.bridgeOff_keeps ?_ | with_reducible refine State.retractOffRamp_keeps ?_
    | with_reducible refine State.vcmOffAfter_keeps ?_ | with_reducible refine State.setF_keeps ?_
    | with_reducible refine State.raiseMotion_keeps ?_

theorem execReversedInput_keeps {a₀ s : State} (hk : Keeps a₀ s) :
    ∃ u₀, (execReversedInput s) = .next u₀ ∧ Keeps a₀ u₀ := by
  unfold execReversedInput
  refine ⟨_, rfl, ?_⟩
  try dsimp only
  repeat' first
    | with_reducible assumption | with_reducible refine State.setF_keeps ?_ | with_reducible refine State.setMfe_keeps ?_
    | with_reducible refine State.raiseMotion_keeps ?_ | fail_if_no_progress with_reducible refine Keeps.mk_ ?_ rfl rfl

theorem execShock_keeps {a₀ s : State} {mv : Int} (hk : Keeps a₀ s) :
    ∃ u₀, (execShock mv s) = .next u₀ ∧ Keeps a₀ u₀ := by
  unfold execShock
  refine ⟨_, rfl, ?_⟩
  try dsimp only
  repeat' first
    | with_reducible assumption | with_reducible refine State.inhibitBoth_keeps ?_ | with_reducible refine State.setF_keeps ?_
    | with_reducible refine State.stat_keeps ?_ | with_reducible refine State.raiseMotion_keeps ?_
    | with_reducible refine Keeps.ite_ ?_ ?_

theorem execShockHoldEnd_keeps {a₀ s : State} (hk : Keeps a₀ s) :
    ∃ u₀, (execShockHoldEnd s) = .next u₀ ∧ Keeps a₀ u₀ := by
  unfold execShockHoldEnd
  refine ⟨_, rfl, ?_⟩
  try dsimp only
  repeat' first
    | with_reducible assumption | with_reducible refine State.uninhibitBoth_keeps ?_

theorem State.recoverIndex_keeps {a₀ s t : State} (h : Keeps a₀ s) (e : s.recoverIndex = some t) : Keeps a₀ t := by
  unfold State.recoverIndex at e
  split at e
  · cases e
  · split at e
    · cases e
    · dsimp only at e
      split at e
      · injection e with e
        rw [← e]
        repeat' first
          | with_reducible assumption | with_reducible refine Keeps.ite_ ?_ ?_ | with_reducible refine State.raise_keeps ?_
          | with_reducible refine State.replayAll_keeps ?_ | fail_if_no_progress with_reducible refine Keeps.mk_ ?_ rfl rfl
      · cases e

theorem State.switchImages_keeps {a₀ s : State} (hk : Keeps a₀ s) :
    Keeps a₀ (State.switchImages s) := by
  unfold State.switchImages
  try dsimp only
  repeat' first
    | with_reducible assumption | with_reducible refine State.setBootRec_keeps ?_ | with_reducible refine State.setF_keeps ?_
    | with_reducible refine Keeps.ite_ ?_ ?_ | fail_if_no_progress with_reducible refine Keeps.mk_ ?_ rfl rfl | split

theorem State.dmaStopHost_keeps {a₀ s : State} (h : Keeps a₀ s) : Keeps a₀ (State.dmaStopHost s) := by
  unfold State.dmaStopHost
  dsimp only
  refine Keeps.foldl_ (fun t x ht => State.setF_keeps ht) ?_
  exact Keeps.gen_ h (RegsWf.foldl_ (fun n x hn => RegsWf.foldl_ (fun n y hm => RegsWf.del _ _ hm) hn)) (fun _ hd => hd) (fun _ hb => hb)
    (fun _ hl => hl) (fun hm => hm)

theorem State.clearVectors_keeps {a₀ s : State} (hk : Keeps a₀ s) :
    Keeps a₀ (State.clearVectors s) := by
  unfold State.clearVectors
  try dsimp only
  repeat' first
    | with_reducible assumption | with_reducible refine State.setF_keeps ?_ | with_reducible refine Keeps.ite_ ?_ ?_
    | (with_reducible refine Keeps.foldl_ (fun t x ht => ?_) ?_ <;> try dsimp only)
    | fail_if_no_progress with_reducible refine Keeps.mk_ ?_ rfl rfl

theorem State.hdmReinit_keeps {a₀ s : State} (h : Keeps a₀ s) : Keeps a₀ (State.hdmReinit s) := by
  unfold State.hdmReinit
  dsimp only
  repeat' first
    | with_reducible assumption | with_reducible refine State.setF_keeps ?_ | with_reducible refine Keeps.ite_ ?_ ?_
    | with_reducible refine State.initBudget_keeps ?_ | exact h.dram_ (Memory.wf_filter _ _)

theorem State.endActivation_keeps {a₀ s : State} (hk : Keeps a₀ s) :
    Keeps a₀ (State.endActivation s) := by
  unfold State.endActivation
  try dsimp only
  repeat' first
    | with_reducible assumption | with_reducible refine State.switchImages_keeps ?_ | split

theorem State.settleSegments_keeps {a₀ s : State} (hk : Keeps a₀ s) :
    Keeps a₀ (State.settleSegments s) := by
  unfold State.settleSegments
  try dsimp only
  repeat' first
    | with_reducible assumption | with_reducible refine State.recovered_keeps ?_
    | with_reducible refine State.finishOrDiscard_keeps ?_ | with_reducible refine Keeps.ite_ ?_ ?_

theorem State.hostReset_keeps {a₀ s : State} {link : Bool} (h : Keeps a₀ s) : Keeps a₀ (State.hostReset s link) := by
  unfold State.hostReset
  dsimp only
  have h1 := State.dmaStopHost_keeps (State.tearDown_keeps (State.settleSegments_keeps (State.endActivation_keeps h)))
  repeat' first
    | with_reducible assumption | with_reducible refine State.pumpAll_keeps ?_ | with_reducible refine State.hdmReinit_keeps ?_
    | with_reducible refine State.clearVectors_keeps ?_ | with_reducible refine State.setF_keeps ?_
    | with_reducible refine State.applyUnit_keeps ?_ | with_reducible refine Keeps.ite_ ?_ ?_
    | refine Keeps.gen_ (x := State.dmaStopHost _) h1 (fun hr => RegsWf.reset _ _ _ (RegsWf.reset _ _ _ (RegsWf.reset _ _ _ hr)))
        (fun _ hd => hd) (fun _ hb => hb) (fun _ hl => hl) (fun hm => hm)

theorem State.hccClean_keeps {a₀ s : State} (hk : Keeps a₀ s) :
    Keeps a₀ (State.hccClean s) := by
  unfold State.hccClean
  try dsimp only
  repeat' first
    | with_reducible assumption | with_reducible refine State.emit_keeps ?_ | with_reducible refine State.hostWrite_keeps ?_
    | with_reducible refine State.hccCount_keeps ?_ | with_reducible refine Keeps.ite_ ?_ ?_
    | (with_reducible refine Keeps.foldlP_ (fun t x ht => ?_) ?_ <;> try dsimp only)
    | (with_reducible refine Keeps.foldl_ (fun t x ht => ?_) ?_ <;> try dsimp only)
    | fail_if_no_progress with_reducible refine Keeps.mk_ ?_ rfl rfl

theorem State.functionReset_keeps {a₀ s : State} (hk : Keeps a₀ s) :
    Keeps a₀ (State.functionReset s) := by
  unfold State.functionReset
  try dsimp only
  repeat' first
    | with_reducible assumption | with_reducible refine State.endActivation_keeps ?_
    | with_reducible refine State.settleSegments_keeps ?_ | with_reducible refine State.hccClean_keeps ?_
    | with_reducible refine State.tearDown_keeps ?_ | with_reducible refine State.dmaStopHost_keeps ?_
    | with_reducible refine State.clearVectors_keeps ?_ | with_reducible refine State.hccCount_keeps ?_
    | fail_if_no_progress with_reducible refine Keeps.mk_ ?_ rfl rfl

theorem State.objectReset_keeps {a₀ s : State} (hk : Keeps a₀ s) :
    Keeps a₀ (State.objectReset s) := by
  unfold State.objectReset
  try dsimp only
  repeat' first
    | with_reducible assumption | with_reducible refine State.complete_keeps ?_ | with_reducible refine State.freeTiles_keeps ?_
    | with_reducible refine State.settleSegments_keeps ?_ | with_reducible refine State.dropVolatile_keeps ?_
    | with_reducible refine State.resetUnit_keeps ?_ | with_reducible refine State.settleResets_keeps ?_
    | (with_reducible refine Keeps.foldl_ (fun t x ht => ?_) ?_ <;> try dsimp only)
    | fail_if_no_progress with_reducible refine Keeps.mk_ ?_ rfl rfl

theorem State.sharedReset_keeps {a₀ s : State} (hk : Keeps a₀ s) :
    Keeps a₀ (State.sharedReset s) := by
  unfold State.sharedReset
  try dsimp only
  repeat' first
    | with_reducible assumption | with_reducible refine State.warmReset_keeps ?_

theorem State.domainReset_keeps {a₀ s : State} {d : Nat} (hk : Keeps a₀ s) :
    Keeps a₀ (State.domainReset s d) := by
  unfold State.domainReset
  try dsimp only
  repeat' first
    | with_reducible assumption | with_reducible refine State.hostReset_keeps ?_
    | with_reducible refine State.objectReset_keeps ?_ | with_reducible refine State.mediaReset_keeps ?_
    | with_reducible refine State.motionReset_keeps ?_ | with_reducible refine State.sharedReset_keeps ?_ | split

theorem execInitBlockDone_keeps {a₀ s : State} (hk : Keeps a₀ s) :
    ∃ u₀, (execInitBlockDone s) = .next u₀ ∧ Keeps a₀ u₀ := by
  unfold execInitBlockDone
  refine ⟨_, rfl, ?_⟩
  try dsimp only
  repeat' first
    | with_reducible assumption | with_reducible refine State.blockDone_keeps ?_ | split

theorem execInitPatrolStall_keeps {a₀ s : State} (hk : Keeps a₀ s) :
    ∃ u₀, (execInitPatrolStall s) = .next u₀ ∧ Keeps a₀ u₀ := by
  unfold execInitPatrolStall
  refine ⟨_, rfl, ?_⟩
  try dsimp only
  repeat' first
    | with_reducible assumption | with_reducible refine State.raise_keeps ?_ | with_reducible refine Keeps.ite_ ?_ ?_

theorem State.leaveErrs_keeps {a₀ s : State} {l : Nat} {errs : List (Nat × Nat)} (hk : Keeps a₀ s) :
    Keeps a₀ (State.leaveErrs s l errs) := by
  unfold State.leaveErrs
  try dsimp only
  repeat' first
    | with_reducible assumption | with_reducible refine State.putTile_keeps ?_
    | with_reducible refine State.setDram_keeps ?_ (Memory.wf_putBytes _ _ _)
    | with_reducible refine State.setDram_keeps ?_ (Memory.wf_put _ _ _)
    | with_reducible refine State.setDram_keeps ?_ (Memory.foldl_ (fun _ _ hn => Memory.wf_put _ _ _ hn))
    | with_reducible refine Keeps.ite_ ?_ ?_ | (with_reducible refine Keeps.foldlP_ (fun t x ht => ?_) ?_ <;> try dsimp only)
    | (with_reducible refine Keeps.foldl_ (fun t x ht => ?_) ?_ <;> try dsimp only) | split

theorem State.rewriteLine_keeps {a₀ s : State} {l : Nat} {fixed : List (Nat × Nat)} (hk : Keeps a₀ s) :
    Keeps a₀ (State.rewriteLine s l fixed) := by
  unfold State.rewriteLine
  try dsimp only
  repeat' first
    | with_reducible assumption | with_reducible refine State.leaveErrs_keeps ?_
    | fail_if_no_progress with_reducible refine Keeps.mk_ ?_ rfl rfl

theorem State.poisonLine_keeps {a₀ s : State} {l : Nat} (hk : Keeps a₀ s) :
    Keeps a₀ (State.poisonLine s l) := by
  unfold State.poisonLine
  try dsimp only
  repeat' first
    | with_reducible assumption | fail_if_no_progress with_reducible refine Keeps.mk_ ?_ rfl rfl

theorem State.useOtherCopy_keeps {a₀ s : State} {l : Nat} (hk : Keeps a₀ s) :
    Keeps a₀ (State.useOtherCopy s l) := by
  unfold State.useOtherCopy
  try dsimp only
  repeat' first
    | with_reducible assumption | with_reducible refine State.readEcc_keeps ?_ | with_reducible refine State.dramWrite_keeps ?_
    | with_reducible refine State.raise_keeps ?_ | with_reducible refine Keeps.ite_ ?_ ?_

theorem State.lineLost_keeps {a₀ s : State} {l : Nat} {what : Nat} (hk : Keeps a₀ s) :
    Keeps a₀ (State.lineLost s l what) := by
  unfold State.lineLost
  try dsimp only
  repeat' first
    | with_reducible assumption | with_reducible refine State.useOtherCopy_keeps ?_
    | with_reducible refine State.setStore_keeps ?_ | with_reducible refine State.domainReset_keeps ?_
    | with_reducible refine State.tileFails_keeps ?_ | with_reducible refine State.objectReset_keeps ?_
    | with_reducible refine Keeps.ite_ ?_ ?_ | fail_if_no_progress with_reducible refine Keeps.mk_ ?_ rfl rfl | split

theorem State.countLost_keeps {a₀ s : State} {l : Nat} {type : Nat} {what : Nat} (hk : Keeps a₀ s) :
    Keeps a₀ (State.countLost s l type what) := by
  unfold State.countLost
  try dsimp only
  repeat' first
    | with_reducible assumption | with_reducible refine State.countUncorrected_keeps ?_
    | with_reducible refine State.lineLost_keeps ?_

theorem State.readLine_keeps {a₀ s : State} {l : Nat} {what : Nat} (hk : Keeps a₀ s) :
    Keeps a₀ (State.readLine s l what).1 := by
  unfold State.readLine
  try dsimp only
  repeat' first
    | with_reducible assumption | with_reducible refine State.countCorrected_keeps ?_
    | with_reducible refine State.queueRepair_keeps ?_ | with_reducible refine State.countLost_keeps ?_ | split

theorem State.readLines_keeps {a₀ s : State} {a : Nat} {n : Nat} (hk : Keeps a₀ s) :
    Keeps a₀ (State.readLines s a n) := by
  unfold State.readLines
  try dsimp only
  repeat' first
    | with_reducible assumption | with_reducible refine State.readLine_keeps ?_ | with_reducible refine State.initRange_keeps ?_
    | (with_reducible refine Keeps.foldlP_ (fun t x ht => ?_) ?_ <;> try dsimp only)
    | (with_reducible refine Keeps.foldl_ (fun t x ht => ?_) ?_ <;> try dsimp only)

theorem execDramAccess_keeps {a₀ s : State} {l : Nat} {err : List (Nat × Nat)} {what : Nat} {cls : Nat} (hk : Keeps a₀ s) :
    ∃ u₀, (execDramAccess l err what cls s) = .next u₀ ∧ Keeps a₀ u₀ := by
  unfold execDramAccess
  refine ⟨_, rfl, ?_⟩
  try dsimp only
  repeat' first
    | with_reducible assumption | with_reducible refine State.initFor_keeps ?_ | with_reducible refine State.charge_keeps ?_
    | with_reducible refine State.readLine_keeps ?_ | with_reducible refine Keeps.ite_ ?_ ?_
    | fail_if_no_progress with_reducible refine Keeps.mk_ ?_ rfl rfl

theorem State.repairLine_keeps {a₀ s : State} {l : Nat} {what : Nat} (hk : Keeps a₀ s) :
    Keeps a₀ (State.repairLine s l what) := by
  unfold State.repairLine
  try dsimp only
  repeat' first
    | with_reducible assumption | with_reducible refine State.charge_keeps ?_ | with_reducible refine State.rewriteLine_keeps ?_
    | with_reducible refine State.countLost_keeps ?_ | fail_if_no_progress with_reducible refine Keeps.mk_ ?_ rfl rfl | split

theorem State.patrolLine_keeps {a₀ s : State} {l : Nat} {what : Nat} (hk : Keeps a₀ s) :
    Keeps a₀ (State.patrolLine s l what) := by
  unfold State.patrolLine
  try dsimp only
  repeat' first
    | with_reducible assumption | with_reducible refine State.countCorrected_keeps ?_
    | with_reducible refine State.repairLine_keeps ?_ | split

theorem execPatrolStep_keeps {a₀ s : State} {what : Nat} (hk : Keeps a₀ s) :
    ∃ u₀, (execPatrolStep what s) = .next u₀ ∧ Keeps a₀ u₀ := by
  unfold execPatrolStep
  refine ⟨_, rfl, ?_⟩
  try dsimp only
  repeat' first
    | with_reducible assumption | with_reducible refine State.setF_keeps ?_ | with_reducible refine State.charge_keeps ?_
    | with_reducible refine State.repairLine_keeps ?_ | with_reducible refine State.patrolLine_keeps ?_
    | with_reducible refine State.stat_keeps ?_ | with_reducible refine Keeps.ite_ ?_ ?_
    | fail_if_no_progress with_reducible refine Keeps.mk_ ?_ rfl rfl | split

theorem State.setMerge_keeps {a₀ s : State} {m : List MergeEntry} (hk : Keeps a₀ s) :
    Keeps a₀ (State.setMerge s m) := by
  unfold State.setMerge
  try dsimp only
  repeat' first
    | with_reducible assumption | with_reducible refine State.setF_keeps ?_
    | fail_if_no_progress with_reducible refine Keeps.mk_ ?_ rfl rfl

theorem State.flushMerge_keeps {a₀ s : State} {e : MergeEntry} {parityOk : Bool} (hk : Keeps a₀ s) :
    Keeps a₀ (State.flushMerge s e parityOk) := by
  unfold State.flushMerge
  try dsimp only
  repeat' first
    | with_reducible assumption | with_reducible refine State.setMerge_keeps ?_ | with_reducible refine State.stat_keeps ?_
    | with_reducible refine State.charge_keeps ?_ | with_reducible refine State.readLine_keeps ?_
    | with_reducible refine State.poisonLine_keeps ?_ | with_reducible refine State.raise_keeps ?_
    | with_reducible refine State.rewriteLine_keeps ?_ | with_reducible refine State.setDram_keeps ?_ (Memory.wf_putBytes _ _ _)
    | with_reducible refine State.setDram_keeps ?_ (Memory.wf_put _ _ _)
    | with_reducible refine State.setDram_keeps ?_ (Memory.foldl_ (fun _ _ hn => Memory.wf_put _ _ _ hn))
    | with_reducible refine Keeps.ite_ ?_ ?_ | (with_reducible refine Keeps.foldlP_ (fun t x ht => ?_) ?_ <;> try dsimp only)
    | (with_reducible refine Keeps.foldl_ (fun t x ht => ?_) ?_ <;> try dsimp only) | split

theorem State.writeCells_keeps {a₀ s : State} {l : Nat} {cls : Nat} {cells : List Host.Cell} (hk : Keeps a₀ s) :
    Keeps a₀ (State.writeCells s l cls cells) := by
  unfold State.writeCells
  try dsimp only
  repeat' first
    | with_reducible assumption | with_reducible refine State.dramWrite_keeps ?_ | with_reducible refine State.charge_keeps ?_
    | with_reducible refine State.setMerge_keeps ?_ | with_reducible refine State.flushMerge_keeps ?_
    | with_reducible refine Keeps.ite_ ?_ ?_ | (with_reducible refine Keeps.foldlP_ (fun t x ht => ?_) ?_ <;> try dsimp only)
    | (with_reducible refine Keeps.foldl_ (fun t x ht => ?_) ?_ <;> try dsimp only) | split

theorem State.storeBytes_keeps {a₀ s : State} {a : Nat} {cls : Nat} {bs : List Byte} (hk : Keeps a₀ s) :
    Keeps a₀ (State.storeBytes s a cls bs) := by
  unfold State.storeBytes
  try dsimp only
  repeat' first
    | with_reducible assumption | with_reducible refine State.initFor_keeps ?_ | with_reducible refine State.writeCells_keeps ?_
    | with_reducible refine Keeps.ite_ ?_ ?_ | (with_reducible refine Keeps.foldl_ (fun t x ht => ?_) ?_ <;> try dsimp only)

theorem State.writeBuffer_keeps {a₀ s : State} {cls : Nat} {ps : Pieces} {bs : List Byte} (hk : Keeps a₀ s) :
    Keeps a₀ (State.writeBuffer s cls ps bs) := by
  induction ps generalizing s bs with
  | nil =>
    unfold State.writeBuffer
    try dsimp only
    repeat' first
      | with_reducible assumption | with_reducible refine State.storeBytes_keeps ?_
      | with_reducible refine State.emit_keeps ?_ | with_reducible refine State.hostWrite_keeps ?_
      | with_reducible refine Keeps.ite_ ?_ ?_ | split
  | cons y_ l_ ih =>
    unfold State.writeBuffer
    try dsimp only
    repeat' first
      | with_reducible assumption | with_reducible refine ih ?_ | with_reducible refine State.storeBytes_keeps ?_
      | with_reducible refine State.emit_keeps ?_ | with_reducible refine State.hostWrite_keeps ?_
      | with_reducible refine Keeps.ite_ ?_ ?_ | split

theorem execMergeWrite_keeps {a₀ s : State} {l : Nat} {cls : Nat} {cells : List Host.Cell} (hk : Keeps a₀ s) :
    ∃ u₀, (execMergeWrite l cls cells s) = .next u₀ ∧ Keeps a₀ u₀ := by
  unfold execMergeWrite
  refine ⟨_, rfl, ?_⟩
  try dsimp only
  repeat' first
    | with_reducible assumption | with_reducible refine State.initFor_keeps ?_ | with_reducible refine State.writeCells_keeps ?_
    | with_reducible refine Keeps.ite_ ?_ ?_

theorem execMergeHoldExpire_keeps {a₀ s : State} {l : Nat} {parityOk : Bool} (hk : Keeps a₀ s) :
    ∃ u₀, (execMergeHoldExpire l parityOk s) = .next u₀ ∧ Keeps a₀ u₀ := by
  unfold execMergeHoldExpire
  refine ⟨_, rfl, ?_⟩
  try dsimp only
  repeat' first
    | with_reducible assumption | with_reducible refine State.flushMerge_keeps ?_ | split

theorem execDqsOscillatorRead_keeps {a₀ s : State} {sub : Nat} {drift : Nat} (hk : Keeps a₀ s) :
    ∃ u₀, (execDqsOscillatorRead sub drift s) = .next u₀ ∧ Keeps a₀ u₀ := by
  unfold execDqsOscillatorRead
  refine ⟨_, rfl, ?_⟩
  try dsimp only
  repeat' first
    | with_reducible assumption | with_reducible refine State.raise_keeps ?_ | with_reducible refine Keeps.ite_ ?_ ?_
    | fail_if_no_progress with_reducible refine Keeps.mk_ ?_ rfl rfl

theorem execZqCalibration_keeps {a₀ s : State} (hk : Keeps a₀ s) :
    ∃ u₀, (execZqCalibration s) = .next u₀ ∧ Keeps a₀ u₀ := by
  unfold execZqCalibration
  try dsimp only
  repeat' first
    | with_reducible refine Keeps.next_ ?_ | with_reducible refine Keeps.iteR_ ?_ ?_
    | with_reducible assumption
    | split

theorem execDramTemperatureRead_keeps {a₀ s : State} {hot : List Nat} (hk : Keeps a₀ s) :
    ∃ u₀, (execDramTemperatureRead hot s) = .next u₀ ∧ Keeps a₀ u₀ := by
  unfold execDramTemperatureRead
  refine ⟨_, rfl, ?_⟩
  try dsimp only
  repeat' first
    | with_reducible assumption | with_reducible refine State.setF_keeps ?_
    | fail_if_no_progress with_reducible refine Keeps.mk_ ?_ rfl rfl

theorem execBiasRequest_keeps {a₀ s : State} {count : Nat} (hk : Keeps a₀ s) :
    ∃ u₀, (execBiasRequest count s) = .next u₀ ∧ Keeps a₀ u₀ := by
  unfold execBiasRequest
  refine ⟨_, rfl, ?_⟩
  try dsimp only
  repeat' first
    | with_reducible assumption | with_reducible refine State.setF_keeps ?_ | with_reducible refine Keeps.ite_ ?_ ?_
    | fail_if_no_progress with_reducible refine Keeps.mk_ ?_ rfl rfl

theorem State.flipBias_keeps {a₀ s : State} {page : Nat} (hk : Keeps a₀ s) :
    Keeps a₀ (State.flipBias s page) := by
  unfold State.flipBias
  try dsimp only
  repeat' first
    | with_reducible assumption | with_reducible refine State.bumpF_keeps ?_ | with_reducible refine State.stat_keeps ?_
    | with_reducible refine Keeps.ite_ ?_ ?_ | fail_if_no_progress with_reducible refine Keeps.mk_ ?_ rfl rfl

theorem execCxlMemAccess_keeps {a₀ s : State} {hpa : Nat} {write : Option (List Host.Cell)} {poison : Bool} (hk : Keeps a₀ s) :
    ∃ u₀, (execCxlMemAccess hpa write poison s) = .next u₀ ∧ Keeps a₀ u₀ := by
  unfold execCxlMemAccess
  refine ⟨_, rfl, ?_⟩
  try dsimp only
  repeat' first
    | with_reducible assumption | with_reducible refine State.initFor_keeps ?_ | with_reducible refine State.flipBias_keeps ?_
    | with_reducible refine State.setMerge_keeps ?_ | with_reducible refine State.poisonLine_keeps ?_
    | with_reducible refine State.charge_keeps ?_ | with_reducible refine State.writeCells_keeps ?_
    | with_reducible refine State.emit_keeps ?_ | with_reducible refine State.readLine_keeps ?_
    | with_reducible refine Keeps.ite_ ?_ ?_ | fail_if_no_progress with_reducible refine Keeps.mk_ ?_ rfl rfl | split

theorem State.setCacheInvalid_keeps {a₀ s : State} {b : Bool} (hk : Keeps a₀ s) :
    Keeps a₀ (State.setCacheInvalid s b) := by
  unfold State.setCacheInvalid
  try dsimp only
  repeat' first
    | with_reducible assumption | with_reducible refine Keeps.ite_ ?_ ?_
    | fail_if_no_progress with_reducible refine Keeps.mk_ ?_ rfl rfl

theorem State.setDisableCaching_keeps {a₀ s : State} {b : Bool} (hk : Keeps a₀ s) :
    Keeps a₀ (State.setDisableCaching s b) := by
  unfold State.setDisableCaching
  try dsimp only
  repeat' first
    | with_reducible assumption | with_reducible refine Keeps.ite_ ?_ ?_
    | fail_if_no_progress with_reducible refine Keeps.mk_ ?_ rfl rfl

theorem State.walkEnds_keeps {a₀ s : State} (hk : Keeps a₀ s) :
    Keeps a₀ (State.walkEnds s) := by
  unfold State.walkEnds
  try dsimp only
  repeat' first
    | with_reducible assumption | with_reducible refine State.hccCount_keeps ?_ | with_reducible refine State.setF_keeps ?_
    | with_reducible refine State.setCacheInvalid_keeps ?_ | with_reducible refine Keeps.ite_ ?_ ?_
    | fail_if_no_progress with_reducible refine Keeps.mk_ ?_ rfl rfl

theorem State.hccDisable_keeps {a₀ s : State} (hk : Keeps a₀ s) :
    Keeps a₀ (State.hccDisable s) := by
  unfold State.hccDisable
  try dsimp only
  repeat' first
    | with_reducible assumption | with_reducible refine State.setDisableCaching_keeps ?_
    | with_reducible refine State.setF_keeps ?_ | with_reducible refine State.hccWriteback_keeps ?_
    | with_reducible refine State.walkEnds_keeps ?_ | with_reducible refine Keeps.ite_ ?_ ?_
    | (with_reducible refine Keeps.foldl_ (fun t x ht => ?_) ?_ <;> try dsimp only)

theorem execHccDisable_keeps {a₀ s : State} (hk : Keeps a₀ s) :
    ∃ u₀, (execHccDisable s) = .next u₀ ∧ Keeps a₀ u₀ := by
  unfold execHccDisable
  try dsimp only
  repeat' first
    | with_reducible refine Keeps.next_ ?_ | with_reducible refine Keeps.iteR_ ?_ ?_
    | with_reducible assumption | with_reducible refine State.hccDisable_keeps ?_
    | split

theorem execHccWalkOvertime_keeps {a₀ s : State} (hk : Keeps a₀ s) :
    ∃ u₀, (execHccWalkOvertime s) = .next u₀ ∧ Keeps a₀ u₀ := by
  unfold execHccWalkOvertime
  refine ⟨_, rfl, ?_⟩
  try dsimp only
  repeat' first
    | with_reducible assumption | with_reducible refine State.raise_keeps ?_ | with_reducible refine Keeps.ite_ ?_ ?_
    | fail_if_no_progress with_reducible refine Keeps.mk_ ?_ rfl rfl

theorem State.readMailboxes_keeps {a₀ s : State} (hk : Keeps a₀ s) :
    Keeps a₀ (State.readMailboxes s) := by
  unfold State.readMailboxes
  try dsimp only
  repeat' first
    | with_reducible assumption | with_reducible refine State.placeMailbox_keeps ?_ | with_reducible refine Keeps.ite_ ?_ ?_
    | (with_reducible refine Keeps.foldl_ (fun t x ht => ?_) ?_ <;> try dsimp only) | split

theorem State.hccEnable_keeps {a₀ s : State} {tails : List (Nat × Option Nat)} (hk : Keeps a₀ s) :
    Keeps a₀ (State.hccEnable s tails) := by
  unfold State.hccEnable
  try dsimp only
  repeat' first
    | with_reducible assumption | with_reducible refine State.setF_keeps ?_
    | with_reducible refine State.setCacheInvalid_keeps ?_ | with_reducible refine State.setDisableCaching_keeps ?_
    | with_reducible refine State.mailboxTail_keeps ?_ | with_reducible refine State.readMailboxes_keeps ?_
    | with_reducible refine Keeps.ite_ ?_ ?_ | (with_reducible refine Keeps.foldlP_ (fun t x ht => ?_) ?_ <;> try dsimp only)
    | (with_reducible refine Keeps.foldl_ (fun t x ht => ?_) ?_ <;> try dsimp only)

theorem execHccEnable_keeps {a₀ s : State} {tails : List (Nat × Option Nat)} (hk : Keeps a₀ s) :
    ∃ u₀, (execHccEnable tails s) = .next u₀ ∧ Keeps a₀ u₀ := by
  unfold execHccEnable
  refine ⟨_, rfl, ?_⟩
  try dsimp only
  repeat' first
    | with_reducible assumption | with_reducible refine State.hccEnable_keeps ?_

theorem State.rereadMailbox_keeps {a₀ s : State} {q : Queue} {tail : Option Nat} (hk : Keeps a₀ s) :
    Keeps a₀ (State.rereadMailbox s q tail) := by
  unfold State.rereadMailbox
  try dsimp only
  repeat' first
    | with_reducible assumption | with_reducible refine State.placeMailbox_keeps ?_
    | with_reducible refine State.mailboxTail_keeps ?_ | with_reducible refine Keeps.ite_ ?_ ?_ | split

theorem State.snoop_keeps {a₀ s : State} {addr : Nat} {inv : Bool} {old : List Byte} {tail : Option Nat} (hk : Keeps a₀ s) :
    Keeps a₀ (State.snoop s addr inv old tail) := by
  unfold State.snoop
  try dsimp only
  repeat' first
    | with_reducible assumption | with_reducible refine State.emit_keeps ?_ | with_reducible refine State.hccCount_keeps ?_
    | with_reducible refine State.stat_keeps ?_ | with_reducible refine State.rereadMailbox_keeps ?_
    | with_reducible refine State.walkEnds_keeps ?_ | with_reducible refine Keeps.ite_ ?_ ?_
    | fail_if_no_progress with_reducible refine Keeps.mk_ ?_ rfl rfl | split

theorem execHostSnoop_keeps {a₀ s : State} {addr : Nat} {inv : Bool} {old : List Byte} {tail : Option Nat} (hk : Keeps a₀ s) :
    ∃ u₀, (execHostSnoop addr inv old tail s) = .next u₀ ∧ Keeps a₀ u₀ := by
  unfold execHostSnoop
  refine ⟨_, rfl, ?_⟩
  try dsimp only
  repeat' first
    | with_reducible assumption | with_reducible refine State.snoop_keeps ?_ | with_reducible refine Keeps.ite_ ?_ ?_

theorem execMailboxSnoop_keeps {a₀ s : State} {qid : Nat} {tail : Option Nat} (hk : Keeps a₀ s) :
    ∃ u₀, (execMailboxSnoop qid tail s) = .next u₀ ∧ Keeps a₀ u₀ := by
  unfold execMailboxSnoop
  refine ⟨_, rfl, ?_⟩
  try dsimp only
  repeat' first
    | with_reducible assumption | with_reducible refine State.snoop_keeps ?_
    | with_reducible refine State.rereadMailbox_keeps ?_ | with_reducible refine Keeps.ite_ ?_ ?_ | split

theorem State.reissue_keeps {a₀ s : State} (hk : Keeps a₀ s) :
    Keeps a₀ (State.reissue s) := by
  unfold State.reissue
  try dsimp only
  repeat' first
    | with_reducible assumption | with_reducible refine State.ringWrite_keeps ?_
    | (with_reducible refine Keeps.foldlP_ (fun t x ht => ?_) ?_ <;> try dsimp only)
    | (with_reducible refine Keeps.foldl_ (fun t x ht => ?_) ?_ <;> try dsimp only)
    | fail_if_no_progress with_reducible refine Keeps.mk_ ?_ rfl rfl

theorem execWritebackGo_keeps {a₀ s : State} {addr : Nat} (hk : Keeps a₀ s) :
    ∃ u₀, (execWritebackGo addr s) = .next u₀ ∧ Keeps a₀ u₀ := by
  unfold execWritebackGo
  refine ⟨_, rfl, ?_⟩
  try dsimp only
  repeat' first
    | with_reducible assumption | with_reducible refine State.emit_keeps ?_ | with_reducible refine State.hostWrite_keeps ?_
    | with_reducible refine State.hccWriteback_keeps ?_ | with_reducible refine State.reissue_keeps ?_
    | with_reducible refine State.readMailboxes_keeps ?_ | with_reducible refine State.walkEnds_keeps ?_
    | (with_reducible refine Keeps.foldlP_ (fun t x ht => ?_) ?_ <;> try dsimp only)
    | (with_reducible refine Keeps.foldl_ (fun t x ht => ?_) ?_ <;> try dsimp only)
    | fail_if_no_progress with_reducible refine Keeps.mk_ ?_ rfl rfl | split

theorem State.pollMailbox_keeps {a₀ s : State} {qid : Nat} {tail : Option Nat} (hk : Keeps a₀ s) :
    Keeps a₀ (State.pollMailbox s qid tail) := by
  unfold State.pollMailbox
  try dsimp only
  repeat' first
    | with_reducible assumption | with_reducible refine State.emit_keeps ?_ | with_reducible refine State.mailboxTail_keeps ?_
    | with_reducible refine Keeps.ite_ ?_ ?_ | split

theorem execUnplacedMailboxPoll_keeps {a₀ s : State} {qid : Nat} {tail : Option Nat} (hk : Keeps a₀ s) :
    ∃ u₀, (execUnplacedMailboxPoll qid tail s) = .next u₀ ∧ Keeps a₀ u₀ := by
  unfold execUnplacedMailboxPoll
  refine ⟨_, rfl, ?_⟩
  try dsimp only
  repeat' first
    | with_reducible assumption | with_reducible refine State.pollMailbox_keeps ?_

theorem State.parityLog_keeps {a₀ s : State} {what : Nat} {way : Nat} {set : Nat} {dirty : Bool} {line : Option Nat} (hk : Keeps a₀ s) :
    Keeps a₀ (State.parityLog s what way set dirty line) := by
  unfold State.parityLog
  try dsimp only
  repeat' first
    | with_reducible assumption | with_reducible refine State.setF_keeps ?_ | with_reducible refine State.useFree_keeps ?_
    | split

theorem State.evictPoisoned_keeps {a₀ s : State} {l : HLine} (hk : Keeps a₀ s) :
    Keeps a₀ (State.evictPoisoned s l) := by
  unfold State.evictPoisoned
  try dsimp only
  repeat' first
    | with_reducible assumption | with_reducible refine State.hccWriteback_keeps ?_
    | fail_if_no_progress with_reducible refine Keeps.mk_ ?_ rfl rfl

theorem State.parityError_keeps {a₀ s : State} {set : Nat} {way : Nat} {what : Nat} {tail : Nat} (hk : Keeps a₀ s) :
    Keeps a₀ (State.parityError s set way what tail) := by
  unfold State.parityError
  try dsimp only
  repeat' first
    | with_reducible assumption | with_reducible refine State.parityLog_keeps ?_ | with_reducible refine State.raise_keeps ?_
    | with_reducible refine State.evictPoisoned_keeps ?_ | with_reducible refine State.hccCount_keeps ?_
    | with_reducible refine State.rereadMailbox_keeps ?_ | with_reducible refine State.stat_keeps ?_
    | with_reducible refine Keeps.ite_ ?_ ?_ | fail_if_no_progress with_reducible refine Keeps.mk_ ?_ rfl rfl | split

theorem execHccParitySweep_keeps {a₀ s : State} {set : Nat} {errors : List (Nat × Nat × Nat)} (hk : Keeps a₀ s) :
    ∃ u₀, (execHccParitySweep set errors s) = .next u₀ ∧ Keeps a₀ u₀ := by
  unfold execHccParitySweep
  refine ⟨_, rfl, ?_⟩
  try dsimp only
  repeat' first
    | with_reducible assumption | with_reducible refine State.parityError_keeps ?_
    | with_reducible refine State.walkEnds_keeps ?_
    | (with_reducible refine Keeps.foldlP_ (fun t x ht => ?_) ?_ <;> try dsimp only)
    | (with_reducible refine Keeps.foldl_ (fun t x ht => ?_) ?_ <;> try dsimp only)

theorem State.setPair_keeps {a₀ s : State} {lo : FieldRef} {hi : FieldRef} {v : Nat} (hk : Keeps a₀ s) :
    Keeps a₀ (State.setPair s lo hi v) := by
  unfold State.setPair
  try dsimp only
  repeat' first
    | with_reducible assumption | with_reducible refine State.setF_keeps ?_

theorem State.dmaState_keeps {a₀ s : State} {n : Nat} {st : Nat} {code : Nat} (hk : Keeps a₀ s) :
    Keeps a₀ (State.dmaState s n st code) := by
  unfold State.dmaState
  try dsimp only
  repeat' first
    | with_reducible assumption | with_reducible refine State.setF_keeps ?_

theorem State.doneWord_keeps {a₀ s : State} {n : Nat} {st : Nat} {code : Nat} (hk : Keeps a₀ s) :
    Keeps a₀ (State.doneWord s n st code) := by
  unfold State.doneWord
  try dsimp only
  repeat' first
    | with_reducible assumption | with_reducible refine State.hostWrite_keeps ?_ | with_reducible refine State.initFor_keeps ?_
    | with_reducible refine State.dramWrite_keeps ?_ | with_reducible refine State.charge_keeps ?_
    | with_reducible refine Keeps.ite_ ?_ ?_

theorem State.dmaEnd_keeps {a₀ s : State} {n : Nat} {st : Nat} {code : Nat} (hk : Keeps a₀ s) :
    Keeps a₀ (State.dmaEnd s n st code) := by
  unfold State.dmaEnd
  try dsimp only
  repeat' first
    | with_reducible assumption | with_reducible refine State.dmaState_keeps ?_ | with_reducible refine State.stat_keeps ?_
    | with_reducible refine State.doneWord_keeps ?_ | with_reducible refine State.groupEvent_keeps ?_
    | with_reducible refine Keeps.ite_ ?_ ?_

theorem State.dropRun_keeps {a₀ s : State} {n : Nat} (hk : Keeps a₀ s) :
    Keeps a₀ (State.dropRun s n) := by
  unfold State.dropRun
  try dsimp only
  repeat' first
    | with_reducible assumption | fail_if_no_progress with_reducible refine Keeps.mk_ ?_ rfl rfl

theorem State.setRun_keeps {a₀ s : State} {r : DmaRun} (hk : Keeps a₀ s) :
    Keeps a₀ (State.setRun s r) := by
  unfold State.setRun
  try dsimp only
  repeat' first
    | with_reducible assumption | fail_if_no_progress with_reducible refine Keeps.mk_ ?_ rfl rfl

theorem State.dmaIndices_keeps {a₀ s : State} {r : DmaRun} {l : Nat} (hk : Keeps a₀ s) :
    Keeps a₀ (State.dmaIndices s r l) := by
  unfold State.dmaIndices
  try dsimp only
  repeat' first
    | with_reducible assumption | with_reducible refine State.setF_keeps ?_

theorem State.dmaHalt_keeps {a₀ s : State} {r : DmaRun} {l : Nat} {onDst : Bool} {cause : Nat} (hk : Keeps a₀ s) :
    Keeps a₀ (State.dmaHalt s r l onDst cause) := by
  unfold State.dmaHalt
  try dsimp only
  repeat' first
    | with_reducible assumption | with_reducible refine State.dmaIndices_keeps ?_ | with_reducible refine State.setPair_keeps ?_
    | with_reducible refine State.setF_keeps ?_ | with_reducible refine State.setRun_keeps ?_
    | with_reducible refine State.dmaEnd_keeps ?_ | with_reducible refine State.raise_keeps ?_
    | fail_if_no_progress with_reducible refine Keeps.mk_ ?_ rfl rfl

theorem State.patchTile_keeps {a₀ s : State} {slot : Nat} {off : Nat} {bs : List Byte} (hk : Keeps a₀ s) :
    Keeps a₀ (State.patchTile s slot off bs) := by
  unfold State.patchTile
  try dsimp only
  repeat' first
    | with_reducible assumption | with_reducible refine State.putTile_keeps ?_

theorem State.dmaTouch_keeps {a₀ s : State} {held : List (Nat × List Byte)} {a : Nat × Nat} (hk : Keeps a₀ s) :
    Keeps a₀ (State.dmaTouch s held a) := by
  unfold State.dmaTouch
  try dsimp only
  repeat' first
    | with_reducible assumption | with_reducible refine State.obtainLine_keeps ?_ | with_reducible refine State.initFor_keeps ?_
    | with_reducible refine State.readLine_keeps ?_ | with_reducible refine Keeps.ite_ ?_ ?_

theorem State.chargeDma_keeps {a₀ s : State} {n : Nat} {cost : Nat} (hk : Keeps a₀ s) :
    Keeps a₀ (State.chargeDma s n cost) := by
  unfold State.chargeDma
  try dsimp only
  repeat' first
    | with_reducible assumption | with_reducible refine State.charge_keeps ?_ | with_reducible refine Keeps.ite_ ?_ ?_
    | fail_if_no_progress with_reducible refine Keeps.mk_ ?_ rfl rfl

theorem State.dmaWrite_keeps {a₀ s : State} {sp : Nat} {a : Nat} {big : Bool} {bs : List Byte} (hk : Keeps a₀ s) :
    Keeps a₀ (State.dmaWrite s sp a big bs) := by
  unfold State.dmaWrite
  try dsimp only
  repeat' first
    | with_reducible assumption | with_reducible refine State.emit_keeps ?_ | with_reducible refine State.hostWrite_keeps ?_
    | with_reducible refine State.hdmWrite_keeps ?_ | with_reducible refine State.patchTile_keeps ?_
    | with_reducible refine State.initFor_keeps ?_ | with_reducible refine State.dramWrite_keeps ?_
    | with_reducible refine Keeps.ite_ ?_ ?_ | split

theorem State.dmaMove_keeps {a₀ s : State} {n : Nat} {r : DmaRun} {x : DmaData} {l : Nat} (hk : Keeps a₀ s) :
    Keeps a₀ (State.dmaMove n s r x l).1 := by
  induction n generalizing s l with
  | zero =>
    unfold State.dmaMove
    try dsimp only
    repeat' first
      | with_reducible assumption | with_reducible refine State.dmaHalt_keeps ?_
      | with_reducible refine State.dmaTouch_keeps ?_ | with_reducible refine State.dmaWrite_keeps ?_
      | with_reducible refine State.chargeDma_keeps ?_ | with_reducible refine Keeps.ite_ ?_ ?_ | split
  | succ m_ ih =>
    unfold State.dmaMove
    try dsimp only
    repeat' first
      | with_reducible assumption | with_reducible refine ih ?_ | with_reducible refine State.dmaHalt_keeps ?_
      | with_reducible refine State.dmaTouch_keeps ?_ | with_reducible refine State.dmaWrite_keeps ?_
      | with_reducible refine State.chargeDma_keeps ?_ | with_reducible refine Keeps.ite_ ?_ ?_ | split

theorem State.obtainElement_keeps {a₀ s : State} {r : DmaRun} {x : DmaData} {l : Nat} (hk : Keeps a₀ s) :
    Keeps a₀ (State.obtainElement s r x l) := by
  unfold State.obtainElement
  try dsimp only
  repeat' first
    | with_reducible assumption | with_reducible refine State.obtainLine_keeps ?_ | with_reducible refine Keeps.ite_ ?_ ?_
    | (with_reducible refine Keeps.foldlP_ (fun t x ht => ?_) ?_ <;> try dsimp only)
    | (with_reducible refine Keeps.foldl_ (fun t x ht => ?_) ?_ <;> try dsimp only)

theorem State.dmaReads_keeps {a₀ s : State} {r : DmaRun} {x : DmaData} {l : Nat} (hk : Keeps a₀ s) :
    Keeps a₀ (State.dmaReads s r x l) := by
  unfold State.dmaReads
  try dsimp only
  repeat' first
    | with_reducible assumption | with_reducible refine State.dmaTouch_keeps ?_ | with_reducible refine State.chargeDma_keeps ?_
    | (with_reducible refine Keeps.foldl_ (fun t x ht => ?_) ?_ <;> try dsimp only)

theorem State.dmaDiffers_keeps {a₀ s : State} {r : DmaRun} {l : Nat} {off : Nat} {code : Nat} (hk : Keeps a₀ s) :
    Keeps a₀ (State.dmaDiffers s r l off code) := by
  unfold State.dmaDiffers
  try dsimp only
  repeat' first
    | with_reducible assumption | with_reducible refine State.dmaIndices_keeps ?_ | with_reducible refine State.setPair_keeps ?_
    | with_reducible refine State.dropRun_keeps ?_ | with_reducible refine State.dmaEnd_keeps ?_

theorem State.dmaCompare_keeps {a₀ s : State} {n : Nat} {r : DmaRun} {x : DmaData} {l : Nat} (hk : Keeps a₀ s) :
    Keeps a₀ (State.dmaCompare n s r x l).1 := by
  induction n generalizing s l with
  | zero =>
    unfold State.dmaCompare
    try dsimp only
    repeat' first
      | with_reducible assumption | with_reducible refine State.dmaHalt_keeps ?_
      | with_reducible refine State.obtainElement_keeps ?_ | with_reducible refine State.dmaReads_keeps ?_
      | with_reducible refine State.tileFails_keeps ?_ | with_reducible refine State.dmaDiffers_keeps ?_
      | with_reducible refine Keeps.ite_ ?_ ?_ | (with_reducible refine Keeps.foldlP_ (fun t x ht => ?_) ?_ <;> try dsimp only)
      | (with_reducible refine Keeps.foldl_ (fun t x ht => ?_) ?_ <;> try dsimp only) | split
  | succ m_ ih =>
    unfold State.dmaCompare
    try dsimp only
    repeat' first
      | with_reducible assumption | with_reducible refine ih ?_ | with_reducible refine State.dmaHalt_keeps ?_
      | with_reducible refine State.obtainElement_keeps ?_ | with_reducible refine State.dmaReads_keeps ?_
      | with_reducible refine State.tileFails_keeps ?_ | with_reducible refine State.dmaDiffers_keeps ?_
      | with_reducible refine Keeps.ite_ ?_ ?_ | (with_reducible refine Keeps.foldlP_ (fun t x ht => ?_) ?_ <;> try dsimp only)
      | (with_reducible refine Keeps.foldl_ (fun t x ht => ?_) ?_ <;> try dsimp only) | split

theorem State.dmaUpTo_keeps {a₀ s : State} {r : DmaRun} {x : DmaData} {stop : Nat} (hk : Keeps a₀ s) :
    Keeps a₀ (State.dmaUpTo s r x stop).1 := by
  unfold State.dmaUpTo
  try dsimp only
  repeat' first
    | with_reducible assumption | with_reducible refine State.dmaCompare_keeps ?_ | with_reducible refine State.dmaMove_keeps ?_
    | with_reducible refine Keeps.ite_ ?_ ?_ | split

theorem State.dmaPartly_keeps {a₀ s : State} {r : DmaRun} {x : DmaData} {first : Nat} {more : List Nat} (hk : Keeps a₀ s) :
    Keeps a₀ (State.dmaPartly s r x first more) := by
  unfold State.dmaPartly
  try dsimp only
  repeat' first
    | with_reducible assumption | with_reducible refine State.dmaWrite_keeps ?_ | with_reducible refine State.chargeDma_keeps ?_
    | with_reducible refine Keeps.ite_ ?_ ?_ | (with_reducible refine Keeps.foldlP_ (fun t x ht => ?_) ?_ <;> try dsimp only)
    | (with_reducible refine Keeps.foldl_ (fun t x ht => ?_) ?_ <;> try dsimp only) | split

theorem execDmaGo_keeps {a₀ s : State} {n : Nat} {srcL : List Byte} {dstL : List Byte} {listsOk : Bool} (hk : Keeps a₀ s) :
    ∃ u₀, (execDmaGo n srcL dstL listsOk s) = .next u₀ ∧ Keeps a₀ u₀ := by
  unfold execDmaGo
  refine ⟨_, rfl, ?_⟩
  try dsimp only
  repeat' first
    | with_reducible assumption | with_reducible refine State.readLines_keeps ?_
    | with_reducible refine State.chargeDma_keeps ?_ | with_reducible refine State.dmaEnd_keeps ?_
    | with_reducible refine State.setRun_keeps ?_ | with_reducible refine State.dmaState_keeps ?_
    | with_reducible refine Keeps.ite_ ?_ ?_

theorem execDmaDone_keeps {a₀ s : State} {n : Nat} {x : DmaData} (hk : Keeps a₀ s) :
    ∃ u₀, (execDmaDone n x s) = .next u₀ ∧ Keeps a₀ u₀ := by
  unfold execDmaDone
  refine ⟨_, rfl, ?_⟩
  try dsimp only
  repeat' first
    | with_reducible assumption | with_reducible refine State.dmaUpTo_keeps ?_ | with_reducible refine State.dropRun_keeps ?_
    | with_reducible refine State.dmaEnd_keeps ?_ | with_reducible refine Keeps.ite_ ?_ ?_ | split

theorem State.dmaFails_keeps {a₀ s : State} {n : Nat} {l : Nat} {onDst : Bool} {cause : Nat} {x : DmaData} {more : List Nat} (hk : Keeps a₀ s) :
    Keeps a₀ (State.dmaFails s n l onDst cause x more) := by
  unfold State.dmaFails
  try dsimp only
  repeat' first
    | with_reducible assumption | with_reducible refine State.dmaUpTo_keeps ?_ | with_reducible refine State.dmaPartly_keeps ?_
    | with_reducible refine State.dmaHalt_keeps ?_ | with_reducible refine Keeps.ite_ ?_ ?_ | split

theorem execDmaHalt_keeps {a₀ s : State} {n : Nat} {l : Nat} {onDst : Bool} {cause : Nat} {x : DmaData} {more : List Nat} (hk : Keeps a₀ s) :
    ∃ u₀, (execDmaHalt n l onDst cause x more s) = .next u₀ ∧ Keeps a₀ u₀ := by
  unfold execDmaHalt
  refine ⟨_, rfl, ?_⟩
  try dsimp only
  repeat' first
    | with_reducible assumption | with_reducible refine State.dmaFails_keeps ?_

theorem execDmaAbort_keeps {a₀ s : State} {n : Nat} {l : Nat} {x : DmaData} {error : Option (Bool × Nat)} (hk : Keeps a₀ s) :
    ∃ u₀, (execDmaAbort n l x error s) = .next u₀ ∧ Keeps a₀ u₀ := by
  unfold execDmaAbort
  refine ⟨_, rfl, ?_⟩
  try dsimp only
  repeat' first
    | with_reducible assumption | with_reducible refine State.dropRun_keeps ?_ | with_reducible refine State.dmaEnd_keeps ?_
    | with_reducible refine State.dmaUpTo_keeps ?_ | with_reducible refine State.dmaHalt_keeps ?_
    | with_reducible refine Keeps.ite_ ?_ ?_ | split

theorem execDmaResume_keeps {a₀ s : State} {n : Nat} (hk : Keeps a₀ s) :
    ∃ u₀, (execDmaResume n s) = .next u₀ ∧ Keeps a₀ u₀ := by
  unfold execDmaResume
  refine ⟨_, rfl, ?_⟩
  try dsimp only
  repeat' first
    | with_reducible assumption | with_reducible refine State.dmaState_keeps ?_ | with_reducible refine Keeps.ite_ ?_ ?_

theorem execDmaStall_keeps {a₀ s : State} {n : Nat} (hk : Keeps a₀ s) :
    ∃ u₀, (execDmaStall n s) = .next u₀ ∧ Keeps a₀ u₀ := by
  unfold execDmaStall
  refine ⟨_, rfl, ?_⟩
  try dsimp only
  repeat' first
    | with_reducible assumption | with_reducible refine State.raise_keeps ?_ | with_reducible refine Keeps.ite_ ?_ ?_

theorem execCompletionTimeout_keeps {a₀ s : State} {ch : Option Nat} {l : Nat} {onDst : Bool} {x : DmaData} {more : List Nat} (hk : Keeps a₀ s) :
    ∃ u₀, (execCompletionTimeout ch l onDst x more s) = .next u₀ ∧ Keeps a₀ u₀ := by
  unfold execCompletionTimeout
  refine ⟨_, rfl, ?_⟩
  try dsimp only
  repeat' first
    | with_reducible assumption | with_reducible refine State.dmaFails_keeps ?_ | with_reducible refine State.stat_keeps ?_
    | with_reducible refine State.raise_keeps ?_ | split

theorem execPoisonReceived_keeps {a₀ s : State} {cache : Bool} {ch : Option Nat} {l : Nat} {onDst : Bool} {x : DmaData} {more : List Nat} (hk : Keeps a₀ s) :
    ∃ u₀, (execPoisonReceived cache ch l onDst x more s) = .next u₀ ∧ Keeps a₀ u₀ := by
  unfold execPoisonReceived
  refine ⟨_, rfl, ?_⟩
  try dsimp only
  repeat' first
    | with_reducible assumption | with_reducible refine State.dmaFails_keeps ?_ | with_reducible refine State.raise_keeps ?_
    | with_reducible refine Keeps.ite_ ?_ ?_ | fail_if_no_progress with_reducible refine Keeps.mk_ ?_ rfl rfl | split

theorem State.flushVectors_keeps {a₀ s : State} (hk : Keeps a₀ s) :
    Keeps a₀ (State.flushVectors s) := by
  unfold State.flushVectors
  try dsimp only
  repeat' first
    | with_reducible assumption | with_reducible refine State.signalVector_keeps ?_
    | (with_reducible refine Keeps.foldl_ (fun t x ht => ?_) ?_ <;> try dsimp only)
    | fail_if_no_progress with_reducible refine Keeps.mk_ ?_ rfl rfl

theorem State.hostResume_keeps {a₀ s : State} (hk : Keeps a₀ s) :
    Keeps a₀ (State.hostResume s) := by
  unfold State.hostResume
  try dsimp only
  repeat' first
    | with_reducible assumption | with_reducible refine State.emit_keeps ?_ | with_reducible refine State.hostWrite_keeps ?_
    | with_reducible refine State.pumpAll_keeps ?_ | with_reducible refine State.settleResets_keeps ?_
    | with_reducible refine State.flushVectors_keeps ?_ | with_reducible refine Keeps.ite_ ?_ ?_
    | (with_reducible refine Keeps.foldlP_ (fun t x ht => ?_) ?_ <;> try dsimp only)
    | (with_reducible refine Keeps.foldl_ (fun t x ht => ?_) ?_ <;> try dsimp only)
    | fail_if_no_progress with_reducible refine Keeps.mk_ ?_ rfl rfl

theorem execLinkTraining_keeps {a₀ s : State} {width : Nat} {rate : Nat} {cxl : Bool} {presets : List Nat} (hk : Keeps a₀ s) :
    ∃ u₀, (execLinkTraining width rate cxl presets s) = .next u₀ ∧ Keeps a₀ u₀ := by
  unfold execLinkTraining
  refine ⟨_, rfl, ?_⟩
  try dsimp only
  repeat' first
    | with_reducible assumption | with_reducible refine State.applyEntry_keeps ?_ | with_reducible refine State.setF_keeps ?_
    | with_reducible refine State.stat_keeps ?_ | with_reducible refine State.event_keeps ?_
    | with_reducible refine State.raise_keeps ?_ | with_reducible refine Keeps.ite_ ?_ ?_
    | fail_if_no_progress with_reducible refine Keeps.mk_ ?_ rfl rfl | split

theorem execSurpriseLinkDown_keeps {a₀ s : State} (hk : Keeps a₀ s) :
    ∃ u₀, (execSurpriseLinkDown s) = .next u₀ ∧ Keeps a₀ u₀ := by
  unfold execSurpriseLinkDown
  refine ⟨_, rfl, ?_⟩
  try dsimp only
  repeat' first
    | with_reducible assumption | with_reducible refine State.setF_keeps ?_ | with_reducible refine State.stat_keeps ?_
    | with_reducible refine State.hostReset_keeps ?_ | with_reducible refine State.raise_keeps ?_
    | with_reducible refine Keeps.ite_ ?_ ?_

theorem execHotReset_keeps {a₀ s : State} (hk : Keeps a₀ s) :
    ∃ u₀, (execHotReset s) = .next u₀ ∧ Keeps a₀ u₀ := by
  unfold execHotReset
  refine ⟨_, rfl, ?_⟩
  try dsimp only
  repeat' first
    | with_reducible assumption | with_reducible refine State.setF_keeps ?_ | with_reducible refine State.hostReset_keeps ?_
    | with_reducible refine Keeps.ite_ ?_ ?_

theorem execPerstNAssert_keeps {a₀ s : State} (hk : Keeps a₀ s) :
    ∃ u₀, (execPerstNAssert s) = .next u₀ ∧ Keeps a₀ u₀ := by
  unfold execPerstNAssert
  refine ⟨_, rfl, ?_⟩
  try dsimp only
  repeat' first
    | with_reducible assumption | with_reducible refine State.setF_keeps ?_ | with_reducible refine State.hostReset_keeps ?_
    | with_reducible refine Keeps.ite_ ?_ ?_ | fail_if_no_progress with_reducible refine Keeps.mk_ ?_ rfl rfl

theorem execPerstNDeassert_keeps {a₀ s : State} (hk : Keeps a₀ s) :
    ∃ u₀, (execPerstNDeassert s) = .next u₀ ∧ Keeps a₀ u₀ := by
  unfold execPerstNDeassert
  try dsimp only
  repeat' first
    | with_reducible refine Keeps.next_ ?_ | with_reducible refine Keeps.iteR_ ?_ ?_
    | with_reducible assumption | fail_if_no_progress with_reducible refine Keeps.mk_ ?_ rfl rfl
    | split

theorem State.flr_keeps {a₀ s : State} (hk : Keeps a₀ s) :
    Keeps a₀ (State.flr s) := by
  unfold State.flr
  try dsimp only
  repeat' first
    | with_reducible assumption | with_reducible refine State.setF_keeps ?_ | with_reducible refine State.functionReset_keeps ?_

theorem execFunctionLevelReset_keeps {a₀ s : State} (hk : Keeps a₀ s) :
    ∃ u₀, (execFunctionLevelReset s) = .next u₀ ∧ Keeps a₀ u₀ := by
  unfold execFunctionLevelReset
  refine ⟨_, rfl, ?_⟩
  try dsimp only
  repeat' first
    | with_reducible assumption | with_reducible refine State.flr_keeps ?_ | with_reducible refine Keeps.ite_ ?_ ?_

theorem State.cxlReset_keeps {a₀ s : State} (hk : Keeps a₀ s) :
    Keeps a₀ (State.cxlReset s) := by
  unfold State.cxlReset
  try dsimp only
  repeat' first
    | with_reducible assumption | with_reducible refine State.setF_keeps ?_ | with_reducible refine State.hostReset_keeps ?_
    | with_reducible refine State.cxlResetComplete_keeps ?_ | with_reducible refine Keeps.ite_ ?_ ?_
    | fail_if_no_progress with_reducible refine Keeps.mk_ ?_ rfl rfl

theorem execCxlReset_keeps {a₀ s : State} (hk : Keeps a₀ s) :
    ∃ u₀, (execCxlReset s) = .next u₀ ∧ Keeps a₀ u₀ := by
  unfold execCxlReset
  refine ⟨_, rfl, ?_⟩
  try dsimp only
  repeat' first
    | with_reducible assumption | with_reducible refine State.cxlReset_keeps ?_ | with_reducible refine Keeps.ite_ ?_ ?_

theorem State.toD3_keeps {a₀ s : State} (hk : Keeps a₀ s) :
    Keeps a₀ (State.toD3 s) := by
  unfold State.toD3
  try dsimp only
  repeat' first
    | with_reducible assumption | with_reducible refine State.setF_keeps ?_ | with_reducible refine Keeps.ite_ ?_ ?_
    | fail_if_no_progress with_reducible refine Keeps.mk_ ?_ rfl rfl

theorem State.toD0_keeps {a₀ s : State} (hk : Keeps a₀ s) :
    Keeps a₀ (State.toD0 s) := by
  unfold State.toD0
  try dsimp only
  repeat' first
    | with_reducible assumption | with_reducible refine State.setF_keeps ?_ | with_reducible refine State.hostResume_keeps ?_
    | with_reducible refine Keeps.ite_ ?_ ?_ | fail_if_no_progress with_reducible refine Keeps.mk_ ?_ rfl rfl

theorem execD3hotEntry_keeps {a₀ s : State} (hk : Keeps a₀ s) :
    ∃ u₀, (execD3hotEntry s) = .next u₀ ∧ Keeps a₀ u₀ := by
  unfold execD3hotEntry
  try dsimp only
  repeat' first
    | with_reducible refine Keeps.next_ ?_ | with_reducible refine Keeps.iteR_ ?_ ?_
    | with_reducible assumption | with_reducible refine State.toD3_keeps ?_
    | split

theorem execD0Return_keeps {a₀ s : State} (hk : Keeps a₀ s) :
    ∃ u₀, (execD0Return s) = .next u₀ ∧ Keeps a₀ u₀ := by
  unfold execD0Return
  try dsimp only
  repeat' first
    | with_reducible refine Keeps.next_ ?_ | with_reducible refine Keeps.iteR_ ?_ ?_
    | with_reducible assumption | with_reducible refine State.toD0_keeps ?_
    | split

theorem State.commitHdm_keeps {a₀ s : State} {base : Nat} {size : Nat} {lock : Bool} (hk : Keeps a₀ s) :
    Keeps a₀ (State.commitHdm s base size lock) := by
  unfold State.commitHdm
  try dsimp only
  repeat' first
    | with_reducible assumption | with_reducible refine State.setF_keeps ?_ | with_reducible refine State.event_keeps ?_
    | with_reducible refine Keeps.ite_ ?_ ?_

theorem execHdmCommit_keeps {a₀ s : State} {base : Nat} {size : Nat} {lock : Bool} (hk : Keeps a₀ s) :
    ∃ u₀, (execHdmCommit base size lock s) = .next u₀ ∧ Keeps a₀ u₀ := by
  unfold execHdmCommit
  refine ⟨_, rfl, ?_⟩
  try dsimp only
  repeat' first
    | with_reducible assumption | with_reducible refine State.commitHdm_keeps ?_ | with_reducible refine Keeps.ite_ ?_ ?_
    | fail_if_no_progress with_reducible refine Keeps.mk_ ?_ rfl rfl

theorem execDoorbellWrite_keeps {a₀ s : State} {off : Nat} {width : Nat} {data : Nat} {mb : Option Nat} (hk : Keeps a₀ s) :
    ∃ u₀, (execDoorbellWrite off width data mb s) = .next u₀ ∧ Keeps a₀ u₀ := by
  unfold execDoorbellWrite
  refine ⟨_, rfl, ?_⟩
  try dsimp only
  repeat' first
    | with_reducible assumption | with_reducible refine State.takeTail_keeps ?_
    | with_reducible refine State.pollMailbox_keeps ?_ | with_reducible refine Keeps.ite_ ?_ ?_

theorem execMsixUnmask_keeps {a₀ s : State} {v : Nat} (hk : Keeps a₀ s) :
    ∃ u₀, (execMsixUnmask v s) = .next u₀ ∧ Keeps a₀ u₀ := by
  unfold execMsixUnmask
  refine ⟨_, rfl, ?_⟩
  try dsimp only
  repeat' first
    | with_reducible assumption | with_reducible refine State.flushVectors_keeps ?_ | with_reducible refine Keeps.ite_ ?_ ?_
    | fail_if_no_progress with_reducible refine Keeps.mk_ ?_ rfl rfl

theorem State.setKeys_keeps {a₀ s : State} {stream : Nat} {v : Nat} (hk : Keeps a₀ s) :
    Keeps a₀ (State.setKeys s stream v) := by
  unfold State.setKeys
  try dsimp only
  repeat' first
    | with_reducible assumption | with_reducible refine State.setF_keeps ?_ | with_reducible refine Keeps.ite_ ?_ ?_
    | fail_if_no_progress with_reducible refine Keeps.mk_ ?_ rfl rfl

theorem execIdeKmMessage_keeps {a₀ s : State} {stream : Nat} {action : Nat} {skid : Bool} (hk : Keeps a₀ s) :
    ∃ u₀, (execIdeKmMessage stream action skid s) = .next u₀ ∧ Keeps a₀ u₀ := by
  unfold execIdeKmMessage
  refine ⟨_, rfl, ?_⟩
  try dsimp only
  repeat' first
    | with_reducible assumption | with_reducible refine State.setKeys_keeps ?_ | with_reducible refine State.setF_keeps ?_
    | with_reducible refine State.event_keeps ?_ | with_reducible refine Keeps.ite_ ?_ ?_ | split

theorem execIdeIntegrityFail_keeps {a₀ s : State} {stream : Nat} {flit : List Byte} (hk : Keeps a₀ s) :
    ∃ u₀, (execIdeIntegrityFail stream flit s) = .next u₀ ∧ Keeps a₀ u₀ := by
  unfold execIdeIntegrityFail
  refine ⟨_, rfl, ?_⟩
  try dsimp only
  repeat' first
    | with_reducible assumption | with_reducible refine State.setKeys_keeps ?_ | with_reducible refine State.setF_keeps ?_
    | with_reducible refine State.stat_keeps ?_ | with_reducible refine State.event_keeps ?_
    | with_reducible refine State.cxlFatal_keeps ?_ | with_reducible refine State.raise_keeps ?_
    | with_reducible refine Keeps.ite_ ?_ ?_ | fail_if_no_progress with_reducible refine Keeps.mk_ ?_ rfl rfl

theorem State.cfgPut_keeps {a₀ s : State} {i : Nat} {b : Byte} (hk : Keeps a₀ s) :
    Keeps a₀ (State.cfgPut s i b) := by
  unfold State.cfgPut
  try dsimp only
  repeat' first
    | with_reducible assumption | with_reducible refine Keeps.ite_ ?_ ?_
    | fail_if_no_progress with_reducible refine Keeps.mk_ ?_ rfl rfl

theorem State.margin_keeps {a₀ s : State} {off : Nat} (hk : Keeps a₀ s) :
    Keeps a₀ (State.margin s off) := by
  unfold State.margin
  try dsimp only
  repeat' first
    | with_reducible assumption | with_reducible refine State.useFree_keeps ?_ | with_reducible refine Keeps.ite_ ?_ ?_
    | fail_if_no_progress with_reducible refine Keeps.mk_ ?_ rfl rfl

theorem State.cfgEffect_keeps {a₀ s : State} {off : Nat} {on : Nat → Bool} {v : Nat} {tails : List (Nat × Option Nat)} (hk : Keeps a₀ s) :
    Keeps a₀ (State.cfgEffect s off on v tails) := by
  unfold State.cfgEffect
  try dsimp only
  repeat' first
    | with_reducible assumption | with_reducible refine State.hostResume_keeps ?_ | with_reducible refine State.toD3_keeps ?_
    | with_reducible refine State.toD0_keeps ?_ | with_reducible refine State.flushVectors_keeps ?_
    | with_reducible refine State.flr_keeps ?_ | with_reducible refine State.cxlReset_keeps ?_
    | with_reducible refine State.hccDisable_keeps ?_ | with_reducible refine State.hccEnable_keeps ?_
    | with_reducible refine State.margin_keeps ?_ | with_reducible refine Keeps.ite_ ?_ ?_
    | fail_if_no_progress with_reducible refine Keeps.mk_ ?_ rfl rfl | split

theorem execConfigRequest_keeps {a₀ s : State} {off : Nat} {be : Nat} {write : Option Nat} {ready : Bool} {tails : List (Nat × Option Nat)} (hk : Keeps a₀ s) :
    ∃ u₀, (execConfigRequest off be write ready tails s) = .next u₀ ∧ Keeps a₀ u₀ := by
  unfold execConfigRequest
  refine ⟨_, rfl, ?_⟩
  try dsimp only
  repeat' first
    | with_reducible assumption | with_reducible refine State.emit_keeps ?_ | with_reducible refine State.cfgPut_keeps ?_
    | with_reducible refine State.cfgEffect_keeps ?_ | with_reducible refine Keeps.ite_ ?_ ?_
    | (with_reducible refine Keeps.foldlP_ (fun t x ht => ?_) ?_ <;> try dsimp only)
    | (with_reducible refine Keeps.foldl_ (fun t x ht => ?_) ?_ <;> try dsimp only) | split

theorem State.writeDecoder_keeps {a₀ s : State} {i : Nat} {v : Nat} (hk : Keeps a₀ s) :
    Keeps a₀ (State.writeDecoder s i v) := by
  unfold State.writeDecoder
  try dsimp only
  repeat' first
    | with_reducible assumption | with_reducible refine State.commitHdm_keeps ?_ | with_reducible refine State.setF_keeps ?_
    | with_reducible refine Keeps.ite_ ?_ ?_ | fail_if_no_progress with_reducible refine Keeps.mk_ ?_ rfl rfl

theorem State.componentWrite_keeps {a₀ s : State} {off : Nat} {v : Nat} (hk : Keeps a₀ s) :
    Keeps a₀ (State.componentWrite s off v) := by
  unfold State.componentWrite
  try dsimp only
  repeat' first
    | with_reducible assumption | with_reducible refine State.writeDecoder_keeps ?_
    | fail_if_no_progress with_reducible refine Keeps.mk_ ?_ rfl rfl | split

theorem execSpdmRequest_keeps {a₀ s : State} {kind : Nat} {signed : List Byte} (hk : Keeps a₀ s) :
    ∃ u₀, (execSpdmRequest kind signed s) = .next u₀ ∧ Keeps a₀ u₀ := by
  unfold execSpdmRequest
  refine ⟨_, rfl, ?_⟩
  try dsimp only
  repeat' first
    | with_reducible assumption | with_reducible refine State.emit_keeps ?_ | with_reducible refine Keeps.ite_ ?_ ?_
    | fail_if_no_progress with_reducible refine Keeps.mk_ ?_ rfl rfl | split

theorem execGetRange_keeps {a₀ s : State} {q : Nat} {t : Nat} {h : HostData} (hk : Keeps a₀ s) :
    ∃ u₀, (execGetRange q t h s) = .next u₀ ∧ Keeps a₀ u₀ := by
  unfold execGetRange
  try dsimp only
  repeat' first
    | with_reducible refine State.done_keeps ?_
    | with_reducible refine Keeps.next_ ?_ | with_reducible refine Keeps.iteR_ ?_ ?_
    | with_reducible assumption | with_reducible refine State.endWith_keeps ?_ | with_reducible refine State.holdLookup_keeps ?_
    | with_reducible refine State.chargeReads_keeps ?_ | with_reducible refine State.charge_keeps ?_
    | with_reducible refine State.readRange_keeps ?_ | with_reducible refine State.writeBuffer_keeps ?_
    | with_reducible refine State.chargeOut_keeps ?_ | with_reducible refine State.stat_keeps ?_
    | with_reducible refine State.complete_keeps ?_ | with_reducible refine Keeps.ite_ ?_ ?_
    | refine Keeps.of_eq (by assumption) ?_ | split

theorem execStat_keeps {a₀ s : State} {q : Nat} {t : Nat} {h : HostData} (hk : Keeps a₀ s) :
    ∃ u₀, (execStat q t h s) = .next u₀ ∧ Keeps a₀ u₀ := by
  unfold execStat
  try dsimp only
  repeat' first
    | with_reducible refine State.done_keeps ?_
    | with_reducible refine Keeps.next_ ?_ | with_reducible refine Keeps.iteR_ ?_ ?_
    | with_reducible assumption | with_reducible refine State.endWith_keeps ?_
    | with_reducible refine State.writeBuffer_keeps ?_ | with_reducible refine State.charge_keeps ?_
    | with_reducible refine State.complete_keeps ?_ | with_reducible refine Keeps.ite_ ?_ ?_ | split

theorem execList_keeps {a₀ s : State} {q : Nat} {t : Nat} {h : HostData} (hk : Keeps a₀ s) :
    ∃ u₀, (execList q t h s) = .next u₀ ∧ Keeps a₀ u₀ := by
  unfold execList
  try dsimp only
  repeat' first
    | with_reducible refine State.done_keeps ?_
    | with_reducible refine Keeps.next_ ?_ | with_reducible refine Keeps.iteR_ ?_ ?_
    | with_reducible assumption | with_reducible refine State.endWith_keeps ?_ | with_reducible refine State.newCookie_keeps ?_
    | with_reducible refine State.writeBuffer_keeps ?_ | with_reducible refine State.charge_keeps ?_
    | with_reducible refine State.complete_keeps ?_ | with_reducible refine Keeps.ite_ ?_ ?_
    | fail_if_no_progress with_reducible refine Keeps.mk_ ?_ rfl rfl | split

end Sys2Proof.Machine
end

