-- ==== Sys2Proof/Laws/KeepsHost.lean ====
section
/-!
SUPPORT. What the operations of the block keep: migration, flash, self-test, start, collector, dictionary, queues and registers.
-/
namespace Sys2Proof.Machine
open Sys2Proof

set_option maxRecDepth 20000
set_option linter.unusedTactic false
set_option linter.unreachableTactic false

theorem State.ethDown_keeps {a₀ s : State} (hk : Keeps a₀ s) :
    Keeps a₀ (State.ethDown s) := by
  unfold State.ethDown
  try dsimp only
  repeat' first
    | with_reducible assumption | with_reducible refine State.setF_keeps ?_ | with_reducible refine State.event_keeps ?_
    | with_reducible refine Keeps.ite_ ?_ ?_

theorem execModulePresenceChange_keeps {a₀ s : State} {present : Bool} {mode : Nat} (hk : Keeps a₀ s) :
    ∃ u₀, (execModulePresenceChange present mode s) = .next u₀ ∧ Keeps a₀ u₀ := by
  unfold execModulePresenceChange
  refine ⟨_, rfl, ?_⟩
  try dsimp only
  repeat' first
    | with_reducible assumption | with_reducible refine State.setF_keeps ?_ | with_reducible refine State.setMig_keeps ?_
    | with_reducible refine State.event_keeps ?_ | with_reducible refine State.ethDown_keeps ?_
    | with_reducible refine State.raise_keeps ?_ | with_reducible refine Keeps.ite_ ?_ ?_
    | fail_if_no_progress with_reducible refine Keeps.mk_ ?_ rfl rfl

theorem execEthLinkChange_keeps {a₀ s : State} {up : Bool} (hk : Keeps a₀ s) :
    ∃ u₀, (execEthLinkChange up s) = .next u₀ ∧ Keeps a₀ u₀ := by
  unfold execEthLinkChange
  refine ⟨_, rfl, ?_⟩
  try dsimp only
  repeat' first
    | with_reducible assumption | with_reducible refine State.ethDown_keeps ?_ | with_reducible refine State.setF_keeps ?_
    | with_reducible refine State.event_keeps ?_ | with_reducible refine Keeps.ite_ ?_ ?_

theorem execNeighborSolicitation_keeps {a₀ s : State} {dst : List Byte} {target : List Byte} (hk : Keeps a₀ s) :
    ∃ u₀, (execNeighborSolicitation dst target s) = .next u₀ ∧ Keeps a₀ u₀ := by
  unfold execNeighborSolicitation
  refine ⟨_, rfl, ?_⟩
  try dsimp only
  repeat' first
    | with_reducible assumption | with_reducible refine State.emit_keeps ?_ | with_reducible refine Keeps.ite_ ?_ ?_

theorem execEchoRequest_keeps {a₀ s : State} {dst : List Byte} {body : List Byte} (hk : Keeps a₀ s) :
    ∃ u₀, (execEchoRequest dst body s) = .next u₀ ∧ Keeps a₀ u₀ := by
  unfold execEchoRequest
  refine ⟨_, rfl, ?_⟩
  try dsimp only
  repeat' first
    | with_reducible assumption | with_reducible refine State.emit_keeps ?_ | with_reducible refine Keeps.ite_ ?_ ?_

theorem State.authFail_keeps {a₀ s : State} {p : Nat} (hk : Keeps a₀ s) :
    Keeps a₀ (State.authFail s p) := by
  unfold State.authFail
  try dsimp only
  repeat' first
    | with_reducible assumption | with_reducible refine State.bumpF_keeps ?_ | with_reducible refine State.event_keeps ?_
    | with_reducible refine State.raise_keeps ?_

theorem State.nextAt_keeps {a₀ s : State} {key : Nat} {bits : Nat} {p : Pos} (hk : Keeps a₀ s) :
    Keeps a₀ (State.nextAt s key bits p).1 := by
  unfold State.nextAt
  try dsimp only
  repeat' first
    | with_reducible assumption | with_reducible refine State.newCookie_keeps ?_ | with_reducible refine Keeps.ite_ ?_ ?_
    | split

theorem State.endMigrate_keeps {a₀ s : State} {t : MigTx} {status : Nat} {p : Pos} {reason : Option Nat} (hk : Keeps a₀ s) :
    Keeps a₀ (State.endMigrate s t status p reason) := by
  unfold State.endMigrate
  try dsimp only
  repeat' first
    | with_reducible assumption | with_reducible refine State.nextAt_keeps ?_ | with_reducible refine State.endTx_keeps ?_
    | with_reducible refine State.complete_keeps ?_ | refine Keeps.of_eq (by assumption) ?_ | split

theorem State.sendOffer_keeps {a₀ s : State} {t : MigTx} {o : MigOffer} (hk : Keeps a₀ s) :
    Keeps a₀ (State.sendOffer s t o) := by
  unfold State.sendOffer
  try dsimp only
  repeat' first
    | with_reducible assumption | with_reducible refine State.sendMsg_keeps ?_

theorem State.migOffers_keeps {a₀ s : State} {n : Nat} (hk : Keeps a₀ s) :
    Keeps a₀ (State.migOffers n s) := by
  induction n generalizing s with
  | zero =>
    unfold State.migOffers
    try dsimp only
    repeat' first
      | with_reducible assumption | with_reducible refine State.setMig_keeps ?_
      | with_reducible refine State.sendOffer_keeps ?_ | with_reducible refine Keeps.ite_ ?_ ?_
      | fail_if_no_progress with_reducible refine Keeps.mk_ ?_ rfl rfl | split
  | succ m_ ih =>
    unfold State.migOffers
    try dsimp only
    repeat' first
      | with_reducible assumption | with_reducible refine ih ?_ | with_reducible refine State.setMig_keeps ?_
      | with_reducible refine State.sendOffer_keeps ?_ | with_reducible refine Keeps.ite_ ?_ ?_
      | fail_if_no_progress with_reducible refine Keeps.mk_ ?_ rfl rfl | split

theorem State.chargeSend_keeps {a₀ s : State} {l : List Seg} (hk : Keeps a₀ s) :
    Keeps a₀ (State.chargeSend s l) := by
  unfold State.chargeSend
  try dsimp only
  repeat' first
    | with_reducible assumption | with_reducible refine State.charge_keeps ?_ | with_reducible refine Keeps.ite_ ?_ ?_
    | (with_reducible refine Keeps.foldl_ (fun t x ht => ?_) ?_ <;> try dsimp only)

theorem State.sendTile_keeps {a₀ s : State} {t : MigTx} {o : MigOffer} {i : Nat} {pseq : Nat} (hk : Keeps a₀ s) :
    Keeps a₀ (State.sendTile s t o i pseq).1 := by
  unfold State.sendTile
  try dsimp only
  repeat' first
    | with_reducible assumption | with_reducible refine State.chargeSend_keeps ?_
    | with_reducible refine State.readTile_keeps ?_ | with_reducible refine State.endMigrate_keeps ?_
    | with_reducible refine State.sendMsg_keeps ?_ | with_reducible refine Keeps.ite_ ?_ ?_
    | refine Keeps.of_eq (by assumption) ?_ | split

theorem State.migTiles_keeps {a₀ s : State} {n : Nat} (hk : Keeps a₀ s) :
    Keeps a₀ (State.migTiles n s) := by
  induction n generalizing s with
  | zero =>
    unfold State.migTiles
    try dsimp only
    repeat' first
      | with_reducible assumption | with_reducible refine State.sendTile_keeps ?_
      | with_reducible refine State.setMig_keeps ?_ | with_reducible refine Keeps.ite_ ?_ ?_
      | fail_if_no_progress with_reducible refine Keeps.mk_ ?_ rfl rfl | refine Keeps.of_eq (by assumption) ?_ | split
  | succ m_ ih =>
    unfold State.migTiles
    try dsimp only
    repeat' first
      | with_reducible assumption | with_reducible refine ih ?_ | with_reducible refine State.sendTile_keeps ?_
      | with_reducible refine State.setMig_keeps ?_ | with_reducible refine Keeps.ite_ ?_ ?_
      | fail_if_no_progress with_reducible refine Keeps.mk_ ?_ rfl rfl | refine Keeps.of_eq (by assumption) ?_ | split

theorem State.migOver_keeps {a₀ s : State} (hk : Keeps a₀ s) :
    Keeps a₀ (State.migOver s) := by
  unfold State.migOver
  try dsimp only
  repeat' first
    | with_reducible assumption | with_reducible refine State.endMigrate_keeps ?_ | with_reducible refine Keeps.ite_ ?_ ?_
    | split

theorem State.migGate_keeps {a₀ s : State} {i : Instr} {r : Res} (h : Keeps a₀ s) (hr : ∃ u, r = .next u ∧ Keeps a₀ u) :
    ∃ u, s.migGate i r = .next u ∧ Keeps a₀ u := by
  unfold State.migGate
  exact Keeps.iteR_ (Keeps.next_ (State.setMig_keeps h)) hr

theorem State.resend_keeps {a₀ s : State} {pseq : Nat} (hk : Keeps a₀ s) :
    Keeps a₀ (State.resend s pseq) := by
  unfold State.resend
  try dsimp only
  repeat' first
    | with_reducible assumption | with_reducible refine State.setMig_keeps ?_ | with_reducible refine State.sendTile_keeps ?_
    | with_reducible refine State.bumpF_keeps ?_ | with_reducible refine Keeps.ite_ ?_ ?_
    | fail_if_no_progress with_reducible refine Keeps.mk_ ?_ rfl rfl | refine Keeps.of_eq (by assumption) ?_ | split

theorem State.resendLate_keeps {a₀ s : State} (hk : Keeps a₀ s) :
    Keeps a₀ (State.resendLate s) := by
  unfold State.resendLate
  try dsimp only
  repeat' first
    | with_reducible assumption | with_reducible refine State.resend_keeps ?_ | with_reducible refine State.setMig_keeps ?_
    | (with_reducible refine Keeps.foldl_ (fun t x ht => ?_) ?_ <;> try dsimp only)
    | fail_if_no_progress with_reducible refine Keeps.mk_ ?_ rfl rfl | split

theorem State.migPump_keeps {a₀ s : State} (hk : Keeps a₀ s) :
    Keeps a₀ (State.migPump s) := by
  unfold State.migPump
  try dsimp only
  repeat' first
    | with_reducible assumption | with_reducible refine State.resendLate_keeps ?_
    | with_reducible refine State.migOffers_keeps ?_ | with_reducible refine State.migTiles_keeps ?_
    | with_reducible refine State.migOver_keeps ?_ | with_reducible refine Keeps.ite_ ?_ ?_ | split

theorem State.sendHello_keeps {a₀ s : State} {t : MigTx} {session : Nat} {ns : List Byte} {phase : Nat} (hk : Keeps a₀ s) :
    Keeps a₀ (State.sendHello s t session ns phase) := by
  unfold State.sendHello
  try dsimp only
  repeat' first
    | with_reducible assumption | with_reducible refine State.setMig_keeps ?_ | with_reducible refine State.emit_keeps ?_
    | with_reducible refine State.sendMsg_keeps ?_ | with_reducible refine Keeps.ite_ ?_ ?_
    | fail_if_no_progress with_reducible refine Keeps.mk_ ?_ rfl rfl

theorem State.useCookie_keeps {a₀ s : State} {e : List Byte} (hk : Keeps a₀ s) :
    Keeps a₀ (State.useCookie s e) := by
  unfold State.useCookie
  try dsimp only
  repeat' first
    | with_reducible assumption | fail_if_no_progress with_reducible refine Keeps.mk_ ?_ rfl rfl

theorem State.refuseMigrate_keeps {a₀ s : State} {x : Slot} {status : Nat} {p : Pos} (hk : Keeps a₀ s) :
    Keeps a₀ (State.refuseMigrate s x status p) := by
  unfold State.refuseMigrate
  try dsimp only
  repeat' first
    | with_reducible assumption | with_reducible refine State.nextAt_keeps ?_ | with_reducible refine State.complete_keeps ?_
    | refine Keeps.of_eq (by assumption) ?_ | split

theorem execMigrate_keeps {a₀ s : State} {q : Nat} {t : Nat} {h : HostData} {session : Nat} {ns : List Byte} (hk : Keeps a₀ s) :
    ∃ u₀, (execMigrate q t h session ns s) = .next u₀ ∧ Keeps a₀ u₀ := by
  unfold execMigrate
  try dsimp only
  repeat' first
    | with_reducible refine State.migGate_keeps ?_ ?_
    | with_reducible refine State.done_keeps ?_
    | with_reducible refine Keeps.next_ ?_ | with_reducible refine Keeps.iteR_ ?_ ?_
    | with_reducible assumption | with_reducible refine State.endWith_keeps ?_
    | with_reducible refine State.refuseMigrate_keeps ?_ | with_reducible refine State.useCookie_keeps ?_
    | with_reducible refine State.complete_keeps ?_ | with_reducible refine State.setSlot_keeps ?_
    | with_reducible refine State.sendHello_keeps ?_ | with_reducible refine Keeps.ite_ ?_ ?_
    | fail_if_no_progress with_reducible refine Keeps.mk_ ?_ rfl rfl | split

theorem State.dropRx_keeps {a₀ s : State} {p : Nat} (hk : Keeps a₀ s) :
    Keeps a₀ (State.dropRx s p) := by
  unfold State.dropRx
  try dsimp only
  repeat' first
    | with_reducible assumption | with_reducible refine State.freeTiles_keeps ?_ | with_reducible refine State.setMig_keeps ?_
    | fail_if_no_progress with_reducible refine Keeps.mk_ ?_ rfl rfl

theorem State.putRx_keeps {a₀ s : State} {r : MigRx} (hk : Keeps a₀ s) :
    Keeps a₀ (State.putRx s r) := by
  unfold State.putRx
  try dsimp only
  repeat' first
    | with_reducible assumption | with_reducible refine State.setMig_keeps ?_ | with_reducible refine Keeps.ite_ ?_ ?_
    | fail_if_no_progress with_reducible refine Keeps.mk_ ?_ rfl rfl

theorem execHello_keeps {a₀ s : State} {d : Dgram} {nr : List Byte} (hk : Keeps a₀ s) :
    ∃ u₀, (execHello d nr s) = .next u₀ ∧ Keeps a₀ u₀ := by
  unfold execHello
  try dsimp only
  repeat' first
    | with_reducible refine State.migGate_keeps ?_ ?_
    | with_reducible refine Keeps.next_ ?_ | with_reducible refine Keeps.iteR_ ?_ ?_
    | with_reducible assumption | with_reducible refine State.sendTo_keeps ?_ | with_reducible refine State.dropRx_keeps ?_
    | with_reducible refine State.sendClose_keeps ?_ | with_reducible refine State.setMig_keeps ?_
    | with_reducible refine State.sendMsg_keeps ?_ | with_reducible refine Keeps.ite_ ?_ ?_
    | fail_if_no_progress with_reducible refine Keeps.mk_ ?_ rfl rfl | split

theorem execHelloAck_keeps {a₀ s : State} {d : Dgram} (hk : Keeps a₀ s) :
    ∃ u₀, (execHelloAck d s) = .next u₀ ∧ Keeps a₀ u₀ := by
  unfold execHelloAck
  try dsimp only
  repeat' first
    | with_reducible refine State.migGate_keeps ?_ ?_
    | with_reducible refine State.done_keeps ?_
    | with_reducible refine Keeps.next_ ?_ | with_reducible refine Keeps.iteR_ ?_ ?_
    | with_reducible assumption | with_reducible refine State.endMigrate_keeps ?_
    | with_reducible refine State.authFail_keeps ?_ | with_reducible refine State.setMig_keeps ?_
    | with_reducible refine State.sendMsg_keeps ?_ | with_reducible refine State.event_keeps ?_
    | with_reducible refine State.sendOffer_keeps ?_ | with_reducible refine State.migPump_keeps ?_
    | with_reducible refine Keeps.ite_ ?_ ?_ | (with_reducible refine Keeps.foldlP_ (fun t x ht => ?_) ?_ <;> try dsimp only)
    | (with_reducible refine Keeps.foldl_ (fun t x ht => ?_) ?_ <;> try dsimp only)
    | fail_if_no_progress with_reducible refine Keeps.mk_ ?_ rfl rfl | split

theorem execConfirm_keeps {a₀ s : State} {d : Dgram} (hk : Keeps a₀ s) :
    ∃ u₀, (execConfirm d s) = .next u₀ ∧ Keeps a₀ u₀ := by
  unfold execConfirm
  try dsimp only
  repeat' first
    | with_reducible refine State.migGate_keeps ?_ ?_
    | with_reducible refine Keeps.next_ ?_ | with_reducible refine Keeps.iteR_ ?_ ?_
    | with_reducible assumption | with_reducible refine State.confirm_keeps ?_ | with_reducible refine State.dropRx_keeps ?_
    | with_reducible refine State.sendClose_keeps ?_ | with_reducible refine State.authFail_keeps ?_
    | with_reducible refine State.putRx_keeps ?_ | with_reducible refine Keeps.ite_ ?_ ?_
    | fail_if_no_progress with_reducible refine Keeps.mk_ ?_ rfl rfl | split

theorem execPeerSilence_keeps {a₀ s : State} {p : Option Nat} {session : Nat} {ns : List Byte} (hk : Keeps a₀ s) :
    ∃ u₀, (execPeerSilence p session ns s) = .next u₀ ∧ Keeps a₀ u₀ := by
  unfold execPeerSilence
  try dsimp only
  repeat' first
    | with_reducible refine State.migGate_keeps ?_ ?_
    | with_reducible refine Keeps.next_ ?_ | with_reducible refine Keeps.iteR_ ?_ ?_
    | with_reducible assumption | with_reducible refine State.dropRx_keeps ?_ | with_reducible refine State.sendHello_keeps ?_
    | split

theorem execMigTimeout_keeps {a₀ s : State} (hk : Keeps a₀ s) :
    ∃ u₀, (execMigTimeout s) = .next u₀ ∧ Keeps a₀ u₀ := by
  unfold execMigTimeout
  try dsimp only
  repeat' first
    | with_reducible refine State.migGate_keeps ?_ ?_
    | with_reducible refine State.done_keeps ?_
    | with_reducible refine Keeps.next_ ?_ | with_reducible refine Keeps.iteR_ ?_ ?_
    | with_reducible assumption | with_reducible refine State.endMigrate_keeps ?_ | with_reducible refine State.raise_keeps ?_
    | with_reducible refine Keeps.ite_ ?_ ?_ | split

theorem execClose_keeps {a₀ s : State} {d : Dgram} (hk : Keeps a₀ s) :
    ∃ u₀, (execClose d s) = .next u₀ ∧ Keeps a₀ u₀ := by
  unfold execClose
  try dsimp only
  repeat' first
    | with_reducible refine State.migGate_keeps ?_ ?_
    | with_reducible refine State.done_keeps ?_
    | with_reducible refine Keeps.next_ ?_ | with_reducible refine Keeps.iteR_ ?_ ?_
    | with_reducible assumption | with_reducible refine State.dropRx_keeps ?_ | with_reducible refine State.endMigrate_keeps ?_
    | with_reducible refine State.setMig_keeps ?_ | with_reducible refine Keeps.ite_ ?_ ?_
    | fail_if_no_progress with_reducible refine Keeps.mk_ ?_ rfl rfl | split

theorem State.sendSack_keeps {a₀ s : State} {r : MigRx} (hk : Keeps a₀ s) :
    Keeps a₀ (State.sendSack s r) := by
  unfold State.sendSack
  try dsimp only
  repeat' first
    | with_reducible assumption | with_reducible refine State.putRx_keeps ?_ | with_reducible refine State.sendMsg_keeps ?_
    | (with_reducible refine Keeps.foldl_ (fun t x ht => ?_) ?_ <;> try dsimp only)
    | fail_if_no_progress with_reducible refine Keeps.mk_ ?_ rfl rfl

theorem execSackTimer_keeps {a₀ s : State} {p : Nat} (hk : Keeps a₀ s) :
    ∃ u₀, (execSackTimer p s) = .next u₀ ∧ Keeps a₀ u₀ := by
  unfold execSackTimer
  try dsimp only
  repeat' first
    | with_reducible refine State.migGate_keeps ?_ ?_
    | with_reducible refine Keeps.next_ ?_ | with_reducible refine Keeps.iteR_ ?_ ?_
    | with_reducible assumption | with_reducible refine State.sendSack_keeps ?_ | with_reducible refine Keeps.ite_ ?_ ?_ | split

theorem execSack_keeps {a₀ s : State} {d : Dgram} (hk : Keeps a₀ s) :
    ∃ u₀, (execSack d s) = .next u₀ ∧ Keeps a₀ u₀ := by
  unfold execSack
  try dsimp only
  repeat' first
    | with_reducible refine State.migGate_keeps ?_ ?_
    | with_reducible refine State.done_keeps ?_
    | with_reducible refine Keeps.next_ ?_ | with_reducible refine Keeps.iteR_ ?_ ?_
    | with_reducible assumption | with_reducible refine State.resend_keeps ?_ | with_reducible refine State.setMig_keeps ?_
    | with_reducible refine State.migPump_keeps ?_ | with_reducible refine Keeps.ite_ ?_ ?_
    | (with_reducible refine Keeps.foldlP_ (fun t x ht => ?_) ?_ <;> try dsimp only)
    | (with_reducible refine Keeps.foldl_ (fun t x ht => ?_) ?_ <;> try dsimp only)
    | fail_if_no_progress with_reducible refine Keeps.mk_ ?_ rfl rfl | split

theorem execRetransmitTimeout_keeps {a₀ s : State} {pseq : Nat} (hk : Keeps a₀ s) :
    ∃ u₀, (execRetransmitTimeout pseq s) = .next u₀ ∧ Keeps a₀ u₀ := by
  unfold execRetransmitTimeout
  try dsimp only
  repeat' first
    | with_reducible refine State.migGate_keeps ?_ ?_
    | with_reducible refine State.done_keeps ?_
    | with_reducible refine Keeps.next_ ?_ | with_reducible refine Keeps.iteR_ ?_ ?_
    | with_reducible assumption | with_reducible refine State.resend_keeps ?_
    | split

theorem execKeepaliveTimer_keeps {a₀ s : State} (hk : Keeps a₀ s) :
    ∃ u₀, (execKeepaliveTimer s) = .next u₀ ∧ Keeps a₀ u₀ := by
  unfold execKeepaliveTimer
  try dsimp only
  repeat' first
    | with_reducible refine State.migGate_keeps ?_ ?_
    | with_reducible refine Keeps.next_ ?_ | with_reducible refine Keeps.iteR_ ?_ ?_
    | with_reducible assumption | with_reducible refine State.sendMsg_keeps ?_ | with_reducible refine Keeps.ite_ ?_ ?_ | split

theorem execKeepalive_keeps {a₀ s : State} {d : Dgram} (hk : Keeps a₀ s) :
    ∃ u₀, (execKeepalive d s) = .next u₀ ∧ Keeps a₀ u₀ := by
  unfold execKeepalive
  try dsimp only
  repeat' first
    | with_reducible refine State.migGate_keeps ?_ ?_
    | with_reducible refine Keeps.next_ ?_ | with_reducible refine Keeps.iteR_ ?_ ?_
    | with_reducible assumption | with_reducible refine State.sendSack_keeps ?_ | with_reducible refine Keeps.ite_ ?_ ?_ | split

theorem State.putObj_keeps {a₀ s : State} {p : Nat} {o : MigObj} (hk : Keeps a₀ s) :
    Keeps a₀ (State.putObj s p o) := by
  unfold State.putObj
  try dsimp only
  repeat' first
    | with_reducible assumption | with_reducible refine State.putRx_keeps ?_ | split

theorem State.sendResult_keeps {a₀ s : State} {r : MigRx} {obj : Nat} {code : Nat} (hk : Keeps a₀ s) :
    Keeps a₀ (State.sendResult s r obj code) := by
  unfold State.sendResult
  try dsimp only
  repeat' first
    | with_reducible assumption | with_reducible refine State.sendMsg_keeps ?_

theorem State.answer_keeps {a₀ s : State} {r : MigRx} {o : MigObj} {code : Nat} (hk : Keeps a₀ s) :
    Keeps a₀ (State.answer s r o code) := by
  unfold State.answer
  try dsimp only
  repeat' first
    | with_reducible assumption | with_reducible refine State.freeTiles_keeps ?_ | with_reducible refine State.putObj_keeps ?_
    | with_reducible refine State.sendResult_keeps ?_ | with_reducible refine State.stat_keeps ?_
    | with_reducible refine Keeps.ite_ ?_ ?_ | fail_if_no_progress with_reducible refine Keeps.mk_ ?_ rfl rfl

theorem State.commitObject_keeps {a₀ s : State} {r : MigRx} {o : MigObj} (hk : Keeps a₀ s) :
    Keeps a₀ (State.commitObject s r o) := by
  unfold State.commitObject
  try dsimp only
  repeat' first
    | with_reducible assumption | with_reducible refine State.putTile_keeps ?_
    | with_reducible refine State.enterSegment_keeps ?_ | with_reducible refine State.issue_keeps ?_
    | with_reducible refine State.setVersion_keeps ?_ | with_reducible refine State.putObj_keeps ?_
    | with_reducible refine Keeps.ite_ ?_ ?_ | (with_reducible refine Keeps.foldl_ (fun t x ht => ?_) ?_ <;> try dsimp only)
    | fail_if_no_progress with_reducible refine Keeps.mk_ ?_ rfl rfl

theorem State.finishObject_keeps {a₀ s : State} {r : MigRx} {o : MigObj} (hk : Keeps a₀ s) :
    Keeps a₀ (State.finishObject s r o) := by
  unfold State.finishObject
  try dsimp only
  repeat' first
    | with_reducible assumption | with_reducible refine State.raise_keeps ?_ | with_reducible refine State.answer_keeps ?_
    | with_reducible refine State.readRange_keeps ?_ | with_reducible refine State.commitObject_keeps ?_
    | with_reducible refine Keeps.ite_ ?_ ?_ | refine Keeps.of_eq (by assumption) ?_ | split

theorem State.takeOffer_keeps {a₀ s : State} {r : MigRx} {o : MigObj} (hk : Keeps a₀ s) :
    Keeps a₀ (State.takeOffer s r o) := by
  unfold State.takeOffer
  try dsimp only
  repeat' first
    | with_reducible assumption | with_reducible refine State.putObj_keeps ?_ | with_reducible refine State.answer_keeps ?_
    | with_reducible refine State.finishObject_keeps ?_ | with_reducible refine Keeps.ite_ ?_ ?_
    | fail_if_no_progress with_reducible refine Keeps.mk_ ?_ rfl rfl | split

theorem State.takeHeld_keeps {a₀ s : State} (hk : Keeps a₀ s) :
    Keeps a₀ (State.takeHeld s) := by
  unfold State.takeHeld
  try dsimp only
  repeat' first
    | with_reducible assumption | with_reducible refine State.takeOffer_keeps ?_
    | (with_reducible refine Keeps.foldl_ (fun t x ht => ?_) ?_ <;> try dsimp only)

theorem execOffer_keeps {a₀ s : State} {d : Dgram} (hk : Keeps a₀ s) :
    ∃ u₀, (execOffer d s) = .next u₀ ∧ Keeps a₀ u₀ := by
  unfold execOffer
  try dsimp only
  repeat' first
    | with_reducible refine State.migGate_keeps ?_ ?_
    | with_reducible refine State.done_keeps ?_
    | with_reducible refine Keeps.next_ ?_ | with_reducible refine Keeps.iteR_ ?_ ?_
    | with_reducible assumption | with_reducible refine State.authFail_keeps ?_
    | with_reducible refine State.sendResult_keeps ?_ | with_reducible refine State.putRx_keeps ?_
    | with_reducible refine State.takeOffer_keeps ?_ | with_reducible refine State.takeHeld_keeps ?_
    | with_reducible refine Keeps.ite_ ?_ ?_ | fail_if_no_progress with_reducible refine Keeps.mk_ ?_ rfl rfl | split

theorem State.ingestData_keeps {a₀ s : State} {r : MigRx} {o : MigObj} {seg : Nat} {tile : Nat} {slot : Nat} {t : List Byte} (hk : Keeps a₀ s) :
    Keeps a₀ (State.ingestData s r o seg tile slot t) := by
  unfold State.ingestData
  try dsimp only
  repeat' first
    | with_reducible assumption | with_reducible refine State.putTile_keeps ?_ | with_reducible refine State.charge_keeps ?_
    | with_reducible refine State.putObj_keeps ?_ | with_reducible refine State.raise_keeps ?_
    | with_reducible refine State.answer_keeps ?_ | with_reducible refine State.finishObject_keeps ?_
    | with_reducible refine Keeps.ite_ ?_ ?_ | fail_if_no_progress with_reducible refine Keeps.mk_ ?_ rfl rfl

theorem execData_keeps {a₀ s : State} {d : Dgram} (hk : Keeps a₀ s) :
    ∃ u₀, (execData d s) = .next u₀ ∧ Keeps a₀ u₀ := by
  unfold execData
  try dsimp only
  repeat' first
    | with_reducible refine State.migGate_keeps ?_ ?_
    | with_reducible refine State.done_keeps ?_
    | with_reducible refine Keeps.next_ ?_ | with_reducible refine Keeps.iteR_ ?_ ?_
    | with_reducible assumption | with_reducible refine State.sendSack_keeps ?_ | with_reducible refine State.putRx_keeps ?_
    | with_reducible refine State.ingestData_keeps ?_ | with_reducible refine State.takeHeld_keeps ?_
    | with_reducible refine Keeps.ite_ ?_ ?_ | (with_reducible refine Keeps.foldlP_ (fun t x ht => ?_) ?_ <;> try dsimp only)
    | (with_reducible refine Keeps.foldl_ (fun t x ht => ?_) ?_ <;> try dsimp only)
    | fail_if_no_progress with_reducible refine Keeps.mk_ ?_ rfl rfl | refine Keeps.of_eq (by assumption) ?_ | split

theorem State.withdrawVersion_keeps {a₀ s : State} {v : Version} {recs : List Nat} (hk : Keeps a₀ s) :
    Keeps a₀ (State.withdrawVersion s v recs) := by
  unfold State.withdrawVersion
  try dsimp only
  repeat' first
    | with_reducible assumption | with_reducible refine State.removeVersion_keeps ?_
    | with_reducible refine State.retireSeg_keeps ?_ | with_reducible refine State.dropVersion_keeps ?_
    | with_reducible refine Keeps.ite_ ?_ ?_ | (with_reducible refine Keeps.foldlP_ (fun t x ht => ?_) ?_ <;> try dsimp only)
    | (with_reducible refine Keeps.foldl_ (fun t x ht => ?_) ?_ <;> try dsimp only)
    | fail_if_no_progress with_reducible refine Keeps.mk_ ?_ rfl rfl

theorem execReceiveDurable_keeps {a₀ s : State} {p : Nat} {obj : Nat} (hk : Keeps a₀ s) :
    ∃ u₀, (execReceiveDurable p obj s) = .next u₀ ∧ Keeps a₀ u₀ := by
  unfold execReceiveDurable
  try dsimp only
  repeat' first
    | with_reducible refine State.migGate_keeps ?_ ?_
    | with_reducible refine State.done_keeps ?_
    | with_reducible refine Keeps.next_ ?_ | with_reducible refine Keeps.iteR_ ?_ ?_
    | with_reducible assumption | with_reducible refine State.withdrawVersion_keeps ?_
    | with_reducible refine State.answer_keeps ?_ | with_reducible refine State.takeHeld_keeps ?_
    | with_reducible refine State.closeStripes_keeps ?_ | with_reducible refine State.stat_keeps ?_
    | with_reducible refine State.postEvent_keeps ?_ | with_reducible refine Keeps.ite_ ?_ ?_ | split

theorem execResult_keeps {a₀ s : State} {d : Dgram} (hk : Keeps a₀ s) :
    ∃ u₀, (execResult d s) = .next u₀ ∧ Keeps a₀ u₀ := by
  unfold execResult
  try dsimp only
  repeat' first
    | with_reducible refine State.migGate_keeps ?_ ?_
    | with_reducible refine State.done_keeps ?_
    | with_reducible refine Keeps.next_ ?_ | with_reducible refine Keeps.iteR_ ?_ ?_
    | with_reducible assumption | with_reducible refine State.endMigrate_keeps ?_
    | with_reducible refine State.authFail_keeps ?_ | with_reducible refine State.setMig_keeps ?_
    | with_reducible refine State.freeTiles_keeps ?_ | with_reducible refine State.stat_keeps ?_
    | with_reducible refine State.migPump_keeps ?_ | with_reducible refine State.event_keeps ?_
    | with_reducible refine Keeps.ite_ ?_ ?_ | fail_if_no_progress with_reducible refine Keeps.mk_ ?_ rfl rfl | split

theorem State.migAbort_keeps {a₀ s : State} (hk : Keeps a₀ s) :
    Keeps a₀ (State.migAbort s) := by
  unfold State.migAbort
  try dsimp only
  repeat' first
    | with_reducible assumption | with_reducible refine State.endMigrate_keeps ?_ | with_reducible refine State.setMig_keeps ?_
    | with_reducible refine Keeps.ite_ ?_ ?_ | fail_if_no_progress with_reducible refine Keeps.mk_ ?_ rfl rfl | split

theorem State.migSuspend_keeps {a₀ s : State} (hk : Keeps a₀ s) :
    Keeps a₀ (State.migSuspend s) := by
  unfold State.migSuspend
  try dsimp only
  repeat' first
    | with_reducible assumption | with_reducible refine State.setMig_keeps ?_ | with_reducible refine Keeps.ite_ ?_ ?_
    | fail_if_no_progress with_reducible refine Keeps.mk_ ?_ rfl rfl | split

theorem State.migResume_keeps {a₀ s : State} (hk : Keeps a₀ s) :
    Keeps a₀ (State.migResume s) := by
  unfold State.migResume
  try dsimp only
  repeat' first
    | with_reducible assumption | with_reducible refine State.setMig_keeps ?_ | with_reducible refine State.migPump_keeps ?_
    | with_reducible refine Keeps.ite_ ?_ ?_ | fail_if_no_progress with_reducible refine Keeps.mk_ ?_ rfl rfl | split

theorem State.wholeTiles_keeps {a₀ s : State} {v : Version} {g : Seg} {ts : List Nat} (hk : Keeps a₀ s) :
    Keeps a₀ (State.wholeTiles s v g ts).1 := by
  induction ts generalizing s with
  | nil =>
    unfold State.wholeTiles
    try dsimp only
    repeat' first
      | with_reducible assumption | with_reducible refine State.chargeSend_keeps ?_
      | with_reducible refine State.readTile_keeps ?_ | with_reducible refine Keeps.ite_ ?_ ?_
      | refine Keeps.of_eq (by assumption) ?_ | split
  | cons y_ l_ ih =>
    unfold State.wholeTiles
    try dsimp only
    repeat' first
      | with_reducible assumption | with_reducible refine ih ?_ | with_reducible refine State.chargeSend_keeps ?_
      | with_reducible refine State.readTile_keeps ?_ | with_reducible refine Keeps.ite_ ?_ ?_
      | refine Keeps.of_eq (by assumption) ?_ | split

theorem State.unitsOf_keeps {a₀ s : State} {v : Version} {l : List Seg} {i : Nat} {room : Nat} (hk : Keeps a₀ s) :
    Keeps a₀ (State.unitsOf s v l i room).1 := by
  induction l generalizing s i room with
  | nil =>
    unfold State.unitsOf
    try dsimp only
    repeat' first
      | with_reducible assumption | with_reducible refine State.wholeTiles_keeps ?_
      | with_reducible refine Keeps.ite_ ?_ ?_ | refine Keeps.of_eq (by assumption) ?_ | split
  | cons y_ l_ ih =>
    unfold State.unitsOf
    try dsimp only
    repeat' first
      | with_reducible assumption | with_reducible refine ih ?_ | with_reducible refine State.wholeTiles_keeps ?_
      | with_reducible refine Keeps.ite_ ?_ ?_ | refine Keeps.of_eq (by assumption) ?_ | split

theorem State.units_keeps {a₀ s : State} {l : List Version} {skip : Nat} {limit : Nat} {room : Nat} {p : Pos} (hk : Keeps a₀ s) :
    Keeps a₀ (State.units s l skip limit room p).1 := by
  induction l generalizing s skip limit room p with
  | nil =>
    unfold State.units
    try dsimp only
    repeat' first
      | with_reducible assumption | with_reducible refine State.unitsOf_keeps ?_
      | with_reducible refine Keeps.ite_ ?_ ?_ | refine Keeps.of_eq (by assumption) ?_ | split
  | cons y_ l_ ih =>
    unfold State.units
    try dsimp only
    repeat' first
      | with_reducible assumption | with_reducible refine ih ?_ | with_reducible refine State.unitsOf_keeps ?_
      | with_reducible refine Keeps.ite_ ?_ ?_ | refine Keeps.of_eq (by assumption) ?_ | split

theorem execMigrateToHost_keeps {a₀ s : State} {q : Nat} {t : Nat} {h : HostData} (hk : Keeps a₀ s) :
    ∃ u₀, (execMigrateToHost q t h s) = .next u₀ ∧ Keeps a₀ u₀ := by
  unfold execMigrateToHost
  try dsimp only
  repeat' first
    | with_reducible refine State.migGate_keeps ?_ ?_
    | with_reducible refine State.done_keeps ?_
    | with_reducible refine Keeps.next_ ?_ | with_reducible refine Keeps.iteR_ ?_ ?_
    | with_reducible assumption | with_reducible refine State.endWith_keeps ?_ | with_reducible refine State.units_keeps ?_
    | with_reducible refine State.useCookie_keeps ?_ | with_reducible refine State.nextAt_keeps ?_
    | with_reducible refine State.writeBuffer_keeps ?_ | with_reducible refine State.complete_keeps ?_
    | with_reducible refine Keeps.ite_ ?_ ?_ | refine Keeps.of_eq (by assumption) ?_ | split

theorem State.runMig_keeps {a₀ s : State} {i : Instr} (h : Keeps a₀ s) : Keeps a₀ (State.runMig s i) := by
  unfold State.runMig
  dsimp only
  cases i <;> first
    | exact h
    | (obtain ⟨u, e, hu⟩ := execMigrate_keeps h; dsimp only; rw [e]; exact hu)
    | (obtain ⟨u, e, hu⟩ := execMigrateToHost_keeps h; dsimp only; rw [e]; exact hu)
    | (obtain ⟨u, e, hu⟩ := execHello_keeps h; dsimp only; rw [e]; exact hu)
    | (obtain ⟨u, e, hu⟩ := execHelloAck_keeps h; dsimp only; rw [e]; exact hu)
    | (obtain ⟨u, e, hu⟩ := execConfirm_keeps h; dsimp only; rw [e]; exact hu)
    | (obtain ⟨u, e, hu⟩ := execOffer_keeps h; dsimp only; rw [e]; exact hu)
    | (obtain ⟨u, e, hu⟩ := execData_keeps h; dsimp only; rw [e]; exact hu)
    | (obtain ⟨u, e, hu⟩ := execReceiveDurable_keeps h; dsimp only; rw [e]; exact hu)
    | (obtain ⟨u, e, hu⟩ := execSack_keeps h; dsimp only; rw [e]; exact hu)
    | (obtain ⟨u, e, hu⟩ := execResult_keeps h; dsimp only; rw [e]; exact hu)
    | (obtain ⟨u, e, hu⟩ := execKeepalive_keeps h; dsimp only; rw [e]; exact hu)
    | (obtain ⟨u, e, hu⟩ := execClose_keeps h; dsimp only; rw [e]; exact hu)
    | (obtain ⟨u, e, hu⟩ := execSackTimer_keeps h; dsimp only; rw [e]; exact hu)
    | (obtain ⟨u, e, hu⟩ := execRetransmitTimeout_keeps h; dsimp only; rw [e]; exact hu)
    | (obtain ⟨u, e, hu⟩ := execKeepaliveTimer_keeps h; dsimp only; rw [e]; exact hu)
    | (obtain ⟨u, e, hu⟩ := execPeerSilence_keeps h; dsimp only; rw [e]; exact hu)
    | (obtain ⟨u, e, hu⟩ := execMigTimeout_keeps h; dsimp only; rw [e]; exact hu)

theorem execCoreWindow_keeps {a₀ s : State} (hk : Keeps a₀ s) :
    ∃ u₀, (execCoreWindow s) = .next u₀ ∧ Keeps a₀ u₀ := by
  unfold execCoreWindow
  refine ⟨_, rfl, ?_⟩
  try dsimp only
  repeat' first
    | with_reducible assumption | with_reducible refine State.runMig_keeps ?_ | with_reducible refine State.migPump_keeps ?_
    | with_reducible refine Keeps.ite_ ?_ ?_ | (with_reducible refine Keeps.foldlP_ (fun t x ht => ?_) ?_ <;> try dsimp only)
    | (with_reducible refine Keeps.foldl_ (fun t x ht => ?_) ?_ <;> try dsimp only)
    | fail_if_no_progress with_reducible refine Keeps.mk_ ?_ rfl rfl

theorem execUnlock_keeps {a₀ s : State} {pw : List Byte} (hk : Keeps a₀ s) :
    ∃ u₀, (execUnlock pw s) = .next u₀ ∧ Keeps a₀ u₀ := by
  unfold execUnlock
  refine ⟨_, rfl, ?_⟩
  try dsimp only
  repeat' first
    | with_reducible assumption | with_reducible refine State.tryUnlock_keeps ?_ | with_reducible refine Keeps.ite_ ?_ ?_

theorem execNewPassword_keeps {a₀ s : State} {pw : List Byte} (hk : Keeps a₀ s) :
    ∃ u₀, (execNewPassword pw s) = .next u₀ ∧ Keeps a₀ u₀ := by
  unfold execNewPassword
  refine ⟨_, rfl, ?_⟩
  try dsimp only
  repeat' first
    | with_reducible assumption | with_reducible refine State.setPassword_keeps ?_ | with_reducible refine Keeps.ite_ ?_ ?_

theorem execRelock_keeps {a₀ s : State} (hk : Keeps a₀ s) :
    ∃ u₀, (execRelock s) = .next u₀ ∧ Keeps a₀ u₀ := by
  unfold execRelock
  try dsimp only
  repeat' first
    | with_reducible refine Keeps.next_ ?_ | with_reducible refine Keeps.iteR_ ?_ ?_
    | with_reducible assumption | with_reducible refine State.relock_keeps ?_
    | split

theorem State.startFlash_keeps {a₀ s : State} {o : FlashOp} (hk : Keeps a₀ s) :
    Keeps a₀ (State.startFlash s o) := by
  unfold State.startFlash
  try dsimp only
  repeat' first
    | with_reducible assumption | with_reducible refine State.erase_keeps ?_ | with_reducible refine State.flashResult_keeps ?_
    | with_reducible refine State.setF_keeps ?_ | with_reducible refine Keeps.ite_ ?_ ?_
    | fail_if_no_progress with_reducible refine Keeps.mk_ ?_ rfl rfl | split

theorem State.flashCmd_keeps {a₀ s : State} {op : Nat} {block : Nat} {page : Nat} {first : Nat} {units : Nat} (hk : Keeps a₀ s) :
    Keeps a₀ (State.flashCmd s op block page first units) := by
  unfold State.flashCmd
  try dsimp only
  repeat' first
    | with_reducible assumption | with_reducible refine State.setF_keeps ?_ | with_reducible refine State.units_keeps ?_

theorem execNvcProgram_keeps {a₀ s : State} {block : Nat} {page : Nat} {first : Nat} {data : List Byte} (hk : Keeps a₀ s) :
    ∃ u₀, (execNvcProgram block page first data s) = .next u₀ ∧ Keeps a₀ u₀ := by
  unfold execNvcProgram
  refine ⟨_, rfl, ?_⟩
  try dsimp only
  repeat' first
    | with_reducible assumption | with_reducible refine State.setReg_keeps ?_ | with_reducible refine State.flashCmd_keeps ?_
    | with_reducible refine State.startFlash_keeps ?_ | with_reducible refine Keeps.ite_ ?_ ?_
    | (with_reducible refine Keeps.foldlP_ (fun t x ht => ?_) ?_ <;> try dsimp only)
    | (with_reducible refine Keeps.foldl_ (fun t x ht => ?_) ?_ <;> try dsimp only)

theorem execNvcErase_keeps {a₀ s : State} {block : Nat} (hk : Keeps a₀ s) :
    ∃ u₀, (execNvcErase block s) = .next u₀ ∧ Keeps a₀ u₀ := by
  unfold execNvcErase
  refine ⟨_, rfl, ?_⟩
  try dsimp only
  repeat' first
    | with_reducible assumption | with_reducible refine State.flashCmd_keeps ?_
    | with_reducible refine State.startFlash_keeps ?_ | with_reducible refine Keeps.ite_ ?_ ?_

theorem State.flashFails_keeps {a₀ s : State} {o : FlashOp} (hk : Keeps a₀ s) :
    Keeps a₀ (State.flashFails s o) := by
  unfold State.flashFails
  try dsimp only
  repeat' first
    | with_reducible assumption | with_reducible refine State.erase_keeps ?_ | with_reducible refine State.spoilUnits_keeps ?_
    | with_reducible refine State.flashResult_keeps ?_ | with_reducible refine State.stat_keeps ?_
    | with_reducible refine State.raise_keeps ?_ | with_reducible refine State.markBad_keeps ?_
    | with_reducible refine Keeps.ite_ ?_ ?_

theorem execNvcOperationDone_keeps {a₀ s : State} {ok : Bool} {pulses : Nat} (hk : Keeps a₀ s) :
    ∃ u₀, (execNvcOperationDone ok pulses s) = .next u₀ ∧ Keeps a₀ u₀ := by
  unfold execNvcOperationDone
  refine ⟨_, rfl, ?_⟩
  try dsimp only
  repeat' first
    | with_reducible assumption | with_reducible refine State.flashFails_keeps ?_ | with_reducible refine State.erase_keeps ?_
    | with_reducible refine State.blockErased_keeps ?_ | with_reducible refine State.flashResult_keeps ?_
    | with_reducible refine State.stat_keeps ?_ | with_reducible refine State.programUnits_keeps ?_
    | with_reducible refine State.drainLog_keeps ?_ | with_reducible refine Keeps.ite_ ?_ ?_
    | fail_if_no_progress with_reducible refine Keeps.mk_ ?_ rfl rfl | split

theorem State.transitionBegin_keeps {a₀ s : State} {req : Nat} (hk : Keeps a₀ s) :
    Keeps a₀ (State.transitionBegin s req) := by
  unfold State.transitionBegin
  try dsimp only
  repeat' first
    | with_reducible assumption | with_reducible refine State.programRecord_keeps ?_
    | fail_if_no_progress with_reducible refine Keeps.mk_ ?_ rfl rfl

theorem State.transitionRun_keeps {a₀ s : State} {cut : Option Nat} {i : SlateInputs} (hk : Keeps a₀ s) :
    Keeps a₀ (State.transitionRun s cut i) := by
  unfold State.transitionRun
  try dsimp only
  repeat' first
    | with_reducible assumption | with_reducible refine State.lifeCycleSteps_keeps ?_
    | with_reducible refine State.warmReset_keeps ?_ | with_reducible refine State.slateRun_keeps ?_ | split

theorem execLifecycleTransition_keeps {a₀ s : State} {req : Nat} {cut : Option Nat} {i : SlateInputs} (hk : Keeps a₀ s) :
    ∃ u₀, (execLifecycleTransition req cut i s) = .next u₀ ∧ Keeps a₀ u₀ := by
  unfold execLifecycleTransition
  refine ⟨_, rfl, ?_⟩
  try dsimp only
  repeat' first
    | with_reducible assumption | with_reducible refine State.transitionBegin_keeps ?_
    | with_reducible refine State.transitionRun_keeps ?_ | with_reducible refine Keeps.ite_ ?_ ?_

theorem execScanEnable_keeps {a₀ s : State} (hk : Keeps a₀ s) :
    ∃ u₀, (execScanEnable s) = .next u₀ ∧ Keeps a₀ u₀ := by
  unfold execScanEnable
  refine ⟨_, rfl, ?_⟩
  try dsimp only
  repeat' first
    | with_reducible assumption | with_reducible refine State.setKeys_keeps ?_ | with_reducible refine State.raise_keeps ?_
    | with_reducible refine State.intoReset_keeps ?_ | with_reducible refine Keeps.ite_ ?_ ?_
    | fail_if_no_progress with_reducible refine Keeps.mk_ ?_ rfl rfl

theorem execRngHealthTest_keeps {a₀ s : State} {pass : Bool} (hk : Keeps a₀ s) :
    ∃ u₀, (execRngHealthTest pass s) = .next u₀ ∧ Keeps a₀ u₀ := by
  unfold execRngHealthTest
  refine ⟨_, rfl, ?_⟩
  try dsimp only
  repeat' first
    | with_reducible assumption | with_reducible refine State.bumpF_keeps ?_ | with_reducible refine State.raise_keeps ?_
    | with_reducible refine Keeps.ite_ ?_ ?_ | fail_if_no_progress with_reducible refine Keeps.mk_ ?_ rfl rfl

theorem State.testRefused_keeps {a₀ s : State} (hk : Keeps a₀ s) :
    Keeps a₀ (State.testRefused s) := by
  unfold State.testRefused
  try dsimp only
  repeat' first
    | with_reducible assumption | with_reducible refine State.setF_keeps ?_

theorem State.isolate_keeps {a₀ s : State} {u : Nat} (hk : Keeps a₀ s) :
    Keeps a₀ (State.isolate s u) := by
  unfold State.isolate
  try dsimp only
  repeat' first
    | with_reducible assumption | with_reducible refine State.gateLow_keeps ?_ | with_reducible refine Keeps.ite_ ?_ ?_
    | fail_if_no_progress with_reducible refine Keeps.mk_ ?_ rfl rfl

theorem State.startTest_keeps {a₀ s : State} {test : Nat} {unit : Nat} (hk : Keeps a₀ s) :
    Keeps a₀ (State.startTest s test unit) := by
  unfold State.startTest
  try dsimp only
  repeat' first
    | with_reducible assumption | with_reducible refine State.setF_keeps ?_ | with_reducible refine State.testRefused_keeps ?_
    | with_reducible refine State.setReg_keeps ?_ | with_reducible refine State.isolate_keeps ?_
    | with_reducible refine Keeps.ite_ ?_ ?_ | fail_if_no_progress with_reducible refine Keeps.mk_ ?_ rfl rfl

theorem execTestStart_keeps {a₀ s : State} {test : Nat} {unit : Nat} (hk : Keeps a₀ s) :
    ∃ u₀, (execTestStart test unit s) = .next u₀ ∧ Keeps a₀ u₀ := by
  unfold execTestStart
  refine ⟨_, rfl, ?_⟩
  try dsimp only
  repeat' first
    | with_reducible assumption | with_reducible refine State.startTest_keeps ?_

theorem execExtendedMemoryTest_keeps {a₀ s : State} (hk : Keeps a₀ s) :
    ∃ u₀, (execExtendedMemoryTest s) = .next u₀ ∧ Keeps a₀ u₀ := by
  unfold execExtendedMemoryTest
  refine ⟨_, rfl, ?_⟩
  try dsimp only
  repeat' first
    | with_reducible assumption | with_reducible refine State.startTest_keeps ?_

theorem execTestComplete_keeps {a₀ s : State} {pass : Bool} {detail : Nat} {entries : Nat} (hk : Keeps a₀ s) :
    ∃ u₀, (execTestComplete pass detail entries s) = .next u₀ ∧ Keeps a₀ u₀ := by
  unfold execTestComplete
  refine ⟨_, rfl, ?_⟩
  try dsimp only
  repeat' first
    | with_reducible assumption | with_reducible refine State.testOver_keeps ?_ | with_reducible refine State.stat_keeps ?_
    | with_reducible refine State.raise_keeps ?_ | with_reducible refine Keeps.ite_ ?_ ?_
    | fail_if_no_progress with_reducible refine Keeps.mk_ ?_ rfl rfl

theorem State.startLoop_keeps {a₀ s : State} {cfg : Nat} {path : Nat} {testImpl : Bool} (hk : Keeps a₀ s) :
    Keeps a₀ (State.startLoop s cfg path testImpl) := by
  unfold State.startLoop
  try dsimp only
  repeat' first
    | with_reducible assumption | with_reducible refine State.setReg_keeps ?_ | with_reducible refine State.setF_keeps ?_
    | with_reducible refine State.ethDown_keeps ?_ | with_reducible refine State.hostReset_keeps ?_
    | with_reducible refine Keeps.ite_ ?_ ?_ | fail_if_no_progress with_reducible refine Keeps.mk_ ?_ rfl rfl

theorem execLoopbackStart_keeps {a₀ s : State} {cfg : Nat} {path : Nat} {testImpl : Bool} (hk : Keeps a₀ s) :
    ∃ u₀, (execLoopbackStart cfg path testImpl s) = .next u₀ ∧ Keeps a₀ u₀ := by
  unfold execLoopbackStart
  refine ⟨_, rfl, ?_⟩
  try dsimp only
  repeat' first
    | with_reducible assumption | with_reducible refine State.startLoop_keeps ?_

theorem State.endLoop_keeps {a₀ s : State} {errors : Nat} {bits : Nat} {ok : Bool} (hk : Keeps a₀ s) :
    Keeps a₀ (State.endLoop s errors bits ok) := by
  unfold State.endLoop
  try dsimp only
  repeat' first
    | with_reducible assumption | with_reducible refine State.setF_keeps ?_ | with_reducible refine State.stat_keeps ?_
    | with_reducible refine State.raise_keeps ?_ | with_reducible refine Keeps.ite_ ?_ ?_
    | fail_if_no_progress with_reducible refine Keeps.mk_ ?_ rfl rfl

theorem execLoopbackStop_keeps {a₀ s : State} {errors : Nat} {bits : Nat} {ok : Bool} (hk : Keeps a₀ s) :
    ∃ u₀, (execLoopbackStop errors bits ok s) = .next u₀ ∧ Keeps a₀ u₀ := by
  unfold execLoopbackStop
  refine ⟨_, rfl, ?_⟩
  try dsimp only
  repeat' first
    | with_reducible assumption | with_reducible refine State.endLoop_keeps ?_

theorem execLoopbackEnd_keeps {a₀ s : State} {errors : Nat} {bits : Nat} {ok : Bool} (hk : Keeps a₀ s) :
    ∃ u₀, (execLoopbackEnd errors bits ok s) = .next u₀ ∧ Keeps a₀ u₀ := by
  unfold execLoopbackEnd
  try dsimp only
  repeat' first
    | with_reducible refine Keeps.next_ ?_ | with_reducible refine Keeps.iteR_ ?_ ?_
    | with_reducible assumption | with_reducible refine State.endLoop_keeps ?_
    | split

theorem State.testHold_keeps {a₀ s : State} {enter : Bool} {i : SlateInputs} (hk : Keeps a₀ s) :
    Keeps a₀ (State.testHold s enter i) := by
  unfold State.testHold
  try dsimp only
  repeat' first
    | with_reducible assumption | with_reducible refine State.warmReset_keeps ?_ | with_reducible refine State.slateRun_keeps ?_
    | with_reducible refine Keeps.ite_ ?_ ?_ | fail_if_no_progress with_reducible refine Keeps.mk_ ?_ rfl rfl

theorem execTestHold_keeps {a₀ s : State} {enter : Bool} {i : SlateInputs} (hk : Keeps a₀ s) :
    ∃ u₀, (execTestHold enter i s) = .next u₀ ∧ Keeps a₀ u₀ := by
  unfold execTestHold
  refine ⟨_, rfl, ?_⟩
  try dsimp only
  repeat' first
    | with_reducible assumption | with_reducible refine State.testHold_keeps ?_

theorem State.enterAsh_keeps {a₀ s : State} {node : BitVec 7} {v12 : Nat} (h : Keeps a₀ s) : Keeps a₀ (State.enterAsh s node v12) := by
  unfold State.enterAsh
  dsimp only
  repeat' first
    | with_reducible assumption | with_reducible refine State.setF_keeps ?_ | with_reducible refine State.setReg_keeps ?_
    | with_reducible refine State.uninhibitBoth_keeps ?_ | with_reducible refine State.retract_keeps ?_
    | with_reducible refine State.retractBoth_keeps ?_ | with_reducible refine Keeps.ite_ ?_ ?_
    | refine Keeps.gen_ h (RegsWf.reset _ _ _) (fun _ hd => hd) (fun _ hb => hb) (fun _ hl => hl) (fun hm => hm)

theorem execSupplyGood_keeps {a₀ s : State} {v12 : Nat} {v33 : Nat} {node : BitVec 7} {i : SlateInputs} (hk : Keeps a₀ s) :
    ∃ u₀, (execSupplyGood v12 v33 node i s) = .next u₀ ∧ Keeps a₀ u₀ := by
  unfold execSupplyGood
  refine ⟨_, rfl, ?_⟩
  try dsimp only
  repeat' first
    | with_reducible assumption | with_reducible refine State.supplyBack_keeps ?_ | with_reducible refine State.settle_keeps ?_
    | with_reducible refine State.powerOnReset_keeps ?_ | with_reducible refine State.enterAsh_keeps ?_
    | with_reducible refine State.setF_keeps ?_ | with_reducible refine State.slateRun_keeps ?_
    | with_reducible refine Keeps.ite_ ?_ ?_ | fail_if_no_progress with_reducible refine Keeps.mk_ ?_ rfl rfl

theorem execSupplyLost_keeps {a₀ s : State} {v12 : Nat} {v33 : Nat} (hk : Keeps a₀ s) :
    ∃ u₀, (execSupplyLost v12 v33 s) = .next u₀ ∧ Keeps a₀ u₀ := by
  unfold execSupplyLost
  refine ⟨_, rfl, ?_⟩
  try dsimp only
  repeat' first
    | with_reducible assumption | with_reducible refine State.inhibitBoth_keeps ?_ | with_reducible refine State.settle_keeps ?_
    | with_reducible refine Keeps.ite_ ?_ ?_ | fail_if_no_progress with_reducible refine Keeps.mk_ ?_ rfl rfl

theorem State.intoSlate_keeps {a₀ s : State} {i : SlateInputs} (hk : Keeps a₀ s) :
    Keeps a₀ (State.intoSlate s i) := by
  unfold State.intoSlate
  try dsimp only
  repeat' first
    | with_reducible assumption | with_reducible refine State.slateRun_keeps ?_ | with_reducible refine Keeps.ite_ ?_ ?_

theorem execVddAoPowerOn_keeps {a₀ s : State} {i : SlateInputs} (hk : Keeps a₀ s) :
    ∃ u₀, (execVddAoPowerOn i s) = .next u₀ ∧ Keeps a₀ u₀ := by
  unfold execVddAoPowerOn
  refine ⟨_, rfl, ?_⟩
  try dsimp only
  repeat' first
    | with_reducible assumption | with_reducible refine State.powerOnReset_keeps ?_
    | with_reducible refine State.intoSlate_keeps ?_

theorem execPorstNLow_keeps {a₀ s : State} (hk : Keeps a₀ s) :
    ∃ u₀, (execPorstNLow s) = .next u₀ ∧ Keeps a₀ u₀ := by
  unfold execPorstNLow
  refine ⟨_, rfl, ?_⟩
  try dsimp only
  repeat' first
    | with_reducible assumption | with_reducible refine State.powerOnReset_keeps ?_ | with_reducible refine Keeps.ite_ ?_ ?_
    | fail_if_no_progress with_reducible refine Keeps.mk_ ?_ rfl rfl

theorem execPorstNRelease_keeps {a₀ s : State} {i : SlateInputs} (hk : Keeps a₀ s) :
    ∃ u₀, (execPorstNRelease i s) = .next u₀ ∧ Keeps a₀ u₀ := by
  unfold execPorstNRelease
  refine ⟨_, rfl, ?_⟩
  try dsimp only
  repeat' first
    | with_reducible assumption | with_reducible refine State.slateRun_keeps ?_ | with_reducible refine Keeps.ite_ ?_ ?_
    | fail_if_no_progress with_reducible refine Keeps.mk_ ?_ rfl rfl

theorem execPwrGoodFall_keeps {a₀ s : State} (hk : Keeps a₀ s) :
    ∃ u₀, (execPwrGoodFall s) = .next u₀ ∧ Keeps a₀ u₀ := by
  unfold execPwrGoodFall
  refine ⟨_, rfl, ?_⟩
  try dsimp only
  repeat' first
    | with_reducible assumption | with_reducible refine State.intoReset_keeps ?_ | with_reducible refine Keeps.ite_ ?_ ?_
    | fail_if_no_progress with_reducible refine Keeps.mk_ ?_ rfl rfl

theorem execRailOutOfRange_keeps {a₀ s : State} {src : Nat} (hk : Keeps a₀ s) :
    ∃ u₀, (execRailOutOfRange src s) = .next u₀ ∧ Keeps a₀ u₀ := by
  unfold execRailOutOfRange
  refine ⟨_, rfl, ?_⟩
  try dsimp only
  repeat' first
    | with_reducible assumption | with_reducible refine State.intoReset_keeps ?_ | with_reducible refine State.raise_keeps ?_
    | with_reducible refine Keeps.ite_ ?_ ?_ | fail_if_no_progress with_reducible refine Keeps.mk_ ?_ rfl rfl

theorem execSupplyRestored_keeps {a₀ s : State} {i : SlateInputs} (hk : Keeps a₀ s) :
    ∃ u₀, (execSupplyRestored i s) = .next u₀ ∧ Keeps a₀ u₀ := by
  unfold execSupplyRestored
  refine ⟨_, rfl, ?_⟩
  try dsimp only
  repeat' first
    | with_reducible assumption | with_reducible refine State.setF_keeps ?_ | with_reducible refine State.slateRun_keeps ?_
    | with_reducible refine Keeps.ite_ ?_ ?_ | fail_if_no_progress with_reducible refine Keeps.mk_ ?_ rfl rfl

theorem execRootReferenceLoss_keeps {a₀ s : State} (hk : Keeps a₀ s) :
    ∃ u₀, (execRootReferenceLoss s) = .next u₀ ∧ Keeps a₀ u₀ := by
  unfold execRootReferenceLoss
  refine ⟨_, rfl, ?_⟩
  try dsimp only
  repeat' first
    | with_reducible assumption | with_reducible refine State.intoReset_keeps ?_ | with_reducible refine Keeps.ite_ ?_ ?_
    | fail_if_no_progress with_reducible refine Keeps.mk_ ?_ rfl rfl

theorem execRootReferenceReturn_keeps {a₀ s : State} {i : SlateInputs} (hk : Keeps a₀ s) :
    ∃ u₀, (execRootReferenceReturn i s) = .next u₀ ∧ Keeps a₀ u₀ := by
  unfold execRootReferenceReturn
  refine ⟨_, rfl, ?_⟩
  try dsimp only
  repeat' first
    | with_reducible assumption | with_reducible refine State.slateRun_keeps ?_ | with_reducible refine State.setF_keeps ?_
    | with_reducible refine Keeps.ite_ ?_ ?_ | fail_if_no_progress with_reducible refine Keeps.mk_ ?_ rfl rfl

theorem execSlateDeadline_keeps {a₀ s : State} (hk : Keeps a₀ s) :
    ∃ u₀, (execSlateDeadline s) = .next u₀ ∧ Keeps a₀ u₀ := by
  unfold execSlateDeadline
  refine ⟨_, rfl, ?_⟩
  try dsimp only
  repeat' first
    | with_reducible assumption | with_reducible refine State.slateFail_keeps ?_ | with_reducible refine Keeps.ite_ ?_ ?_

theorem State.forwardKept_keeps {a₀ s : State} (hk : Keeps a₀ s) :
    Keeps a₀ (State.forwardKept s) := by
  unfold State.forwardKept
  try dsimp only
  repeat' first
    | with_reducible assumption | with_reducible refine State.forward_keeps ?_
    | (with_reducible refine Keeps.foldl_ (fun t x ht => ?_) ?_ <;> try dsimp only)
    | fail_if_no_progress with_reducible refine Keeps.mk_ ?_ rfl rfl

theorem State.tellTransition_keeps {a₀ s : State} (hk : Keeps a₀ s) :
    Keeps a₀ (State.tellTransition s) := by
  unfold State.tellTransition
  try dsimp only
  repeat' first
    | with_reducible assumption | with_reducible refine State.event_keeps ?_
    | fail_if_no_progress with_reducible refine Keeps.mk_ ?_ rfl rfl | split

theorem execSlateComplete_keeps {a₀ s : State} (hk : Keeps a₀ s) :
    ∃ u₀, (execSlateComplete s) = .next u₀ ∧ Keeps a₀ u₀ := by
  unfold execSlateComplete
  refine ⟨_, rfl, ?_⟩
  try dsimp only
  repeat' first
    | with_reducible assumption | with_reducible refine State.canUp_keeps ?_ | with_reducible refine State.setF_keeps ?_
    | with_reducible refine State.setStage_keeps ?_ | with_reducible refine State.forwardKept_keeps ?_
    | with_reducible refine State.tellTransition_keeps ?_ | with_reducible refine State.event_keeps ?_
    | with_reducible refine Keeps.ite_ ?_ ?_ | fail_if_no_progress with_reducible refine Keeps.mk_ ?_ rfl rfl

theorem execBeacon_keeps {a₀ s : State} {v12 : Nat} {vbus : Nat} {temp : BitVec 8} {wins : Bool} (hk : Keeps a₀ s) :
    ∃ u₀, (execBeacon v12 vbus temp wins s) = .next u₀ ∧ Keeps a₀ u₀ := by
  unfold execBeacon
  refine ⟨_, rfl, ?_⟩
  try dsimp only
  repeat' first
    | with_reducible assumption | with_reducible refine State.setF_keeps ?_ | with_reducible refine State.emit_keeps ?_
    | with_reducible refine State.canSend_keeps ?_ | with_reducible refine Keeps.ite_ ?_ ?_
    | fail_if_no_progress with_reducible refine Keeps.mk_ ?_ rfl rfl

theorem execBeaconDrop_keeps {a₀ s : State} (hk : Keeps a₀ s) :
    ∃ u₀, (execBeaconDrop s) = .next u₀ ∧ Keeps a₀ u₀ := by
  unfold execBeaconDrop
  try dsimp only
  repeat' first
    | with_reducible refine Keeps.next_ ?_ | with_reducible refine Keeps.iteR_ ?_ ?_
    | with_reducible assumption | fail_if_no_progress with_reducible refine Keeps.mk_ ?_ rfl rfl
    | split

theorem State.requestDomain_keeps {a₀ s : State} {d : Nat} (hk : Keeps a₀ s) :
    Keeps a₀ (State.requestDomain s d) := by
  unfold State.requestDomain
  try dsimp only
  repeat' first
    | with_reducible assumption | with_reducible refine State.domainReset_keeps ?_ | with_reducible refine State.setF_keeps ?_
    | with_reducible refine State.settle_keeps ?_ | fail_if_no_progress with_reducible refine Keeps.mk_ ?_ rfl rfl

theorem State.requestWarm_keeps {a₀ s : State} {i : SlateInputs} (hk : Keeps a₀ s) :
    Keeps a₀ (State.requestWarm s i) := by
  unfold State.requestWarm
  try dsimp only
  repeat' first
    | with_reducible assumption | with_reducible refine State.warmReset_keeps ?_ | with_reducible refine State.slateRun_keeps ?_

theorem State.requestBuffer_keeps {a₀ s : State} {i : SlateInputs} (hk : Keeps a₀ s) :
    Keeps a₀ (State.requestBuffer s i) := by
  unfold State.requestBuffer
  try dsimp only
  repeat' first
    | with_reducible assumption | with_reducible refine State.requestDomain_keeps ?_
    | with_reducible refine State.slateRun_keeps ?_

theorem execRstreqWarm_keeps {a₀ s : State} {i : SlateInputs} (hk : Keeps a₀ s) :
    ∃ u₀, (execRstreqWarm i s) = .next u₀ ∧ Keeps a₀ u₀ := by
  unfold execRstreqWarm
  refine ⟨_, rfl, ?_⟩
  try dsimp only
  repeat' first
    | with_reducible assumption | with_reducible refine State.requestWarm_keeps ?_ | with_reducible refine Keeps.ite_ ?_ ?_

theorem execRstreqBuffer_keeps {a₀ s : State} {i : SlateInputs} (hk : Keeps a₀ s) :
    ∃ u₀, (execRstreqBuffer i s) = .next u₀ ∧ Keeps a₀ u₀ := by
  unfold execRstreqBuffer
  refine ⟨_, rfl, ?_⟩
  try dsimp only
  repeat' first
    | with_reducible assumption | with_reducible refine State.requestBuffer_keeps ?_ | with_reducible refine Keeps.ite_ ?_ ?_

theorem execRstreqHost_keeps {a₀ s : State} (hk : Keeps a₀ s) :
    ∃ u₀, (execRstreqHost s) = .next u₀ ∧ Keeps a₀ u₀ := by
  unfold execRstreqHost
  refine ⟨_, rfl, ?_⟩
  try dsimp only
  repeat' first
    | with_reducible assumption | with_reducible refine State.requestDomain_keeps ?_ | with_reducible refine Keeps.ite_ ?_ ?_

theorem execRstreqObject_keeps {a₀ s : State} (hk : Keeps a₀ s) :
    ∃ u₀, (execRstreqObject s) = .next u₀ ∧ Keeps a₀ u₀ := by
  unfold execRstreqObject
  refine ⟨_, rfl, ?_⟩
  try dsimp only
  repeat' first
    | with_reducible assumption | with_reducible refine State.requestDomain_keeps ?_ | with_reducible refine Keeps.ite_ ?_ ?_

theorem State.requestBothMedia_keeps {a₀ s : State} (hk : Keeps a₀ s) :
    Keeps a₀ (State.requestBothMedia s) := by
  unfold State.requestBothMedia
  try dsimp only
  repeat' first
    | with_reducible assumption | with_reducible refine State.requestDomain_keeps ?_
    | with_reducible refine State.resetHidden_keeps ?_ | with_reducible refine State.resetRegsOf_keeps ?_
    | with_reducible refine State.settle_keeps ?_

theorem execRstreqMedia0_keeps {a₀ s : State} {both : Bool} (hk : Keeps a₀ s) :
    ∃ u₀, (execRstreqMedia0 both s) = .next u₀ ∧ Keeps a₀ u₀ := by
  unfold execRstreqMedia0
  refine ⟨_, rfl, ?_⟩
  try dsimp only
  repeat' first
    | with_reducible assumption | with_reducible refine State.requestBothMedia_keeps ?_
    | with_reducible refine State.requestDomain_keeps ?_ | with_reducible refine Keeps.ite_ ?_ ?_

theorem execRstreqMedia1_keeps {a₀ s : State} {both : Bool} (hk : Keeps a₀ s) :
    ∃ u₀, (execRstreqMedia1 both s) = .next u₀ ∧ Keeps a₀ u₀ := by
  unfold execRstreqMedia1
  refine ⟨_, rfl, ?_⟩
  try dsimp only
  repeat' first
    | with_reducible assumption | with_reducible refine State.requestBothMedia_keeps ?_
    | with_reducible refine State.requestDomain_keeps ?_ | with_reducible refine Keeps.ite_ ?_ ?_

theorem execRstreqMotion_keeps {a₀ s : State} (hk : Keeps a₀ s) :
    ∃ u₀, (execRstreqMotion s) = .next u₀ ∧ Keeps a₀ u₀ := by
  unfold execRstreqMotion
  refine ⟨_, rfl, ?_⟩
  try dsimp only
  repeat' first
    | with_reducible assumption | with_reducible refine State.requestDomain_keeps ?_ | with_reducible refine Keeps.ite_ ?_ ?_

theorem execMediaServiceTimeout_keeps {a₀ s : State} {k : Nat} (hk : Keeps a₀ s) :
    ∃ u₀, (execMediaServiceTimeout k s) = .next u₀ ∧ Keeps a₀ u₀ := by
  unfold execMediaServiceTimeout
  try dsimp only
  repeat' first
    | with_reducible refine State.done_keeps ?_
    | with_reducible refine Keeps.next_ ?_ | with_reducible refine Keeps.iteR_ ?_ ?_
    | with_reducible assumption | with_reducible refine State.closeStripes_keeps ?_
    | with_reducible refine State.complete_keeps ?_ | with_reducible refine State.migPump_keeps ?_
    | with_reducible refine Keeps.ite_ ?_ ?_ | (with_reducible refine Keeps.foldlP_ (fun t x ht => ?_) ?_ <;> try dsimp only)
    | (with_reducible refine Keeps.foldl_ (fun t x ht => ?_) ?_ <;> try dsimp only)
    | fail_if_no_progress with_reducible refine Keeps.mk_ ?_ rfl rfl
    | split

theorem execSpinUpDelayEnd_keeps {a₀ s : State} (hk : Keeps a₀ s) :
    ∃ u₀, (execSpinUpDelayEnd s) = .next u₀ ∧ Keeps a₀ u₀ := by
  unfold execSpinUpDelayEnd
  refine ⟨_, rfl, ?_⟩
  try dsimp only
  repeat' first
    | with_reducible assumption | with_reducible refine Keeps.ite_ ?_ ?_
    | fail_if_no_progress with_reducible refine Keeps.mk_ ?_ rfl rfl

theorem State.spinUpNow_keeps {a₀ s : State} (hk : Keeps a₀ s) :
    Keeps a₀ (State.spinUpNow s) := by
  unfold State.spinUpNow
  try dsimp only
  repeat' first
    | with_reducible assumption | with_reducible refine Keeps.ite_ ?_ ?_
    | fail_if_no_progress with_reducible refine Keeps.mk_ ?_ rfl rfl

theorem execSpinUpNow_keeps {a₀ s : State} (hk : Keeps a₀ s) :
    ∃ u₀, (execSpinUpNow s) = .next u₀ ∧ Keeps a₀ u₀ := by
  unfold execSpinUpNow
  try dsimp only
  repeat' first
    | with_reducible refine Keeps.next_ ?_ | with_reducible refine Keeps.iteR_ ?_ ?_
    | with_reducible assumption | with_reducible refine State.spinUpNow_keeps ?_
    | split

theorem State.beginOchre_keeps {a₀ s : State} {selfOk : Bool} (hk : Keeps a₀ s) :
    Keeps a₀ (State.beginOchre s selfOk) := by
  unfold State.beginOchre
  try dsimp only
  repeat' first
    | with_reducible assumption | with_reducible refine State.setF_keeps ?_ | with_reducible refine State.setStage_keeps ?_
    | with_reducible refine State.raise_keeps ?_ | with_reducible refine State.ochreFail_keeps ?_
    | with_reducible refine State.startSpin_keeps ?_ | with_reducible refine State.settle_keeps ?_
    | with_reducible refine Keeps.ite_ ?_ ?_ | fail_if_no_progress with_reducible refine Keeps.mk_ ?_ rfl rfl

theorem State.beginQualification_keeps {a₀ s : State} {selfOk : Bool} (hk : Keeps a₀ s) :
    Keeps a₀ (State.beginQualification s selfOk) := by
  unfold State.beginQualification
  try dsimp only
  repeat' first
    | with_reducible assumption | with_reducible refine State.startQualification_keeps ?_
    | with_reducible refine State.setDictNum_keeps ?_ | with_reducible refine State.raise_keeps ?_
    | with_reducible refine State.bringUpFails_keeps ?_ | with_reducible refine State.startSpin_keeps ?_
    | with_reducible refine Keeps.ite_ ?_ ?_ | fail_if_no_progress with_reducible refine Keeps.mk_ ?_ rfl rfl

theorem execStartQualification_keeps {a₀ s : State} {selfOk : Bool} (hk : Keeps a₀ s) :
    ∃ u₀, (execStartQualification selfOk s) = .next u₀ ∧ Keeps a₀ u₀ := by
  unfold execStartQualification
  refine ⟨_, rfl, ?_⟩
  try dsimp only
  repeat' first
    | with_reducible assumption | with_reducible refine State.beginQualification_keeps ?_
    | with_reducible refine State.settle_keeps ?_

theorem execOchreStart_keeps {a₀ s : State} {selfOk : Bool} (hk : Keeps a₀ s) :
    ∃ u₀, (execOchreStart selfOk s) = .next u₀ ∧ Keeps a₀ u₀ := by
  unfold execOchreStart
  refine ⟨_, rfl, ?_⟩
  try dsimp only
  repeat' first
    | with_reducible assumption | with_reducible refine State.beginOchre_keeps ?_ | with_reducible refine Keeps.ite_ ?_ ?_

theorem execOchreDeadline_keeps {a₀ s : State} (hk : Keeps a₀ s) :
    ∃ u₀, (execOchreDeadline s) = .next u₀ ∧ Keeps a₀ u₀ := by
  unfold execOchreDeadline
  refine ⟨_, rfl, ?_⟩
  try dsimp only
  repeat' first
    | with_reducible assumption | with_reducible refine State.ochreFail_keeps ?_ | with_reducible refine Keeps.ite_ ?_ ?_

theorem execOchreRetry_keeps {a₀ s : State} {selfOk : Bool} (hk : Keeps a₀ s) :
    ∃ u₀, (execOchreRetry selfOk s) = .next u₀ ∧ Keeps a₀ u₀ := by
  unfold execOchreRetry
  refine ⟨_, rfl, ?_⟩
  try dsimp only
  repeat' first
    | with_reducible assumption | with_reducible refine State.beginOchre_keeps ?_ | with_reducible refine Keeps.ite_ ?_ ?_

theorem State.restartOchre_keeps {a₀ s : State} (hk : Keeps a₀ s) :
    Keeps a₀ (State.restartOchre s) := by
  unfold State.restartOchre
  try dsimp only
  repeat' first
    | with_reducible assumption | with_reducible refine State.bringUpFails_keeps ?_ | with_reducible refine State.setF_keeps ?_
    | with_reducible refine State.setStage_keeps ?_ | fail_if_no_progress with_reducible refine Keeps.mk_ ?_ rfl rfl

theorem execRestartOchre_keeps {a₀ s : State} (hk : Keeps a₀ s) :
    ∃ u₀, (execRestartOchre s) = .next u₀ ∧ Keeps a₀ u₀ := by
  unfold execRestartOchre
  refine ⟨_, rfl, ?_⟩
  try dsimp only
  repeat' first
    | with_reducible assumption | with_reducible refine State.restartOchre_keeps ?_ | with_reducible refine Keeps.ite_ ?_ ?_

theorem State.runFormat_keeps {a₀ s : State} {id : List Byte} (hk : Keeps a₀ s) :
    Keeps a₀ (State.runFormat s id) := by
  unfold State.runFormat
  try dsimp only
  repeat' first
    | with_reducible assumption | with_reducible refine State.formatDrive_keeps ?_
    | with_reducible refine State.setDictNum_keeps ?_ | with_reducible refine State.setChn_keeps ?_
    | with_reducible refine State.restartOchre_keeps ?_ | with_reducible refine State.settle_keeps ?_
    | fail_if_no_progress with_reducible refine Keeps.mk_ ?_ rfl rfl

theorem execFormatDrive_keeps {a₀ s : State} {id : List Byte} (hk : Keeps a₀ s) :
    ∃ u₀, (execFormatDrive id s) = .next u₀ ∧ Keeps a₀ u₀ := by
  unfold execFormatDrive
  refine ⟨_, rfl, ?_⟩
  try dsimp only
  repeat' first
    | with_reducible assumption | with_reducible refine State.runFormat_keeps ?_ | with_reducible refine Keeps.ite_ ?_ ?_

theorem State.ivoryStep_keeps {a₀ s : State} {lost : List (Nat × Nat)} (hk : Keeps a₀ s) :
    Keeps a₀ (State.ivoryStep s lost).2 := by
  unfold State.ivoryStep
  try dsimp only
  repeat' first
    | with_reducible assumption | with_reducible refine State.packWords_keeps ?_ | with_reducible refine State.fillPlan_keeps ?_
    | with_reducible refine Keeps.ite_ ?_ ?_ | (with_reducible refine Keeps.foldlP_ (fun t x ht => ?_) ?_ <;> try dsimp only)
    | (with_reducible refine Keeps.foldl_ (fun t x ht => ?_) ?_ <;> try dsimp only)
    | fail_if_no_progress with_reducible refine Keeps.mk_ ?_ rfl rfl | split

theorem State.tableStep_keeps {a₀ s : State} {stale : List Nat} {offsets : Nat × Nat} (hk : Keeps a₀ s) :
    Keeps a₀ (State.tableStep s stale offsets) := by
  unfold State.tableStep
  try dsimp only
  repeat' first
    | with_reducible assumption | with_reducible refine State.train_keeps ?_
    | with_reducible refine State.zoneEfficiency_keeps ?_ | with_reducible refine State.raise_keeps ?_
    | with_reducible refine Keeps.ite_ ?_ ?_ | (with_reducible refine Keeps.foldlP_ (fun t x ht => ?_) ?_ <;> try dsimp only)
    | (with_reducible refine Keeps.foldl_ (fun t x ht => ?_) ?_ <;> try dsimp only)
    | fail_if_no_progress with_reducible refine Keeps.mk_ ?_ rfl rfl

theorem State.openCobalt_keeps {a₀ s : State} (hk : Keeps a₀ s) :
    Keeps a₀ (State.openCobalt s) := by
  unfold State.openCobalt
  try dsimp only
  repeat' first
    | with_reducible assumption | with_reducible refine State.setF_keeps ?_ | with_reducible refine State.setStage_keeps ?_
    | with_reducible refine State.event_keeps ?_ | with_reducible refine Keeps.ite_ ?_ ?_
    | fail_if_no_progress with_reducible refine Keeps.mk_ ?_ rfl rfl

theorem State.enableReaders_keeps {a₀ s : State} {r : Nat} (hk : Keeps a₀ s) :
    Keeps a₀ (State.enableReaders s r) := by
  unfold State.enableReaders
  try dsimp only
  repeat' first
    | with_reducible assumption | with_reducible refine State.preampSet_keeps ?_

theorem execCobalt_keeps {a₀ s : State} {lost : List (Nat × Nat)} {stale : List Nat} {offsets : Nat × Nat} (hk : Keeps a₀ s) :
    ∃ u₀, (execCobalt lost stale offsets s) = .next u₀ ∧ Keeps a₀ u₀ := by
  unfold execCobalt
  refine ⟨_, rfl, ?_⟩
  try dsimp only
  repeat' first
    | with_reducible assumption | with_reducible refine State.useIvory_keeps ?_
    | with_reducible refine State.enableReaders_keeps ?_ | with_reducible refine State.ivoryStep_keeps ?_
    | with_reducible refine State.ochreFail_keeps ?_ | with_reducible refine State.tableStep_keeps ?_
    | with_reducible refine State.recovered_keeps ?_ | with_reducible refine State.openCobalt_keeps ?_
    | with_reducible refine Keeps.ite_ ?_ ?_ | refine Keeps.of_eq (by assumption) ?_ | refine Keeps.of_eq2 (by assumption) ?_
    | refine State.recoverIndex_keeps ?_ (by assumption) | split

theorem State.linkLost_keeps {a₀ s : State} (hk : Keeps a₀ s) :
    Keeps a₀ (State.linkLost s) := by
  unfold State.linkLost
  try dsimp only
  repeat' first
    | with_reducible assumption | with_reducible refine State.motionLinkDown_keeps ?_
    | with_reducible refine State.coreLinkDown_keeps ?_ | with_reducible refine State.settle_keeps ?_

theorem State.setResends_keeps {a₀ s : State} {motion : Bool} {n : Nat} (hk : Keeps a₀ s) :
    Keeps a₀ (State.setResends s motion n) := by
  unfold State.setResends
  try dsimp only
  repeat' first
    | with_reducible assumption | with_reducible refine Keeps.ite_ ?_ ?_
    | fail_if_no_progress with_reducible refine Keeps.mk_ ?_ rfl rfl

theorem execD2dFlitReceive_keeps {a₀ s : State} {motion : Bool} {crcOk : Bool} (hk : Keeps a₀ s) :
    ∃ u₀, (execD2dFlitReceive motion crcOk s) = .next u₀ ∧ Keeps a₀ u₀ := by
  unfold execD2dFlitReceive
  refine ⟨_, rfl, ?_⟩
  try dsimp only
  repeat' first
    | with_reducible assumption | with_reducible refine State.setResends_keeps ?_
    | with_reducible refine State.linkLost_keeps ?_ | with_reducible refine Keeps.ite_ ?_ ?_
    | fail_if_no_progress with_reducible refine Keeps.mk_ ?_ rfl rfl

theorem execD2dResendLimit_keeps {a₀ s : State} (hk : Keeps a₀ s) :
    ∃ u₀, (execD2dResendLimit s) = .next u₀ ∧ Keeps a₀ u₀ := by
  unfold execD2dResendLimit
  refine ⟨_, rfl, ?_⟩
  try dsimp only
  repeat' first
    | with_reducible assumption | with_reducible refine State.setResends_keeps ?_
    | with_reducible refine State.linkLost_keeps ?_ | with_reducible refine Keeps.ite_ ?_ ?_

theorem execD2dLinkTimeout_keeps {a₀ s : State} (hk : Keeps a₀ s) :
    ∃ u₀, (execD2dLinkTimeout s) = .next u₀ ∧ Keeps a₀ u₀ := by
  unfold execD2dLinkTimeout
  try dsimp only
  repeat' first
    | with_reducible refine Keeps.next_ ?_ | with_reducible refine Keeps.iteR_ ?_ ?_
    | with_reducible assumption | with_reducible refine State.linkLost_keeps ?_
    | split

theorem execD2dLinkUp_keeps {a₀ s : State} (hk : Keeps a₀ s) :
    ∃ u₀, (execD2dLinkUp s) = .next u₀ ∧ Keeps a₀ u₀ := by
  unfold execD2dLinkUp
  refine ⟨_, rfl, ?_⟩
  try dsimp only
  repeat' first
    | with_reducible assumption | with_reducible refine State.linkUp_keeps ?_ | with_reducible refine State.setF_keeps ?_
    | with_reducible refine Keeps.ite_ ?_ ?_ | fail_if_no_progress with_reducible refine Keeps.mk_ ?_ rfl rfl

theorem execReferenceDeviation_keeps {a₀ s : State} (hk : Keeps a₀ s) :
    ∃ u₀, (execReferenceDeviation s) = .next u₀ ∧ Keeps a₀ u₀ := by
  unfold execReferenceDeviation
  refine ⟨_, rfl, ?_⟩
  try dsimp only
  repeat' first
    | with_reducible assumption | with_reducible refine State.setF_keeps ?_ | with_reducible refine State.ethDown_keeps ?_
    | with_reducible refine State.settle_keeps ?_ | with_reducible refine Keeps.ite_ ?_ ?_

theorem execReferenceDeviationCleared_keeps {a₀ s : State} (hk : Keeps a₀ s) :
    ∃ u₀, (execReferenceDeviationCleared s) = .next u₀ ∧ Keeps a₀ u₀ := by
  unfold execReferenceDeviationCleared
  refine ⟨_, rfl, ?_⟩
  try dsimp only
  repeat' first
    | with_reducible assumption | with_reducible refine State.setF_keeps ?_ | with_reducible refine Keeps.ite_ ?_ ?_

theorem State.ringParity_keeps {a₀ s : State} {k : Nat} {psa : Nat} (hk : Keeps a₀ s) :
    Keeps a₀ (State.ringParity s k psa) := by
  unfold State.ringParity
  try dsimp only
  repeat' first
    | with_reducible assumption | with_reducible refine State.cancelWork_keeps ?_ | with_reducible refine State.erase_keeps ?_
    | with_reducible refine Keeps.ite_ ?_ ?_ | (with_reducible refine Keeps.foldl_ (fun t x ht => ?_) ?_ <;> try dsimp only)

theorem State.messageParity_keeps {a₀ s : State} {n : Nat} (hk : Keeps a₀ s) :
    Keeps a₀ (State.messageParity s n) := by
  unfold State.messageParity
  try dsimp only
  repeat' first
    | with_reducible assumption | with_reducible refine State.setInst_keeps ?_ | with_reducible refine State.erase_keeps ?_
    | with_reducible refine State.ladderBack_keeps ?_ | with_reducible refine State.dispatchAll_keeps ?_ | split

theorem State.clearKeys_keeps {a₀ s : State} (hk : Keeps a₀ s) :
    Keeps a₀ (State.clearKeys s) := by
  unfold State.clearKeys
  try dsimp only
  repeat' first
    | with_reducible assumption | with_reducible refine State.setKeys_keeps ?_
    | fail_if_no_progress with_reducible refine Keeps.mk_ ?_ rfl rfl

theorem State.loseSessions_keeps {a₀ s : State} (hk : Keeps a₀ s) :
    Keeps a₀ (State.loseSessions s) := by
  unfold State.loseSessions
  try dsimp only
  repeat' first
    | with_reducible assumption | with_reducible refine State.dropRx_keeps ?_ | with_reducible refine State.setMig_keeps ?_
    | (with_reducible refine Keeps.foldl_ (fun t x ht => ?_) ?_ <;> try dsimp only)
    | fail_if_no_progress with_reducible refine Keeps.mk_ ?_ rfl rfl | split

theorem State.localAction_keeps {a₀ s : State} {src : Nat} {addr : Nat} (hk : Keeps a₀ s) :
    Keeps a₀ (State.localAction s src addr) := by
  unfold State.localAction
  try dsimp only
  repeat' first
    | with_reducible assumption | with_reducible refine State.ringParity_keeps ?_ | with_reducible refine State.setChn_keeps ?_
    | with_reducible refine State.inhibit_keeps ?_ | with_reducible refine State.messageParity_keeps ?_
    | with_reducible refine State.setF_keeps ?_ | with_reducible refine State.dmaEnd_keeps ?_
    | with_reducible refine State.loseSessions_keeps ?_ | with_reducible refine State.clearKeys_keeps ?_
    | with_reducible refine Keeps.ite_ ?_ ?_ | fail_if_no_progress with_reducible refine Keeps.mk_ ?_ rfl rfl | split

theorem State.corruptCopy_keeps {a₀ s : State} (hk : Keeps a₀ s) :
    Keeps a₀ (State.corruptCopy s) := by
  unfold State.corruptCopy
  try dsimp only
  repeat' first
    | with_reducible assumption | with_reducible refine State.bumpF_keeps ?_ | with_reducible refine State.raise_keeps ?_

theorem execFaultMessage_keeps {a₀ s : State} {src : Nat} {kind : Nat} {addr : Nat} {ok1 : Bool} {ok2 : Bool} (hk : Keeps a₀ s) :
    ∃ u₀, (execFaultMessage src kind addr ok1 ok2 s) = .next u₀ ∧ Keeps a₀ u₀ := by
  unfold execFaultMessage
  refine ⟨_, rfl, ?_⟩
  try dsimp only
  repeat' first
    | with_reducible assumption | with_reducible refine State.localAction_keeps ?_
    | with_reducible refine State.corruptCopy_keeps ?_ | with_reducible refine State.raiseMotion_keeps ?_
    | with_reducible refine State.raise_keeps ?_ | with_reducible refine Keeps.ite_ ?_ ?_

theorem execReactionEnd_keeps {a₀ s : State} (hk : Keeps a₀ s) :
    ∃ u₀, (execReactionEnd s) = .next u₀ ∧ Keeps a₀ u₀ := by
  unfold execReactionEnd
  refine ⟨_, rfl, ?_⟩
  try dsimp only
  repeat' first
    | with_reducible assumption | with_reducible refine State.setF_keeps ?_ | with_reducible refine Keeps.ite_ ?_ ?_
    | fail_if_no_progress with_reducible refine Keeps.mk_ ?_ rfl rfl | split

theorem execReactionTimeout_keeps {a₀ s : State} (hk : Keeps a₀ s) :
    ∃ u₀, (execReactionTimeout s) = .next u₀ ∧ Keeps a₀ u₀ := by
  unfold execReactionTimeout
  refine ⟨_, rfl, ?_⟩
  try dsimp only
  repeat' first
    | with_reducible assumption | with_reducible refine State.raise_keeps ?_ | with_reducible refine State.setF_keeps ?_
    | with_reducible refine State.stat_keeps ?_ | with_reducible refine State.enterSafe_keeps ?_
    | with_reducible refine State.settle_keeps ?_ | with_reducible refine Keeps.ite_ ?_ ?_
    | fail_if_no_progress with_reducible refine Keeps.mk_ ?_ rfl rfl | split

theorem execStorageCompare_keeps {a₀ s : State} {agree : Bool} (hk : Keeps a₀ s) :
    ∃ u₀, (execStorageCompare agree s) = .next u₀ ∧ Keeps a₀ u₀ := by
  unfold execStorageCompare
  refine ⟨_, rfl, ?_⟩
  try dsimp only
  repeat' first
    | with_reducible assumption | with_reducible refine State.raise_keeps ?_ | with_reducible refine Keeps.ite_ ?_ ?_
    | fail_if_no_progress with_reducible refine Keeps.mk_ ?_ rfl rfl

theorem State.releaseCleared_keeps {a₀ s : State} (hk : Keeps a₀ s) :
    Keeps a₀ (State.releaseCleared s) := by
  unfold State.releaseCleared
  try dsimp only
  repeat' first
    | with_reducible assumption | with_reducible refine State.uninhibitBoth_keeps ?_
    | with_reducible refine State.setChn_keeps ?_ | with_reducible refine State.uninhibit_keeps ?_
    | with_reducible refine Keeps.ite_ ?_ ?_ | fail_if_no_progress with_reducible refine Keeps.mk_ ?_ rfl rfl

theorem State.leaveSafe_keeps {a₀ s : State} (hk : Keeps a₀ s) :
    Keeps a₀ (State.leaveSafe s) := by
  unfold State.leaveSafe
  try dsimp only
  repeat' first
    | with_reducible assumption | with_reducible refine State.setF_keeps ?_ | with_reducible refine Keeps.ite_ ?_ ?_
    | fail_if_no_progress with_reducible refine Keeps.mk_ ?_ rfl rfl

theorem State.clearSticky_keeps {a₀ s : State} {src : Nat} (hk : Keeps a₀ s) :
    Keeps a₀ (State.clearSticky s src) := by
  unfold State.clearSticky
  try dsimp only
  repeat' first
    | with_reducible assumption | with_reducible refine State.setSticky_keeps ?_
    | with_reducible refine State.releaseCleared_keeps ?_ | with_reducible refine State.leaveSafe_keeps ?_
    | with_reducible refine Keeps.ite_ ?_ ?_

theorem State.clearAllSticky_keeps {a₀ s : State} (hk : Keeps a₀ s) :
    Keeps a₀ (State.clearAllSticky s) := by
  unfold State.clearAllSticky
  try dsimp only
  repeat' first
    | with_reducible assumption | with_reducible refine State.clearSticky_keeps ?_
    | (with_reducible refine Keeps.foldl_ (fun t x ht => ?_) ?_ <;> try dsimp only)

theorem execClearSticky_keeps {a₀ s : State} {src : Nat} (hk : Keeps a₀ s) :
    ∃ u₀, (execClearSticky src s) = .next u₀ ∧ Keeps a₀ u₀ := by
  unfold execClearSticky
  refine ⟨_, rfl, ?_⟩
  try dsimp only
  repeat' first
    | with_reducible assumption | with_reducible refine State.clearSticky_keeps ?_ | with_reducible refine Keeps.ite_ ?_ ?_

theorem execClearAllSticky_keeps {a₀ s : State} (hk : Keeps a₀ s) :
    ∃ u₀, (execClearAllSticky s) = .next u₀ ∧ Keeps a₀ u₀ := by
  unfold execClearAllSticky
  refine ⟨_, rfl, ?_⟩
  try dsimp only
  repeat' first
    | with_reducible assumption | with_reducible refine State.clearAllSticky_keeps ?_ | with_reducible refine Keeps.ite_ ?_ ?_

theorem State.pairFails_keeps {a₀ s : State} {src : Nat} {pair : Nat} {cause : FieldRef} {i : SlateInputs} (hk : Keeps a₀ s) :
    Keeps a₀ (State.pairFails s src pair cause i) := by
  unfold State.pairFails
  try dsimp only
  repeat' first
    | with_reducible assumption | with_reducible refine State.raise_keeps ?_ | with_reducible refine State.warmReset_keeps ?_
    | with_reducible refine State.slateRun_keeps ?_ | with_reducible refine State.requestDomain_keeps ?_ | split

theorem execWatchdogExpiry_keeps {a₀ s : State} {w : Nat} {i : SlateInputs} (hk : Keeps a₀ s) :
    ∃ u₀, (execWatchdogExpiry w i s) = .next u₀ ∧ Keeps a₀ u₀ := by
  unfold execWatchdogExpiry
  refine ⟨_, rfl, ?_⟩
  try dsimp only
  repeat' first
    | with_reducible assumption | with_reducible refine State.pairFails_keeps ?_ | with_reducible refine Keeps.ite_ ?_ ?_

theorem execLockstepMismatch_keeps {a₀ s : State} {p : Nat} {i : SlateInputs} (hk : Keeps a₀ s) :
    ∃ u₀, (execLockstepMismatch p i s) = .next u₀ ∧ Keeps a₀ u₀ := by
  unfold execLockstepMismatch
  refine ⟨_, rfl, ?_⟩
  try dsimp only
  repeat' first
    | with_reducible assumption | with_reducible refine State.raise_keeps ?_ | with_reducible refine State.slateFail_keeps ?_
    | with_reducible refine State.pairFails_keeps ?_ | with_reducible refine Keeps.ite_ ?_ ?_

theorem State.tellBlocked_keeps {a₀ s : State} {gdp : Bool} {idx : Nat} {sub : Nat} (hk : Keeps a₀ s) :
    Keeps a₀ (State.tellBlocked s gdp idx sub) := by
  unfold State.tellBlocked
  try dsimp only
  repeat' first
    | with_reducible assumption | with_reducible refine State.raise_keeps ?_ | with_reducible refine Keeps.ite_ ?_ ?_ | split

theorem State.storeEntry_keeps {a₀ s : State} {r : DictRow} {idx sub : Nat} {bs : List Byte} (h : Keeps a₀ s) :
    Keeps a₀ (State.storeEntry s r idx sub bs) := by
  unfold State.storeEntry
  split
  · exact State.stat_keeps (State.storeValue_keeps h)
  · exact State.storeValue_keeps h
  · exact h

theorem State.applySelection_keeps {a₀ s : State} {idx : Nat} {sub : Nat} {v : Nat} (hk : Keeps a₀ s) :
    Keeps a₀ (State.applySelection s idx sub v) := by
  unfold State.applySelection
  try dsimp only
  repeat' first
    | with_reducible assumption | with_reducible refine State.setF_keeps ?_ | with_reducible refine State.setReg_keeps ?_
    | with_reducible refine Keeps.ite_ ?_ ?_ | fail_if_no_progress with_reducible refine Keeps.mk_ ?_ rfl rfl | split

theorem State.holdEntry_keeps {a₀ s : State} {r : DictRow} {idx : Nat} {sub : Nat} {bs : List Byte} (hk : Keeps a₀ s) :
    Keeps a₀ (State.holdEntry s r idx sub bs) := by
  unfold State.holdEntry
  try dsimp only
  repeat' first
    | with_reducible assumption | with_reducible refine State.storeEntry_keeps ?_ | with_reducible refine State.setDict_keeps ?_
    | with_reducible refine State.applyEntry_keeps ?_ | with_reducible refine State.applySelection_keeps ?_
    | with_reducible refine Keeps.ite_ ?_ ?_

theorem State.restoreDefaults_keeps {a₀ s : State} (hk : Keeps a₀ s) :
    Keeps a₀ (State.restoreDefaults s) := by
  unfold State.restoreDefaults
  try dsimp only
  repeat' first
    | with_reducible assumption | with_reducible refine State.storeValue_keeps ?_
    | (with_reducible refine Keeps.foldlP_ (fun t x ht => ?_) ?_ <;> try dsimp only)
    | (with_reducible refine Keeps.foldl_ (fun t x ht => ?_) ?_ <;> try dsimp only) | split

theorem State.startWork_keeps {a₀ s : State} {gdp : Bool} {idx : Nat} {sub : Nat} {bs : List Byte} {a : ActIn} (hk : Keeps a₀ s) :
    Keeps a₀ (State.startWork s gdp idx sub bs a).1 := by
  unfold State.startWork
  try dsimp only
  repeat' first
    | with_reducible assumption | with_reducible refine State.restoreDefaults_keeps ?_
    | with_reducible refine State.clearSticky_keeps ?_ | with_reducible refine State.clearAllSticky_keeps ?_
    | with_reducible refine State.restartOchre_keeps ?_ | with_reducible refine State.spinUpNow_keeps ?_
    | with_reducible refine State.tryUnlock_keeps ?_ | with_reducible refine State.setPassword_keeps ?_
    | with_reducible refine State.relock_keeps ?_ | with_reducible refine State.computeEfficiency_keeps ?_
    | with_reducible refine State.beginQualification_keeps ?_ | with_reducible refine State.runFormat_keeps ?_
    | with_reducible refine State.spinDownUnparked_keeps ?_ | with_reducible refine State.clearLatches_keeps ?_
    | with_reducible refine State.startInjection_keeps ?_ | with_reducible refine State.transitionBegin_keeps ?_
    | with_reducible refine State.startTest_keeps ?_ | with_reducible refine State.startLoop_keeps ?_
    | with_reducible refine State.appendRecord_keeps ?_ | with_reducible refine Keeps.ite_ ?_ ?_
    | fail_if_no_progress with_reducible refine Keeps.mk_ ?_ rfl rfl | refine Keeps.of_eq (by assumption) ?_ | split

theorem State.rangeMark_keeps {a₀ s : State} {idx : Nat} {sub : Nat} {code : Nat} (hk : Keeps a₀ s) :
    Keeps a₀ (State.rangeMark s idx sub code) := by
  unfold State.rangeMark
  try dsimp only
  repeat' first
    | with_reducible assumption | with_reducible refine State.setDictNum_keeps ?_ | with_reducible refine Keeps.ite_ ?_ ?_

theorem State.dictWrite_keeps {a₀ s : State} {gdp : Bool} {idx : Nat} {sub : Nat} {bs : List Byte} {a : ActIn} (hk : Keeps a₀ s) :
    Keeps a₀ (State.dictWrite s gdp idx sub bs a).1 := by
  unfold State.dictWrite
  try dsimp only
  repeat' first
    | with_reducible assumption | with_reducible refine State.tellBlocked_keeps ?_
    | with_reducible refine State.rangeMark_keeps ?_ | with_reducible refine State.startWork_keeps ?_
    | with_reducible refine State.holdEntry_keeps ?_ | with_reducible refine Keeps.ite_ ?_ ?_ | split

theorem State.dictAfter_keeps {a₀ s : State} {idx : Nat} {sub : Nat} {bs : List Byte} {a : ActIn} (hk : Keeps a₀ s) :
    Keeps a₀ (State.dictAfter s idx sub bs a) := by
  unfold State.dictAfter
  try dsimp only
  repeat' first
    | with_reducible assumption | with_reducible refine State.transitionRun_keeps ?_
    | with_reducible refine State.testHold_keeps ?_ | split

theorem execRestoreDefaults_keeps {a₀ s : State} (hk : Keeps a₀ s) :
    ∃ u₀, (execRestoreDefaults s) = .next u₀ ∧ Keeps a₀ u₀ := by
  unfold execRestoreDefaults
  refine ⟨_, rfl, ?_⟩
  try dsimp only
  repeat' first
    | with_reducible assumption | with_reducible refine State.raise_keeps ?_
    | with_reducible refine State.restoreDefaults_keeps ?_ | with_reducible refine Keeps.ite_ ?_ ?_

theorem State.gdpSend_keeps {a₀ s : State} {bytes : List Byte} (hk : Keeps a₀ s) :
    Keeps a₀ (State.gdpSend s bytes) := by
  unfold State.gdpSend
  try dsimp only
  repeat' first
    | with_reducible assumption | with_reducible refine State.canSend_keeps ?_

theorem State.gdpRespond_keeps {a₀ s : State} {cmd : Nat} {tid : Nat} {idx : Nat} {sub : Nat} {status : Nat} {data : List Byte} (hk : Keeps a₀ s) :
    Keeps a₀ (State.gdpRespond s cmd tid idx sub status data) := by
  unfold State.gdpRespond
  try dsimp only
  repeat' first
    | with_reducible assumption | with_reducible refine State.gdpSend_keeps ?_

theorem State.gdpAck_keeps {a₀ s : State} {tid : Nat} {next : Nat} (hk : Keeps a₀ s) :
    Keeps a₀ (State.gdpAck s tid next) := by
  unfold State.gdpAck
  try dsimp only
  repeat' first
    | with_reducible assumption | with_reducible refine State.gdpSend_keeps ?_

theorem State.gdpAbort_keeps {a₀ s : State} {tid : Nat} {idx : Nat} {sub : Nat} {status : Nat} (hk : Keeps a₀ s) :
    Keeps a₀ (State.gdpAbort s tid idx sub status) := by
  unfold State.gdpAbort
  try dsimp only
  repeat' first
    | with_reducible assumption | with_reducible refine State.gdpRespond_keeps ?_

theorem State.gdpFrame_keeps {a₀ s : State} {cmd : Nat} {f : List Byte} {act : State → State} (hk : Keeps a₀ s)
 (ha : ∀ t, Keeps a₀ t → Keeps a₀ (act t)) : Keeps a₀ (State.gdpFrame s cmd f act) := by
  unfold State.gdpFrame
  try dsimp only
  repeat' first
    | with_reducible assumption | with_reducible refine ha _ ?_ | with_reducible refine State.bumpF_keeps ?_
    | with_reducible refine State.stat_keeps ?_ | with_reducible refine State.gdpRespond_keeps ?_
    | with_reducible refine Keeps.ite_ ?_ ?_

theorem execRead_keeps {a₀ s : State} {f : List Byte} (hk : Keeps a₀ s) :
    ∃ u₀, (execRead f s) = .next u₀ ∧ Keeps a₀ u₀ := by
  unfold execRead
  refine ⟨_, rfl, ?_⟩
  try dsimp only
  repeat' first
    | with_reducible assumption | (with_reducible refine State.gdpFrame_keeps ?_ (fun t ht => ?_) <;> try dsimp only)
    | with_reducible refine State.gdpRespond_keeps ?_ | with_reducible refine Keeps.ite_ ?_ ?_
    | refine Keeps.of_eq (by assumption) ?_ | split

theorem execWrite_keeps {a₀ s : State} {f : List Byte} {a : ActIn} (hk : Keeps a₀ s) :
    ∃ u₀, (execWrite f a s) = .next u₀ ∧ Keeps a₀ u₀ := by
  unfold execWrite
  refine ⟨_, rfl, ?_⟩
  try dsimp only
  repeat' first
    | with_reducible assumption | (with_reducible refine State.gdpFrame_keeps ?_ (fun t ht => ?_) <;> try dsimp only)
    | with_reducible refine State.gdpRespond_keeps ?_ | with_reducible refine State.dictWrite_keeps ?_
    | with_reducible refine State.dictAfter_keeps ?_ | with_reducible refine Keeps.ite_ ?_ ?_
    | refine Keeps.of_eq (by assumption) ?_ | split

theorem State.setSession_keeps {a₀ s : State} {x : Option GdpSession} (hk : Keeps a₀ s) :
    Keeps a₀ (State.setSession s x) := by
  unfold State.setSession
  try dsimp only
  repeat' first
    | with_reducible assumption | fail_if_no_progress with_reducible refine Keeps.mk_ ?_ rfl rfl

theorem State.abortSession_keeps {a₀ s : State} (hk : Keeps a₀ s) :
    Keeps a₀ (State.abortSession s) := by
  unfold State.abortSession
  try dsimp only
  repeat' first
    | with_reducible assumption | with_reducible refine State.setSession_keeps ?_ | with_reducible refine State.stat_keeps ?_

theorem State.sendSegments_keeps {a₀ s : State} {x : GdpSession} (hk : Keeps a₀ s) :
    Keeps a₀ (State.sendSegments s x) := by
  unfold State.sendSegments
  try dsimp only
  repeat' first
    | with_reducible assumption | with_reducible refine State.gdpSend_keeps ?_ | with_reducible refine State.setSession_keeps ?_
    | (with_reducible refine Keeps.foldl_ (fun t x ht => ?_) ?_ <;> try dsimp only)
    | fail_if_no_progress with_reducible refine Keeps.mk_ ?_ rfl rfl

theorem State.makeRoom_keeps {a₀ s : State} (hk : Keeps a₀ s) :
    Keeps a₀ (State.makeRoom s) := by
  unfold State.makeRoom
  try dsimp only
  repeat' first
    | with_reducible assumption | with_reducible refine State.abortSession_keeps ?_ | with_reducible refine Keeps.ite_ ?_ ?_

theorem execReadInit_keeps {a₀ s : State} {f : List Byte} (hk : Keeps a₀ s) :
    ∃ u₀, (execReadInit f s) = .next u₀ ∧ Keeps a₀ u₀ := by
  unfold execReadInit
  refine ⟨_, rfl, ?_⟩
  try dsimp only
  repeat' first
    | with_reducible assumption | (with_reducible refine State.gdpFrame_keeps ?_ (fun t ht => ?_) <;> try dsimp only)
    | with_reducible refine State.gdpRespond_keeps ?_ | with_reducible refine State.makeRoom_keeps ?_
    | with_reducible refine State.sendSegments_keeps ?_ | with_reducible refine Keeps.ite_ ?_ ?_
    | refine Keeps.of_eq (by assumption) ?_ | split

theorem State.finishWrite_keeps {a₀ s : State} {x : GdpSession} {a : ActIn} (hk : Keeps a₀ s) :
    Keeps a₀ (State.finishWrite s x a) := by
  unfold State.finishWrite
  try dsimp only
  repeat' first
    | with_reducible assumption | with_reducible refine State.setSession_keeps ?_
    | with_reducible refine State.dictWrite_keeps ?_ | with_reducible refine State.gdpRespond_keeps ?_
    | with_reducible refine State.dictAfter_keeps ?_ | with_reducible refine Keeps.ite_ ?_ ?_
    | refine Keeps.of_eq (by assumption) ?_ | split

theorem execWriteInit_keeps {a₀ s : State} {f : List Byte} {a : ActIn} (hk : Keeps a₀ s) :
    ∃ u₀, (execWriteInit f a s) = .next u₀ ∧ Keeps a₀ u₀ := by
  unfold execWriteInit
  refine ⟨_, rfl, ?_⟩
  try dsimp only
  repeat' first
    | with_reducible assumption | (with_reducible refine State.gdpFrame_keeps ?_ (fun t ht => ?_) <;> try dsimp only)
    | with_reducible refine State.gdpRespond_keeps ?_ | with_reducible refine State.makeRoom_keeps ?_
    | with_reducible refine State.tellBlocked_keeps ?_ | with_reducible refine State.finishWrite_keeps ?_
    | with_reducible refine State.setSession_keeps ?_ | with_reducible refine Keeps.ite_ ?_ ?_

theorem execSegment_keeps {a₀ s : State} {f : List Byte} {a : ActIn} (hk : Keeps a₀ s) :
    ∃ u₀, (execSegment f a s) = .next u₀ ∧ Keeps a₀ u₀ := by
  unfold execSegment
  refine ⟨_, rfl, ?_⟩
  try dsimp only
  repeat' first
    | with_reducible assumption | (with_reducible refine State.gdpFrame_keeps ?_ (fun t ht => ?_) <;> try dsimp only)
    | with_reducible refine State.gdpAbort_keeps ?_ | with_reducible refine State.abortSession_keeps ?_
    | with_reducible refine State.gdpAck_keeps ?_ | with_reducible refine State.setSession_keeps ?_
    | with_reducible refine State.finishWrite_keeps ?_ | with_reducible refine Keeps.ite_ ?_ ?_
    | fail_if_no_progress with_reducible refine Keeps.mk_ ?_ rfl rfl | split

theorem execSegAck_keeps {a₀ s : State} {f : List Byte} (hk : Keeps a₀ s) :
    ∃ u₀, (execSegAck f s) = .next u₀ ∧ Keeps a₀ u₀ := by
  unfold execSegAck
  refine ⟨_, rfl, ?_⟩
  try dsimp only
  repeat' first
    | with_reducible assumption | (with_reducible refine State.gdpFrame_keeps ?_ (fun t ht => ?_) <;> try dsimp only)
    | with_reducible refine State.gdpAbort_keeps ?_ | with_reducible refine State.abortSession_keeps ?_
    | with_reducible refine State.setSession_keeps ?_ | with_reducible refine State.sendSegments_keeps ?_
    | with_reducible refine Keeps.ite_ ?_ ?_ | fail_if_no_progress with_reducible refine Keeps.mk_ ?_ rfl rfl | split

theorem execGdpAbort_keeps {a₀ s : State} {f : List Byte} (hk : Keeps a₀ s) :
    ∃ u₀, (execGdpAbort f s) = .next u₀ ∧ Keeps a₀ u₀ := by
  unfold execGdpAbort
  refine ⟨_, rfl, ?_⟩
  try dsimp only
  repeat' first
    | with_reducible assumption | (with_reducible refine State.gdpFrame_keeps ?_ (fun t ht => ?_) <;> try dsimp only)
    | with_reducible refine State.abortSession_keeps ?_ | with_reducible refine Keeps.ite_ ?_ ?_ | split

theorem execKeep_keeps {a₀ s : State} {f : List Byte} (hk : Keeps a₀ s) :
    ∃ u₀, (execKeep f s) = .next u₀ ∧ Keeps a₀ u₀ := by
  unfold execKeep
  refine ⟨_, rfl, ?_⟩
  try dsimp only
  repeat' first
    | with_reducible assumption | (with_reducible refine State.gdpFrame_keeps ?_ (fun t ht => ?_) <;> try dsimp only)
    | with_reducible refine State.setSession_keeps ?_ | with_reducible refine State.gdpRespond_keeps ?_
    | with_reducible refine Keeps.ite_ ?_ ?_ | fail_if_no_progress with_reducible refine Keeps.mk_ ?_ rfl rfl | split

theorem execSessionTimeout_keeps {a₀ s : State} (hk : Keeps a₀ s) :
    ∃ u₀, (execSessionTimeout s) = .next u₀ ∧ Keeps a₀ u₀ := by
  unfold execSessionTimeout
  refine ⟨_, rfl, ?_⟩
  try dsimp only
  repeat' first
    | with_reducible assumption | with_reducible refine State.abortSession_keeps ?_
    | with_reducible refine State.gdpAbort_keeps ?_ | split

theorem execSegmentResend_keeps {a₀ s : State} (hk : Keeps a₀ s) :
    ∃ u₀, (execSegmentResend s) = .next u₀ ∧ Keeps a₀ u₀ := by
  unfold execSegmentResend
  refine ⟨_, rfl, ?_⟩
  try dsimp only
  repeat' first
    | with_reducible assumption | with_reducible refine State.sendSegments_keeps ?_ | with_reducible refine Keeps.ite_ ?_ ?_
    | fail_if_no_progress with_reducible refine Keeps.mk_ ?_ rfl rfl | split

theorem execBusOff_keeps {a₀ s : State} (hk : Keeps a₀ s) :
    ∃ u₀, (execBusOff s) = .next u₀ ∧ Keeps a₀ u₀ := by
  unfold execBusOff
  refine ⟨_, rfl, ?_⟩
  try dsimp only
  repeat' first
    | with_reducible assumption | with_reducible refine State.setF_keeps ?_ | with_reducible refine State.bumpF_keeps ?_
    | with_reducible refine State.raise_keeps ?_ | with_reducible refine Keeps.ite_ ?_ ?_

theorem execBusOffRecovery_keeps {a₀ s : State} (hk : Keeps a₀ s) :
    ∃ u₀, (execBusOffRecovery s) = .next u₀ ∧ Keeps a₀ u₀ := by
  unfold execBusOffRecovery
  refine ⟨_, rfl, ?_⟩
  try dsimp only
  repeat' first
    | with_reducible assumption | with_reducible refine State.setF_keeps ?_ | with_reducible refine State.canSend_keeps ?_
    | with_reducible refine Keeps.ite_ ?_ ?_ | (with_reducible refine Keeps.foldlP_ (fun t x ht => ?_) ?_ <;> try dsimp only)
    | (with_reducible refine Keeps.foldl_ (fun t x ht => ?_) ?_ <;> try dsimp only)
    | fail_if_no_progress with_reducible refine Keeps.mk_ ?_ rfl rfl

theorem execErrorPassiveTimeout_keeps {a₀ s : State} (hk : Keeps a₀ s) :
    ∃ u₀, (execErrorPassiveTimeout s) = .next u₀ ∧ Keeps a₀ u₀ := by
  unfold execErrorPassiveTimeout
  refine ⟨_, rfl, ?_⟩
  try dsimp only
  repeat' first
    | with_reducible assumption | with_reducible refine State.setF_keeps ?_ | with_reducible refine State.raise_keeps ?_
    | with_reducible refine Keeps.ite_ ?_ ?_

theorem State.countTurn_keeps {a₀ s : State} {q : Queue} {last : Bool} (hk : Keeps a₀ s) :
    Keeps a₀ (State.countTurn s q last) := by
  unfold State.countTurn
  try dsimp only
  repeat' first
    | with_reducible assumption | with_reducible refine Keeps.ite_ ?_ ?_
    | fail_if_no_progress with_reducible refine Keeps.mk_ ?_ rfl rfl

theorem State.fetchLine_keeps {a₀ s : State} {addr : Nat} (hk : Keeps a₀ s) :
    Keeps a₀ (State.fetchLine s addr) := by
  unfold State.fetchLine
  try dsimp only
  repeat' first
    | with_reducible assumption | with_reducible refine State.hccRead_keeps ?_ | with_reducible refine State.hccCount_keeps ?_
    | with_reducible refine Keeps.ite_ ?_ ?_ | fail_if_no_progress with_reducible refine Keeps.mk_ ?_ rfl rfl | split

theorem State.acceptEntry_keeps {a₀ s : State} {q : Queue} {e : List Byte} (hk : Keeps a₀ s) :
    Keeps a₀ (State.acceptEntry s q e) := by
  unfold State.acceptEntry
  try dsimp only
  repeat' first
    | with_reducible assumption | with_reducible refine State.setQueue_keeps ?_ | with_reducible refine State.countTurn_keeps ?_
    | with_reducible refine State.setSlots_keeps ?_ | with_reducible refine State.stat_keeps ?_
    | with_reducible refine State.complete_keeps ?_ | with_reducible refine Keeps.ite_ ?_ ?_
    | fail_if_no_progress with_reducible refine Keeps.mk_ ?_ rfl rfl

theorem State.rereadFor_keeps {a₀ s : State} {q : Queue} {tag : Nat} {head : Option Nat} (hk : Keeps a₀ s) :
    Keeps a₀ (State.rereadFor s q tag head) := by
  unfold State.rereadFor
  try dsimp only
  repeat' first
    | with_reducible assumption | with_reducible refine State.hccRead_keeps ?_ | with_reducible refine State.takeHead_keeps ?_
    | with_reducible refine State.raise_keeps ?_ | with_reducible refine Keeps.ite_ ?_ ?_ | split

theorem execEntryAccept_keeps {a₀ s : State} {entry : Option (List Byte)} {head : Option Nat} (hk : Keeps a₀ s) :
    ∃ u₀, (execEntryAccept entry head s) = .next u₀ ∧ Keeps a₀ u₀ := by
  unfold execEntryAccept
  try dsimp only
  repeat' first
    | with_reducible refine State.done_keeps ?_
    | with_reducible refine Keeps.next_ ?_ | with_reducible refine Keeps.iteR_ ?_ ?_
    | with_reducible assumption | with_reducible refine State.touchContext_keeps ?_
    | with_reducible refine State.fetchLine_keeps ?_ | with_reducible refine State.queueError_keeps ?_
    | with_reducible refine State.rereadFor_keeps ?_ | with_reducible refine State.acceptEntry_keeps ?_
    | with_reducible refine Keeps.ite_ ?_ ?_ | split

theorem execHeadWordReread_keeps {a₀ s : State} {ring : Option Nat} {head : Option Nat} (hk : Keeps a₀ s) :
    ∃ u₀, (execHeadWordReread ring head s) = .next u₀ ∧ Keeps a₀ u₀ := by
  unfold execHeadWordReread
  try dsimp only
  repeat' first
    | with_reducible refine State.done_keeps ?_
    | with_reducible refine Keeps.next_ ?_ | with_reducible refine Keeps.iteR_ ?_ ?_
    | with_reducible assumption | with_reducible refine State.raise_keeps ?_ | with_reducible refine State.hccRead_keeps ?_
    | with_reducible refine State.takeHead_keeps ?_ | with_reducible refine State.setRing_keeps ?_
    | with_reducible refine State.stat_keeps ?_ | with_reducible refine Keeps.ite_ ?_ ?_
    | fail_if_no_progress with_reducible refine Keeps.mk_ ?_ rfl rfl | split

theorem execRingFullTimeout_keeps {a₀ s : State} {ring : Nat} (hk : Keeps a₀ s) :
    ∃ u₀, (execRingFullTimeout ring s) = .next u₀ ∧ Keeps a₀ u₀ := by
  unfold execRingFullTimeout
  refine ⟨_, rfl, ?_⟩
  try dsimp only
  repeat' first
    | with_reducible assumption | with_reducible refine State.raise_keeps ?_ | with_reducible refine Keeps.ite_ ?_ ?_ | split

theorem execCoalescingTimeout_keeps {a₀ s : State} {g : Nat} (hk : Keeps a₀ s) :
    ∃ u₀, (execCoalescingTimeout g s) = .next u₀ ∧ Keeps a₀ u₀ := by
  unfold execCoalescingTimeout
  refine ⟨_, rfl, ?_⟩
  try dsimp only
  repeat' first
    | with_reducible assumption | with_reducible refine State.groupEvent_keeps ?_ | with_reducible refine Keeps.ite_ ?_ ?_

theorem execAdminQueueEnable_keeps {a₀ s : State} (hk : Keeps a₀ s) :
    ∃ u₀, (execAdminQueueEnable s) = .next u₀ ∧ Keeps a₀ u₀ := by
  unfold execAdminQueueEnable
  refine ⟨_, rfl, ?_⟩
  try dsimp only
  repeat' first
    | with_reducible assumption | with_reducible refine State.setF_keeps ?_ | with_reducible refine State.adminCreate_keeps ?_
    | with_reducible refine Keeps.ite_ ?_ ?_

theorem State.abortEntries_keeps {a₀ s0 : State} {qid : Nat} {base : Nat} {pos : Nat} {l : List (Option (List Byte))} (hk : Keeps a₀ s0) :
    Keeps a₀ (State.abortEntries s0 qid base pos l) := by
  induction l generalizing s0 pos with
  | nil =>
    unfold State.abortEntries
    try dsimp only
    repeat' first
      | with_reducible assumption | with_reducible refine State.fetchLine_keeps ?_
      | with_reducible refine State.setF_keeps ?_ | with_reducible refine State.raise_keeps ?_
      | with_reducible refine State.complete_keeps ?_ | with_reducible refine Keeps.ite_ ?_ ?_ | split
  | cons y_ l_ ih =>
    cases y_
    all_goals
      unfold State.abortEntries
      try dsimp only
      repeat' first
        | with_reducible assumption | with_reducible refine ih ?_ | with_reducible refine State.fetchLine_keeps ?_
        | with_reducible refine State.setF_keeps ?_ | with_reducible refine State.raise_keeps ?_
        | with_reducible refine State.complete_keeps ?_ | with_reducible refine Keeps.ite_ ?_ ?_ | split

theorem State.resetQueue_keeps {a₀ s : State} {q : Queue} {entries : List (Option (List Byte))} (hk : Keeps a₀ s) :
    Keeps a₀ (State.resetQueue s q entries) := by
  unfold State.resetQueue
  try dsimp only
  repeat' first
    | with_reducible assumption | with_reducible refine State.setQueue_keeps ?_
    | with_reducible refine State.cancelQueue_keeps ?_ | with_reducible refine State.abortEntries_keeps ?_
    | with_reducible refine Keeps.ite_ ?_ ?_ | fail_if_no_progress with_reducible refine Keeps.mk_ ?_ rfl rfl | split

theorem execAdminQueueDisable_keeps {a₀ s : State} {entries : List (Option (List Byte))} (hk : Keeps a₀ s) :
    ∃ u₀, (execAdminQueueDisable entries s) = .next u₀ ∧ Keeps a₀ u₀ := by
  unfold execAdminQueueDisable
  try dsimp only
  repeat' first
    | with_reducible refine State.done_keeps ?_
    | with_reducible refine Keeps.next_ ?_ | with_reducible refine Keeps.iteR_ ?_ ?_
    | with_reducible assumption | with_reducible refine State.setF_keeps ?_ | with_reducible refine State.resetQueue_keeps ?_
    | with_reducible refine Keeps.ite_ ?_ ?_ | split

theorem State.runAdmin_keeps {a₀ s : State} {x : Slot} {fields : Bool} {run : State → State × Nat} (hk : Keeps a₀ s)
 (ha : ∀ t, Keeps a₀ t → Keeps a₀ (run t).1) : ∃ u₀, (State.runAdmin s x fields run) = .next u₀ ∧ Keeps a₀ u₀ := by
  unfold State.runAdmin
  try dsimp only
  repeat' first
    | with_reducible assumption | with_reducible refine State.done_keeps ?_ | with_reducible refine Keeps.iteR_ ?_ ?_
    | with_reducible refine State.endWith_keeps ?_ | with_reducible refine State.complete_keeps ?_ | with_reducible refine ha _ ?_
    | with_reducible refine Keeps.next_ ?_ | refine Keeps.of_eq (by assumption) ?_ | split

theorem State.createQueue_keeps {a₀ s : State} {e : List Byte} (hk : Keeps a₀ s) :
    Keeps a₀ (State.createQueue s e).1 := by
  unfold State.createQueue
  try dsimp only
  repeat' first
    | with_reducible assumption | with_reducible refine State.setQueue_keeps ?_
    | with_reducible refine State.holdContext_keeps ?_ | with_reducible refine Keeps.ite_ ?_ ?_ | split

theorem execCreateQueue_keeps {a₀ s : State} {t : Nat} (hk : Keeps a₀ s) :
    ∃ u₀, (execCreateQueue t s) = .next u₀ ∧ Keeps a₀ u₀ := by
  unfold execCreateQueue
  try dsimp only
  repeat' first
    | (with_reducible refine State.runAdmin_keeps ?_ (fun t ht => ?_) <;> try dsimp only)
    | with_reducible refine Keeps.next_ ?_ | with_reducible refine Keeps.iteR_ ?_ ?_
    | with_reducible assumption | with_reducible refine State.createQueue_keeps ?_ | split

theorem State.beginReset_keeps {a₀ s : State} {x : Slot} {entries : List (Option (List Byte))} (hk : Keeps a₀ s) :
    ∃ u₀, (State.beginReset s x entries) = .next u₀ ∧ Keeps a₀ u₀ := by
  unfold State.beginReset
  try dsimp only
  repeat' first
    | with_reducible refine State.done_keeps ?_
    | with_reducible refine Keeps.next_ ?_ | with_reducible refine Keeps.iteR_ ?_ ?_
    | with_reducible assumption | with_reducible refine State.endWith_keeps ?_ | with_reducible refine State.setSlot_keeps ?_
    | with_reducible refine State.resetQueue_keeps ?_ | with_reducible refine Keeps.ite_ ?_ ?_
    | fail_if_no_progress with_reducible refine Keeps.mk_ ?_ rfl rfl | split

theorem execDeleteQueue_keeps {a₀ s : State} {t : Nat} {entries : List (Option (List Byte))} (hk : Keeps a₀ s) :
    ∃ u₀, (execDeleteQueue t entries s) = .next u₀ ∧ Keeps a₀ u₀ := by
  unfold execDeleteQueue
  try dsimp only
  repeat' first
    | with_reducible refine State.beginReset_keeps ?_
    | with_reducible refine Keeps.next_ ?_ | with_reducible refine Keeps.iteR_ ?_ ?_
    | with_reducible assumption | split

theorem execResetQueue_keeps {a₀ s : State} {t : Nat} {entries : List (Option (List Byte))} (hk : Keeps a₀ s) :
    ∃ u₀, (execResetQueue t entries s) = .next u₀ ∧ Keeps a₀ u₀ := by
  unfold execResetQueue
  try dsimp only
  repeat' first
    | with_reducible refine State.beginReset_keeps ?_
    | with_reducible refine Keeps.next_ ?_ | with_reducible refine Keeps.iteR_ ?_ ?_
    | with_reducible assumption | split

theorem State.createCring_keeps {a₀ s : State} {e : List Byte} (hk : Keeps a₀ s) :
    Keeps a₀ (State.createCring s e).1 := by
  unfold State.createCring
  try dsimp only
  repeat' first
    | with_reducible assumption | with_reducible refine State.setRing_keeps ?_ | with_reducible refine Keeps.ite_ ?_ ?_ | split

theorem execCreateCring_keeps {a₀ s : State} {t : Nat} (hk : Keeps a₀ s) :
    ∃ u₀, (execCreateCring t s) = .next u₀ ∧ Keeps a₀ u₀ := by
  unfold execCreateCring
  try dsimp only
  repeat' first
    | (with_reducible refine State.runAdmin_keeps ?_ (fun t ht => ?_) <;> try dsimp only)
    | with_reducible refine Keeps.next_ ?_ | with_reducible refine Keeps.iteR_ ?_ ?_
    | with_reducible assumption | with_reducible refine State.createCring_keeps ?_ | split

theorem State.deleteCring_keeps {a₀ s : State} {id : Nat} (hk : Keeps a₀ s) :
    Keeps a₀ (State.deleteCring s id).1 := by
  unfold State.deleteCring
  try dsimp only
  repeat' first
    | with_reducible assumption | with_reducible refine Keeps.ite_ ?_ ?_
    | fail_if_no_progress with_reducible refine Keeps.mk_ ?_ rfl rfl | split

theorem execDeleteCring_keeps {a₀ s : State} {t : Nat} (hk : Keeps a₀ s) :
    ∃ u₀, (execDeleteCring t s) = .next u₀ ∧ Keeps a₀ u₀ := by
  unfold execDeleteCring
  try dsimp only
  repeat' first
    | (with_reducible refine State.runAdmin_keeps ?_ (fun t ht => ?_) <;> try dsimp only)
    | with_reducible refine Keeps.next_ ?_ | with_reducible refine Keeps.iteR_ ?_ ?_
    | with_reducible assumption | with_reducible refine State.deleteCring_keeps ?_ | split

theorem State.leaveMailbox_keeps {a₀ s : State} {q : Queue} {tail : Option Nat} (hk : Keeps a₀ s) :
    Keeps a₀ (State.leaveMailbox s q tail) := by
  unfold State.leaveMailbox
  try dsimp only
  repeat' first
    | with_reducible assumption | with_reducible refine State.mailboxTail_keeps ?_ | with_reducible refine State.disarm_keeps ?_
    | split

theorem State.arm_keeps {a₀ s : State} {e : List Byte} {old : Option Nat} {new : Option Nat} (hk : Keeps a₀ s) :
    Keeps a₀ (State.arm s e old new).1 := by
  unfold State.arm
  try dsimp only
  repeat' first
    | with_reducible assumption | with_reducible refine State.leaveMailbox_keeps ?_
    | with_reducible refine State.placeMailbox_keeps ?_ | with_reducible refine State.setF_keeps ?_
    | with_reducible refine State.mailboxTail_keeps ?_ | with_reducible refine Keeps.ite_ ?_ ?_ | split

theorem execArm_keeps {a₀ s : State} {t : Nat} {old : Option Nat} {new : Option Nat} (hk : Keeps a₀ s) :
    ∃ u₀, (execArm t old new s) = .next u₀ ∧ Keeps a₀ u₀ := by
  unfold execArm
  try dsimp only
  repeat' first
    | (with_reducible refine State.runAdmin_keeps ?_ (fun t ht => ?_) <;> try dsimp only)
    | with_reducible refine Keeps.next_ ?_ | with_reducible refine Keeps.iteR_ ?_ ?_
    | with_reducible assumption | with_reducible refine State.arm_keeps ?_ | split

theorem execDisarm_keeps {a₀ s : State} {t : Nat} {tail : Option Nat} (hk : Keeps a₀ s) :
    ∃ u₀, (execDisarm t tail s) = .next u₀ ∧ Keeps a₀ u₀ := by
  unfold execDisarm
  try dsimp only
  repeat' first
    | (with_reducible refine State.runAdmin_keeps ?_ (fun t ht => ?_) <;> try dsimp only)
    | with_reducible refine Keeps.next_ ?_ | with_reducible refine Keeps.iteR_ ?_ ?_
    | with_reducible assumption | with_reducible refine State.leaveMailbox_keeps ?_ | with_reducible refine Keeps.ite_ ?_ ?_
    | split

theorem State.eventRing_keeps {a₀ s : State} {e : List Byte} (hk : Keeps a₀ s) :
    Keeps a₀ (State.eventRing s e).1 := by
  unfold State.eventRing
  try dsimp only
  repeat' first
    | with_reducible assumption | with_reducible refine Keeps.ite_ ?_ ?_
    | fail_if_no_progress with_reducible refine Keeps.mk_ ?_ rfl rfl | split

theorem execEventRingSetup_keeps {a₀ s : State} {t : Nat} (hk : Keeps a₀ s) :
    ∃ u₀, (execEventRingSetup t s) = .next u₀ ∧ Keeps a₀ u₀ := by
  unfold execEventRingSetup
  try dsimp only
  repeat' first
    | (with_reducible refine State.runAdmin_keeps ?_ (fun t ht => ?_) <;> try dsimp only)
    | with_reducible refine Keeps.next_ ?_ | with_reducible refine Keeps.iteR_ ?_ ?_
    | with_reducible assumption | with_reducible refine State.eventRing_keeps ?_ | split

theorem execAbort_keeps {a₀ s : State} {q : Nat} {t : Nat} (hk : Keeps a₀ s) :
    ∃ u₀, (execAbort q t s) = .next u₀ ∧ Keeps a₀ u₀ := by
  unfold execAbort
  try dsimp only
  repeat' first
    | with_reducible refine State.done_keeps ?_
    | with_reducible refine Keeps.next_ ?_ | with_reducible refine Keeps.iteR_ ?_ ?_
    | with_reducible assumption | with_reducible refine State.endWith_keeps ?_ | with_reducible refine State.setSlot_keeps ?_
    | with_reducible refine Keeps.ite_ ?_ ?_ | fail_if_no_progress with_reducible refine Keeps.mk_ ?_ rfl rfl | split

theorem State.abortTarget_keeps {a₀ s : State} {x : Slot} {y : Slot} (hk : Keeps a₀ s) :
    Keeps a₀ (State.abortTarget s x y) := by
  unfold State.abortTarget
  try dsimp only
  repeat' first
    | with_reducible assumption | with_reducible refine State.setSlot_keeps ?_ | with_reducible refine State.migAbort_keeps ?_
    | with_reducible refine State.cancelSlot_keeps ?_ | with_reducible refine State.dropStaleMig_keeps ?_
    | with_reducible refine Keeps.ite_ ?_ ?_ | fail_if_no_progress with_reducible refine Keeps.mk_ ?_ rfl rfl

theorem State.abortEnds_keeps {a₀ s : State} {x : Slot} (hk : Keeps a₀ s) :
    Keeps a₀ (State.abortEnds s x) := by
  unfold State.abortEnds
  try dsimp only
  repeat' first
    | with_reducible assumption | with_reducible refine State.endWith_keeps ?_ | with_reducible refine Keeps.ite_ ?_ ?_

theorem State.abortResolve_keeps {a₀ s : State} {x : Slot} (hk : Keeps a₀ s) :
    Keeps a₀ (State.abortResolve s x) := by
  unfold State.abortResolve
  try dsimp only
  repeat' first
    | with_reducible assumption | with_reducible refine State.endWith_keeps ?_ | with_reducible refine State.setSlot_keeps ?_
    | with_reducible refine State.abortTarget_keeps ?_ | with_reducible refine State.abortEnds_keeps ?_
    | with_reducible refine Keeps.ite_ ?_ ?_ | fail_if_no_progress with_reducible refine Keeps.mk_ ?_ rfl rfl | split

theorem execAbortResolve_keeps {a₀ s : State} {q : Nat} {t : Nat} (hk : Keeps a₀ s) :
    ∃ u₀, (execAbortResolve q t s) = .next u₀ ∧ Keeps a₀ u₀ := by
  unfold execAbortResolve
  try dsimp only
  repeat' first
    | with_reducible refine State.done_keeps ?_
    | with_reducible refine Keeps.next_ ?_ | with_reducible refine Keeps.iteR_ ?_ ?_
    | with_reducible assumption | with_reducible refine State.abortResolve_keeps ?_
    | with_reducible refine State.abortEnds_keeps ?_ | with_reducible refine Keeps.ite_ ?_ ?_ | split

theorem execIdentify_keeps {a₀ s : State} {t : Nat} {h : HostData} (hk : Keeps a₀ s) :
    ∃ u₀, (execIdentify t h s) = .next u₀ ∧ Keeps a₀ u₀ := by
  unfold execIdentify
  try dsimp only
  repeat' first
    | with_reducible refine State.done_keeps ?_
    | with_reducible refine Keeps.next_ ?_ | with_reducible refine Keeps.iteR_ ?_ ?_
    | with_reducible assumption | with_reducible refine State.endWith_keeps ?_
    | with_reducible refine State.writeBuffer_keeps ?_ | with_reducible refine State.charge_keeps ?_
    | with_reducible refine Keeps.ite_ ?_ ?_ | split

theorem execDictRead_keeps {a₀ s : State} {t : Nat} {h : HostData} (hk : Keeps a₀ s) :
    ∃ u₀, (execDictRead t h s) = .next u₀ ∧ Keeps a₀ u₀ := by
  unfold execDictRead
  try dsimp only
  repeat' first
    | with_reducible refine State.done_keeps ?_
    | with_reducible refine Keeps.next_ ?_ | with_reducible refine Keeps.iteR_ ?_ ?_
    | with_reducible assumption | with_reducible refine State.endWith_keeps ?_
    | with_reducible refine State.writeBuffer_keeps ?_ | with_reducible refine State.complete_keeps ?_
    | with_reducible refine Keeps.ite_ ?_ ?_ | refine Keeps.of_eq (by assumption) ?_ | split

theorem execDictWrite_keeps {a₀ s : State} {t : Nat} {h : HostData} {a : ActIn} (hk : Keeps a₀ s) :
    ∃ u₀, (execDictWrite t h a s) = .next u₀ ∧ Keeps a₀ u₀ := by
  unfold execDictWrite
  try dsimp only
  repeat' first
    | with_reducible refine State.done_keeps ?_
    | with_reducible refine Keeps.next_ ?_ | with_reducible refine Keeps.iteR_ ?_ ?_
    | with_reducible assumption | with_reducible refine State.endWith_keeps ?_
    | with_reducible refine State.obtainPieces_keeps ?_ | with_reducible refine State.dictWrite_keeps ?_
    | with_reducible refine State.settleResets_keeps ?_ | with_reducible refine State.dictAfter_keeps ?_
    | with_reducible refine Keeps.ite_ ?_ ?_ | refine Keeps.of_eq (by assumption) ?_ | split

theorem State.downloadBlocks_keeps {a₀ s : State} {map : List Nat} {off : Nat} {data : List Byte} {fail : Option (Nat × Bool)} {l : List Nat} (hk : Keeps a₀ s) :
    Keeps a₀ (State.downloadBlocks s map off data fail l).1 := by
  induction l generalizing s with
  | nil =>
    unfold State.downloadBlocks
    try dsimp only
    repeat' first
      | with_reducible assumption | with_reducible refine State.flashFails_keeps ?_
      | with_reducible refine State.blockErased_keeps ?_ | with_reducible refine State.stat_keeps ?_
      | with_reducible refine State.programUnits_keeps ?_ | with_reducible refine Keeps.ite_ ?_ ?_ | split
  | cons y_ l_ ih =>
    unfold State.downloadBlocks
    try dsimp only
    repeat' first
      | with_reducible assumption | with_reducible refine ih ?_ | with_reducible refine State.flashFails_keeps ?_
      | with_reducible refine State.blockErased_keeps ?_ | with_reducible refine State.stat_keeps ?_
      | with_reducible refine State.programUnits_keeps ?_ | with_reducible refine Keeps.ite_ ?_ ?_ | split

theorem State.downloadBegins_keeps {a₀ s : State} {bank : Nat} {fail : Option (Nat × Bool)} (hk : Keeps a₀ s) :
    Keeps a₀ (State.downloadBegins s bank fail).1 := by
  unfold State.downloadBegins
  try dsimp only
  repeat' first
    | with_reducible assumption | with_reducible refine State.setBootRec_keeps ?_
    | with_reducible refine State.flashFails_keeps ?_ | with_reducible refine State.blockErased_keeps ?_
    | with_reducible refine State.stat_keeps ?_ | with_reducible refine Keeps.ite_ ?_ ?_
    | fail_if_no_progress with_reducible refine Keeps.mk_ ?_ rfl rfl | split

theorem State.fwDownload_keeps {a₀ s : State} {off : Nat} {data : List Byte} {fail : Option (Nat × Bool)} (hk : Keeps a₀ s) :
    Keeps a₀ (State.fwDownload s off data fail).1 := by
  unfold State.fwDownload
  try dsimp only
  repeat' first
    | with_reducible assumption | with_reducible refine State.downloadBegins_keeps ?_
    | with_reducible refine State.downloadBlocks_keeps ?_ | with_reducible refine Keeps.ite_ ?_ ?_
    | fail_if_no_progress with_reducible refine Keeps.mk_ ?_ rfl rfl | refine Keeps.of_eq (by assumption) ?_ | split

theorem execFwDownload_keeps {a₀ s : State} {t : Nat} {h : HostData} {fail : Option (Nat × Bool)} (hk : Keeps a₀ s) :
    ∃ u₀, (execFwDownload t h fail s) = .next u₀ ∧ Keeps a₀ u₀ := by
  unfold execFwDownload
  try dsimp only
  repeat' first
    | with_reducible refine State.done_keeps ?_
    | with_reducible refine Keeps.next_ ?_ | with_reducible refine Keeps.iteR_ ?_ ?_
    | with_reducible assumption | with_reducible refine State.endWith_keeps ?_
    | with_reducible refine State.obtainPieces_keeps ?_ | with_reducible refine State.fwDownload_keeps ?_
    | with_reducible refine Keeps.ite_ ?_ ?_ | refine Keeps.of_eq (by assumption) ?_ | split

theorem State.writeCommit_keeps {a₀ s : State} {i : Image} {programOk : Bool} (hk : Keeps a₀ s) :
    Keeps a₀ (State.writeCommit s i programOk).1 := by
  unfold State.writeCommit
  try dsimp only
  repeat' first
    | with_reducible assumption | with_reducible refine State.flashFails_keeps ?_
    | with_reducible refine State.programUnits_keeps ?_ | with_reducible refine State.stat_keeps ?_
    | with_reducible refine State.setImage_keeps ?_ | with_reducible refine Keeps.ite_ ?_ ?_
    | fail_if_no_progress with_reducible refine Keeps.mk_ ?_ rfl rfl | split

theorem State.fwCommit_keeps {a₀ s : State} {x : Slot} {act : Nat} {verifies : Bool} {programOk : Bool} (hk : Keeps a₀ s) :
    Keeps a₀ (State.fwCommit s x act verifies programOk) := by
  unfold State.fwCommit
  try dsimp only
  repeat' first
    | with_reducible assumption | with_reducible refine State.endWith_keeps ?_
    | with_reducible refine State.writeCommit_keeps ?_ | with_reducible refine State.setBootRec_keeps ?_
    | with_reducible refine State.event_keeps ?_ | with_reducible refine State.complete_keeps ?_
    | with_reducible refine Keeps.ite_ ?_ ?_ | fail_if_no_progress with_reducible refine Keeps.mk_ ?_ rfl rfl
    | refine Keeps.of_eq (by assumption) ?_ | split

theorem execFwCommit_keeps {a₀ s : State} {t : Nat} {verifies : Bool} {programOk : Bool} (hk : Keeps a₀ s) :
    ∃ u₀, (execFwCommit t verifies programOk s) = .next u₀ ∧ Keeps a₀ u₀ := by
  unfold execFwCommit
  try dsimp only
  repeat' first
    | with_reducible refine State.done_keeps ?_
    | with_reducible refine Keeps.next_ ?_ | with_reducible refine Keeps.iteR_ ?_ ?_
    | with_reducible assumption | with_reducible refine State.endWith_keeps ?_ | with_reducible refine State.fwCommit_keeps ?_
    | with_reducible refine Keeps.ite_ ?_ ?_ | split

theorem execFwCommitTrial_keeps {a₀ s : State} {t : Nat} {verifies : Bool} {programOk : Bool} (hk : Keeps a₀ s) :
    ∃ u₀, (execFwCommitTrial t verifies programOk s) = .next u₀ ∧ Keeps a₀ u₀ := by
  unfold execFwCommitTrial
  try dsimp only
  repeat' first
    | with_reducible refine State.done_keeps ?_
    | with_reducible refine Keeps.next_ ?_ | with_reducible refine Keeps.iteR_ ?_ ?_
    | with_reducible assumption | with_reducible refine State.endWith_keeps ?_ | with_reducible refine State.fwCommit_keeps ?_
    | with_reducible refine Keeps.ite_ ?_ ?_ | split

theorem State.writeLoader_keeps {a₀ s : State} {first : Nat} {l : List (List Byte)} (hk : Keeps a₀ s) :
    Keeps a₀ (State.writeLoader s first l) := by
  unfold State.writeLoader
  try dsimp only
  repeat' first
    | with_reducible assumption | with_reducible refine State.blockErased_keeps ?_ | with_reducible refine State.stat_keeps ?_
    | with_reducible refine State.programUnits_keeps ?_
    | (with_reducible refine Keeps.foldl_ (fun t x ht => ?_) ?_ <;> try dsimp only)

theorem execFwCommitBootLoader_keeps {a₀ s : State} {t : Nat} {verifies : Bool} (hk : Keeps a₀ s) :
    ∃ u₀, (execFwCommitBootLoader t verifies s) = .next u₀ ∧ Keeps a₀ u₀ := by
  unfold execFwCommitBootLoader
  try dsimp only
  repeat' first
    | with_reducible refine State.done_keeps ?_
    | with_reducible refine Keeps.next_ ?_ | with_reducible refine Keeps.iteR_ ?_ ?_
    | with_reducible assumption | with_reducible refine State.endWith_keeps ?_
    | with_reducible refine State.writeLoader_keeps ?_ | with_reducible refine State.event_keeps ?_
    | with_reducible refine State.complete_keeps ?_ | with_reducible refine Keeps.ite_ ?_ ?_
    | fail_if_no_progress with_reducible refine Keeps.mk_ ?_ rfl rfl | split

theorem execFwActivate_keeps {a₀ s : State} {t : Nat} (hk : Keeps a₀ s) :
    ∃ u₀, (execFwActivate t s) = .next u₀ ∧ Keeps a₀ u₀ := by
  unfold execFwActivate
  try dsimp only
  repeat' first
    | with_reducible refine State.done_keeps ?_
    | with_reducible refine Keeps.next_ ?_ | with_reducible refine Keeps.iteR_ ?_ ?_
    | with_reducible assumption | with_reducible refine State.endWith_keeps ?_ | with_reducible refine State.setSlot_keeps ?_
    | with_reducible refine Keeps.ite_ ?_ ?_ | fail_if_no_progress with_reducible refine Keeps.mk_ ?_ rfl rfl | split

theorem State.flushed_keeps {a₀ s : State} (hk : Keeps a₀ s) :
    Keeps a₀ (State.flushed s) := by
  unfold State.flushed
  try dsimp only
  repeat' first
    | with_reducible assumption | with_reducible refine State.closeStripes_keeps ?_

theorem execActivationFetchStop_keeps {a₀ s : State} (hk : Keeps a₀ s) :
    ∃ u₀, (execActivationFetchStop s) = .next u₀ ∧ Keeps a₀ u₀ := by
  unfold execActivationFetchStop
  refine ⟨_, rfl, ?_⟩
  try dsimp only
  repeat' first
    | with_reducible assumption | with_reducible refine State.flushed_keeps ?_ | with_reducible refine State.setF_keeps ?_
    | with_reducible refine State.event_keeps ?_ | with_reducible refine State.migSuspend_keeps ?_
    | with_reducible refine Keeps.ite_ ?_ ?_ | fail_if_no_progress with_reducible refine Keeps.mk_ ?_ rfl rfl | split

theorem execActivationSwitch_keeps {a₀ s : State} (hk : Keeps a₀ s) :
    ∃ u₀, (execActivationSwitch s) = .next u₀ ∧ Keeps a₀ u₀ := by
  unfold execActivationSwitch
  try dsimp only
  repeat' first
    | with_reducible refine State.done_keeps ?_
    | with_reducible refine Keeps.next_ ?_ | with_reducible refine Keeps.iteR_ ?_ ?_
    | with_reducible assumption | with_reducible refine State.flushed_keeps ?_
    | with_reducible refine State.switchImages_keeps ?_ | with_reducible refine State.setF_keeps ?_
    | with_reducible refine State.migResume_keeps ?_ | with_reducible refine State.event_keeps ?_
    | with_reducible refine State.complete_keeps ?_ | with_reducible refine Keeps.ite_ ?_ ?_
    | fail_if_no_progress with_reducible refine Keeps.mk_ ?_ rfl rfl | split

theorem execTrialConfirm_keeps {a₀ s : State} (hk : Keeps a₀ s) :
    ∃ u₀, (execTrialConfirm s) = .next u₀ ∧ Keeps a₀ u₀ := by
  unfold execTrialConfirm
  try dsimp only
  repeat' first
    | with_reducible refine Keeps.next_ ?_ | with_reducible refine Keeps.iteR_ ?_ ?_
    | with_reducible assumption | with_reducible refine State.confirmTrial_keeps ?_
    | split

theorem State.clearRead_keeps {a₀ s : State} {a : Nat} (hk : Keeps a₀ s) :
    Keeps a₀ (State.clearRead s a) := by
  unfold State.clearRead
  try dsimp only
  repeat' first
    | with_reducible assumption | with_reducible refine State.setF_keeps ?_ | with_reducible refine Keeps.ite_ ?_ ?_
    | (with_reducible refine Keeps.foldl_ (fun t x ht => ?_) ?_ <;> try dsimp only) | split

theorem execRcRegisterRead_keeps {a₀ s : State} {bar : Nat} {off : Nat} {width : Nat} (hk : Keeps a₀ s) :
    ∃ u₀, (execRcRegisterRead bar off width s) = .next u₀ ∧ Keeps a₀ u₀ := by
  unfold execRcRegisterRead
  refine ⟨_, rfl, ?_⟩
  try dsimp only
  repeat' first
    | with_reducible assumption | with_reducible refine State.emit_keeps ?_ | with_reducible refine State.clearRead_keeps ?_
    | with_reducible refine Keeps.ite_ ?_ ?_ | (with_reducible refine Keeps.foldlP_ (fun t x ht => ?_) ?_ <;> try dsimp only)
    | (with_reducible refine Keeps.foldl_ (fun t x ht => ?_) ?_ <;> try dsimp only)

theorem State.ownWritten_keeps {a₀ s : State} {a : Nat} (hk : Keeps a₀ s) :
    Keeps a₀ (State.ownWritten s a) := by
  unfold State.ownWritten
  try dsimp only
  repeat' first
    | with_reducible assumption | with_reducible refine State.setChn_keeps ?_ | with_reducible refine State.setPre_keeps ?_
    | with_reducible refine Keeps.ite_ ?_ ?_ | fail_if_no_progress with_reducible refine Keeps.mk_ ?_ rfl rfl

theorem State.writeFields_keeps {a₀ s : State} {r : RegRow} {a : Nat} {v : Word} (hk : Keeps a₀ s) :
    Keeps a₀ (State.writeFields s r a v) := by
  unfold State.writeFields
  try dsimp only
  repeat' first
    | with_reducible assumption | with_reducible refine State.ownWritten_keeps ?_ | with_reducible refine State.setReg_keeps ?_
    | (with_reducible refine Keeps.foldl_ (fun t x ht => ?_) ?_ <;> try dsimp only)

theorem State.writeReg_keeps {a₀ s : State} {a : Nat} {v : Word} (hk : Keeps a₀ s) :
    Keeps a₀ (State.writeReg s a v) := by
  unfold State.writeReg
  try dsimp only
  repeat' first
    | with_reducible assumption | with_reducible refine State.componentWrite_keeps ?_
    | with_reducible refine State.clearSticky_keeps ?_ | with_reducible refine State.writeFields_keeps ?_
    | with_reducible refine Keeps.ite_ ?_ ?_ | (with_reducible refine Keeps.foldl_ (fun t x ht => ?_) ?_ <;> try dsimp only)
    | fail_if_no_progress with_reducible refine Keeps.mk_ ?_ rfl rfl | split

theorem State.writeBar4_keeps {a₀ s : State} {off : Nat} {v : Nat} (hk : Keeps a₀ s) :
    Keeps a₀ (State.writeBar4 s off v) := by
  unfold State.writeBar4
  try dsimp only
  repeat' first
    | with_reducible assumption | with_reducible refine State.flushVectors_keeps ?_ | with_reducible refine Keeps.ite_ ?_ ?_
    | fail_if_no_progress with_reducible refine Keeps.mk_ ?_ rfl rfl | split

theorem execRegisterWrite_keeps {a₀ s : State} {bar : Nat} {off : Nat} {width : Nat} {data : Nat} (hk : Keeps a₀ s) :
    ∃ u₀, (execRegisterWrite bar off width data s) = .next u₀ ∧ Keeps a₀ u₀ := by
  unfold execRegisterWrite
  refine ⟨_, rfl, ?_⟩
  try dsimp only
  repeat' first
    | with_reducible assumption | with_reducible refine State.emit_keeps ?_ | with_reducible refine State.writeReg_keeps ?_
    | with_reducible refine State.writeBar4_keeps ?_ | with_reducible refine Keeps.ite_ ?_ ?_
    | (with_reducible refine Keeps.foldlP_ (fun t x ht => ?_) ?_ <;> try dsimp only)
    | (with_reducible refine Keeps.foldl_ (fun t x ht => ?_) ?_ <;> try dsimp only)

theorem State.accumulate_keeps {a₀ s : State} {c : FieldRef × Nat × Nat} (hk : Keeps a₀ s) :
    Keeps a₀ (State.accumulate s c) := by
  unfold State.accumulate
  try dsimp only
  repeat' first
    | with_reducible assumption | with_reducible refine State.setF_keeps ?_ | with_reducible refine State.stat_keeps ?_
    | with_reducible refine Keeps.ite_ ?_ ?_

theorem execCounterAccumulate_keeps {a₀ s : State} {links : Nat × Nat × Nat × Nat} (hk : Keeps a₀ s) :
    ∃ u₀, (execCounterAccumulate links s) = .next u₀ ∧ Keeps a₀ u₀ := by
  unfold execCounterAccumulate
  refine ⟨_, rfl, ?_⟩
  try dsimp only
  repeat' first
    | with_reducible assumption | with_reducible refine State.bumpF_keeps ?_ | with_reducible refine State.raise_keeps ?_
    | with_reducible refine State.accumulate_keeps ?_ | with_reducible refine Keeps.ite_ ?_ ?_
    | (with_reducible refine Keeps.foldlP_ (fun t x ht => ?_) ?_ <;> try dsimp only)
    | (with_reducible refine Keeps.foldl_ (fun t x ht => ?_) ?_ <;> try dsimp only)
    | fail_if_no_progress with_reducible refine Keeps.mk_ ?_ rfl rfl

theorem DictWf.putAll (g : Bool) (l m : List (Nat × List Byte)) (hl : ∀ p ∈ l, entryDefault g p.1 ≠ some p.2) (h : DictWf g m) :
    DictWf g (l.foldl (fun m p => Assoc.put m p.1 p.2) m) := by
  induction l generalizing m with
  | nil => exact h
  | cons x l ih =>
    refine ih _ (fun p hp => hl p (.tail _ hp)) ⟨Assoc.rising_put _ _ _ h.1, fun p hp => ?_⟩
    rcases Assoc.mem_put _ _ _ _ hp with h1 | h1
    · rw [h1]; exact hl x (.head _)
    · exact h.2 p h1

theorem execStatisticsStore_keeps {a₀ s : State} (hk : Keeps a₀ s) :
    ∃ u₀, (execStatisticsStore s) = .next u₀ ∧ Keeps a₀ u₀ := by
  unfold execStatisticsStore
  refine ⟨_, rfl, ?_⟩
  refine Keeps.ite_ hk (hk.bank3_ (fun hd hb => DictWf.putAll _ _ _ (fun p hp => ?_) (DictWf.filter _ _ _ hb)))
  exact hd.2 p (List.mem_of_mem_filter hp)

end Sys2Proof.Machine
end

