-- ==== Sys2Proof/WellFormed.lean ====
section
/-!
DEFINITION. Which commands are well formed: operands within the ranges that the spec gives the numbers they stand for. `exec` has a
meaning for every command all the same.
-/
namespace Sys2Proof
open Sys2Proof.Machine

/-- A command slot of an I/O queue: queue number 1 to 2^20 − 1, tag 0 to 31 (R417, R421). -/
def ioTag (q t : Nat) : Bool := 1 ≤ q && q < 1048576 && t < 32

/-- A pairing slot: 1 to 16 (R542). -/
def pairSlot (p : Nat) : Bool := 1 ≤ p && p ≤ 16

/-- A datagram as the port can receive it: 16-byte addresses, a 16-bit port, at most 4,180 bytes behind the UDP header (R543, R554). -/
def dgramFits (d : Dgram) : Bool := d.src.length = 16 && d.dst.length = 16 && d.port < 65536 && d.bytes.length ≤ 4180

/-- A wedge as the demodulator takes it: 22 dibits of track id, 10 of wedge id and parity, 12 of runout with its parity and 0 bit
(R274 to R279). -/
def wedgeFits (w : WedgeData) : Bool :=
  w.tid.length = 22 && w.wid.length = 10 && w.rro.length = 12 && w.marks.all (fun m => m.2 < 1024)

/-- A captured sector: samples of three readers in each part, soft values as the mark search takes them (R165, R168, R179). -/
def captureFits (c : Capture) : Bool :=
  c.pieces.all (fun p => p.length = 3) && c.soft.all (fun y => y.natAbs ≤ 15) && c.gain < 128

/-- Well-formedness of a command, one arm per constructor. -/
def Instr.wf (i : Instr) : Bool :=
  match i with
  | .supplyGood _ _ _ _ => true
  | .supplyLost _ _ => true
  | .vddAoPowerOn _ => true
  | .porstNLow => true
  | .porstNRelease _ => true
  | .slateDeadline => true
  | .slateComplete => true
  | .pwrGoodFall => true
  | .railOutOfRange src => 448 ≤ src && src ≤ 456
  | .supplyRestored _ => true
  | .rootReferenceLoss => true
  | .rootReferenceReturn _ => true
  | .rstreqWarm _ => true
  | .rstreqBuffer _ => true
  | .rstreqHost => true
  | .rstreqObject => true
  | .rstreqMedia0 _ => true
  | .rstreqMedia1 _ => true
  | .rstreqMotion => true
  | .mediaServiceTimeout k => k < 2
  | .beacon _ _ _ _ => true
  | .beaconDrop => true
  | .spinUpDelayEnd => true
  | .spinUpNow => true
  | .ochreStart _ => true
  | .ochreDeadline => true
  | .ochreRetry _ => true
  | .restartOchre => true
  | .cobalt _ stale _ => stale.all (· < 24)
  | .d2dFlitReceive _ _ => true
  | .d2dResendLimit => true
  | .d2dLinkTimeout => true
  | .d2dLinkUp => true
  | .clockMonitorGate out gated => out.all (· < 112) && gated.all (· < 112)
  | .referenceDeviation => true
  | .tintPeriod _ upset => match upset with | some x => decide (x.1 < 16) | none => true
  | .floorRecompute k _ => k < 2
  | .coreWindow => true
  | .hostShareSwitch c _ _ => c < 2
  | .migrationCap _ => true
  | .sectorWrite k cut => k < 2 && (match cut with | some x => decide (x.1 < 13) | none => true)
  | .journalRecordWrite k cuts => k < 2 && cuts.all (· < 13)
  | .journalResume k => k < 2
  | .checkpoint cut => match cut with | some x => x.2.all (· < 13) | none => true
  | .reallocation _ _ cuts => cuts.all (· < 13)
  | .sectorRead k _ kind cap _ _ => k < 2 && (kind = 0 || kind = 3 || kind = 4) && captureFits cap
  | .decodeComplete n _ => n < 4
  | .spillDrainDone n => n < 4
  | .decodeOvertime n => n < 4
  | .sampleCopyDone k => k < 2
  | .recoveryStepEnd _ _ _ cap => match cap with | some c => captureFits c | none => true
  | .recoveryLimit _ => true
  | .scrubRead k _ _ cap cuts => k < 2 && captureFits cap && cuts.all (· < 13)
  | .scrubRecheck _ _ _ cap cuts => captureFits cap && cuts.all (· < 13)
  | .scrubPositionStore => true
  | .computeEfficiency => true
  | .startQualification _ => true
  | .qualificationRateResult h z _ _ _ => h < 24 && z < 64
  | .formatDrive id => id.length = 16
  | .gateMonitorMismatch k => k < 2
  | .writeInhibit k bit => k < 2 && bit ≤ 12
  | .inhibitRelease k => k < 2
  | .writeRetriesExhausted k => k < 2
  | .preampFault k fault _ => k < 2 && fault < 256
  | .preScmdGo k _ addr dat _ _ => k < 2 && addr < 128 && dat < 256
  | .headSwitch k head _ _ => k < 2 && head < 12
  | .headSwitchSettle k => k < 2
  | .servoWedge k w _ _ => k < 2 && wedgeFits w
  | .wedgePredicted k _ _ => k < 2
  | .wedgeSequenceLost k => k < 2
  | .reacquireTimeout k => k < 2
  | .cleOverrun k => k < 2
  | .srvTargetWrite k _ => k < 2
  | .cleLoopEnable l => l < 9
  | .headLoad k ws _ _ => k < 2 && ws.all wedgeFits
  | .loadNoLock k _ => k < 2
  | .runoutLearnTimeout h => h < 24
  | .injectionStart => true
  | .captureComplete => true
  | .pwmPeriod _ isamp emf angle _ => isamp.length = 3 && emf.length = 2 && angle < 65536
  | .dutySetLoss => true
  | .sampleShiftTimeout => true
  | .speedLoop _ _ _ => true
  | .standstillStartTimeout => true
  | .bemfZeroCrossing _ c => c < 6
  | .catchTimeout => true
  | .lossOfSynchronism _ _ _ => true
  | .spinDownUnparked => true
  | .spindleStopped _ => true
  | .vbusAbove13v8 _ => true
  | .vbusBelow13v6 _ => true
  | .vbusAbove14v2 _ => true
  | .vbusAbove15v _ => true
  | .vbusBelow14v2Again _ => true
  | .idealDiodeSwitch _ _ => true
  | .fetNotConducting => true
  | .chopperOpen _ _ => true
  | .chopperShort _ => true
  | .clearLatches => true
  | .vcmSetpointLoss k => k < 2
  | .retractVelocityEnd k _ _ _ => k < 2
  | .retractEnd k => k < 2
  | .supplyBelowThreshold => true
  | .powerLossConfirm => true
  | .phaseShort _ _ => true
  | .openPhase _ _ => true
  | .vcmShort k _ _ => k < 2
  | .vcmOpen k _ => k < 2
  | .gateDriveSupplyLow => true
  | .reversedInput => true
  | .shock _ => true
  | .shockHoldEnd => true
  | .dramAccess _ err _ cls => err.all (fun x => x.1 < 84 && x.2 < 256) && cls < 16
  | .patrolStep _ => true
  | .mergeWrite _ cls cells => cells.all (fun x => x.1 < 64) && cls < 16
  | .mergeHoldExpire _ _ => true
  | .initBlockDone => true
  | .dqsOscillatorRead sub _ => sub < 4
  | .zqCalibration => true
  | .dramTemperatureRead _ => true
  | .biasRequest _ => true
  | .cxlMemAccess _ wr _ => (wr.getD []).all (fun x => x.1 < 64)
  | .linkTraining width rate _ presets => (width = 1 || width = 2 || width = 4 || width = 8) && 1 ≤ rate && rate ≤ 5 && presets.all (· < 11)
  | .surpriseLinkDown => true
  | .hotReset => true
  | .perstNAssert => true
  | .perstNDeassert => true
  | .configRequest off be _ _ _ => off < 4096 && be < 16
  | .functionLevelReset => true
  | .cxlReset => true
  | .hdmCommit _ _ _ => true
  | .doorbellWrite off _ _ _ => off < 8388608
  | .msixUnmask v => v < 512
  | .ideKmMessage stream action _ => stream < 2 && action < 3
  | .ideIntegrityFail stream _ => stream < 2
  | .completionTimeout ch _ _ _ _ => match ch with | some n => n < 32 | none => true
  | .poisonReceived _ ch _ _ _ _ => match ch with | some n => n < 32 | none => true
  | .d3hotEntry => true
  | .d0Return => true
  | .hccDisable => true
  | .hccWalkOvertime => true
  | .hccEnable _ => true
  | .hostSnoop addr _ _ _ => addr % 64 = 0
  | .writebackGo addr => addr % 64 = 0
  | .unplacedMailboxPoll qid _ => qid < 1048576
  | .hccParitySweep set _ => set < 4096
  | .adminQueueEnable => true
  | .adminQueueDisable _ => true
  | .mailboxSnoop qid _ => qid < 1048576
  | .entryAccept entry _ => (entry.getD (zeros 64)).length = 64
  | .headWordReread ring head => (ring.getD 0) < 65536 && (head.getD 0) < 65536
  | .ringFullTimeout ring => ring < 65536
  | .coalescingTimeout g => g < 256
  | .identify t _ => t < 32
  | .createQueue t => t < 32
  | .deleteQueue t _ => t < 32
  | .resetQueue t _ => t < 32
  | .createCring t => t < 32
  | .deleteCring t => t < 32
  | .arm t _ _ => t < 32
  | .disarm t _ => t < 32
  | .fwDownload t _ _ => t < 32
  | .fwCommit t _ _ => t < 32
  | .fwCommitTrial t _ _ => t < 32
  | .fwCommitBootLoader t _ => t < 32
  | .fwActivate t => t < 32
  | .activationFetchStop => true
  | .activationSwitch => true
  | .trialConfirm => true
  | .dictRead t _ => t < 32
  | .dictWrite t _ _ => t < 32
  | .eventRingSetup t => t < 32
  | .putSegment q t _ => ioTag q t
  | .tilePoolSlotFree => true
  | .seal q t _ _ => ioTag q t
  | .getRange q t _ => ioTag q t
  | .stat q t _ => ioTag q t
  | .list q t _ => ioTag q t
  | .cookieExpiry => true
  | .delete q t _ => ioTag q t
  | .setRetention q t _ => ioTag q t
  | .verify q t _ _ => ioTag q t
  | .flush q t _ => ioTag q t
  | .flushComplete q t => ioTag q t
  | .migrate q t _ _ _ => ioTag q t
  | .migrateToHost q t _ => ioTag q t
  | .abort q t => q < 1048576 && t < 32
  | .abortResolve q t => q < 1048576 && t < 32
  | .dmaGo n _ _ _ => n < 32
  | .dmaAbort n _ _ _ => n < 32
  | .dmaResume n => n < 32
  | .dmaHalt n _ _ _ _ _ => n < 32
  | .dmaDone n _ => n < 32
  | .dmaStall n => n < 32
  | .modulePresenceChange _ _ => true
  | .ethLinkChange _ => true
  | .neighborSolicitation dst target => dst.length = 16 && target.length = 16
  | .echoRequest dst _ => dst.length = 16
  | .hello d nr => dgramFits d && nr.length = 16
  | .helloAck d => dgramFits d
  | .confirm d => dgramFits d
  | .offer d => dgramFits d
  | .data d => dgramFits d
  | .receiveDurable p _ => pairSlot p
  | .sack d => dgramFits d
  | .result d => dgramFits d
  | .keepalive d => dgramFits d
  | .close d => dgramFits d
  | .sackTimer p => pairSlot p
  | .retransmitTimeout _ => true
  | .keepaliveTimer => true
  | .peerSilence p _ _ => match p with | some k => pairSlot k | none => true
  | .migTimeout => true
  | .read f => f.length ≤ 64
  | .write f _ => f.length ≤ 64
  | .readInit f => f.length ≤ 64
  | .writeInit f _ => f.length ≤ 64
  | .segment f _ => f.length ≤ 64
  | .segAck f => f.length ≤ 64
  | .gdpAbort f => f.length ≤ 64
  | .keep f => f.length ≤ 64
  | .sessionTimeout => true
  | .segmentResend => true
  | .busOff => true
  | .busOffRecovery => true
  | .restoreDefaults => true
  | .lifecycleTransition req _ _ => req < 4294967296
  | .unlock pw => pw.length = 16
  | .newPassword pw => pw.length = 16
  | .relock => true
  | .testStart _ _ => true
  | .extendedMemoryTest => true
  | .loopbackStart _ _ _ => true
  | .loopbackStop errors bits _ => errors ≤ bits
  | .loopbackEnd errors bits _ => errors ≤ bits
  | .testHold _ _ => true
  | .scanEnable => true
  | .nvcProgram block page first dat => block < 2048 && page < 256 && first < 8 && dat.length % 32 = 0
  | .nvcErase block => block < 2048
  | .nvcOperationDone _ _ => true
  | .faultMessage src kind addr _ _ => src < 512 && kind < 64 && addr < 281474976710656
  | .reactionEnd => true
  | .reactionTimeout => true
  | .storageCompare _ => true
  | .clearSticky src => src < 512
  | .clearAllSticky => true
  | .watchdogExpiry w _ => w < 5
  | .lockstepMismatch p _ => p < 4
  | .counterAccumulate _ => true
  | .statisticsStore => true
  | .rcRegisterRead bar _ width => (bar = 0 || bar = 2 || bar = 4) && (width = 1 || width = 2 || width = 4 || width = 8)
  | .registerWrite bar _ width _ => (bar = 0 || bar = 4) && (width = 1 || width = 2 || width = 4 || width = 8)
  | .initPatrolStall => true
  | .errorPassiveTimeout => true
  | .referenceDeviationCleared => true
  | .fltNRelease k => k < 2
  | .testComplete _ _ _ => true
  | .spdmRequest kind _ => kind < 5
  | .rngHealthTest _ => true

/-- The actuator that a command names, none where it names none. -/
def Instr.actuator (i : Instr) : Option Nat :=
  match i with
  | .supplyGood _ _ _ _ => none
  | .supplyLost _ _ => none
  | .vddAoPowerOn _ => none
  | .porstNLow => none
  | .porstNRelease _ => none
  | .slateDeadline => none
  | .slateComplete => none
  | .pwrGoodFall => none
  | .railOutOfRange _ => none
  | .supplyRestored _ => none
  | .rootReferenceLoss => none
  | .rootReferenceReturn _ => none
  | .rstreqWarm _ => none
  | .rstreqBuffer _ => none
  | .rstreqHost => none
  | .rstreqObject => none
  | .rstreqMedia0 _ => none
  | .rstreqMedia1 _ => none
  | .rstreqMotion => none
  | .mediaServiceTimeout k => some k
  | .beacon _ _ _ _ => none
  | .beaconDrop => none
  | .spinUpDelayEnd => none
  | .spinUpNow => none
  | .ochreStart _ => none
  | .ochreDeadline => none
  | .ochreRetry _ => none
  | .restartOchre => none
  | .cobalt _ _ _ => none
  | .d2dFlitReceive _ _ => none
  | .d2dResendLimit => none
  | .d2dLinkTimeout => none
  | .d2dLinkUp => none
  | .clockMonitorGate _ _ => none
  | .referenceDeviation => none
  | .tintPeriod _ _ => none
  | .floorRecompute k _ => some k
  | .coreWindow => none
  | .hostShareSwitch _ _ _ => none
  | .migrationCap _ => none
  | .sectorWrite k _ => some k
  | .journalRecordWrite k _ => some k
  | .journalResume k => some k
  | .checkpoint _ => none
  | .reallocation _ _ _ => none
  | .sectorRead k _ _ _ _ _ => some k
  | .decodeComplete _ _ => none
  | .spillDrainDone _ => none
  | .decodeOvertime _ => none
  | .sampleCopyDone k => some k
  | .recoveryStepEnd _ _ _ _ => none
  | .recoveryLimit _ => none
  | .scrubRead k _ _ _ _ => some k
  | .scrubRecheck _ _ _ _ _ => none
  | .scrubPositionStore => none
  | .computeEfficiency => none
  | .startQualification _ => none
  | .qualificationRateResult _ _ _ _ _ => none
  | .formatDrive _ => none
  | .gateMonitorMismatch k => some k
  | .writeInhibit k _ => some k
  | .inhibitRelease k => some k
  | .writeRetriesExhausted k => some k
  | .preampFault k _ _ => some k
  | .preScmdGo k _ _ _ _ _ => some k
  | .headSwitch k _ _ _ => some k
  | .headSwitchSettle k => some k
  | .servoWedge k _ _ _ => some k
  | .wedgePredicted k _ _ => some k
  | .wedgeSequenceLost k => some k
  | .reacquireTimeout k => some k
  | .cleOverrun k => some k
  | .srvTargetWrite k _ => some k
  | .cleLoopEnable _ => none
  | .headLoad k _ _ _ => some k
  | .loadNoLock k _ => some k
  | .runoutLearnTimeout _ => none
  | .injectionStart => none
  | .captureComplete => none
  | .pwmPeriod _ _ _ _ _ => none
  | .dutySetLoss => none
  | .sampleShiftTimeout => none
  | .speedLoop _ _ _ => none
  | .standstillStartTimeout => none
  | .bemfZeroCrossing _ _ => none
  | .catchTimeout => none
  | .lossOfSynchronism _ _ _ => none
  | .spinDownUnparked => none
  | .spindleStopped _ => none
  | .vbusAbove13v8 _ => none
  | .vbusBelow13v6 _ => none
  | .vbusAbove14v2 _ => none
  | .vbusAbove15v _ => none
  | .vbusBelow14v2Again _ => none
  | .idealDiodeSwitch _ _ => none
  | .fetNotConducting => none
  | .chopperOpen _ _ => none
  | .chopperShort _ => none
  | .clearLatches => none
  | .vcmSetpointLoss k => some k
  | .retractVelocityEnd k _ _ _ => some k
  | .retractEnd k => some k
  | .supplyBelowThreshold => none
  | .powerLossConfirm => none
  | .phaseShort _ _ => none
  | .openPhase _ _ => none
  | .vcmShort k _ _ => some k
  | .vcmOpen k _ => some k
  | .gateDriveSupplyLow => none
  | .reversedInput => none
  | .shock _ => none
  | .shockHoldEnd => none
  | .dramAccess _ _ _ _ => none
  | .patrolStep _ => none
  | .mergeWrite _ _ _ => none
  | .mergeHoldExpire _ _ => none
  | .initBlockDone => none
  | .dqsOscillatorRead _ _ => none
  | .zqCalibration => none
  | .dramTemperatureRead _ => none
  | .biasRequest _ => none
  | .cxlMemAccess _ _ _ => none
  | .linkTraining _ _ _ _ => none
  | .surpriseLinkDown => none
  | .hotReset => none
  | .perstNAssert => none
  | .perstNDeassert => none
  | .configRequest _ _ _ _ _ => none
  | .functionLevelReset => none
  | .cxlReset => none
  | .hdmCommit _ _ _ => none
  | .doorbellWrite _ _ _ _ => none
  | .msixUnmask _ => none
  | .ideKmMessage _ _ _ => none
  | .ideIntegrityFail _ _ => none
  | .completionTimeout _ _ _ _ _ => none
  | .poisonReceived _ _ _ _ _ _ => none
  | .d3hotEntry => none
  | .d0Return => none
  | .hccDisable => none
  | .hccWalkOvertime => none
  | .hccEnable _ => none
  | .hostSnoop _ _ _ _ => none
  | .writebackGo _ => none
  | .unplacedMailboxPoll _ _ => none
  | .hccParitySweep _ _ => none
  | .adminQueueEnable => none
  | .adminQueueDisable _ => none
  | .mailboxSnoop _ _ => none
  | .entryAccept _ _ => none
  | .headWordReread _ _ => none
  | .ringFullTimeout _ => none
  | .coalescingTimeout _ => none
  | .identify _ _ => none
  | .createQueue _ => none
  | .deleteQueue _ _ => none
  | .resetQueue _ _ => none
  | .createCring _ => none
  | .deleteCring _ => none
  | .arm _ _ _ => none
  | .disarm _ _ => none
  | .fwDownload _ _ _ => none
  | .fwCommit _ _ _ => none
  | .fwCommitTrial _ _ _ => none
  | .fwCommitBootLoader _ _ => none
  | .fwActivate _ => none
  | .activationFetchStop => none
  | .activationSwitch => none
  | .trialConfirm => none
  | .dictRead _ _ => none
  | .dictWrite _ _ _ => none
  | .eventRingSetup _ => none
  | .putSegment _ _ _ => none
  | .tilePoolSlotFree => none
  | .seal _ _ _ _ => none
  | .getRange _ _ _ => none
  | .stat _ _ _ => none
  | .list _ _ _ => none
  | .cookieExpiry => none
  | .delete _ _ _ => none
  | .setRetention _ _ _ => none
  | .verify _ _ _ _ => none
  | .flush _ _ _ => none
  | .flushComplete _ _ => none
  | .migrate _ _ _ _ _ => none
  | .migrateToHost _ _ _ => none
  | .abort _ _ => none
  | .abortResolve _ _ => none
  | .dmaGo _ _ _ _ => none
  | .dmaAbort _ _ _ _ => none
  | .dmaResume _ => none
  | .dmaHalt _ _ _ _ _ _ => none
  | .dmaDone _ _ => none
  | .dmaStall _ => none
  | .modulePresenceChange _ _ => none
  | .ethLinkChange _ => none
  | .neighborSolicitation _ _ => none
  | .echoRequest _ _ => none
  | .hello _ _ => none
  | .helloAck _ => none
  | .confirm _ => none
  | .offer _ => none
  | .data _ => none
  | .receiveDurable _ _ => none
  | .sack _ => none
  | .result _ => none
  | .keepalive _ => none
  | .close _ => none
  | .sackTimer _ => none
  | .retransmitTimeout _ => none
  | .keepaliveTimer => none
  | .peerSilence _ _ _ => none
  | .migTimeout => none
  | .read _ => none
  | .write _ _ => none
  | .readInit _ => none
  | .writeInit _ _ => none
  | .segment _ _ => none
  | .segAck _ => none
  | .gdpAbort _ => none
  | .keep _ => none
  | .sessionTimeout => none
  | .segmentResend => none
  | .busOff => none
  | .busOffRecovery => none
  | .restoreDefaults => none
  | .lifecycleTransition _ _ _ => none
  | .unlock _ => none
  | .newPassword _ => none
  | .relock => none
  | .testStart _ _ => none
  | .extendedMemoryTest => none
  | .loopbackStart _ _ _ => none
  | .loopbackStop _ _ _ => none
  | .loopbackEnd _ _ _ => none
  | .testHold _ _ => none
  | .scanEnable => none
  | .nvcProgram _ _ _ _ => none
  | .nvcErase _ => none
  | .nvcOperationDone _ _ => none
  | .faultMessage _ _ _ _ _ => none
  | .reactionEnd => none
  | .reactionTimeout => none
  | .storageCompare _ => none
  | .clearSticky _ => none
  | .clearAllSticky => none
  | .watchdogExpiry _ _ => none
  | .lockstepMismatch _ _ => none
  | .counterAccumulate _ => none
  | .statisticsStore => none
  | .rcRegisterRead _ _ _ => none
  | .registerWrite _ _ _ _ => none
  | .initPatrolStall => none
  | .errorPassiveTimeout => none
  | .referenceDeviationCleared => none
  | .fltNRelease k => some k
  | .testComplete _ _ _ => none
  | .spdmRequest _ _ => none
  | .rngHealthTest _ => none

end Sys2Proof
end

