-- ==== Sys2Proof/Laws/PerInstr.lean ====
section
/-! SUPPORT. The per-command family `Wf`: a well-formed command that names an actuator names one of the two (R28). -/
set_option Elab.async false
open Sys2Proof

def Sys2Proof.Laws.Wf.Statement (i : Instr) : Prop := i.wf = true → ∀ k, i.actuator = some k → k = 0 ∨ k = 1

theorem Sys2Proof.Laws.Wf.supplyGood (v12 v33 : Nat) (node : BitVec 7) (inp : SlateInputs) : Statement (Instr.supplyGood v12 v33 node inp) := by
  intro _ j hk; simp [Instr.actuator] at hk
theorem Sys2Proof.Laws.Wf.supplyLost (v12 v33 : Nat) : Statement (Instr.supplyLost v12 v33) := by
  intro _ j hk; simp [Instr.actuator] at hk
theorem Sys2Proof.Laws.Wf.vddAoPowerOn (inp : SlateInputs) : Statement (Instr.vddAoPowerOn inp) := by
  intro _ j hk; simp [Instr.actuator] at hk
theorem Sys2Proof.Laws.Wf.porstNLow : Statement (Instr.porstNLow) := by
  intro _ j hk; simp [Instr.actuator] at hk
theorem Sys2Proof.Laws.Wf.porstNRelease (inp : SlateInputs) : Statement (Instr.porstNRelease inp) := by
  intro _ j hk; simp [Instr.actuator] at hk
theorem Sys2Proof.Laws.Wf.slateDeadline : Statement (Instr.slateDeadline) := by
  intro _ j hk; simp [Instr.actuator] at hk
theorem Sys2Proof.Laws.Wf.slateComplete : Statement (Instr.slateComplete) := by
  intro _ j hk; simp [Instr.actuator] at hk
theorem Sys2Proof.Laws.Wf.pwrGoodFall : Statement (Instr.pwrGoodFall) := by
  intro _ j hk; simp [Instr.actuator] at hk
theorem Sys2Proof.Laws.Wf.railOutOfRange (src : Nat) : Statement (Instr.railOutOfRange src) := by
  intro _ j hk; simp [Instr.actuator] at hk
theorem Sys2Proof.Laws.Wf.supplyRestored (inp : SlateInputs) : Statement (Instr.supplyRestored inp) := by
  intro _ j hk; simp [Instr.actuator] at hk
theorem Sys2Proof.Laws.Wf.rootReferenceLoss : Statement (Instr.rootReferenceLoss) := by
  intro _ j hk; simp [Instr.actuator] at hk
theorem Sys2Proof.Laws.Wf.rootReferenceReturn (inp : SlateInputs) : Statement (Instr.rootReferenceReturn inp) := by
  intro _ j hk; simp [Instr.actuator] at hk
theorem Sys2Proof.Laws.Wf.rstreqWarm (inp : SlateInputs) : Statement (Instr.rstreqWarm inp) := by
  intro _ j hk; simp [Instr.actuator] at hk
theorem Sys2Proof.Laws.Wf.rstreqBuffer (inp : SlateInputs) : Statement (Instr.rstreqBuffer inp) := by
  intro _ j hk; simp [Instr.actuator] at hk
theorem Sys2Proof.Laws.Wf.rstreqHost : Statement (Instr.rstreqHost) := by
  intro _ j hk; simp [Instr.actuator] at hk
theorem Sys2Proof.Laws.Wf.rstreqObject : Statement (Instr.rstreqObject) := by
  intro _ j hk; simp [Instr.actuator] at hk
theorem Sys2Proof.Laws.Wf.rstreqMedia0 (both : Bool) : Statement (Instr.rstreqMedia0 both) := by
  intro _ j hk; simp [Instr.actuator] at hk
theorem Sys2Proof.Laws.Wf.rstreqMedia1 (both : Bool) : Statement (Instr.rstreqMedia1 both) := by
  intro _ j hk; simp [Instr.actuator] at hk
theorem Sys2Proof.Laws.Wf.rstreqMotion : Statement (Instr.rstreqMotion) := by
  intro _ j hk; simp [Instr.actuator] at hk
theorem Sys2Proof.Laws.Wf.mediaServiceTimeout (k : Nat) : Statement (Instr.mediaServiceTimeout k) := by
  intro hw j hk; simp [Instr.wf, Instr.actuator] at hw hk; omega
theorem Sys2Proof.Laws.Wf.beacon (v12 vbus : Nat) (temp : BitVec 8) (wins : Bool) : Statement (Instr.beacon v12 vbus temp wins) := by
  intro _ j hk; simp [Instr.actuator] at hk
theorem Sys2Proof.Laws.Wf.beaconDrop : Statement (Instr.beaconDrop) := by
  intro _ j hk; simp [Instr.actuator] at hk
theorem Sys2Proof.Laws.Wf.spinUpDelayEnd : Statement (Instr.spinUpDelayEnd) := by
  intro _ j hk; simp [Instr.actuator] at hk
theorem Sys2Proof.Laws.Wf.spinUpNow : Statement (Instr.spinUpNow) := by
  intro _ j hk; simp [Instr.actuator] at hk
theorem Sys2Proof.Laws.Wf.ochreStart (selfOk : Bool) : Statement (Instr.ochreStart selfOk) := by
  intro _ j hk; simp [Instr.actuator] at hk
theorem Sys2Proof.Laws.Wf.ochreDeadline : Statement (Instr.ochreDeadline) := by
  intro _ j hk; simp [Instr.actuator] at hk
theorem Sys2Proof.Laws.Wf.ochreRetry (selfOk : Bool) : Statement (Instr.ochreRetry selfOk) := by
  intro _ j hk; simp [Instr.actuator] at hk
theorem Sys2Proof.Laws.Wf.restartOchre : Statement (Instr.restartOchre) := by
  intro _ j hk; simp [Instr.actuator] at hk
theorem Sys2Proof.Laws.Wf.cobalt (lost : List (Nat × Nat)) (stale : List Nat) (offsets : Nat × Nat) : Statement (Instr.cobalt lost stale offsets) := by
  intro _ j hk; simp [Instr.actuator] at hk
theorem Sys2Proof.Laws.Wf.d2dFlitReceive (motion crcOk : Bool) : Statement (Instr.d2dFlitReceive motion crcOk) := by
  intro _ j hk; simp [Instr.actuator] at hk
theorem Sys2Proof.Laws.Wf.d2dResendLimit : Statement (Instr.d2dResendLimit) := by
  intro _ j hk; simp [Instr.actuator] at hk
theorem Sys2Proof.Laws.Wf.d2dLinkTimeout : Statement (Instr.d2dLinkTimeout) := by
  intro _ j hk; simp [Instr.actuator] at hk
theorem Sys2Proof.Laws.Wf.d2dLinkUp : Statement (Instr.d2dLinkUp) := by
  intro _ j hk; simp [Instr.actuator] at hk
theorem Sys2Proof.Laws.Wf.clockMonitorGate (out gated : List Nat) : Statement (Instr.clockMonitorGate out gated) := by
  intro _ j hk; simp [Instr.actuator] at hk
theorem Sys2Proof.Laws.Wf.referenceDeviation : Statement (Instr.referenceDeviation) := by
  intro _ j hk; simp [Instr.actuator] at hk
theorem Sys2Proof.Laws.Wf.tintPeriod (firmware : Nat) (upset : Option (Nat × Nat)) : Statement (Instr.tintPeriod firmware upset) := by
  intro _ j hk; simp [Instr.actuator] at hk
theorem Sys2Proof.Laws.Wf.floorRecompute (k milliRevs : Nat) : Statement (Instr.floorRecompute k milliRevs) := by
  intro hw j hk; simp [Instr.wf, Instr.actuator] at hw hk; omega
theorem Sys2Proof.Laws.Wf.coreWindow : Statement (Instr.coreWindow) := by
  intro _ j hk; simp [Instr.actuator] at hk
theorem Sys2Proof.Laws.Wf.hostShareSwitch (c ran : Nat) (waits : Bool) : Statement (Instr.hostShareSwitch c ran waits) := by
  intro _ j hk; simp [Instr.actuator] at hk
theorem Sys2Proof.Laws.Wf.migrationCap (ran : Nat) : Statement (Instr.migrationCap ran) := by
  intro _ j hk; simp [Instr.actuator] at hk
theorem Sys2Proof.Laws.Wf.sectorWrite (k : Nat) (cut : Option (Nat × Nat)) : Statement (Instr.sectorWrite k cut) := by
  intro hw j hk; simp [Instr.wf, Instr.actuator] at hw hk; omega
theorem Sys2Proof.Laws.Wf.journalRecordWrite (k : Nat) (cuts : List Nat) : Statement (Instr.journalRecordWrite k cuts) := by
  intro hw j hk; simp [Instr.wf, Instr.actuator] at hw hk; omega
theorem Sys2Proof.Laws.Wf.journalResume (k : Nat) : Statement (Instr.journalResume k) := by
  intro hw j hk; simp [Instr.wf, Instr.actuator] at hw hk; omega
theorem Sys2Proof.Laws.Wf.checkpoint (cut : Option (Nat × List Nat)) : Statement (Instr.checkpoint cut) := by
  intro _ j hk; simp [Instr.actuator] at hk
theorem Sys2Proof.Laws.Wf.reallocation (wedges : Nat) (foreground : Bool) (cuts : List Nat) : Statement (Instr.reallocation wedges foreground cuts) := by
  intro _ j hk; simp [Instr.actuator] at hk
theorem Sys2Proof.Laws.Wf.sectorRead (k psa kind : Nat) (cap : Capture) (copied : Bool) (follow : Option Nat) : Statement (Instr.sectorRead k psa kind cap copied follow) := by
  intro hw j hk; simp [Instr.wf, Instr.actuator] at hw hk; omega
theorem Sys2Proof.Laws.Wf.decodeComplete (n upset : Nat) : Statement (Instr.decodeComplete n upset) := by
  intro _ j hk; simp [Instr.actuator] at hk
theorem Sys2Proof.Laws.Wf.spillDrainDone (n : Nat) : Statement (Instr.spillDrainDone n) := by
  intro _ j hk; simp [Instr.actuator] at hk
theorem Sys2Proof.Laws.Wf.decodeOvertime (n : Nat) : Statement (Instr.decodeOvertime n) := by
  intro _ j hk; simp [Instr.actuator] at hk
theorem Sys2Proof.Laws.Wf.sampleCopyDone (k : Nat) : Statement (Instr.sampleCopyDone k) := by
  intro hw j hk; simp [Instr.wf, Instr.actuator] at hw hk; omega
theorem Sys2Proof.Laws.Wf.recoveryStepEnd (psa wedges : Nat) (foreground : Bool) (cap : Option Capture) : Statement (Instr.recoveryStepEnd psa wedges foreground cap) := by
  intro _ j hk; simp [Instr.actuator] at hk
theorem Sys2Proof.Laws.Wf.recoveryLimit (psa : Nat) : Statement (Instr.recoveryLimit psa) := by
  intro _ j hk; simp [Instr.actuator] at hk
theorem Sys2Proof.Laws.Wf.scrubRead (k wedges : Nat) (foreground : Bool) (cap : Capture) (cuts : List Nat) : Statement (Instr.scrubRead k wedges foreground cap cuts) := by
  intro hw j hk; simp [Instr.wf, Instr.actuator] at hw hk; omega
theorem Sys2Proof.Laws.Wf.scrubRecheck (psa wedges : Nat) (foreground : Bool) (cap : Capture) (cuts : List Nat) : Statement (Instr.scrubRecheck psa wedges foreground cap cuts) := by
  intro _ j hk; simp [Instr.actuator] at hk
theorem Sys2Proof.Laws.Wf.scrubPositionStore : Statement (Instr.scrubPositionStore) := by
  intro _ j hk; simp [Instr.actuator] at hk
theorem Sys2Proof.Laws.Wf.computeEfficiency : Statement (Instr.computeEfficiency) := by
  intro _ j hk; simp [Instr.actuator] at hk
theorem Sys2Proof.Laws.Wf.startQualification (selfOk : Bool) : Statement (Instr.startQualification selfOk) := by
  intro _ j hk; simp [Instr.actuator] at hk
theorem Sys2Proof.Laws.Wf.qualificationRateResult (h z beyond snr : Nat) (fails : List Nat) : Statement (Instr.qualificationRateResult h z beyond snr fails) := by
  intro _ j hk; simp [Instr.actuator] at hk
theorem Sys2Proof.Laws.Wf.formatDrive (id : List Byte) : Statement (Instr.formatDrive id) := by
  intro _ j hk; simp [Instr.actuator] at hk
theorem Sys2Proof.Laws.Wf.gateMonitorMismatch (k : Nat) : Statement (Instr.gateMonitorMismatch k) := by
  intro hw j hk; simp [Instr.wf, Instr.actuator] at hw hk; omega
theorem Sys2Proof.Laws.Wf.writeInhibit (k bit : Nat) : Statement (Instr.writeInhibit k bit) := by
  intro hw j hk; simp [Instr.wf, Instr.actuator] at hw hk; omega
theorem Sys2Proof.Laws.Wf.inhibitRelease (k : Nat) : Statement (Instr.inhibitRelease k) := by
  intro hw j hk; simp [Instr.wf, Instr.actuator] at hw hk; omega
theorem Sys2Proof.Laws.Wf.writeRetriesExhausted (k : Nat) : Statement (Instr.writeRetriesExhausted k) := by
  intro hw j hk; simp [Instr.wf, Instr.actuator] at hw hk; omega
theorem Sys2Proof.Laws.Wf.preampFault (k fault : Nat) (answered : Bool) : Statement (Instr.preampFault k fault answered) := by
  intro hw j hk; simp [Instr.wf, Instr.actuator] at hw hk; omega
theorem Sys2Proof.Laws.Wf.preScmdGo (k : Nat) (read : Bool) (addr data : Nat) (answer : Option Nat) (back : List Nat) : Statement (Instr.preScmdGo k read addr data answer back) := by
  intro hw j hk; simp [Instr.wf, Instr.actuator] at hw hk; omega
theorem Sys2Proof.Laws.Wf.headSwitch (k head : Nat) (back : List Nat) (offsets : List Nat) : Statement (Instr.headSwitch k head back offsets) := by
  intro hw j hk; simp [Instr.wf, Instr.actuator] at hw hk; omega
theorem Sys2Proof.Laws.Wf.headSwitchSettle (k : Nat) : Statement (Instr.headSwitchSettle k) := by
  intro hw j hk; simp [Instr.wf, Instr.actuator] at hw hk; omega
theorem Sys2Proof.Laws.Wf.servoWedge (k : Nat) (w : WedgeData) (trajEnd : Bool) (dac : Int) : Statement (Instr.servoWedge k w trajEnd dac) := by
  intro hw j hk; simp [Instr.wf, Instr.actuator] at hw hk; omega
theorem Sys2Proof.Laws.Wf.wedgePredicted (k : Nat) (trajEnd : Bool) (dac : Int) : Statement (Instr.wedgePredicted k trajEnd dac) := by
  intro hw j hk; simp [Instr.wf, Instr.actuator] at hw hk; omega
theorem Sys2Proof.Laws.Wf.wedgeSequenceLost (k : Nat) : Statement (Instr.wedgeSequenceLost k) := by
  intro hw j hk; simp [Instr.wf, Instr.actuator] at hw hk; omega
theorem Sys2Proof.Laws.Wf.reacquireTimeout (k : Nat) : Statement (Instr.reacquireTimeout k) := by
  intro hw j hk; simp [Instr.wf, Instr.actuator] at hw hk; omega
theorem Sys2Proof.Laws.Wf.cleOverrun (k : Nat) : Statement (Instr.cleOverrun k) := by
  intro hw j hk; simp [Instr.wf, Instr.actuator] at hw hk; omega
theorem Sys2Proof.Laws.Wf.srvTargetWrite (k : Nat) (target : BitVec 32) : Statement (Instr.srvTargetWrite k target) := by
  intro hw j hk; simp [Instr.wf, Instr.actuator] at hw hk; omega
theorem Sys2Proof.Laws.Wf.cleLoopEnable (l : Nat) : Statement (Instr.cleLoopEnable l) := by
  intro _ j hk; simp [Instr.actuator] at hk
theorem Sys2Proof.Laws.Wf.headLoad (k : Nat) (ws : List WedgeData) (ident : Option Nat) (rcoil : Nat) : Statement (Instr.headLoad k ws ident rcoil) := by
  intro hw j hk; simp [Instr.wf, Instr.actuator] at hw hk; omega
theorem Sys2Proof.Laws.Wf.loadNoLock (k rcoil : Nat) : Statement (Instr.loadNoLock k rcoil) := by
  intro hw j hk; simp [Instr.wf, Instr.actuator] at hw hk; omega
theorem Sys2Proof.Laws.Wf.runoutLearnTimeout (h : Nat) : Statement (Instr.runoutLearnTimeout h) := by
  intro _ j hk; simp [Instr.actuator] at hk
theorem Sys2Proof.Laws.Wf.injectionStart : Statement (Instr.injectionStart) := by
  intro _ j hk; simp [Instr.actuator] at hk
theorem Sys2Proof.Laws.Wf.captureComplete : Statement (Instr.captureComplete) := by
  intro _ j hk; simp [Instr.actuator] at hk
theorem Sys2Proof.Laws.Wf.pwmPeriod (arrived : Bool) (isamp emf : List Int) (angle speed : Nat) : Statement (Instr.pwmPeriod arrived isamp emf angle speed) := by
  intro _ j hk; simp [Instr.actuator] at hk
theorem Sys2Proof.Laws.Wf.dutySetLoss : Statement (Instr.dutySetLoss) := by
  intro _ j hk; simp [Instr.actuator] at hk
theorem Sys2Proof.Laws.Wf.sampleShiftTimeout : Statement (Instr.sampleShiftTimeout) := by
  intro _ j hk; simp [Instr.actuator] at hk
theorem Sys2Proof.Laws.Wf.speedLoop (speed : Nat) (rev revEnd : Bool) : Statement (Instr.speedLoop speed rev revEnd) := by
  intro _ j hk; simp [Instr.actuator] at hk
theorem Sys2Proof.Laws.Wf.standstillStartTimeout : Statement (Instr.standstillStartTimeout) := by
  intro _ j hk; simp [Instr.actuator] at hk
theorem Sys2Proof.Laws.Wf.bemfZeroCrossing (interval c : Nat) : Statement (Instr.bemfZeroCrossing interval c) := by
  intro _ j hk; simp [Instr.actuator] at hk
theorem Sys2Proof.Laws.Wf.catchTimeout : Statement (Instr.catchTimeout) := by
  intro _ j hk; simp [Instr.actuator] at hk
theorem Sys2Proof.Laws.Wf.lossOfSynchronism (p1 p2 p3 : Nat × Nat × Nat) : Statement (Instr.lossOfSynchronism p1 p2 p3) := by
  intro _ j hk; simp [Instr.actuator] at hk
theorem Sys2Proof.Laws.Wf.spinDownUnparked : Statement (Instr.spinDownUnparked) := by
  intro _ j hk; simp [Instr.actuator] at hk
theorem Sys2Proof.Laws.Wf.spindleStopped (speed : Nat) : Statement (Instr.spindleStopped speed) := by
  intro _ j hk; simp [Instr.actuator] at hk
theorem Sys2Proof.Laws.Wf.vbusAbove13v8 (vbus : Nat) : Statement (Instr.vbusAbove13v8 vbus) := by
  intro _ j hk; simp [Instr.actuator] at hk
theorem Sys2Proof.Laws.Wf.vbusBelow13v6 (vbus : Nat) : Statement (Instr.vbusBelow13v6 vbus) := by
  intro _ j hk; simp [Instr.actuator] at hk
theorem Sys2Proof.Laws.Wf.vbusAbove14v2 (vbus : Nat) : Statement (Instr.vbusAbove14v2 vbus) := by
  intro _ j hk; simp [Instr.actuator] at hk
theorem Sys2Proof.Laws.Wf.vbusAbove15v (vbus : Nat) : Statement (Instr.vbusAbove15v vbus) := by
  intro _ j hk; simp [Instr.actuator] at hk
theorem Sys2Proof.Laws.Wf.vbusBelow14v2Again (vbus : Nat) : Statement (Instr.vbusBelow14v2Again vbus) := by
  intro _ j hk; simp [Instr.actuator] at hk
theorem Sys2Proof.Laws.Wf.idealDiodeSwitch (v12 : Int) (vbus : Nat) : Statement (Instr.idealDiodeSwitch v12 vbus) := by
  intro _ j hk; simp [Instr.actuator] at hk
theorem Sys2Proof.Laws.Wf.fetNotConducting : Statement (Instr.fetNotConducting) := by
  intro _ j hk; simp [Instr.actuator] at hk
theorem Sys2Proof.Laws.Wf.chopperOpen (amps vbus : Nat) : Statement (Instr.chopperOpen amps vbus) := by
  intro _ j hk; simp [Instr.actuator] at hk
theorem Sys2Proof.Laws.Wf.chopperShort (amps : Nat) : Statement (Instr.chopperShort amps) := by
  intro _ j hk; simp [Instr.actuator] at hk
theorem Sys2Proof.Laws.Wf.clearLatches : Statement (Instr.clearLatches) := by
  intro _ j hk; simp [Instr.actuator] at hk
theorem Sys2Proof.Laws.Wf.vcmSetpointLoss (k : Nat) : Statement (Instr.vcmSetpointLoss k) := by
  intro hw j hk; simp [Instr.wf, Instr.actuator] at hw hk; omega
theorem Sys2Proof.Laws.Wf.retractVelocityEnd (k : Nat) (mv ma : Int) (late : Bool) : Statement (Instr.retractVelocityEnd k mv ma late) := by
  intro hw j hk; simp [Instr.wf, Instr.actuator] at hw hk; omega
theorem Sys2Proof.Laws.Wf.retractEnd (k : Nat) : Statement (Instr.retractEnd k) := by
  intro hw j hk; simp [Instr.wf, Instr.actuator] at hw hk; omega
theorem Sys2Proof.Laws.Wf.supplyBelowThreshold : Statement (Instr.supplyBelowThreshold) := by
  intro _ j hk; simp [Instr.actuator] at hk
theorem Sys2Proof.Laws.Wf.powerLossConfirm : Statement (Instr.powerLossConfirm) := by
  intro _ j hk; simp [Instr.actuator] at hk
theorem Sys2Proof.Laws.Wf.phaseShort (ma : Int) (mv : Nat) : Statement (Instr.phaseShort ma mv) := by
  intro _ j hk; simp [Instr.actuator] at hk
theorem Sys2Proof.Laws.Wf.openPhase (ma want : Nat) : Statement (Instr.openPhase ma want) := by
  intro _ j hk; simp [Instr.actuator] at hk
theorem Sys2Proof.Laws.Wf.vcmShort (k : Nat) (ma : Int) (desat : Bool) : Statement (Instr.vcmShort k ma desat) := by
  intro hw j hk; simp [Instr.wf, Instr.actuator] at hw hk; omega
theorem Sys2Proof.Laws.Wf.vcmOpen (k : Nat) (ma : Int) : Statement (Instr.vcmOpen k ma) := by
  intro hw j hk; simp [Instr.wf, Instr.actuator] at hw hk; omega
theorem Sys2Proof.Laws.Wf.gateDriveSupplyLow : Statement (Instr.gateDriveSupplyLow) := by
  intro _ j hk; simp [Instr.actuator] at hk
theorem Sys2Proof.Laws.Wf.reversedInput : Statement (Instr.reversedInput) := by
  intro _ j hk; simp [Instr.actuator] at hk
theorem Sys2Proof.Laws.Wf.shock (mv : Int) : Statement (Instr.shock mv) := by
  intro _ j hk; simp [Instr.actuator] at hk
theorem Sys2Proof.Laws.Wf.shockHoldEnd : Statement (Instr.shockHoldEnd) := by
  intro _ j hk; simp [Instr.actuator] at hk
theorem Sys2Proof.Laws.Wf.dramAccess (l : Nat) (err : List (Nat × Nat)) (what cls : Nat) : Statement (Instr.dramAccess l err what cls) := by
  intro _ j hk; simp [Instr.actuator] at hk
theorem Sys2Proof.Laws.Wf.patrolStep (what : Nat) : Statement (Instr.patrolStep what) := by
  intro _ j hk; simp [Instr.actuator] at hk
theorem Sys2Proof.Laws.Wf.mergeWrite (l cls : Nat) (cells : List Host.Cell) : Statement (Instr.mergeWrite l cls cells) := by
  intro _ j hk; simp [Instr.actuator] at hk
theorem Sys2Proof.Laws.Wf.mergeHoldExpire (l : Nat) (parityOk : Bool) : Statement (Instr.mergeHoldExpire l parityOk) := by
  intro _ j hk; simp [Instr.actuator] at hk
theorem Sys2Proof.Laws.Wf.initBlockDone : Statement (Instr.initBlockDone) := by
  intro _ j hk; simp [Instr.actuator] at hk
theorem Sys2Proof.Laws.Wf.dqsOscillatorRead (sub drift : Nat) : Statement (Instr.dqsOscillatorRead sub drift) := by
  intro _ j hk; simp [Instr.actuator] at hk
theorem Sys2Proof.Laws.Wf.zqCalibration : Statement (Instr.zqCalibration) := by
  intro _ j hk; simp [Instr.actuator] at hk
theorem Sys2Proof.Laws.Wf.dramTemperatureRead (hot : List Nat) : Statement (Instr.dramTemperatureRead hot) := by
  intro _ j hk; simp [Instr.actuator] at hk
theorem Sys2Proof.Laws.Wf.biasRequest (count : Nat) : Statement (Instr.biasRequest count) := by
  intro _ j hk; simp [Instr.actuator] at hk
theorem Sys2Proof.Laws.Wf.cxlMemAccess (hpa : Nat) (write : Option (List Host.Cell)) (poison : Bool) : Statement (Instr.cxlMemAccess hpa write poison) := by
  intro _ j hk; simp [Instr.actuator] at hk
theorem Sys2Proof.Laws.Wf.linkTraining (width rate : Nat) (cxl : Bool) (presets : List Nat) : Statement (Instr.linkTraining width rate cxl presets) := by
  intro _ j hk; simp [Instr.actuator] at hk
theorem Sys2Proof.Laws.Wf.surpriseLinkDown : Statement (Instr.surpriseLinkDown) := by
  intro _ j hk; simp [Instr.actuator] at hk
theorem Sys2Proof.Laws.Wf.hotReset : Statement (Instr.hotReset) := by
  intro _ j hk; simp [Instr.actuator] at hk
theorem Sys2Proof.Laws.Wf.perstNAssert : Statement (Instr.perstNAssert) := by
  intro _ j hk; simp [Instr.actuator] at hk
theorem Sys2Proof.Laws.Wf.perstNDeassert : Statement (Instr.perstNDeassert) := by
  intro _ j hk; simp [Instr.actuator] at hk
theorem Sys2Proof.Laws.Wf.configRequest (off be : Nat) (write : Option Nat) (ready : Bool) (tails : List (Nat × Option Nat)) : Statement (Instr.configRequest off be write ready tails) := by
  intro _ j hk; simp [Instr.actuator] at hk
theorem Sys2Proof.Laws.Wf.functionLevelReset : Statement (Instr.functionLevelReset) := by
  intro _ j hk; simp [Instr.actuator] at hk
theorem Sys2Proof.Laws.Wf.cxlReset : Statement (Instr.cxlReset) := by
  intro _ j hk; simp [Instr.actuator] at hk
theorem Sys2Proof.Laws.Wf.hdmCommit (base size : Nat) (lock : Bool) : Statement (Instr.hdmCommit base size lock) := by
  intro _ j hk; simp [Instr.actuator] at hk
theorem Sys2Proof.Laws.Wf.doorbellWrite (off width data : Nat) (mb : Option Nat) : Statement (Instr.doorbellWrite off width data mb) := by
  intro _ j hk; simp [Instr.actuator] at hk
theorem Sys2Proof.Laws.Wf.msixUnmask (v : Nat) : Statement (Instr.msixUnmask v) := by
  intro _ j hk; simp [Instr.actuator] at hk
theorem Sys2Proof.Laws.Wf.ideKmMessage (stream action : Nat) (skid : Bool) : Statement (Instr.ideKmMessage stream action skid) := by
  intro _ j hk; simp [Instr.actuator] at hk
theorem Sys2Proof.Laws.Wf.ideIntegrityFail (stream : Nat) (flit : List Byte) : Statement (Instr.ideIntegrityFail stream flit) := by
  intro _ j hk; simp [Instr.actuator] at hk
theorem Sys2Proof.Laws.Wf.completionTimeout (ch : Option Nat) (l : Nat) (onDst : Bool) (x : DmaData) (more : List Nat) : Statement (Instr.completionTimeout ch l onDst x more) := by
  intro _ j hk; simp [Instr.actuator] at hk
theorem Sys2Proof.Laws.Wf.poisonReceived (cache : Bool) (ch : Option Nat) (l : Nat) (onDst : Bool) (x : DmaData) (more : List Nat) : Statement (Instr.poisonReceived cache ch l onDst x more) := by
  intro _ j hk; simp [Instr.actuator] at hk
theorem Sys2Proof.Laws.Wf.d3hotEntry : Statement (Instr.d3hotEntry) := by
  intro _ j hk; simp [Instr.actuator] at hk
theorem Sys2Proof.Laws.Wf.d0Return : Statement (Instr.d0Return) := by
  intro _ j hk; simp [Instr.actuator] at hk
theorem Sys2Proof.Laws.Wf.hccDisable : Statement (Instr.hccDisable) := by
  intro _ j hk; simp [Instr.actuator] at hk
theorem Sys2Proof.Laws.Wf.hccWalkOvertime : Statement (Instr.hccWalkOvertime) := by
  intro _ j hk; simp [Instr.actuator] at hk
theorem Sys2Proof.Laws.Wf.hccEnable (tails : List (Nat × Option Nat)) : Statement (Instr.hccEnable tails) := by
  intro _ j hk; simp [Instr.actuator] at hk
theorem Sys2Proof.Laws.Wf.hostSnoop (addr : Nat) (inv : Bool) (old : List Byte) (tail : Option Nat) : Statement (Instr.hostSnoop addr inv old tail) := by
  intro _ j hk; simp [Instr.actuator] at hk
theorem Sys2Proof.Laws.Wf.writebackGo (addr : Nat) : Statement (Instr.writebackGo addr) := by
  intro _ j hk; simp [Instr.actuator] at hk
theorem Sys2Proof.Laws.Wf.unplacedMailboxPoll (qid : Nat) (tail : Option Nat) : Statement (Instr.unplacedMailboxPoll qid tail) := by
  intro _ j hk; simp [Instr.actuator] at hk
theorem Sys2Proof.Laws.Wf.hccParitySweep (set : Nat) (errors : List (Nat × Nat × Nat)) : Statement (Instr.hccParitySweep set errors) := by
  intro _ j hk; simp [Instr.actuator] at hk
theorem Sys2Proof.Laws.Wf.adminQueueEnable : Statement (Instr.adminQueueEnable) := by
  intro _ j hk; simp [Instr.actuator] at hk
theorem Sys2Proof.Laws.Wf.adminQueueDisable (entries : List (Option (List Byte))) : Statement (Instr.adminQueueDisable entries) := by
  intro _ j hk; simp [Instr.actuator] at hk
theorem Sys2Proof.Laws.Wf.mailboxSnoop (qid : Nat) (tail : Option Nat) : Statement (Instr.mailboxSnoop qid tail) := by
  intro _ j hk; simp [Instr.actuator] at hk
theorem Sys2Proof.Laws.Wf.entryAccept (entry : Option (List Byte)) (head : Option Nat) : Statement (Instr.entryAccept entry head) := by
  intro _ j hk; simp [Instr.actuator] at hk
theorem Sys2Proof.Laws.Wf.headWordReread (ring head : Option Nat) : Statement (Instr.headWordReread ring head) := by
  intro _ j hk; simp [Instr.actuator] at hk
theorem Sys2Proof.Laws.Wf.ringFullTimeout (ring : Nat) : Statement (Instr.ringFullTimeout ring) := by
  intro _ j hk; simp [Instr.actuator] at hk
theorem Sys2Proof.Laws.Wf.coalescingTimeout (g : Nat) : Statement (Instr.coalescingTimeout g) := by
  intro _ j hk; simp [Instr.actuator] at hk
theorem Sys2Proof.Laws.Wf.identify (t : Nat) (h : HostData) : Statement (Instr.identify t h) := by
  intro _ j hk; simp [Instr.actuator] at hk
theorem Sys2Proof.Laws.Wf.createQueue (t : Nat) : Statement (Instr.createQueue t) := by
  intro _ j hk; simp [Instr.actuator] at hk
theorem Sys2Proof.Laws.Wf.deleteQueue (t : Nat) (entries : List (Option (List Byte))) : Statement (Instr.deleteQueue t entries) := by
  intro _ j hk; simp [Instr.actuator] at hk
theorem Sys2Proof.Laws.Wf.resetQueue (t : Nat) (entries : List (Option (List Byte))) : Statement (Instr.resetQueue t entries) := by
  intro _ j hk; simp [Instr.actuator] at hk
theorem Sys2Proof.Laws.Wf.createCring (t : Nat) : Statement (Instr.createCring t) := by
  intro _ j hk; simp [Instr.actuator] at hk
theorem Sys2Proof.Laws.Wf.deleteCring (t : Nat) : Statement (Instr.deleteCring t) := by
  intro _ j hk; simp [Instr.actuator] at hk
theorem Sys2Proof.Laws.Wf.arm (t : Nat) (old new : Option Nat) : Statement (Instr.arm t old new) := by
  intro _ j hk; simp [Instr.actuator] at hk
theorem Sys2Proof.Laws.Wf.disarm (t : Nat) (tail : Option Nat) : Statement (Instr.disarm t tail) := by
  intro _ j hk; simp [Instr.actuator] at hk
theorem Sys2Proof.Laws.Wf.fwDownload (t : Nat) (h : HostData) (fail : Option (Nat × Bool)) : Statement (Instr.fwDownload t h fail) := by
  intro _ j hk; simp [Instr.actuator] at hk
theorem Sys2Proof.Laws.Wf.fwCommit (t : Nat) (verifies programOk : Bool) : Statement (Instr.fwCommit t verifies programOk) := by
  intro _ j hk; simp [Instr.actuator] at hk
theorem Sys2Proof.Laws.Wf.fwCommitTrial (t : Nat) (verifies programOk : Bool) : Statement (Instr.fwCommitTrial t verifies programOk) := by
  intro _ j hk; simp [Instr.actuator] at hk
theorem Sys2Proof.Laws.Wf.fwCommitBootLoader (t : Nat) (verifies : Bool) : Statement (Instr.fwCommitBootLoader t verifies) := by
  intro _ j hk; simp [Instr.actuator] at hk
theorem Sys2Proof.Laws.Wf.fwActivate (t : Nat) : Statement (Instr.fwActivate t) := by
  intro _ j hk; simp [Instr.actuator] at hk
theorem Sys2Proof.Laws.Wf.activationFetchStop : Statement (Instr.activationFetchStop) := by
  intro _ j hk; simp [Instr.actuator] at hk
theorem Sys2Proof.Laws.Wf.activationSwitch : Statement (Instr.activationSwitch) := by
  intro _ j hk; simp [Instr.actuator] at hk
theorem Sys2Proof.Laws.Wf.trialConfirm : Statement (Instr.trialConfirm) := by
  intro _ j hk; simp [Instr.actuator] at hk
theorem Sys2Proof.Laws.Wf.dictRead (t : Nat) (h : HostData) : Statement (Instr.dictRead t h) := by
  intro _ j hk; simp [Instr.actuator] at hk
theorem Sys2Proof.Laws.Wf.dictWrite (t : Nat) (h : HostData) (a : ActIn) : Statement (Instr.dictWrite t h a) := by
  intro _ j hk; simp [Instr.actuator] at hk
theorem Sys2Proof.Laws.Wf.eventRingSetup (t : Nat) : Statement (Instr.eventRingSetup t) := by
  intro _ j hk; simp [Instr.actuator] at hk
theorem Sys2Proof.Laws.Wf.putSegment (q t : Nat) (h : HostData) : Statement (Instr.putSegment q t h) := by
  intro _ j hk; simp [Instr.actuator] at hk
theorem Sys2Proof.Laws.Wf.tilePoolSlotFree : Statement (Instr.tilePoolSlotFree) := by
  intro _ j hk; simp [Instr.actuator] at hk
theorem Sys2Proof.Laws.Wf.seal (q t : Nat) (h : HostData) (ends : Bool) : Statement (Instr.seal q t h ends) := by
  intro _ j hk; simp [Instr.actuator] at hk
theorem Sys2Proof.Laws.Wf.getRange (q t : Nat) (h : HostData) : Statement (Instr.getRange q t h) := by
  intro _ j hk; simp [Instr.actuator] at hk
theorem Sys2Proof.Laws.Wf.stat (q t : Nat) (h : HostData) : Statement (Instr.stat q t h) := by
  intro _ j hk; simp [Instr.actuator] at hk
theorem Sys2Proof.Laws.Wf.list (q t : Nat) (h : HostData) : Statement (Instr.list q t h) := by
  intro _ j hk; simp [Instr.actuator] at hk
theorem Sys2Proof.Laws.Wf.cookieExpiry : Statement (Instr.cookieExpiry) := by
  intro _ j hk; simp [Instr.actuator] at hk
theorem Sys2Proof.Laws.Wf.delete (q t : Nat) (h : HostData) : Statement (Instr.delete q t h) := by
  intro _ j hk; simp [Instr.actuator] at hk
theorem Sys2Proof.Laws.Wf.setRetention (q t : Nat) (h : HostData) : Statement (Instr.setRetention q t h) := by
  intro _ j hk; simp [Instr.actuator] at hk
theorem Sys2Proof.Laws.Wf.verify (q t : Nat) (h : HostData) (laddered : Nat) : Statement (Instr.verify q t h laddered) := by
  intro _ j hk; simp [Instr.actuator] at hk
theorem Sys2Proof.Laws.Wf.flush (q t : Nat) (h : HostData) : Statement (Instr.flush q t h) := by
  intro _ j hk; simp [Instr.actuator] at hk
theorem Sys2Proof.Laws.Wf.flushComplete (q t : Nat) : Statement (Instr.flushComplete q t) := by
  intro _ j hk; simp [Instr.actuator] at hk
theorem Sys2Proof.Laws.Wf.migrate (q t : Nat) (h : HostData) (session : Nat) (ns : List Byte) : Statement (Instr.migrate q t h session ns) := by
  intro _ j hk; simp [Instr.actuator] at hk
theorem Sys2Proof.Laws.Wf.migrateToHost (q t : Nat) (h : HostData) : Statement (Instr.migrateToHost q t h) := by
  intro _ j hk; simp [Instr.actuator] at hk
theorem Sys2Proof.Laws.Wf.abort (q t : Nat) : Statement (Instr.abort q t) := by
  intro _ j hk; simp [Instr.actuator] at hk
theorem Sys2Proof.Laws.Wf.abortResolve (q t : Nat) : Statement (Instr.abortResolve q t) := by
  intro _ j hk; simp [Instr.actuator] at hk
theorem Sys2Proof.Laws.Wf.dmaGo (n : Nat) (srcL dstL : List Byte) (listsOk : Bool) : Statement (Instr.dmaGo n srcL dstL listsOk) := by
  intro _ j hk; simp [Instr.actuator] at hk
theorem Sys2Proof.Laws.Wf.dmaAbort (n l : Nat) (x : DmaData) (error : Option (Bool × Nat)) : Statement (Instr.dmaAbort n l x error) := by
  intro _ j hk; simp [Instr.actuator] at hk
theorem Sys2Proof.Laws.Wf.dmaResume (n : Nat) : Statement (Instr.dmaResume n) := by
  intro _ j hk; simp [Instr.actuator] at hk
theorem Sys2Proof.Laws.Wf.dmaHalt (n l : Nat) (onDst : Bool) (cause : Nat) (x : DmaData) (more : List Nat) : Statement (Instr.dmaHalt n l onDst cause x more) := by
  intro _ j hk; simp [Instr.actuator] at hk
theorem Sys2Proof.Laws.Wf.dmaDone (n : Nat) (x : DmaData) : Statement (Instr.dmaDone n x) := by
  intro _ j hk; simp [Instr.actuator] at hk
theorem Sys2Proof.Laws.Wf.dmaStall (n : Nat) : Statement (Instr.dmaStall n) := by
  intro _ j hk; simp [Instr.actuator] at hk
theorem Sys2Proof.Laws.Wf.modulePresenceChange (present : Bool) (mode : Nat) : Statement (Instr.modulePresenceChange present mode) := by
  intro _ j hk; simp [Instr.actuator] at hk
theorem Sys2Proof.Laws.Wf.ethLinkChange (up : Bool) : Statement (Instr.ethLinkChange up) := by
  intro _ j hk; simp [Instr.actuator] at hk
theorem Sys2Proof.Laws.Wf.neighborSolicitation (dst target : List Byte) : Statement (Instr.neighborSolicitation dst target) := by
  intro _ j hk; simp [Instr.actuator] at hk
theorem Sys2Proof.Laws.Wf.echoRequest (dst body : List Byte) : Statement (Instr.echoRequest dst body) := by
  intro _ j hk; simp [Instr.actuator] at hk
theorem Sys2Proof.Laws.Wf.hello (d : Dgram) (nr : List Byte) : Statement (Instr.hello d nr) := by
  intro _ j hk; simp [Instr.actuator] at hk
theorem Sys2Proof.Laws.Wf.helloAck (d : Dgram) : Statement (Instr.helloAck d) := by
  intro _ j hk; simp [Instr.actuator] at hk
theorem Sys2Proof.Laws.Wf.confirm (d : Dgram) : Statement (Instr.confirm d) := by
  intro _ j hk; simp [Instr.actuator] at hk
theorem Sys2Proof.Laws.Wf.offer (d : Dgram) : Statement (Instr.offer d) := by
  intro _ j hk; simp [Instr.actuator] at hk
theorem Sys2Proof.Laws.Wf.data (d : Dgram) : Statement (Instr.data d) := by
  intro _ j hk; simp [Instr.actuator] at hk
theorem Sys2Proof.Laws.Wf.receiveDurable (p obj : Nat) : Statement (Instr.receiveDurable p obj) := by
  intro _ j hk; simp [Instr.actuator] at hk
theorem Sys2Proof.Laws.Wf.sack (d : Dgram) : Statement (Instr.sack d) := by
  intro _ j hk; simp [Instr.actuator] at hk
theorem Sys2Proof.Laws.Wf.result (d : Dgram) : Statement (Instr.result d) := by
  intro _ j hk; simp [Instr.actuator] at hk
theorem Sys2Proof.Laws.Wf.keepalive (d : Dgram) : Statement (Instr.keepalive d) := by
  intro _ j hk; simp [Instr.actuator] at hk
theorem Sys2Proof.Laws.Wf.close (d : Dgram) : Statement (Instr.close d) := by
  intro _ j hk; simp [Instr.actuator] at hk
theorem Sys2Proof.Laws.Wf.sackTimer (p : Nat) : Statement (Instr.sackTimer p) := by
  intro _ j hk; simp [Instr.actuator] at hk
theorem Sys2Proof.Laws.Wf.retransmitTimeout (pseq : Nat) : Statement (Instr.retransmitTimeout pseq) := by
  intro _ j hk; simp [Instr.actuator] at hk
theorem Sys2Proof.Laws.Wf.keepaliveTimer : Statement (Instr.keepaliveTimer) := by
  intro _ j hk; simp [Instr.actuator] at hk
theorem Sys2Proof.Laws.Wf.peerSilence (p : Option Nat) (session : Nat) (ns : List Byte) : Statement (Instr.peerSilence p session ns) := by
  intro _ j hk; simp [Instr.actuator] at hk
theorem Sys2Proof.Laws.Wf.migTimeout : Statement (Instr.migTimeout) := by
  intro _ j hk; simp [Instr.actuator] at hk
theorem Sys2Proof.Laws.Wf.read (f : List Byte) : Statement (Instr.read f) := by
  intro _ j hk; simp [Instr.actuator] at hk
theorem Sys2Proof.Laws.Wf.write (f : List Byte) (a : ActIn) : Statement (Instr.write f a) := by
  intro _ j hk; simp [Instr.actuator] at hk
theorem Sys2Proof.Laws.Wf.readInit (f : List Byte) : Statement (Instr.readInit f) := by
  intro _ j hk; simp [Instr.actuator] at hk
theorem Sys2Proof.Laws.Wf.writeInit (f : List Byte) (a : ActIn) : Statement (Instr.writeInit f a) := by
  intro _ j hk; simp [Instr.actuator] at hk
theorem Sys2Proof.Laws.Wf.segment (f : List Byte) (a : ActIn) : Statement (Instr.segment f a) := by
  intro _ j hk; simp [Instr.actuator] at hk
theorem Sys2Proof.Laws.Wf.segAck (f : List Byte) : Statement (Instr.segAck f) := by
  intro _ j hk; simp [Instr.actuator] at hk
theorem Sys2Proof.Laws.Wf.gdpAbort (f : List Byte) : Statement (Instr.gdpAbort f) := by
  intro _ j hk; simp [Instr.actuator] at hk
theorem Sys2Proof.Laws.Wf.keep (f : List Byte) : Statement (Instr.keep f) := by
  intro _ j hk; simp [Instr.actuator] at hk
theorem Sys2Proof.Laws.Wf.sessionTimeout : Statement (Instr.sessionTimeout) := by
  intro _ j hk; simp [Instr.actuator] at hk
theorem Sys2Proof.Laws.Wf.segmentResend : Statement (Instr.segmentResend) := by
  intro _ j hk; simp [Instr.actuator] at hk
theorem Sys2Proof.Laws.Wf.busOff : Statement (Instr.busOff) := by
  intro _ j hk; simp [Instr.actuator] at hk
theorem Sys2Proof.Laws.Wf.busOffRecovery : Statement (Instr.busOffRecovery) := by
  intro _ j hk; simp [Instr.actuator] at hk
theorem Sys2Proof.Laws.Wf.restoreDefaults : Statement (Instr.restoreDefaults) := by
  intro _ j hk; simp [Instr.actuator] at hk
theorem Sys2Proof.Laws.Wf.lifecycleTransition (req : Nat) (cut : Option Nat) (inp : SlateInputs) : Statement (Instr.lifecycleTransition req cut inp) := by
  intro _ j hk; simp [Instr.actuator] at hk
theorem Sys2Proof.Laws.Wf.unlock (pw : List Byte) : Statement (Instr.unlock pw) := by
  intro _ j hk; simp [Instr.actuator] at hk
theorem Sys2Proof.Laws.Wf.newPassword (pw : List Byte) : Statement (Instr.newPassword pw) := by
  intro _ j hk; simp [Instr.actuator] at hk
theorem Sys2Proof.Laws.Wf.relock : Statement (Instr.relock) := by
  intro _ j hk; simp [Instr.actuator] at hk
theorem Sys2Proof.Laws.Wf.testStart (test unit : Nat) : Statement (Instr.testStart test unit) := by
  intro _ j hk; simp [Instr.actuator] at hk
theorem Sys2Proof.Laws.Wf.extendedMemoryTest : Statement (Instr.extendedMemoryTest) := by
  intro _ j hk; simp [Instr.actuator] at hk
theorem Sys2Proof.Laws.Wf.loopbackStart (cfg path : Nat) (testImpl : Bool) : Statement (Instr.loopbackStart cfg path testImpl) := by
  intro _ j hk; simp [Instr.actuator] at hk
theorem Sys2Proof.Laws.Wf.loopbackStop (errors bits : Nat) (ok : Bool) : Statement (Instr.loopbackStop errors bits ok) := by
  intro _ j hk; simp [Instr.actuator] at hk
theorem Sys2Proof.Laws.Wf.loopbackEnd (errors bits : Nat) (ok : Bool) : Statement (Instr.loopbackEnd errors bits ok) := by
  intro _ j hk; simp [Instr.actuator] at hk
theorem Sys2Proof.Laws.Wf.testHold (enter : Bool) (inp : SlateInputs) : Statement (Instr.testHold enter inp) := by
  intro _ j hk; simp [Instr.actuator] at hk
theorem Sys2Proof.Laws.Wf.scanEnable : Statement (Instr.scanEnable) := by
  intro _ j hk; simp [Instr.actuator] at hk
theorem Sys2Proof.Laws.Wf.nvcProgram (block page first : Nat) (data : List Byte) : Statement (Instr.nvcProgram block page first data) := by
  intro _ j hk; simp [Instr.actuator] at hk
theorem Sys2Proof.Laws.Wf.nvcErase (block : Nat) : Statement (Instr.nvcErase block) := by
  intro _ j hk; simp [Instr.actuator] at hk
theorem Sys2Proof.Laws.Wf.nvcOperationDone (ok : Bool) (pulses : Nat) : Statement (Instr.nvcOperationDone ok pulses) := by
  intro _ j hk; simp [Instr.actuator] at hk
theorem Sys2Proof.Laws.Wf.faultMessage (src kind addr : Nat) (ok1 ok2 : Bool) : Statement (Instr.faultMessage src kind addr ok1 ok2) := by
  intro _ j hk; simp [Instr.actuator] at hk
theorem Sys2Proof.Laws.Wf.reactionEnd : Statement (Instr.reactionEnd) := by
  intro _ j hk; simp [Instr.actuator] at hk
theorem Sys2Proof.Laws.Wf.reactionTimeout : Statement (Instr.reactionTimeout) := by
  intro _ j hk; simp [Instr.actuator] at hk
theorem Sys2Proof.Laws.Wf.storageCompare (agree : Bool) : Statement (Instr.storageCompare agree) := by
  intro _ j hk; simp [Instr.actuator] at hk
theorem Sys2Proof.Laws.Wf.clearSticky (src : Nat) : Statement (Instr.clearSticky src) := by
  intro _ j hk; simp [Instr.actuator] at hk
theorem Sys2Proof.Laws.Wf.clearAllSticky : Statement (Instr.clearAllSticky) := by
  intro _ j hk; simp [Instr.actuator] at hk
theorem Sys2Proof.Laws.Wf.watchdogExpiry (w : Nat) (inp : SlateInputs) : Statement (Instr.watchdogExpiry w inp) := by
  intro _ j hk; simp [Instr.actuator] at hk
theorem Sys2Proof.Laws.Wf.lockstepMismatch (p : Nat) (inp : SlateInputs) : Statement (Instr.lockstepMismatch p inp) := by
  intro _ j hk; simp [Instr.actuator] at hk
theorem Sys2Proof.Laws.Wf.counterAccumulate (links : Nat × Nat × Nat × Nat) : Statement (Instr.counterAccumulate links) := by
  intro _ j hk; simp [Instr.actuator] at hk
theorem Sys2Proof.Laws.Wf.statisticsStore : Statement (Instr.statisticsStore) := by
  intro _ j hk; simp [Instr.actuator] at hk
theorem Sys2Proof.Laws.Wf.rcRegisterRead (bar off width : Nat) : Statement (Instr.rcRegisterRead bar off width) := by
  intro _ j hk; simp [Instr.actuator] at hk
theorem Sys2Proof.Laws.Wf.registerWrite (bar off width data : Nat) : Statement (Instr.registerWrite bar off width data) := by
  intro _ j hk; simp [Instr.actuator] at hk
theorem Sys2Proof.Laws.Wf.initPatrolStall : Statement (Instr.initPatrolStall) := by
  intro _ j hk; simp [Instr.actuator] at hk
theorem Sys2Proof.Laws.Wf.errorPassiveTimeout : Statement (Instr.errorPassiveTimeout) := by
  intro _ j hk; simp [Instr.actuator] at hk
theorem Sys2Proof.Laws.Wf.referenceDeviationCleared : Statement (Instr.referenceDeviationCleared) := by
  intro _ j hk; simp [Instr.actuator] at hk
theorem Sys2Proof.Laws.Wf.fltNRelease (k : Nat) : Statement (Instr.fltNRelease k) := by
  intro hw j hk; simp [Instr.wf, Instr.actuator] at hw hk; omega
theorem Sys2Proof.Laws.Wf.testComplete (pass : Bool) (detail entries : Nat) : Statement (Instr.testComplete pass detail entries) := by
  intro _ j hk; simp [Instr.actuator] at hk
theorem Sys2Proof.Laws.Wf.spdmRequest (kind : Nat) (signed : List Byte) : Statement (Instr.spdmRequest kind signed) := by
  intro _ j hk; simp [Instr.actuator] at hk
theorem Sys2Proof.Laws.Wf.rngHealthTest (pass : Bool) : Statement (Instr.rngHealthTest pass) := by
  intro _ j hk; simp [Instr.actuator] at hk
end

