-- ==== Sys2Proof/Machine/Pins.lean ====
section
/-!
DEFINITION. Balls whose level the state decides: while the core die is unpowered or held in reset (R678), and the strap and
debug balls (R658, R682). The rest of spec/21 bounds voltages, currents, heat and the package (NOTES.md, Scope).
-/
namespace Sys2Proof.Machine
open Sys2Proof

/-- What a ball does: it floats, is an input, is driven low, or is driven as its interface needs. -/
inductive BallState where
  | highZ | input | low | driven
  deriving DecidableEq, Repr

/-- Groups of balls of R678 and R682. -/
inductive Ball where
  | wgate (k : Nat) | preampSerial | writeData | cxlTx | ethTx | ddrReset | ddrOther | clkreq | moduleBus | gpio | tdo | uart
  | canTx | gates | faultN
  deriving DecidableEq, Repr

/-- The core die is unpowered or held in reset. -/
def State.coreDark (s : State) : Bool := !s.pwr.good || s.pwr.held || s.pwr.porstLow

/-- UART_TX and UART_RX are live, and JTAG serves the full TAP (R658, LCM_DEBUG). -/
def State.uartLive (s : State) : Bool := s.manufacture || s.returned
def State.jtagFull (s : State) : Bool := s.manufacture || s.returned

/-- TEST_MODE is taken notice of in Blank alone (R682). -/
def State.testModeSeen (s : State) : Bool := s.lifeCycle = 0

/-- The state of a ball (R678, R682, R658). -/
def State.ball (s : State) (b : Ball) : BallState :=
  match b with
  | .wgate k => if s.coreDark then .highZ else if (s.chn k).wgate then .driven else .low
  | .ddrReset => if s.coreDark then .low else .driven
  | .clkreq => if s.clkreqNLow then .low else .highZ
  | .gpio => if s.coreDark then .highZ else if s.manufacture || s.returned then .driven else .input
  | .uart => if s.coreDark || !s.uartLive then .highZ else .driven
  | .faultN => if s.faultNLow then .low else .highZ
  | .canTx | .gates => .driven
  | .preampSerial | .writeData | .cxlTx | .ethTx | .ddrOther | .moduleBus | .tdo => if s.coreDark then .highZ else .driven

end Sys2Proof.Machine
end

