-- ==== Sys2Proof/Tests/Slice0.lean ====
section
/-!
SUPPORT. Tests: for every statement with premises, states and operands that meet them; terms that the checks of well-formedness
refuse; and single steps against values worked out from the spec.
-/
set_option Elab.async false
set_option maxRecDepth 200000
namespace Sys2Proof.Tests
open Sys2Proof Sys2Proof.Machine

theorem snd_is {α β : Type} {p : α × β} {b : β} (h : p.2 = b) : p = (p.1, b) := by rw [← h]
theorem fst_is {α β : Type} {p : α × β} {a : α} (h : p.1 = a) : p = (a, p.2) := by rw [← h]

theorem some_is {α : Type} {o : Option α} (h : o.isSome = true) : o = some (o.get h) := by simp
theorem pair_is {α β : Type} {o : Option (α × β)} (h : o.isSome = true) : o = some ((o.get h).1, (o.get h).2) := some_is h
theorem spare_is {α β : Type} {p : Option α × β} (h : p.1.isSome = true) : p = (some (p.1.get h), p.2) :=
  Prod.ext (some_is h) rfl

/-- What Slate finds when every check passes. -/
def good : SlateInputs := ⟨true, true, true, 0, true, true, [], true, true, true, true, true, true, true, 64, true, []⟩

/-- The start after Slate. -/
def slated : Boot := { Boot.reset with slateDone := true, slateStep := 10 }

/-- A part in Manufacture with supplies good and Slate complete. -/
def run : State := { State.reset with pwr := ⟨true, true, true, true, false, [], true, false, 0⟩, boot := slated }

/-- `run` at a stage. -/
def atStage (n : Nat) : State := run.setF Fld.PLT_STAGE_STAGE n

/-- A state with other fuses blown. -/
def fused (w : BitVec 32) (s : State) : State := { s with lcm := { s.lcm with fuse := w } }

/-- A state with its start elsewhere. -/
def booted (b : Boot) (s : State) : State := { s with boot := b }

/-- A 64-byte submission entry with opcode, tag and some bytes placed at their offsets. -/
def entry (op tag : Nat) (puts : List (Nat × List Byte)) : List Byte :=
  puts.foldl (fun e p => slice e 0 p.1 ++ p.2 ++ slice e (p.1 + p.2.length) (64 - p.1 - p.2.length))
    (leBytes 1 op ++ leBytes 1 tag ++ zeros 62)

/-- A slot that holds an entry of a queue. -/
def slotOf (q t stage : Nat) (e : List Byte) : Slot := ⟨q, t, e, 5, stage, [], 0⟩

/-- A state with other slots in use. -/
def withSlots (l : List Slot) (s : State) : State := { s with qmg := { s.qmg with slots := l } }

/-- A state with the core die's side of the die-to-die link up. -/
def linked (s : State) : State := { s.setF Fld.MFE_STATUS_LINK 1 with d2d := ⟨true, 0, 0, 0⟩ }

/-- Two zones that the part can use, data and journal. -/
def zones : List Zone :=
  [⟨0, 0, 32, 0, 100, 10, 0, 0, 0, 2000000, 36000, 3000, 64, 96⟩, ⟨1, 1, 32, 100, 20, 0, 0, 0, 0, 2000000, 36000, 3000, 64, 96⟩]
def drive : Drive := ⟨5400, 2, List.replicate 16 7, 0, 100⟩
def surface (h : Nat) : Surface := ⟨h, 4000, zones⟩

/-- A state over disks that hold the Ivory blocks of surfaces 0 and 12. -/
def withIvory (s : State) : State :=
  { s with disk := { s.disk with ivory := [0, 12].map (fun h => (h, ivorySectors (descriptorBytes drive (surface h)) h)) } }

/-- Channel tables in bank 3 for every zone of that drive. -/
def table : ChanTable := ⟨[], 0, [], [], 0⟩
def trained (s : State) : State :=
  { s with nvc := { s.nvc with tables := [(0, table), (1, table), (768, table), (769, table)] } }

/-- A state in which the part knows that drive and has recovered its index. -/
def known (s : State) : State :=
  { s with media := { s.media with drive := some drive, surfaces := [surface 0, surface 12] }, obj := { s.obj with recovered := true } }

/-- The CRC-64 of 4,096 zero bytes, 512 at a time. -/
theorem crc64_zeros : crc64 (zeros 4096) = 2797812426771984549#64 := by
  have h : zeros 4096 = zeros 512 ++ zeros 512 ++ zeros 512 ++ zeros 512 ++ zeros 512 ++ zeros 512 ++ zeros 512 ++ zeros 512 := by
    decide +kernel
  have h0 : (zeros 512).foldl (crcByte 0xC96C5795D7870F42#64) (BitVec.allOnes 64) = 10839342818974237587#64 := by decide +kernel
  have h1 : (zeros 512).foldl (crcByte 0xC96C5795D7870F42#64) 10839342818974237587#64 = 4361626738373351667#64 := by decide +kernel
  have h2 : (zeros 512).foldl (crcByte 0xC96C5795D7870F42#64) 4361626738373351667#64 = 8365877195271935003#64 := by decide +kernel
  have h3 : (zeros 512).foldl (crcByte 0xC96C5795D7870F42#64) 8365877195271935003#64 = 14340754135536114872#64 := by decide +kernel
  have h4 : (zeros 512).foldl (crcByte 0xC96C5795D7870F42#64) 14340754135536114872#64 = 297189542354023654#64 := by decide +kernel
  have h5 : (zeros 512).foldl (crcByte 0xC96C5795D7870F42#64) 297189542354023654#64 = 2520315413209728509#64 := by decide +kernel
  have h6 : (zeros 512).foldl (crcByte 0xC96C5795D7870F42#64) 2520315413209728509#64 = 8190359419457751365#64 := by decide +kernel
  have h7 : (zeros 512).foldl (crcByte 0xC96C5795D7870F42#64) 8190359419457751365#64 = 15648931646937567066#64 := by decide +kernel
  unfold crc64
  rw [h]
  simp only [List.foldl_append]
  rw [h0, h1, h2, h3, h4, h5, h6, h7]
  decide

/-- A tile of zeros with its CRC and some tag. -/
def zeroTile (tag : List Byte) : List Byte := zeros 4096 ++ leBytes 8 2797812426771984549 ++ slice tag 0 16 ++ zeros 8

theorem crcOk_of (t : List Byte) (h1 : tileData t = zeros 4096) (h2 : numAt t 4096 8 = 2797812426771984549) : tileCrcOk t = true := by
  simp only [tileCrcOk, h1, h2, crc64_zeros]; decide

theorem tileGood_of (s : State) (slot : Nat) (t g : List Byte) (h0 : s.tileAt slot = t) (h1 : tileCrcOk t = true)
    (h2 : tileTag t = g) (h3 : s.obj.badSlots.contains slot = false) (h4 : s.rangePoisoned (s.poolBase + 4160 * slot) 4160 = false) :
    s.tileGood slot (some g) = true := by
  simp only [State.tileGood, h0, h1, h2, h3, h4]; decide

theorem verdict_of (s : State) (psa word : Nat) (h1 : isCodeword dataCode word = true) (h2 : s.isParity psa = false)
    (h3 : tileCrcOk (infoBlock word) = true) (h4 : s.expectedTag psa = none) (h5 : tileType (infoBlock word) ≠ 4) :
    s.decodeVerdict psa true word = 1 := by
  simp [State.decodeVerdict, h1, h2, h3, h4, h5]

/-- A state whose actuators may write. -/
def writable (s : State) : State := (s.setF (Fld.PRE_WINH_ACTIVE 0) 0).setF (Fld.PRE_WINH_ACTIVE 1) 0

/-- One sector of a segment to be written on actuator 0, as the only job. -/
def withOps (l : List WriteOp) (s : State) : State := { s with chn0 := { s.chn0 with ops := l } }
def job : Job := ⟨1, 7, 0, 0, 0, 1, [(0, 0, 0)], [0], [], true, false, false⟩
def withJob (s : State) : State := { s with obj := { s.obj with jobs := [job] } }

/-- A state with some sectors in the sample ring of actuator 0, and with a decode on instance 0. -/
def withRing (l : List RingSector) (s : State) : State := { s with chn0 := { s.chn0 with ring := l } }
def withWork (w : Work) (s : State) : State := { s with dec := { s.dec with inst := [some w, none, none, none] } }

/-- A sector whose capture holds no samples, read with one candidate; it decodes to a word of zeros. -/
def rec0 : SampleRec := ⟨0, 0, 16, 16, [], [⟨0, 480, 0⟩], [], true, 0⟩
def rs (psa verdict : Nat) : RingSector := ⟨psa, 0, rec0, 0, verdict, 0, false⟩
def work (psa : Nat) (stored : Option SampleRec) : Work := ⟨0, psa, 0, 0, 0, [], stored, 0, false, 0, 0⟩
/-- No global iteration is allowed on the fly for actuator 0, so that a decode fails. -/
def noLimit (s : State) : State := s.setF Fld.DEC_LIMITS_OTF_GLOBAL 0
/-- A capture without samples, and one whose tentative soft values hold the sync mark at the window's start. -/
def cap0 : Capture := ⟨[], [], [], [], [], 0, 0⟩
def capM : Capture := ⟨[], [], markTerms.map (15 * ·), [], [], 0, 0⟩
/-- A state in which head 0 may be read. -/
def readable (s : State) : State := s.setF (Fld.SRV_STATUS_RD_OK 0) 1
/-- A good tile in slot 0 for the one job, and the write path ready for it. -/
def tile7 : List Byte := zeroTile (tagOf (keyHash (keyBytes 7)) 0 0)
def toWrite : State :=
  { (withOps [⟨1, 0, 0, 0⟩] (withJob (writable run))) with pre0 := { run.pre0 with mode := 3 }, obj := { run.obj with jobs := [job], pool := [(0, tile7)] } }

/-- A state with one recovery ladder. -/
def withLadder (l : Ladder) (s : State) : State := { s with dec := { s.dec with ladders := [l] } }

/-- A state in which qualification has ended and the plan is that of the drive. -/
def planned (s : State) : State := (known s).fillPlan.setDictNum 0x3400 4 1 3

/-- A state with actuator 0 off the ramp and its servo in lock. -/
def onDisk (s : State) : State :=
  ((s.setF Fld.MFE_STATUS_PARKED0 0).setF (Fld.SRV_CTRL_MODE 0) 4).setF (Fld.SRV_STATUS_LOST 0) 0

/-- A state with actuator 0 parked and the spindle at speed. -/
def ready (s : State) : State := ((linked s).setF Fld.MFE_STATUS_PARKED0 1).setF Fld.SPM_STATUS_AT_SPEED 1

/-- A wedge with its mark in place, wedge id 1 and a sound amplitude. -/
def wedge : WedgeData := ⟨[(0, 0b1011000111)], 0, [], List.replicate 8 (0, 1) ++ [(1, 0), (1, 0)], 0, 0, 100, []⟩

/-- A state in a spindle mode. -/
def spinning (m : Nat) (s : State) : State := s.setF Fld.SPM_CTRL_MODE m
def foc (s : State) : State := { s with spm := { s.spm with focOn := true } }

/-- A state with the link to the host up, the window committed and one unit of 256 MiB in it. -/
def linkUp (s : State) : State := s.setF Fld.CXC_LINK_UP 1
def hdmOn (s : State) : State :=
  (((linkUp s).setF Fld.CXC_LINK_MEM 1).setF Fld.CXC_HDM_COMMITTED 1).setF Fld.CXC_HDM_SIZE 1

/-- A state whose memory BARs answer. -/
def bars (s : State) : State := { (linkUp s) with cxc := { s.cxc with memEn := true } }

/-- A state with other queue contexts. -/
def withQueues (l : List Queue) (s : State) : State := { s with qmg := { s.qmg with queues := l } }

theorem tri {α β γ : Type} (p : α × β × γ) : p = (p.1, p.2.1, p.2.2) := rfl
theorem quad {α β γ δ : Type} (p : α × β × γ × δ) : p = (p.1, p.2.1, p.2.2.1, p.2.2.2) := rfl
theorem both {α β : Type} (p : α × β) : p = (p.1, p.2) := rfl

/-- A state in which queue 0 has taken one entry, and the host takes writes. -/
def withAdmin (e : List Byte) (s : State) : State := withSlots [slotOf 0 0 0 e] { (linkUp s) with cxc := { s.cxc with bme := true } }
def withRings (l : List CRing) (s : State) : State := { s with qmg := { s.qmg with crings := l } }
def q5 : Queue := newQueue 5 0 1 4
def act : ActIn := ⟨good, none, true, [], true⟩

theorem mid_is {α β γ : Type} {p : α × β × γ} {b : β} (h : p.2.1 = b) : p = (p.1, b, p.2.2) := by rw [← h]

/-- A state in which queue 1 has taken one entry, at a stage of its work, and the host takes writes. -/
def withCommand (stage : Nat) (e : List Byte) (s : State) : State :=
  withSlots [slotOf 1 0 stage e] { (linkUp s) with cxc := { s.cxc with bme := true } }

/-- A state that holds one version of key 0. -/
def holding (v : Version) : State := { run with obj := { run.obj with versions := [v] } }
def v0 : Version := ⟨0, 0, [], none, none, 0⟩
def sealedAt (n : Nat) (sha : List Byte) : Seal := ⟨n, 0, sha, 0, 0, 1⟩

/-- A state with one DMA run. -/
def withDma (op st : Nat) (line : Nat) : State :=
  { run.setF (Fld.DMA_STAT_STATE 31) st with dma := ⟨[⟨31, ⟨op, false, false, false, 0, 0, 0, 0, [1, 1, 1], [0, 0, 0], [0, 0, 0], 0, [], []⟩, line⟩]⟩ }

/-- A datagram of the migration port to the part, from peer slot 1, session 9. -/
def dgram (type pseq : Nat) (body : List Byte) : Dgram :=
  ⟨run.peerAddr 1, run.linkLocal, run.dictNum 0x6000 5, true,
   [0x5A, 0x4D, 0x47, 0x31] ++ leBytes 1 type ++ [1] ++ leBytes 2 body.length ++ leBytes 4 9 ++ leBytes 4 pseq ++ body⟩
def ethUp (s : State) : State := s.setF Fld.ETH_STATUS_UP 1
def rx1 : MigRx := ⟨1, 9, zeros 32, true, [], 1, [], 0⟩
def withRx (r : MigRx) : State := { (ethUp run) with mig := { run.mig with rx := [r] } }
def rxObj (st : Nat) : MigObj := ⟨0, 0, 0, sealedAt 0 [], 0, 0, [], st, 0, []⟩
def tx1 (phase : Nat) : MigTx :=
  ⟨1, 0, 1, 0, 0, 0, phase, 9, [], zeros 32, startPos 0 0, startPos 0 0, 0, 0, false, [], 1, 1, 0, 1, [], []⟩
def withTx (t : MigTx) (s : State) : State := { s with mig := { s.mig with tx := some t } }
def paired (s : State) : State := { s with nvc := { s.nvc with pairKeys := [(1, zeros 16)] } }
theorem mid4 {α β γ δ : Type} {p : α × β × γ × δ} {b : β} (h : p.2.1 = b) : p = (p.1, b, p.2.2.1, p.2.2.2) := by rw [← h]

/-- A part with node ID 1, whose CAN node serves requests, with a segmented session perhaps. -/
def node (x : Option GdpSession) : State := { run with ash := { run.ash with nodeId := 1 }, can := { run.can with session := x } }
def writing (next : Nat) : GdpSession := ⟨1, 0x2100, 3, true, 600, next, 0, 0, false, []⟩
def reading (resent : Bool) : GdpSession := ⟨1, 0x2100, 3, false, 60, 0, 0, 1, resent, []⟩

/-- A part whose collector runs a reaction, and one with a sticky bit. -/
def reacting (r : Reaction) (s : State) : State := { s with fcl := { s.fcl with reaction := some r } }
def stuck (src : Nat) (s : State) : State := s.setF ⟨0x300200 + 4 * (src / 32), src % 32, src % 32⟩ 1

/-- A part under test. -/
def testing (n : Nat) (loop : Bool) : State := { run with tst := { run.tst with test := n, loop := loop } }

/-- A part with a flash operation under way. -/
def flashing (erase : Bool) : State := { run with nvc := { run.nvc with op := some ⟨erase, 2047, 0, []⟩ } }

theorem reset_wellKept : State.reset.wellKept :=
  ⟨⟨by decide, by intro p h; cases h⟩, ⟨by decide, by intro p h; cases h⟩, ⟨by decide, by intro p h; cases h⟩, by decide⟩


/-- Four wedges in a row with ids 1 to 4. -/
def fourWedges : List WedgeData :=
  [3, 5, 6, 9].map (fun v => { wedge with wid := (List.range 10).map (fun i => if v.testBit (9 - i) then (1, 0) else (0, 1)) })

/-- A root without a checkpoint, its tile, and a state whose disks hold it. -/
def root0 : Root :=
  { rootSeq := 1, ckptSeq := 1, ckpt := [], ckptTiles := 0, defects := [], head0 := (0, 1), head1 := (0, 1), time := 0 }
def rootStart : List Byte :=
  [0x5A, 0x52, 0x54, 0x31, 1, 0, 0, 0] ++ leBytes 8 1 ++ leBytes 8 1 ++ zeros 16 ++ leBytes 8 1 ++ zeros 8 ++ leBytes 8 1 ++ zeros 448
def rootEnd : List Byte := leBytes 4 1806386902
def rootT : List Byte :=
  (rootStart ++ zeros 512 ++ zeros 512 ++ zeros 512 ++ zeros 512 ++ zeros 512 ++ zeros 512 ++ (zeros 508 ++ rootEnd))
    ++ leBytes 8 5618547277980341109 ++ zeros 8 ++ leBytes 4 1 ++ zeros 4 ++ [3, 0, 0, 16, 0, 0, 0, 0]
def rooted : State := { run with disk := { run.disk with sectors := [(409600, rootT)] } }

theorem rootT_crc64 : tileCrcOk rootT = true := by
  have h : tileData rootT = rootStart ++ zeros 512 ++ zeros 512 ++ zeros 512 ++ zeros 512 ++ zeros 512 ++ zeros 512
      ++ (zeros 508 ++ rootEnd) := by decide +kernel
  have hn : numAt rootT 4096 8 = 5618547277980341109 := by decide +kernel
  have h0 : rootStart.foldl (crcByte 0xC96C5795D7870F42#64) (BitVec.allOnes 64) = 3106468246093155937#64 := by decide +kernel
  have h1 : (zeros 512).foldl (crcByte 0xC96C5795D7870F42#64) 3106468246093155937#64 = 10900010176299351100#64 := by decide +kernel
  have h2 : (zeros 512).foldl (crcByte 0xC96C5795D7870F42#64) 10900010176299351100#64 = 11376162441860528311#64 := by decide +kernel
  have h3 : (zeros 512).foldl (crcByte 0xC96C5795D7870F42#64) 11376162441860528311#64 = 17915720256632778124#64 := by decide +kernel
  have h4 : (zeros 512).foldl (crcByte 0xC96C5795D7870F42#64) 17915720256632778124#64 = 7430602362963533469#64 := by decide +kernel
  have h5 : (zeros 512).foldl (crcByte 0xC96C5795D7870F42#64) 7430602362963533469#64 = 15995775369242299329#64 := by decide +kernel
  have h6 : (zeros 512).foldl (crcByte 0xC96C5795D7870F42#64) 15995775369242299329#64 = 17578253389176270795#64 := by decide +kernel
  have h7 : (zeros 508 ++ rootEnd).foldl (crcByte 0xC96C5795D7870F42#64) 17578253389176270795#64 = 12828196795729210506#64 := by decide +kernel
  rw [List.foldl_append] at h7
  unfold tileCrcOk crc64
  rw [h, hn]
  simp only [List.foldl_append]
  rw [h0, h1, h2, h3, h4, h5, h6, h7]
  decide

theorem rootT_crc32 : (crc32 (slice rootT 0 4092)).toNat = 1806386902 := by
  have h : slice rootT 0 4092 = rootStart ++ zeros 512 ++ zeros 512 ++ zeros 512 ++ zeros 512 ++ zeros 512 ++ zeros 512
      ++ zeros 508 := by decide +kernel
  have h0 : rootStart.foldl (crcByte 0xEDB88320#32) (BitVec.allOnes 32) = 2510980409#32 := by decide +kernel
  have h1 : (zeros 512).foldl (crcByte 0xEDB88320#32) 2510980409#32 = 4123092286#32 := by decide +kernel
  have h2 : (zeros 512).foldl (crcByte 0xEDB88320#32) 4123092286#32 = 1408787088#32 := by decide +kernel
  have h3 : (zeros 512).foldl (crcByte 0xEDB88320#32) 1408787088#32 = 1298418740#32 := by decide +kernel
  have h4 : (zeros 512).foldl (crcByte 0xEDB88320#32) 1298418740#32 = 1060218228#32 := by decide +kernel
  have h5 : (zeros 512).foldl (crcByte 0xEDB88320#32) 1060218228#32 = 2369186942#32 := by decide +kernel
  have h6 : (zeros 512).foldl (crcByte 0xEDB88320#32) 2369186942#32 = 2641282351#32 := by decide +kernel
  have h7 : (zeros 508).foldl (crcByte 0xEDB88320#32) 2641282351#32 = 2488580393#32 := by decide +kernel
  unfold crc32
  rw [h]
  simp only [List.foldl_append]
  rw [h0, h1, h2, h3, h4, h5, h6, h7]
  decide

theorem crcBad : tileCrcOk (infoBlock 0) = false := by
  simp only [tileCrcOk, show tileData (infoBlock 0) = zeros 4096 from by decide +kernel,
    show numAt (infoBlock 0) 4096 8 = 0 from by decide +kernel, crc64_zeros]; decide

/-- A codeword whose information block is a tile of zeros with its CRC. -/
def word7 : Nat := ldpcEncode dataCode (leNat (zeroTile []))

theorem rootT_parse : parseRoot rootT = some root0 := by
  unfold parseRoot
  rw [rootT_crc32]
  decide +kernel

/-- A part finds its index where the root track holds one good root alone. -/
theorem recovers_of (r : List Byte) (hc : tileCrcOk r = true) (ht : tileType r = 3) (hp : parseRoot r = some root0) (s : State)
    (h : s.media.drive = some drive) (hs : (Assoc.find s.disk.sectors (psaOf 0 100 0)).isSome = true)
    (hb : ([0, 12].flatMap (fun h => (List.range 16).map (fun i => psaOf h 100 i))).map s.mediaBlock = some r :: List.replicate 31 none) :
    s.recoverIndex.isSome = true := by
  have hl : [0, 12].flatMap (fun h => (List.range 16).map (fun i => psaOf h 100 i)) =
      psaOf 0 100 0 :: ([0, 12].flatMap (fun h => (List.range 16).map (fun i => psaOf h 100 i))).tail := by decide +kernel
  rw [hl, List.map_cons, List.cons.injEq] at hb
  have hr : s.roots 100 = [root0] := by
    unfold State.roots
    rw [hl, List.filterMap_cons]
    have hg : (s.goodTile (psaOf 0 100 0) 3 (fun t => numAt t 8 8) (fun _ => 0)).bind parseRoot = some root0 := by
      simp [State.goodTile, hb.1, hc, ht, hs, hp]
    have ht0 : (([0, 12].flatMap (fun h => (List.range 16).map (fun i => psaOf h 100 i))).tail).filterMap
        (fun p => (s.goodTile p 3 (fun t => numAt t 8 8) (fun _ => 0)).bind parseRoot) = [] := by
      rw [List.filterMap_eq_nil_iff]
      intro p hp'
      have hm : s.mediaBlock p ∈ List.replicate 31 none := by rw [← hb.2]; exact List.mem_map_of_mem hp'
      have hn := List.eq_of_mem_replicate hm
      simp [State.goodTile, hn]
    rw [hg, ht0]
  have h1 : bestRoot (s.roots drive.rootTrack) = some root0 := by
    rw [show drive.rootTrack = 100 from rfl, hr]; rfl
  have h2 : ∀ (t : State) (ty : Nat), t.tilesIn root0.ckpt ty = some [] := fun _ _ => rfl
  have h3 : ∀ (t : State) (ty : Nat), t.tilesIn root0.defects ty = some [] := fun _ _ => rfl
  unfold State.recoverIndex
  simp only [h, h1, h2, h3, Option.map_some, Option.isSome_some]

theorem recovers (s : State) (h : s.media.drive = some drive) (hs : (Assoc.find s.disk.sectors (psaOf 0 100 0)).isSome = true)
    (hb : ([0, 12].flatMap (fun h => (List.range 16).map (fun i => psaOf h 100 i))).map s.mediaBlock = some rootT :: List.replicate 31 none) :
    s.recoverIndex.isSome = true :=
  recovers_of rootT rootT_crc64 (by decide +kernel) rootT_parse s h hs hb

/-- A buffered tile that reads good is sent. -/
theorem sends (s : State) (t : MigTx) (o : MigOffer) (i pseq : Nat) (g : Seg) (k : Nat) (h : tileOf o.v.segs i = some (g, k))
    (hd : g.durable = false)
    (hg : ((s.chargeSend [g]).readSlot (g.slots.getD k 0)).tileGood (g.slots.getD k 0)
      (some (tagOf (keyHash (keyBytes o.v.key)) g.num k)) = true) :
    (s.sendTile t o i pseq).2 = true := by
  simp [State.sendTile, State.readTile, h, hd, hg, -List.getD_eq_getElem?_getD]

/-- A wedge with every dibit the demodulator takes. -/
def wedgeWf : WedgeData := { wedge with tid := List.replicate 22 (0, 1), rro := List.replicate 12 (0, 1) }

/-- Operands out of range, one for each check: refused (part 1). -/
theorem test_wf_refuses_1 : (
    [.railOutOfRange 447, .railOutOfRange 457, .mediaServiceTimeout 2, .cobalt [] [24] (0, 0), .clockMonitorGate [112] [],
     .clockMonitorGate [] [112], .tintPeriod 0 (some (16, 0)), .floorRecompute 2 0, .hostShareSwitch 2 0 false,
     .sectorWrite 2 none, .sectorWrite 0 (some (13, 0)), .journalRecordWrite 2 [], .journalRecordWrite 0 [13],
     .journalResume 2, .checkpoint (some (0, [13])), .reallocation 0 false [13], .sectorRead 2 0 0 cap0 false none,
     .sectorRead 0 0 1 cap0 false none, .sectorRead 0 0 0 { cap0 with pieces := [[[]]] } false none,
     .sectorRead 0 0 0 { cap0 with soft := [16] } false none, .sectorRead 0 0 0 { cap0 with gain := 128 } false none,
     .decodeComplete 4 0, .spillDrainDone 4, .decodeOvertime 4, .sampleCopyDone 2,
     .recoveryStepEnd 0 0 false (some { cap0 with pieces := [[[]]] }),
     .recoveryStepEnd 0 0 false (some { cap0 with soft := [16] }), .recoveryStepEnd 0 0 false (some { cap0 with gain := 128 }),
     .scrubRead 2 0 false cap0 [], .scrubRead 0 0 false cap0 [13], .scrubRead 0 0 false { cap0 with pieces := [[[]]] } [],
     .scrubRead 0 0 false { cap0 with soft := [16] } [], .scrubRead 0 0 false { cap0 with gain := 128 } [],
     .scrubRecheck 0 0 false cap0 [13], .scrubRecheck 0 0 false { cap0 with pieces := [[[]]] } [],
     .scrubRecheck 0 0 false { cap0 with soft := [16] } [], .scrubRecheck 0 0 false { cap0 with gain := 128 } [],
     .qualificationRateResult 24 0 0 0 [], .qualificationRateResult 0 64 0 0 [], .formatDrive [], .gateMonitorMismatch 2,
     .writeInhibit 2 0, .writeInhibit 0 13, .inhibitRelease 2, .writeRetriesExhausted 2] : List Instr).any Instr.wf = false := by decide +kernel

/-- Operands out of range, one for each check: refused (part 2). -/
theorem test_wf_refuses_2 : (
    [.preampFault 2 0 false, .preampFault 0 256 false, .preScmdGo 2 false 0 0 none [], .preScmdGo 0 false 128 0 none [],
     .preScmdGo 0 false 0 256 none [], .headSwitch 2 0 [] [], .headSwitch 0 12 [] [], .headSwitchSettle 2,
     .servoWedge 2 wedgeWf false 0, .servoWedge 0 { wedgeWf with tid := [] } false 0,
     .servoWedge 0 { wedgeWf with wid := [] } false 0, .servoWedge 0 { wedgeWf with rro := [] } false 0,
     .servoWedge 0 { wedgeWf with marks := [(0, 1024)] } false 0, .wedgePredicted 2 false 0, .wedgeSequenceLost 2,
     .reacquireTimeout 2, .cleOverrun 2, .srvTargetWrite 2 0, .cleLoopEnable 9, .headLoad 2 [] none 0,
     .headLoad 0 [{ wedgeWf with tid := [] }] none 0, .loadNoLock 2 0, .runoutLearnTimeout 24, .pwmPeriod false [] [0, 0] 0 0,
     .pwmPeriod false [0, 0, 0] [] 0 0, .pwmPeriod false [0, 0, 0] [0, 0] 65536 0, .bemfZeroCrossing 0 6, .vcmSetpointLoss 2,
     .retractVelocityEnd 2 0 0 false, .retractEnd 2, .vcmShort 2 0 false, .vcmOpen 2 0, .dramAccess 0 [(84, 0)] 0 0,
     .dramAccess 0 [(0, 256)] 0 0, .dramAccess 0 [] 0 16, .mergeWrite 0 0 [(64, 0)], .mergeWrite 0 16 [],
     .dqsOscillatorRead 4 0, .cxlMemAccess 0 (some [(64, 0)]) false, .linkTraining 3 1 false [], .linkTraining 1 0 false [],
     .linkTraining 1 6 false [], .linkTraining 1 1 false [11], .configRequest 4096 0 none false [],
     .configRequest 0 16 none false []] : List Instr).any Instr.wf = false := by decide +kernel

/-- Operands out of range, one for each check: refused (part 3). -/
theorem test_wf_refuses_3 : (
    [.doorbellWrite 8388608 0 0 none, .msixUnmask 512, .ideKmMessage 2 0 false, .ideKmMessage 0 3 false,
     .ideIntegrityFail 2 [], .completionTimeout (some 32) 0 false ⟨[], [], []⟩ [],
     .poisonReceived false (some 32) 0 false ⟨[], [], []⟩ [], .hostSnoop 1 false [] none, .writebackGo 1,
     .unplacedMailboxPoll 1048576 none, .hccParitySweep 4096 [], .mailboxSnoop 1048576 none, .entryAccept (some []) none,
     .headWordReread (some 65536) none, .headWordReread none (some 65536), .ringFullTimeout 65536, .coalescingTimeout 256,
     .identify 32 noHost, .createQueue 32, .deleteQueue 32 [], .resetQueue 32 [], .createCring 32, .deleteCring 32,
     .arm 32 none none, .disarm 32 none, .fwDownload 32 noHost none, .fwCommit 32 false false, .fwCommitTrial 32 false false,
     .fwCommitBootLoader 32 false, .fwActivate 32, .dictRead 32 noHost, .dictWrite 32 noHost act, .eventRingSetup 32,
     .putSegment 0 0 noHost, .putSegment 1048576 0 noHost, .putSegment 1 32 noHost, .seal 0 0 noHost false,
     .seal 1048576 0 noHost false, .seal 1 32 noHost false, .getRange 0 0 noHost, .getRange 1048576 0 noHost,
     .getRange 1 32 noHost, .stat 0 0 noHost, .stat 1048576 0 noHost, .stat 1 32 noHost] : List Instr).any Instr.wf = false := by decide +kernel

/-- Operands out of range, one for each check: refused (part 4). -/
theorem test_wf_refuses_4 : (
    [.list 0 0 noHost, .list 1048576 0 noHost, .list 1 32 noHost, .delete 0 0 noHost, .delete 1048576 0 noHost,
     .delete 1 32 noHost, .setRetention 0 0 noHost, .setRetention 1048576 0 noHost, .setRetention 1 32 noHost,
     .verify 0 0 noHost 0, .verify 1048576 0 noHost 0, .verify 1 32 noHost 0, .flush 0 0 noHost, .flush 1048576 0 noHost,
     .flush 1 32 noHost, .flushComplete 0 0, .flushComplete 1048576 0, .flushComplete 1 32, .migrate 0 0 noHost 0 [],
     .migrate 1048576 0 noHost 0 [], .migrate 1 32 noHost 0 [], .migrateToHost 0 0 noHost, .migrateToHost 1048576 0 noHost,
     .migrateToHost 1 32 noHost, .abort 1048576 0, .abort 0 32, .abortResolve 1048576 0, .abortResolve 0 32,
     .dmaGo 32 [] [] false, .dmaAbort 32 0 ⟨[], [], []⟩ none, .dmaResume 32, .dmaHalt 32 0 false 0 ⟨[], [], []⟩ [],
     .dmaDone 32 ⟨[], [], []⟩, .dmaStall 32, .neighborSolicitation [] (zeros 16), .neighborSolicitation (zeros 16) [],
     .echoRequest [] [], .hello { dgram 1 0 [] with port := 65536 } (zeros 16), .hello (dgram 1 0 []) [],
     .helloAck { dgram 1 0 [] with port := 65536 }, .confirm { dgram 1 0 [] with port := 65536 },
     .offer { dgram 1 0 [] with port := 65536 }, .data { dgram 1 0 [] with port := 65536 }, .receiveDurable 0 0,
     .receiveDurable 17 0] : List Instr).any Instr.wf = false := by decide +kernel

/-- Operands out of range, one for each check: refused (part 5). -/
theorem test_wf_refuses_5 : (
    [.sack { dgram 1 0 [] with port := 65536 }, .result { dgram 1 0 [] with port := 65536 },
     .keepalive { dgram 1 0 [] with port := 65536 }, .close { dgram 1 0 [] with port := 65536 }, .sackTimer 0, .sackTimer 17,
     .peerSilence (some 17) 0 [], .read (zeros 65), .write (zeros 65) act, .readInit (zeros 65), .writeInit (zeros 65) act,
     .segment (zeros 65) act, .segAck (zeros 65), .gdpAbort (zeros 65), .keep (zeros 65),
     .lifecycleTransition 4294967296 none good, .unlock [], .newPassword [], .loopbackStop 1 0 false, .loopbackEnd 1 0 false,
     .nvcProgram 2048 0 0 [], .nvcProgram 0 256 0 [], .nvcProgram 0 0 8 [], .nvcProgram 0 0 0 [0], .nvcErase 2048,
     .faultMessage 512 0 0 false false, .faultMessage 0 64 0 false false, .faultMessage 0 0 281474976710656 false false,
     .clearSticky 512, .watchdogExpiry 5 good, .lockstepMismatch 4 good, .rcRegisterRead 1 0 4, .rcRegisterRead 0 0 3,
     .registerWrite 2 0 4 0, .registerWrite 0 0 3 0, .fltNRelease 2, .spdmRequest 5 [],
     .hello { dgram 1 0 [] with src := [] } (zeros 16), .hello { dgram 1 0 [] with dst := [] } (zeros 16),
     .hello (dgram 1 0 (zeros 4165)) (zeros 16)] : List Instr).any Instr.wf = false := by decide +kernel

/-- The same commands with operands in range: accepted (part 1). -/
theorem test_wf_accepts_1 : (
    [.railOutOfRange 448, .mediaServiceTimeout 0, .cobalt [] [] (0, 0), .clockMonitorGate [] [], .tintPeriod 0 none,
     .floorRecompute 0 0, .hostShareSwitch 0 0 false, .sectorWrite 0 none, .journalRecordWrite 0 [], .journalResume 0,
     .checkpoint none, .reallocation 0 false [], .sectorRead 0 0 0 cap0 false none, .decodeComplete 0 0, .spillDrainDone 0,
     .decodeOvertime 0, .sampleCopyDone 0, .recoveryStepEnd 0 0 false none, .scrubRead 0 0 false cap0 [],
     .scrubRecheck 0 0 false cap0 [], .qualificationRateResult 0 0 0 0 [], .formatDrive (zeros 16), .gateMonitorMismatch 0,
     .writeInhibit 0 0, .inhibitRelease 0, .writeRetriesExhausted 0, .preampFault 0 0 false, .preScmdGo 0 false 0 0 none [],
     .headSwitch 0 0 [] [], .headSwitchSettle 0, .servoWedge 0 wedgeWf false 0, .wedgePredicted 0 false 0,
     .wedgeSequenceLost 0, .reacquireTimeout 0, .cleOverrun 0, .srvTargetWrite 0 0, .cleLoopEnable 0, .headLoad 0 [] none 0,
     .loadNoLock 0 0, .runoutLearnTimeout 0, .pwmPeriod false [0, 0, 0] [0, 0] 0 0, .bemfZeroCrossing 0 0, .vcmSetpointLoss 0,
     .retractVelocityEnd 0 0 0 false, .retractEnd 0, .vcmShort 0 0 false, .vcmOpen 0 0, .dramAccess 0 [] 0 0,
     .mergeWrite 0 0 [], .dqsOscillatorRead 0 0, .cxlMemAccess 0 none false, .linkTraining 1 1 false [],
     .configRequest 0 0 none false [], .doorbellWrite 0 0 0 none, .msixUnmask 0, .ideKmMessage 0 0 false,
     .ideIntegrityFail 0 [], .completionTimeout none 0 false ⟨[], [], []⟩ [],
     .poisonReceived false none 0 false ⟨[], [], []⟩ [], .hostSnoop 0 false [] none] : List Instr).all Instr.wf = true := by decide +kernel

/-- The same commands with operands in range: accepted (part 2). -/
theorem test_wf_accepts_2 : (
    [.writebackGo 0, .unplacedMailboxPoll 0 none, .hccParitySweep 0 [], .mailboxSnoop 0 none, .entryAccept none none,
     .headWordReread none none, .ringFullTimeout 0, .coalescingTimeout 0, .identify 0 noHost, .createQueue 0,
     .deleteQueue 0 [], .resetQueue 0 [], .createCring 0, .deleteCring 0, .arm 0 none none, .disarm 0 none,
     .fwDownload 0 noHost none, .fwCommit 0 false false, .fwCommitTrial 0 false false, .fwCommitBootLoader 0 false,
     .fwActivate 0, .dictRead 0 noHost, .dictWrite 0 noHost act, .eventRingSetup 0, .putSegment 1 0 noHost,
     .seal 1 0 noHost false, .getRange 1 0 noHost, .stat 1 0 noHost, .list 1 0 noHost, .delete 1 0 noHost,
     .setRetention 1 0 noHost, .verify 1 0 noHost 0, .flush 1 0 noHost, .flushComplete 1 0, .migrate 1 0 noHost 0 [],
     .migrateToHost 1 0 noHost, .abort 0 0, .abortResolve 0 0, .dmaGo 0 [] [] false, .dmaAbort 0 0 ⟨[], [], []⟩ none,
     .dmaResume 0, .dmaHalt 0 0 false 0 ⟨[], [], []⟩ [], .dmaDone 0 ⟨[], [], []⟩, .dmaStall 0,
     .neighborSolicitation (zeros 16) (zeros 16), .echoRequest (zeros 16) [], .hello (dgram 1 0 []) (zeros 16),
     .helloAck (dgram 1 0 []), .confirm (dgram 1 0 []), .offer (dgram 1 0 []), .data (dgram 1 0 []), .receiveDurable 1 0,
     .sack (dgram 1 0 []), .result (dgram 1 0 []), .keepalive (dgram 1 0 []), .close (dgram 1 0 []), .sackTimer 1,
     .peerSilence none 0 [], .read [], .write [] act] : List Instr).all Instr.wf = true := by decide +kernel

/-- The same commands with operands in range: accepted (part 3). -/
theorem test_wf_accepts_3 : (
    [.readInit [], .writeInit [] act, .segment [] act, .segAck [], .gdpAbort [], .keep [], .lifecycleTransition 0 none good,
     .unlock (zeros 16), .newPassword (zeros 16), .loopbackStop 0 0 false, .loopbackEnd 0 0 false, .nvcProgram 0 0 0 [],
     .nvcErase 0, .faultMessage 0 0 0 false false, .clearSticky 0, .watchdogExpiry 0 good, .lockstepMismatch 0 good,
     .rcRegisterRead 0 0 4, .registerWrite 0 0 4 0, .fltNRelease 0, .spdmRequest 0 []] : List Instr).all Instr.wf = true := by decide +kernel

-- ---------------------------------------------------------------------------------------------------------------
-- Values that the spec works out

/-- The check values of R114, over the ASCII bytes of 123456789. -/
theorem test_crc32_check : crc32 [0x31, 0x32, 0x33, 0x34, 0x35, 0x36, 0x37, 0x38, 0x39] = 0xCBF43926#32 := by decide +kernel
theorem test_crc64_check : crc64 [0x31, 0x32, 0x33, 0x34, 0x35, 0x36, 0x37, 0x38, 0x39] = 0x995DC9BBDF1939FA#64 := by
  decide +kernel

/-- The zone of the worked example of spec/04. -/
def zoneExample : Zone := ⟨0, 0, 608, 0, 20000, 200, 0, 230, 0, 2918400, 44540, 0, 256, 160⟩
theorem test_layout_of_608_sectors : layoutValid zoneExample 608 = true := by decide +kernel
theorem test_efficiency : efficiency zoneExample 9002 = 9098 := by decide +kernel

/-- FRAC of R259 at 3,993,600 kb/s and at 4,000,000 kb/s. -/
theorem test_frac : fracOf { zoneExample with rate := 3993600 } = 0x6A7EFA ∧ fracOf { zoneExample with rate := 4000000 } = 0x6AAAAB := by
  decide +kernel

/-- The sets of two mailboxes of R500's example. -/
theorem test_hcc_sets : hccSet ((0x2000000000 + 0x40000 * 5) / 64) = 0x085 ∧ hccSet ((0x2000000000 + 0x40000 * 4101) / 64) = 0x084 := by
  decide +kernel

/-- The ramp of R285's example: 920 units in 8 wedges. -/
theorem test_ramp : (List.range 8).map (fun n => (⟨0, 0, n + 1, 8⟩ : Ramp).at_ 920) = [35, 135, 284, 460, 636, 785, 885, 920] := by
  decide +kernel

/-- The scrub period of R362's example: 16 GiB in use, one pass in 24 hours. -/
theorem test_patrol_period : (run.setF Fld.BMC_CFG_CHSIZE 1).patrolPeriod 24 = 32186 := by decide +kernel

/-- SHA-256 of "abc" begins BA7816BF (FIPS 180-4). -/
theorem test_sha256_abc : (sha256 [0x61, 0x62, 0x63]).take 4 = [0xBA, 0x78, 0x16, 0xBF] := by decide +kernel

/-- A rail out of range takes the core die into reset; the next command waits behind it. -/
theorem test_step_front : (match step { run with pending := [.pwrGoodFall, .beaconDrop] } with
    | .next t => t.pwr.held && t.pending == [.beaconDrop] | _ => false) = true := by decide +kernel

/-- With nothing waiting, a powered part's clock goes on by 1 µs. -/
theorem test_step_idle : (match step run with | .next t => t.pwr.timeUs == 1 | _ => false) = true := by decide +kernel

/-- STEP of R169's example. -/
theorem test_step : stepOf { zoneExample with rate := 3993600 } = 0x133B14 ∧ stepOf { zoneExample with rate := 1000000 } = 0x4CCCCD := by
  decide +kernel

/-- The two marks of R180's example: p = −3 with 410 and p = 0 with 398, which is alike; one with 370 would not be. -/
def twoMarks : List Cand :=
  rankCands (markPeaks 288 (List.replicate 21 0 ++ [410, 0, 0, 398] ++ List.replicate 24 0) (-24) (-481))
theorem test_two_marks : twoMarks.map (fun c => (c.offset, c.metric)) = [(-3, 410), (0, 398)] := by decide +kernel
theorem test_two_marks_alike : twoMarks.map (alike 32 twoMarks) = [true, true] ∧ alike 32 twoMarks ⟨0, 370, 0⟩ = false := by
  decide +kernel

/-- The bounds of CHN_MARKWIN's fields. -/
theorem test_markwin_bounds : markWindow 0 = 0x208 ∧ markWindow 0x3F1F7F = 0x201040 := by decide +kernel

/-- States and operands that meet the premises of `SupplyEdgesRunTheirEffect`, clause by clause. -/
theorem test_witness_SupplyEdgesRunTheirEffect :
  (∃ (v12 v33 : Nat) (node : BitVec 7) (s u : State), 10200 ≤ v12 ∧ 3000 ≤ v33 ∧ s.pwr.good = false ∧ s.pwr.porstLow = true ∧ u
    =
    ((({ s with pwr := { s.pwr with v12Good := true, v33Good := true, good := true, timeUs := 0 }, media := { s.media with passUs := [0, 0] } }
    : State).enterAsh node v12).setF Fld.PLT_RSTCAUSE_MOTION_POR (b2n s.ash.armed))) ∧
  (∃ (v12 v33 : Nat) (node : BitVec 7) (s u : State), 10200 ≤ v12 ∧ 3000 ≤ v33 ∧ s.pwr.good = false ∧ s.pwr.porstLow = false ∧
    u =
    (((({ s with pwr := { s.pwr with v12Good := true, v33Good := true, good := true, timeUs := 0 }, media := { s.media with passUs := [0, 0] } }
    : State).powerOnReset false Fld.PLT_RSTCAUSE_MOTION_POR).enterAsh node v12).setF Fld.PLT_RSTCAUSE_MOTION_POR (b2n
    s.ash.armed))) ∧
  (∃ (v12 v33 : Nat) (s : State), 10200 ≤ v12 ∧ 3000 ≤ v33 ∧ s.pwr.good = true) ∧
  (∃ (v12 v33 : Nat), (v12 < 9800 ∨ v33 < 2850)) ∧
  (∃ (s : State), s.pwr.pwrGood = true ∧ s.coreRuns = true) ∧
  (∃ (s : State), s.pwr.pwrGood = true ∧ s.coreRuns = false) ∧
  (∃ (src : Nat) (s : State), 448 ≤ src ∧ src ≤ 456 ∧ s.coreRuns = false) ∧
  (∃ (src : Nat) (s : State), 448 ≤ src ∧ src ≤ 456 ∧ s.coreRuns = true) ∧
  (∃ (s u : State), u = { s with pwr := { s.pwr with pwrGood := true, railsOut := [] } }) :=
  ⟨
    ⟨10200, 3000, 0, State.reset, _, (by decide +kernel), (by decide +kernel), (by decide +kernel), (by decide +kernel), rfl⟩,
    ⟨10200, 3000, 1, { State.reset with pwr := { State.reset.pwr with porstLow := false, held := false } }, _,
      (by decide +kernel), (by decide +kernel), (by decide +kernel), (by decide +kernel), rfl⟩,
    ⟨10200, 3000, { (run.setF Fld.MFE_PROT_PWRLOSS 1) with mfe := { run.mfe with supplyLow := true } }, (by decide +kernel),
      (by decide +kernel), (by decide +kernel)⟩,
    ⟨9799, 2850, (by omega)⟩,
    ⟨run, (by decide +kernel), (by decide +kernel)⟩,
    ⟨{ run with pwr := { run.pwr with held := true } }, (by decide +kernel), (by decide +kernel)⟩,
    ⟨448, { run with pwr := { run.pwr with held := true } }, (by decide +kernel), (by decide +kernel), (by decide +kernel)⟩,
    ⟨456, run, (by decide +kernel), (by decide +kernel), (by decide +kernel)⟩,
    ⟨{ run with pwr := { run.pwr with held := true } }, _, rfl⟩⟩

/-- States and operands that meet the premises of `ResetInputsRunTheirEffect`, clause by clause. -/
theorem test_witness_ResetInputsRunTheirEffect :
  (∃ (s : State), s.pwr.porstLow = false) ∧
  (∃ (s : State), s.pwr.porstLow = true) ∧
  (∃ (s : State), s.coreRuns = true) ∧
  (∃ (s : State), s.coreRuns = false) ∧
  (∃ (s : State), s.pwr.porstLow = false ∧ s.pwr.held = true ∧ s.boot.slateFailed = false ∧ s.pwr.rootOk = false ∧
    s.pwr.pwrGood = true ∧ s.pwr.railsOut = []) ∧
  (∃ (s : State), (s.pwr.porstLow = true ∨ s.pwr.held = false)) ∧
  (∃ (s : State), s.boot.slateRunning = true ∧ s.boot.slateDone = false) :=
  ⟨
    ⟨run, (by decide +kernel)⟩,
    ⟨State.reset, (by decide +kernel)⟩,
    ⟨run, (by decide +kernel)⟩,
    ⟨{ run with pwr := { run.pwr with held := true } }, (by decide +kernel)⟩,
    ⟨{ run with pwr := { run.pwr with held := true, rootOk := false } }, (by decide +kernel), (by decide +kernel),
      (by decide +kernel), (by decide +kernel), (by decide +kernel), (by decide +kernel)⟩,
    ⟨run, (by decide +kernel)⟩,
    ⟨(booted { Boot.reset with slateRunning := true, slateStep := 9 } run), (by decide +kernel), (by decide +kernel)⟩⟩

/-- States and operands that meet the premises of `SlateEndAndBeaconRunTheirEffect`, clause by clause. -/
theorem test_witness_SlateEndAndBeaconRunTheirEffect :
  (∃ (s u : State), s.coreRuns = true ∧ s.boot.slateDone = false ∧ (s.boot.slateStep = 9 ∨ (s.boot.slateStep = 7 ∧ s.tst.hold =
    true)) ∧ u =
    (((((({ s with boot := { s.boot with slateDone := true, slateRunning := false, slateStep := 10 }, ash := { s.ash with beaconOn := false } }
    : State).canUp).setF Fld.ETH_STATUS_REFOK 1).setStage 1).forwardKept).tellTransition)) ∧
  (∃ (v12 vbus : Nat) (s u : State), s.beaconDue = true ∧ u = (s.setF Fld.MFE_VSENSE_V12 (senseVolts v12)).setF
    Fld.MFE_VSENSE_VBUS (senseVolts vbus)) ∧
  (∃ (v12 vbus : Nat) (temp : BitVec 8) (s u t : State), s.beaconDue = true ∧ u = (s.setF Fld.MFE_VSENSE_V12 (senseVolts
    v12)).setF Fld.MFE_VSENSE_VBUS (senseVolts vbus) ∧ t =
    { u with ash := { u.ash with seq := u.ash.seq + 1, temp := temp, queued := false, frame := u.beaconBytes (senseVolts v12) (senseVolts vbus) (s.speed16 / 16) temp } }) ∧
  (∃ (s : State), s.beaconDue = false) ∧
  (∃ (s : State), s.boot.slateDone = true ∧ s.stage = 1) ∧
  (∃ (s : State), (s.boot.slateDone = false ∨ s.stage ≠ 1)) :=
  ⟨
    ⟨(booted { Boot.reset with slateRunning := true, slateStep := 9 } run), _, (by decide +kernel), (by decide +kernel),
      (by decide +kernel), rfl⟩,
    ⟨1200, 1200, { run with ash := { run.ash with nodeId := 1, beaconOn := true } }, _, (by decide +kernel), rfl⟩,
    ⟨1200, 1200, 30, { run with ash := { run.ash with nodeId := 1, beaconOn := true } }, _, _, (by decide +kernel), rfl, rfl⟩,
    ⟨run, (by decide +kernel)⟩,
    ⟨(atStage 1), (by decide +kernel), (by decide +kernel)⟩,
    ⟨(atStage 3), (by decide +kernel)⟩⟩

/-- States and operands that meet the premises of `ResetRequestsRunTheirEffect`, clause by clause. -/
theorem test_witness_ResetRequestsRunTheirEffect :
  (∃ (s : State), s.takesRequest true = true) ∧
  (∃ (s : State), s.takesRequest false = true) ∧
  (∃ (s : State), s.takesRequest true = true) ∧
  (∃ (s : State), s.takesRequest true = true) ∧
  (∃ (s : State), s.takesRequest false = true) ∧
  (∃ (s : State), s.takesRequest false = true) ∧
  (∃ (s : State), s.takesRequest false = true) ∧
  (∃ (s : State), s.takesRequest false = true) ∧
  (∃ (k : Nat), k < 2) ∧
  (∃ (s : State), s.coreRuns = true ∧ s.deployed = true) :=
  ⟨
    ⟨run, (by decide +kernel)⟩,
    ⟨run, (by decide +kernel)⟩,
    ⟨run, (by decide +kernel)⟩,
    ⟨run, (by decide +kernel)⟩,
    ⟨run, (by decide +kernel)⟩,
    ⟨run, (by decide +kernel)⟩,
    ⟨run, (by decide +kernel)⟩,
    ⟨run, (by decide +kernel)⟩,
    ⟨1, (by decide +kernel)⟩,
    ⟨(fused 0xFFFF run), (by decide +kernel), (by decide +kernel)⟩⟩

/-- States and operands that meet the premises of `SpinUpAndOchreRunTheirEffect`, clause by clause (part 1). -/
theorem test_witness_SpinUpAndOchreRunTheirEffect_1 :
  (∃ (s : State), s.boot.slateDone = true ∧ s.stage = 1 ∧ s.boot.abandoned = false) ∧
  (∃ (s : State), s.stage ≠ 1) ∧
  (∃ (s : State), s.ochreMayBegin = true) ∧
  (∃ (s : State), s.stage = 1 ∧ s.boot.stageKept = false ∧ s.isSet Fld.SPM_STATUS_AT_SPEED = false ∧ s.getF
    Fld.PLT_STAGE_ATTEMPT < 255) ∧
  (∃ (s : State), (s.stage = 2 ∨ (s.boot.stageKept = true ∧ s.boot.ochreRunning = true)) ∧ s.isSet Fld.FCL_STATUS_SAFE = false) ∧
  (∃ (s : State), s.boot.retryWait = true ∧ s.stage = 1 ∧ s.boot.slateDone = true ∧ s.motionLinkUp = true ∧ s.retracting 0 =
    false ∧ s.retracting 1 = false ∧ s.blackSet = false) ∧
  (∃ (s : State), s.boot.slateDone = true ∧ (s.stage = 1 ∨ s.stage = 2)) ∧
  (∃ (s : State), s.stage = 3) :=
  ⟨
    ⟨(atStage 1), (by decide +kernel), (by decide +kernel), (by decide +kernel)⟩,
    ⟨(atStage 3), (by decide +kernel)⟩,
    ⟨(linked (booted { slated with spinRequested := true } (atStage 1))), (by decide +kernel)⟩,
    ⟨(atStage 1), (by decide +kernel), (by decide +kernel), (by decide +kernel), (by decide +kernel)⟩,
    ⟨(atStage 2), (by decide +kernel), (by decide +kernel)⟩,
    ⟨(linked (booted { slated with retryWait := true } (atStage 1))), (by decide +kernel), (by decide +kernel),
      (by decide +kernel), (by decide +kernel), (by decide +kernel), (by decide +kernel), (by decide +kernel)⟩,
    ⟨(atStage 2), (by decide +kernel), (by decide +kernel)⟩,
    ⟨(atStage 3), (by decide +kernel)⟩⟩

/-- States and operands that meet the premises of `SpinUpAndOchreRunTheirEffect`, clause by clause (part 2). -/
theorem test_witness_SpinUpAndOchreRunTheirEffect_2 :
  (∃ (lost : List (Nat × Nat)) (stale : List Nat) (offsets : Nat × Nat) (s u v : State), s.boot.ochreRunning = true ∧ 3 ≤
    s.boot.ochreStep ∧ s.bothInService = true ∧ (((s.useIvory 0).useIvory 1).enableReaders 1).ivoryStep lost = (0, u) ∧ v =
    (u.enableReaders 7).tableStep stale offsets ∧ v.obj.recovered = true) ∧
  (∃ (lost : List (Nat × Nat)) (stale : List Nat) (offsets : Nat × Nat) (s u v w : State), s.boot.ochreRunning = true ∧ 3 ≤
    s.boot.ochreStep ∧ s.bothInService = true ∧ (((s.useIvory 0).useIvory 1).enableReaders 1).ivoryStep lost = (0, u) ∧ v =
    (u.enableReaders 7).tableStep stale offsets ∧ v.obj.recovered = false ∧ v.recoverIndex = some w) :=
  ⟨
    ⟨[], [], (0, 0), (booted { slated with ochreRunning := true, ochreStep := 3, locked := [0, 1] } (trained (withIvory
      { run with obj := { run.obj with recovered := true } }))), _, _, (by decide +kernel), (by decide +kernel),
      (by decide +kernel), (fst_is (by decide +kernel)), rfl, (by decide +kernel)⟩,
    ⟨[], [], (0, 0), (booted { slated with ochreRunning := true, ochreStep := 3, locked := [0, 1] } (trained (withIvory
      rooted))), _, _, _, (by decide +kernel), (by decide +kernel), (by decide +kernel), (fst_is (by decide +kernel)), rfl,
      (by decide +kernel), (some_is (recovers _ (by decide +kernel) (by decide +kernel) (by decide +kernel)))⟩⟩

/-- States and operands that meet the premises of `SpinUpAndOchreRunTheirEffect`, clause by clause (part 3). -/
theorem test_witness_SpinUpAndOchreRunTheirEffect_3 :
  (∃ (lost : List (Nat × Nat)) (stale : List Nat) (offsets : Nat × Nat) (s u v : State), s.boot.ochreRunning = true ∧ 3 ≤
    s.boot.ochreStep ∧ s.bothInService = true ∧ (((s.useIvory 0).useIvory 1).enableReaders 1).ivoryStep lost = (0, u) ∧ v =
    (u.enableReaders 7).tableStep stale offsets ∧ v.obj.recovered = false ∧ v.recoverIndex = none) ∧
  (∃ (lost : List (Nat × Nat)) (s u : State) (code : Nat), s.boot.ochreRunning = true ∧ 3 ≤ s.boot.ochreStep ∧ s.bothInService
    = true ∧ (((s.useIvory 0).useIvory 1).enableReaders 1).ivoryStep lost = (code, u) ∧ code ≠ 0) ∧
  (∃ (s : State), s.boot.reopen = false) :=
  ⟨
    ⟨[], [], (0, 0), (booted { slated with ochreRunning := true, ochreStep := 3, locked := [0, 1] } (trained (withIvory run))),
      _, _, (by decide +kernel), (by decide +kernel), (by decide +kernel), (fst_is (by decide +kernel)), rfl,
      (by decide +kernel), (by decide +kernel)⟩,
    ⟨[], (booted { slated with ochreRunning := true, ochreStep := 3, locked := [0, 1] } run), _, 0x22, (by decide +kernel),
      (by decide +kernel), (by decide +kernel), (fst_is (by decide +kernel)), (by decide +kernel)⟩,
    ⟨run, (by decide +kernel)⟩⟩

/-- States and operands that meet the premises of `DieLinkEventsRunTheirEffect`, clause by clause. -/
theorem test_witness_DieLinkEventsRunTheirEffect :
  (∃ (s : State), s.d2d.coreUp = true) ∧
  (∃ (s : State), s.d2d.coreUp = true ∧ s.d2d.resends < 4) ∧
  (∃ (s : State), s.d2d.coreUp = true ∧ s.d2d.motionResends < 4) ∧
  (∃ (s : State), s.d2d.coreUp = true ∧ 4 ≤ s.d2d.resends) ∧
  (∃ (s : State), s.d2d.coreUp = true ∧ 4 ≤ s.d2d.motionResends) ∧
  (∃ (s : State), (s.d2d.resends = 4 ∨ s.d2d.motionResends = 4)) ∧
  (∃ (s : State), s.motionLinkUp = true ∧ s.d2d.coreUp = true ∧ s.parked 0 = true ∧ s.parked 1 = true ∧ s.spinMode ≠ 5) ∧
  (∃ (s : State), s.coreRuns = true ∧ 7 ≤ s.boot.slateStep ∧ (s.motionLinkUp = false ∨ s.d2d.coreUp = false)) ∧
  (∃ (s : State), s.isSet Fld.ETH_STATUS_REFOK = true) ∧
  (∃ (s : State), s.coreRuns = true) ∧
  (∃ (k : Nat) (s u : State), s.mediaOut k = true ∧ u =
    { s with boot := { s.boot with svcTimedOut := insertNat (domMedia k) s.boot.svcTimedOut } }) ∧
  (∃ (k : Nat) (s : State), s.mediaOut k = false) :=
  ⟨
    ⟨(linked run), (by decide +kernel)⟩,
    ⟨{ (linked run) with d2d := ⟨true, 3, 0, 0⟩ }, (by decide +kernel), (by decide +kernel)⟩,
    ⟨{ (linked run) with d2d := ⟨true, 0, 3, 0⟩ }, (by decide +kernel), (by decide +kernel)⟩,
    ⟨{ (linked run) with d2d := ⟨true, 4, 0, 0⟩ }, (by decide +kernel), (by decide +kernel)⟩,
    ⟨{ (linked run) with d2d := ⟨true, 0, 4, 0⟩ }, (by decide +kernel), (by decide +kernel)⟩,
    ⟨{ (linked run) with d2d := ⟨true, 0, 4, 0⟩ }, (by decide +kernel)⟩,
    ⟨(((linked run).setF Fld.MFE_STATUS_PARKED0 1).setF Fld.MFE_STATUS_PARKED1 1), (by decide +kernel), (by decide +kernel),
      (by decide +kernel), (by decide +kernel), (by decide +kernel)⟩,
    ⟨run, (by decide +kernel), (by decide +kernel), (by decide +kernel)⟩,
    ⟨(run.setF Fld.ETH_STATUS_REFOK 1), (by decide +kernel)⟩,
    ⟨run, (by decide +kernel)⟩,
    ⟨0, (booted { slated with outOfService := [4] } run), _, (by decide +kernel), rfl⟩,
    ⟨1, run, (by decide +kernel)⟩⟩

/-- States and operands that meet the premises of `BudgetEventsRunTheirEffect`, clause by clause. -/
theorem test_witness_BudgetEventsRunTheirEffect :
  (∃ (out : List Nat) (s : State), ((∀ d, d ∈ out → d ∉ s.clk.outside))) ∧
  (∃ (d : Nat) (s : State), d < 112 ∧ d ∈ s.clk.outside) ∧
  (∃ (s : State), s.tntReset = true) ∧
  (∃ (s : State), s.tntReset = false ∧ s.tint.copy = s.tint.tokens) ∧
  (∃ (n v : Nat) (s : State), s.tntReset = false ∧ n < 16 ∧ s.tint.tokens.length = 16 ∧ s.tint.copy = s.tint.tokens ∧ v ≠
    s.tint.tokens.getD n 0) ∧
  (∃ (tok asked : List Nat) (s : State) (n : Nat), ((∀ n, n < 16 → s.isSet (Fld.TNT_CLASS_SLACK n) = false)) ∧ tintSum
    ((List.range 16).map (fun n => min (asked.getD n 0) (tok.getD n 0))) false ≤ s.getF Fld.TNT_TOTAL_TOTAL - tintSum tok true
    ∧ n < 16) ∧
  (∃ (k milliRevs f : Nat) (s : State), k < 2 ∧ scrubFloor (s.scrubUsLeft k) (s.getF Fld.SPM_SPEED_SPEED) (s.scrubTracksLeft k)
    milliRevs = some f) ∧
  (∃ (k milliRevs : Nat) (s : State), k < 2 ∧ scrubFloor (s.scrubUsLeft k) (s.getF Fld.SPM_SPEED_SPEED) (s.scrubTracksLeft k)
    milliRevs = none) ∧
  (∃ (s : State), s.getF Fld.TNT_CORE_MIG_PCT ≠ 0) ∧
  (∃ (s : State), s.getF Fld.TNT_CORE_MIG_PCT = 0) ∧
  (∃ (c ran : Nat) (s : State), c < 2 ∧ ran < s.getF Fld.TNT_CORE_HOST_PCT) ∧
  (∃ (ran : Nat) (s : State), 8 * s.getF Fld.TNT_CORE_MIG_PCT ≤ ran) ∧
  (∃ (ran : Nat) (s : State), ran < 8 * s.getF Fld.TNT_CORE_MIG_PCT) :=
  ⟨
    ⟨[3], run, (fun _ _ => List.not_mem_nil)⟩,
    ⟨111, { run with clk := ⟨[111]⟩ }, (by decide +kernel), (by decide +kernel)⟩,
    ⟨run, (by decide +kernel)⟩,
    ⟨{ run with tint := { run.tint with tokens := List.replicate 16 0, copy := List.replicate 16 0 } }, (by decide +kernel),
      (by decide +kernel)⟩,
    ⟨15, 8, { run with tint := { run.tint with tokens := List.replicate 16 0, copy := List.replicate 16 0 } },
      (by decide +kernel), (by decide +kernel), (by decide +kernel), (by decide +kernel), (by decide +kernel)⟩,
    ⟨[], [], ((List.range 16).foldl (fun (t : State) n => t.setF (Fld.TNT_CLASS_SLACK n) 0) run), 15, (by decide +kernel),
      (by decide +kernel), (by decide +kernel)⟩,
    ⟨1, 0, 0, run, (by decide +kernel), (by decide +kernel)⟩,
    ⟨0, 1000, (known run), (by decide +kernel), (by decide +kernel)⟩,
    ⟨run, (by decide +kernel)⟩,
    ⟨(run.setF Fld.TNT_CORE_MIG_PCT 0), (by decide +kernel)⟩,
    ⟨1, 0, run, (by decide +kernel), (by decide +kernel)⟩,
    ⟨800, run, (by decide +kernel)⟩,
    ⟨0, run, (by decide +kernel)⟩⟩

/-- States and operands that meet the premises of `SectorWritesRunTheirEffect`, clause by clause. -/
theorem test_witness_SectorWritesRunTheirEffect :
  (∃ (k : Nat) (s u v w d : State) (o : WriteOp) (rest : List WriteOp) (j : Job), k < 2 ∧ (s.chn k).ops = o :: rest ∧
    s.canWrite k o.psa = true ∧ s.inhibited k = false ∧ s.obj.jobs.find? (fun j => j.seq == o.seq) = some j ∧ s.defective o.psa
    = false ∧ u = s.readSlot (j.slots.getD o.tile 0) ∧ u.tileGood (j.slots.getD o.tile 0) (some (tagOf (keyHash (keyBytes
    j.key)) j.seg o.tile)) = true ∧ v = (if (u.pre k).mode = 3 then u else u.preampSet k 1 3 []).useZone k o.psa ∧ w = (if
    (v.chn k).wgate then v.writeGap k o.psa else v.setChn k { v.chn k with wgate := true }).setF (Fld.CHN_STATUS_STATE k) 2 ∧ d
    = w.sectorDone k o (w.tileAt (j.slots.getD o.tile 0)) (!(v.chn k).wgate) (!w.runsOn k o.psa)) ∧
  (∃ (k bit : Nat) (s u v w : State) (o : WriteOp) (rest : List WriteOp) (j : Job), k < 2 ∧ (s.chn k).ops = o :: rest ∧
    s.canWrite k o.psa = true ∧ s.inhibited k = false ∧ s.obj.jobs.find? (fun j => j.seq == o.seq) = some j ∧ s.defective o.psa
    = false ∧ u = s.readSlot (j.slots.getD o.tile 0) ∧ u.tileGood (j.slots.getD o.tile 0) (some (tagOf (keyHash (keyBytes
    j.key)) j.seg o.tile)) = true ∧ v = (if (u.pre k).mode = 3 then u else u.preampSet k 1 3 []).useZone k o.psa ∧ w = (if
    (v.chn k).wgate then v.writeGap k o.psa else v.setChn k { v.chn k with wgate := true }).setF (Fld.CHN_STATUS_STATE k) 2 ∧
    bit ≤ 12) ∧
  (∃ (k : Nat) (s : State) (o : WriteOp) (rest : List WriteOp), (s.chn k).ops = o :: rest ∧ s.canWrite k o.psa = true ∧
    s.inhibited k = true) ∧
  (∃ (k : Nat) (s u : State) (o : WriteOp) (rest : List WriteOp) (j : Job), (s.chn k).ops = o :: rest ∧ s.canWrite k o.psa =
    true ∧ s.inhibited k = false ∧ s.obj.jobs.find? (fun j => j.seq == o.seq) = some j ∧ s.defective o.psa = false ∧ u =
    s.readSlot (j.slots.getD o.tile 0) ∧ u.tileGood (j.slots.getD o.tile 0) (some (tagOf (keyHash (keyBytes j.key)) j.seg
    o.tile)) = false) ∧
  (∃ (k : Nat) (s : State) (o : WriteOp) (rest : List WriteOp) (j : Job), (s.chn k).ops = o :: rest ∧ s.canWrite k o.psa = true
    ∧ s.inhibited k = false ∧ s.obj.jobs.find? (fun j => j.seq == o.seq) = some j ∧ s.defective o.psa = true) ∧
  (∃ (k : Nat) (s : State) (o : WriteOp) (rest : List WriteOp), (s.chn k).ops = o :: rest ∧ s.canWrite k o.psa = false) :=
  ⟨
    ⟨0, toWrite, _, _, _, _, ⟨1, 0, 0, 0⟩, [], job, (by decide +kernel), (by decide +kernel), (by decide +kernel),
      (by decide +kernel), (by decide +kernel), (by decide +kernel), rfl,
      (tileGood_of _ _ tile7 _ (by decide +kernel) (crcOk_of _ (by decide +kernel) (by decide +kernel)) (by decide +kernel) (by decide +kernel) (by decide +kernel)),
      rfl, rfl, rfl⟩,
    ⟨0, 12, toWrite, _, _, _, ⟨1, 0, 0, 0⟩, [], job, (by decide +kernel), (by decide +kernel), (by decide +kernel),
      (by decide +kernel), (by decide +kernel), (by decide +kernel), rfl,
      (tileGood_of _ _ tile7 _ (by decide +kernel) (crcOk_of _ (by decide +kernel) (by decide +kernel)) (by decide +kernel) (by decide +kernel) (by decide +kernel)),
      rfl, rfl, (by decide +kernel)⟩,
    ⟨0, (withOps [⟨1, 0, 0, 0⟩] (run.setF (Fld.PRE_WINH_ACTIVE 0) 1)), ⟨1, 0, 0, 0⟩, [], (by decide +kernel),
      (by decide +kernel), (by decide +kernel)⟩,
    ⟨0, { (withOps [⟨1, 0, 0, 0⟩] (withJob (writable run))) with obj := { run.obj with jobs := [job], badSlots := [0] } }, _,
      ⟨1, 0, 0, 0⟩, [], job, (by decide +kernel), (by decide +kernel), (by decide +kernel), (by decide +kernel),
      (by decide +kernel), rfl, (by decide +kernel)⟩,
    ⟨0, { toWrite with obj := { toWrite.obj with defects := [⟨0, 4, 0⟩] } }, ⟨1, 0, 0, 0⟩, [], job, (by decide +kernel),
      (by decide +kernel), (by decide +kernel), (by decide +kernel), (by decide +kernel)⟩,
    ⟨0, (booted { slated with outOfService := [4] } (withOps [⟨1, 0, 0, 0⟩] run)), ⟨1, 0, 0, 0⟩, [], (by decide +kernel),
      (by decide +kernel)⟩⟩

/-- States and operands that meet the premises of `JournalAndCheckpointRunTheirEffect`, clause by clause. -/
theorem test_witness_JournalAndCheckpointRunTheirEffect :
  (∃ (k : Nat) (s : State), k < 2 ∧ s.obj.recovered = true ∧ s.mediaWritable k = true ∧ (s.nextJournal k).any (fun x =>
    s.underRecovery x.2) = false) ∧
  (∃ (k pos psa : Nat) (blk : List Byte) (s : State), k < 2 ∧ s.obj.recovered = true ∧ s.mediaWritable k = true ∧ s.nextJournal
    k = some (pos, psa) ∧ s.underRecovery psa = false ∧ s.nextBlock k = some blk) ∧
  (∃ (k pos psa : Nat) (s : State) (w : WaitRec) (ws : List WaitRec), s.readyRecs k = w :: ws ∧ s.nextJournal k = some (pos,
    psa)) ∧
  (∃ (k : Nat) (s : State), s.readyRecs k = []) ∧
  (∃ (k : Nat) (s : State), (s.stream k).full = true ∧ (s.nextJournal k).isSome = true ∧ s.mediaWritable k = true ∧
    (s.nextJournal k).any (fun x => s.underRecovery x.2) = false) ∧
  (∃ (s : State), s.obj.recovered = true ∧ s.checkpointDue = true ∧ s.mediaWritable 0 = true ∧ s.mediaWritable 1 = true ∧
    s.checkpointWaits = false) ∧
  (∃ (i : Nat) (cuts : List Nat) (psa : Nat) (blk : List Byte) (s t : State) (ok : Bool), s.obj.recovered = true ∧
    s.checkpointDue = true ∧ s.mediaWritable 0 = true ∧ s.mediaWritable 1 = true ∧ s.checkpointWaits = false ∧
    s.checkpointSectors[i]? = some (psa, blk) ∧ s.writeSurvives psa blk (cuts.filter (· < 13)) = (t, ok)) ∧
  (∃ (s : State), (checkpointTiles ((s.snapshot s.ckptSeq).length + 1) (s.snapshot s.ckptSeq) 0 s.disk.wseq).length = 1 ∧
    s.obj.defects = [] ∧ (s.ckptPlace 1).length = 1) ∧
  (∃ (k : Nat) (s : State), s.mediaWritable k = false) :=
  ⟨
    ⟨1, (known (writable run)), (by decide +kernel), (by decide +kernel), (by decide +kernel), (by decide +kernel)⟩,
    ⟨0, 0, 413696, _, (known { writable run with obj := { run.obj with recs := [⟨1, 0, 1, .defect 5 2⟩] } }),
      (by decide +kernel), (by decide +kernel), (by decide +kernel), (by decide +kernel), (by decide +kernel),
      (some_is (by decide +kernel))⟩,
    ⟨0, 0, 413696, (known { writable run with obj := { run.obj with recs := [⟨1, 0, 1, .defect 5 2⟩] } }), ⟨1, 0, 1, .defect 5
      2⟩, [], (by decide +kernel), (by decide +kernel)⟩,
    ⟨1, (known (writable run)), (by decide +kernel)⟩,
    ⟨0, (known { writable run with obj := { run.obj with stream0 := { Stream.reset with full := true } } }),
      (by decide +kernel), (by decide +kernel), (by decide +kernel), (by decide +kernel)⟩,
    ⟨(known { writable run with pwr := { run.pwr with timeUs := 60000000 }, obj := { run.obj with recsSince := true } }),
      (by decide +kernel), (by decide +kernel), (by decide +kernel), (by decide +kernel), (by decide +kernel)⟩,
    ⟨0, [], _, _, (known
      { writable run with pwr := { run.pwr with timeUs := 60000000 }, obj := { run.obj with recsSince := true } }), _, _,
      (by decide +kernel), (by decide +kernel), (by decide +kernel), (by decide +kernel), (by decide +kernel),
      (pair_is (by decide +kernel)), (both _)⟩,
    ⟨(known { writable run with obj := { run.obj with onMedia := [(1, .seal 0 0 0 0 (zeros 32) 1 0)], nextSeq := 2 } }),
      (by decide +kernel), (by decide +kernel), (by decide +kernel)⟩,
    ⟨0, (booted { slated with outOfService := [4] } run), (by decide +kernel)⟩⟩

/-- States and operands that meet the premises of `ReallocationsRunTheirEffect`, clause by clause. -/
theorem test_witness_ReallocationsRunTheirEffect :
  (∃ (psa wedges : Nat) (fg : Bool) (s : State), (s.dec.due.filter (fun p => s.mediaWritable (actuatorOf (psaSurface p.1)) &&
    (!s.isParity p.1 || s.closable (stripeOf p.1)))).find? (fun p => !p.2 || s.bgAllowed (actuatorOf (psaSurface p.1)) wedges
    fg) = some (psa, false)) ∧
  (∃ (psa wedges : Nat) (fg : Bool) (s : State), (s.dec.due.filter (fun p => s.mediaWritable (actuatorOf (psaSurface p.1)) &&
    (!s.isParity p.1 || s.closable (stripeOf p.1)))).find? (fun p => !p.2 || s.bgAllowed (actuatorOf (psaSurface p.1)) wedges
    fg) = some (psa, true)) ∧
  (∃ (psa wedges : Nat) (s : State), s.dec.due = [(psa, true)] ∧ s.isParity psa = false ∧ s.mediaWritable (actuatorOf
    (psaSurface psa)) = true ∧ s.bgAllowed (actuatorOf (psaSurface psa)) wedges true = false) ∧
  (∃ (psa : Nat) (s u : State), u =
    { s with dec := { s.dec with due := s.dec.due.filter (fun x => x.1 != psa), recovered := Assoc.del s.dec.recovered psa } }) ∧
  (∃ (psa wedges : Nat) (fg : Bool) (s : State), s.dec.recheck.contains psa = true ∧ s.readBlocked (actuatorOf (psaSurface
    psa)) psa = false ∧ s.underRecovery psa = false ∧ s.bgAllowed (actuatorOf (psaSurface psa)) wedges fg = false) ∧
  (∃ (psa wedges snr k : Nat) (fg : Bool) (cap : Capture) (s s1 s2 u : State) (r : SampleRec), s.dec.recheck.contains psa =
    true ∧ k = actuatorOf (psaSurface psa) ∧ s.readBlocked k psa = false ∧ s.underRecovery psa = false ∧ s.bgAllowed k wedges
    fg = true ∧ (s.bgCharge k wedges).acquire k psa cap none = (s1, r) ∧ (s1.l0 k psa r).res = 1 ∧ s1.readConfirmed k psa r
    (s1.l0 k psa r) = (snr, s2) ∧ s2.mediaWritable k = true ∧ u =
    { s2 with dec := { s2.dec with recheck := s2.dec.recheck.filter (· != psa) } }) ∧
  (∃ (k : Nat) (s : State) (o : WriteOp) (rest : List WriteOp), s.inhibited k = false ∧ (s.chn k).cut = true ∧ (s.chn k).ops =
    o :: rest ∧ o.rewrites < s.dictNum (0x3500 + k) 5) ∧
  (∃ (k : Nat) (s u w : State) (o : WriteOp) (rest : List WriteOp) (j : Job), (s.chn k).cut = true ∧ (s.chn k).ops = o :: rest
    ∧ s.dictNum (0x3500 + k) 5 ≤ o.rewrites ∧ s.mediaWritable k = true ∧ s.obj.jobs.find? (fun j => j.seq == o.seq) = some j ∧
    u = s.readSlot (j.slots.getD o.tile 0) ∧ u.tileGood (j.slots.getD o.tile 0) (some (tagOf (keyHash (keyBytes j.key)) j.seg
    o.tile)) = true ∧ u.takeSpare o.psa 4 = (none, w)) ∧
  (∃ (k dest : Nat) (s u w : State) (o : WriteOp) (rest : List WriteOp) (j : Job), k < 2 ∧ (s.chn k).cut = true ∧ (s.chn k).ops
    = o :: rest ∧ s.dictNum (0x3500 + k) 5 ≤ o.rewrites ∧ s.mediaWritable k = true ∧ s.obj.jobs.find? (fun j => j.seq == o.seq)
    = some j ∧ u = s.readSlot (j.slots.getD o.tile 0) ∧ u.tileGood (j.slots.getD o.tile 0) (some (tagOf (keyHash (keyBytes
    j.key)) j.seg o.tile)) = true ∧ u.takeSpare o.psa 4 = (some dest, w)) ∧
  (∃ (k : Nat) (s u : State) (o : WriteOp) (rest : List WriteOp) (j : Job), (s.chn k).cut = true ∧ (s.chn k).ops = o :: rest ∧
    s.dictNum (0x3500 + k) 5 ≤ o.rewrites ∧ s.mediaWritable k = true ∧ s.obj.jobs.find? (fun j => j.seq == o.seq) = some j ∧ u
    = s.readSlot (j.slots.getD o.tile 0) ∧ u.tileGood (j.slots.getD o.tile 0) (some (tagOf (keyHash (keyBytes j.key)) j.seg
    o.tile)) = false) :=
  ⟨
    ⟨0, 1, true, { writable run with dec := { run.dec with due := [(0, false)] } }, (by decide +kernel)⟩,
    ⟨0, 1, false, { writable run with dec := { run.dec with due := [(0, true)] } }, (by decide +kernel)⟩,
    ⟨0, 512, { writable run with dec := { run.dec with due := [(0, true)] } }, (by decide +kernel), (by decide +kernel),
      (by decide +kernel), (by decide +kernel)⟩,
    ⟨0, (known { writable run with dec := { run.dec with due := [(0, false)] } }), _, rfl⟩,
    ⟨0, 512, true, (readable { writable run with dec := { run.dec with recheck := [0] } }), (by decide +kernel),
      (by decide +kernel), (by decide +kernel), (by decide +kernel)⟩,
    ⟨30, 1, _, _, false, capM, (readable { writable run with dec := { run.dec with recheck := [30] } }), _, _, _, _,
      (by decide +kernel), rfl, (by decide +kernel), (by decide +kernel), (by decide +kernel), (both _), (by decide +kernel),
      (both _), (by decide +kernel), rfl⟩,
    ⟨0, { (writable run) with chn0 := { run.chn0 with cut := true, ops := [⟨1, 0, 0, 0⟩] } }, ⟨1, 0, 0, 0⟩, [],
      (by decide +kernel), (by decide +kernel), (by decide +kernel), (by decide +kernel)⟩,
    ⟨0, { toWrite with chn0 := { toWrite.chn0 with cut := true, ops := [⟨1, 0, 0, 99⟩] } }, _, _, ⟨1, 0, 0, 99⟩, [], job,
      (by decide +kernel), (by decide +kernel), (by decide +kernel), (by decide +kernel), (by decide +kernel), rfl,
      (tileGood_of _ _ tile7 _ (by decide +kernel) (crcOk_of _ (by decide +kernel) (by decide +kernel)) (by decide +kernel) (by decide +kernel) (by decide +kernel)),
      (fst_is (by decide +kernel))⟩,
    ⟨0, _, (known { toWrite with chn0 := { toWrite.chn0 with cut := true, ops := [⟨1, 0, 0, 99⟩] } }), _, _, ⟨1, 0, 0, 99⟩, [],
      job, (by decide +kernel), (by decide +kernel), (by decide +kernel), (by decide +kernel), (by decide +kernel),
      (by decide +kernel), rfl,
      (tileGood_of _ _ tile7 _ (by decide +kernel) (crcOk_of _ (by decide +kernel) (by decide +kernel)) (by decide +kernel) (by decide +kernel) (by decide +kernel)),
      (spare_is (by decide +kernel))⟩,
    ⟨0,
      { (withJob (writable run)) with chn0 := { run.chn0 with cut := true, ops := [⟨1, 0, 0, 99⟩] }, obj := { run.obj with jobs := [job], badSlots := [0] } },
      _, ⟨1, 0, 0, 99⟩, [], job, (by decide +kernel), (by decide +kernel), (by decide +kernel), (by decide +kernel),
      (by decide +kernel), rfl, (by decide +kernel)⟩⟩

/-- States and operands that meet the premises of `ChannelEventsRunTheirEffect`, clause by clause. -/
theorem test_witness_ChannelEventsRunTheirEffect :
  (∃ (k psa kind : Nat) (s : State), s.readBlocked k psa = false ∧ s.underRecovery psa = false ∧ kind ≠ 3 ∧ ringSize ≤ ((s.chn
    k).ring.filter (fun r => !r.copied)).length) ∧
  (∃ (k psa kind : Nat) (cap : Capture) (follow : Option Nat) (s s0 s1 : State) (r : SampleRec), s.readBlocked k psa = false ∧
    s.underRecovery psa = false ∧ ((s.chn k).ring.filter (fun r => !r.copied)).length < ringSize ∧ ((kind = 3 → s.bgAllowed k
    (s.sectorSpan psa) (s.foregroundQueued k) = true)) ∧ s0 = (if kind = 3 then s.bgCharge k (s.sectorSpan psa) else s) ∧
    s0.acquire k psa cap follow = (s1, r) ∧ r.cands ≠ []) ∧
  (∃ (k psa kind : Nat) (cap : Capture) (follow : Option Nat) (s s0 s1 : State) (r : SampleRec), s.readBlocked k psa = false ∧
    s.underRecovery psa = false ∧ ((s.chn k).ring.filter (fun r => !r.copied)).length < ringSize ∧ ((kind = 3 → s.bgAllowed k
    (s.sectorSpan psa) (s.foregroundQueued k) = true)) ∧ s0 = (if kind = 3 then s.bgCharge k (s.sectorSpan psa) else s) ∧
    s0.acquire k psa cap follow = (s1, r) ∧ r.cands = []) ∧
  (∃ (k psa : Nat) (s : State), s.readBlocked k psa = false ∧ s.underRecovery psa = false ∧ s.bgAllowed k (s.sectorSpan psa)
    (s.foregroundQueued k) = false) ∧
  (∃ (k psa : Nat) (s : State), (s.readBlocked k psa = true ∨ s.underRecovery psa = true)) ∧
  (∃ (n : Nat) (w : Work) (s : State), s.dec.inst.getD n none = some w) ∧
  (∃ (k : Nat) (r : RingSector) (s u : State), (s.chn k).ring.find? (fun r => r.verdict != 0 && !r.copied) = some r ∧ u =
    s.setRing_ k ((s.chn k).ring.filter (fun x => x.psa != r.psa))) ∧
  (∃ (k psa : Nat) (s : State), (s.stored psa).length < 8 ∧ (s.dec.store.filter (fun y => y.k == k)).length < 1024) :=
  ⟨
    ⟨0, 0, 0, (readable (withRing (List.replicate 4 (rs 0 0)) run)), (by decide +kernel), (by decide +kernel),
      (by decide +kernel), (by decide +kernel)⟩,
    ⟨0, 0, 0, capM, none, (readable run), _, _, _, (by decide +kernel), (by decide +kernel), (by decide +kernel),
      (by decide +kernel), rfl, (both _), (by decide +kernel)⟩,
    ⟨0, 0, 0, cap0, none, (readable run), _, _, _, (by decide +kernel), (by decide +kernel), (by decide +kernel),
      (by decide +kernel), rfl, (both _), (by decide +kernel)⟩,
    ⟨0, 0, { (readable run).setF (Fld.TNT_MT_SLACK 0) 0 with tint := { run.tint with bg := [100000, 100000] } },
      (by decide +kernel), (by decide +kernel), (by decide +kernel)⟩,
    ⟨0, 0, (booted { slated with outOfService := [4] } run), (by decide +kernel)⟩,
    ⟨0, (work 0 none), (withWork (work 0 none) run), (by decide +kernel)⟩,
    ⟨0, (rs 0 1), (withRing [rs 0 1] run), _, (by decide +kernel), rfl⟩,
    ⟨0, 0, run, (by decide +kernel), (by decide +kernel)⟩⟩

/-- States and operands that meet the premises of `DecodesEndInOneVerdict`, clause by clause. -/
theorem test_witness_DecodesEndInOneVerdict :
  (∃ (n : Nat) (s : State), s.dec.inst.getD n none = none) ∧
  (∃ (n upset word : Nat) (w : Work) (s u v : State) (r : RingSector), s.dec.inst.getD n none = some w ∧ w.stored = none ∧ word
    = (s.decodeOf w).word ^^^ upset ∧ u = (s.setF (Fld.DEC_INST_ITER n) (s.decodeOf w).iters).setInst n none 0 ∧ v = (if
    (s.decodeOf w).ok && !isCodeword dataCode word then u.raise 241 0 0 else u) ∧ (v.chn w.k).ring.find? (fun r => r.psa ==
    w.psa && r.verdict == 0) = some r) ∧
  (∃ (n upset word : Nat) (w : Work) (s u v : State) (r : SampleRec), s.dec.inst.getD n none = some w ∧ w.stored = some r ∧
    word = (s.decodeOf w).word ^^^ upset ∧ u = (s.setF (Fld.DEC_INST_ITER n) (s.decodeOf w).iters).setInst n none 0 ∧ v = (if
    (s.decodeOf w).ok && !isCodeword dataCode word then u.raise 241 0 0 else u)) ∧
  (∃ (word : Nat) (ok : Bool), (ok = false ∨ isCodeword dataCode word = false)) ∧
  (∃ (psa word : Nat) (s : State), isCodeword dataCode word = true ∧ s.isParity psa = false ∧ tileCrcOk (infoBlock word) =
    false) ∧
  (∃ (psa word : Nat) (g : List Byte) (s : State), isCodeword dataCode word = true ∧ s.isParity psa = false ∧ tileCrcOk
    (infoBlock word) = true ∧ s.expectedTag psa = some g) ∧
  (∃ (word iters : Nat) (w : Work) (r : RingSector) (u v : State), u.isParity w.psa = false ∧ w.kind ≠ 4 ∧ v = ((((u.trialEnds
    w r 1).confirm w.k w.psa).seen w.psa word).recordSnr w.k w.psa r.rec_.eqset iters (u.errorOf w.k w.psa r.rec_ w.offset
    w.resync word))) ∧
  (∃ (psa : Nat) (s : State), s.isParity psa = false) :=
  ⟨
    ⟨0, run, (by decide +kernel)⟩,
    ⟨0, 0, _, (work 30 none), (noLimit (withWork (work 30 none) (withRing [rs 30 0] run))), _, _, (rs 30 0),
      (by decide +kernel), (by decide +kernel), rfl, rfl, rfl, (by decide +kernel)⟩,
    ⟨0, 0, _, (work 0 (some rec0)), (noLimit (withWork (work 0 (some rec0)) run)), _, _, rec0, (by decide +kernel),
      (by decide +kernel), rfl, rfl, rfl⟩,
    ⟨0, false, (by decide +kernel)⟩,
    ⟨0, 0, run, (by decide +kernel), (by decide +kernel), crcBad⟩,
    ⟨0, word7, _, { run with obj := { run.obj with stream0 := { Stream.reset with live := [⟨1, 0, 1⟩] } } },
      (by decide +kernel), (by decide +kernel), (crcOk_of _ (by decide +kernel) (by decide +kernel)),
      (some_is (by decide +kernel))⟩,
    ⟨0, 0, (work 0 none), (rs 0 0), run, _, (by decide +kernel), (by decide +kernel), rfl⟩,
    ⟨0, run, (by decide +kernel)⟩⟩

/-- States and operands that meet the premises of `RecoveryEventsRunTheirEffect`, clause by clause. -/
theorem test_witness_RecoveryEventsRunTheirEffect :
  (∃ (psa : Nat) (s : State), s.ladder psa = none) ∧
  (∃ (psa : Nat) (x : Ladder) (s : State), s.ladder psa = some x) ∧
  (∃ (psa : Nat) (x : Ladder) (s : State), s.ladder psa = some x) ∧
  (∃ (psa : Nat) (x : Ladder) (s : State), s.ladder psa = some x) ∧
  (∃ (k psa : Nat) (l : List Nat) (s : State), (s.chn k).adjacent = psa :: l) ∧
  (∃ (k : Nat) (s : State), (s.chn k).adjacent = [] ∧ s.scrubAgain k = none ∧ s.scrubNext k = none) ∧
  (∃ (k psa : Nat) (s : State), (s.chn k).adjacent = [] ∧ (s.scrubAgain k = some psa ∨ (s.scrubAgain k = none ∧ s.scrubNext k =
    some psa))) ∧
  (∃ (k psa wedges : Nat) (fg : Bool) (s u : State), (s.chn k).adjacent = [] ∧ s.scrubAgain k = some psa ∧ s.readBlocked k psa
    = false ∧ s.bgAllowed k wedges fg = true ∧ s.poolOpen k = true ∧ u =
    { s with dec := { s.dec with again := s.dec.again.filter (fun (p : Nat × Nat) => p.1 != psa) } }) ∧
  (∃ (k psa wedges : Nat) (fg : Bool) (s : State), (s.chn k).adjacent = [] ∧ s.scrubAgain k = none ∧ s.scrubNext k = some psa ∧
    s.readBlocked k psa = false ∧ s.bgAllowed k wedges fg = true ∧ s.poolOpen k = true) ∧
  (∃ (k psa kind : Nat) (cap : Capture) (s s1 s2 s3 : State) (r : SampleRec) (snr : Nat), s.acquire k psa cap none = (s1, r) ∧
    (s1.l0 k psa r).res = 1 ∧ s1.readConfirmed k psa r (s1.l0 k psa r) = (snr, s2) ∧ s3 = (if kind = 3 then s2.countPass psa
    (s1.l0 k psa r).iters snr else s2)) ∧
  (∃ (k psa : Nat) (cap : Capture) (s s1 : State) (r : SampleRec), s.acquire k psa cap none = (s1, r)) :=
  ⟨
    ⟨0, run, (by decide +kernel)⟩,
    ⟨0, ⟨0, 0, 2, 1, 1, 0, none, [], false, false, false, false, none, false⟩, (withLadder ⟨0, 0, 2, 1, 1, 0, none, [], false,
      false, false, false, none, false⟩ run), (by decide +kernel)⟩,
    ⟨0, ⟨0, 0, 2, 1, 1, 0, none, [], false, false, false, false, none, false⟩, (withLadder ⟨0, 0, 2, 1, 1, 0, none, [], false,
      false, false, false, none, false⟩ run), (by decide +kernel)⟩,
    ⟨0, ⟨0, 0, 2, 1, 1, 0, none, [], false, false, false, false, none, false⟩, (withLadder ⟨0, 0, 2, 1, 1, 0, none, [], false,
      false, false, false, none, false⟩ run), (by decide +kernel)⟩,
    ⟨0, 0, [], { run with chn0 := { run.chn0 with adjacent := [0] } }, (by decide +kernel)⟩,
    ⟨0, run, (by decide +kernel), (by decide +kernel), (by decide +kernel)⟩,
    ⟨0, 0, { run with dec := { run.dec with again := [(0, 3)] } }, (by decide +kernel), (by decide +kernel)⟩,
    ⟨0, 0, 1, false, (readable { run with dec := { run.dec with again := [(0, 3)] } }), _, (by decide +kernel),
      (by decide +kernel), (by decide +kernel), (by decide +kernel), (by decide +kernel), rfl⟩,
    ⟨0, _, 1, false, (readable (known rooted)), (by decide +kernel), (by decide +kernel), (some_is (by decide +kernel)),
      (by decide +kernel), (by decide +kernel), (by decide +kernel)⟩,
    ⟨0, 30, 2, capM, (readable run), _, _, _, _, _, (both _), (by decide +kernel), (both _), rfl⟩,
    ⟨0, 0, cap0, run, _, _, (both _)⟩⟩

/-- States and operands that meet the premises of `QualificationAndFormatRunTheirEffect`, clause by clause. -/
theorem test_witness_QualificationAndFormatRunTheirEffect :
  (∃ (s : State), (s.manufacture = false ∨ s.qualStatus = 1)) ∧
  (∃ (s : State), s.manufacture = true ∧ s.qualStatus ≠ 1 ∧ (s.media.drive.isSome = true ∨ s.boot.locked = [0, 1])) ∧
  (∃ (s u : State), s.manufacture = true ∧ s.qualStatus ≠ 1 ∧ s.media.drive = none ∧ s.boot.locked ≠ [0, 1] ∧ u =
    ({ s with boot := { s.boot with bringUp := true }, media := { s.media with qual := [] } } : State).setDictNum 0x3400 4 1 1) ∧
  (∃ (h z : Nat) (s : State), (Assoc.find s.media.qual (headZone h z) = none ∨ s.planZone h z = none)) ∧
  (∃ (h z snr steps : Nat) (fails : List Nat) (x : Zone) (s s1 s2 : State), Assoc.find s.media.qual (headZone h z) = some steps
    ∧ s.planZone h z = some x ∧ fails.length * 1000000 ≤ s.dictNum 0x3400 3 * s.dictNum 0x3400 2 ∧ s1 = s.keepPlanZone h z
    { x with sectors := largestLayout x } ∧ s2 =
    { s1 with media := { s1.media with qual := Assoc.del s1.media.qual (headZone h z), qualDone := insertNat (headZone h z) s1.media.qualDone, qualSnr := Assoc.put s1.media.qualSnr (headZone h z) snr, qualFails := fails.foldl (fun l p => insertNat p l) s1.media.qualFails } }) ∧
  (∃ (h z beyond steps : Nat) (fails : List Nat) (x : Zone) (s : State), Assoc.find s.media.qual (headZone h z) = some steps ∧
    s.planZone h z = some x ∧ (beyond ≠ 0 ∨ s.dictNum 0x3400 3 * s.dictNum 0x3400 2 < fails.length * 1000000) ∧ 20 ≤ steps) ∧
  (∃ (h z beyond steps : Nat) (fails : List Nat) (x y : Zone) (s s1 : State), Assoc.find s.media.qual (headZone h z) = some
    steps ∧ s.planZone h z = some x ∧ (beyond ≠ 0 ∨ s.dictNum 0x3400 3 * s.dictNum 0x3400 2 < fails.length * 1000000) ∧ steps <
    20 ∧ y = { x with rate := divRound (x.rate * 995) 1000 } ∧ s1 = s.keepPlanZone h z { y with sectors := largestLayout y }) ∧
  (∃ (h z snr : Nat) (f : Surface) (x : Zone) (s : State), s.surfaceOf h = some f ∧ f.zones.find? (fun x => x.zone == z) = some
    x ∧ snr = ((s.chanTable (headZone h z)).map (·.snr)).getD 0) :=
  ⟨
    ⟨(fused 0xFFFF run), (by decide +kernel)⟩,
    ⟨(known run), (by decide +kernel), (by decide +kernel), (by decide +kernel)⟩,
    ⟨run, _, (by decide +kernel), (by decide +kernel), (by decide +kernel), (by decide +kernel), rfl⟩,
    ⟨0, 0, run, (by decide +kernel)⟩,
    ⟨0, 0, 30, 0, [], _, { planned run with media := { (planned run).media with qual := [(0, 0)] } }, _, _,
      (by decide +kernel), (some_is (by decide +kernel)), (by decide +kernel), rfl, rfl⟩,
    ⟨0, 0, 1, 20, [], _, { planned run with media := { (planned run).media with qual := [(0, 20)] } }, (by decide +kernel),
      (some_is (by decide +kernel)), (by decide +kernel), (by decide +kernel)⟩,
    ⟨0, 0, 1, 19, [], _, _, { planned run with media := { (planned run).media with qual := [(0, 19)] } }, _,
      (by decide +kernel), (some_is (by decide +kernel)), (by decide +kernel), (by decide +kernel), rfl, rfl⟩,
    ⟨0, 0, _, (surface 0), ⟨0, 0, 32, 0, 100, 10, 0, 0, 0, 2000000, 36000, 3000, 64, 96⟩, (known run), (by decide +kernel),
      (by decide +kernel), rfl⟩⟩

/-- States and operands that meet the premises of `WriteGateEventsRunTheirEffect`, clause by clause. -/
theorem test_witness_WriteGateEventsRunTheirEffect :
  (∃ (bit : Nat), 4 ≤ bit ∧ bit ≤ 8) ∧
  (∃ (bit : Nat), bit ≤ 12 ∧ (bit < 4 ∨ 8 < bit)) ∧
  (∃ (k : Nat) (s u : State), u = (((((s.setPre k { s.pre k with fltLow := true, faultRead := false, mute := true }).inhibit k
    9).bumpF (Fld.PRE_FLT_COUNT k) 1).setF (Fld.PRE_FLT_HEAD k) (s.pre k).head).preampFrame k true 9 0)) ∧
  (∃ (k fault : Nat) (s u a b c : State), u = ((((((s.setPre k
    { s.pre k with fltLow := true, faultRead := true, mute := false }).inhibit k 9).bumpF (Fld.PRE_FLT_COUNT k) 1).setF
    (Fld.PRE_FLT_HEAD k) (s.pre k).head).preampFrame k true 9 0).setF (Fld.PRE_FLT_FAULT k) fault) ∧ a = (if bitOf fault 0 ||
    bitOf fault 1 || bitOf fault 5 then
    ({ u with obj := { u.obj with closedHeads := insertNat (12 * k + (s.pre k).head) u.obj.closedHeads } } : State).raise (256
    + 16 * k) 0 0 else u) ∧ b = (if bitOf fault 2 then a.raise (257 + 16 * k) 0 0 else a) ∧ c = (if bitOf fault 3 then b.raise
    (258 + 16 * k) 0 0 else b)) ∧
  (∃ (k : Nat) (s u : State), k < 2 ∧ u = s.setPre k { s.pre k with fltLow := false }) ∧
  (∃ (k addr data : Nat) (s u : State), u = ((s.setF (Fld.PRE_SCMD_READ k) 1).setF (Fld.PRE_SCMD_ADDR k) addr).setF
    (Fld.PRE_SCMD_DATA k) data) ∧
  (∃ (k data v : Nat) (s u w : State), u = ((s.setF (Fld.PRE_SCMD_READ k) 1).setF (Fld.PRE_SCMD_ADDR k) 9).setF
    (Fld.PRE_SCMD_DATA k) data ∧ w = ((u.preampFrame k true 9 0).setPre k { u.pre k with mute := false }).setF
    (Fld.PRE_SCMD_DATA k) v) ∧
  (∃ (k data : Nat) (s u : State), u = ((s.setF (Fld.PRE_SCMD_READ k) 0).setF (Fld.PRE_SCMD_ADDR k) 2).setF (Fld.PRE_SCMD_DATA
    k) data) ∧
  (∃ (k addr data : Nat) (s u : State), addr ≠ 2 ∧ u = ((s.setF (Fld.PRE_SCMD_READ k) 0).setF (Fld.PRE_SCMD_ADDR k) addr).setF
    (Fld.PRE_SCMD_DATA k) data) :=
  ⟨
    ⟨8, (by decide +kernel), (by decide +kernel)⟩,
    ⟨12, (by decide +kernel), (by decide +kernel)⟩,
    ⟨1, run, _, rfl⟩,
    ⟨1, 47, run, _, _, _, _, rfl, rfl, rfl, rfl⟩,
    ⟨0, run, _, (by decide +kernel), rfl⟩,
    ⟨1, 127, 0, run, _, rfl⟩,
    ⟨1, 0, 5, run, _, _, rfl, rfl⟩,
    ⟨1, 3, run, _, rfl⟩,
    ⟨1, 127, 255, run, _, (by decide +kernel), rfl⟩⟩

/-- States and operands that meet the premises of `HeadSwitchesRunTheirEffect`, clause by clause. -/
theorem test_witness_HeadSwitchesRunTheirEffect :
  (∃ (k head : Nat) (back : List Nat) (s u v w : State), u = (s.inhibit k 3).preampSet k 2 head back ∧ v =
    (match s.sameTrack k (12 * k + head) with | some p => (u.setPre k { u.pre k with settling := true }).setF (Fld.SRV_TARGET_TARGET k) (unsigned 32 p) | none => u.setPre k { u.pre k with settling := true })
    ∧ w = ((v.packLin k).setF (Fld.SRV_STATUS_RD_OK k) 0).setF (Fld.SRV_STATUS_WR_OK k) 0) ∧
  (∃ (k : Nat) (s : State), k < 2 ∧ (s.pre k).settling = true) ∧
  (∃ (k : Nat) (s : State), (s.pre k).settling = false) :=
  ⟨
    ⟨1, 11, [4, 4], run, _, _, _, rfl, rfl, rfl⟩,
    ⟨0, { run with pre0 := { run.pre0 with settling := true } }, (by decide +kernel), (by decide +kernel)⟩,
    ⟨0, run, (by decide +kernel)⟩⟩

/-- States and operands that meet the premises of `ServoWedgesRunTheirEffect`, clause by clause. -/
theorem test_witness_ServoWedgesRunTheirEffect :
  (∃ (k : Nat) (s : State), (s.parked k = true ∨ s.getF (Fld.SRV_CTRL_MODE k) = 0)) ∧
  (∃ (k : Nat) (s t : State), s.parked k = false ∧ s.getF (Fld.SRV_CTRL_MODE k) ≠ 0 ∧ s.isSet (Fld.SRV_STATUS_LOST k) = false ∧
    t = s.overServo k) ∧
  (∃ (k : Nat) (s : State), s.parked k = false ∧ s.getF (Fld.SRV_CTRL_MODE k) ≠ 0 ∧ s.isSet (Fld.SRV_STATUS_LOST k) = true) ∧
  (∃ (k : Nat) (w : WedgeData) (found : Bool) (run : Nat) (s a b c d : State), (run = (if (found && idOk w && w.a != 0) = false
    then 0 else if (s.srv k).run = 0 ∨ idOf w = (s.getF (Fld.SRV_STATUS_WEDGE k) + 1) % 512 then (s.srv k).run + 1 else 1)) ∧ a
    = s.setSrv k { s.srv k with run := run, sought := (s.srv k).sought + 1, marked := (s.srv k).marked && found } ∧ b = (if
    found then a.markTw k w ((found && idOk w && w.a != 0) && decide (run ≥ 2)) else a) ∧ c = (if (found && idOk w && w.a != 0)
    = true then (b.setF (Fld.SRV_STATUS_WEDGE k) (idOf w)).rroCheck k w else b) ∧ d = (c.setF (Fld.SRV_STATUS_LOST k)
    0).uninhibit k 1) ∧
  (∃ (k : Nat) (s : State), s.parked k = false ∧ s.getF (Fld.SRV_CTRL_MODE k) ≠ 0) ∧
  (∃ (k : Nat) (s u : State), (s.srv k).pred < s.dictNum (0x3600 + k) 0x0B ∧ u = (s.setSrv k
    { s.srv k with p1 := s.predicted k, p2 := (s.srv k).p1, pred := (s.srv k).pred + 1 }).inhibit k 1) ∧
  (∃ (k : Nat) (s : State), s.dictNum (0x3600 + k) 0x0B ≤ (s.srv k).pred) ∧
  (∃ (k : Nat) (s : State), s.parked k = false ∧ s.getF (Fld.SRV_CTRL_MODE k) ≠ 0) ∧
  (∃ (k : Nat) (s u : State), s.isSet (Fld.SRV_STATUS_LOST k) = true ∧ s.dictNum (0x3600 + k) 0x0C ≤ (s.srv k).sought ∧ u =
    s.retract k 0) ∧
  (∃ (k : Nat) (s : State), (s.isSet (Fld.SRV_STATUS_LOST k) = false ∨ (s.srv k).sought < s.dictNum (0x3600 + k) 0x0C)) :=
  ⟨
    ⟨0, (run.setF Fld.MFE_STATUS_PARKED0 1), (by decide +kernel)⟩,
    ⟨0, (onDisk run), _, (by decide +kernel), (by decide +kernel), (by decide +kernel), rfl⟩,
    ⟨0, ((onDisk run).setF (Fld.SRV_STATUS_LOST 0) 1), (by decide +kernel), (by decide +kernel), (by decide +kernel)⟩,
    ⟨0, wedge, true, _, (onDisk run), _, _, _, _, rfl, rfl, rfl, rfl, rfl⟩,
    ⟨0, (onDisk run), (by decide +kernel), (by decide +kernel)⟩,
    ⟨0, (onDisk run), _, (by decide +kernel), rfl⟩,
    ⟨0, (onDisk { run with srv0 := { run.srv0 with pred := 100 } }), (by decide +kernel)⟩,
    ⟨0, (onDisk run), (by decide +kernel), (by decide +kernel)⟩,
    ⟨0, ((onDisk { run with srv0 := { run.srv0 with sought := 100000 } }).setF (Fld.SRV_STATUS_LOST 0) 1), _,
      (by decide +kernel), (by decide +kernel), rfl⟩,
    ⟨0, (onDisk run), (by decide +kernel)⟩⟩

/-- States and operands that meet the premises of `ServoCommandsRunTheirEffect`, clause by clause. -/
theorem test_witness_ServoCommandsRunTheirEffect :
  (∃ (k : Nat) (v m : Int) (s : State), v = (s.srv k).uv.getD 1 0 ∧ m = (s.srv k).uma.getD 1 0) ∧
  (∃ (k : Nat) (target : BitVec 32) (s u : State), u = s.setF (Fld.SRV_TARGET_TARGET k) target.toNat) ∧
  (∃ (l : Nat), l < 8) ∧
  (∃ (s u : State), u = s.enableLoop 8 s.spm.iqTarget) ∧
  (∃ (h : Nat) (l : Learn) (s : State), Assoc.find s.cle.learn h = some l) ∧
  (∃ (h : Nat) (s : State), Assoc.find s.cle.learn h = none) :=
  ⟨
    ⟨0, _, _, run, rfl, rfl⟩,
    ⟨0, 5, run, _, rfl⟩,
    ⟨7, (by decide +kernel)⟩,
    ⟨run, _, rfl⟩,
    ⟨0, ⟨0, 0, 10000, false⟩, { run with cle := { run.cle with learn := [(0, ⟨0, 0, 10000, false⟩)] } }, (by decide +kernel)⟩,
    ⟨0, run, (by decide +kernel)⟩⟩

/-- States and operands that meet the premises of `HeadLoadsAndInjectionsRunTheirEffect`, clause by clause. -/
theorem test_witness_HeadLoadsAndInjectionsRunTheirEffect :
  (∃ (k : Nat) (ws : List WedgeData) (s : State), (s.mayLoad k = false ∨ lockRun ws = false)) ∧
  (∃ (k : Nat) (ws : List WedgeData) (ident : Option Nat) (rcoil : Nat) (s u : State), s.mayLoad k = true ∧ lockRun ws = true ∧
    u = ((({ s with tint := { s.tint with counting := s.tint.counting.set k false } } : State).measureCoil k rcoil).leaveRamp
    k).meetPreamp k ident ∧ u.deployed = true ∧ u.modelCoef k 2 = 0) ∧
  (∃ (k : Nat) (ws : List WedgeData) (ident : Option Nat) (rcoil : Nat) (w : WedgeData) (p : Int) (s u a b c d e f : State),
    s.mayLoad k = true ∧ lockRun ws = true ∧ ws.getLast? = some w ∧ u =
    ((({ s with tint := { s.tint with counting := s.tint.counting.set k false } } : State).measureCoil k rcoil).leaveRamp
    k).meetPreamp k ident ∧ (u.deployed = false ∨ u.modelCoef k 2 ≠ 0) ∧ p = u.measuredP k w ∧ a = (ws.foldl (fun (t : State) x
    => t.rroCheck k x) ((u.setSrv k { u.srv k with marked := true }).markTw k w true)).setF (Fld.SRV_STATUS_LOST k) 0 ∧ b =
    (a.setF (Fld.SRV_STATUS_WEDGE k) (idOf w)).uninhibit k 1 ∧ c = b.setSrv k
    { (b.srv k).unseed.take p with amps := [w.a], tries := 0, pred := 0, ref := p } ∧ d = (((((c.enableLoop (4 * k)
    0).enableLoop (4 * k + 3) 0).reportWedge k p 0).backInService k).retarget k).event (534 + k) 0 ∧ e = (if
    d.boot.ochreRunning = true ∧ d.boot.ochreStep = 2 ∧ d.boot.locked = [0, 1] then
    { d with boot := { d.boot with ochreStep := 3 } } else d) ∧ f = (if e.boot.bringUp = true ∧ e.boot.locked = [0, 1] then
    e.startQualification else e)) ∧
  (∃ (k : Nat) (s : State), k < 2 ∧ (s.chn k).wgate = false) ∧
  (∃ (k : Nat) (s : State), s.mayLoad k = false) ∧
  (∃ (k rcoil : Nat) (s u : State), s.mayLoad k = true ∧ u = ((((s.measureCoil k rcoil).leaveRamp k).setSrv k
    { s.srv k with tries := (s.srv k).tries + 1 }).retract k 0).raise (291 + 16 * k) 0 0) ∧
  (∃ (s : State), ((s.manufacture = false ∧ s.returned = false) ∨ s.cle.inject.isSome = true ∨ (s.injectShort = false ∧ 9 <
    s.getF Fld.CLE_INJCTL_NODE))) ∧
  (∃ (s : State), (s.manufacture = true ∨ s.returned = true) ∧ s.cle.inject = none ∧ s.injectShort = true) ∧
  (∃ (kind node : Nat) (s u : State), (s.manufacture = true ∨ s.returned = true) ∧ s.cle.inject = none ∧ s.injectShort = false
    ∧ kind = s.getF Fld.CLE_INJCTL_TYPE ∧ node = s.getF Fld.CLE_INJCTL_NODE ∧ node ≤ 9 ∧ u =
    ((({ s with cle := { s.cle with inject := some ⟨node, kind, if kind = 1 then 4096 else 0, 0, s.captureLen⟩ } } :
    State).setF Fld.CLE_INJCTL_ACTIVE 1).setF Fld.CLE_CAPCTL_DONE 0).setDictNum 0x4140 0x0A 1 1) ∧
  (∃ (s : State), s.cle.inject = none) ∧
  (∃ (x : Inject) (s u : State), s.cle.inject = some x ∧ u = ((({ s with cle := { s.cle with inject := none } } : State).setF
    Fld.CLE_INJCTL_ACTIVE 0).setF Fld.CLE_CAPCTL_DONE 1).setDictNum 0x4140 0x0A 1 2) :=
  ⟨
    ⟨0, [], run, (by decide +kernel)⟩,
    ⟨0, fourWedges, none, 0, (fused 0xFFFF (ready (booted { slated with ochreRunning := true, ochreStep := 2 } run))), _,
      (by decide +kernel), (by decide +kernel), rfl, (by decide +kernel), (by decide +kernel)⟩,
    ⟨0, fourWedges, none, 0, _, _, (ready (booted { slated with ochreRunning := true, ochreStep := 2 } run)), _, _, _, _, _, _,
      _, (by decide +kernel), (by decide +kernel), (some_is (by decide +kernel)), rfl, (by decide +kernel), rfl, rfl, rfl, rfl,
      rfl, rfl, rfl⟩,
    ⟨0, run, (by decide +kernel), (by decide +kernel)⟩,
    ⟨0, run, (by decide +kernel)⟩,
    ⟨0, 0, (ready (booted { slated with ochreRunning := true, ochreStep := 2 } run)), _, (by decide +kernel), rfl⟩,
    ⟨(fused 0xFFFF run), (by decide +kernel)⟩,
    ⟨((run.setF Fld.CLE_INJCTL_TYPE 1).setF Fld.CLE_CAPCTL_LENLOG 1), (by decide +kernel), (by decide +kernel),
      (by decide +kernel)⟩,
    ⟨_, _, (run.setF Fld.CLE_CAPCTL_LENLOG 12), _, (by decide +kernel), (by decide +kernel), (by decide +kernel), rfl, rfl,
      (by decide +kernel), rfl⟩,
    ⟨run, (by decide +kernel)⟩,
    ⟨⟨0, 0, 0, 3, 4⟩, { run with cle := { run.cle with inject := some ⟨0, 0, 0, 3, 4⟩ } }, _, (by decide +kernel), rfl⟩⟩

/-- States and operands that meet the premises of `SpindlePeriodsRunTheirEffect`, clause by clause. -/
theorem test_witness_SpindlePeriodsRunTheirEffect :
  (∃ (s : State), (s.isSet Fld.MFE_STATUS_SPIN_ON = false ∨ s.mfe.rectifier = true ∨ s.spinMode = 0 ∨ s.spinMode = 4)) ∧
  (∃ (isamp l : List Int) (s : State), s.isSet Fld.MFE_STATUS_SPIN_ON = true ∧ s.mfe.rectifier = false ∧ l = isamp.map
    (clampInt (-(s.isFs : Int)) s.isFs)) ∧
  (∃ (arrived : Bool) (isamp : List Int) (angle : Nat) (asked : List Nat) (s u v : State), asked = (if arrived then s.spm.sent
    else s.spm.duty) ∧ s.isSet Fld.SPM_STATUS_SHIFT = false ∧ (u = (s.setSpm
    { s.spm with duty := asked, carry := none, pwmCount := s.spm.pwmCount + 1, angle := angle }).setMfe
    { s.mfe with missedDuty := if arrived = true ∨ s.spm.focOn = false then 0 else s.mfe.missedDuty + 1 }) ∧ v = (u.takeSample
    asked isamp angle).shiftControl asked (decide (s.spm.shiftPeriods % 2 = 0)) (decide (shortWindows (s.getF Fld.MFE_GATE_DT)
    asked < 2))) ∧
  (∃ (arrived : Bool) (isamp : List Int) (angle : Nat) (asked duty : List Nat) (carry : Option (Nat × Nat)) (s u v : State),
    asked = (if arrived then s.spm.sent else s.spm.duty) ∧ s.isSet Fld.SPM_STATUS_SHIFT = true ∧ shiftedDuty (s.getF
    Fld.MFE_GATE_DT) (decide (s.spm.shiftPeriods % 2 = 0)) s.spm.carry asked = (duty, carry) ∧ (u = (s.setSpm
    { s.spm with duty := duty, carry := carry, pwmCount := s.spm.pwmCount + 1, angle := angle }).setMfe
    { s.mfe with missedDuty := if arrived = true ∨ s.spm.focOn = false then 0 else s.mfe.missedDuty + 1 }) ∧ v = (u.takeSample
    duty isamp angle).shiftControl asked (decide (s.spm.shiftPeriods % 2 = 0)) (decide (shortWindows (s.getF Fld.MFE_GATE_DT)
    duty < 2))) ∧
  (∃ (s : State), (s.spinMode ≠ 3 ∨ s.spm.focOn = false ∨ s.spm.pwmCount < 10)) ∧
  (∃ (speed : Nat) (rev : Bool) (slew : Nat) (r d uo iq : Int) (ramp : Option Ramp) (s a b u v w : State) (y : Int), s.spinMode
    = 3 ∧ s.spm.focOn = true ∧ 10 ≤ s.spm.pwmCount ∧ a = (if speed < 16 * s.getF Fld.SPM_SPDLIM_OBS_MIN then s else s.measured
    speed) ∧ b = (a.setF Fld.SPM_SPEED_REV (b2n rev)).retargetSpin ∧ slew = toward b.spm.slew (5000 * b.getF
    Fld.SPM_TARGET_SPEED) (16 * b.dictNum 0x4000 0x0B) ∧ r =
    (match b.cle.spinRamp with | some x => ({ x with n := x.n + 1 } : Ramp).at_ ((slew / 5000 : Nat) : Int) | none => ((slew / 5000 : Nat) : Int))
    ∧ ramp =
    (match b.cle.spinRamp with | some x => if x.n + 1 ≥ x.len then none else some { x with n := x.n + 1 } | none => none) ∧ u =
    (({ b with cle := { b.cle with spinRamp := ramp } } : State).setSpm { b.spm with slew := slew, pwmCount := 0 }).setF
    (Fld.CLE_LSTAT_RAMP 8) (b2n ramp.isSome) ∧ d = r - b.speed16 + u.testSignal 8 ∧ u.runLoop 8 d = (v, y) ∧ uo = satInt 16 (y
    + u.testSignal 9) ∧ w = (v.capture 8 d (r - b.speed16)).capture 9 uo y ∧ iq = clampInt (-((w.getF Fld.SPM_CURLIM_IQ_MAX :
    Nat) : Int)) (w.getF Fld.SPM_CURLIM_IQ_MAX : Nat) (rnd (uo * w.isFs) 15)) :=
  ⟨
    ⟨run, (by decide +kernel)⟩,
    ⟨[0, 0, 0], _, (run.setF Fld.MFE_STATUS_SPIN_ON 1), (by decide +kernel), (by decide +kernel), rfl⟩,
    ⟨true, [0, 0, 0], 0, _, run, _, _, rfl, (by decide +kernel), rfl, rfl⟩,
    ⟨true, [0, 0, 0], 0, _, _, _, (run.setF Fld.SPM_STATUS_SHIFT 1), _, _, rfl, (by decide +kernel), (both _), rfl, rfl⟩,
    ⟨run, (by decide +kernel)⟩,
    ⟨0, false, _, _, _, _, _, _, (foc (spinning 3 { run with spm := { run.spm with pwmCount := 10 } })), _, _, _, _, _, _,
      (by decide +kernel), (by decide +kernel), (by decide +kernel), rfl, rfl, rfl, rfl, rfl, rfl, rfl, (both _), rfl, rfl,
      rfl⟩⟩

/-- States and operands that meet the premises of `SpindleEventsRunTheirEffect`, clause by clause. -/
theorem test_witness_SpindleEventsRunTheirEffect :
  (∃ (s : State), s.spm.focOn = true ∧ s.isSet Fld.SPM_STATUS_OBS_VALID = true) ∧
  (∃ (interval c speed : Nat) (ahead back : Bool) (s a u : State), (s.spm.focOn = false ∨ s.isSet Fld.SPM_STATUS_OBS_VALID =
    false) ∧ speed = crossingSpeed interval (s.getF Fld.SPM_MOTOR_POLES) ∧ ahead = (s.spm.lastCross == some ((c + 5) % 6)) ∧
    back = (s.spm.lastCross == some ((c + 1) % 6)) ∧ a = (if (ahead || back) = true then (s.measured speed).setF
    Fld.SPM_SPEED_REV (b2n back) else s.measured speed) ∧ u = a.setSpm { s.spm with lastCross := some c }) ∧
  (∃ (s : State), s.spinMode ≠ 4) ∧
  (∃ (n : Nat) (s u v w : State), s.spinMode = 4 ∧ n = s.getF Fld.SPM_STATUS_CATCHFAIL + 1 ∧ u = (s.setSpm
    { s.spm with crossings := [], lastCross := none }).setF Fld.SPM_STATUS_CATCHFAIL n ∧ v = u.bridgeOff.raise 337 0 0 ∧ w =
    State.startBrake (v.setSpm { v.spm with spinDown := true, zvOnly := true })) ∧
  (∃ (p1 p2 p3 : Nat × Nat × Nat) (s : State), (s.spm.focOn = false ∨ s.implausible p1 = false ∨ s.implausible p2 = false ∨
    s.implausible p3 = false)) ∧
  (∃ (p1 p2 p3 : Nat × Nat × Nat) (s u : State), s.spm.focOn = true ∧ s.implausible p1 = true ∧ s.implausible p2 = true ∧
    s.implausible p3 = true ∧ u = (((((s.measured p3.2.2).setF Fld.SPM_STATUS_OBS_VALID 0).bumpF Fld.SPM_CNT_LOS 1).event 530
    p3.2.2).raise 336 0 0)) ∧
  (∃ (s : State), s.unparkable 0 = false ∧ s.unparkable 1 = false) ∧
  (∃ (s u : State), (s.unparkable 0 = true ∨ s.unparkable 1 = true) ∧ u = ((s.retractOffRamp 0).bridgeOff).setF
    Fld.SPM_STATUS_AT_SPEED 0) ∧
  (∃ (speed : Nat) (s : State), (480 ≤ speed ∨ s.spinMode = 1 ∨ s.spinMode = 2)) ∧
  (∃ (speed : Nat) (s a b c : State), speed < 480 ∧ s.spinMode ≠ 1 ∧ s.spinMode ≠ 2 ∧ a = (((s.measured speed).bridgeOff.setF
    Fld.SPM_STATUS_STOPPED 1).setF Fld.SPM_STATUS_AT_SPEED 0).setF Fld.SPM_STATUS_OBS_VALID 0 ∧ b = a.setSpm
    { a.spm with spinDown := false, zvOnly := false, belowCatch := false, iqTarget := 0 } ∧ c = (if b.isSet Fld.SPM_SPEED_REV =
    true then b.setF Fld.SPM_SPEED_REV 0 else b)) :=
  ⟨
    ⟨((foc run).setF Fld.SPM_STATUS_OBS_VALID 1), (by decide +kernel), (by decide +kernel)⟩,
    ⟨0, 5, _, _, _, run, _, _, (by decide +kernel), rfl, rfl, rfl, rfl, rfl⟩,
    ⟨run, (by decide +kernel)⟩,
    ⟨_, (spinning 4 run), _, _, _, (by decide +kernel), rfl, rfl, rfl, rfl⟩,
    ⟨(0, 0, 0), (0, 0, 0), (0, 0, 0), run, (by decide +kernel)⟩,
    ⟨(0, 1000000, 0), (0, 1000000, 0), (0, 1000000, 0), (foc (spinning 5 run)), _, (by decide +kernel), (by decide +kernel),
      (by decide +kernel), (by decide +kernel), rfl⟩,
    ⟨run, (by decide +kernel), (by decide +kernel)⟩,
    ⟨{ run.setF Fld.MFE_STATUS_PARKED0 0 with mfe := { run.mfe with vcmOff0 := true } }, _, (by decide +kernel), rfl⟩,
    ⟨480, run, (by decide +kernel)⟩,
    ⟨479, run, _, _, _, (by decide +kernel), (by decide +kernel), (by decide +kernel), rfl, rfl, rfl⟩⟩

/-- States and operands that meet the premises of `BusVoltageEventsRunTheirEffect`, clause by clause. -/
theorem test_witness_BusVoltageEventsRunTheirEffect :
  (∃ (vbus : Nat) (s u v : State), u = s.setVbus vbus ∧ v = (u.setMfe { u.mfe with brkOn := true, vbusAtBrk := vbus }).stat
    0x8150 6 1) ∧
  (∃ (vbus : Nat) (s u : State), u = s.setVbus vbus) ∧
  (∃ (vbus : Nat) (s u : State), u = s.setVbus vbus) ∧
  (∃ (vbus : Nat) (s u v : State), u = s.setVbus vbus ∧ v = (u.bridgeOff.setMfe
    { u.mfe with bridgeReady := false, regenOff := true, brkOn := true }).retractOffRamp 7) ∧
  (∃ (vbus : Nat) (keep : Bool) (s u v : State), keep = decide (s.getF Fld.MFE_BUSTH0_CHOP_OFF ≤ vbus) ∧ u = s.setVbus vbus ∧ v
    = (((u.setMfe { u.mfe with bridgeReady := true, regenOff := u.isSet Fld.MFE_PROT_CHOP_OPEN, brkOn := keep }).setF
    Fld.MFE_STATUS_BUS (b2n keep)).vcmAgain 0).vcmAgain 1) ∧
  (∃ (v12 : Int) (vbus : Nat) (s a u : State), a = (s.setVbus vbus).setF Fld.MFE_VSENSE_V12 (senseVolts v12) ∧ u = (a.setF
    Fld.MFE_STATUS_IDF_ON (b2n (decide (v12 ≥ 800 ∧ v12 + 2 ≥ vbus) && !s.isSet Fld.MFE_STATUS_PWRLOSS))).setMfe
    { a.mfe with fetHeldOff := decide (v12 < 0) }) ∧
  (∃ (amps : Nat) (s : State), (s.mfe.brkOn = true ∨ amps ≤ s.getF Fld.MFE_CHOP_IMIN)) ∧
  (∃ (amps : Nat) (s u : State), s.mfe.brkOn = false ∧ s.getF Fld.MFE_CHOP_IMIN < amps ∧ u = ((s.setF Fld.MFE_PROT_CHOP_SHORT
    1).raiseMotion 358 0 0).unloadBoth) :=
  ⟨
    ⟨1380, run, _, _, rfl, rfl⟩,
    ⟨1360, run, _, rfl⟩,
    ⟨1420, run, _, rfl⟩,
    ⟨1501, run, _, _, rfl, rfl⟩,
    ⟨1419, _, run, _, _, rfl, rfl, rfl⟩,
    ⟨799, 0, run, _, _, rfl, rfl⟩,
    ⟨0, { run with mfe := { run.mfe with brkOn := true } }, (by decide +kernel)⟩,
    ⟨1000, run, _, (by decide +kernel), (by decide +kernel), rfl⟩⟩

/-- States and operands that meet the premises of `RetractsRunTheirEffect`, clause by clause. -/
theorem test_witness_RetractsRunTheirEffect :
  (∃ (k : Nat) (s : State), (s.retracting k = true ∨ s.unparkable k = true)) ∧
  (∃ (k : Nat) (s : State), k < 2 ∧ s.retracting k = false ∧ s.unparkable k = false) ∧
  (∃ (k : Nat) (s : State), s.retracting k = false) ∧
  (∃ (k : Nat) (s a b c d u v : State), s.retracting k = true ∧ a = ((s.setRet k ⟨0, (s.ret k).cause⟩).setRetracting k
    false).setParked k true ∧ b = (if k = 0 then a.setMfe { a.mfe with coilShorted0 := true } else a.setMfe
    { a.mfe with coilShorted1 := true }) ∧ c = (if (if k = 0 then b.mfe.offAfter0 else b.mfe.offAfter1) then b.setVcmOff k true
    else b) ∧ d = (c.servoOff k).showServo k ∧ u = (if d.boot.slateDone = true ∧ d.pwr.held = false then d.event (532 + k)
    (s.ret k).cause else d) ∧ v = (u.bridgeOff.setF Fld.MFE_STATUS_PWRLOSS 0).setMfe { u.mfe with rectifier := false }) ∧
  (∃ (s : State), (s.mfe.supplyLow = false ∨ s.isSet Fld.MFE_STATUS_PWRLOSS = true)) ∧
  (∃ (s a b : State), s.mfe.supplyLow = true ∧ s.isSet Fld.MFE_STATUS_PWRLOSS = false ∧ a = ((s.setF Fld.MFE_STATUS_IDF_ON
    0).setF Fld.MFE_STATUS_PWRLOSS 1).setF Fld.MFE_PROT_PWRLOSS 1 ∧ b = (a.bridgeOff.setMfe
    { a.mfe with rectifier := true, lossConfirmed := true }).setF Fld.SPM_STATUS_AT_SPEED 0) :=
  ⟨
    ⟨0, (run.setF Fld.MFE_STATUS_RETRACT0 1), (by decide +kernel)⟩,
    ⟨1, run, (by decide +kernel), (by decide +kernel), (by decide +kernel)⟩,
    ⟨0, run, (by decide +kernel)⟩,
    ⟨0, (run.setF Fld.MFE_STATUS_RETRACT0 1), _, _, _, _, _, _, (by decide +kernel), rfl, rfl, rfl, rfl, rfl, rfl⟩,
    ⟨run, (by decide +kernel)⟩,
    ⟨{ run with mfe := { run.mfe with supplyLow := true } }, _, _, (by decide +kernel), (by decide +kernel), rfl, rfl⟩⟩

/-- States and operands that meet the premises of `MotionFaultsRunTheirEffect`, clause by clause. -/
theorem test_witness_MotionFaultsRunTheirEffect :
  (∃ (ma : Int) (mv : Nat) (s : State), 100 * ma.natAbs ≤ 95 * s.isFs ∧ mv ≤ 1000) ∧
  (∃ (ma : Int) (mv cause : Nat) (second : Bool) (s t u : State), (95 * s.isFs < 100 * ma.natAbs ∨ 1000 < mv) ∧ s.freeCause =
    (t, cause) ∧ second = (match s.spm.lastShortUs with | some x => decide (s.pwr.timeUs < x + 60000000) | none => false) ∧ u =
    (((t.bridgeOff.retractOffRamp cause).setF Fld.MFE_PROT_SHORT 1).setF Fld.SPM_STATUS_AT_SPEED 0).raiseMotion 353 0 0) ∧
  (∃ (ma want : Nat) (s : State), (want ≤ 10 * ma ∨ 5 * want ≤ s.isFs)) ∧
  (∃ (ma want cause : Nat) (s t : State), 10 * ma < want ∧ s.isFs < 5 * want ∧ s.freeCause = (t, cause)) ∧
  (∃ (cause : Nat) (s t : State), s.freeCause = (t, cause)) :=
  ⟨
    ⟨0, 1000, run, (by decide +kernel), (by decide +kernel)⟩,
    ⟨0, 1001, _, _, run, _, _, (by decide +kernel), (both _), rfl, rfl⟩,
    ⟨0, 0, run, (by decide +kernel)⟩,
    ⟨0, 100000, _, run, _, (by decide +kernel), (by decide +kernel), (both _)⟩,
    ⟨_, run, _, (both _)⟩⟩

/-- States and operands that meet the premises of `DramLinesRunTheirEffect`, clause by clause. -/
theorem test_witness_DramLinesRunTheirEffect :
  (∃ (l cls : Nat) (err e : List (Nat × Nat)) (s u : State), u = (s.initFor l).charge cls 1 ∧ e = addErrs ((Assoc.find
    u.bmc.errs l).getD []) (err.filter (fun p => p.1 < 84))) ∧
  (∃ (s : State), (s.isSet Fld.BMC_PATROL_EN = false ∨ s.initialising = true)) ∧
  (∃ (l : Nat) (rest : List Nat) (s : State), s.isSet Fld.BMC_PATROL_EN = true ∧ s.initialising = false ∧ s.bmc.repairs = l ::
    rest) ∧
  (∃ (what l : Nat) (s u v : State), s.isSet Fld.BMC_PATROL_EN = true ∧ s.initialising = false ∧ s.bmc.repairs = [] ∧ l =
    s.getF Fld.BMC_PATROLPOS_LINE ∧ u = (s.charge 6 1).patrolLine l what ∧ v = (u.setF Fld.BMC_PATROLPOS_LINE 0).stat 0x8200 4
    1) ∧
  (∃ (l : Nat) (cells all : List Host.Cell) (s : State), all = (cells.filter (fun c => c.1 < 64)).foldl (fun m c => Assoc.put m
    c.1 c.2) (((s.bmc.merge.find? (fun e => e.line == l)).map (·.bytes)).getD [])) ∧
  (∃ (e : MergeEntry) (good : Bool) (s a u v : State), a = ((s.setMerge (s.bmc.merge.filter (fun x => x.line != e.line))).stat
    0x8200 7 1).charge e.cls 2 ∧ a.readLine e.line (a.lineHolder e.line) = (u, good) ∧ v =
    (match u.lineDecode e.line with | .corrected fixed => u.rewriteLine e.line fixed | _ => u)) ∧
  (∃ (s : State), s.bmc.hdmLeft = []) ∧
  (∃ (b : Nat) (rest : List Nat) (s : State), s.bmc.hdmLeft = b :: rest) ∧
  (∃ (b : Nat) (s u : State), s.bmc.hdmLeft.contains b = true ∧ u =
    ({ s with bmc := { s.bmc with hdmLeft := s.bmc.hdmLeft.filter (· != b) } } : State).charge 6 32768) ∧
  (∃ (sub drift : Nat) (s u : State), u = { s with bmc := { s.bmc with drift := s.bmc.drift.set sub drift } }) ∧
  (∃ (s : State), s.isSet Fld.BMC_BIASCMD_BUSY = true) ∧
  (∃ (count : Nat) (s u : State), s.isSet Fld.BMC_BIASCMD_BUSY = false ∧ u =
    { s with bmc := { s.bmc with bias := (List.range s.hdmPages).filter (fun p => (decide (s.getF Fld.BMC_BIASPAGE_PAGE ≤ p) && decide (p < s.getF Fld.BMC_BIASPAGE_PAGE + count)) || s.bmc.bias.contains p) } }) :=
  ⟨
    ⟨9, 0, [], _, run, _, rfl, rfl⟩,
    ⟨run, (by decide +kernel)⟩,
    ⟨9, [], { (run.setF Fld.BMC_PATROL_EN 1) with bmc := { run.bmc with repairs := [9] } }, (by decide +kernel),
      (by decide +kernel), (by decide +kernel)⟩,
    ⟨0, _, (run.setF Fld.BMC_PATROL_EN 1), _, _, (by decide +kernel), (by decide +kernel), (by decide +kernel), rfl, rfl, rfl⟩,
    ⟨9, [], _, run, rfl⟩,
    ⟨⟨9, [], 0⟩, _, { run with bmc := { run.bmc with merge := [⟨9, [], 0⟩] } }, _, _, _, rfl, (both _), rfl⟩,
    ⟨run, (by decide +kernel)⟩,
    ⟨3, [], { run with bmc := { run.bmc with hdmLeft := [3] } }, (by decide +kernel)⟩,
    ⟨3, { run with bmc := { run.bmc with hdmLeft := [3] } }, _, (by decide +kernel), rfl⟩,
    ⟨3, 0, run, _, rfl⟩,
    ⟨(run.setF Fld.BMC_BIASCMD_BUSY 1), (by decide +kernel)⟩,
    ⟨0, run, _, (by decide +kernel), rfl⟩⟩

/-- States and operands that meet the premises of `CxlMemAccessesRunTheirEffect`, clause by clause. -/
theorem test_witness_CxlMemAccessesRunTheirEffect :
  (∃ (hpa x l : Nat) (s u v : State), s.hdmOffset hpa = some x ∧ s.cxc.cmKeys ≠ 3 ∧ l = (hdmBase + x) / 64 ∧ u = (s.initFor
    l).flipBias (x / 65536) ∧ (u.charge 2 1).readLine l (u.lineHolder l) = (v, true)) ∧
  (∃ (hpa x l : Nat) (s u v : State), s.hdmOffset hpa = some x ∧ s.cxc.cmKeys ≠ 3 ∧ l = (hdmBase + x) / 64 ∧ u = (s.initFor
    l).flipBias (x / 65536) ∧ (u.charge 2 1).readLine l (u.lineHolder l) = (v, false)) ∧
  (∃ (hpa x l : Nat) (s u : State), s.hdmOffset hpa = some x ∧ s.cxc.cmKeys ≠ 3 ∧ l = (hdmBase + x) / 64 ∧ u = (s.initFor
    l).flipBias (x / 65536)) ∧
  (∃ (hpa : Nat) (s : State), (s.hdmOffset hpa = none ∨ s.cxc.cmKeys = 3)) :=
  ⟨
    ⟨0, 0, _, (hdmOn run), _, _, (by decide +kernel), (by decide +kernel), rfl, rfl, (snd_is (by decide +kernel))⟩,
    ⟨0, 0, _, (hdmOn { run with bmc := { run.bmc with poisoned := [15728640] } }), _, _, (by decide +kernel),
      (by decide +kernel), rfl, rfl, (snd_is (by decide +kernel))⟩,
    ⟨268435455, 268435455, _, (hdmOn run), _, (by decide +kernel), (by decide +kernel), rfl, rfl⟩,
    ⟨268435456, (hdmOn run), (by decide +kernel)⟩⟩

/-- States and operands that meet the premises of `HostLinkEventsRunTheirEffect`, clause by clause. -/
theorem test_witness_HostLinkEventsRunTheirEffect :
  (∃ (s : State), (s.cxc.perstLow = true ∨ s.boot.slateStep < 9 ∨ (s.tst.loop = true ∧ s.getF Fld.TST_LBCTL_IF = 0 ∧ s.getF
    Fld.TST_LBCTL_DEPTH ≠ 3))) ∧
  (∃ (width rate w r : Nat) (cxl mode : Bool) (presets : List Nat) (s a b c d e : State), s.cxc.perstLow = false ∧ 9 ≤
    s.boot.slateStep ∧ (s.tst.loop = false ∨ s.getF Fld.TST_LBCTL_IF ≠ 0 ∨ s.getF Fld.TST_LBCTL_DEPTH = 3) ∧ a = (s.applyEntry
    0x5800 1).applyEntry 0x5800 2 ∧ w = highestOf [8, 4, 2, 1] (min width (a.getF Fld.CXC_LINKCAP_MAXWIDTH)) ∧ r = highestOf
    [5, 4, 3, 1] (min rate (a.getF Fld.CXC_LINKCAP_MAXRATE)) ∧ mode = (cxl && decide (3 ≤ r)) ∧ b = (((a.setF
    Fld.CXC_LINK_LTSSM 0x18).setF Fld.CXC_LINK_UP 1).setF Fld.CXC_LINK_CXL (b2n mode)).setF Fld.CXC_LINK_CACHE (b2n mode) ∧ c =
    ((b.setF Fld.CXC_LINK_MEM (b2n (mode && s.hdmSize != 0))).setF Fld.CXC_LINK_WIDTH w).setF Fld.CXC_LINK_RATE r ∧ d =
    { c.stat 0x8300 1 1 with cxc := { c.cxc with prevLink := some (b2n mode, w, r), presets := if r < 3 then c.cxc.presets else (List.range w).map (fun i => if presets.getD i 11 ≤ 10 then presets.getD i 11 else c.cxc.presets.getD i 0) } }
    ∧ (e = (if mode = true ∨ s.cxc.prevLink ≠ some (0, w, r) then d.event 576 0 else d))) ∧
  (∃ (s : State), s.isSet Fld.CXC_LINK_UP = true) ∧
  (∃ (s : State), s.isSet Fld.CXC_LINK_UP = false) ∧
  (∃ (s u : State), u = (s.setF Fld.PLT_RSTCAUSE_CXL_RESET 1).hostReset false) ∧
  (∃ (s u : State), u = (if s.isSet Fld.CXC_LINK_UP = true then s.setF Fld.CXC_LINK_LTSSM 0x19 else s)) ∧
  (∃ (s u : State), s.cxc.d3 = true ∧ u = (if s.isSet Fld.CXC_LINK_UP = true then s.setF Fld.CXC_LINK_LTSSM 0x18 else s)) ∧
  (∃ (s : State), s.cxc.d3 = false) :=
  ⟨
    ⟨State.reset, (by decide +kernel)⟩,
    ⟨8, 5, _, _, true, _, [], run, _, _, _, _, _, (by decide +kernel), (by decide +kernel), (by decide +kernel), rfl, rfl, rfl,
      rfl, rfl, rfl, rfl, rfl⟩,
    ⟨(linkUp run), (by decide +kernel)⟩,
    ⟨run, (by decide +kernel)⟩,
    ⟨run, _, rfl⟩,
    ⟨run, _, rfl⟩,
    ⟨{ run with cxc := { run.cxc with d3 := true } }, _, (by decide +kernel), rfl⟩,
    ⟨run, (by decide +kernel)⟩⟩

/-- States and operands that meet the premises of `HostAccessesRunTheirEffect`, clause by clause. -/
theorem test_witness_HostAccessesRunTheirEffect :
  (∃ (s : State), (s.cxc.perstLow = true ∨ s.isSet Fld.CXC_LINK_UP = false)) ∧
  (∃ (ready : Bool) (s : State), s.cxc.perstLow = false ∧ s.isSet Fld.CXC_LINK_UP = true ∧ (ready = false ∨ s.boot.slateStep <
    9)) ∧
  (∃ (s : State), s.cxc.perstLow = false ∧ s.isSet Fld.CXC_LINK_UP = true ∧ 9 ≤ s.boot.slateStep) ∧
  (∃ (off be v : Nat) (s u : State), s.cxc.perstLow = false ∧ s.isSet Fld.CXC_LINK_UP = true ∧ 9 ≤ s.boot.slateStep ∧ u =
    (List.range 4).foldl (fun (t : State) i => if bitOf be i then t.cfgPut (off / 4 * 4 + i) (BitVec.ofNat 8 (v / 2 ^ (8 * i)))
    else t) s) ∧
  (∃ (s : State), s.isSet Fld.CXC_HDM_LOCKED = true) ∧
  (∃ (base size : Nat) (lock : Bool) (s u v : State), s.isSet Fld.CXC_HDM_LOCKED = false ∧ u =
    { s with cxc := { s.cxc with hdmRegs := [base % 2 ^ 32, base / 2 ^ 32 % 2 ^ 32, size % 2 ^ 32, size / 2 ^ 32 % 2 ^ 32, 0x200 + 0x100 * b2n lock] } }
    ∧ v = ((u.setF Fld.CXC_HDM_ERROR 0).setF Fld.CXC_HDM_COMMITTED 1).setF Fld.CXC_HDM_SIZE (size / 268435456)) ∧
  (∃ (off width : Nat) (s : State), (s.barsOn = false ∨ 8388608 ≤ off ∨ (width ≠ 4 ∧ width ≠ 8) ∨ off % width ≠ 0)) ∧
  (∃ (off width : Nat) (s : State), s.barsOn = true ∧ off < 8388608 ∧ (width = 4 ∨ width = 8) ∧ off % width = 0) ∧
  (∃ (q : Nat) (s : State), s.queue q = none) ∧
  (∃ (q : Nat) (x : Queue) (s : State), s.queue q = some x) ∧
  (∃ (s : State), (s.isSet Fld.CXC_LINK_UP = false ∨ s.boot.slateStep < 9)) ∧
  (∃ (s : State), s.isSet Fld.CXC_LINK_UP = true ∧ 9 ≤ s.boot.slateStep) :=
  ⟨
    ⟨run, (by decide +kernel)⟩,
    ⟨false, (linkUp run), (by decide +kernel), (by decide +kernel), (by decide +kernel)⟩,
    ⟨(linkUp run), (by decide +kernel), (by decide +kernel), (by decide +kernel)⟩,
    ⟨0, 15, 0, (linkUp run), _, (by decide +kernel), (by decide +kernel), (by decide +kernel), rfl⟩,
    ⟨(run.setF Fld.CXC_HDM_LOCKED 1), (by decide +kernel)⟩,
    ⟨0, 268435455, false, run, _, _, (by decide +kernel), rfl, rfl⟩,
    ⟨8388608, 4, (bars run), (by decide +kernel)⟩,
    ⟨8388604, 4, (bars run), (by decide +kernel), (by decide +kernel), (by decide +kernel), (by decide +kernel)⟩,
    ⟨1048575, run, (by decide +kernel)⟩,
    ⟨1048575, (newQueue 1048575 0 1 4), (withQueues [(newQueue 1048575 0 1 4)] run), (by decide +kernel)⟩,
    ⟨run, (by decide +kernel)⟩,
    ⟨(linkUp run), (by decide +kernel), (by decide +kernel)⟩⟩

/-- States and operands that meet the premises of `LinkSecurityAndErrorsRunTheirEffect`, clause by clause. -/
theorem test_witness_LinkSecurityAndErrorsRunTheirEffect :
  (∃ (s : State), (s.cxc.spdm = false ∨ s.isSet Fld.CXC_LINK_UP = false)) ∧
  (∃ (s : State), s.cxc.spdm = true ∧ s.isSet Fld.CXC_LINK_UP = true) ∧
  (∃ (stream : Nat) (s : State), stream < 2 ∧ s.cxc.spdm = true ∧ s.isSet Fld.CXC_LINK_UP = true) ∧
  (∃ (stream : Nat), stream < 2) ∧
  (∃ (s u : State), u = (((s.setKeys 0 3).setF Fld.CXC_IDE_FAILED 1).stat 0x8300 5 1).event 578 0) ∧
  (∃ (s u : State), u = (((s.setKeys 1 3).setF Fld.CXC_IDE_FAILED 1).stat 0x8300 5 1).event 578 0) ∧
  (∃ (cache : Bool) (s u : State), u = (if cache then { s with cxc := { s.cxc with rasCorr := s.cxc.rasCorr ||| 16 } } else s)) :=
  ⟨
    ⟨run, (by decide +kernel)⟩,
    ⟨{ (linkUp run) with cxc := { run.cxc with spdm := true } }, (by decide +kernel), (by decide +kernel)⟩,
    ⟨1, { (linkUp run) with cxc := { run.cxc with spdm := true } }, (by decide +kernel), (by decide +kernel),
      (by decide +kernel)⟩,
    ⟨1, (by decide +kernel)⟩,
    ⟨run, _, rfl⟩,
    ⟨run, _, rfl⟩,
    ⟨true, run, _, rfl⟩⟩

/-- States and operands that meet the premises of `CoherentCacheEventsRunTheirEffect`, clause by clause. -/
theorem test_witness_CoherentCacheEventsRunTheirEffect :
  (∃ (s u : State), u = (s.setDisableCaching true).setF Fld.HCC_STATUS_WALK 1) ∧
  (∃ (s u : State), u = ((s.setF Fld.HCC_STATUS_DISABLED 0).setCacheInvalid false).setDisableCaching false) ∧
  (∃ (s : State), s.cacheFailed = true) ∧
  (∃ (addr : Nat) (l : HLine) (s : State), s.cacheFailed = false ∧ s.hcc.evict.find? (fun l => l.line == addr / 64) = some l) ∧
  (∃ (addr : Nat) (s : State), s.cacheFailed = false ∧ s.hcc.evict.find? (fun l => l.line == addr / 64) = none ∧ s.hcc.find
    (addr / 64) = none) ∧
  (∃ (addr : Nat) (l : HLine) (s : State), s.cacheFailed = false ∧ s.hcc.evict.find? (fun l => l.line == addr / 64) = none ∧
    s.hcc.find (addr / 64) = some l) ∧
  (∃ (addr : Nat) (old : List Byte) (l : HLine) (s u : State), s.cacheFailed = false ∧ s.hcc.evict.find? (fun l => l.line ==
    addr / 64) = none ∧ s.hcc.find (addr / 64) = some l ∧ l.bad = false ∧ u = (({ s with hcc := s.hcc.drop (addr / 64) } :
    State).emit (.snoopRsp (if l.st = 2 then rspIFwdM else rspIHitSE) (64 * (addr / 64)) (if l.st = 2 then l.bytes old else
    []))).hccCount) ∧
  (∃ (addr : Nat) (l : HLine) (s u : State), s.cacheFailed = false ∧ s.hcc.evict.find? (fun l => l.line == addr / 64) = some l
    ∧ u = l.writes.foldl (fun (t : State) w => t.emit (.hostWrite (64 * (addr / 64) + w.1) w.2))
    { s with hcc := { s.hcc with evict := s.hcc.evict.filter (fun x => x.line != addr / 64) } }) ∧
  (∃ (addr : Nat) (s : State), (s.hcc.evict.find? (fun l => l.line == addr / 64) = none ∨ s.cacheFailed = true)) ∧
  (∃ (qid a : Nat) (q : Queue) (s : State), s.queue qid = some q ∧ q.mailbox = some a) ∧
  (∃ (qid : Nat) (s : State), ((∀ q, s.queue qid = some q → q.mailbox = none))) ∧
  (∃ (qid a : Nat) (q : Queue) (s : State), s.queue qid = some q ∧ q.mailbox = some a) ∧
  (∃ (q : Queue) (a : Nat), q.mailbox = some a) :=
  ⟨
    ⟨run, _, rfl⟩,
    ⟨run, _, rfl⟩,
    ⟨{ run with cxc := { run.cxc with cmKeys := 3 } }, (by decide +kernel)⟩,
    ⟨256, ⟨4, 0, 2, 2, false, 0, 0, [(0, [1])], false⟩,
      { run with hcc := { run.hcc with evict := [⟨4, 0, 2, 2, false, 0, 0, [(0, [1])], false⟩] } }, (by decide +kernel),
      (by decide +kernel)⟩,
    ⟨256, run, (by decide +kernel), (by decide +kernel), (by decide +kernel)⟩,
    ⟨256, ⟨4, 0, 2, 2, false, 0, 0, [(0, [1])], false⟩,
      { run with hcc := { run.hcc with lines := [⟨4, 0, 2, 2, false, 0, 0, [(0, [1])], false⟩] } }, (by decide +kernel),
      (by decide +kernel), (by decide +kernel)⟩,
    ⟨256, [], ⟨4, 0, 2, 2, false, 0, 0, [(0, [1])], false⟩,
      { run with hcc := { run.hcc with lines := [⟨4, 0, 2, 2, false, 0, 0, [(0, [1])], false⟩] } }, _, (by decide +kernel),
      (by decide +kernel), (by decide +kernel), (by decide +kernel), rfl⟩,
    ⟨256, ⟨4, 0, 2, 2, false, 0, 0, [(0, [1])], false⟩,
      { run with hcc := { run.hcc with evict := [⟨4, 0, 2, 2, false, 0, 0, [(0, [1])], false⟩] } }, _, (by decide +kernel),
      (by decide +kernel), rfl⟩,
    ⟨256, run, (by decide +kernel)⟩,
    ⟨1, 128, { newQueue 1 0 1 4 with mailbox := some 128 }, (withQueues [{ newQueue 1 0 1 4 with mailbox := some 128 }] run),
      (by decide +kernel), (by decide +kernel)⟩,
    ⟨1, run, (fun q h => nomatch (show none = some q from h))⟩,
    ⟨1, 128, { newQueue 1 0 1 4 with mailbox := some 128 }, (withQueues [{ newQueue 1 0 1 4 with mailbox := some 128 }] run),
      (by decide +kernel), (by decide +kernel)⟩,
    ⟨{ newQueue 1 0 1 4 with mailbox := some 128 }, 128, (by decide +kernel)⟩⟩

/-- States and operands that meet the premises of `QueueServiceRunsItsEffect`, clause by clause. -/
theorem test_witness_QueueServiceRunsItsEffect :
  (∃ (s : State), (s.boot.slateStep < 9 ∨ s.isSet Fld.QMG_ACTL_EN = true)) ∧
  (∃ (s u : State), 9 ≤ s.boot.slateStep ∧ s.isSet Fld.QMG_ACTL_EN = false ∧ u = (s.setF Fld.QMG_ACTL_EN 1).setF
    Fld.QMG_ACTL_SETUPERR 0) ∧
  (∃ (s : State), s.isSet Fld.QMG_ACTL_EN = false) ∧
  (∃ (s u : State), s.isSet Fld.QMG_ACTL_EN = true ∧ u = (s.setF Fld.QMG_ACTL_EN 0).setF Fld.QMG_ACTL_RDY 0) ∧
  (∃ (s : State), s.dueQueue = none) ∧
  (∃ (q : Queue) (s : State), s.dueQueue = some q) ∧
  (∃ (b : List Byte) (head : Option Nat) (q : Queue) (s u : State), s.dueQueue = some q ∧ u = ((s.touchContext q.qid).fetchLine
    (q.base + 64 * (q.fetched % 32))).rereadFor q (entTag (slice b 0 64)) head) ∧
  (∃ (s : State), s.canWriteHost = false) ∧
  (∃ (s : State), s.canWriteHost = true) ∧
  (∃ (s : State), s.canWriteHost = true) ∧
  (∃ (id : Nat) (s : State), s.canWriteHost = true ∧ ((∀ r, s.cring id = some r → r.waiting = []))) ∧
  (∃ (id h : Nat) (r r1 : CRing) (s u : State), s.canWriteHost = true ∧ s.cring id = some r ∧ r.waiting ≠ [] ∧ u = (s.hccRead 1
    r.headAddr false).takeHead id h ∧ u.cring id = some r1) ∧
  (∃ (id : Nat) (s : State), s.cring id = none) ∧
  (∃ (id : Nat) (r : CRing) (s : State), s.cring id = some r) :=
  ⟨
    ⟨State.reset, (by decide +kernel)⟩,
    ⟨run, _, (by decide +kernel), (by decide +kernel), rfl⟩,
    ⟨run, (by decide +kernel)⟩,
    ⟨(run.setF Fld.QMG_ACTL_EN 1), _, (by decide +kernel), rfl⟩,
    ⟨run, (by decide +kernel)⟩,
    ⟨{ newQueue 0 0 0 1 with tail := 1 },
      { (linkUp (withQueues [{ newQueue 0 0 0 1 with tail := 1 }] run)) with cxc := { run.cxc with bme := true } },
      (by decide +kernel)⟩,
    ⟨[], none, { newQueue 0 0 0 1 with tail := 1 },
      { (linkUp (withQueues [{ newQueue 0 0 0 1 with tail := 1 }] run)) with cxc := { run.cxc with bme := true } }, _,
      (by decide +kernel), rfl⟩,
    ⟨run, (by decide +kernel)⟩,
    ⟨{ (linkUp run) with cxc := { run.cxc with bme := true } }, (by decide +kernel)⟩,
    ⟨{ (linkUp run) with cxc := { run.cxc with bme := true } }, (by decide +kernel)⟩,
    ⟨1, { (linkUp run) with cxc := { run.cxc with bme := true } }, (by decide +kernel),
      (fun r h => nomatch (show none = some r from h))⟩,
    ⟨1, 0, { newRing 1 0 16 0 0 0 0 with waiting := [⟨0, 0, 0, 0⟩] }, _,
      { (linkUp (withRings [{ newRing 1 0 16 0 0 0 0 with waiting := [⟨0, 0, 0, 0⟩] }] run)) with cxc := { run.cxc with bme := true } },
      _, (by decide +kernel), (by decide +kernel), (by decide +kernel), rfl, (some_is (by decide +kernel))⟩,
    ⟨3, run, (by decide +kernel)⟩,
    ⟨1, (newRing 1 0 16 0 0 0 0), (withRings [(newRing 1 0 16 0 0 0 0)] run), (by decide +kernel)⟩⟩

/-- States and operands that meet the premises of `QueueCommandsRunTheirEffect`, clause by clause. -/
theorem test_witness_QueueCommandsRunTheirEffect :
  (∃ (t st r : Nat) (x : Slot) (s u : State), s.adminCommand t 2 = some x ∧ st = s.adminCheck x.entry noHost (onlyBytes x.entry
    4 18 && qidFits x.entry && numAt x.entry 8 8 % 2048 = 0 && numAt x.entry 18 1 ≤ 32) [0] (fun _ => true) ∧ s.createQueue
    x.entry = (u, r)) ∧
  (∃ (t op st : Nat) (x : Slot) (s : State), (op = 3 ∨ op = 4) ∧ s.adminCommand t op = some x ∧ st = s.adminCheck x.entry
    noHost (onlyBytes x.entry 4 7 && qidFits x.entry) [0] (fun _ => true)) ∧
  (∃ (t st r : Nat) (x : Slot) (s u : State), s.adminCommand t 5 = some x ∧ st = s.adminCheck x.entry noHost (onlyBytes x.entry
    4 25 && 4 ≤ entDepthlog x.entry && entDepthlog x.entry ≤ 12 && numAt x.entry 8 8 % 64 = 0 && numAt x.entry 16 8 % 4 = 0)
    [0] (fun _ => true) ∧ s.createCring x.entry = (u, r)) ∧
  (∃ (t st r : Nat) (x : Slot) (s u : State), s.adminCommand t 6 = some x ∧ st = s.adminCheck x.entry noHost (onlyBytes x.entry
    4 5) [0] (fun _ => true) ∧ s.deleteCring (numAt x.entry 4 2) = (u, r)) ∧
  (∃ (t st r : Nat) (old new : Option Nat) (x : Slot) (s u : State), s.adminCommand t 7 = some x ∧ st = s.adminCheck x.entry
    noHost (onlyBytes x.entry 4 15 && qidFits x.entry && numAt x.entry 8 8 % 64 = 0) [0] (fun _ => true) ∧ s.arm x.entry old
    new = (u, r)) ∧
  (∃ (t st : Nat) (x : Slot) (s : State), s.adminCommand t 8 = some x ∧ st = s.adminCheck x.entry noHost (onlyBytes x.entry 4 7
    && qidFits x.entry) [0] (fun _ => true)) ∧
  (∃ (t st r : Nat) (x : Slot) (s u : State), s.adminCommand t 0xE = some x ∧ st = s.adminCheck x.entry noHost (onlyBytes
    x.entry 6 25 && (entDepthlog x.entry = 0 || (6 ≤ entDepthlog x.entry && entDepthlog x.entry ≤ 12 && numAt x.entry 8 8 % 64
    = 0 && numAt x.entry 16 8 % 4 = 0))) [0] (fun _ => true) ∧ s.eventRing x.entry = (u, r)) :=
  ⟨
    ⟨0, _, _, (slotOf 0 0 0 (entry 2 0 [(4, leBytes 4 5), (16, leBytes 2 1), (18, [4])])), (withAdmin (entry 2 0 [(4, leBytes 4
      5), (16, leBytes 2 1), (18, [4])]) (withRings [(newRing 1 0 16 0 0 0 0)] run)), _, (by decide +kernel), rfl, (both _)⟩,
    ⟨0, 3, _, (slotOf 0 0 0 (entry 3 0 [(4, leBytes 4 5)])), (withAdmin (entry 3 0 [(4, leBytes 4 5)]) (withQueues [q5] run)),
      (by decide +kernel), (by decide +kernel), rfl⟩,
    ⟨0, _, _, (slotOf 0 0 0 (entry 5 0 [(4, leBytes 2 1), (6, [4])])), (withAdmin (entry 5 0 [(4, leBytes 2 1), (6, [4])])
      run), _, (by decide +kernel), rfl, (both _)⟩,
    ⟨0, _, _, (slotOf 0 0 0 (entry 6 0 [(4, leBytes 2 1)])), (withAdmin (entry 6 0 [(4, leBytes 2 1)]) (withRings [(newRing 1 0
      16 0 0 0 0)] run)), _, (by decide +kernel), rfl, (both _)⟩,
    ⟨0, _, _, none, none, (slotOf 0 0 0 (entry 7 0 [(4, leBytes 4 5)])), (withAdmin (entry 7 0 [(4, leBytes 4 5)]) (withQueues
      [q5] run)), _, (by decide +kernel), rfl, (both _)⟩,
    ⟨0, _, (slotOf 0 0 0 (entry 8 0 [(4, leBytes 4 5)])), (withAdmin (entry 8 0 [(4, leBytes 4 5)]) (withQueues [q5] run)),
      (by decide +kernel), rfl⟩,
    ⟨0, _, _, (slotOf 0 0 0 (entry 14 0 [(6, [6])])), (withAdmin (entry 14 0 [(6, [6])]) run), _, (by decide +kernel), rfl,
      (both _)⟩⟩

/-- States and operands that meet the premises of `AdminCommandsRunTheirEffect`, clause by clause. -/
theorem test_witness_AdminCommandsRunTheirEffect :
  (∃ (t st : Nat) (h : HostData) (x : Slot) (s : State), s.adminCommand t 1 = some x ∧ st = s.adminCheck x.entry h (entZero
    x.entry 4 44) [1, 2, 3] (fun n => n = 4096)) ∧
  (∃ (t st r : Nat) (h : HostData) (v : List Byte) (x : Slot) (s : State), s.adminCommand t 0xC = some x ∧ st = s.adminCheck
    x.entry h (onlyBytes x.entry 4 6) [0, 1, 2, 3] (fun _ => true) ∧ s.dictRead (entIndex x.entry) (entSub x.entry) = (r, v)) ∧
  (∃ (t st r : Nat) (h : HostData) (a : ActIn) (x : Slot) (s v u w : State), s.adminCommand t 0xD = some x ∧ st = s.adminCheck
    x.entry h (if entBufkind x.entry = 0 then onlyBytes x.entry 4 15 && 1 ≤ numAt x.entry 7 1 && numAt x.entry 7 1 ≤ 8 else
    onlyBytes x.entry 4 6) [0, 1, 2, 3] (fun _ => true) ∧ v = s.obtainPieces (bufferPieces x.entry h) h.held ∧ v.dictWrite
    false (entIndex x.entry) (entSub x.entry) (v.dictValue x.entry h) a = (u, r) ∧ w = (u.endWith x (dictStatus
    r)).settleResets) ∧
  (∃ (t st r : Nat) (h : HostData) (fail : Option (Nat × Bool)) (x : Slot) (s v u : State), s.adminCommand t 9 = some x ∧ st =
    s.adminCheck x.entry h (onlyBytes x.entry 4 7 && numAt x.entry 4 4 % 4096 = 0) [1, 2, 3] (fun n => n != 0 && n % 4096 = 0
    && n ≤ 1048576) ∧ v = s.obtainPieces (bufferPieces x.entry h) h.held ∧ v.fwDownload (numAt x.entry 4 4) (slice
    (v.readBuffer (bufferPieces x.entry h) h.data) 0 (entBufLen x.entry)) fail = (u, r)) ∧
  (∃ (t st : Nat) (x : Slot) (s : State), s.commitCommand t (fun a => a != 1 && a != 2) = some x ∧ st = s.adminCheck x.entry
    noHost (commitFields x.entry) [0] (fun _ => true)) ∧
  (∃ (t st : Nat) (x : Slot) (s : State), s.commitCommand t (fun a => a == 1) = some x ∧ st = s.adminCheck x.entry noHost
    (commitFields x.entry) [0] (fun _ => true)) ∧
  (∃ (s : State), s.downloaded = none) ∧
  (∃ (act : Nat) (ok good : Bool) (i : Image) (s u w : State), s.downloaded = some i ∧ s.writeCommit i ok = (u, good) ∧ w = (if
    act = 1 then u.setBootRec { u.nvc.boot with pending := u.downloadBank } else u)) ∧
  (∃ (t st : Nat) (x : Slot) (s : State), s.commitCommand t (fun a => a == 2) = some x ∧ st = s.adminCheck x.entry noHost
    (commitFields x.entry) [0] (fun _ => true)) ∧
  (∃ (t st : Nat) (x : Slot) (s u : State), s.adminCommand t 0xB = some x ∧ st = s.adminCheck x.entry noHost (entZero x.entry 4
    44) [0] (fun _ => true) ∧ u = s.setSlot { x with stage := 2 }) :=
  ⟨
    ⟨0, _, noHost, (slotOf 0 0 0 (entry 1 0 [(2, [1]), (56, leBytes 4 4096)])), (withAdmin (entry 1 0 [(2, [1]), (56, leBytes 4
      4096)]) run), (by decide +kernel), rfl⟩,
    ⟨0, _, _, noHost, _, (slotOf 0 0 0 (entry 12 0 [(4, leBytes 2 0x2100), (6, [3])])), (withAdmin (entry 12 0 [(4, leBytes 2
      0x2100), (6, [3])]) run), (by decide +kernel), rfl, (both _)⟩,
    ⟨0, _, _, noHost, act, (slotOf 0 0 0 (entry 13 0 [(4, leBytes 2 0x2100), (6, [3]), (7, [4])])), (withAdmin (entry 13 0 [(4,
      leBytes 2 0x2100), (6, [3]), (7, [4])]) run), _, _, _, (by decide +kernel), rfl, rfl, (both _), rfl⟩,
    ⟨0, _, _, noHost, none, (slotOf 0 0 0 (entry 9 0 [(2, [1]), (56, leBytes 4 4096)])), (withAdmin (entry 9 0 [(2, [1]), (56,
      leBytes 4 4096)]) run), _, _, (by decide +kernel), rfl, rfl, (both _)⟩,
    ⟨0, _, (slotOf 0 0 0 (entry 10 0 [(4, [0])])), (withAdmin (entry 10 0 [(4, [0])]) run), (by decide +kernel), rfl⟩,
    ⟨0, _, (slotOf 0 0 0 (entry 10 0 [(4, [1])])), (withAdmin (entry 10 0 [(4, [1])]) run), (by decide +kernel), rfl⟩,
    ⟨run, (by decide +kernel)⟩,
    ⟨1, true, _, ⟨1, 65536, 0, [], [], 0⟩,
      { run.setF Fld.NVC_PROT_LOCKED 0 with nvc := { run.nvc with download := some ⟨run.downloadBank, ⟨1, 65536, 0, [], [], 0⟩, 65536⟩ } },
      _, _, (by decide +kernel), (both _), rfl⟩,
    ⟨0, _, (slotOf 0 0 0 (entry 10 0 [(4, [2])])), (withAdmin (entry 10 0 [(4, [2])]) run), (by decide +kernel), rfl⟩,
    ⟨0, _, (slotOf 0 0 0 (entry 11 0 [])), (withAdmin (entry 11 0 []) (atStage 3)), _, (by decide +kernel), rfl, rfl⟩⟩

/-- States and operands that meet the premises of `ActivationsRunTheirEffect`, clause by clause. -/
theorem test_witness_ActivationsRunTheirEffect :
  (∃ (s : State), s.qmg.activation = none) ∧
  (∃ (a : Activation) (s u : State), s.qmg.activation = some a ∧ u = (s.flushed.setF Fld.QMG_STATUS_ACTSTOP 1).event 513 0) ∧
  (∃ (a : Activation) (s : State), s.qmg.activation = some a ∧ (a.step ≠ 2 ∨ s.activationReady a = false)) ∧
  (∃ (a : Activation) (found : Bool) (s u v : State), s.qmg.activation = some a ∧ a.step = 2 ∧ s.activationReady a = true ∧
    found = (match s.imageOf s.downloadBank with | some i => i.kind == 0 | none => false) ∧ u = s.flushed.switchImages.setF
    Fld.QMG_STATUS_ACTSTOP 0 ∧ v = ({ u with qmg := { u.qmg with activation := none } } : State).migResume) ∧
  (∃ (q t : Nat) (s : State), s.slot q t = none) ∧
  (∃ (q t st : Nat) (x : Slot) (s : State), s.slot q t = some x ∧ st = s.adminCheck x.entry noHost (onlyBytes x.entry 32 36 &&
    abortQid x.entry < 2 ^ 20 && abortTag x.entry < 32) [0] (fun _ => true)) ∧
  (∃ (q t : Nat) (x : Slot) (s : State), s.slot q t = some x) ∧
  (∃ (x : Slot) (s : State), s.queue (abortQid x.entry) = none) ∧
  (∃ (x : Slot) (p : Queue) (s : State), s.queue (abortQid x.entry) = some p) ∧
  (∃ (x y : Slot) (p : Queue) (s : State), s.queue (abortQid x.entry) = some p ∧ p.notified = false ∧ (abortQid x.entry ≠ x.qid
    ∨ abortTag x.entry ≠ x.tag) ∧ s.slot (abortQid x.entry) (abortTag x.entry) = some y) :=
  ⟨
    ⟨run, (by decide +kernel)⟩,
    ⟨⟨0, 0, 1, 1, 0⟩,
      { run with nvc := { run.nvc with running := 2 }, qmg := { run.qmg with activation := some ⟨0, 0, 1, 1, 0⟩ } }, _,
      (by decide +kernel), rfl⟩,
    ⟨⟨0, 0, 1, 1, 0⟩,
      { run with nvc := { run.nvc with running := 2 }, qmg := { run.qmg with activation := some ⟨0, 0, 1, 1, 0⟩ } },
      (by decide +kernel), (by decide +kernel)⟩,
    ⟨⟨0, 0, 1, 2, 0⟩, _,
      { run with nvc := { run.nvc with running := 2 }, qmg := { run.qmg with activation := some ⟨0, 0, 1, 2, 0⟩ } }, _, _,
      (by decide +kernel), (by decide +kernel), (by decide +kernel), rfl, rfl, rfl⟩,
    ⟨0, 0, run, (by decide +kernel)⟩,
    ⟨0, 0, _, (slotOf 0 0 3 (entry 0x4A 0 [])), (withSlots [(slotOf 0 0 3 (entry 0x4A 0 []))] run), (by decide +kernel), rfl⟩,
    ⟨0, 0, (slotOf 0 0 3 (entry 0x4A 0 [])), (withSlots [(slotOf 0 0 3 (entry 0x4A 0 []))] run), (by decide +kernel)⟩,
    ⟨(slotOf 0 0 3 (entry 0x4A 0 [])), run, (by decide +kernel)⟩,
    ⟨(slotOf 0 0 3 (entry 0x4A 0 [])), (newQueue 0 0 0 1), (withQueues [(newQueue 0 0 0 1)] run), (by decide +kernel)⟩,
    ⟨(slotOf 0 0 3 (entry 0x4A 0 [(36, [1])])), (slotOf 0 1 0 (entry 1 1 [])), (newQueue 0 0 0 1), (withQueues [(newQueue 0 0 0
      1)] (withSlots [(slotOf 0 0 3 (entry 0x4A 0 [(36, [1])])), (slotOf 0 1 0 (entry 1 1 []))] run)), (by decide +kernel),
      (by decide +kernel), (by decide +kernel), (by decide +kernel)⟩⟩

/-- States and operands that meet the premises of `ObjectWritesRunTheirEffect`, clause by clause. -/
theorem test_witness_ObjectWritesRunTheirEffect :
  (∃ (q t st : Nat) (h : HostData) (x : Slot) (s v : State), s.command q t 0x40 = some x ∧ st = s.objectCheck x.entry h
    (entFlags x.entry = 0 && putSegment x.entry ≤ 0xFFFFFF && entZero x.entry 36 12) [1, 2, 3] (fun n => 1 ≤ n && n ≤ 1048576)
    ∧ v = s.obtainPieces (bufferPieces x.entry h) h.held) ∧
  (∃ (x : Slot) (s : State), s.takeSlots (putTiles x.entry) = none) ∧
  (∃ (x : Slot) (data : List Byte) (slots : List Nat) (s u : State), s.takeSlots (putTiles x.entry) = some slots ∧ u =
    (s.ingest (keyHash (slice x.entry 8 16)) (putSegment x.entry) (entBufLen x.entry) slots data).charge 9 1) ∧
  (∃ (q t st : Nat) (h : HostData) (x : Slot) (s : State), s.command q t 0x41 = some x ∧ st = s.objectCheck x.entry h (entFlags
    x.entry < 256 && numAt x.entry 32 8 ≤ 2 ^ 44) [0] (fun _ => true)) ∧
  (∃ (q t st1 : Nat) (h : HostData) (x : Slot) (v : Version) (bs : List Byte) (s u : State), s.command q t 0x41 = some x ∧
    s.objectCheck x.entry h (entFlags x.entry < 256 && numAt x.entry 32 8 ≤ 2 ^ 44) [0] (fun _ => true) = 0 ∧ s.version (entKey
    x.entry) (entVersion x.entry) = some v ∧ ((s.chargeReads 4 v 0 (numAt x.entry 32 8)).chargeHash v).readRange v 0 (numAt
    x.entry 32 8) = (u, st1, bs)) ∧
  (∃ (q t st : Nat) (h : HostData) (x : Slot) (s : State), s.command q t 0x45 = some x ∧ st = s.objectCheck x.entry h (entFlags
    x.entry = 0 && entZero x.entry 32 16) [0] (fun _ => true)) ∧
  (∃ (q t st : Nat) (h : HostData) (x : Slot) (s : State), s.command q t 0x46 = some x ∧ st = s.objectCheck x.entry h (entFlags
    x.entry < 256 && entZero x.entry 40 8) [0] (fun _ => true)) ∧
  (∃ (q t st : Nat) (h : HostData) (x : Slot) (s : State), s.command q t 0x48 = some x ∧ st = s.objectCheck x.entry h (entZero
    x.entry 4 44) [0] (fun _ => true)) ∧
  (∃ (q t : Nat) (x : Slot) (s : State), s.command q t 0x48 = some x ∧ (x.stage ≠ 3 ∨ s.flushOutcome x.order = none)) ∧
  (∃ (q t st : Nat) (x : Slot) (left : List Nat) (s : State), s.command q t 0x48 = some x ∧ x.stage = 3 ∧ s.flushOutcome
    x.order = some st ∧ left = s.obj.openStripes.filter (fun g => !s.closable g)) :=
  ⟨
    ⟨1, 0, _, noHost, (slotOf 1 0 0 (entry 64 0 [])), (withCommand 0 (entry 64 0 []) run), _, (by decide +kernel), rfl, rfl⟩,
    ⟨(slotOf 1 0 0 (entry 64 0 [(56, leBytes 4 1)])), (run.setF Fld.BMC_HDM_POOL 0), (by decide +kernel)⟩,
    ⟨(slotOf 1 0 0 (entry 64 0 [(56, leBytes 4 1)])), [], _, (run.setF Fld.BMC_HDM_POOL 1), _, (some_is (by decide +kernel)),
      rfl⟩,
    ⟨1, 0, _, noHost, (slotOf 1 0 0 (entry 65 0 [])), (withCommand 0 (entry 65 0 []) run), (by decide +kernel), rfl⟩,
    ⟨1, 0, _, noHost, (slotOf 1 0 0 (entry 65 0 [])), v0, _, (withCommand 0 (entry 65 0 []) (holding v0)), _,
      (by decide +kernel), (by decide +kernel), (by decide +kernel), (tri _)⟩,
    ⟨1, 0, _, noHost, (slotOf 1 0 0 (entry 69 0 [])), (withCommand 0 (entry 69 0 []) (holding v0)), (by decide +kernel), rfl⟩,
    ⟨1, 0, _, noHost, (slotOf 1 0 0 (entry 70 0 [])), (withCommand 0 (entry 70 0 []) (holding
      { v0 with sealed := some (sealedAt 0 []) })), (by decide +kernel), rfl⟩,
    ⟨1, 0, _, noHost, (slotOf 1 0 0 (entry 72 0 [])), (withCommand 0 (entry 72 0 []) run), (by decide +kernel), rfl⟩,
    ⟨1, 0, (slotOf 1 0 0 (entry 72 0 [])), (withCommand 0 (entry 72 0 []) run), (by decide +kernel), (by decide +kernel)⟩,
    ⟨1, 0, _, (slotOf 1 0 3 (entry 72 0 [])), _, (withCommand 3 (entry 72 0 []) run), (by decide +kernel), (by decide +kernel),
      (some_is (by decide +kernel)), rfl⟩⟩

/-- States and operands that meet the premises of `ObjectReadsRunTheirEffect`, clause by clause. -/
theorem test_witness_ObjectReadsRunTheirEffect :
  (∃ (q t st : Nat) (h : HostData) (x : Slot) (s : State), s.command q t 0x42 = some x ∧ st = s.objectCheck x.entry h (entFlags
    x.entry = 0 && entZero x.entry 40 8) [1, 2, 3] (fun n => 1 ≤ n && n ≤ 16777216)) ∧
  (∃ (q t off n st1 : Nat) (h : HostData) (x : Slot) (v : Version) (bs : List Byte) (s u : State), s.command q t 0x42 = some x
    ∧ s.objectCheck x.entry h (entFlags x.entry = 0 && entZero x.entry 40 8) [1, 2, 3] (fun n => 1 ≤ n && n ≤ 16777216) = 0 ∧
    s.readVersion x = some v ∧ off = numAt x.entry 32 8 ∧ n = entBufLen x.entry ∧ ((s.chargeReads 4 v off n).charge 9
    1).readRange v off n = (u, st1, bs)) ∧
  (∃ (q t st : Nat) (h : HostData) (x : Slot) (s : State), s.command q t 0x43 = some x ∧ st = s.objectCheck x.entry h (entFlags
    x.entry = 0 && entZero x.entry 32 16) [1, 2, 3] (fun n => 128 ≤ n)) ∧
  (∃ (q t st cookie : Nat) (h : HostData) (x : Slot) (s : State), s.command q t 0x44 = some x ∧ st = s.objectCheck x.entry h
    (entFlags x.entry % 256 ≤ 128 && entFlags x.entry < 512 && entVersion x.entry = 0 && entZero x.entry 40 8) [1, 2, 3] (fun n
    => 64 ≤ n && n ≤ 16777216) ∧ cookie = numAt x.entry 32 8) ∧
  (∃ (q t cookie next : Nat) (h : HostData) (x : Slot) (all now : List Version) (bytes : List Byte) (s a u : State), s.command
    q t 0x44 = some x ∧ s.objectCheck x.entry h (entFlags x.entry % 256 ≤ 128 && entFlags x.entry < 512 && entVersion x.entry =
    0 && entZero x.entry 40 8) [1, 2, 3] (fun n => 64 ≤ n && n ≤ 16777216) = 0 ∧ cookie = numAt x.entry 32 8 ∧ (cookie = 0 ∨
    s.obj.cookies.find? (fun c => c.id == cookie) ≠ none) ∧ s.transferOk (bufferPieces x.entry h) h = true ∧ all = s.listing
    (entKey x.entry) (entFlags x.entry % 256) (bitOf (entFlags x.entry) 8) ((s.obj.cookies.find? (fun c => c.id == cookie)).map
    (·.pos)) ∧ now = all.take (min ((entBufLen x.entry - 16) / 48) 1024) ∧ a =
    { s with obj := { s.obj with cookies := s.obj.cookies.filter (fun c => c.id != cookie) } } ∧ next = (if now.length <
    all.length then a.obj.nextCookie else 0) ∧ u =
    (match now.getLast? with | some v => if now.length < all.length then a.newCookie ⟨v.key, v.ver, false, 0⟩ else a | none => a)
    ∧ bytes = leBytes 4 now.length ++ leBytes 4 (b2n (decide (now.length < all.length))) ++ leBytes 8 next ++ now.flatMap
    s.listEntry) ∧
  (∃ (q t st : Nat) (h : HostData) (x : Slot) (s : State), s.command q t 0x47 = some x ∧ st = s.objectCheck x.entry h (entFlags
    x.entry = 0 && entZero x.entry 32 16) [0] (fun _ => true)) ∧
  (∃ (q t st1 : Nat) (h : HostData) (x : Slot) (v : Version) (z : Seal) (bs : List Byte) (s u : State), s.command q t 0x47 =
    some x ∧ s.objectCheck x.entry h (entFlags x.entry = 0 && entZero x.entry 32 16) [0] (fun _ => true) = 0 ∧ s.readVersion x
    = some v ∧ v.sealed = some z ∧ (((s.chargeReads 4 v 0 z.size).chargeHash v).charge 9 1).readRange v 0 z.size = (u, st1,
    bs)) :=
  ⟨
    ⟨1, 0, _, noHost, (slotOf 1 0 0 (entry 66 0 [(2, [1]), (56, leBytes 4 1)])), (withCommand 0 (entry 66 0 [(2, [1]), (56,
      leBytes 4 1)]) (holding v0)), (by decide +kernel), rfl⟩,
    ⟨1, 0, _, _, _, noHost, (slotOf 1 0 0 (entry 66 0 [(2, [1]), (56, leBytes 4 1)])),
      { v0 with sealed := some (sealedAt 1 []) }, _, (withCommand 0 (entry 66 0 [(2, [1]), (56, leBytes 4 1)]) (holding
      { v0 with sealed := some (sealedAt 1 []) })), _, (by decide +kernel), (by decide +kernel), (by decide +kernel), rfl, rfl,
      (tri _)⟩,
    ⟨1, 0, _, noHost, (slotOf 1 0 0 (entry 67 0 [(2, [1]), (56, leBytes 4 128)])), (withCommand 0 (entry 67 0 [(2, [1]), (56,
      leBytes 4 128)]) (holding v0)), (by decide +kernel), rfl⟩,
    ⟨1, 0, _, _, noHost, (slotOf 1 0 0 (entry 68 0 [(2, [1]), (56, leBytes 4 64)])), (withCommand 0 (entry 68 0 [(2, [1]), (56,
      leBytes 4 64)]) run), (by decide +kernel), rfl, rfl⟩,
    ⟨1, 0, _, _, noHost, (slotOf 1 0 0 (entry 68 0 [(2, [1]), (56, leBytes 4 64)])), _, _, _, (withCommand 0 (entry 68 0 [(2,
      [1]), (56, leBytes 4 64)]) (holding { v0 with sealed := some (sealedAt 0 []) })), _, _, (by decide +kernel),
      (by decide +kernel), rfl, (by decide +kernel), (by decide +kernel), rfl, rfl, rfl, rfl, rfl, rfl⟩,
    ⟨1, 0, _, noHost, (slotOf 1 0 0 (entry 71 0 [])), (withCommand 0 (entry 71 0 []) run), (by decide +kernel), rfl⟩,
    ⟨1, 0, _, noHost, (slotOf 1 0 0 (entry 71 0 [])), { v0 with sealed := some (sealedAt 0 []) }, (sealedAt 0 []), _,
      (withCommand 0 (entry 71 0 []) (holding { v0 with sealed := some (sealedAt 0 []) })), _, (by decide +kernel),
      (by decide +kernel), (by decide +kernel), (by decide +kernel), (tri _)⟩⟩

/-- States and operands that meet the premises of `DmaCommandsRunTheirEffect`, clause by clause. -/
theorem test_witness_DmaCommandsRunTheirEffect :
  (∃ (n : Nat) (s : State), (32 ≤ n ∨ s.getF (Fld.DMA_STAT_STATE n) = 1 ∨ s.getF (Fld.DMA_STAT_STATE n) = 4 ∨ s.getF
    (Fld.DMA_CTL_OP n) = 3)) ∧
  (∃ (n code : Nat) (srcL dstL : List Byte) (ok : Bool) (p : DmaPar) (s : State), n < 32 ∧ s.getF (Fld.DMA_STAT_STATE n) ≠ 1 ∧
    s.getF (Fld.DMA_STAT_STATE n) ≠ 4 ∧ s.getF (Fld.DMA_CTL_OP n) ≠ 3 ∧ p = s.dmaPar n [] [] ∧ p.sg = false ∧ code = s.dmaCheck
    n p ((p.op == 1 || (s.dmaListOk n p.src (s.getF (Fld.DMA_SG_SNENT n)) ok && !listBad (s.dmaList n p.src (s.getF
    (Fld.DMA_SG_SNENT n)) srcL) (s.getF (Fld.DMA_SG_SNENT n)))) && s.dmaListOk n p.dst (s.getF (Fld.DMA_SG_DNENT n)) ok &&
    !listBad (s.dmaList n p.dst (s.getF (Fld.DMA_SG_DNENT n)) dstL) (s.getF (Fld.DMA_SG_DNENT n)))) ∧
  (∃ (n code sn dn : Nat) (srcL dstL : List Byte) (ok : Bool) (p0 p : DmaPar) (s u : State), n < 32 ∧ s.getF
    (Fld.DMA_STAT_STATE n) ≠ 1 ∧ s.getF (Fld.DMA_STAT_STATE n) ≠ 4 ∧ s.getF (Fld.DMA_CTL_OP n) ≠ 3 ∧ p0 = s.dmaPar n [] [] ∧
    p0.sg = true ∧ sn = s.getF (Fld.DMA_SG_SNENT n) ∧ dn = s.getF (Fld.DMA_SG_DNENT n) ∧ u = (if s.dmaHostOwned n = true then s
    else (if p0.op = 1 then s else s.readLines p0.src (16 * min sn 256)).readLines p0.dst (16 * min dn 256)) ∧ p = u.dmaPar n
    (if p0.op = 1 then [] else sglPieces (u.dmaList n p0.src sn srcL) sn) (sglPieces (u.dmaList n p0.dst dn dstL) dn) ∧ code =
    u.dmaCheck n p ((p0.op == 1 || (u.dmaListOk n p0.src sn ok && !listBad (u.dmaList n p0.src sn srcL) sn)) && u.dmaListOk n
    p0.dst dn ok && !listBad (u.dmaList n p0.dst dn dstL) dn)) ∧
  (∃ (n : Nat) (s : State), (s.dmaRun n = none ∨ s.getF (Fld.DMA_STAT_STATE n) ≠ 1)) ∧
  (∃ (n : Nat) (x : DmaData) (all : Bool) (r : DmaRun) (s u : State), s.dmaRun n = some r ∧ s.getF (Fld.DMA_STAT_STATE n) = 1 ∧
    s.dmaUpTo r x r.par.total = (u, all)) ∧
  (∃ (n : Nat) (s : State), (s.getF (Fld.DMA_STAT_STATE n) ≠ 1 ∨ s.dmaRun n = none)) ∧
  (∃ (n l : Nat) (all : Bool) (x : DmaData) (r : DmaRun) (s u : State), s.dmaRun n = some r ∧ s.getF (Fld.DMA_STAT_STATE n) = 1
    ∧ s.dmaUpTo r x (l / r.par.lines * r.par.lines) = (u, all)) ∧
  (∃ (n : Nat) (s : State), (s.dmaRun n = none ∨ (s.getF (Fld.DMA_STAT_STATE n) ≠ 1 ∧ s.getF (Fld.DMA_STAT_STATE n) ≠ 4))) ∧
  (∃ (n : Nat) (r : DmaRun) (s : State), s.dmaRun n = some r ∧ s.getF (Fld.DMA_STAT_STATE n) = 4) ∧
  (∃ (n : Nat) (r : DmaRun) (s : State), s.dmaRun n = some r ∧ s.getF (Fld.DMA_STAT_STATE n) = 1) :=
  ⟨
    ⟨31, (withDma 1 4 0), (by decide +kernel)⟩,
    ⟨31, _, [], [], true, _, run, (by decide +kernel), (by decide +kernel), (by decide +kernel), (by decide +kernel), rfl,
      (by decide +kernel), rfl⟩,
    ⟨31, _, _, _, [], [], true, _, _, (run.setF (Fld.DMA_CTL_MODE 31) 1), _, (by decide +kernel), (by decide +kernel),
      (by decide +kernel), (by decide +kernel), rfl, (by decide +kernel), rfl, rfl, rfl, rfl, rfl⟩,
    ⟨31, run, (by decide +kernel)⟩,
    ⟨31, ⟨[], [], []⟩, _, ⟨31, ⟨1, false, false, false, 0, 0, 0, 0, [1, 1, 1], [0, 0, 0], [0, 0, 0], 0, [], []⟩, 0⟩, (withDma 1
      1 0), _, (by decide +kernel), (by decide +kernel), (both _)⟩,
    ⟨31, run, (by decide +kernel)⟩,
    ⟨31, 0, _, ⟨[], [], []⟩, ⟨31, ⟨1, false, false, false, 0, 0, 0, 0, [1, 1, 1], [0, 0, 0], [0, 0, 0], 0, [], []⟩, 0⟩,
      (withDma 1 1 0), _, (by decide +kernel), (by decide +kernel), (both _)⟩,
    ⟨31, run, (by decide +kernel)⟩,
    ⟨31, ⟨31, ⟨1, false, false, false, 0, 0, 0, 0, [1, 1, 1], [0, 0, 0], [0, 0, 0], 0, [], []⟩, 0⟩, (withDma 1 4 0),
      (by decide +kernel), (by decide +kernel)⟩,
    ⟨31, ⟨31, ⟨1, false, false, false, 0, 0, 0, 0, [1, 1, 1], [0, 0, 0], [0, 0, 0], 0, [], []⟩, 0⟩, (withDma 1 1 0),
      (by decide +kernel), (by decide +kernel)⟩⟩

/-- States and operands that meet the premises of `EthernetPortRunsItsEffect`, clause by clause. -/
theorem test_witness_EthernetPortRunsItsEffect :
  (∃ (present : Bool) (mode : Nat) (s u : State), u = ((s.setF Fld.ETH_STATUS_MODPRES (b2n present)).setMig
    { s.mig with modMode := if present then mode else 0 }).event 546 0) ∧
  (∃ (s u : State), u = (s.setF Fld.ETH_STATUS_LOCK 0).setF Fld.ETH_STATUS_UP 0) :=
  ⟨
    ⟨true, 2, (run.setF Fld.ETH_CFG_MODE 2), _, rfl⟩,
    ⟨run, _, rfl⟩⟩

/-- States and operands that meet the premises of `MigrationHandshakeRunsItsEffect`, clause by clause. -/
theorem test_witness_MigrationHandshakeRunsItsEffect :
  (∃ (s : State), s.tint.migSuspended = false) ∧
  (∃ (d : Dgram) (s : State), s.tint.migSuspended = false ∧ s.takes d 1 32 = true ∧ (s.dictNum 0x6200 1 = 0 ∨ s.stage ≠ 3 ∨
    s.lcm.rngBad = true)) ∧
  (∃ (d : Dgram) (s : State), s.tint.migSuspended = false ∧ s.takes d 1 32 = true ∧ s.dictNum 0x6200 1 ≠ 0 ∧ s.stage = 3 ∧
    s.lcm.rngBad = false ∧ s.slotFor (slice (dBody d) 16 16) d.src = none) ∧
  (∃ (d : Dgram) (nr k ks : List Byte) (p : Nat) (s a u : State), s.tint.migSuspended = false ∧ s.takes d 1 32 = true ∧
    s.dictNum 0x6200 1 ≠ 0 ∧ s.stage = 3 ∧ s.lcm.rngBad = false ∧ s.slotFor (slice (dBody d) 16 16) d.src = some (p, k) ∧ a =
    s.dropRx p ∧ ks = sessionKey k (slice (dBody d) 0 16) nr ∧ u = a.setMig
    { a.mig with rx := a.mig.rx ++ [⟨p, dSession d, ks, false, [], 1, [], 0⟩] }) ∧
  (∃ (d : Dgram) (s : State), s.tint.migSuspended = false ∧ ((∀ t, s.txFor d = some t → t.phase ≠ 1 ∧ t.phase ≠ 4))) ∧
  (∃ (d : Dgram) (t t1 : MigTx) (ks : List Byte) (again : List MigOffer) (s u : State), s.tint.migSuspended = false ∧ s.takes d
    2 64 = true ∧ s.txFor d = some t ∧ (t.phase = 1 ∨ t.phase = 4) ∧ ks = sessionKey ((s.pairKey t.slot).getD []) t.ns (slice
    (dBody d) 0 16) ∧ again = (List.range t.offers.length).map (fun i =>
    { t.offers.getD i ⟨0, Version.new 0 0, 0, 0⟩ with obj := i + 1, next := 0 }) ∧ t1 =
    { t with phase := if s.isSet Fld.QMG_STATUS_ACTSTOP then 3 else 2, ks := ks, offers := again, nextObj := again.length + 1 }
    ∧ u = ((s.setMig { s.mig with tx := some t1 }).sendMsg t.slot 3 t.session 0 (handshakeMac ks 0x53 s.driveId (s.peerId
    t.slot))).event 547 0) ∧
  (∃ (d : Dgram) (s : State), s.tint.migSuspended = false ∧ ((∀ r, s.rxFor d = some r → r.established = true))) ∧
  (∃ (d : Dgram) (r : MigRx) (s : State), s.tint.migSuspended = false ∧ s.takes d 3 32 = true ∧ s.rxFor d = some r ∧
    r.established = false) ∧
  (∃ (s : State), s.tint.migSuspended = false) ∧
  (∃ (session : Nat) (s : State), s.lcm.rngBad = false ∧ session % 2 ^ 32 ≠ 0) ∧
  (∃ (s : State), s.tint.migSuspended = false ∧ ((∀ t, s.mig.tx = some t → t.phase ≠ 1 ∧ t.phase ≠ 4))) ∧
  (∃ (t : MigTx) (s : State), s.tint.migSuspended = false ∧ s.mig.tx = some t ∧ (t.phase = 1 ∨ t.phase = 4)) ∧
  (∃ (d : Dgram) (s : State), s.tint.migSuspended = false ∧ s.takes d 9 1 = true) :=
  ⟨
    ⟨run, (by decide +kernel)⟩,
    ⟨(dgram 1 0 (zeros 32)), (ethUp run), (by decide +kernel), (by decide +kernel), (by decide +kernel)⟩,
    ⟨(dgram 1 0 (zeros 32)), ((ethUp (atStage 3)).setDictNum 0x6200 1 1 1), (by decide +kernel), (by decide +kernel),
      (by decide +kernel), (by decide +kernel), (by decide +kernel), (by decide +kernel)⟩,
    ⟨(dgram 1 0 (zeros 32)), [], (zeros 16), _, 1, (paired ((ethUp (atStage 3)).setDictNum 0x6200 1 1 1)), _, _,
      (by decide +kernel), (by decide +kernel), (by decide +kernel), (by decide +kernel), (by decide +kernel),
      (by decide +kernel), rfl, rfl, rfl⟩,
    ⟨(dgram 2 0 []), run, (by decide +kernel), (fun t h => nomatch (show none = some t from h))⟩,
    ⟨(dgram 2 0 (zeros 64)), (tx1 1), _, _, _, (withTx (tx1 1) (ethUp run)), _, (by decide +kernel), (by decide +kernel),
      (by decide +kernel), (by decide +kernel), rfl, rfl, rfl, rfl⟩,
    ⟨(dgram 3 0 []), run, (by decide +kernel), (fun r h => nomatch (show none = some r from h))⟩,
    ⟨(dgram 3 0 (zeros 32)), { rx1 with established := false }, (withRx { rx1 with established := false }),
      (by decide +kernel), (by decide +kernel), (by decide +kernel), (by decide +kernel)⟩,
    ⟨run, (by decide +kernel)⟩,
    ⟨1, run, (by decide +kernel), (by decide +kernel)⟩,
    ⟨run, (by decide +kernel), (fun t h => nomatch (show none = some t from h))⟩,
    ⟨(tx1 4), (withTx (tx1 4) run), (by decide +kernel), (by decide +kernel), (by decide +kernel)⟩,
    ⟨(dgram 9 0 [0]), (withRx rx1), (by decide +kernel), (by decide +kernel)⟩⟩

/-- States and operands that meet the premises of `MigrationTrafficRunsItsEffect`, clause by clause. -/
theorem test_witness_MigrationTrafficRunsItsEffect :
  (∃ (s : State), s.tint.migSuspended = false) ∧
  (∃ (d : Dgram) (r : MigRx) (b : List Byte) (o : MigObj) (s : State), s.tint.migSuspended = false ∧ s.takes d 4 160 = true ∧
    s.rxFor d = some r ∧ r.established = true ∧ b = slice (dBody d) 0 128 ∧ o = offeredObject b) ∧
  (∃ (d : Dgram) (r : MigRx) (s : State), s.tint.migSuspended = false ∧ s.takes d 5 4140 = true ∧ s.rxFor d = some r ∧
    r.established = true) ∧
  (∃ (d : Dgram) (r r1 : MigRx) (o : MigObj) (slot base : Nat) (l got : List Nat) (s u v : State), s.tint.migSuspended = false
    ∧ s.takes d 5 4140 = true ∧ s.rxFor d = some r ∧ r.established = true ∧ r.base ≤ dPseq d ∧ dPseq d ∉ r.got ∧ dPseq d <
    r.base + s.rxWindow ∧ r.find (numAt (dBody d) 0 4) = some o ∧ s.takeSlots 1 = some (slot :: l) ∧ advance (r.got.length + 1)
    r.base (insertNat (dPseq d) r.got) = (base, got) ∧ r1 = { r with base := base, got := got, since := r.since + 1 } ∧ u = (if
    o.st = 0 then (s.putRx r1).ingestData r1 o (numAt (dBody d) 4 4) (numAt (dBody d) 8 2) slot (slice (dBody d) 12 4128) else
    s.putRx r1) ∧ (v =
    (match u.mig.rx.find? (fun x => x.slot = r.slot) with | some x => if x.since ≥ 16 ∨ dPseq d ≠ r.got.foldl max (r.base - 1) + 1 then u.sendSack x else u | none => u))) ∧
  (∃ (p obj : Nat) (s : State), s.tint.migSuspended = false ∧ ((∀ r o, s.mig.rx.find? (fun r => r.slot = p) = some r → r.find
    obj = some o → o.st ≠ 2))) ∧
  (∃ (p obj : Nat) (failed : Bool) (r : MigRx) (o : MigObj) (s a b : State), s.tint.migSuspended = false ∧ s.mig.rx.find? (fun
    r => r.slot = p) = some r ∧ r.find obj = some o ∧ o.st = 2 ∧ failed = (s.obj.jobs.any (fun j => o.recs.contains j.seq &&
    (j.refused || j.noSector || s.mediaTimedOut j.actuator)) || s.obj.recs.any (fun w => o.recs.contains w.seq && s.journalFull
    w.stream) || (s.isSet Fld.FCL_STATUS_SAFE && s.obj.jobs.any (fun j => o.recs.contains j.seq))) ∧ a =
    (match s.version o.key o.ver with | some v => s.withdrawVersion v o.recs | none => s) ∧ b = (s.closeStripes.stat 0x8340 2
    1).postEvent 548 0 0 obj 0) ∧
  (∃ (d : Dgram) (base : Nat) (t t1 : MigTx) (lost : List Nat) (s : State), s.tint.migSuspended = false ∧ s.takes d 6 16 = true
    ∧ s.txFor d = some t ∧ (t.phase = 2 ∨ t.phase = 3) ∧ base = numAt (dBody d) 0 4 ∧ t1 =
    { t with ackBase := max t.ackBase base, window := min 1024 (numAt (dBody d) 12 4), unacked := t.unacked.filter (fun u => !(decide (u.1 < base) || (decide (u.1 > base) && decide (u.1 ≤ base + 64) && bitOf (numAt (dBody d) 4 8) (u.1 - base - 1)))) }
    ∧ lost = (t1.unacked.filter (fun u => ((List.range 64).filter (fun i => bitOf (numAt (dBody d) 4 8) i && decide (base + 1 +
    i > u.1))).length ≥ 3)).map (·.1)) ∧
  (∃ (d : Dgram) (t : MigTx) (b : List Byte) (at_ : Pos) (s : State), s.tint.migSuspended = false ∧ s.takes d 7 48 = true ∧
    s.txFor d = some t ∧ (t.phase = 2 ∨ t.phase = 3) ∧ b = slice (dBody d) 0 16 ∧ at_ =
    (match (t.offers.find? (fun o => o.obj = numAt b 0 4)).orElse (fun _ => t.offers.head?) with | some o => ⟨o.v.key, o.v.ver, true, 0⟩ | none => t.back)) ∧
  (∃ (d : Dgram) (t t1 : MigTx) (b : List Byte) (o : MigOffer) (s a u : State), s.tint.migSuspended = false ∧ s.takes d 7 48 =
    true ∧ s.txFor d = some t ∧ (t.phase = 2 ∨ t.phase = 3) ∧ b = slice (dBody d) 0 16 ∧ slice (dBody d) 16 32 = hmac256 t.ks b
    ∧ t.offers.find? (fun o => o.obj = numAt b 0 4) = some o ∧ numAt b 4 1 ≤ 1 ∧ t1 =
    { t with offers := t.offers.filter (fun x => x.obj != o.obj), done := t.done + 1, unacked := t.unacked.filter (fun u => u.2.1 != o.obj), back := ⟨o.v.key, o.v.ver, false, 0⟩ }
    ∧ a = s.setMig { s.mig with tx := some t1 } ∧ u = (if numAt b 4 1 = 0 then (a.freeTiles (a.orphans s.heldSlots)).stat
    0x8340 1 1 else a.freeTiles (a.orphans s.heldSlots))) ∧
  (∃ (s : State), s.tint.migSuspended = false) ∧
  (∃ (s : State), s.tint.migSuspended = false) ∧
  (∃ (pseq : Nat) (t : MigTx) (u : Nat × Nat × Nat) (o : MigOffer) (sent : Bool) (s v : State), s.mig.tx = some t ∧
    t.unacked.find? (fun u => u.1 = pseq) = some u ∧ t.offers.find? (fun o => o.obj = u.2.1) = some o ∧ s.sendTile t o u.2.2
    pseq = (v, sent)) ∧
  (∃ (pseq : Nat) (s : State), (s.mig.tx = none ∨ (∃ t, s.mig.tx = some t ∧ t.unacked.find? (fun u => u.1 = pseq) = none))) ∧
  (∃ (s : State), s.tint.migSuspended = false) ∧
  (∃ (d : Dgram) (r : MigRx) (s : State), s.tint.migSuspended = false ∧ s.takes d 8 0 = true ∧ s.rxFor d = some r ∧
    r.established = true) :=
  ⟨
    ⟨run, (by decide +kernel)⟩,
    ⟨(dgram 4 0 (zeros 160)), rx1, _, _, (withRx rx1), (by decide +kernel), (by decide +kernel), (by decide +kernel),
      (by decide +kernel), rfl, rfl⟩,
    ⟨(dgram 5 0 (zeros 4140)), rx1, (withRx rx1), (by decide +kernel), (by decide +kernel), (by decide +kernel),
      (by decide +kernel)⟩,
    ⟨(dgram 5 1 (zeros 4140)), { rx1 with objs := [rxObj 3] }, _, (rxObj 3), 0, _, [], _, (withRx
      { rx1 with objs := [rxObj 3] }), _, _, (by decide +kernel), (by decide +kernel), (by decide +kernel),
      (by decide +kernel), (by decide +kernel), (by decide +kernel), (by decide +kernel), (by decide +kernel),
      (by decide +kernel), (both _), rfl, rfl, rfl⟩,
    ⟨1, 0, run, (by decide +kernel), (fun r _ h _ => nomatch (show none = some r from h))⟩,
    ⟨1, 0, _, { rx1 with objs := [rxObj 2] }, (rxObj 2), (withRx { rx1 with objs := [rxObj 2] }), _, _, (by decide +kernel),
      (by decide +kernel), (by decide +kernel), (by decide +kernel), rfl, rfl, rfl⟩,
    ⟨(dgram 6 0 (zeros 16)), _, (tx1 2), _, _, (withTx (tx1 2) (ethUp run)), (by decide +kernel), (by decide +kernel),
      (by decide +kernel), (by decide +kernel), rfl, rfl, rfl⟩,
    ⟨(dgram 7 0 (zeros 48)), (tx1 2), _, _, (withTx (tx1 2) (ethUp run)), (by decide +kernel), (by decide +kernel),
      (by decide +kernel), (by decide +kernel), rfl, rfl⟩,
    ⟨(dgram 7 0 (zeros 16 ++ hmac256 (zeros 32) (zeros 16))), { tx1 2 with offers := [⟨0, v0, 0, 0⟩] }, _, _, ⟨0, v0, 0, 0⟩,
      (withTx { tx1 2 with offers := [⟨0, v0, 0, 0⟩] } (ethUp run)), _, _, (by decide +kernel), (by decide +kernel),
      (by decide +kernel), (by decide +kernel), rfl, (by decide +kernel), (by decide +kernel), (by decide +kernel), rfl, rfl,
      rfl⟩,
    ⟨run, (by decide +kernel)⟩,
    ⟨run, (by decide +kernel)⟩,
    ⟨5, { tx1 2 with offers := [⟨0, v0, 0, 1⟩], unacked := [(5, 0, 0)] }, (5, 0, 0), ⟨0, v0, 0, 1⟩, _, (withTx
      { tx1 2 with offers := [⟨0, v0, 0, 1⟩], unacked := [(5, 0, 0)] } (ethUp run)), _, (by decide +kernel),
      (by decide +kernel), (by decide +kernel), (both _)⟩,
    ⟨5, run, (Or.inl rfl)⟩,
    ⟨run, (by decide +kernel)⟩,
    ⟨(dgram 8 0 []), rx1, (withRx rx1), (by decide +kernel), (by decide +kernel), (by decide +kernel), (by decide +kernel)⟩⟩

/-- States and operands that meet the premises of `MigrateCommandsRunTheirEffect`, clause by clause. -/
theorem test_witness_MigrateCommandsRunTheirEffect :
  (∃ (s : State), s.tint.migSuspended = false) ∧
  (∃ (q t st : Nat) (h : HostData) (x : Slot) (s : State), s.tint.migSuspended = false ∧ s.command q t 0x49 = some x ∧
    migToHost x.entry = false ∧ x.stage ≠ 3 ∧ st = s.objectCheck x.entry h (migFields x.entry) [0] (fun _ => true)) ∧
  (∃ (q t : Nat) (h : HostData) (x : Slot) (p : Pos) (s a : State), s.tint.migSuspended = false ∧ s.command q t 0x49 = some x ∧
    migToHost x.entry = false ∧ x.stage ≠ 3 ∧ s.objectCheck x.entry h (migFields x.entry) [0] (fun _ => true) = 0 ∧ s.mig.tx =
    none ∧ s.migStart x.entry = some p ∧ a = s.useCookie x.entry) ∧
  (∃ (q t st : Nat) (h : HostData) (x : Slot) (s : State), s.tint.migSuspended = false ∧ s.command q t 0x49 = some x ∧
    migToHost x.entry = true ∧ st = s.objectCheck x.entry h (migFields x.entry) [1, 2, 3] (fun n => 1056896 ≤ n)) ∧
  (∃ (q t skip st1 n : Nat) (h : HostData) (x : Slot) (p : Pos) (l : List Version) (b : List Byte) (stop : Pos) (s u w :
    State), s.tint.migSuspended = false ∧ s.command q t 0x49 = some x ∧ migToHost x.entry = true ∧ s.objectCheck x.entry h
    (migFields x.entry) [1, 2, 3] (fun n => 1056896 ≤ n) = 0 ∧ s.mig.tx = none ∧ s.migStart x.entry = some p ∧ l = s.toMigrate
    (entKey x.entry) (entFlags x.entry % 256) p ∧ skip =
    (match l with | v :: _ => if p.here && v.key = p.key && v.ver = p.ver then p.segs else 0 | [] => 0) ∧ s.units l skip (numAt
    x.entry 44 4) (entBufLen x.entry - 64) p = (u, st1, b, stop) ∧ (u.useCookie x.entry).nextAt (entKey x.entry) (entFlags
    x.entry % 256) stop = (w, n)) :=
  ⟨
    ⟨run, (by decide +kernel)⟩,
    ⟨1, 0, _, noHost, (slotOf 1 0 0 (entry 0x49 0 [(40, [1])])), (withCommand 0 (entry 0x49 0 [(40, [1])]) run),
      (by decide +kernel), (by decide +kernel), (by decide +kernel), (by decide +kernel), rfl⟩,
    ⟨1, 0, noHost, (slotOf 1 0 0 (entry 0x49 0 [(40, [1])])), (startPos 0 0), (withCommand 0 (entry 0x49 0 [(40, [1])]) run),
      _, (by decide +kernel), (by decide +kernel), (by decide +kernel), (by decide +kernel), (by decide +kernel),
      (by decide +kernel), (by decide +kernel), rfl⟩,
    ⟨1, 0, _, noHost, (slotOf 1 0 0 (entry 0x49 0 [(2, [1]), (4, leBytes 4 256), (56, leBytes 4 1056896)])), (withCommand 0
      (entry 0x49 0 [(2, [1]), (4, leBytes 4 256), (56, leBytes 4 1056896)]) run), (by decide +kernel), (by decide +kernel),
      (by decide +kernel), rfl⟩,
    ⟨1, 0, _, _, _, noHost, (slotOf 1 0 0 (entry 0x49 0 [(2, [1]), (4, leBytes 4 256), (56, leBytes 4 1056896)])), (startPos 0
      0), _, _, _, (withCommand 0 (entry 0x49 0 [(2, [1]), (4, leBytes 4 256), (56, leBytes 4 1056896)]) run), _, _,
      (by decide +kernel), (by decide +kernel), (by decide +kernel), (by decide +kernel), (by decide +kernel),
      (by decide +kernel), rfl, rfl, (quad _), (both _)⟩⟩

/-- States and operands that meet the premises of `SuspendedMigrationWorkWaits`, clause by clause. -/
theorem test_witness_SuspendedMigrationWorkWaits :
  (∃ (s : State), s.tint.migSuspended = true) :=
    ⟨{ run with tint := { run.tint with migSuspended := true } }, (by decide +kernel)⟩

/-- States and operands that meet the premises of `GdpRequestsRunTheirEffect`, clause by clause. -/
theorem test_witness_GdpRequestsRunTheirEffect :
  (∃ (f : List Byte) (a : ActIn) (p : _), p ∈ [(1, Instr.read f), (2, .write f a), (3, .readInit f), (4, .writeInit f a), (5,
    .segment f a), (6, .segAck f), (7, .gdpAbort f), (8, .keep f)]) ∧
  (∃ (f v : List Byte) (c : Nat) (s t : State), s.gdpServes = true ∧ f.length = 64 ∧ numAt f 0 1 = 1 ∧ t = s.stat 0x8010 1 1 ∧
    t.dictRead (frIndex f) (frSub f) = (c, v)) ∧
  (∃ (f : List Byte) (a : ActIn) (c : Nat) (s t u : State), s.gdpServes = true ∧ f.length = 64 ∧ numAt f 0 1 = 2 ∧ t = s.stat
    0x8010 1 1 ∧ t.dictWrite true (frIndex f) (frSub f) (slice f 8 (frLen f)) a = (u, c)) ∧
  (∃ (f v : List Byte) (c : Nat) (s t u : State), s.gdpServes = true ∧ f.length = 64 ∧ numAt f 0 1 = 3 ∧ t = s.stat 0x8010 1 1
    ∧ u = (if t.can.session.isSome then t.abortSession else t) ∧ u.dictRead (frIndex f) (frSub f) = (c, v)) ∧
  (∃ (f : List Byte) (c : Nat) (x : GdpSession) (s t u v : State), s.gdpServes = true ∧ f.length = 64 ∧ numAt f 0 1 = 4 ∧ t =
    s.stat 0x8010 1 1 ∧ u = (if t.can.session.isSome then t.abortSession else t) ∧ c = u.precheck true (frIndex f) (frSub f)
    (numAt f 8 4) ∧ v = u.gdpRespond 0x84 (frTid f) (frIndex f) (frSub f) Dr.ok (leBytes 2 16) ∧ x = ⟨frTid f, frIndex f, frSub
    f, true, numAt f 8 4, 0, 0, 0, false, []⟩) ∧
  (∃ (f : List Byte) (s t : State), s.gdpServes = true ∧ f.length = 64 ∧ t = s.stat 0x8010 1 1 ∧ t.can.session = none) ∧
  (∃ (f : List Byte) (x x1 : GdpSession) (s t u v : State), s.gdpServes = true ∧ f.length = 64 ∧ numAt f 0 1 = 5 ∧ t = s.stat
    0x8010 1 1 ∧ t.can.session = some x ∧ x1 =
    { x with next := x.next + 1, since := (x.since + 1) % 16, value := x.value ++ slice f 4 60 } ∧ u = t.setSession (some x1) ∧
    v = (if x1.since = 0 then u.gdpAck (frTid f) x1.next else u)) ∧
  (∃ (f : List Byte) (x : GdpSession) (s t : State), s.gdpServes = true ∧ f.length = 64 ∧ numAt f 0 1 = 6 ∧ t = s.stat 0x8010 1
    1 ∧ t.can.session = some x) ∧
  (∃ (f : List Byte) (x : GdpSession) (s t : State), s.gdpServes = true ∧ f.length = 64 ∧ t = s.stat 0x8010 1 1 ∧ t.can.session
    = some x) :=
  ⟨
    ⟨(zeros 64), act, (1, .read (zeros 64)), List.mem_cons_self⟩,
    ⟨(entry 1 1 [(2, leBytes 2 0x2100), (4, [3])]), _, _, (node none), _, (by decide +kernel), (by decide +kernel),
      (by decide +kernel), rfl, (both _)⟩,
    ⟨(entry 2 1 [(2, leBytes 2 0x2100), (4, [3]), (6, leBytes 2 1), (8, [3])]), act, _, (node none), _, _, (by decide +kernel),
      (by decide +kernel), (by decide +kernel), rfl, (both _)⟩,
    ⟨(entry 3 1 [(2, leBytes 2 0x2100), (4, [3])]), _, _, (node none), _, _, (by decide +kernel), (by decide +kernel),
      (by decide +kernel), rfl, rfl, (both _)⟩,
    ⟨(entry 4 1 [(2, leBytes 2 0x2100), (4, [3]), (8, leBytes 4 1)]), _, _, (node none), _, _, _, (by decide +kernel),
      (by decide +kernel), (by decide +kernel), rfl, rfl, rfl, rfl, rfl⟩,
    ⟨(entry 5 1 []), (node none), _, (by decide +kernel), (by decide +kernel), rfl, (by decide +kernel)⟩,
    ⟨(entry 5 1 []), (writing 0), _, (node (some (writing 0))), _, _, _, (by decide +kernel), (by decide +kernel),
      (by decide +kernel), rfl, (by decide +kernel), rfl, rfl, rfl⟩,
    ⟨(entry 6 1 [(2, leBytes 2 1)]), (reading false), (node (some (reading false))), _, (by decide +kernel),
      (by decide +kernel), (by decide +kernel), rfl, (by decide +kernel)⟩,
    ⟨(entry 7 1 []), (writing 0), (node (some (writing 0))), _, (by decide +kernel), (by decide +kernel), rfl,
      (by decide +kernel)⟩⟩

/-- States and operands that meet the premises of `GdpTimersAndBusStatesRunTheirEffect`, clause by clause. -/
theorem test_witness_GdpTimersAndBusStatesRunTheirEffect :
  (∃ (s : State), s.can.session = none) ∧
  (∃ (x : GdpSession) (s : State), s.can.session = some x) ∧
  (∃ (s : State), s.getF Fld.CAN_STATUS_STATE ≠ 2) ∧
  (∃ (s u : State), s.getF Fld.CAN_STATUS_STATE = 2 ∧ u = ((s.setF Fld.CAN_STATUS_STATE 0).setF Fld.CAN_ERR_TEC 0).setF
    Fld.CAN_ERR_REC 0) ∧
  (∃ (s : State), s.boot.slateDone = false) ∧
  (∃ (s : State), s.boot.slateDone = true) :=
  ⟨
    ⟨(node none), (by decide +kernel)⟩,
    ⟨(writing 0), (node (some (writing 0))), (by decide +kernel)⟩,
    ⟨run, (by decide +kernel)⟩,
    ⟨(run.setF Fld.CAN_STATUS_STATE 2), _, (by decide +kernel), rfl⟩,
    ⟨State.reset, (by decide +kernel)⟩,
    ⟨run, (by decide +kernel)⟩⟩

/-- States and operands that meet the premises of `LifeCycleAndPasswordRowsRunTheirEffect`, clause by clause. -/
theorem test_witness_LifeCycleAndPasswordRowsRunTheirEffect :
  (∃ (req : Nat) (s : State), s.transitionStatus req ≠ Dr.ok) ∧
  (∃ (req : Nat) (s : State), s.transitionStatus req = Dr.ok) ∧
  (∃ (t : Nat) (s u : State), u = s.lifeCycleClear t) ∧
  (∃ (s : State), ((s.manufacture = false ∧ s.returned = false) ∨ s.isSet Fld.NVC_PROT_LOCKOUT = true)) ∧
  (∃ (n : Nat) (s : State), (s.manufacture = true ∨ s.returned = true) ∧ s.isSet Fld.NVC_PROT_LOCKOUT = false ∧ n = s.getF
    Fld.NVC_PROT_ATTEMPTS + 1) ∧
  (∃ (s : State), ((s.manufacture = false ∧ s.returned = false) ∨ s.lcm.scanOpen = true)) ∧
  (∃ (s a b c : State), (s.manufacture = true ∨ s.returned = true) ∧ s.lcm.scanOpen = false ∧ a = (s.setKeys 0 0).setKeys 1 0 ∧
    b = ({ a with cxc := { a.cxc with spdm := false }, mig := a.mig.dropSessions } : State).raise 434 0 0 ∧ c =
    ({ b with lcm := { b.lcm with gated := true, scanOpen := true } } : State).intoReset) :=
  ⟨
    ⟨0, run, (by decide +kernel)⟩,
    ⟨0x4C430004, (run.setF Fld.NVC_PROT_LOCKED 0), (by decide +kernel)⟩,
    ⟨5, run, _, rfl⟩,
    ⟨(fused 0xFFFF run), (by decide +kernel)⟩,
    ⟨_, run, (by decide +kernel), (by decide +kernel), rfl⟩,
    ⟨{ run with lcm := { run.lcm with scanOpen := true } }, (by decide +kernel)⟩,
    ⟨run, _, _, _, (by decide +kernel), (by decide +kernel), rfl, rfl, rfl⟩⟩

/-- States and operands that meet the premises of `TestsAndLoopbacksRunTheirEffect`, clause by clause. -/
theorem test_witness_TestsAndLoopbacksRunTheirEffect :
  (∃ (s : State), s.tst.test ≠ 0) ∧
  (∃ (test u : Nat) (s a b : State), s.tst.test = 0 ∧ a = (s.setF Fld.TST_CTRL_TEST test).setF Fld.TST_CTRL_UNIT u ∧ b =
    ({ a with tst := { a.tst with test := test } } : State).setReg Fld.TST_STATUS_BUSY.addr 0x80000000) ∧
  (∃ (s a : State), s.tst.test = 0 ∧ a = (s.setF Fld.TST_CTRL_TEST 3).setF Fld.TST_CTRL_UNIT 0) ∧
  (∃ (s : State), s.tst.test = 0) ∧
  (∃ (pass : Bool) (detail : Nat) (s u v : State), s.tst.test ≠ 0 ∧ s.tst.test ≠ 3 ∧ u = s.testOver (if pass then 1 else 2)
    detail ∧ v = { u with lcm := { u.lcm with repairFuses := s.lcm.repairFuses } }) ∧
  (∃ (pass good : Bool) (detail entries : Nat) (s u v : State), s.tst.test = 3 ∧ good = (pass && decide (s.lcm.repairFuses +
    entries ≤ 1024)) ∧ u = s.testOver (if good then 1 else 2) detail ∧ v =
    { u with lcm := { u.lcm with repairFuses := min 1024 (s.lcm.repairFuses + entries) } }) ∧
  (∃ (s : State), s.tst.loop = true) ∧
  (∃ (cfg iface depth : Nat) (s u v : State), s.tst.loop = false ∧ u = s.setReg Fld.TST_LBCTL_GO.addr (BitVec.ofNat 32 (cfg &&&
    0x073FCFFF)) ∧ iface = u.getF Fld.TST_LBCTL_IF ∧ depth = u.getF Fld.TST_LBCTL_DEPTH ∧ v =
    ({ u with tst := { u.tst with loop := true, lbBits := 0 } } : State).setReg Fld.TST_LBSTAT_BUSY.addr 0x80000000) ∧
  (∃ (errors bits : Nat) (ok good : Bool) (s a b c : State), good = (ok && (decide (3 ≤ s.getF Fld.TST_LBCTL_IF) || decide
    (errors = 0))) ∧ a = (if s.getF Fld.TST_LBCTL_IF = 0 then s.setF Fld.CXC_LINK_LTSSM (if s.isSet Fld.CXC_LINK_UP then 0x18
    else 0) else s) ∧ b = { a with tst := { a.tst with loop := false, lbBits := bits % 2 ^ 64 } } ∧ c = ((b.setF
    Fld.TST_LBSTAT_BUSY 0).setF Fld.TST_LBSTAT_RESULT (if good then 1 else 2)).setF Fld.TST_LBSTAT_ERRORS (min errors (2 ^ 28 -
    1))) :=
  ⟨
    ⟨(testing 1 false), (by decide +kernel)⟩,
    ⟨27, 3, run, _, _, (by decide +kernel), rfl, rfl⟩,
    ⟨run, _, (by decide +kernel), rfl⟩,
    ⟨run, (by decide +kernel)⟩,
    ⟨true, 5, (testing 1 false), _, _, (by decide +kernel), (by decide +kernel), rfl, rfl⟩,
    ⟨true, _, 0, 3, (testing 3 false), _, _, (by decide +kernel), rfl, rfl, rfl⟩,
    ⟨(testing 0 true), (by decide +kernel)⟩,
    ⟨1, _, _, run, _, _, (by decide +kernel), rfl, rfl, rfl, rfl⟩,
    ⟨0, 0, true, _, (testing 0 true), _, _, _, rfl, rfl, rfl, rfl⟩⟩

/-- States and operands that meet the premises of `FlashOperationsRunTheirEffect`, clause by clause. -/
theorem test_witness_FlashOperationsRunTheirEffect :
  (∃ (block : Nat) (s : State), (s.nvc.op.isSome = true ∨ 2048 ≤ block)) ∧
  (∃ (block : Nat) (s u : State), s.nvc.op = none ∧ block < 2048 ∧ u = s.flashCmd 2 block 0 0 1) ∧
  (∃ (block page first : Nat) (data : List Byte) (s : State), (s.nvc.op.isSome = true ∨ 2048 ≤ block ∨ 256 ≤ page ∨ data.length
    % 32 ≠ 0 ∨ data.length / 32 = 0 ∨ 8 < first + data.length / 32)) ∧
  (∃ (block page first n : Nat) (data : List Byte) (s u : State), s.nvc.op = none ∧ block < 2048 ∧ page < 256 ∧ data.length %
    32 = 0 ∧ n = data.length / 32 ∧ 1 ≤ n ∧ first + n ≤ 8 ∧ u = (List.range (8 * n)).foldl (fun (t : State) i => t.setReg
    (Fld.NVC_BUF_DATA i).addr (BitVec.ofNat 32 (numAt data (4 * i) 4))) (s.flashCmd 1 block page first n)) ∧
  (∃ (s : State), s.nvc.op = none) ∧
  (∃ (o : FlashOp) (s u : State), s.nvc.op = some o ∧ u = { s with nvc := { s.nvc with op := none } }) ∧
  (∃ (u : Nat) (s : State), s.programmed u = none) :=
  ⟨
    ⟨2048, run, (by decide +kernel)⟩,
    ⟨2047, run, _, (by decide +kernel), (by decide +kernel), rfl⟩,
    ⟨2047, 256, 0, [], run, (by decide +kernel)⟩,
    ⟨2047, 255, 7, _, (zeros 32), run, _, (by decide +kernel), (by decide +kernel), (by decide +kernel), (by decide +kernel),
      rfl, (by decide +kernel), (by decide +kernel), rfl⟩,
    ⟨run, (by decide +kernel)⟩,
    ⟨⟨true, 2047, 0, []⟩, (flashing true), _, (by decide +kernel), rfl⟩,
    ⟨200000, run, (by decide +kernel)⟩⟩

/-- States and operands that meet the premises of `FaultMessagesRunTheirEffect`, clause by clause. -/
theorem test_witness_FaultMessagesRunTheirEffect :
  (∃ (src kind addr : Nat) (s : State), (namedSource src = false ∨ 63 < kind ∨ 2 ^ 48 ≤ addr ∨ (s.coreRuns = false ∧ src < 448
    ∧ (src ≤ 352 ∨ 368 ≤ src)))) ∧
  (∃ (src kind addr : Nat) (ok1 ok2 : Bool) (s a b c : State), namedSource src = true ∧ kind ≤ 63 ∧ addr < 2 ^ 48 ∧ (s.coreRuns
    = true ∨ 448 ≤ src ∨ (352 < src ∧ src < 368)) ∧ a = s.localAction src addr ∧ b = (if ok1 then a else a.corruptCopy) ∧ c =
    (if ok2 then b else b.corruptCopy)) ∧
  (∃ (s : State), s.fcl.reaction = none) ∧
  (∃ (r : Reaction) (s : State), s.fcl.reaction = some r) ∧
  (∃ (r : Reaction) (s u : State), s.fcl.reaction = some r ∧ r.sev = 2 ∧ u = s.raise 50 0 0) :=
  ⟨
    ⟨511, 0, 0, run, (by decide +kernel)⟩,
    ⟨353, 63, 281474976710655, true, false, run, _, _, _, (by decide +kernel), (by decide +kernel), (by decide +kernel),
      (by decide +kernel), rfl, rfl, rfl⟩,
    ⟨run, (by decide +kernel)⟩,
    ⟨⟨3, 3, [3]⟩, (reacting ⟨3, 3, [3]⟩ run), (by decide +kernel)⟩,
    ⟨⟨2, 3, [3]⟩, (reacting ⟨2, 3, [3]⟩ run), _, (by decide +kernel), (by decide +kernel), rfl⟩⟩

/-- States and operands that meet the premises of `WatchdogsAndLockstepRunTheirEffect`, clause by clause. -/
theorem test_witness_WatchdogsAndLockstepRunTheirEffect :
  (∃ (s : State), s.coreRuns = true) ∧
  (∃ (w : Nat) (s : State), s.coreRuns = true ∧ w ∈ [1, 2, 3]) ∧
  (∃ (s : State), s.coreRuns = true) ∧
  (∃ (s : State), s.coreRuns = true ∧ s.boot.slateDone = true) ∧
  (∃ (p : Nat) (s : State), s.coreRuns = true ∧ s.boot.slateDone = true ∧ p ∈ [1, 2, 3]) ∧
  (∃ (p : Nat) (s : State), s.coreRuns = true ∧ s.boot.slateDone = false ∧ p ≤ 3) ∧
  (∃ (w : Nat) (s : State), (s.coreRuns = false ∨ 4 < w)) :=
  ⟨
    ⟨run, (by decide +kernel)⟩,
    ⟨3, run, (by decide +kernel), (by decide +kernel)⟩,
    ⟨run, (by decide +kernel)⟩,
    ⟨run, (by decide +kernel), (by decide +kernel)⟩,
    ⟨3, run, (by decide +kernel), (by decide +kernel), (by decide +kernel)⟩,
    ⟨3, (booted { Boot.reset with slateRunning := true, slateStep := 9 } run), (by decide +kernel), (by decide +kernel),
      (by decide +kernel)⟩,
    ⟨3, State.reset, (by decide +kernel)⟩⟩

/-- States and operands that meet the premises of `RegisterAccessesRunTheirEffect`, clause by clause. -/
theorem test_witness_RegisterAccessesRunTheirEffect :
  (∃ (s : State), s.barsOn = false) ∧
  (∃ (bar off width : Nat) (s : State), s.barsOn = true ∧ (accessFits off width = false ∨ (bar = 0 ∧ 256 * mib ≤ off) ∨ (bar =
    0 ∧ s.mfeLost off = true) ∨ (bar = 2 ∧ 8 * mib ≤ off) ∨ (bar = 4 ∧ bar4Inside off = false) ∨ (bar ≠ 0 ∧ bar ≠ 2 ∧ bar ≠
    4))) ∧
  (∃ (off width : Nat) (s : State), s.barsOn = true ∧ accessFits off width = true) ∧
  (∃ (off width data : Nat) (ws : List (Nat × Nat)) (s : State), s.barsOn = true ∧ ws = (List.range (width / 4)).map (fun i =>
    (off + 4 * i, data / 2 ^ (32 * i) % 2 ^ 32))) ∧
  (∃ (bar off : Nat) (s : State), s.barsOn = true ∧ bar ≠ 4 ∧ (bar ≠ 0 ∨ 256 * mib ≤ off)) ∧
  (∃ (a : Nat), regRowAt a = none ∧ componentOffset a = none) ∧
  (∃ (s : State), s.coreRuns = false) ∧
  (∃ (links : Nat × Nat × Nat × Nat) (s a b c : State), s.coreRuns = true ∧ a = (((s.bumpF Fld.CXC_ERRCNT_CRCRETRY
    links.1).bumpF Fld.CXC_ERRCNT_REPLAY links.2.1).bumpF Fld.ETH_FECCNT_CORR links.2.2.1).bumpF Fld.ETH_FECCNT_UNCORR
    links.2.2.2 ∧ b = (if s.getF Fld.CXC_LINKCAP_CRC_TH < links.1 then
    ({ a with cxc := { a.cxc with rasCorr := a.cxc.rasCorr ||| 4 } } : State).raise 369 0 0 else a) ∧ c = (if 100 < links.2.2.2
    then b.raise 384 0 0 else b)) ∧
  (∃ (s : State), s.coreRuns = true) :=
  ⟨
    ⟨run, (by decide +kernel)⟩,
    ⟨0, 0, 5, (bars run), (by decide +kernel), (by decide +kernel)⟩,
    ⟨0x3200000, 4, (bars run), (by decide +kernel), (by decide +kernel)⟩,
    ⟨0x3200000, 8, 4294967295, _, (bars run), (by decide +kernel), rfl⟩,
    ⟨2, 0, (bars run), (by decide +kernel), (by decide +kernel), (by decide +kernel)⟩,
    ⟨0xFF000, (by decide +kernel), (by decide +kernel)⟩,
    ⟨State.reset, (by decide +kernel)⟩,
    ⟨(1, 2, 3, 101), run, _, _, _, (by decide +kernel), rfl, rfl, rfl⟩,
    ⟨run, (by decide +kernel)⟩⟩

/-- States and operands that meet the premises of `StepRunsTheFrontCommand`, clause by clause. -/
theorem test_witness_StepRunsTheFrontCommand :
  (∃ (c : Instr) (rest : List Instr) (s : State), s.pending = c :: rest) ∧
  (∃ (s : State), s.pending = []) :=
  ⟨
    ⟨.porstNLow, [.slateDeadline], { run with pending := [.porstNLow, .slateDeadline] }, (by decide +kernel)⟩,
    ⟨run, (by decide +kernel)⟩⟩



/-- States and operands that meet the premises of `StoresStayWellKept`, clause by clause. -/
theorem test_witness_StoresStayWellKept :
  (∃ (s t : State), s.wellKept ∧ step s = .next t) :=
    ⟨State.reset, State.reset.tick, reset_wellKept, rfl⟩

/-- States and operands that meet the premises of `BlownFusesStayBlown`, clause by clause. -/
theorem test_witness_BlownFusesStayBlown :
  (∃ (s t : State), step s = .next t) :=
    ⟨State.reset, State.reset.tick, rfl⟩

/-- States and operands that meet the premises of `MotionAndMediaUnitsAreHostReadOnlyInDeployed`, clause by clause. -/
theorem test_witness_MotionAndMediaUnitsAreHostReadOnlyInDeployed :
  (∃ (u r f : _), u ∈ [13, 14, 15, 16, 17, 18, 19, 20, 21, 22] ∧ r ∈ regsOfUnit u ∧ f ∈ r.fields) ∧
  (∃ (u off : Nat) (s : State), u ∈ [13, 14, 15, 16, 17, 18, 19, 20, 21, 22] ∧ unitAt off = some u ∧ s.deployed = true) :=
  ⟨
    ⟨13, ((regsOfUnit 13).headD ⟨0, 0, 0, 0, []⟩), (((regsOfUnit 13).headD ⟨0, 0, 0, 0, []⟩).fields.headD ⟨0, 0, .ro, .n, 0⟩),
      (by decide +kernel), (by decide +kernel), (by decide +kernel)⟩,
    ⟨22, 0x3200000, (fused 0xFFFF run), (by decide +kernel), (by decide +kernel), (by decide +kernel)⟩⟩

/-- States and operands that meet the premises of `BadAccessesAndHolesChangeNothing`, clause by clause. -/
theorem test_witness_BadAccessesAndHolesChangeNothing :
  (∃ (off width : Nat) (s : State), s.barsOn = true ∧ off < 256 * mib ∧ accessFits off width = false) ∧
  (∃ (off : Nat) (s : State), s.barsOn = true ∧ off < 256 * mib ∧ off % 4 = 0 ∧ (unitAt off).isSome = true ∧ regRowAt off =
    none ∧ ((∀ c, componentOffset off = some c → c < 0x1000 ∨ 0x1228 ≤ c)) ∧ s.mfeLost off = false) :=
  ⟨
    ⟨268435455, 8, (bars run), (by decide +kernel), (by decide +kernel), (by decide +kernel)⟩,
    ⟨0xFF000, (bars run), (by decide +kernel), (by decide +kernel), (by decide +kernel), (by decide +kernel),
      (by decide +kernel), (fun c h => by rw [show componentOffset 0xFF000 = none from by decide +kernel] at h; cases h),
      (by decide +kernel)⟩⟩

/-- States and operands that meet the premises of `CompletionEntriesAreLaidOut`, clause by clause. -/
theorem test_witness_CompletionEntriesAreLaidOut :
  (∃ (w : Waiting) (phase : Nat), phase < 2 ∧ w.result < 2 ^ 64 ∧ w.qid < 2 ^ 20 ∧ w.tag < 32 ∧ w.status < 2 ^ 16) ∧
  (∃ (n depth : Nat), 0 < depth ∧ n < depth) ∧
  (∃ (depth : Nat), 0 < depth) :=
  ⟨
    ⟨⟨1048575, 31, 65535, 18446744073709551615⟩, 1, (by decide +kernel), (by decide +kernel), (by decide +kernel),
      (by decide +kernel), (by decide +kernel)⟩,
    ⟨15, 16, (by decide +kernel), (by decide +kernel)⟩,
    ⟨1, (by decide +kernel)⟩⟩

/-- States and operands that meet the premises of `DramReadsWhatWasWritten`, clause by clause. -/
theorem test_witness_DramReadsWhatWasWritten :
  (∃ (a : Nat) (bs : List Byte), a % 64 = 0 ∧ bs.length % 64 = 0) :=
    ⟨64, (List.replicate 64 1), (by decide +kernel), (by decide +kernel)⟩

/-- States and operands that meet the premises of `FaultsAreCollectedOnce`, clause by clause. -/
theorem test_witness_FaultsAreCollectedOnce :
  (∃ (src : Nat) (s : State), src < 512 ∧ s.fcl.inbox = [] ∧ s.tst.under = [] ∧ s.sticky src = true) ∧
  (∃ (src : Nat) (s : State), src < 512 ∧ s.fcl.inbox = [] ∧ s.tst.under = [] ∧ s.sticky src = false ∧ s.boot.slateDone = false
    ∧ s.fcl.kept.length < 32) :=
  ⟨
    ⟨511, (stuck 511 run), (by decide +kernel), (by decide +kernel), (by decide +kernel), (by decide +kernel)⟩,
    ⟨511, State.reset, (by decide +kernel), (by decide +kernel), (by decide +kernel), (by decide +kernel), (by decide +kernel),
      (by decide +kernel)⟩⟩

end Sys2Proof.Tests
end

section
/-!
SUPPORT. Host accesses to BAR0: what a write changes where no Host column permits one (R9 to R11), and what an access of a wrong shape
or to an offset without a register does (R6, R7).
-/
namespace Sys2Proof.Machine
open Sys2Proof

-- ---------------------------------------------------------------------------------------------------------------
-- Writing back what is held

/-- A field written with what it holds leaves its register as it was. -/
theorem Word.set_get_self (w : Word) (hi lo : Nat) : Word.set w hi lo (Word.get w hi lo) = w := by
  refine BitVec.eq_of_getLsbD_eq fun i h32 => ?_
  rw [Word.testBit_set w hi lo _ i h32]
  split
  case isTrue h =>
    obtain ⟨hlo, hhi⟩ := h
    have hin : i - lo < hi + 1 - lo := by omega
    rw [Word.get, bitsOf_testBit, Nat.sub_add_cancel hlo, BitVec.getLsbD]
    simp [hin]
  case isFalse => rfl

theorem State.reg_setReg_self (s : State) (a b : Nat) : (s.setReg a (s.reg a)).reg b = s.reg b := by
  by_cases h : b = a
  · rw [h, State.reg_setReg_same]
  · exact State.reg_setReg_other s a b _ h

-- ---------------------------------------------------------------------------------------------------------------
-- Fields whose Host column permits no write (R9, R10)

theorem State.manufacture_of_deployed {s : State} (h : s.deployed = true) : s.manufacture = false := by
  simp only [State.deployed, beq_iff_eq] at h
  simp [State.manufacture, h]

theorem State.returned_of_deployed {s : State} (h : s.deployed = true) : s.returned = false := by
  simp only [State.deployed, beq_iff_eq] at h
  simp [State.returned, h]

/-- In Deployed only the Host column Y permits a write (R9). -/
theorem State.hostPermits_of_deployed {s : State} (h : s.deployed = true) {c : HostCol} (hc : c ≠ .y) :
    s.hostPermits c = false := by
  cases c with
  | y => exact absurd rfl hc
  | m => simp [State.hostPermits, State.manufacture_of_deployed h, State.returned_of_deployed h]
  | n => rfl

/-- Outside Manufacture no written register becomes one of its own. -/
theorem State.ownWritten_of_deployed {s : State} (h : s.deployed = true) (a : Nat) : s.ownWritten a = s := by
  simp [State.ownWritten, State.manufacture_of_deployed h]

/-- Fields that the host may not write spell the word that the register holds (R10). -/
theorem State.foldl_fieldAfter_of_not_permitted (s : State) (w v : Word) (fs : List RegField)
    (h : ∀ f ∈ fs, s.hostPermits f.host = false) :
    fs.foldl (fun x f => Word.set x f.hi f.lo (s.fieldAfter f w v)) w = w := by
  induction fs with
  | nil => rfl
  | cons f fs ih =>
    have hf : s.fieldAfter f w v = Word.get w f.hi f.lo := by
      simp [State.fieldAfter, h f List.mem_cons_self]
    rw [List.foldl_cons, hf, Word.set_get_self]
    exact ih fun g hg => h g (List.mem_cons_of_mem _ hg)

/-- In Deployed a write of a row without the Host column Y writes back what the register holds. -/
theorem State.writeFields_of_deployed {s : State} (h : s.deployed = true) (r : RegRow) (a : Nat) (v : Word)
    (hr : ∀ f ∈ r.fields, f.host ≠ .y) : s.writeFields r a v = s.setReg a (s.reg a) := by
  have hkept := State.foldl_fieldAfter_of_not_permitted s (s.reg a) v r.fields
    fun f hf => State.hostPermits_of_deployed h (hr f hf)
  simp only [State.writeFields, State.ownWritten_of_deployed h, hkept]

-- ---------------------------------------------------------------------------------------------------------------
-- The windows and rows of the media and motion units (R11, R34)

/-- The windows of units CHN0 to MFE lie side by side at these offsets of BAR0 (R34). -/
def InMediaMotion (a : Nat) : Prop := 0x2000000 ≤ a ∧ a < 0x3400000

theorem mem_mediaMotionUnits_iff (u : Nat) : u ∈ [13, 14, 15, 16, 17, 18, 19, 20, 21, 22] ↔ 13 ≤ u ∧ u ≤ 22 := by
  simp only [List.mem_cons, List.not_mem_nil, or_false]
  omega

/-- The windows of the media and motion units lie within `InMediaMotion`, every other window below or above it. -/
theorem unitWindow_mediaMotion : ∀ u < 28,
    if 13 ≤ u ∧ u ≤ 22 then 0x2000000 ≤ (unitWindow u).1 ∧ (unitWindow u).1 + (unitWindow u).2 ≤ 0x3400000
    else (unitWindow u).1 + (unitWindow u).2 ≤ 0x2000000 ∨ 0x3400000 ≤ (unitWindow u).1 := by
  decide

theorem unitAt_window {a u : Nat} (h : unitAt a = some u) :
    u < 28 ∧ (unitWindow u).1 ≤ a ∧ a < (unitWindow u).1 + (unitWindow u).2 := by
  have hin := List.find?_some h
  have hu := List.mem_of_find?_eq_some h
  simp only [Bool.and_eq_true, decide_eq_true_eq] at hin
  exact ⟨List.mem_range.mp hu, hin⟩

theorem unitAt_mediaMotion_iff {a u : Nat} (h : unitAt a = some u) :
    u ∈ [13, 14, 15, 16, 17, 18, 19, 20, 21, 22] ↔ InMediaMotion a := by
  obtain ⟨hu, hlo, hhi⟩ := unitAt_window h
  have hw := unitWindow_mediaMotion u hu
  rw [mem_mediaMotionUnits_iff, InMediaMotion]
  split at hw <;> omega

/-- A row that is found at an offset is one of the unit whose window holds the offset. -/
theorem regRowAt_mem {a : Nat} {r : RegRow} (h : regRowAt a = some r) : ∃ u, unitAt a = some u ∧ r ∈ regsOfUnit u := by
  unfold regRowAt at h
  split at h
  · cases h
  · next u hu => exact ⟨u, hu, List.mem_of_find?_eq_some h⟩

/-- No row of a media or motion unit has a field that the host may always write, and none is that of the sticky bits. -/
theorem mediaMotion_rows : ∀ u ∈ [13, 14, 15, 16, 17, 18, 19, 20, 21, 22], ∀ r ∈ regsOfUnit u,
    r.base ≠ 0x300200 ∧ ∀ f ∈ r.fields, f.host ≠ HostCol.y := by
  decide +kernel

theorem regRowAt_mediaMotion {a : Nat} {r : RegRow} (ha : InMediaMotion a) (h : regRowAt a = some r) :
    r.base ≠ 0x300200 ∧ ∀ f ∈ r.fields, f.host ≠ HostCol.y := by
  obtain ⟨u, hu, hr⟩ := regRowAt_mem h
  exact mediaMotion_rows u ((unitAt_mediaMotion_iff hu).mpr ha) r hr

-- ---------------------------------------------------------------------------------------------------------------
-- Offsets without a register (R7)

theorem State.componentWord_hole (s : State) {c : Nat} (hc : c < 0x1000 ∨ 0x1228 ≤ c) : s.componentWord c = 0 := by
  have hlog : ¬ (0x1118 ≤ c ∧ c < 0x1158) := by omega
  unfold State.componentWord
  split
  case h_12 => simp [hlog]
  all_goals omega

theorem State.componentWrite_hole (s : State) {c : Nat} (v : Nat) (hc : c < 0x1000 ∨ 0x1228 ≤ c) :
    s.componentWrite c v = s := by
  unfold State.componentWrite
  split
  case h_8 => rfl
  all_goals omega

/-- Offset `a` holds no register, neither of its unit nor of the component block (R7, R388). -/
def IsHole (a : Nat) : Prop :=
  regRowAt a = none ∧ ∀ c, componentOffset a = some c → c < 0x1000 ∨ 0x1228 ≤ c

theorem State.readReg_hole (s : State) {a : Nat} (h : IsHole a) : s.readReg a = 0 := by
  obtain ⟨hrow, hblock⟩ := h
  cases hc : componentOffset a with
  | none => simp [State.readReg, hrow, hc]
  | some c => simp [State.readReg, hrow, hc, s.componentWord_hole (hblock c hc)]

theorem State.clearRead_hole (s : State) {a : Nat} (h : IsHole a) : s.clearRead a = s := by
  simp [State.clearRead, h.1]

theorem State.writeReg_hole (s : State) {a : Nat} (v : Word) (h : IsHole a) : s.writeReg a v = s := by
  obtain ⟨hrow, hblock⟩ := h
  cases hc : componentOffset a with
  | none => simp [State.writeReg, hrow, hc]
  | some c => simp [State.writeReg, hrow, hc, s.componentWrite_hole _ (hblock c hc)]

-- ---------------------------------------------------------------------------------------------------------------
-- Host writes to the media and motion units in Deployed (R11)

/-- A register of these units takes a write through its row, some with a bounded value. -/
theorem State.writeReg_mediaMotion {a : Nat} {r : RegRow} (s : State) (v : Word) (ha : InMediaMotion a)
    (h : regRowAt a = some r) : ∃ x, s.writeReg a v = s.writeFields r a x := by
  obtain ⟨hlo, hhi⟩ := ha
  have hsticky : r.base ≠ 0x300200 := (regRowAt_mediaMotion ⟨hlo, hhi⟩ h).1
  have hadmin : adminReg a = false := by
    simp only [adminReg, List.contains_eq_mem, List.mem_cons, List.not_mem_nil, or_false, decide_eq_false_iff_not]
    omega
  have hcause : a ≠ 0x14 := by omega
  have hctl : a ≠ 0x1600000 := by omega
  have hbias : a ≠ 0x1000064 := by omega
  have hdma : ¬ a < 0x1212000 := by omega
  simp only [State.writeReg, h, hsticky, hcause, hctl, hadmin, hbias, hdma, if_false, decide_false, Bool.false_and, Bool.and_false,
    Bool.or_false, Bool.false_eq_true]
  split
  · exact ⟨_, rfl⟩
  · split <;> exact ⟨_, rfl⟩

/-- The component block lies above these windows, so an offset without a row holds no register at all. -/
theorem InMediaMotion.isHole {a : Nat} (ha : InMediaMotion a) (h : regRowAt a = none) : IsHole a := by
  refine ⟨h, fun c hc => ?_⟩
  obtain ⟨hlo, hhi⟩ := ha
  simp only [componentOffset, Option.ite_none_right_eq_some, Bool.and_eq_true, decide_eq_true_eq] at hc
  omega

/-- In Deployed a write to these units writes back what the register holds, or nothing. -/
theorem State.writeReg_of_deployed {s : State} (hd : s.deployed = true) {a : Nat} (ha : InMediaMotion a) (v : Word) :
    s.writeReg a v = s.setReg a (s.reg a) ∨ s.writeReg a v = s := by
  cases h : regRowAt a with
  | none => exact .inr (s.writeReg_hole v (ha.isHole h))
  | some r =>
    obtain ⟨x, hx⟩ := s.writeReg_mediaMotion v ha h
    exact .inl (hx.trans (State.writeFields_of_deployed hd r a x (regRowAt_mediaMotion ha h).2))

/-- In Deployed a run of writes to these units changes no register. -/
theorem State.reg_foldl_writeReg_of_deployed (ws : List (Nat × Nat)) (s : State) (hd : s.deployed = true)
    (hw : ∀ p ∈ ws, InMediaMotion p.1) (b : Nat) :
    (ws.foldl (fun (t : State) p => t.writeReg p.1 (BitVec.ofNat 32 p.2)) s).reg b = s.reg b := by
  induction ws generalizing s with
  | nil => rfl
  | cons p ws ih =>
    have hws : ∀ q ∈ ws, InMediaMotion q.1 := fun q hq => hw q (List.mem_cons_of_mem _ hq)
    rw [List.foldl_cons]
    obtain hx | hx := State.writeReg_of_deployed hd (hw p List.mem_cons_self) (BitVec.ofNat 32 p.2)
    · rw [hx, ih (s.setReg p.1 (s.reg p.1)) hd hws, State.reg_setReg_self]
    · rw [hx, ih s hd hws]

/-- An access of natural shape that begins in these windows stays in them. -/
theorem InMediaMotion.word {off width i : Nat} (h : InMediaMotion off) (hf : accessFits off width = true) (hi : i < width / 4) :
    InMediaMotion (off + 4 * i) := by
  obtain ⟨hlo, hhi⟩ := h
  simp only [accessFits, Bool.and_eq_true, Bool.or_eq_true, decide_eq_true_eq] at hf
  obtain ⟨rfl | rfl, hal⟩ := hf <;> exact ⟨by omega, by omega⟩

-- ---------------------------------------------------------------------------------------------------------------
-- Accesses to BAR0, by what stands in their way

section
variable {off width : Nat} {s : State}

theorem exec_rcRegisterRead_misfit (hb : s.barsOn = true) (hf : accessFits off width = false) :
    exec (.rcRegisterRead 0 off width) s = .next (s.emit .completerAbort) := by
  simp [exec_rcRegisterRead, execRcRegisterRead, hb, hf]

theorem exec_registerWrite_misfit (data : Nat) (hb : s.barsOn = true) (hoff : off < 256 * mib)
    (hf : accessFits off width = false) : exec (.registerWrite 0 off width data) s = .next (s.emit .completerAbort) := by
  simp [exec_registerWrite, execRegisterWrite, hb, hoff, hf]

theorem exec_rcRegisterRead_word (hb : s.barsOn = true) (hoff : off < 256 * mib) (hal : off % 4 = 0)
    (hm : s.mfeLost off = false) : exec (.rcRegisterRead 0 off 4) s =
      .next ((s.emit (.completion (leBytes 4 (s.readReg off).toNat))).clearRead off) := by
  simp [exec_rcRegisterRead, execRcRegisterRead, accessFits, accessWords, hb, hoff, hal, hm]

theorem exec_registerWrite_word (data : Nat) (hb : s.barsOn = true) (hoff : off < 256 * mib) (hal : off % 4 = 0)
    (hm : s.mfeLost off = false) :
    exec (.registerWrite 0 off 4 data) s = .next (s.writeReg off (BitVec.ofNat 32 (data % 2 ^ 32))) := by
  simp [exec_registerWrite, execRegisterWrite, accessFits, hb, hoff, hal, hm]

/-- A host write to BAR0 is answered, dropped, or written word by word. -/
theorem exec_registerWrite_bar0_cases (data : Nat) (hoff : off < 256 * mib) :
    (∃ o, exec (.registerWrite 0 off width data) s = .next (s.emit o)) ∨ exec (.registerWrite 0 off width data) s = .next s ∨
    (accessFits off width = true ∧ exec (.registerWrite 0 off width data) s =
      .next (((List.range (width / 4)).map (fun i => (off + 4 * i, data / 2 ^ (32 * i) % 2 ^ 32))).foldl
        (fun (t : State) p => t.writeReg p.1 (BitVec.ofNat 32 p.2)) s)) := by
  by_cases hb : s.barsOn = true
  · by_cases hf : accessFits off width = true
    · cases hm : s.mfeLost off with
      | true => exact .inr (.inl (by simp [exec_registerWrite, execRegisterWrite, hb, hoff, hf, hm]))
      | false => exact .inr (.inr ⟨hf, by simp [exec_registerWrite, execRegisterWrite, hb, hoff, hf, hm]⟩)
    · exact .inl ⟨_, exec_registerWrite_misfit data hb hoff (Bool.eq_false_iff.mpr hf)⟩
  · exact .inl ⟨.unsupported, by simp [exec_registerWrite, execRegisterWrite, hb]⟩

/-- A host write to the media and motion units, of any shape, changes no register in Deployed (R11). -/
theorem exec_registerWrite_mediaMotion (data : Nat) (hd : s.deployed = true) (hin : InMediaMotion off) :
    ∃ t, exec (.registerWrite 0 off width data) s = .next t ∧ ∀ a, t.reg a = s.reg a := by
  have hoff : off < 256 * mib := by rw [mib]; have := hin.2; omega
  obtain ⟨o, ht⟩ | ht | ⟨hf, ht⟩ := exec_registerWrite_bar0_cases (width := width) (s := s) data hoff
  · exact ⟨_, ht, State.reg_congr (State.emit_regs s o)⟩
  · exact ⟨_, ht, fun _ => rfl⟩
  · refine ⟨_, ht, State.reg_foldl_writeReg_of_deployed _ s hd fun p hp => ?_⟩
    obtain ⟨i, hi, rfl⟩ := List.mem_map.mp hp
    exact hin.word hf (List.mem_range.mp hi)

end

end Sys2Proof.Machine

open Sys2Proof Sys2Proof.Machine

/-- Settles O56: no row of these units has the Host column Y, so in Deployed each field of a written word keeps what it holds. -/
theorem motionAndMediaUnitsAreHostReadOnlyInDeployed : Obligations.MotionAndMediaUnitsAreHostReadOnlyInDeployed := by
  unfold Obligations.MotionAndMediaUnitsAreHostReadOnlyInDeployed
  constructor
  · exact fun u hu r hr => (mediaMotion_rows u hu r hr).2
  · exact fun u off width data s hu hoff hd => exec_registerWrite_mediaMotion data hd ((unitAt_mediaMotion_iff hoff).mp hu)

/-- Settles O57: an access that does not fit only answers Completer Abort, and an offset without a register takes part in no read,
clear or write. -/
theorem badAccessesAndHolesChangeNothing : Obligations.BadAccessesAndHolesChangeNothing := by
  unfold Obligations.BadAccessesAndHolesChangeNothing
  constructor
  · intro off width data s hb hoff hf
    have hkept : ∀ a, (s.emit .completerAbort).reg a = s.reg a := State.reg_congr (State.emit_regs s _)
    exact ⟨⟨_, exec_rcRegisterRead_misfit hb hf, rfl, hkept⟩, ⟨_, exec_registerWrite_misfit data hb hoff hf, rfl, hkept⟩⟩
  · intro off data s hb hoff hal _ hrow hblock hm
    have hhole : IsHole off := ⟨hrow, hblock⟩
    constructor
    · refine ⟨s.emit (.completion (zeros 4)), ?_, rfl, State.reg_congr (State.emit_regs s _)⟩
      rw [exec_rcRegisterRead_word hb hoff hal hm, State.clearRead_hole _ hhole, State.readReg_hole s hhole]
      rfl
    · rw [exec_registerWrite_word data hb hoff hal hm, State.writeReg_hole s _ hhole]

end

section
/-!
SUPPORT. Completion entries: little-endian numbers read back from the bytes that spell them, the packed word of QID, TAG and PHASE, and
the phase of a ring position (R424, R425).
-/
namespace Sys2Proof.Machine
open Sys2Proof

-- ---------------------------------------------------------------------------------------------------------------
-- Little-endian numbers in a list of bytes

@[simp] theorem length_leBytes (n v : Nat) : (leBytes n v).length = n := by
  induction n generalizing v with
  | zero => rfl
  | succ n ih => simp [leBytes, ih]

@[simp] theorem length_zeros (n : Nat) : (zeros n).length = n := List.length_replicate

/-- Little-endian bytes spell the low bytes of the number they were made from. -/
theorem leNat_leBytes (n v : Nat) : leNat (leBytes n v) = v % 2 ^ (8 * n) := by
  induction n generalizing v with
  | zero => simp [leBytes, leNat, Nat.mod_one]
  | succ n ih =>
    rw [leBytes, leNat, ih, BitVec.toNat_ofNat, Nat.mul_succ, Nat.pow_add, Nat.mul_comm (2 ^ (8 * n))]
    exact Nat.mod_mul.symm

theorem leNat_zeros (n : Nat) : leNat (zeros n) = 0 := by
  induction n with
  | zero => rfl
  | succ n ih => simpa [zeros, List.replicate_succ, leNat] using ih

/-- A field that lies wholly inside the bytes is read without padding. -/
theorem numAt_append_middle (a b c : List Byte) {i n : Nat} (hi : a.length = i) (hn : b.length = n) :
    numAt (a ++ b ++ c) i n = leNat b := by
  subst hi hn
  have hslice : slice (a ++ b ++ c) a.length b.length = b := by simp [slice, zeros]
  rw [numAt, hslice]

theorem numAt_append_left (b c : List Byte) {n : Nat} (hn : b.length = n) : numAt (b ++ c) 0 n = leNat b :=
  numAt_append_middle [] b c rfl hn

theorem numAt_append_right (a b : List Byte) {i n : Nat} (hi : a.length = i) (hn : b.length = n) : numAt (a ++ b) i n = leNat b := by
  simpa using numAt_append_middle a b [] hi hn

-- ---------------------------------------------------------------------------------------------------------------
-- The fields of a completion entry

/-- Bytes 11:8 of a completion entry: QID, TAG and PHASE, with bits 30:25 zero (R424). -/
def completionWord (w : Waiting) (phase : Nat) : Nat := w.qid % 2 ^ 20 + 2 ^ 20 * (w.tag % 32) + 2 ^ 31 * phase

section
variable (w : Waiting) (phase : Nat)

theorem length_completionBytes : (completionBytes w phase).length = 16 := by
  simp [completionBytes]

theorem completionBytes_result : numAt (completionBytes w phase) 0 8 = w.result % 2 ^ 64 := by
  rw [completionBytes, List.append_assoc, List.append_assoc, numAt_append_left _ _ (length_leBytes _ _), leNat_leBytes]

theorem completionBytes_word {phase : Nat} (h : phase < 2) :
    numAt (completionBytes w phase) 8 4 = completionWord w phase := by
  have hlt : completionWord w phase < 2 ^ 32 := by rw [completionWord]; omega
  rw [completionBytes, List.append_assoc, numAt_append_middle _ _ _ (length_leBytes _ _) (length_leBytes _ _), leNat_leBytes]
  exact Nat.mod_eq_of_lt hlt

theorem completionBytes_status : numAt (completionBytes w phase) 12 2 = w.status % 2 ^ 16 := by
  rw [completionBytes, numAt_append_middle _ _ _ (by simp) (length_leBytes _ _), leNat_leBytes]

theorem completionBytes_reserved : numAt (completionBytes w phase) 14 2 = 0 := by
  rw [completionBytes, numAt_append_right _ _ (by simp) (length_zeros 2), leNat_zeros]

theorem completionWord_qid : bitsOf (completionWord w phase) 19 0 = w.qid % 2 ^ 20 := by
  simp only [bitsOf, completionWord]; omega

theorem completionWord_tag : bitsOf (completionWord w phase) 24 20 = w.tag % 32 := by
  simp only [bitsOf, completionWord]; omega

theorem completionWord_reserved : bitsOf (completionWord w phase) 30 25 = 0 := by
  simp only [bitsOf, completionWord]; omega

theorem completionWord_phase : bitsOf (completionWord w phase) 31 31 = phase % 2 := by
  simp only [bitsOf, completionWord]; omega

end

-- ---------------------------------------------------------------------------------------------------------------
-- The phase of a ring position

theorem phaseOf_first_pass {n depth : Nat} (h : n < depth) : phaseOf n depth = 1 := by
  rw [phaseOf, Nat.div_eq_of_lt h]

theorem phaseOf_next_pass (n : Nat) {depth : Nat} (h : 0 < depth) : phaseOf (n + depth) depth = 1 - phaseOf n depth := by
  rw [phaseOf, phaseOf, Nat.add_div_right n h]
  omega

end Sys2Proof.Machine

open Sys2Proof Sys2Proof.Machine

/-- Settles O58: each field is read back from its own little-endian bytes, and a pass through the ring adds one to the quotient whose
parity is the phase. -/
theorem completionEntriesAreLaidOut : Obligations.CompletionEntriesAreLaidOut := by
  unfold Obligations.CompletionEntriesAreLaidOut
  refine ⟨fun w phase hphase hresult hqid htag hstatus => ?_, fun n depth _ hn => phaseOf_first_pass hn,
    fun n depth hdepth => phaseOf_next_pass n hdepth⟩
  rw [completionBytes_word w hphase, completionBytes_result, completionBytes_status, completionWord_qid, completionWord_tag,
    completionWord_phase, Nat.mod_eq_of_lt hresult, Nat.mod_eq_of_lt hqid, Nat.mod_eq_of_lt htag, Nat.mod_eq_of_lt hphase,
    Nat.mod_eq_of_lt hstatus]
  exact ⟨length_completionBytes w phase, rfl, rfl, rfl, completionWord_reserved w phase, rfl, rfl,
    completionBytes_reserved w phase⟩

end

section
/-!
SUPPORT. What every command keeps, gathered over the commands: queue, factory values, blown fuses and the canonical form of the stores.
-/
namespace Sys2Proof.Machine
open Sys2Proof

/-- Every command answers a next state, and keeps what a step must keep. -/
theorem exec_keeps {a s : State} (h : Keeps a s) (c : Instr) : ∃ t, exec c s = .next t ∧ Keeps a t := by
  cases c with
  | supplyGood => exact execSupplyGood_keeps h
  | supplyLost => exact execSupplyLost_keeps h
  | vddAoPowerOn => exact execVddAoPowerOn_keeps h
  | porstNLow => exact execPorstNLow_keeps h
  | porstNRelease => exact execPorstNRelease_keeps h
  | slateDeadline => exact execSlateDeadline_keeps h
  | slateComplete => exact execSlateComplete_keeps h
  | pwrGoodFall => exact execPwrGoodFall_keeps h
  | railOutOfRange => exact execRailOutOfRange_keeps h
  | supplyRestored => exact execSupplyRestored_keeps h
  | rootReferenceLoss => exact execRootReferenceLoss_keeps h
  | rootReferenceReturn => exact execRootReferenceReturn_keeps h
  | rstreqWarm => exact execRstreqWarm_keeps h
  | rstreqBuffer => exact execRstreqBuffer_keeps h
  | rstreqHost => exact execRstreqHost_keeps h
  | rstreqObject => exact execRstreqObject_keeps h
  | rstreqMedia0 => exact execRstreqMedia0_keeps h
  | rstreqMedia1 => exact execRstreqMedia1_keeps h
  | rstreqMotion => exact execRstreqMotion_keeps h
  | mediaServiceTimeout => exact execMediaServiceTimeout_keeps h
  | beacon => exact execBeacon_keeps h
  | beaconDrop => exact execBeaconDrop_keeps h
  | spinUpDelayEnd => exact execSpinUpDelayEnd_keeps h
  | spinUpNow => exact execSpinUpNow_keeps h
  | ochreStart => exact execOchreStart_keeps h
  | ochreDeadline => exact execOchreDeadline_keeps h
  | ochreRetry => exact execOchreRetry_keeps h
  | restartOchre => exact execRestartOchre_keeps h
  | cobalt => exact execCobalt_keeps h
  | d2dFlitReceive => exact execD2dFlitReceive_keeps h
  | d2dResendLimit => exact execD2dResendLimit_keeps h
  | d2dLinkTimeout => exact execD2dLinkTimeout_keeps h
  | d2dLinkUp => exact execD2dLinkUp_keeps h
  | clockMonitorGate => exact execClockMonitorGate_keeps h
  | referenceDeviation => exact execReferenceDeviation_keeps h
  | tintPeriod => exact execTintPeriod_keeps h
  | floorRecompute => exact execFloorRecompute_keeps h
  | coreWindow => exact execCoreWindow_keeps h
  | hostShareSwitch => exact execHostShareSwitch_keeps h
  | migrationCap => exact execMigrationCap_keeps h
  | sectorWrite => exact execSectorWrite_keeps h
  | journalRecordWrite => exact execJournalRecordWrite_keeps h
  | journalResume => exact execJournalResume_keeps h
  | checkpoint => exact execCheckpoint_keeps h
  | reallocation => exact execReallocation_keeps h
  | sectorRead => exact execSectorRead_keeps h
  | decodeComplete => exact execDecodeComplete_keeps h
  | spillDrainDone => exact execSpillDrainDone_keeps h
  | decodeOvertime => exact execDecodeOvertime_keeps h
  | sampleCopyDone => exact execSampleCopyDone_keeps h
  | recoveryStepEnd => exact execRecoveryStepEnd_keeps h
  | recoveryLimit => exact execRecoveryLimit_keeps h
  | scrubRead => exact execScrubRead_keeps h
  | scrubRecheck => exact execScrubRecheck_keeps h
  | scrubPositionStore => exact execScrubPositionStore_keeps h
  | computeEfficiency => exact execComputeEfficiency_keeps h
  | startQualification => exact execStartQualification_keeps h
  | qualificationRateResult => exact execQualificationRateResult_keeps h
  | formatDrive => exact execFormatDrive_keeps h
  | gateMonitorMismatch => exact execGateMonitorMismatch_keeps h
  | writeInhibit => exact execWriteInhibit_keeps h
  | inhibitRelease => exact execInhibitRelease_keeps h
  | writeRetriesExhausted => exact execWriteRetriesExhausted_keeps h
  | preampFault => exact execPreampFault_keeps h
  | preScmdGo => exact execPreScmdGo_keeps h
  | headSwitch => exact execHeadSwitch_keeps h
  | headSwitchSettle => exact execHeadSwitchSettle_keeps h
  | servoWedge => exact execServoWedge_keeps h
  | wedgePredicted => exact execWedgePredicted_keeps h
  | wedgeSequenceLost => exact execWedgeSequenceLost_keeps h
  | reacquireTimeout => exact execReacquireTimeout_keeps h
  | cleOverrun => exact execCleOverrun_keeps h
  | srvTargetWrite => exact execSrvTargetWrite_keeps h
  | cleLoopEnable => exact execCleLoopEnable_keeps h
  | headLoad => exact execHeadLoad_keeps h
  | loadNoLock => exact execLoadNoLock_keeps h
  | runoutLearnTimeout => exact execRunoutLearnTimeout_keeps h
  | injectionStart => exact execInjectionStart_keeps h
  | captureComplete => exact execCaptureComplete_keeps h
  | pwmPeriod => exact execPwmPeriod_keeps h
  | dutySetLoss => exact execDutySetLoss_keeps h
  | sampleShiftTimeout => exact execSampleShiftTimeout_keeps h
  | speedLoop => exact execSpeedLoop_keeps h
  | standstillStartTimeout => exact execStandstillStartTimeout_keeps h
  | bemfZeroCrossing => exact execBemfZeroCrossing_keeps h
  | catchTimeout => exact execCatchTimeout_keeps h
  | lossOfSynchronism => exact execLossOfSynchronism_keeps h
  | spinDownUnparked => exact execSpinDownUnparked_keeps h
  | spindleStopped => exact execSpindleStopped_keeps h
  | vbusAbove13v8 => exact execVbusAbove13v8_keeps h
  | vbusBelow13v6 => exact execVbusBelow13v6_keeps h
  | vbusAbove14v2 => exact execVbusAbove14v2_keeps h
  | vbusAbove15v => exact execVbusAbove15v_keeps h
  | vbusBelow14v2Again => exact execVbusBelow14v2Again_keeps h
  | idealDiodeSwitch => exact execIdealDiodeSwitch_keeps h
  | fetNotConducting => exact execFetNotConducting_keeps h
  | chopperOpen => exact execChopperOpen_keeps h
  | chopperShort => exact execChopperShort_keeps h
  | clearLatches => exact execClearLatches_keeps h
  | vcmSetpointLoss => exact execVcmSetpointLoss_keeps h
  | retractVelocityEnd => exact execRetractVelocityEnd_keeps h
  | retractEnd => exact execRetractEnd_keeps h
  | supplyBelowThreshold => exact execSupplyBelowThreshold_keeps h
  | powerLossConfirm => exact execPowerLossConfirm_keeps h
  | phaseShort => exact execPhaseShort_keeps h
  | openPhase => exact execOpenPhase_keeps h
  | vcmShort => exact execVcmShort_keeps h
  | vcmOpen => exact execVcmOpen_keeps h
  | gateDriveSupplyLow => exact execGateDriveSupplyLow_keeps h
  | reversedInput => exact execReversedInput_keeps h
  | shock => exact execShock_keeps h
  | shockHoldEnd => exact execShockHoldEnd_keeps h
  | dramAccess => exact execDramAccess_keeps h
  | patrolStep => exact execPatrolStep_keeps h
  | mergeWrite => exact execMergeWrite_keeps h
  | mergeHoldExpire => exact execMergeHoldExpire_keeps h
  | initBlockDone => exact execInitBlockDone_keeps h
  | dqsOscillatorRead => exact execDqsOscillatorRead_keeps h
  | zqCalibration => exact execZqCalibration_keeps h
  | dramTemperatureRead => exact execDramTemperatureRead_keeps h
  | biasRequest => exact execBiasRequest_keeps h
  | cxlMemAccess => exact execCxlMemAccess_keeps h
  | linkTraining => exact execLinkTraining_keeps h
  | surpriseLinkDown => exact execSurpriseLinkDown_keeps h
  | hotReset => exact execHotReset_keeps h
  | perstNAssert => exact execPerstNAssert_keeps h
  | perstNDeassert => exact execPerstNDeassert_keeps h
  | configRequest => exact execConfigRequest_keeps h
  | functionLevelReset => exact execFunctionLevelReset_keeps h
  | cxlReset => exact execCxlReset_keeps h
  | hdmCommit => exact execHdmCommit_keeps h
  | doorbellWrite => exact execDoorbellWrite_keeps h
  | msixUnmask => exact execMsixUnmask_keeps h
  | ideKmMessage => exact execIdeKmMessage_keeps h
  | ideIntegrityFail => exact execIdeIntegrityFail_keeps h
  | completionTimeout => exact execCompletionTimeout_keeps h
  | poisonReceived => exact execPoisonReceived_keeps h
  | d3hotEntry => exact execD3hotEntry_keeps h
  | d0Return => exact execD0Return_keeps h
  | hccDisable => exact execHccDisable_keeps h
  | hccWalkOvertime => exact execHccWalkOvertime_keeps h
  | hccEnable => exact execHccEnable_keeps h
  | hostSnoop => exact execHostSnoop_keeps h
  | writebackGo => exact execWritebackGo_keeps h
  | unplacedMailboxPoll => exact execUnplacedMailboxPoll_keeps h
  | hccParitySweep => exact execHccParitySweep_keeps h
  | adminQueueEnable => exact execAdminQueueEnable_keeps h
  | adminQueueDisable => exact execAdminQueueDisable_keeps h
  | mailboxSnoop => exact execMailboxSnoop_keeps h
  | entryAccept => exact execEntryAccept_keeps h
  | headWordReread => exact execHeadWordReread_keeps h
  | ringFullTimeout => exact execRingFullTimeout_keeps h
  | coalescingTimeout => exact execCoalescingTimeout_keeps h
  | identify => exact execIdentify_keeps h
  | createQueue => exact execCreateQueue_keeps h
  | deleteQueue => exact execDeleteQueue_keeps h
  | resetQueue => exact execResetQueue_keeps h
  | createCring => exact execCreateCring_keeps h
  | deleteCring => exact execDeleteCring_keeps h
  | arm => exact execArm_keeps h
  | disarm => exact execDisarm_keeps h
  | fwDownload => exact execFwDownload_keeps h
  | fwCommit => exact execFwCommit_keeps h
  | fwCommitTrial => exact execFwCommitTrial_keeps h
  | fwCommitBootLoader => exact execFwCommitBootLoader_keeps h
  | fwActivate => exact execFwActivate_keeps h
  | activationFetchStop => exact execActivationFetchStop_keeps h
  | activationSwitch => exact execActivationSwitch_keeps h
  | trialConfirm => exact execTrialConfirm_keeps h
  | dictRead => exact execDictRead_keeps h
  | dictWrite => exact execDictWrite_keeps h
  | eventRingSetup => exact execEventRingSetup_keeps h
  | putSegment => exact execPutSegment_keeps h
  | tilePoolSlotFree => exact execTilePoolSlotFree_keeps h
  | getRange => exact execGetRange_keeps h
  | stat => exact execStat_keeps h
  | list => exact execList_keeps h
  | cookieExpiry => exact execCookieExpiry_keeps h
  | delete => exact execDelete_keeps h
  | setRetention => exact execSetRetention_keeps h
  | verify => exact execVerify_keeps h
  | flush => exact execFlush_keeps h
  | flushComplete => exact execFlushComplete_keeps h
  | migrate => exact execMigrate_keeps h
  | migrateToHost => exact execMigrateToHost_keeps h
  | abort => exact execAbort_keeps h
  | abortResolve => exact execAbortResolve_keeps h
  | dmaGo => exact execDmaGo_keeps h
  | dmaAbort => exact execDmaAbort_keeps h
  | dmaResume => exact execDmaResume_keeps h
  | dmaHalt => exact execDmaHalt_keeps h
  | dmaDone => exact execDmaDone_keeps h
  | dmaStall => exact execDmaStall_keeps h
  | modulePresenceChange => exact execModulePresenceChange_keeps h
  | ethLinkChange => exact execEthLinkChange_keeps h
  | neighborSolicitation => exact execNeighborSolicitation_keeps h
  | echoRequest => exact execEchoRequest_keeps h
  | hello => exact execHello_keeps h
  | helloAck => exact execHelloAck_keeps h
  | confirm => exact execConfirm_keeps h
  | offer => exact execOffer_keeps h
  | data => exact execData_keeps h
  | receiveDurable => exact execReceiveDurable_keeps h
  | sack => exact execSack_keeps h
  | result => exact execResult_keeps h
  | keepalive => exact execKeepalive_keeps h
  | close => exact execClose_keeps h
  | sackTimer => exact execSackTimer_keeps h
  | retransmitTimeout => exact execRetransmitTimeout_keeps h
  | keepaliveTimer => exact execKeepaliveTimer_keeps h
  | peerSilence => exact execPeerSilence_keeps h
  | migTimeout => exact execMigTimeout_keeps h
  | read => exact execRead_keeps h
  | write => exact execWrite_keeps h
  | readInit => exact execReadInit_keeps h
  | writeInit => exact execWriteInit_keeps h
  | segment => exact execSegment_keeps h
  | segAck => exact execSegAck_keeps h
  | gdpAbort => exact execGdpAbort_keeps h
  | keep => exact execKeep_keeps h
  | sessionTimeout => exact execSessionTimeout_keeps h
  | segmentResend => exact execSegmentResend_keeps h
  | busOff => exact execBusOff_keeps h
  | busOffRecovery => exact execBusOffRecovery_keeps h
  | restoreDefaults => exact execRestoreDefaults_keeps h
  | lifecycleTransition => exact execLifecycleTransition_keeps h
  | unlock => exact execUnlock_keeps h
  | newPassword => exact execNewPassword_keeps h
  | relock => exact execRelock_keeps h
  | testStart => exact execTestStart_keeps h
  | extendedMemoryTest => exact execExtendedMemoryTest_keeps h
  | loopbackStart => exact execLoopbackStart_keeps h
  | loopbackStop => exact execLoopbackStop_keeps h
  | loopbackEnd => exact execLoopbackEnd_keeps h
  | testHold => exact execTestHold_keeps h
  | scanEnable => exact execScanEnable_keeps h
  | nvcProgram => exact execNvcProgram_keeps h
  | nvcErase => exact execNvcErase_keeps h
  | nvcOperationDone => exact execNvcOperationDone_keeps h
  | faultMessage => exact execFaultMessage_keeps h
  | reactionEnd => exact execReactionEnd_keeps h
  | reactionTimeout => exact execReactionTimeout_keeps h
  | storageCompare => exact execStorageCompare_keeps h
  | clearSticky => exact execClearSticky_keeps h
  | clearAllSticky => exact execClearAllSticky_keeps h
  | watchdogExpiry => exact execWatchdogExpiry_keeps h
  | lockstepMismatch => exact execLockstepMismatch_keeps h
  | counterAccumulate => exact execCounterAccumulate_keeps h
  | statisticsStore => exact execStatisticsStore_keeps h
  | rcRegisterRead => exact execRcRegisterRead_keeps h
  | registerWrite => exact execRegisterWrite_keeps h
  | initPatrolStall => exact execInitPatrolStall_keeps h
  | errorPassiveTimeout => exact execErrorPassiveTimeout_keeps h
  | referenceDeviationCleared => exact execReferenceDeviationCleared_keeps h
  | fltNRelease => exact execFltNRelease_keeps h
  | testComplete => exact execTestComplete_keeps h
  | spdmRequest => exact execSpdmRequest_keeps h
  | rngHealthTest => exact execRngHealthTest_keeps h
  -- SEAL, whose constructor bears the name of a Lean command
  | _ => exact execSeal_keeps h

/-- A step keeps blown fuses and the canonical form of the stores, whatever stands at the front of the queue. -/
theorem step_keeps {s t : State} (h : step s = .next t) : fusesKept s t ∧ (s.wellKept → t.wellKept) := by
  unfold step at h
  split at h
  · cases h
    have hk := State.tick_keeps (Keeps.refl s)
    exact ⟨hk.fuses, hk.stores⟩
  · next c rest _ =>
    obtain ⟨u, hu, hk⟩ := exec_keeps (Keeps.refl { s with pending := rest }) c
    rw [hu] at h
    cases h
    exact ⟨hk.fuses, hk.stores⟩

end Sys2Proof.Machine

open Sys2Proof Sys2Proof.Machine

/-- Settles O53, by what each command's meaning keeps. -/
theorem everyCommandGoesOn : Obligations.EveryCommandGoesOn := by
  unfold Obligations.EveryCommandGoesOn
  intro c s
  obtain ⟨t, ht, hk⟩ := exec_keeps (Keeps.refl s) c
  exact ⟨t, ht, hk.pending, hk.factory⟩

/-- Settles O54: the front command keeps the stores' canonical form, and so does the passing of time. -/
theorem storesStayWellKept : Obligations.StoresStayWellKept := by
  unfold Obligations.StoresStayWellKept
  exact fun s t hs h => (step_keeps h).2 hs

/-- Settles O55: no command and no passing of time writes a zero over a blown fuse. -/
theorem blownFusesStayBlown : Obligations.BlownFusesStayBlown := by
  unfold Obligations.BlownFusesStayBlown
  exact fun s t h => (step_keeps h).1

end

section
/-!
SUPPORT. DRAM: what a read of one byte gives after a write of whole lines, beside the merge buffer (R365, R366).
-/
namespace Sys2Proof.Machine
open Sys2Proof

/-- A read after a write of bytes from `a` on: the bytes written there, every other byte as before. -/
theorem memGet_putBytes (bs : List Byte) (m : List Host.Cell) (a x : Nat) :
    memGet (memPutBytes m a bs) x = if a ≤ x ∧ x < a + bs.length then bs.getD (x - a) 0 else memGet m x := by
  induction bs generalizing m a with
  | nil => simp [memPutBytes]
  | cons b bs ih =>
    rw [memPutBytes, ih, memGet_put, List.length_cons]
    obtain hx | hx | hx := Nat.lt_trichotomy x a
    · have h1 : ¬ (a + 1 ≤ x ∧ x < a + 1 + bs.length) := by omega
      have h2 : ¬ (a ≤ x ∧ x < a + (bs.length + 1)) := by omega
      rw [if_neg h1, if_neg h2, if_neg (by omega)]
    · subst hx
      simp
    · by_cases h : x < a + (bs.length + 1)
      · have hs : x - a = (x - (a + 1)) + 1 := by omega
        rw [if_pos (by omega), if_pos (by omega), hs, List.getD_cons_succ]
      · rw [if_neg (by omega), if_neg (by omega), if_neg (by omega)]

/-- The lines that a write of `n` bytes from `a` on touches. -/
def touchedLine (a n l : Nat) : Bool := a ≤ 64 * l + 63 && 64 * l < a + n

theorem touchedLine_iff {a n : Nat} (ha : a % 64 = 0) (hn : n % 64 = 0) (x : Nat) :
    touchedLine a n (x / 64) = true ↔ a ≤ x ∧ x < a + n := by
  simp only [touchedLine, Bool.and_eq_true, decide_eq_true_eq]
  omega

@[simp] theorem State.dramWrite_dram (s : State) (a : Nat) (bs : List Byte) :
    (s.dramWrite a bs).bmc.dram = memPutBytes s.bmc.dram a bs := rfl

@[simp] theorem State.dramWrite_merge (s : State) (a : Nat) (bs : List Byte) :
    (s.dramWrite a bs).bmc.merge = s.bmc.merge.filter (fun e => !touchedLine a bs.length e.line) := rfl

/-- The merge buffer holds nothing of a line that was written, and what it held of any other. -/
theorem find_untouched (l : List MergeEntry) (a n j : Nat) :
    (l.filter (fun e => !touchedLine a n e.line)).find? (fun e => e.line == j) =
      if touchedLine a n j then none else l.find? (fun e => e.line == j) := by
  rw [List.find?_filter]
  split
  case isTrue h =>
    rw [List.find?_eq_none]
    intro e _ he
    simp only [beq_iff_eq, Bool.not_eq_true', decide_eq_true_eq] at he
    rw [he.2, h] at he
    exact absurd he.1 (by decide)
  case isFalse h =>
    congr 1
    funext e
    by_cases he : e.line = j
    · simp [he, h]
    · simp [he]

/-- A byte after a write of whole lines. -/
theorem State.lineByte_dramWrite {a : Nat} {bs : List Byte} (ha : a % 64 = 0) (hn : bs.length % 64 = 0) (s : State) (x : Nat) :
    (s.dramWrite a bs).lineByte x = if a ≤ x ∧ x < a + bs.length then bs.getD (x - a) 0 else s.lineByte x := by
  have hx := touchedLine_iff ha hn x
  rw [State.lineByte, State.dramWrite_merge, find_untouched, State.dramWrite_dram, memGet_putBytes]
  by_cases h : touchedLine a bs.length (x / 64) = true
  · simp [h, hx.mp h]
  · rw [if_neg h, if_neg ((not_congr hx).mp h), if_neg ((not_congr hx).mp h)]
    rfl

end Sys2Proof.Machine

open Sys2Proof Sys2Proof.Machine

/-- Settles O59: the write takes every line it touches out of the merge buffer, and whole lines touch no byte beside their own. -/
theorem dramReadsWhatWasWritten : Obligations.DramReadsWhatWasWritten := by
  unfold Obligations.DramReadsWhatWasWritten
  intro a bs s ha hn
  refine ⟨fun i hi => ?_, fun x hx => ?_⟩
  · rw [State.lineByte_dramWrite ha hn, if_pos (by omega), Nat.add_sub_cancel_left]
  · rw [State.lineByte_dramWrite ha hn, if_neg (by omega)]

end

section
/-!
SUPPORT. Migration work and the gate that holds it while the share of the cores is used up (R107).
-/
namespace Sys2Proof.Machine
open Sys2Proof

/-- Suspended migration work waits, whatever it would do. -/
theorem State.migGate_suspended {s : State} (h : s.tint.migSuspended = true) (i : Instr) (r : Res) :
    s.migGate i r = .next (s.setMig { s.mig with held := s.mig.held ++ [i] }) := by
  simp [State.migGate, h]

/-- Migration work that is not suspended runs. -/
theorem State.migGate_running {s : State} (h : s.tint.migSuspended = false) (i : Instr) (r : Res) : s.migGate i r = r := by
  simp [State.migGate, h]

end Sys2Proof.Machine

open Sys2Proof Sys2Proof.Machine

/-- Settles O42: the gate before each meaning of migration work puts the command behind those that wait. -/
theorem suspendedMigrationWorkWaits : Obligations.SuspendedMigrationWorkWaits := by
  unfold Obligations.SuspendedMigrationWorkWaits
  intro s h
  have held : ∀ i r, s.migGate i r = .next (s.setMig { s.mig with held := s.mig.held ++ [i] }) := State.migGate_suspended h
  exact ⟨fun d nr => (exec_hello d nr s).trans (held _ _),
    fun d => ⟨(exec_helloAck d s).trans (held _ _), (exec_confirm d s).trans (held _ _), (exec_offer d s).trans (held _ _),
      (exec_data d s).trans (held _ _), (exec_sack d s).trans (held _ _), (exec_result d s).trans (held _ _),
      (exec_keepalive d s).trans (held _ _), (exec_close d s).trans (held _ _)⟩,
    fun q t session hd ns => (exec_migrate q t hd session ns s).trans (held _ _),
    fun q t hd => (exec_migrateToHost q t hd s).trans (held _ _),
    fun p obj => (exec_receiveDurable p obj s).trans (held _ _),
    fun p => (exec_sackTimer p s).trans (held _ _),
    fun pseq => (exec_retransmitTimeout pseq s).trans (held _ _),
    (exec_keepaliveTimer s).trans (held _ _),
    fun p session ns => (exec_peerSilence p session ns s).trans (held _ _),
    (exec_migTimeout s).trans (held _ _)⟩

end

section
/-!
SUPPORT. Sticky bits, and what the fault collector makes of one message on an empty network (R601, R603, R706).
-/
namespace Sys2Proof.Machine
open Sys2Proof

-- ---------------------------------------------------------------------------------------------------------------
-- Single bits of registers

theorem bitOf_eq_testBit (v i : Nat) : bitOf v i = v.testBit i := by
  rw [bitOf, Nat.testBit_eq_decide_div_mod_eq]
  rfl

/-- A bit of a register after a write of one bit: the one written, or what stood there. -/
theorem bitOf_set_bit (w : Word) {i j : Nat} (b : Bool) (hj : j < 32) :
    bitOf (Word.set w i i (b2n b)).toNat j = if j = i then b else bitOf w.toNat j := by
  have h := Word.testBit_set w i i (b2n b) j hj
  rw [bitOf_eq_testBit, bitOf_eq_testBit]
  simp only [BitVec.getLsbD] at h
  rw [h]
  by_cases hji : j = i
  · subst hji
    cases b <;> simp [b2n]
  · rw [if_neg (by omega), if_neg hji]

theorem State.sticky_setSticky (s : State) (src x : Nat) (b : Bool) :
    (s.setSticky src b).sticky x = if x = src then b else s.sticky x := by
  have hx : x % 32 < 32 := Nat.mod_lt _ (by decide)
  unfold State.sticky State.setSticky State.setF
  by_cases hw : x / 32 = src / 32
  · rw [hw, State.reg_setReg_same, bitOf_set_bit _ b hx]
    have : x % 32 = src % 32 ↔ x = src := by omega
    simp only [this]
  · rw [State.reg_setReg_other _ _ _ _ (by simpa using hw), if_neg (fun h => hw (by rw [h]))]

/-- The sticky bits are those of the registers alone. -/
theorem State.sticky_congr {s t : State} (h : t.regs = s.regs) (x : Nat) : t.sticky x = s.sticky x := by
  rw [State.sticky, State.sticky, State.reg_congr h]

-- ---------------------------------------------------------------------------------------------------------------
-- The fault network

/-- An empty fault network has nothing to take. -/
theorem State.drain_of_empty {s : State} (h : s.fcl.inbox = []) (n : Nat) : s.drain n = s := by
  cases n with
  | zero => rfl
  | succ n => rw [State.drain, h]

/-- On an empty network a message reaches FCL by itself. -/
theorem State.raise_of_empty {s : State} (h : s.fcl.inbox = []) (src kind addr : Nat) :
    s.raise src kind addr = (s.arrive ⟨src, kind, addr⟩).drain 15 := by
  have hs : ({ s.send src kind addr with fcl := { (s.send src kind addr).fcl with inbox := [] } } : State) = s := by
    rw [State.send, ← h]
  have hin : (s.send src kind addr).fcl.inbox = [⟨src, kind, addr⟩] := by rw [State.send, h]; rfl
  rw [State.raise, State.settle, State.drain, hin]
  simp only [hs]

theorem State.arrive_merged {s : State} {m : FaultMsg} (hm : s.marked m = false) (hs : s.sticky m.source = true) :
    s.arrive m = s.bumpF Fld.FCL_CNT_MERGED 1 := by
  rw [State.arrive, hm, hs]
  rfl

/-- The state that holds a message back until Slate completes (R706). -/
def State.keepMessage (s : State) (m : FaultMsg) : State :=
  let s1 := s.setSticky m.source true
  { s1 with fcl := { s1.fcl with
      kept := if s1.fcl.kept.length < 32 then s1.fcl.kept ++ [m] else s1.fcl.kept,
      setBefore := s1.fcl.setBefore ++ [m.source] } }

theorem State.arrive_before_slate {s : State} {m : FaultMsg} (hm : s.marked m = false) (hs : s.sticky m.source = false)
    (hb : s.boot.slateDone = false) : s.arrive m = s.keepMessage m := by
  rw [State.arrive, hm, hs, hb]
  rfl

theorem State.marked_of_no_test {s : State} (h : s.tst.under = []) (m : FaultMsg) : s.marked m = false := by
  rw [State.marked, h]
  rfl

theorem State.keepMessage_sticky (s : State) (m : FaultMsg) (x : Nat) :
    (s.keepMessage m).sticky x = if x = m.source then true else s.sticky x :=
  (State.sticky_congr rfl x).trans (s.sticky_setSticky m.source x true)

theorem State.keepMessage_kept {s : State} (h : s.fcl.kept.length < 32) (m : FaultMsg) :
    (s.keepMessage m).fcl.kept = s.fcl.kept ++ [m] := if_pos h

end Sys2Proof.Machine

open Sys2Proof Sys2Proof.Machine

/-- Settles O60: one message passes the empty network, and either joins its bit or sets it and waits for the end of Slate. -/
theorem faultsAreCollectedOnce : Obligations.FaultsAreCollectedOnce := by
  unfold Obligations.FaultsAreCollectedOnce
  constructor
  · intro src kind addr s _ hin ht hst
    have hin' : (s.bumpF Fld.FCL_CNT_MERGED 1).fcl.inbox = [] := hin
    rw [State.raise_of_empty hin, State.arrive_merged (m := ⟨src, kind, addr⟩) (State.marked_of_no_test ht _) hst, State.drain_of_empty hin']
  · intro src kind addr s _ hin ht hst hb hk
    have hr : s.raise src kind addr = s.keepMessage ⟨src, kind, addr⟩ := by
      have hin' : (s.keepMessage ⟨src, kind, addr⟩).fcl.inbox = [] := hin
      rw [State.raise_of_empty hin, State.arrive_before_slate (m := ⟨src, kind, addr⟩) (State.marked_of_no_test ht _) hst hb,
        State.drain_of_empty hin']
    rw [hr]
    refine ⟨?_, State.keepMessage_kept hk _, fun x _ hx => ?_, rfl, rfl⟩
    · rw [State.keepMessage_sticky, if_pos rfl]
    · rw [State.keepMessage_sticky, if_neg hx]

end

section
/-!
SUPPORT. The write path: a channel under updates of registers and statistics, and what a sector's write and its cut leave (R262 to R266).
-/
namespace Sys2Proof.Machine
open Sys2Proof

-- ---------------------------------------------------------------------------------------------------------------
/-- A branch on a negated condition. -/
theorem ite_bnot {α : Type} (b : Bool) (x y : α) : (if (!b) = true then x else y) = if b = true then y else x := by
  cases b <;> rfl

-- ---------------------------------------------------------------------------------------------------------------
-- A channel under updates of other parts of the state

@[simp] theorem State.chn_setReg (s : State) (a : Nat) (w : Word) (k : Nat) : (s.setReg a w).chn k = s.chn k := rfl
@[simp] theorem State.chn_setF (s : State) (f : FieldRef) (v k : Nat) : (s.setF f v).chn k = s.chn k := rfl
@[simp] theorem State.chn_stat (s : State) (i j d k : Nat) : (s.stat i j d).chn k = s.chn k := rfl
@[simp] theorem State.chn_emit (s : State) (o : Out) (k : Nat) : (s.emit o).chn k = s.chn k := rfl
@[simp] theorem State.chn_send (s : State) (src kind addr k : Nat) : (s.send src kind addr).chn k = s.chn k := rfl
@[simp] theorem State.disk_send (s : State) (src kind addr : Nat) : (s.send src kind addr).disk = s.disk := rfl

-- ---------------------------------------------------------------------------------------------------------------
-- A sector on the media

@[simp] theorem State.gateLow_disk (s : State) (k : Nat) : (s.gateLow k).disk = s.disk := by
  unfold State.gateLow
  split <;> simp

@[simp] theorem State.gateLow_ops (s : State) (k : Nat) : ((s.gateLow k).chn k).ops = (s.chn k).ops := by
  unfold State.gateLow
  split <;> simp

theorem State.sectorDone_sectors (s : State) (k : Nat) (o : WriteOp) (tile : List Byte) (first last : Bool) :
    (s.sectorDone k o tile first last).disk.sectors = Assoc.put s.disk.sectors o.psa tile := by
  simp [State.sectorDone, State.putSectorIn, State.charge]

theorem State.sectorDone_ops (s : State) (k : Nat) (o : WriteOp) (tile : List Byte) (first last : Bool) :
    ((s.sectorDone k o tile first last).chn k).ops = (s.chn k).ops.tail := by
  have h (t : State) (ob : Obj) : ({ t with obj := ob } : State).chn k = t.chn k := rfl
  rw [State.sectorDone, h, State.chn_setChn]
  rfl

/-- The state between the bits of a cut sector and the source that cuts it. -/
theorem State.sectorCut_eq (s : State) (k : Nat) (o : WriteOp) (tile : List Byte) (first : Bool) (bit n : Nat) :
    ∃ x : State, x.disk.sectors = Assoc.del s.disk.sectors o.psa ∧ x.chn k = s.chn k ∧
      s.sectorCut k o tile first bit n = (if 4 ≤ bit && bit ≤ 8 then x.inhibitBoth bit else x.inhibit k bit).settle := by
  refine ⟨{ s with out := (s.sectorOuts o.psa (cutRuns (s.sectorRuns o.psa tile) n) first false).reverse ++ s.out,
                   disk := { s.disk with sectors := Assoc.del s.disk.sectors o.psa },
                   obj := { s.obj with openStripes := insertNat (stripeOf o.psa) s.obj.openStripes } }, rfl, rfl, ?_⟩
  rw [State.sectorCut, apply_ite State.settle]

-- ---------------------------------------------------------------------------------------------------------------
-- A write that is cut

@[simp] theorem State.writeCut_disk (s : State) (k : Nat) : (s.writeCut k).disk = s.disk := by
  unfold State.writeCut
  dsimp only
  split <;> simp

/-- The channel after a cut: CUT is set, and what waits to be written stays. -/
theorem State.writeCut_chn (s : State) (k : Nat) :
    ((s.writeCut k).chn k).cut = true ∧ ((s.writeCut k).chn k).ops = (s.chn k).ops := by
  unfold State.writeCut
  dsimp only
  split <;> simp

end Sys2Proof.Machine

open Sys2Proof Sys2Proof.Machine

/-- Settles O8: the checks before the gate in their order, then a whole sector or one that is cut. -/
theorem sectorWritesRunTheirEffect : Obligations.SectorWritesRunTheirEffect := by
  unfold Obligations.SectorWritesRunTheirEffect
  refine ⟨?_, ?_, ?_, ?_, ?_, ?_⟩
  · intro k s u v w d o rest j _ hops hcan hinh hj hdef hu hgood hv hw hd
    refine ⟨?_, ?_, ?_⟩
    · simp only [exec_sectorWrite, execSectorWrite, hops, hcan, hinh, hj, hdef, ← hu, hgood, ite_bnot, ← hv, ← hw, ← hd,
        Bool.false_eq_true, if_false, if_true]
    · rw [hd, State.sectorDone_sectors]
    · rw [hd, State.sectorDone_ops]
  · intro k bit n s u v w o rest j _ hops hcan hinh hj hdef hu hgood hv hw hbit
    obtain ⟨x, hx, hc, he⟩ := w.sectorCut_eq k o (w.tileAt (j.slots.getD o.tile 0)) (!(v.chn k).wgate) bit n
    refine ⟨x, hx, hc, ?_⟩
    simp only [exec_sectorWrite, execSectorWrite, hops, hcan, hinh, hj, hdef, ← hu, hgood, ite_bnot, ← hv, ← hw,
      Bool.false_eq_true, if_false, if_true, Nat.not_lt.mpr hbit, he]
  · intro k cut s o rest hops hcan hinh
    refine ⟨?_, State.writeCut_disk s k, (s.writeCut_chn k).1, (s.writeCut_chn k).2⟩
    simp only [exec_sectorWrite, execSectorWrite, hops, hcan, hinh, ite_bnot, if_true]
  · intro k cut s u o rest j hops hcan hinh hj hdef hu hgood
    simp only [exec_sectorWrite, execSectorWrite, hops, hcan, hinh, hj, hdef, ← hu, hgood, ite_bnot, Bool.false_eq_true, if_false, if_true]
  · intro k cut s o rest j hops hcan hinh hj hdef
    simp only [exec_sectorWrite, execSectorWrite, hops, hcan, hinh, hj, hdef, ite_bnot, Bool.false_eq_true, if_false, if_true]
  · intro k cut s o rest hops hcan
    simp only [exec_sectorWrite, execSectorWrite, hops, hcan, ite_bnot, Bool.false_eq_true, if_false]

end

section
/-!
SUPPORT. The end of a decode: rising lists of sectors, and what a confirmed sector's lists hold (R207 to R209).
-/
namespace Sys2Proof.Machine
open Sys2Proof

@[simp] theorem mem_insertNat {x y : Nat} {l : List Nat} : y ∈ insertNat x l ↔ y = x ∨ y ∈ l := by
  induction l with
  | nil => simp [insertNat]
  | cons z l ih =>
    rw [insertNat]
    split
    · simp
    · split
      · next h => simp [h]
      · simp only [List.mem_cons, ih]
        tauto

/-- The sectors that the decoder keeps apart are those it kept before slots were given back. -/
theorem State.releaseSlots_lists (s : State) (psa : Nat) : (s.releaseSlots psa).dec.erased = s.dec.erased ∧
    (s.releaseSlots psa).dec.unread = s.dec.unread ∧ (s.releaseSlots psa).dec.confirmed = s.dec.confirmed := by
  unfold State.releaseSlots
  split
  · exact ⟨rfl, rfl, rfl⟩
  · simp [State.setStore]

@[simp] theorem State.dec_setRing (s : State) (k : Nat) (l : List RingSector) : (s.setRing_ k l).dec = s.dec := by
  simp [State.setRing_]

theorem State.confirm_lists (s : State) (k psa : Nat) : psa ∉ (s.confirm k psa).dec.erased ∧
    psa ∉ (s.confirm k psa).dec.unread ∧ psa ∈ (s.confirm k psa).dec.confirmed := by
  unfold State.confirm
  dsimp only
  rw [State.dec_setRing]
  split
  · simp
  · simp [State.releaseSlots_lists]

end Sys2Proof.Machine

open Sys2Proof Sys2Proof.Machine

/-- Settles O12: a decode ends by where its record came from, and its verdict by the checks of the word in their order. -/
theorem decodesEndInOneVerdict : Obligations.DecodesEndInOneVerdict := by
  unfold Obligations.DecodesEndInOneVerdict
  refine ⟨?_, ?_, ?_, ?_, ?_, ?_, ?_, ?_, ?_, ?_, ?_⟩
  · intro n upset s h
    simp only [exec_decodeComplete, execDecodeComplete, h]
  · intro n upset word w s u v r h hst hword hu hv hr
    simp only [exec_decodeComplete, execDecodeComplete, h, hst, ← hword, ← hu, ← hv, hr]
  · intro n upset word w s u v r h hst hword hu hv
    simp only [exec_decodeComplete, execDecodeComplete, h, hst, ← hword, ← hu, ← hv]
  · intro psa word ok s h
    obtain h | h := h <;> simp [State.decodeVerdict, h]
  · intro psa word s hw hp hc
    simp only [State.decodeVerdict, hw, hp, hc, ite_bnot, Bool.not_true, Bool.or_false, Bool.false_eq_true, if_false]
  · intro psa word g s hw hp hc hg
    simp only [State.decodeVerdict, hw, hp, hc, hg, Bool.not_true, Bool.or_false, Bool.false_eq_true, if_false]
  · intro word iters w r u
    simp [State.trialVerdict]
  · intro word iters w r u v hp hk hv
    simp [State.trialVerdict, hp, hk, hv]
  · intro word iters w r u
    simp [State.ladderVerdict]
  · intro psa word s hp
    simp [State.seen, hp]
  · exact fun k psa s => s.confirm_lists k psa

end

section
/-!
SUPPORT. Frames: what the operations on registers, gates, retracts and resets leave alone. `RegsOnly a s` says that s differs from a in its
registers alone, `GateFrame a s` that it differs at most in what gates, write-inhibit, retracts and the spindle bridge write.
-/
namespace Sys2Proof.Machine
open Sys2Proof

-- ---------------------------------------------------------------------------------------------------------------
-- Operations that write registers alone

/-- s is a with other registers. -/
def RegsOnly (a s : State) : Prop := ∃ r, s = { a with regs := r }

namespace RegsOnly

variable {a s t : State}

theorem refl (a : State) : RegsOnly a a := ⟨a.regs, rfl⟩

theorem trans (h : RegsOnly a s) (h' : RegsOnly s t) : RegsOnly a t := by
  obtain ⟨r, rfl⟩ := h
  obtain ⟨r', rfl⟩ := h'
  exact ⟨r', rfl⟩

theorem setReg (h : RegsOnly a s) (x : Nat) (w : Word) : RegsOnly a (s.setReg x w) := h.trans ⟨_, rfl⟩

theorem setF (h : RegsOnly a s) (f : FieldRef) (v : Nat) : RegsOnly a (s.setF f v) := h.trans ⟨_, rfl⟩

theorem ite {c : Prop} [Decidable c] (h : RegsOnly a s) (h' : RegsOnly a t) : RegsOnly a (if c then s else t) := by
  split
  · exact h
  · exact h'

theorem foldl {α : Type} {g : State → α → State} (hg : ∀ t x, RegsOnly t (g t x)) (l : List α) (h : RegsOnly a s) :
    RegsOnly a (l.foldl g s) := by
  induction l generalizing s with
  | nil => exact h
  | cons x l ih => exact ih (h.trans (hg s x))

theorem dict (h : RegsOnly a s) : s.dict = a.dict := by obtain ⟨r, rfl⟩ := h; rfl
theorem pwr (h : RegsOnly a s) : s.pwr = a.pwr := by obtain ⟨r, rfl⟩ := h; rfl
theorem ash (h : RegsOnly a s) : s.ash = a.ash := by obtain ⟨r, rfl⟩ := h; rfl
theorem boot (h : RegsOnly a s) : s.boot = a.boot := by obtain ⟨r, rfl⟩ := h; rfl
theorem fcl (h : RegsOnly a s) : s.fcl = a.fcl := by obtain ⟨r, rfl⟩ := h; rfl
theorem tst (h : RegsOnly a s) : s.tst = a.tst := by obtain ⟨r, rfl⟩ := h; rfl
theorem lcm (h : RegsOnly a s) : s.lcm = a.lcm := by obtain ⟨r, rfl⟩ := h; rfl
theorem mfe (h : RegsOnly a s) : s.mfe = a.mfe := by obtain ⟨r, rfl⟩ := h; rfl
theorem spm (h : RegsOnly a s) : s.spm = a.spm := by obtain ⟨r, rfl⟩ := h; rfl
theorem disk (h : RegsOnly a s) : s.disk = a.disk := by obtain ⟨r, rfl⟩ := h; rfl
theorem out (h : RegsOnly a s) : s.out = a.out := by obtain ⟨r, rfl⟩ := h; rfl
theorem chn (h : RegsOnly a s) (k : Nat) : s.chn k = a.chn k := by obtain ⟨r, rfl⟩ := h; rfl

end RegsOnly

theorem State.packWords_regsOnly (s : State) (x : Nat) (bs : List Byte) : RegsOnly s (s.packWords x bs) :=
  RegsOnly.foldl (fun t _ => (RegsOnly.refl t).setReg _ _) _ (.refl s)

theorem State.packBytes_regsOnly (s : State) (x : Nat) (bs : List Byte) : RegsOnly s (s.packBytes x bs) :=
  RegsOnly.foldl (fun t _ => (RegsOnly.refl t).setReg _ _) _ (.refl s)

theorem State.packSection_regsOnly (s : State) (n : Nat) (bs : List Byte) : RegsOnly s (s.packSection n bs) :=
  (((((((RegsOnly.refl s).setF _ _).setF _ _).setF _ _).setF _ _).setF _ _).setF _ _).setF _ _

theorem State.initBudget_regsOnly (s : State) : RegsOnly s s.initBudget := by
  unfold State.initBudget
  exact .ite (.refl s) ((RegsOnly.refl s).setF _ _)

theorem State.packLin_regsOnly (s : State) (k : Nat) : RegsOnly s (s.packLin k) := s.packBytes_regsOnly _ _

/-- A dictionary value reaches registers alone (R14). -/
theorem State.applyEntry_regsOnly (s : State) (idx sub : Nat) : RegsOnly s (s.applyEntry idx sub) := by
  unfold State.applyEntry
  dsimp only
  split
  · exact (RegsOnly.refl s).setF _ _
  split
  · exact s.packSection_regsOnly _ _
  split
  · exact .ite (s.packLin_regsOnly _) (.refl s)
  split
  · exact .refl s
  split
  · exact .refl s
  split
  · exact .refl s
  split
  · exact s.packWords_regsOnly _ _
  · exact .ite (((RegsOnly.refl s).setF _ _).trans (State.initBudget_regsOnly _)) ((RegsOnly.refl s).setF _ _)

theorem State.applyListed_regsOnly (s : State) (u : Nat) : RegsOnly s (s.applyListed u) :=
  RegsOnly.foldl (fun t _ => .ite (t.applyEntry_regsOnly _ _) (.refl t)) _ (.refl s)

theorem State.applyUnit_regsOnly (s : State) (u : Nat) : RegsOnly s (s.applyUnit u) := by
  unfold State.applyUnit
  split
  · exact RegsOnly.foldl (fun t _ => t.applyEntry_regsOnly _ _) _ (.refl s)
  split
  · exact (s.applyListed_regsOnly u).trans (State.initBudget_regsOnly _)
  split
  · exact RegsOnly.trans ⟨_, rfl⟩ (State.applyListed_regsOnly _ u)
  split
  · exact RegsOnly.foldl (fun t _ => t.applyEntry_regsOnly _ _) _ (s.applyListed_regsOnly u)
  · exact s.applyListed_regsOnly u

/-- The registers of a unit at reset, with the dictionary's values again: nothing else changes. -/
theorem State.resetRegsOf_regsOnly (s : State) (u : Nat) : RegsOnly s (s.resetRegsOf u) := by
  have h : RegsOnly s { s with regs := resetUnitRegs u (keptRegs u) s.regs } := ⟨_, rfl⟩
  exact (RegsOnly.foldl (fun t _ => (RegsOnly.refl t).setF _ _) _ h).trans (State.applyUnit_regsOnly _ u)

theorem State.uninhibitBoth_regsOnly (s : State) (bit : Nat) : RegsOnly s (s.uninhibitBoth bit) :=
  ((RegsOnly.refl s).setF _ _).setF _ _

-- ---------------------------------------------------------------------------------------------------------------
-- Gates, write-inhibit, retracts and the bridge

/-- s differs from a at most in registers, entries, the fault network, outputs, what the start-up and the motion die hold, the channels and
the spindle. -/
def GateFrame (a s : State) : Prop :=
  ∃ r d f o b m c0 c1 p, s = { a with regs := r, dict := d, fcl := f, out := o, boot := b, mfe := m, chn0 := c0, chn1 := c1, spm := p }

namespace GateFrame

variable {a s t : State}

theorem refl (a : State) : GateFrame a a := ⟨_, _, _, _, _, _, _, _, _, rfl⟩

theorem trans (h : GateFrame a s) (h' : GateFrame s t) : GateFrame a t := by
  obtain ⟨_, _, _, _, _, _, _, _, _, rfl⟩ := h
  obtain ⟨_, _, _, _, _, _, _, _, _, rfl⟩ := h'
  exact ⟨_, _, _, _, _, _, _, _, _, rfl⟩

theorem of_regs (h : RegsOnly a s) : GateFrame a s := by
  obtain ⟨r, rfl⟩ := h
  exact ⟨_, _, _, _, _, _, _, _, _, rfl⟩

theorem ite {c : Prop} [Decidable c] (h : GateFrame a s) (h' : GateFrame a t) : GateFrame a (if c then s else t) := by
  split
  · exact h
  · exact h'

theorem pwr (h : GateFrame a s) : s.pwr = a.pwr := by obtain ⟨_, _, _, _, _, _, _, _, _, rfl⟩ := h; rfl
theorem ash (h : GateFrame a s) : s.ash = a.ash := by obtain ⟨_, _, _, _, _, _, _, _, _, rfl⟩ := h; rfl
theorem d2d (h : GateFrame a s) : s.d2d = a.d2d := by obtain ⟨_, _, _, _, _, _, _, _, _, rfl⟩ := h; rfl
theorem bank3 (h : GateFrame a s) : s.bank3 = a.bank3 := by obtain ⟨_, _, _, _, _, _, _, _, _, rfl⟩ := h; rfl
theorem nvc (h : GateFrame a s) : s.nvc = a.nvc := by obtain ⟨_, _, _, _, _, _, _, _, _, rfl⟩ := h; rfl
theorem lcm (h : GateFrame a s) : s.lcm = a.lcm := by obtain ⟨_, _, _, _, _, _, _, _, _, rfl⟩ := h; rfl
theorem tst (h : GateFrame a s) : s.tst = a.tst := by obtain ⟨_, _, _, _, _, _, _, _, _, rfl⟩ := h; rfl
theorem qmg (h : GateFrame a s) : s.qmg = a.qmg := by obtain ⟨_, _, _, _, _, _, _, _, _, rfl⟩ := h; rfl
theorem obj (h : GateFrame a s) : s.obj = a.obj := by obtain ⟨_, _, _, _, _, _, _, _, _, rfl⟩ := h; rfl
theorem disk (h : GateFrame a s) : s.disk = a.disk := by obtain ⟨_, _, _, _, _, _, _, _, _, rfl⟩ := h; rfl
theorem factory (h : GateFrame a s) : s.factory = a.factory := by obtain ⟨_, _, _, _, _, _, _, _, _, rfl⟩ := h; rfl

end GateFrame

theorem State.setF_gateFrame (s : State) (f : FieldRef) (v : Nat) : GateFrame s (s.setF f v) := .of_regs ((RegsOnly.refl s).setF f v)

theorem State.setChn_gateFrame (s : State) (k : Nat) (c : Chn) : GateFrame s (s.setChn k c) := by
  unfold State.setChn
  split <;> exact ⟨_, _, _, _, _, _, _, _, _, rfl⟩

theorem State.gateLow_gateFrame (s : State) (k : Nat) : GateFrame s (s.gateLow k) := by
  unfold State.gateLow
  refine .ite ?_ (.refl s)
  exact (s.setChn_gateFrame k _).trans ⟨_, _, _, _, _, _, _, _, _, rfl⟩

theorem State.writeCut_gateFrame (s : State) (k : Nat) : GateFrame s (s.writeCut k) := by
  unfold State.writeCut
  dsimp only
  refine GateFrame.trans (GateFrame.trans (t := ite _ _ _) ?_ (State.setChn_gateFrame _ k _)) ⟨_, _, _, _, _, _, _, _, _, rfl⟩
  have h := ((s.gateLow_gateFrame k).trans (State.setF_gateFrame _ (Fld.PRE_WINH_CUT k) 1)).trans
    (State.setF_gateFrame _ (Fld.PRE_WINH_FIRST k) (if s.inhibits k = 0 then 0x1F else lowestBit 13 (s.inhibits k)))
  exact .ite h (h.trans ⟨_, _, _, _, _, _, _, _, _, rfl⟩)

theorem State.inhibit_gateFrame (s : State) (k bit : Nat) : GateFrame s (s.inhibit k bit) := by
  unfold State.inhibit
  dsimp only
  exact .ite ((s.setF_gateFrame _ _).trans (State.writeCut_gateFrame _ k)) (s.setF_gateFrame _ _)

theorem State.inhibitBoth_gateFrame (s : State) (bit : Nat) : GateFrame s (s.inhibitBoth bit) :=
  (s.inhibit_gateFrame 0 bit).trans (State.inhibit_gateFrame _ 1 bit)

theorem State.holdMedia_gateFrame (s : State) (k : Nat) : GateFrame s (s.holdMedia k) := by
  unfold State.holdMedia
  exact .ite (.refl s) ((s.inhibit_gateFrame k 3).trans ⟨_, _, _, _, _, _, _, _, _, rfl⟩)

theorem State.setRet_gateFrame (s : State) (k : Nat) (r : Retract) : GateFrame s (s.setRet k r) := by
  unfold State.setRet
  exact .ite ⟨_, _, _, _, _, _, _, _, _, rfl⟩ ⟨_, _, _, _, _, _, _, _, _, rfl⟩

theorem State.retract_gateFrame (s : State) (k cause : Nat) : GateFrame s (s.retract k cause) := by
  unfold State.retract
  have h := ((s.holdMedia_gateFrame k).trans (State.setRet_gateFrame _ k ⟨1, cause⟩)).trans
    (t := State.setRetracting _ k true) (State.setF_gateFrame _ _ _)
  exact .ite (.refl s) (.ite (h.trans ⟨_, _, _, _, _, _, _, _, _, rfl⟩) (h.trans ⟨_, _, _, _, _, _, _, _, _, rfl⟩))

theorem State.retractBoth_gateFrame (s : State) (cause : Nat) : GateFrame s (s.retractBoth cause) :=
  (s.retract_gateFrame 0 cause).trans (State.retract_gateFrame _ 1 cause)

theorem State.bridgeOff_gateFrame (s : State) : GateFrame s s.bridgeOff := ⟨_, _, _, _, _, _, _, _, _, rfl⟩

end Sys2Proof.Machine
end

section
/-!
SUPPORT. The gate, the preamplifier and the servo: the parts of one channel apart from each other (R250 to R299).
-/
namespace Sys2Proof.Machine
open Sys2Proof

@[simp] theorem State.pre_setSrv (s : State) (k : Nat) (v : Srv) (j : Nat) : (s.setSrv k v).pre j = s.pre j := by
  simp [State.pre]

end Sys2Proof.Machine

open Sys2Proof Sys2Proof.Machine

/-- Settles O15: each event of the gate and of the preamplifier by its branches. -/
theorem writeGateEventsRunTheirEffect : Obligations.WriteGateEventsRunTheirEffect := by
  unfold Obligations.WriteGateEventsRunTheirEffect
  refine ⟨?_, ?_, ?_, ?_, ?_, ?_, ?_, ?_, ?_, ?_⟩
  · exact fun k s => rfl
  · intro k bit s h4 h8
    simp [exec_writeInhibit, execWriteInhibit, h4, h8, show ¬ 12 < bit by omega]
  · intro k bit s h12 h
    have hb : ¬ (4 ≤ bit ∧ bit ≤ 8) := by omega
    simp [exec_writeInhibit, execWriteInhibit, hb, Nat.not_lt.mpr h12]
  · intro k fault s u hu
    simp only [exec_preampFault, execPreampFault, Bool.not_false, if_true, ← hu]
  · intro k fault s u a b c hu ha hb hc
    simp only [exec_preampFault, execPreampFault, Bool.not_true, Bool.false_eq_true, if_false, ← hu, ← ha, ← hb, ← hc]
  · intro k s u _ hu
    have hp : u.pre k = { s.pre k with fltLow := false } := by rw [hu, State.pre_setPre]
    simp only [exec_fltNRelease, execFltNRelease, State.faultSeen, ← hu, hp, Bool.not_false, Bool.true_and]
  · intro k addr data v back s u hu
    constructor
    · intro ha
      simp only [exec_preScmdGo, execPreScmdGo, b2n, if_true, ← hu, ha, if_false, Option.isNone_some]
    · simp only [exec_preScmdGo, execPreScmdGo, b2n, if_true, ← hu, Option.isNone_none]
  · intro k data v back s u w hu hw
    simp only [exec_preScmdGo, execPreScmdGo, b2n, if_true, ← hu, ← hw, Option.isNone_some]
  · intro k data answer back s u hu
    simp only [exec_preScmdGo, execPreScmdGo, b2n, Bool.false_eq_true, if_false, if_true, ← hu]
  · intro k addr data answer back s u ha hu
    simp only [exec_preScmdGo, execPreScmdGo, b2n, Bool.false_eq_true, if_false, ha, ← hu]

/-- Settles O16: the switch is the writing of HEAD and the servo's view of it; its settling changes the channel's own state alone. -/
theorem headSwitchesRunTheirEffect : Obligations.HeadSwitchesRunTheirEffect := by
  unfold Obligations.HeadSwitchesRunTheirEffect
  refine ⟨?_, ?_, ?_, ?_⟩
  · intro k head back offsets s
    simp only [exec_headSwitch, execHeadSwitch, apply_ite (fun t : State => t.showServo k)]
  · intro k head back s u v w hu hv hw
    cases h : s.sameTrack k (12 * k + head) <;> simp only [hw, hv, hu, State.headWritten, h]
  · intro k s _ hset
    rw [exec_headSwitchSettle, execHeadSwitchSettle, hset]
    refine ⟨_, rfl, ?_, ?_, ?_, ?_, ?_, ?_, ?_⟩ <;> simp [Srv.unseed]
  · intro k s hset
    simp only [exec_headSwitchSettle, execHeadSwitchSettle, hset, Bool.not_false, if_true]

/-- Settles O17: a wedge is taken, missed, lacking or sought by the position's state; a sequence is lost at PRED_MAX. -/
theorem servoWedgesRunTheirEffect : Obligations.ServoWedgesRunTheirEffect := by
  unfold Obligations.ServoWedgesRunTheirEffect
  refine ⟨?_, ?_, ?_, ?_, ?_, ?_, ?_, ?_, ?_, ?_, ?_⟩
  · intro k w trajEnd dac s h
    have hoff : (s.parked k || decide (s.getF (Fld.SRV_CTRL_MODE k) = 0)) = true := by simpa using h
    simp only [exec_servoWedge, execServoWedge, exec_wedgePredicted, execWedgePredicted, exec_wedgeSequenceLost, execWedgeSequenceLost,
      hoff, Bool.true_or, if_true, and_self]
  · intro k w trajEnd dac s t hp hm hl ht
    constructor
    · intro hf
      simp only [exec_servoWedge, execServoWedge, hp, hm, hl, ← ht, hf, decide_false, Bool.or_false, Bool.false_eq_true, if_false]
    · intro hf
      obtain ⟨x, hx⟩ := Option.ne_none_iff_exists'.mp hf
      simp only [exec_servoWedge, execServoWedge, hp, hm, hl, ← ht, hx, decide_false, Bool.or_false, Bool.false_eq_true, if_false,
        apply_ite State.settle]
  · intro k w trajEnd dac s hp hm hl
    simp only [exec_servoWedge, execServoWedge, hp, hm, hl, decide_false, Bool.or_false, Bool.false_eq_true, if_false, if_true]
  · intro k w found dac run s a b c d hrun ha hb hc hd
    simp only [State.seekMarks, Bool.or_eq_true, decide_eq_true_eq, Bool.not_eq_true', ← hrun, ← ha, ← hb, ← hc, ← hd]
  · intro k trajEnd dac s hp hm
    constructor <;> intro hl <;>
      simp only [exec_wedgePredicted, execWedgePredicted, hp, hm, hl, decide_false, Bool.or_false, Bool.false_eq_true, if_false, if_true]
  · exact fun k trajEnd dac s => rfl
  · intro k trajEnd dac s u hpred hu
    simp only [State.lackWedge, ge_iff_le, Nat.not_le.mpr hpred, if_false, ← hu]
  · intro k trajEnd dac s hpred
    simp only [State.lackWedge, ge_iff_le, hpred, if_true]
  · intro k s hp hm
    simp only [exec_wedgeSequenceLost, execWedgeSequenceLost, hp, hm]
    by_cases hl : s.isSet (Fld.SRV_STATUS_LOST k) = true <;>
      by_cases hq : s.dictNum (0x3600 + k) 0x0B ≤ (s.srv k).pred <;> simp [hl, hq]
  · intro k s u hl hs hu
    simp only [exec_reacquireTimeout, execReacquireTimeout, hl, Nat.not_lt.mpr hs, ← hu, Bool.not_true, Bool.false_or, decide_false,
      Bool.false_eq_true, if_false]
  · intro k s h
    have hoff : (!s.isSet (Fld.SRV_STATUS_LOST k) || decide ((s.srv k).sought < s.dictNum (0x3600 + k) 0x0C)) = true := by simpa using h
    simp only [exec_reacquireTimeout, execReacquireTimeout, hoff, if_true]

/-- Settles O18: an overrun, a target, a loop and the learning of run-out, each by its branches. -/
theorem servoCommandsRunTheirEffect : Obligations.ServoCommandsRunTheirEffect := by
  unfold Obligations.ServoCommandsRunTheirEffect
  refine ⟨?_, ?_, ?_, ?_, ?_, ?_⟩
  · intro k v m s hv hm
    simp only [exec_cleOverrun, execCleOverrun, ← hv, ← hm]
  · intro k target s u hu
    refine ⟨fun h => ?_, fun hp hun => ⟨fun h => ?_, fun hl hs => ?_⟩⟩
    · have hoff : (s.parked k || (s.srv k).unloading) = true := by simpa using h
      simp only [exec_srvTargetWrite, execSrvTargetWrite, hoff, if_true]
    · have hoff : (s.isSet (Fld.SRV_STATUS_LOST k) || decide ((s.srv k).seeds = 0)) = true := by simpa using h
      simp only [exec_srvTargetWrite, execSrvTargetWrite, hp, hun, hoff, ← hu, Bool.or_false, Bool.false_eq_true, if_false, if_true]
    · by_cases hpred : (s.srv k).pred = 0 <;>
        simp [exec_srvTargetWrite, execSrvTargetWrite, hp, hun, hl, hs, ← hu, hpred]
  · intro l s hl
    simp only [exec_cleLoopEnable, execCleLoopEnable, hl, if_true, show ¬ l = 8 by omega, if_false]
  · intro s u hu
    simp only [exec_cleLoopEnable, execCleLoopEnable, if_true, ← hu]
  · intro h l s hf
    simp only [exec_runoutLearnTimeout, execRunoutLearnTimeout, hf]
    by_cases h1 : s.learned h = true <;> by_cases h2 : l.told = true <;> simp [h1, h2]
  · intro h s hf
    simp only [exec_runoutLearnTimeout, execRunoutLearnTimeout, hf]

end

section
/-!
SUPPORT. The spindle: a mode that was written, and the bridge that is off (R309 to R323).
-/
namespace Sys2Proof.Machine
open Sys2Proof

theorem State.startOpenLoop_mode (s : State) (peaks : List Nat) : (s.startOpenLoop peaks).getF Fld.SPM_CTRL_MODE = 2 := by
  rw [State.startOpenLoop, State.getF_setF_same _ _ _ (by decide)]
  decide

theorem State.bridgeOff_spinOn (s : State) : s.bridgeOff.getF Fld.MFE_STATUS_SPIN_ON = 0 := by
  have h : s.bridgeOff.getF Fld.MFE_STATUS_SPIN_ON =
      ((s.setF Fld.MFE_STATUS_SPIN_ON 0).setF Fld.SPM_CTRL_MODE 0).getF Fld.MFE_STATUS_SPIN_ON := rfl
  rw [h, State.getF_setF_apart _ _ _ _ (by decide), State.getF_setF_same _ _ _ (by decide)]
  decide

theorem State.bridgeOff_mode (s : State) : s.bridgeOff.getF Fld.SPM_CTRL_MODE = 0 := by
  have h : s.bridgeOff.getF Fld.SPM_CTRL_MODE = ((s.setF Fld.MFE_STATUS_SPIN_ON 0).setF Fld.SPM_CTRL_MODE 0).getF Fld.SPM_CTRL_MODE := rfl
  rw [h, State.getF_setF_same _ _ _ (by decide)]
  decide

end Sys2Proof.Machine

open Sys2Proof Sys2Proof.Machine

/-- Settles O20: a period by the mode of the spindle, and what each timeout and the speed loop wait for. -/
theorem spindlePeriodsRunTheirEffect : Obligations.SpindlePeriodsRunTheirEffect := by
  unfold Obligations.SpindlePeriodsRunTheirEffect
  refine ⟨?_, ?_, ?_, ?_, ?_, ?_, ?_, ?_, ?_, ?_, ?_⟩
  · intro arrived isamp emf angle speed s h
    rw [exec_pwmPeriod, execPwmPeriod]
    by_cases hon : (!s.isSet Fld.MFE_STATUS_SPIN_ON || s.mfe.rectifier) = true
    · rw [if_pos hon]
    · have hmode : s.spinMode = 0 ∨ s.spinMode = 4 := by simp at hon; simpa [hon] using h
      rw [if_neg hon]
      obtain hm | hm := hmode <;> simp [hm]
  · intro arrived isamp emf l angle speed s hon hr hl
    refine ⟨fun hm hp => ?_, fun hm hp => ?_, fun hm => ?_, fun hm => ?_, fun h0 h1 h2 h4 h6 => ?_⟩
    · simp [exec_pwmPeriod, execPwmPeriod, hon, hr, ← hl, hm, show ¬ 32 ≤ s.spm.pulses + 1 by omega]
    · simp [exec_pwmPeriod, execPwmPeriod, hon, hr, ← hl, hm, show 32 ≤ s.spm.pulses + 1 by omega]
    · simp [exec_pwmPeriod, execPwmPeriod, hon, hr, ← hl, hm]
    · simp [exec_pwmPeriod, execPwmPeriod, hon, hr, ← hl, hm]
    · simp [exec_pwmPeriod, execPwmPeriod, hon, hr, ← hl, h0, h1, h2, h4, h6]
  · exact fun peaks s => ⟨s.startOpenLoop_mode peaks, rfl, rfl, rfl⟩
  · intro arrived isamp emf angle speed asked s u v hasked hsh hu hv
    simp only [State.drivenPeriod, hsh, Bool.false_eq_true, if_false, ← hasked, Bool.or_eq_true, Bool.not_eq_true', ← hu, ← hv]
  · intro arrived isamp emf angle speed asked duty carry s u v hasked hsh hduty hu hv
    simp only [State.drivenPeriod, hsh, if_true, ← hasked, hduty, Bool.or_eq_true, Bool.not_eq_true', ← hu, ← hv]
  · intro s
    rw [exec_dutySetLoss, execDutySetLoss]
    by_cases hloss : s.spm.focOn = true ∧ 2 ≤ s.mfe.missedDuty
    · rw [if_pos hloss, if_neg (by simp [hloss.1]; omega)]
    · rw [if_neg hloss, if_pos]
      rw [not_and, Nat.not_le] at hloss
      cases hf : s.spm.focOn <;> simp [hloss, hf]
  · exact fun s => ⟨s.bridgeOff_spinOn, s.bridgeOff_mode, rfl⟩
  · intro s
    simp only [exec_sampleShiftTimeout, execSampleShiftTimeout, Bool.and_eq_true, Bool.not_eq_true', decide_eq_true_eq, and_assoc, ge_iff_le]
  · intro speed rev revEnd s h
    have hoff : (s.spinMode != 3 || !s.spm.focOn || decide (s.spm.pwmCount < 10)) = true := by simpa [or_assoc] using h
    simp only [exec_speedLoop, execSpeedLoop, hoff, if_true]
  · intro speed rev revEnd slew r d uo iq ramp s a b u v w y hm hf hp ha hb hslew hr hramp hu hd hrun huo hw hiq
    have hon : (s.spinMode != 3 || !s.spm.focOn || decide (s.spm.pwmCount < 10)) = false := by simp [hm, hf, hp]
    cases hc : b.cle.spinRamp with
    | none =>
      rw [hc] at hr hramp
      simp only [Int.natCast_ediv, Nat.cast_ofNat] at hr hramp
      subst hr hramp
      simp only [exec_speedLoop, execSpeedLoop, hon, Bool.false_eq_true, if_false, ← ha, ← hb, ← hslew, hc, ← hu, ← hd, hrun, ← huo,
        ← hw, ← hiq]
    | some x =>
      rw [hc] at hr hramp
      simp only [Int.natCast_ediv, Nat.cast_ofNat] at hr hramp
      subst hr hramp
      simp only [exec_speedLoop, execSpeedLoop, hon, Bool.false_eq_true, if_false, ← ha, ← hb, ← hslew, hc, ← hu, ← hd, hrun, ← huo,
        ← hw, ← hiq]
  · intro s
    simp only [exec_standstillStartTimeout, execStandstillStartTimeout, Bool.or_eq_true, decide_eq_true_eq]

/-- Settles O21: a zero crossing by the mode and by what the catch has seen, and each of the other events by its branches. -/
theorem spindleEventsRunTheirEffect : Obligations.SpindleEventsRunTheirEffect := by
  unfold Obligations.SpindleEventsRunTheirEffect
  refine ⟨?_, ?_, ?_, ?_, ?_, ?_, ?_, ?_, ?_, ?_⟩
  · intro interval c s hf ho
    simp only [exec_bemfZeroCrossing, execBemfZeroCrossing, hf, ho, Bool.and_self, if_true]
  · intro interval c speed ahead back s a u h hspeed hahead hback ha hu
    have hon : (s.spm.focOn && s.isSet Fld.SPM_STATUS_OBS_VALID) = false := by obtain h | h := h <;> simp [h]
    have hexec : exec (.bemfZeroCrossing interval c) s = .next (
        if (u.spinMode != 4) = true then u
        else if ((ahead || back) && u.turnsBack) = true then u.reverseBrake
        else if speed < 16 * u.getF Fld.SPM_SPDLIM_CATCH_MIN then
          u.bridgeOff.setSpm { u.bridgeOff.spm with belowCatch := true, crossings := [] }
        else if (if (!u.spm.crossings.isEmpty && (ahead || back) && alikeIntervals (interval :: u.spm.crossings.filter (· != 0))) = true
            then interval :: u.spm.crossings else [0]).length < 6 then
          u.setSpm { u.spm with crossings := if (!u.spm.crossings.isEmpty && (ahead || back) &&
            alikeIntervals (interval :: u.spm.crossings.filter (· != 0))) = true then interval :: u.spm.crossings else [0] }
        else ((((((u.setSpm { u.spm with crossings := [], angle := c * 65536 / 6 }).startFoc).setF Fld.SPM_STATUS_OBS_VALID 1).setF
          Fld.SPM_STATUS_CATCHFAIL 0).bumpF Fld.SPM_CNT_CATCHES 1).event 531 (u.getF Fld.SPM_STATUS_CATCHFAIL)).startBrake) := by
      simp only [exec_bemfZeroCrossing, execBemfZeroCrossing, hon, Bool.false_eq_true, if_false, ← hspeed, ← hahead, ← hback, ← ha, ← hu]
    refine ⟨fun hm => ?_, fun hm hd ht => ?_, fun hm hd hlow => ?_, fun hm hd hlow go l hgo hl => ⟨fun hlen => ?_, fun hlen => ?_⟩⟩
    · rw [hexec, if_pos (by simpa using hm)]
    · rw [hexec, if_neg (by simp [hm]), if_pos (by simp only [hd, ht, Bool.and_self])]
    · rw [hexec, if_neg (by simp [hm]), if_neg (by simp only [hd, Bool.false_eq_true, not_false_eq_true]), if_pos hlow]
    · rw [hexec, if_neg (by simp [hm]), if_neg (by simp only [hd, Bool.false_eq_true, not_false_eq_true]), if_neg (Nat.not_lt.mpr hlow),
        ← hgo, ← hl, if_pos hlen]
    · rw [hexec, if_neg (by simp [hm]), if_neg (by simp only [hd, Bool.false_eq_true, not_false_eq_true]), if_neg (Nat.not_lt.mpr hlow),
        ← hgo, ← hl, if_neg (Nat.not_lt.mpr hlen)]
  · intro s hm
    simp [exec_catchTimeout, execCatchTimeout, hm]
  · intro n s u v w hm hn hu hv hw
    have hmode : (s.spinMode != 4) = false := by simp [hm]
    refine ⟨fun hlt => ?_, fun hge => ?_⟩
    · simp only [exec_catchTimeout, execCatchTimeout, hmode, Bool.false_eq_true, if_false, ← hn, ← hu, hlt, if_true]
    · simp only [exec_catchTimeout, execCatchTimeout, hmode, Bool.false_eq_true, if_false, ← hn, ← hu, Nat.not_lt.mpr hge, ← hv, ← hw]
  · intro p1 p2 p3 s h
    have hoff : (!s.spm.focOn || !(s.implausible p1 && s.implausible p2 && s.implausible p3)) = true := by
      obtain h | h | h | h := h <;> simp [h]
    simp only [exec_lossOfSynchronism, execLossOfSynchronism, hoff, if_true]
  · intro p1 p2 p3 s u hf h1 h2 h3 hu
    simp only [exec_lossOfSynchronism, execLossOfSynchronism, hf, h1, h2, h3, Bool.and_self, Bool.not_true, Bool.or_self,
      Bool.false_eq_true, if_false, ← hu]
  · intro s h0 h1
    simp only [exec_spinDownUnparked, execSpinDownUnparked, State.spinDownUnparked, h0, h1, Bool.not_false, Bool.and_self, if_true]
  · intro s u h hu
    have hon : (!s.unparkable 0 && !s.unparkable 1) = false := by obtain h | h := h <;> simp [h]
    simp only [exec_spinDownUnparked, execSpinDownUnparked, State.spinDownUnparked, hon, Bool.false_eq_true, if_false, ← hu]
  · intro speed s h
    have hoff : (decide (480 ≤ speed) || decide (s.spinMode = 1) || decide (s.spinMode = 2)) = true := by simpa [or_assoc] using h
    simp only [exec_spindleStopped, execSpindleStopped, ge_iff_le, hoff, if_true]
  · intro speed s a b c hlow h1 h2 ha hb hc
    simp only [exec_spindleStopped, execSpindleStopped, ge_iff_le, Nat.not_le.mpr hlow, h1, h2, decide_false, Bool.or_self,
      Bool.false_eq_true, if_false, Bool.and_eq_true, Bool.not_eq_true', and_assoc, ← ha, ← hb, ← hc]

end

section
/-!
SUPPORT. The bus, the latches of the motion die and a retract that begins (R324 to R341).
-/
namespace Sys2Proof.Machine
open Sys2Proof

/-- A field reads what a write left in it, below further writes of fields that share no bit with it. -/
theorem State.clearLatches_latches (s : State) : s.clearLatches.getF Fld.MFE_PROT_CHOP_OPEN = 0 ∧
    s.clearLatches.getF Fld.MFE_PROT_CHOP_SHORT = 0 ∧ s.clearLatches.getF Fld.MFE_PROT_SHORT = 0 ∧
    s.clearLatches.getF Fld.MFE_PROT_OPEN = 0 := by
  have h : s.clearLatches.regs = ((((s.setF Fld.MFE_PROT_CHOP_OPEN 0).setF Fld.MFE_PROT_CHOP_SHORT 0).setF Fld.MFE_PROT_SHORT
    0).setF Fld.MFE_PROT_OPEN 0).regs := rfl
  have hz (t : State) (f : FieldRef) (hf : f.hi < 32) : (t.setF f 0).getF f = 0 := by
    rw [State.getF_setF_same _ _ _ hf, Nat.zero_mod]
  refine ⟨?_, ?_, ?_, ?_⟩ <;> rw [State.getF_congr h]
  · rw [State.getF_setF_apart _ _ _ _ (by decide), State.getF_setF_apart _ _ _ _ (by decide), State.getF_setF_apart _ _ _ _ (by decide),
      hz _ _ (by decide)]
  · rw [State.getF_setF_apart _ _ _ _ (by decide), State.getF_setF_apart _ _ _ _ (by decide), hz _ _ (by decide)]
  · rw [State.getF_setF_apart _ _ _ _ (by decide), hz _ _ (by decide)]
  · rw [hz _ _ (by decide)]

theorem State.retracting_setRetracting (s : State) (k : Nat) : (s.setRetracting k true).retracting k = true := by
  unfold State.retracting State.setRetracting State.isSet
  split <;> rw [State.getF_setF_same _ _ _ (by decide)] <;> decide

/-- A retract that begins: the profile's velocity phase with its cause. -/
theorem State.retract_begins (s : State) (k cause : Nat) (hr : s.retracting k = false) (hu : s.unparkable k = false) :
    (s.retract k cause).retracting k = true ∧ (s.retract k cause).ret k = ⟨1, cause⟩ := by
  have hoff : (s.retracting k || s.unparkable k) = false := by rw [hr, hu]; rfl
  rw [State.retract, hoff]
  by_cases hk : k = 0
  · subst hk
    exact ⟨(State.retracting_setRetracting _ 0 :), rfl⟩
  · refine ⟨?_, ?_⟩
    · simp only [Bool.false_eq_true, if_false, hk]
      exact State.retracting_setRetracting _ k
    · simp only [Bool.false_eq_true, if_false, hk, State.ret]
      simp [State.setRet, hk]

end Sys2Proof.Machine

open Sys2Proof Sys2Proof.Machine

/-- Settles O22: each event of the bus by its thresholds, and the latches that a write clears. -/
theorem busVoltageEventsRunTheirEffect : Obligations.BusVoltageEventsRunTheirEffect := by
  unfold Obligations.BusVoltageEventsRunTheirEffect
  refine ⟨?_, ?_, ?_, ?_, ?_, ?_, ?_, ?_, ?_, ?_, ?_⟩
  · intro vbus s u v hu hv
    simp only [exec_vbusAbove13v8, execVbusAbove13v8, ← hu, ← hv, Bool.or_eq_true, decide_eq_true_eq]
  · intro vbus s u hu
    simp only [exec_vbusBelow13v6, execVbusBelow13v6, ← hu, Bool.or_eq_true, decide_eq_true_eq, ge_iff_le]
  · intro vbus s u hu
    simp only [exec_vbusAbove14v2, execVbusAbove14v2, ← hu]
  · intro vbus s u v hu hv
    simp only [exec_vbusAbove15v, execVbusAbove15v, ← hu, ← hv]
  · intro vbus keep s u v hkeep hu hv
    simp only [exec_vbusBelow14v2Again, execVbusBelow14v2Again, ge_iff_le, ← hkeep, ← hu, ← hv, Bool.or_eq_true, decide_eq_true_eq,
      bne_iff_ne]
  · intro v12 vbus s a u ha hu
    simp only [exec_idealDiodeSwitch, execIdealDiodeSwitch, ← ha, ← hu, ge_iff_le, Bool.and_eq_true, decide_eq_true_eq, and_assoc]
  · exact fun s => rfl
  · intro amps vbus s
    simp only [exec_chopperOpen, execChopperOpen, Bool.and_eq_true, decide_eq_true_eq, and_assoc, gt_iff_lt]
  · intro amps s h
    have hoff : (s.mfe.brkOn || decide (amps ≤ s.getF Fld.MFE_CHOP_IMIN)) = true := by simpa using h
    simp only [exec_chopperShort, execChopperShort, hoff, if_true]
  · intro amps s u hb ha hu
    simp only [exec_chopperShort, execChopperShort, hb, Nat.not_le.mpr ha, decide_false, Bool.or_self, Bool.false_eq_true, if_false, ← hu]
  · intro s
    obtain ⟨hopen, hshort, hphase, hlost⟩ := s.clearLatches_latches
    exact ⟨s.clearLatches, rfl, hopen, hshort, hphase, hlost, rfl, rfl, rfl⟩

/-- Settles O23: a retract begins where the bridge is there, and its end goes on with what waited for it. -/
theorem retractsRunTheirEffect : Obligations.RetractsRunTheirEffect := by
  unfold Obligations.RetractsRunTheirEffect
  refine ⟨?_, ?_, ?_, ?_, ?_, ?_, ?_, ?_, ?_, ?_⟩
  · exact fun k s => rfl
  · intro k cause s h
    have hoff : (s.retracting k || s.unparkable k) = true := by simpa using h
    rw [State.retract, hoff, if_pos rfl]
  · intro k cause s _ hr hu
    obtain ⟨hret, hphase⟩ := s.retract_begins k cause hr hu
    exact ⟨_, rfl, hret, hphase, (s.retract_gateFrame k cause).disk⟩
  · intro k mv ma late s
    simp only [exec_retractVelocityEnd, execRetractVelocityEnd, Bool.and_eq_true, Bool.or_eq_true, decide_eq_true_eq, and_assoc]
  · intro k s hr
    simp only [exec_retractEnd, execRetractEnd, hr, Bool.not_false, if_true]
  · intro k s a b c d u v hr ha hb hc hd hu hv
    have hexec : exec (.retractEnd k) s = .next (
        if (u.isSet Fld.MFE_STATUS_PWRLOSS && !u.retracting 0 && !u.retracting 1) = true then
          (if v.mfe.supplyLow = true then v else v.supplyBack).settle
        else if (u.spm.belowCatch && u.turnsBack && u.turning && !u.spm.spinDown) = true then u.reverseBrake
        else u.startBrake) := by
      simp only [exec_retractEnd, execRetractEnd, hr, Bool.not_true, Bool.false_eq_true, if_false, ← ha, ← hb, ← hc, ← hd,
        Bool.and_eq_true, Bool.not_eq_true', ← hu, ← hv]
    refine ⟨fun hl h0 h1 => ?_, fun h => ?_⟩
    · rw [hexec, hl, h0, h1, if_pos (by rfl), apply_ite State.settle]
    · have hoff : (u.isSet Fld.MFE_STATUS_PWRLOSS && !u.retracting 0 && !u.retracting 1) = false := by
        obtain h | h | h := h <;> simp [h]
      rw [hexec, hoff]
      simp only [Bool.false_eq_true, if_false, Bool.and_eq_true, Bool.not_eq_true', and_assoc]
  · exact fun s => rfl
  · intro s h
    have hoff : (!s.mfe.supplyLow || s.isSet Fld.MFE_STATUS_PWRLOSS) = true := by obtain h | h := h <;> simp [h]
    simp only [exec_powerLossConfirm, execPowerLossConfirm, hoff, if_true]
  · intro s a b hlow hp ha hb
    simp only [exec_powerLossConfirm, execPowerLossConfirm, hlow, hp, Bool.not_true, Bool.or_self, Bool.false_eq_true, if_false, ← ha, ← hb]
  · exact fun s => rfl

/-- Settles O24: a fault of the motion die within its limits is none, and beyond them latches and raises its source. -/
theorem motionFaultsRunTheirEffect : Obligations.MotionFaultsRunTheirEffect := by
  unfold Obligations.MotionFaultsRunTheirEffect
  refine ⟨?_, ?_, ?_, ?_, ?_, ?_, ?_, ?_, ?_⟩
  · intro ma mv s hi hv
    simp only [exec_phaseShort, execPhaseShort, hi, hv, decide_true, Bool.and_self, if_true]
  · intro ma mv cause second s t u h hfree hsecond hu
    have hon : (decide (100 * ma.natAbs ≤ 95 * s.isFs) && decide (mv ≤ 1000)) = false := by
      simpa [Nat.not_le, imp_iff_not_or] using h
    cases hl : s.spm.lastShortUs <;> rw [hl] at hsecond <;> simp only at hsecond <;> subst hsecond <;>
      simp only [exec_phaseShort, execPhaseShort, hon, Bool.false_eq_true, if_false, hfree, ← hu, hl]
  · intro ma want s h
    have hoff : (decide (want ≤ 10 * ma) || decide (5 * want ≤ s.isFs)) = true := by simpa using h
    simp only [exec_openPhase, execOpenPhase, ge_iff_le, hoff, if_true]
  · intro ma want cause s t hlow hwant hfree
    simp only [exec_openPhase, execOpenPhase, ge_iff_le, Nat.not_le.mpr hlow, Nat.not_le.mpr hwant, decide_false, Bool.or_self,
      Bool.false_eq_true, if_false, hfree]
  · intro k ma desat s
    rw [exec_vcmShort, execVcmShort]
    by_cases h : 5 * s.vcmFs k < 4 * ma.natAbs ∨ desat = true
    · rw [if_pos h, if_neg (by simpa [imp_iff_not_or] using h)]
    · rw [if_neg h, if_pos (by simpa [not_or] using h)]
  · intro k ma s
    rw [exec_vcmOpen, execVcmOpen]
    by_cases h : 32768 < 10 * ((s.srv k).uv.getD 0 0).natAbs ∧ 50 * ma.natAbs < s.vcmFs k
    · rw [if_pos h, if_neg (by simp only [Bool.or_eq_true, decide_eq_true_eq]; omega)]
    · rw [if_neg h, if_pos (by simp only [Bool.or_eq_true, decide_eq_true_eq]; omega)]
  · intro cause s t hfree
    simp only [exec_gateDriveSupplyLow, execGateDriveSupplyLow, hfree]
  · exact fun s => rfl
  · exact fun mv s => rfl

end

section
/-!
SUPPORT. Recovery and qualification: what a ladder does not read, and what the test patterns leave as it stands (R220 to R247).
-/
namespace Sys2Proof.Machine
open Sys2Proof

/-- The test patterns of a list of zones go out: the media, what the start holds and the drive stay. -/
theorem State.testPatterns_keep (l : List (Nat × Nat)) (s : State) :
    (l.foldl (fun (t : State) p => t.testPattern p.1 p.2) s).disk = s.disk ∧
    (l.foldl (fun (t : State) p => t.testPattern p.1 p.2) s).media = s.media ∧
    (l.foldl (fun (t : State) p => t.testPattern p.1 p.2) s).boot = s.boot := by
  induction l generalizing s with
  | nil => exact ⟨rfl, rfl, rfl⟩
  | cons p l ih =>
    obtain ⟨hd, hm, hb⟩ := ih (s.testPattern p.1 p.2)
    have h : (s.testPattern p.1 p.2).disk = s.disk ∧ (s.testPattern p.1 p.2).media = s.media ∧
        (s.testPattern p.1 p.2).boot = s.boot := by
      unfold State.testPattern
      split <;> exact ⟨rfl, rfl, rfl⟩
    exact ⟨hd.trans h.1, hm.trans h.2.1, hb.trans h.2.2⟩

end Sys2Proof.Machine

open Sys2Proof Sys2Proof.Machine

/-- Settles O13: the ladder's step and limit by its kind, and a scrub read by the sector it takes. -/
theorem recoveryEventsRunTheirEffect : Obligations.RecoveryEventsRunTheirEffect := by
  unfold Obligations.RecoveryEventsRunTheirEffect
  refine ⟨?_, ?_, ?_, ?_, ?_, ?_, ?_, ?_, ?_, ?_, ?_⟩
  · intro psa wedges fg cap s h
    simp only [exec_recoveryStepEnd, execRecoveryStepEnd, exec_recoveryLimit, execRecoveryLimit, h, and_self]
  · intro psa wedges fg c x s h
    simp only [exec_recoveryStepEnd, execRecoveryStepEnd, h, Bool.not_eq_true']
  · intro psa wedges fg x s h
    simp only [exec_recoveryStepEnd, execRecoveryStepEnd, h, Bool.or_eq_true, Bool.not_eq_true', or_assoc]
  · intro psa x s h
    simp only [exec_recoveryLimit, execRecoveryLimit, h]
    by_cases hlim : x.kind = 2 ∧ s.dictNum (0x3200 + x.k) 8 ≤ x.revs.getD 0
    · rw [if_pos hlim, if_neg]
      simp only [Bool.or_eq_true, bne_iff_ne, decide_eq_true_eq]
      omega
    · rw [if_neg hlim, if_pos]
      simp only [Bool.or_eq_true, bne_iff_ne, decide_eq_true_eq]
      omega
  · intro k psa wedges fg cap cuts l s h
    simp only [exec_scrubRead, execScrubRead, h, Bool.or_eq_true]
  · intro k wedges fg cap cuts s h ha hn
    simp only [exec_scrubRead, execScrubRead, h, State.scrubStep, ha, hn, Option.orElse_none]
  · intro k psa wedges fg cap cuts s h hpsa
    have htake : (s.scrubAgain k).orElse (fun _ => s.scrubNext k) = some psa := by
      obtain ha | ⟨ha, hn⟩ := hpsa
      · rw [ha, Option.orElse_some]
      · rw [ha, Option.orElse_none, hn]
    refine ⟨fun hb => ?_, fun hb hg => ?_, fun hb hg hp => ?_⟩
    · simp only [exec_scrubRead, execScrubRead, h, State.scrubStep, htake, hb, if_true]
    · simp only [exec_scrubRead, execScrubRead, h, State.scrubStep, htake, hb, hg, Bool.false_eq_true, if_false, Bool.not_false, if_true]
    · simp only [exec_scrubRead, execScrubRead, h, State.scrubStep, htake, hb, hg, hp, Bool.false_eq_true, if_false, Bool.not_true,
        Bool.not_false, if_true]
  · intro k psa wedges fg cap cuts s u h ha hb hg hp hu
    have hlad : u.ladder psa = s.ladder psa := by rw [hu]; rfl
    simp only [exec_scrubRead, execScrubRead, h, State.scrubStep, ha, Option.orElse_some, hb, hg, hp, Bool.false_eq_true, if_false,
      Bool.not_true, Option.isSome_some, if_true, ← hu, hlad]
  · intro k psa wedges fg cap cuts s h ha hn hb hg hp
    have hlad : (s.scrubAt k psa).ladder psa = s.ladder psa := rfl
    simp only [exec_scrubRead, execScrubRead, h, State.scrubStep, ha, hn, Option.orElse_none, hb, hg, hp, Bool.false_eq_true, if_false,
      Bool.not_true, Option.isSome_none, hlad]
  · intro k psa kind cap cuts s s1 s2 s3 r snr hacq hres hconf hs3
    simp only [State.scrubJudge, hacq, hres, hconf, ← hs3]
  · intro k psa kind cap cuts s s1 r hacq
    refine ⟨fun hres => ?_, fun h1 h3 => ?_⟩
    · simp only [State.scrubJudge, hacq, hres]
    · simp only [State.scrubJudge, hacq]

/-- Settles O14: the qualification by its branches; its start keeps nothing of the media and tests every zone of the plan. -/
theorem qualificationAndFormatRunTheirEffect : Obligations.QualificationAndFormatRunTheirEffect := by
  unfold Obligations.QualificationAndFormatRunTheirEffect
  refine ⟨?_, ?_, ?_, ?_, ?_, ?_, ?_, ?_, ?_, ?_, ?_⟩
  · intro selfOk s h
    have hoff : (!s.manufacture || decide (s.qualStatus = 1)) = true := by simpa using h
    simp only [exec_startQualification, execStartQualification, State.beginQualification, hoff, if_true]
  · intro selfOk s hm hq h
    have hgo : (s.media.drive.isSome || decide (s.boot.locked = [0, 1])) = true := by simpa using h
    simp only [exec_startQualification, execStartQualification, State.beginQualification, hm, hq, hgo, Bool.not_true, decide_false,
      Bool.or_self, Bool.false_eq_true, if_false, if_true]
  · intro selfOk s u hm hq hd hl hu
    have hready : (s.media.drive.isSome || decide (s.boot.locked = [0, 1])) = false := by simp [hd, hl]
    simp only [exec_startQualification, execStartQualification, State.beginQualification, hm, hq, hready, Bool.not_true, decide_false,
      Bool.or_self, Bool.false_eq_true, if_false, ← hu, Bool.and_eq_true, Bool.not_eq_true', apply_ite State.settle]
  · intro s
    unfold State.startQualification
    dsimp only
    generalize hall : s.planHeads.flatMap (fun h => (s.planZones h).map (fun z => (h, z.zone))) = all
    obtain ⟨hd, hm, hb⟩ := State.testPatterns_keep all _
    rw [hd, hm, hb]
    refine ⟨rfl, rfl, rfl, rfl, ?_⟩
    rw [← hall, List.map_flatMap]
    simp only [List.map_map]
    rfl
  · intro h z beyond snr fails s hnone
    rw [exec_qualificationRateResult, execQualificationRateResult]
    obtain hn | hn := hnone
    · rw [hn]
    · rw [hn]
      cases Assoc.find s.media.qual (headZone h z) <;> rfl
  · intro h z snr steps fails x s s1 s2 hsteps hx hfails hs1 hs2
    have hqual : s2.media.qual = Assoc.del s1.media.qual (headZone h z) := by rw [hs2]
    simp only [exec_qualificationRateResult, execQualificationRateResult, hsteps, hx, hfails, decide_true, Bool.and_self, if_true, ← hs1,
      ← hs2, hqual, Bool.and_eq_true, decide_eq_true_eq, List.isEmpty_iff]
  · intro h z beyond snr steps fails x s hsteps hx hbad h20
    have hno : (decide (fails.length * 1000000 ≤ s.dictNum 0x3400 3 * s.dictNum 0x3400 2) && decide (beyond = 0)) = false := by
      obtain hbad | hbad := hbad
      · simp only [hbad, decide_false, Bool.and_false]
      · simp only [Nat.not_le.mpr hbad, decide_false, Bool.false_and]
    simp only [exec_qualificationRateResult, execQualificationRateResult, hsteps, hx, hno, Bool.false_eq_true, if_false, ge_iff_le, h20,
      if_true]
  · intro h z beyond snr steps fails x y s s1 hsteps hx hbad h20 hy hs1
    have hno : (decide (fails.length * 1000000 ≤ s.dictNum 0x3400 3 * s.dictNum 0x3400 2) && decide (beyond = 0)) = false := by
      obtain hbad | hbad := hbad
      · simp only [hbad, decide_false, Bool.and_false]
      · simp only [Nat.not_le.mpr hbad, decide_false, Bool.false_and]
    subst hy
    dsimp only at hs1
    simp only [exec_qualificationRateResult, execQualificationRateResult, hsteps, hx, hno, Bool.false_eq_true, if_false, ge_iff_le,
      Nat.not_le.mpr h20, ← hs1]
  · intro id s
    rw [exec_formatDrive, execFormatDrive]
    cases h1 : s.formatAccess <;> cases h2 : s.planBad <;> cases h3 : id.all (· == 0) <;> simp
  · exact fun s => rfl
  · intro h z snr f x s hf hx hsnr
    simp only [State.zoneEfficiency, State.reportZone, hf, hx, ← hsnr]

end

section

open Sys2Proof Sys2Proof.Machine

/-- Settles O25: each event of the DRAM by the line it meets and by what waits. -/
theorem dramLinesRunTheirEffect : Obligations.DramLinesRunTheirEffect := by
  unfold Obligations.DramLinesRunTheirEffect
  refine ⟨?_, ?_, ?_, ?_, ?_, ?_, ?_, ?_, ?_, ?_, ?_, ?_, ?_, ?_, ?_, ?_, ?_, ?_⟩
  · intro l what cls err e s u hu he
    simp only [exec_dramAccess, execDramAccess, ← hu, ← he]
  · intro l what s
    refine ⟨fun h => ?_, fun fixed h => ?_, fun h => ?_, fun h => ?_⟩ <;> simp only [State.readLine, h]
  · intro what s h
    have hoff : (!s.isSet Fld.BMC_PATROL_EN || s.initialising) = true := by obtain h | h := h <;> simp [h]
    simp only [exec_patrolStep, execPatrolStep, hoff, if_true]
  · intro what l rest s hen hinit hrep
    simp only [exec_patrolStep, execPatrolStep, hen, hinit, hrep, Bool.not_true, Bool.or_self, Bool.false_eq_true, if_false]
  · intro what l s u v hen hinit hrep hl hu hv
    simp only [exec_patrolStep, execPatrolStep, hen, hinit, hrep, Bool.not_true, Bool.or_self, Bool.false_eq_true, if_false, ← hl, ← hu,
      ← hv]
  · exact fun l cls cells s => rfl
  · intro l cls cells all s hall
    refine ⟨fun h => ?_, fun h => ?_, fun h0 h64 e he => ?_, fun h0 h64 he => ⟨fun hlen => ?_, fun hlen e rest hm => ?_⟩⟩
    · simp only [State.writeCells, ← hall, h, if_true]
    · simp only [State.writeCells, ← hall, h, List.length_nil, List.isEmpty_nil, if_true]
      rfl
    · have hne : all.isEmpty = false := by simpa using h0
      rw [he, Option.map_some] at hall
      simp only [State.writeCells, he, Option.map_some, ← hall, h64, hne, Bool.false_eq_true, if_false]
    · have hne : all.isEmpty = false := by simpa using h0
      rw [he, Option.map_none] at hall
      simp only [State.writeCells, he, Option.map_none, ← hall, h64, hne, Bool.false_eq_true, if_false, hlen, if_true]
    · have hne : all.isEmpty = false := by simpa using h0
      rw [he, Option.map_none] at hall
      simp only [State.writeCells, he, Option.map_none, ← hall, h64, hne, Bool.false_eq_true, if_false, Nat.not_lt.mpr hlen]
      rw [hm]
  · intro l ok s
    refine ⟨fun h => ?_, fun e h => ?_⟩ <;> simp only [exec_mergeHoldExpire, execMergeHoldExpire, h]
  · intro e ok good s a u v ha hread hv
    cases hd : u.lineDecode e.line <;> rw [hd] at hv <;> simp only at hv <;> subst hv <;>
      simp only [State.flushMerge, ← ha, hread, hd, Bool.not_eq_true']
  · intro s h
    simp only [exec_initBlockDone, execInitBlockDone, h]
  · intro b rest s h
    simp only [exec_initBlockDone, execInitBlockDone, h]
  · intro b s u hb hu
    simp only [State.blockDone, hb, if_true, ← hu]
  · intro sub drift s u hu
    simp only [exec_dqsOscillatorRead, execDqsOscillatorRead, ← hu]
  · exact fun s => rfl
  · exact fun hot s => rfl
  · intro count s h
    simp only [exec_biasRequest, execBiasRequest, h, if_true]
  · intro count s u h hu
    simp only [exec_biasRequest, execBiasRequest, h, Bool.false_eq_true, if_false, ← hu]
  · intro s
    simp only [exec_initPatrolStall, execInitPatrolStall, Bool.or_eq_true, Bool.not_eq_true', List.isEmpty_eq_false_iff, ne_eq, or_assoc]

/-- Settles O26: an access outside the window or on a failed stream is none; a read answers by its line, a write is confirmed. -/
theorem cxlMemAccessesRunTheirEffect : Obligations.CxlMemAccessesRunTheirEffect := by
  unfold Obligations.CxlMemAccessesRunTheirEffect
  refine ⟨?_, ?_, ?_, ?_⟩
  · intro hpa x l poison s u v hx hk hl hu hr
    simp only [exec_cxlMemAccess, execCxlMemAccess, hx, hk, if_false, ← hl, ← hu, hr, if_true]
  · intro hpa x l poison s u v hx hk hl hu hr
    simp only [exec_cxlMemAccess, execCxlMemAccess, hx, hk, if_false, ← hl, ← hu, hr, Bool.false_eq_true]
  · intro hpa x l cells s u hx hk hl hu
    constructor <;> simp only [exec_cxlMemAccess, execCxlMemAccess, hx, hk, if_false, ← hl, ← hu, Bool.false_eq_true, if_true]
  · intro hpa write poison s h
    obtain h | h := h
    · simp only [exec_cxlMemAccess, execCxlMemAccess, h]
    · cases hx : s.hdmOffset hpa <;> simp only [exec_cxlMemAccess, execCxlMemAccess, hx, h, if_true]

end

section
/-!
SUPPORT. The link to the host: the keys of a stream (R402 to R406).
-/
namespace Sys2Proof.Machine
open Sys2Proof

theorem State.keys_setKeys (s : State) (stream v : Nat) : (s.setKeys stream v).keys stream = v := by
  unfold State.setKeys State.keys
  dsimp only
  split <;> rfl

end Sys2Proof.Machine

open Sys2Proof Sys2Proof.Machine

/-- Settles O27: training by what both sides offer, and each reset and power state by the link. -/
theorem hostLinkEventsRunTheirEffect : Obligations.HostLinkEventsRunTheirEffect := by
  unfold Obligations.HostLinkEventsRunTheirEffect
  refine ⟨?_, ?_, ?_, ?_, ?_, ?_, ?_, ?_, ?_, ?_⟩
  · intro width rate cxl presets s h
    have hoff : (s.cxc.perstLow || decide (s.boot.slateStep < 9) ||
        (s.tst.loop && decide (s.getF Fld.TST_LBCTL_IF = 0) && s.getF Fld.TST_LBCTL_DEPTH != 3)) = true := by
      simpa [or_assoc, and_assoc] using h
    simp only [exec_linkTraining, execLinkTraining, hoff, if_true]
  · intro width rate w r cxl mode presets s a b c d e hp h9 hl ha hw hr hmode hb hc hd he
    have hon : (s.cxc.perstLow || decide (s.boot.slateStep < 9) ||
        (s.tst.loop && decide (s.getF Fld.TST_LBCTL_IF = 0) && s.getF Fld.TST_LBCTL_DEPTH != 3)) = false := by
      obtain h | h | h := hl <;> simp [hp, h9, h]
    have he' : e = if (mode || s.cxc.prevLink != some (0, w, r)) = true then d.event 576 0 else d := by
      simp only [he, Bool.or_eq_true, bne_iff_ne]
    rw [exec_linkTraining, execLinkTraining, hon]
    refine ⟨fun hprev => ?_, fun m pw pr hprev => ?_⟩
    · rw [hprev] at he' ⊢
      subst he' hd hc hb hmode hr hw ha
      rfl
    · have hraise : (if w < pw ∨ r < pr then e.raise 375 0 0 else e) = if (decide (w < pw) || decide (r < pr)) = true then e.raise 375 0 0 else e := by
        simp only [Bool.or_eq_true, decide_eq_true_eq]
      rw [hraise]
      rw [hprev] at he' ⊢
      subst he' hd hc hb hmode hr hw ha
      rfl
  · intro s h
    refine ⟨?_, ?_, ?_, ?_⟩
    · simp only [exec_surpriseLinkDown, execSurpriseLinkDown, h, if_true]
    · simp only [exec_hotReset, execHotReset, h, if_true]
    · simp only [exec_functionLevelReset, execFunctionLevelReset, h, if_true, State.flr]
    · simp only [exec_cxlReset, execCxlReset, h, if_true]
  · intro s h
    refine ⟨?_, ?_, ?_, ?_⟩
    · simp only [exec_surpriseLinkDown, execSurpriseLinkDown, h, Bool.false_eq_true, if_false]
    · simp only [exec_hotReset, execHotReset, h, Bool.false_eq_true, if_false]
    · simp only [exec_functionLevelReset, execFunctionLevelReset, h, Bool.false_eq_true, if_false]
    · simp only [exec_cxlReset, execCxlReset, h, Bool.false_eq_true, if_false]
  · intro s u hu
    rw [State.cxlReset, ← hu]
    exact if_congr List.isEmpty_iff rfl rfl
  · intro s
    rw [exec_perstNAssert, execPerstNAssert]
  · intro s
    rw [exec_perstNDeassert, execPerstNDeassert]
  · intro s u hu
    simp only [exec_d3hotEntry, execD3hotEntry, State.toD3, ← hu]
  · intro s u hd hu
    simp only [exec_d0Return, execD0Return, State.toD0, hd, if_true, ← hu]
  · intro s hd
    simp only [exec_d0Return, execD0Return, State.toD0, hd, Bool.false_eq_true, if_false]

/-- Settles O28: an access of the host by what answers it, and the decoder, the doorbells and the mailbox by their branches. -/
theorem hostAccessesRunTheirEffect : Obligations.HostAccessesRunTheirEffect := by
  unfold Obligations.HostAccessesRunTheirEffect
  refine ⟨?_, ?_, ?_, ?_, ?_, ?_, ?_, ?_, ?_, ?_, ?_, ?_, ?_⟩
  · intro off be write ready tails s h
    have hoff : (s.cxc.perstLow || !s.isSet Fld.CXC_LINK_UP) = true := by obtain h | h := h <;> simp [h]
    simp only [exec_configRequest, execConfigRequest, hoff, if_true]
  · intro off be write ready tails s hp hl h
    have hwait : (!ready || decide (s.boot.slateStep < 9)) = true := by simpa using h
    simp only [exec_configRequest, execConfigRequest, hp, hl, hwait, Bool.not_true, Bool.or_self, Bool.false_eq_true, if_false, if_true]
  · intro off be tails s hp hl h9
    simp only [exec_configRequest, execConfigRequest, hp, hl, Nat.not_lt.mpr h9, decide_false, Bool.not_true, Bool.or_self,
      Bool.false_eq_true, if_false]
  · intro off be v tails s u hp hl h9 hu
    simp only [exec_configRequest, execConfigRequest, hp, hl, Nat.not_lt.mpr h9, decide_false, Bool.not_true, Bool.or_self,
      Bool.false_eq_true, if_false, ← hu]
  · intro base size lock s h
    simp only [exec_hdmCommit, execHdmCommit, h, if_true]
  · intro base size lock s u v h hu hv
    have hunit : 256 * mib = 268435456 := rfl
    simp only [exec_hdmCommit, execHdmCommit, h, Bool.false_eq_true, if_false, ← hu, State.commitHdm, hunit, ← hv, gt_iff_lt,
      Bool.or_eq_true, decide_eq_true_eq, bne_iff_ne, or_assoc]
  · intro off width data mb s h
    have hsize : 8 * mib = 8388608 := rfl
    have hoff : (s.barsOn && decide (off < 8388608) && (decide (width = 4) || decide (width = 8)) && decide (off % width = 0)) = false := by
      obtain h | h | ⟨h, h'⟩ | h := h
      · simp [h]
      · simp [Nat.not_lt.mpr h]
      · simp [h, h']
      · simp [h]
    simp only [exec_doorbellWrite, execDoorbellWrite, hsize, hoff, Bool.false_eq_true, if_false]
  · intro off width data mb s hb ho hw hm
    have hsize : 8 * mib = 8388608 := rfl
    have hon : (s.barsOn && decide (off < 8388608) && (decide (width = 4) || decide (width = 8)) && decide (off % width = 0)) = true := by
      simp [hb, ho, hw, hm]
    simp only [exec_doorbellWrite, execDoorbellWrite, hsize, hon, if_true, apply_ite (fun t : State => t.pollMailbox (off / 8) mb)]
  · intro q tail s h
    simp only [State.takeTail, h]
  · intro q tail x s h
    simp only [State.takeTail, h]
  · exact fun v s => rfl
  · intro kind signed s h
    have hoff : (!s.isSet Fld.CXC_LINK_UP || decide (s.boot.slateStep < 9)) = true := by simpa using h
    simp only [exec_spdmRequest, execSpdmRequest, hoff, if_true]
  · intro signed s hl h9
    have hon : (!s.isSet Fld.CXC_LINK_UP || decide (s.boot.slateStep < 9)) = false := by simp [hl, h9]
    refine ⟨?_, ?_, ?_, ?_, ?_⟩ <;> simp only [exec_spdmRequest, execSpdmRequest, hon, Bool.false_eq_true, if_false]

/-- Settles O29: a key message by its stream and action, and each failure of the link by the channel it belongs to. -/
theorem linkSecurityAndErrorsRunTheirEffect : Obligations.LinkSecurityAndErrorsRunTheirEffect := by
  unfold Obligations.LinkSecurityAndErrorsRunTheirEffect
  refine ⟨?_, ?_, ?_, ?_, ?_, ?_, ?_, ?_, ?_⟩
  · intro stream action skid s h
    have hoff : (!s.cxc.spdm || decide (stream > 1) || !s.isSet Fld.CXC_LINK_UP) = true := by obtain h | h := h <;> simp [h]
    simp only [exec_ideKmMessage, execIdeKmMessage, hoff, if_true]
  · intro skid s hs hl
    constructor
    · simp [exec_ideKmMessage, execIdeKmMessage, hs, hl]
    · by_cases hk : s.keys 1 = 2 <;> simp [exec_ideKmMessage, execIdeKmMessage, hs, hl, hk]
  · intro stream skid s hst hs hl
    have hon : (!s.cxc.spdm || decide (stream > 1) || !s.isSet Fld.CXC_LINK_UP) = false := by simp [hs, hl]; omega
    constructor <;> simp only [exec_ideKmMessage, execIdeKmMessage, hon, Bool.false_eq_true, if_false]
  · exact fun stream v s _ => s.keys_setKeys stream v
  · intro flit s u hu
    by_cases hk : s.keys 0 = 2 <;> simp [exec_ideIntegrityFail, execIdeIntegrityFail, hk, ← hu]
  · intro flit s u hu
    by_cases hk : s.keys 1 = 2 <;> simp [exec_ideIntegrityFail, execIdeIntegrityFail, hk, ← hu]
  · exact fun l onDst x more s => rfl
  · exact fun n l onDst x more s => rfl
  · intro cache l onDst x more s u hu
    subst hu
    exact ⟨rfl, fun n => rfl⟩

end

section
/-!
SUPPORT. The queues: what a command of queue 0 without a buffer completes with (R464, R471, R494).
-/
namespace Sys2Proof.Machine
open Sys2Proof

/-- A command of queue 0 without a buffer completes with the status of its check, and without one with that of what it does. -/
theorem State.runAdmin_eq {s u : State} {x : Slot} {fields : Bool} {run : State → State × Nat} {st r : Nat}
    (hst : st = s.adminCheck x.entry noHost fields [0] (fun _ => true)) (hrun : run s = (u, r)) :
    s.runAdmin x fields run = .next (if st = 0 then (u.endWith x r).settled else (s.endWith x st).settled) := by
  rw [State.runAdmin, ← hst, hrun]
  by_cases h : st = 0
  · subst h
    rfl
  · simp only [bne_iff_ne, ne_eq, h, not_false_eq_true, if_true, if_false, State.done]

end Sys2Proof.Machine

open Sys2Proof Sys2Proof.Machine

/-- Settles O30: a snoop by the line it meets, a writeback's GO by what waits, and the mailboxes by their placing. -/
theorem coherentCacheEventsRunTheirEffect : Obligations.CoherentCacheEventsRunTheirEffect := by
  unfold Obligations.CoherentCacheEventsRunTheirEffect
  refine ⟨?_, ?_, ?_, ?_, ?_, ?_, ?_, ?_, ?_, ?_, ?_, ?_, ?_, ?_, ?_, ?_⟩
  · intro s u hu
    simp only [exec_hccDisable, execHccDisable, State.hccDisable, ← hu, Bool.or_eq_true, Bool.not_eq_true']
  · intro tails s u hu
    simp only [exec_hccEnable, execHccEnable, State.hccEnable, ← hu, ite_bnot]
  · intro s
    simp only [exec_hccWalkOvertime, execHccWalkOvertime, Bool.and_eq_true, Bool.not_eq_true']
  · intro addr inv old tail s hf
    simp only [exec_hostSnoop, execHostSnoop, hf, if_true]
  · intro addr inv old tail l s hf hl
    simp only [exec_hostSnoop, execHostSnoop, hf, Bool.false_eq_true, if_false, State.snoop, hl]
  · intro addr inv old tail s hf hev hl
    simp only [exec_hostSnoop, execHostSnoop, hf, Bool.false_eq_true, if_false, State.snoop, hev, hl]
  · intro addr old tail l s hf hev hl
    refine ⟨fun hb inv => ?_, fun hb h2 => ?_, fun hb h2 => ?_⟩
    · simp only [exec_hostSnoop, execHostSnoop, hf, Bool.false_eq_true, if_false, State.snoop, hev, hl, hb, if_true]
    · simp only [exec_hostSnoop, execHostSnoop, hf, Bool.false_eq_true, if_false, State.snoop, hev, hl, hb, h2, if_true]
    · simp only [exec_hostSnoop, execHostSnoop, hf, Bool.false_eq_true, if_false, State.snoop, hev, hl, hb, h2]
  · intro addr old tail l s u hf hev hl hb hu
    have hexec : exec (.hostSnoop addr true old tail) s = .next (if l.kind = 0 then
        (match (u.stat 0x8330 3 1).mailboxOf (addr / 64) with
        | some q => (u.stat 0x8330 3 1).rereadMailbox q tail
        | none => u.stat 0x8330 3 1) else u.walkEnds) := by
      rw [exec_hostSnoop, execHostSnoop, hf, State.snoop, hev]
      cases hm : (u.stat 0x8330 3 1).mailboxOf (addr / 64) <;> simp only [hl, hb, ← hu, hm, Bool.false_eq_true, if_false, if_true]
    refine ⟨fun hk => ?_, fun hk hm => ?_, fun hk q hm => ?_⟩ <;> rw [hexec]
    · rw [if_neg hk]
    · rw [if_pos hk, hm]
    · rw [if_pos hk, hm]
  · intro addr l s u hf hl hu
    refine ⟨fun hw => ?_, fun w rest hw => ?_⟩ <;>
      simp only [exec_writebackGo, execWritebackGo, hf, Bool.not_false, Bool.and_true, hl, ← hu, hw]
  · intro addr s h
    have hnone : s.hcc.evict.find? (fun l => l.line == addr / 64 && !s.cacheFailed) = none := by
      obtain h | h := h
      · rw [List.find?_eq_none] at h ⊢
        intro x hx hc
        rw [Bool.and_eq_true] at hc
        exact h x hx hc.1
      · simp [h]
    simp only [exec_writebackGo, execWritebackGo, hnone]
  · intro qid a tail q s hq hm
    simp only [exec_unplacedMailboxPoll, execUnplacedMailboxPoll, State.pollMailbox, hq, hm, Bool.and_eq_true, Bool.not_eq_true', and_assoc]
  · intro qid tail s h
    cases hq : s.queue qid with
    | none => simp only [exec_unplacedMailboxPoll, execUnplacedMailboxPoll, State.pollMailbox, exec_mailboxSnoop, execMailboxSnoop, hq,
        and_self]
    | some q => simp only [exec_unplacedMailboxPoll, execUnplacedMailboxPoll, State.pollMailbox, exec_mailboxSnoop, execMailboxSnoop, hq,
        h q hq, and_self]
  · intro qid a tail q s hq hm
    simp only [exec_mailboxSnoop, execMailboxSnoop, hq, hm]
  · intro q tail a s hm
    simp only [State.rereadMailbox, hm, Bool.or_eq_true, Bool.not_eq_true', apply_ite (fun t : State => t.mailboxTail q.qid tail)]
  · exact fun set s => rfl
  · exact fun set e rest s => rfl

/-- Settles O31: queue 0 comes and goes with its bit, an entry is taken by what its queue holds, and a ring's head word by what waits. -/
theorem queueServiceRunsItsEffect : Obligations.QueueServiceRunsItsEffect := by
  unfold Obligations.QueueServiceRunsItsEffect
  refine ⟨?_, ?_, ?_, ?_, ?_, ?_, ?_, ?_, ?_, ?_, ?_, ?_, ?_, ?_, ?_⟩
  · intro s h
    have hoff : (decide (s.boot.slateStep < 9) || s.isSet Fld.QMG_ACTL_EN) = true := by simpa using h
    simp only [exec_adminQueueEnable, execAdminQueueEnable, hoff, if_true]
  · intro s u h9 hen hu
    simp only [exec_adminQueueEnable, execAdminQueueEnable, Nat.not_lt.mpr h9, hen, decide_false, Bool.or_self, Bool.false_eq_true, if_false,
      ← hu, State.adminCreate]
  · intro entries s h
    simp only [exec_adminQueueDisable, execAdminQueueDisable, h, Bool.not_false, if_true]
  · intro entries s u h hu
    refine ⟨fun hq => ?_, fun q hq => ?_⟩ <;>
      simp only [exec_adminQueueDisable, execAdminQueueDisable, h, Bool.not_true, Bool.false_eq_true, if_false, ← hu, hq, State.done]
  · intro entry head s h
    simp only [exec_entryAccept, execEntryAccept, h]
  · intro head q s h
    simp only [exec_entryAccept, execEntryAccept, h, State.done]
  · intro b head q s u h hu
    refine ⟨fun hq => ?_, fun p hq => ?_⟩ <;>
      simp only [exec_entryAccept, execEntryAccept, h, ← hu, hq, State.done, apply_ite Host.Outcome.next]
  · intro ring head s h
    simp only [exec_headWordReread, execHeadWordReread, h, Bool.not_false, if_true]
  · intro ring s h
    cases ring <;> simp only [exec_headWordReread, execHeadWordReread, h, Bool.not_true, Bool.false_eq_true, if_false]
  · intro h s hw
    simp only [exec_headWordReread, execHeadWordReread, hw, Bool.not_true, Bool.false_eq_true, if_false]
  · intro id h s hw hr
    cases hc : s.cring id with
    | none => simp only [exec_headWordReread, execHeadWordReread, hw, Bool.not_true, Bool.false_eq_true, if_false, hc]
    | some r => simp only [exec_headWordReread, execHeadWordReread, hw, Bool.not_true, Bool.false_eq_true, if_false, hc, hr r hc,
        List.isEmpty_nil, if_true]
  · intro id h r r1 s u hw hr hwait hu hr1
    have hne : r.waiting.isEmpty = false := by simpa using hwait
    simp only [exec_headWordReread, execHeadWordReread, hw, Bool.not_true, Bool.false_eq_true, if_false, hr, hne, ← hu, hr1, State.done,
      Bool.and_eq_true, Bool.not_eq_true', decide_eq_true_eq, List.isEmpty_eq_false_iff, ne_eq, and_assoc, apply_ite Host.Outcome.next]
  · intro id s h
    simp only [exec_ringFullTimeout, execRingFullTimeout, h]
  · intro id r s h
    simp only [exec_ringFullTimeout, execRingFullTimeout, h, Bool.and_eq_true, decide_eq_true_eq]
  · intro g s
    simp only [exec_coalescingTimeout, execCoalescingTimeout, Bool.or_eq_true, Bool.and_eq_true, beq_iff_eq, bne_iff_ne, and_assoc]

/-- Settles O32: each command of queue 0 by its check and by what stands in its way. -/
theorem queueCommandsRunTheirEffect : Obligations.QueueCommandsRunTheirEffect := by
  unfold Obligations.QueueCommandsRunTheirEffect
  refine ⟨?_, ?_, ?_, ?_, ?_, ?_, ?_, ?_, ?_, ?_, ?_, ?_, ?_⟩
  · intro t entries old new s
    refine ⟨fun h => ?_, fun h => ?_, fun h => ?_, fun h => ?_, fun h => ?_, fun h => ?_, fun h => ?_, fun h => ?_⟩
    · simp only [exec_createQueue, execCreateQueue, h]
    · simp only [exec_deleteQueue, execDeleteQueue, h]
    · simp only [exec_resetQueue, execResetQueue, h]
    · simp only [exec_createCring, execCreateCring, h]
    · simp only [exec_deleteCring, execDeleteCring, h]
    · simp only [exec_arm, execArm, h]
    · simp only [exec_disarm, execDisarm, h]
    · simp only [exec_eventRingSetup, execEventRingSetup, h]
  · intro t st r x s u hx hst hrun
    simp only [exec_createQueue, execCreateQueue, hx]
    exact State.runAdmin_eq hst hrun
  · intro s e
    simp only [State.createQueue, Bool.or_eq_true, decide_eq_true_eq, Option.isNone_iff_eq_none]
  · intro t op st entries x s hop hx hst
    have hexec : exec (if op = 3 then .deleteQueue t entries else .resetQueue t entries) s = s.beginReset x entries := by
      obtain h | h := hop <;> subst h
      · simp only [if_true, exec_deleteQueue, execDeleteQueue, hx]
      · simp only [show ¬ (4 = 3) by decide, if_false, exec_resetQueue, execResetQueue, hx]
    rw [hexec]
    refine ⟨fun h => ?_, fun h hq => ?_, fun h q hq => ?_⟩
    · simp only [State.beginReset, ← hst, bne_iff_ne, ne_eq, h, not_false_eq_true, if_true, State.done]
    · simp only [State.beginReset, ← hst, h, bne_self_eq_false, Bool.false_eq_true, if_false, hq, State.done]
    · simp only [State.beginReset, ← hst, h, bne_self_eq_false, Bool.false_eq_true, if_false, hq, State.done, apply_ite Host.Outcome.next]
  · intro t st r x s u hx hst hrun
    simp only [exec_createCring, execCreateCring, hx]
    exact State.runAdmin_eq hst hrun
  · intro s e
    simp only [State.createCring, Bool.not_eq_true']
  · intro t st r x s u hx hst hrun
    simp only [exec_deleteCring, execDeleteCring, hx]
    exact State.runAdmin_eq hst hrun
  · intro s id
    simp only [State.deleteCring, Bool.or_eq_true, decide_eq_true_eq, Option.isNone_iff_eq_none]
  · intro t st r old new x s u hx hst hrun
    simp only [exec_arm, execArm, hx]
    exact State.runAdmin_eq hst hrun
  · intro s e old new
    refine ⟨fun ho => ?_, fun ho h0 => ?_, fun ho h0 hq => ?_, fun ho h0 q hq => ⟨fun hr => ?_, fun hr q1 u hq1 hu => ?_⟩⟩
    · simp only [State.arm, ho, if_true]
    · simp only [State.arm, ho, Bool.false_eq_true, if_false, h0, if_true]
    · simp only [State.arm, ho, Bool.false_eq_true, if_false, h0, hq]
    · simp only [State.arm, ho, Bool.false_eq_true, if_false, h0, hq, hr, if_true]
    · simp only [State.arm, ho, Bool.false_eq_true, if_false, h0, hq, hr, hq1, ← hu]
  · intro t st tail x s hx hst
    simp only [exec_disarm, execDisarm, hx]
    refine ⟨fun h => ?_, fun h hq => ?_, fun h q hq => ?_⟩
    · simp only [State.runAdmin, ← hst, bne_iff_ne, ne_eq, h, not_false_eq_true, if_true, State.done]
    · simp only [State.runAdmin, ← hst, h, bne_self_eq_false, Bool.false_eq_true, if_false, hq, State.done]
    · by_cases h0 : q.qid = 0 <;>
        simp only [State.runAdmin, ← hst, h, bne_self_eq_false, Bool.false_eq_true, if_false, if_true, hq, h0, State.done]
  · intro t st r x s u hx hst hrun
    simp only [exec_eventRingSetup, execEventRingSetup, hx]
    exact State.runAdmin_eq hst hrun
  · intro s e
    refine ⟨fun h => ?_, fun h hf => ?_, fun h hf => ?_⟩
    · simp only [State.eventRing, h, if_true]
    · simp only [State.eventRing, h, if_false, hf, Bool.not_false, if_true]
    · simp only [State.eventRing, h, if_false, hf, Bool.not_true, Bool.false_eq_true]

end

section

open Sys2Proof Sys2Proof.Machine

/-- Settles O33: each command of queue 0 by its check, its transfer and its buffer, and what it does once they pass. -/
theorem adminCommandsRunTheirEffect : Obligations.AdminCommandsRunTheirEffect := by
  unfold Obligations.AdminCommandsRunTheirEffect
  refine ⟨?_, ?_, ?_, ?_, ?_, ?_, ?_, ?_, ?_, ?_, ?_⟩
  · intro t h a fail v ok s
    refine ⟨fun h => ?_, fun h => ?_, fun h => ?_, fun h => ?_, fun h => ?_, fun h => ?_, fun h => ?_, fun h => ?_⟩
    · simp only [exec_identify, execIdentify, h]
    · simp only [exec_dictRead, execDictRead, h]
    · simp only [exec_dictWrite, execDictWrite, h]
    · simp only [exec_fwDownload, execFwDownload, h]
    · simp only [exec_fwCommit, execFwCommit, h]
    · simp only [exec_fwCommitTrial, execFwCommitTrial, h]
    · simp only [exec_fwCommitBootLoader, execFwCommitBootLoader, h]
    · simp only [exec_fwActivate, execFwActivate, h]
  · intro t st h x s hx hst
    simp only [exec_identify, execIdentify, hx, ← hst, bne_iff_ne, State.done, Bool.not_eq_true', apply_ite Host.Outcome.next]
  · intro t st r h v x s hx hst hread
    simp only [exec_dictRead, execDictRead, hx, ← hst, hread, bne_iff_ne, State.done, Bool.not_eq_true', Bool.and_eq_true,
      decide_eq_true_eq, apply_ite Host.Outcome.next]
  · intro t st r h a x s v u w hx hst hv hwrite hw
    simp only [exec_dictWrite, execDictWrite, hx, ← hst, ← hv, hwrite, ← hw, bne_iff_ne, State.done, Bool.not_eq_true',
      apply_ite Host.Outcome.next]
  · intro t st r h fail x s v u hx hst hv hload
    simp only [exec_fwDownload, execFwDownload, hx, ← hst, ← hv, hload, bne_iff_ne, State.done, Bool.not_eq_true',
      apply_ite Host.Outcome.next]
  · intro t st v ok x s hx hst
    simp only [exec_fwCommit, execFwCommit, hx, ← hst, bne_iff_ne, State.done, apply_ite Host.Outcome.next]
  · intro t st v ok x s hx hst
    simp only [exec_fwCommitTrial, execFwCommitTrial, hx, ← hst, bne_iff_ne, State.done, apply_ite Host.Outcome.next]
  · intro act v ok x s h
    simp only [State.fwCommit, h]
  · intro act v ok good x i s u w hi hcommit hw
    simp only [State.fwCommit, hi, hcommit, ← hw, bne_iff_ne, Bool.not_eq_true']
  · intro t st v x s hx hst
    refine ⟨fun h => ?_, fun h hbad => ?_, fun h hok i u hi hu => ?_⟩
    · simp only [exec_fwCommitBootLoader, execFwCommitBootLoader, hx, ← hst, bne_iff_ne, ne_eq, h, not_false_eq_true, if_true, State.done]
    · cases hi : s.downloaded with
      | none => simp only [exec_fwCommitBootLoader, execFwCommitBootLoader, hx, ← hst, h, bne_self_eq_false, Bool.false_eq_true, if_false,
          hi, State.done]
      | some i =>
        have hc : s.commitStatus 2 v ≠ 0 := by simpa [hi] using hbad
        simp only [exec_fwCommitBootLoader, execFwCommitBootLoader, hx, ← hst, h, bne_self_eq_false, Bool.false_eq_true, if_false, hi,
          bne_iff_ne, ne_eq, hc, not_false_eq_true, if_true, State.done]
    · simp only [exec_fwCommitBootLoader, execFwCommitBootLoader, hx, ← hst, h, bne_self_eq_false, Bool.false_eq_true, if_false, hi, hok,
        ← hu, State.done]
  · intro t st x s u hx hst hu
    simp only [exec_fwActivate, execFwActivate, hx, ← hst, bne_iff_ne, ← hu, State.done, apply_ite Host.Outcome.next]

/-- Settles O34: an activation by its step and what it waits for, a trial by the bank that runs, an ABORT by what its target does. -/
theorem activationsRunTheirEffect : Obligations.ActivationsRunTheirEffect := by
  unfold Obligations.ActivationsRunTheirEffect
  refine ⟨?_, ?_, ?_, ?_, ?_, ?_, ?_, ?_, ?_, ?_, ?_, ?_⟩
  · intro s h
    simp only [exec_activationFetchStop, execActivationFetchStop, exec_activationSwitch, execActivationSwitch, h, and_self]
  · intro a s u ha hu
    simp only [exec_activationFetchStop, execActivationFetchStop, ha, ← hu, Bool.or_eq_true, bne_iff_ne, Option.isNone_iff_eq_none]
  · intro a s ha h
    have hoff : (a.step != 2 || !s.activationReady a) = true := by simpa using h
    simp only [exec_activationSwitch, execActivationSwitch, ha, hoff, if_true]
  · intro a found s u v ha h2 hr hfound hu hv
    cases hi : s.imageOf s.downloadBank <;> rw [hi] at hfound <;> simp only at hfound <;> subst hfound <;>
      simp only [exec_activationSwitch, execActivationSwitch, ha, h2, hr, bne_self_eq_false, Bool.not_true, Bool.or_self,
        Bool.false_eq_true, if_false, hi, ← hu, ← hv, State.done]
  · intro s
    simp only [exec_trialConfirm, execTrialConfirm, State.confirmTrial, Bool.and_eq_true, Bool.not_eq_true', bne_iff_ne, decide_eq_true_eq,
      and_assoc]
  · intro q t s h
    simp only [exec_abort, execAbort, exec_abortResolve, execAbortResolve, h, and_self]
  · intro q t st x s hx hst
    simp only [exec_abort, execAbort, hx, ← hst, bne_iff_ne, Bool.or_eq_true, Bool.and_eq_true, State.done, apply_ite Host.Outcome.next]
  · intro q t x s hx
    simp only [exec_abortResolve, execAbortResolve, hx, bne_iff_ne, Bool.or_eq_true, State.done, apply_ite Host.Outcome.next,
      apply_ite State.settled]
  · intro x s h
    simp only [State.abortResolve, h]
  · intro x p s hp
    refine ⟨fun hn => ?_, fun hn hq ht => ?_, fun hn hne hs => ?_⟩
    · simp only [State.abortResolve, hp, hn, if_true]
    · have hself : (decide (abortQid x.entry = x.qid) && decide (abortTag x.entry = x.tag)) = true := by simp [hq, ht]
      simp only [State.abortResolve, hp, hn, hself, Bool.false_eq_true, if_false, if_true]
    · have hself : (decide (abortQid x.entry = x.qid) && decide (abortTag x.entry = x.tag)) = false := by
        obtain h | h := hne <;> simp [h]
      simp only [State.abortResolve, hp, hn, hself, hs, Bool.false_eq_true, if_false]
  · intro x y p s hp hn hne hs
    have hself : (decide (abortQid x.entry = x.qid) && decide (abortTag x.entry = x.tag)) = false := by
      obtain h | h := hne <;> simp [h]
    refine ⟨fun ho => ?_, fun ho hc => ?_, fun ho h0 hc z hz => ?_⟩
    · simp only [State.abortResolve, hp, hn, hself, hs, Bool.false_eq_true, if_false, ho, if_true]
    · have hlate : (decide (abortQid x.entry = 0) || s.committed y) = true := by simpa using hc
      simp only [State.abortResolve, hp, hn, hself, hs, Bool.false_eq_true, if_false, ho, hlate, if_true]
    · simp only [State.abortResolve, hp, hn, hself, hs, Bool.false_eq_true, if_false, ho, h0, hc, decide_false, Bool.or_self, hz]
  · exact fun x s => rfl

end

section

open Sys2Proof Sys2Proof.Machine

/-- Settles O35: a command that changes objects by its check, by what stands against it, and by what it waits for. -/
theorem objectWritesRunTheirEffect : Obligations.ObjectWritesRunTheirEffect := by
  unfold Obligations.ObjectWritesRunTheirEffect
  refine ⟨?_, ?_, ?_, ?_, ?_, ?_, ?_, ?_, ?_, ?_, ?_, ?_⟩
  · intro q t h ends s
    refine ⟨fun h => ?_, fun h => ?_, fun h => ?_, fun h => ?_, fun h => ?_⟩
    · simp only [exec_putSegment, execPutSegment, h]
    · simp only [exec_seal, execSeal, h]
    · simp only [exec_delete, execDelete, h]
    · simp only [exec_setRetention, execSetRetention, h]
    · simp only [exec_flush, execFlush, exec_flushComplete, execFlushComplete, h, and_self]
  · intro q t st h x s v hx hst hv
    simp only [exec_putSegment, execPutSegment, hx, ← hst, ← hv, bne_iff_ne, Bool.not_eq_true', State.done, apply_ite Host.Outcome.next]
  · intro x data s h
    simp only [State.putCommit, h]
  · intro x data slots s u h hu
    simp only [State.putCommit, h, ← hu, bne_iff_ne]
  · exact fun s => rfl
  · intro q t st h ends x s hx hst
    refine ⟨fun h => ?_, fun h hv => ?_⟩
    · simp only [exec_seal, execSeal, hx, ← hst, bne_iff_ne, ne_eq, h, not_false_eq_true, if_true, State.done]
    · simp only [exec_seal, execSeal, hx, ← hst, h, bne_self_eq_false, Bool.false_eq_true, if_false, hv, State.done]
  · intro q t st1 h ends x v bs s u hx hst hv hread
    simp only [exec_seal, execSeal, hx, hst, bne_self_eq_false, Bool.false_eq_true, if_false, hv, hread, State.done, bne_iff_ne, gt_iff_lt,
      Bool.and_eq_true, Bool.or_eq_true, Bool.not_eq_true', decide_eq_true_eq, apply_ite Host.Outcome.next]
  · intro q t st h x s hx hst
    refine ⟨fun h => ?_, fun h hv => ?_, fun h v hv => ?_⟩
    · simp only [exec_delete, execDelete, hx, ← hst, bne_iff_ne, ne_eq, h, not_false_eq_true, if_true, State.done]
    · simp only [exec_delete, execDelete, hx, ← hst, h, bne_self_eq_false, Bool.false_eq_true, if_false, hv, State.done]
    · simp only [exec_delete, execDelete, hx, ← hst, h, bne_self_eq_false, Bool.false_eq_true, if_false, hv, State.done,
        apply_ite Host.Outcome.next]
  · intro q t st h x s hx hst
    refine ⟨fun h => ?_, fun h hv => ?_, fun h v hv => ⟨fun hz => ?_, fun hz u0 r0 n0 hl hle => ?_, fun hz hl => ?_⟩⟩
    · simp only [exec_setRetention, execSetRetention, hx, ← hst, bne_iff_ne, ne_eq, h, not_false_eq_true, if_true, State.done]
    · simp only [exec_setRetention, execSetRetention, hx, ← hst, h, bne_self_eq_false, Bool.false_eq_true, if_false, hv, State.done]
    · simp only [exec_setRetention, execSetRetention, hx, ← hst, h, bne_self_eq_false, Bool.false_eq_true, if_false, hv, hz,
        Option.isNone_none, if_true, State.done]
    · have hsealed : v.sealed.isNone = false := Option.isNone_eq_false_iff.mpr (Option.isSome_iff_ne_none.mpr hz)
      simp only [exec_setRetention, execSetRetention, hx, ← hst, h, bne_self_eq_false, Bool.false_eq_true, if_false, hv, hsealed, hl,
        hle, decide_true, if_true, State.done]
    · have hsealed : v.sealed.isNone = false := Option.isNone_eq_false_iff.mpr (Option.isSome_iff_ne_none.mpr hz)
      simp only [exec_setRetention, execSetRetention, hx, ← hst, h, bne_self_eq_false, Bool.false_eq_true, if_false, hv, hsealed, State.done]
      cases hlock : v.lock with
      | none => simp only [Bool.false_eq_true, if_false]
      | some l =>
        obtain ⟨u0, r0, n0⟩ := l
        simp only [Nat.not_le.mpr (hl u0 r0 n0 hlock), decide_false, Bool.false_eq_true, if_false]
  · intro q t st h x s hx hst
    simp only [exec_flush, execFlush, hx, ← hst, bne_iff_ne, State.done, apply_ite Host.Outcome.next]
  · intro q t x s hx h
    by_cases h3 : x.stage = 3
    · have hn : s.flushOutcome x.order = none := by simpa [h3] using h
      simp only [exec_flushComplete, execFlushComplete, hx, h3, bne_self_eq_false, Bool.false_eq_true, if_false, hn]
    · simp only [exec_flushComplete, execFlushComplete, hx, bne_iff_ne, ne_eq, h3, not_false_eq_true, if_true]
  · intro q t st x left s hx h3 ho hleft
    simp only [exec_flushComplete, execFlushComplete, hx, h3, bne_self_eq_false, Bool.false_eq_true, if_false, ho, ← hleft, State.done,
      Bool.or_eq_true, List.isEmpty_iff, decide_eq_true_eq, apply_ite Host.Outcome.next]

/-- Settles O36: a command that reads objects by its check, by the version it finds, and by what is out of reach. -/
theorem objectReadsRunTheirEffect : Obligations.ObjectReadsRunTheirEffect := by
  unfold Obligations.ObjectReadsRunTheirEffect
  refine ⟨?_, ?_, ?_, ?_, ?_, ?_, ?_, ?_, ?_⟩
  · intro q t l h s
    refine ⟨fun h => ?_, fun h => ?_, fun h => ?_, fun h => ?_⟩
    · simp only [exec_getRange, execGetRange, h]
    · simp only [exec_stat, execStat, h]
    · simp only [exec_list, execList, h]
    · simp only [exec_verify, execVerify, h]
  · intro q t st h x s hx hst
    refine ⟨fun h => ?_, fun h hv => ?_⟩
    · simp only [exec_getRange, execGetRange, hx, ← hst, bne_iff_ne, ne_eq, h, not_false_eq_true, if_true, State.done]
    · simp only [exec_getRange, execGetRange, hx, ← hst, h, bne_self_eq_false, Bool.false_eq_true, if_false, hv, State.done]
  · intro q t off n st1 h x v bs s u hx hst hv hoff hn hread
    simp only [exec_getRange, execGetRange, hx, hst, bne_self_eq_false, Bool.false_eq_true, if_false, hv, ← hoff, ← hn, hread, State.done,
      bne_iff_ne, gt_iff_lt, Bool.not_eq_true', apply_ite Host.Outcome.next]
  · intro q t st h x s hx hst
    refine ⟨fun h => ?_, fun h hv => ?_, fun h v hv => ?_⟩
    · simp only [exec_stat, execStat, hx, ← hst, bne_iff_ne, ne_eq, h, not_false_eq_true, if_true, State.done]
    · simp only [exec_stat, execStat, hx, ← hst, h, bne_self_eq_false, Bool.false_eq_true, if_false, hv, State.done]
    · simp only [exec_stat, execStat, hx, ← hst, h, bne_self_eq_false, Bool.false_eq_true, if_false, hv, State.done, Bool.not_eq_true',
        apply_ite Host.Outcome.next]
  · intro q t st cookie h x s hx hst hcookie
    refine ⟨fun h => ?_, fun h hc hn => ?_, fun h hc ht => ?_⟩
    · simp only [exec_list, execList, hx, ← hst, bne_iff_ne, ne_eq, h, not_false_eq_true, if_true, State.done]
    · have hstale : (cookie != 0 && (s.obj.cookies.find? (fun c => c.id == cookie)).isNone) = true := by simp [hc, hn]
      simp only [exec_list, execList, hx, ← hst, h, bne_self_eq_false, Bool.false_eq_true, if_false, ← hcookie, hstale, if_true, State.done]
    · have hgood : (cookie != 0 && (s.obj.cookies.find? (fun c => c.id == cookie)).isNone) = false := by
        obtain hc | hc := hc
        · simp [hc]
        · rw [Option.isNone_eq_false_iff.mpr (Option.isSome_iff_ne_none.mpr hc), Bool.and_false]
      simp only [exec_list, execList, hx, ← hst, h, bne_self_eq_false, Bool.false_eq_true, if_false, ← hcookie, hgood, ht, Bool.not_false,
        if_true, State.done]
  · intro q t cookie next h x all now bytes s a u hx hst hcookie hc ht hall hnow ha hnext hu hbytes
    have hgood : (cookie != 0 && (s.obj.cookies.find? (fun c => c.id == cookie)).isNone) = false := by
      obtain hc | hc := hc
      · simp [hc]
      · rw [Option.isNone_eq_false_iff.mpr (Option.isSome_iff_ne_none.mpr hc), Bool.and_false]
    have hcookies : a.obj.nextCookie = s.obj.nextCookie := by rw [ha]
    rw [hcookies] at hnext
    cases hlast : now.getLast? <;> rw [hlast] at hu <;> simp only at hu <;>
      simp only [exec_list, execList, hx, hst, bne_self_eq_false, Bool.false_eq_true, if_false, ← hcookie, hgood, ht, Bool.not_true,
        ← hall, ← hnow, ← ha, ← hnext, hlast, ← hbytes, State.done]
    · rw [← hu]
    · rw [← hu]
  · intro q t st l h x s hx hst
    refine ⟨fun h => ?_, fun h hv => ?_, fun h v hv hz => ?_⟩
    · simp only [exec_verify, execVerify, hx, ← hst, bne_iff_ne, ne_eq, h, not_false_eq_true, if_true, State.done]
    · simp only [exec_verify, execVerify, hx, ← hst, h, bne_self_eq_false, Bool.false_eq_true, if_false, hv, State.done]
    · simp only [exec_verify, execVerify, hx, ← hst, h, bne_self_eq_false, Bool.false_eq_true, if_false, hv, hz, State.done]
  · intro q t l st1 h x v z bs s u hx hst hv hz hread
    simp only [exec_verify, execVerify, hx, hst, bne_self_eq_false, Bool.false_eq_true, if_false, hv, hz, hread, State.done, bne_iff_ne,
      apply_ite Host.Outcome.next]
  · exact fun s => rfl

/-- Settles O37: a channel by its state, by the check of its run, and by how far it gets. -/
theorem dmaCommandsRunTheirEffect : Obligations.DmaCommandsRunTheirEffect := by
  unfold Obligations.DmaCommandsRunTheirEffect
  refine ⟨?_, ?_, ?_, ?_, ?_, ?_, ?_, ?_, ?_, ?_, ?_, ?_⟩
  · intro n srcL dstL ok s h
    have hoff : (decide (32 ≤ n) || decide (s.getF (Fld.DMA_STAT_STATE n) = 1) || decide (s.getF (Fld.DMA_STAT_STATE n) = 4) ||
        decide (s.getF (Fld.DMA_CTL_OP n) = 3)) = true := by simpa [or_assoc] using h
    simp only [exec_dmaGo, execDmaGo, ge_iff_le, hoff, if_true]
  · intro n code srcL dstL ok p s hn h1 h4 h3 hp hsg hcode
    have hon : (decide (32 ≤ n) || decide (s.getF (Fld.DMA_STAT_STATE n) = 1) || decide (s.getF (Fld.DMA_STAT_STATE n) = 4) ||
        decide (s.getF (Fld.DMA_CTL_OP n) = 3)) = false := by simp [h1, h4, h3, hn]
    have hop : (p.op == 1) = decide (p.op = 1) := rfl
    rw [hop] at hcode
    simp only [exec_dmaGo, execDmaGo, ge_iff_le, hon, Bool.false_eq_true, if_false, ← hp, hsg, Bool.not_false, Bool.true_or, if_true,
      Bool.and_not_self, ← hcode, Bool.false_and, bne_iff_ne]
  · intro n code sn dn srcL dstL ok p0 p s u hn h1 h4 h3 hp0 hsg hsn hdn hu hp hcode
    have hon : (decide (32 ≤ n) || decide (s.getF (Fld.DMA_STAT_STATE n) = 1) || decide (s.getF (Fld.DMA_STAT_STATE n) = 4) ||
        decide (s.getF (Fld.DMA_CTL_OP n) = 3)) = false := by simp [h1, h4, h3, hn]
    have hop : (p0.op == 1) = decide (p0.op = 1) := rfl
    rw [hop] at hcode
    refine ⟨fun hd hd' => ?_, fun hd v hv => ?_⟩
    · simp only [exec_dmaGo, execDmaGo, ge_iff_le, hon, Bool.false_eq_true, if_false, ← hp0, hsg, Bool.not_true, Bool.false_or, ← hsn,
        ← hdn, ← hu, hd, hd', Bool.not_false, Bool.and_self, if_true]
    · have hgo : (s.boot.slateDone && !u.boot.slateDone) = false := by obtain h | h := hd <;> simp [h]
      simp only [exec_dmaGo, execDmaGo, ge_iff_le, hon, Bool.false_eq_true, if_false, ← hp0, hsg, Bool.not_true, Bool.false_or, ← hsn,
        ← hdn, ← hu, hgo, if_true, ← hp, ← hcode, Bool.true_and, ite_bnot, ← hv, bne_iff_ne]
  · intro n x s h
    cases hr : s.dmaRun n with
    | none => simp only [exec_dmaDone, execDmaDone, hr]
    | some r =>
      have h1 : s.getF (Fld.DMA_STAT_STATE n) ≠ 1 := by simpa [hr] using h
      simp only [exec_dmaDone, execDmaDone, hr, bne_iff_ne, ne_eq, h1, not_false_eq_true, if_true]
  · intro n x all r s u hr h1 hu
    simp only [exec_dmaDone, execDmaDone, hr, h1, bne_self_eq_false, Bool.false_eq_true, if_false, hu]
  · intro n l cause onDst x more s h
    rw [exec_dmaHalt, execDmaHalt, State.dmaFails]
    cases hr : s.dmaRun n with
    | none => rfl
    | some r =>
      have h1 : s.getF (Fld.DMA_STAT_STATE n) ≠ 1 := by simpa [hr] using h
      simp only [bne_iff_ne.mpr h1, Bool.true_or, if_true]
  · intro n l cause onDst all x more r s u hr h1 hu
    simp only [exec_dmaHalt, execDmaHalt, State.dmaFails, hr, h1, bne_self_eq_false, Bool.false_or, ge_iff_le, Bool.or_eq_true,
      decide_eq_true_eq, hu]
  · intro n l x error s h
    cases hr : s.dmaRun n with
    | none => simp only [exec_dmaAbort, execDmaAbort, hr]
    | some r =>
      have h14 : s.getF (Fld.DMA_STAT_STATE n) ≠ 1 ∧ s.getF (Fld.DMA_STAT_STATE n) ≠ 4 := by simpa [hr] using h
      simp only [exec_dmaAbort, execDmaAbort, hr, h14.2, if_false, bne_iff_ne, ne_eq, h14.1, not_false_eq_true, if_true]
  · intro n l x error r s hr h4
    simp only [exec_dmaAbort, execDmaAbort, hr, h4, if_true]
  · intro n l x r s u hr h1
    have h4 : ¬ 1 = 4 := by decide
    refine ⟨fun hu => ⟨?_, fun onDst cause => ?_⟩, fun hu error => ?_⟩
    · simp only [exec_dmaAbort, execDmaAbort, hr, h1, h4, bne_self_eq_false, Bool.false_eq_true, if_false, hu, Bool.not_true]
    · simp only [exec_dmaAbort, execDmaAbort, hr, h1, h4, bne_self_eq_false, Bool.false_eq_true, if_false, hu, Bool.not_true]
    · simp only [exec_dmaAbort, execDmaAbort, hr, h1, h4, bne_self_eq_false, Bool.false_eq_true, if_false, hu, Bool.not_false, if_true]
  · intro n s
    simp only [exec_dmaResume, execDmaResume, Bool.and_eq_true, decide_eq_true_eq]
  · intro n s
    simp only [exec_dmaStall, execDmaStall, Bool.and_eq_true, decide_eq_true_eq]

/-- Settles O38: the port by its module, its reference and its link, and an answer by the address asked. -/
theorem ethernetPortRunsItsEffect : Obligations.EthernetPortRunsItsEffect := by
  unfold Obligations.EthernetPortRunsItsEffect
  refine ⟨?_, ?_, ?_, ?_, ?_⟩
  · intro present mode s u hu
    simp only [exec_modulePresenceChange, execModulePresenceChange, ← hu, Bool.and_eq_true, decide_eq_true_eq, bne_iff_ne, and_assoc]
  · intro s u hu
    simp only [exec_ethLinkChange, execEthLinkChange, Bool.not_false, if_true, State.ethDown, ← hu]
  · intro s
    simp only [exec_ethLinkChange, execEthLinkChange, Bool.not_true, Bool.false_eq_true, if_false, Bool.and_eq_true, Bool.not_eq_true',
      decide_eq_true_eq, bne_iff_ne, and_assoc, ← Bool.not_eq_true]
  · intro dst target s
    simp only [exec_neighborSolicitation, execNeighborSolicitation, Bool.and_eq_true, Bool.or_eq_true, decide_eq_true_eq, and_assoc]
  · intro dst body s
    simp only [exec_echoRequest, execEchoRequest, Bool.and_eq_true]

end

section
/-!
SUPPORT. Migration: a HELLO that goes out leaves its phase in MIG_STATUS.TX (R545, R551).
-/
namespace Sys2Proof.Machine
open Sys2Proof

@[simp] theorem State.sendMsg_regs (s : State) (slot type session pseq : Nat) (body : List Byte) :
    (s.sendMsg slot type session pseq body).regs = s.regs := by
  unfold State.sendMsg State.sendTo
  split <;> rfl

/-- MIG_STATUS.TX shows the phase of the sender's session. -/
theorem State.setMig_phase (s : State) (m : Mig) (t : MigTx) (h : m.tx = some t) : (s.setMig m).getF Fld.MIG_STATUS_TX = t.phase % 8 := by
  simp only [State.setMig, h]
  rw [State.getF_setF_same _ _ _ (by decide)]
  rfl

/-- A HELLO that goes out shows its phase in MIG_STATUS.TX. -/
theorem State.sendHello_phase (s : State) (t : MigTx) (session : Nat) (ns : List Byte) (phase : Nat) (hr : s.lcm.rngBad = false)
    (hs : session % 2 ^ 32 ≠ 0) : (s.sendHello t session ns phase).getF Fld.MIG_STATUS_TX = phase % 8 := by
  have hgo : (s.lcm.rngBad || decide (session % 2 ^ 32 = 0)) = false := by simp only [hr, hs, decide_false, Bool.or_self]
  simp only [State.sendHello, hgo, Bool.false_eq_true, if_false]
  rw [State.getF_congr (State.sendMsg_regs ..)]
  split
  · rw [State.getF_congr (State.emit_regs ..), State.setMig_phase _ _ _ rfl]
  · rw [State.setMig_phase _ _ _ rfl]

/-- A MIGRATE to the peer of slot 1 that is about to open its session. -/
def MigTx.first : MigTx :=
  { qid := 0, tag := 0, slot := 1, key := 0, bits := 0, limit := 0, phase := 1, session := 0, ns := [], ks := [],
    next := startPos 0 0, back := startPos 0 0, taken := 0, done := 0, abort := false, offers := [], nextObj := 1, ackBase := 1,
    window := 0, nextSeq := 1, unacked := [], late := [] }

end Sys2Proof.Machine

open Sys2Proof Sys2Proof.Machine

/-- Refutes O39: the clause on `sendHello` keeps every register, yet a HELLO records its phase in MIG_STATUS.TX. Out of reset TX reads 0,
and a HELLO of phase 1 leaves 1 there. -/
theorem not_migrationHandshakeRunsItsEffect : ¬ Obligations.MigrationHandshakeRunsItsEffect := by
  unfold Obligations.MigrationHandshakeRunsItsEffect
  rintro ⟨-, -, -, -, -, -, -, -, -, hello, -⟩
  obtain ⟨t1, u, -, -, -, -, -, hregs, -, heq⟩ := hello 1 1 [] MigTx.first State.reset rfl (by decide)
  have hsent := State.sendHello_phase State.reset MigTx.first 1 [] 1 rfl (by decide)
  rw [heq, State.getF_congr (State.sendMsg_regs ..), State.getF_congr hregs] at hsent
  exact absurd hsent (by decide)

end

section

open Sys2Proof Sys2Proof.Machine

/-- Settles O40: each datagram of an established session by what it names and by its window, and each timer by what is unanswered. -/
theorem migrationTrafficRunsItsEffect : Obligations.MigrationTrafficRunsItsEffect := by
  unfold Obligations.MigrationTrafficRunsItsEffect
  refine ⟨?_, ?_, ?_, ?_, ?_, ?_, ?_, ?_, ?_, ?_, ?_, ?_, ?_, ?_, ?_⟩
  · intro d s hg
    refine ⟨?_, ?_, ?_, ?_, ?_⟩
    · rintro (h | h | ⟨r, hr, he⟩)
      · simp only [exec_offer, execOffer, State.migGate_running hg, h, Bool.not_false, if_true]
      · simp only [exec_offer, execOffer, State.migGate_running hg, h, ite_self]
      · simp only [exec_offer, execOffer, State.migGate_running hg, hr, he, Bool.not_false, if_true, ite_self]
    · rintro (h | h | ⟨r, hr, he⟩)
      · simp only [exec_data, execData, State.migGate_running hg, h, Bool.not_false, if_true]
      · simp only [exec_data, execData, State.migGate_running hg, h, ite_self]
      · simp only [exec_data, execData, State.migGate_running hg, hr, he, Bool.not_false, if_true, ite_self]
    · rintro (h | h | ⟨r, hr, he⟩)
      · simp only [exec_keepalive, execKeepalive, State.migGate_running hg, h, Bool.not_false, if_true]
      · simp only [exec_keepalive, execKeepalive, State.migGate_running hg, h, ite_self]
      · simp only [exec_keepalive, execKeepalive, State.migGate_running hg, hr, he, Bool.false_eq_true, if_false, ite_self]
    · rintro (h | h | ⟨t, ht, h2, h3⟩)
      · simp only [exec_sack, execSack, State.migGate_running hg, h, Bool.not_false, if_true]
      · simp only [exec_sack, execSack, State.migGate_running hg, h, ite_self]
      · simp only [exec_sack, execSack, State.migGate_running hg, ht, bne_iff_ne.mpr h2, bne_iff_ne.mpr h3, Bool.and_self, if_true, ite_self]
    · rintro (h | h | ⟨t, ht, h2, h3⟩)
      · simp only [exec_result, execResult, State.migGate_running hg, h, Bool.not_false, if_true]
      · simp only [exec_result, execResult, State.migGate_running hg, h, ite_self]
      · simp only [exec_result, execResult, State.migGate_running hg, ht, bne_iff_ne.mpr h2, bne_iff_ne.mpr h3, Bool.and_self, if_true,
          ite_self]
  · intro d r b o s hg ht hr he hb ho
    refine ⟨fun hm => ?_, fun hm hf => ?_, fun hm x hf => ?_⟩
    · simp only [exec_offer, execOffer, State.migGate_running hg, ht, Bool.not_true, Bool.false_eq_true, if_false, hr, he, ← hb,
        bne_iff_ne.mpr hm, if_true]
    · simp only [exec_offer, execOffer, State.migGate_running hg, ht, Bool.not_true, Bool.false_eq_true, if_false, hr, he, ← hb,
        hm, bne_self_eq_false, ← ho, hf, State.done]
    · simp only [exec_offer, execOffer, State.migGate_running hg, ht, Bool.not_true, Bool.false_eq_true, if_false, hr, he, ← hb,
        hm, bne_self_eq_false, ← ho, hf]
  · intro d r s hg ht hr he
    refine ⟨fun h => ?_, fun hw hn => ?_, fun hb hn h => ?_⟩
    · have hagain : (decide (dPseq d < r.base) || r.got.contains (dPseq d)) = true := by simpa using h
      simp only [exec_data, execData, State.migGate_running hg, ht, Bool.not_true, Bool.false_eq_true, if_false, hr, he, hagain, if_true]
    · have hnew : (decide (dPseq d < r.base) || r.got.contains (dPseq d)) = false := by
        simpa [hn] using (Nat.le_add_right _ _).trans hw
      simp only [exec_data, execData, State.migGate_running hg, ht, Bool.not_true, Bool.false_eq_true, if_false, hr, he, hnew, ge_iff_le, hw,
        if_true]
    · have hnew : (decide (dPseq d < r.base) || r.got.contains (dPseq d)) = false := by simpa [hn] using hb
      simp only [exec_data, execData, State.migGate_running hg, ht, Bool.not_true, Bool.false_eq_true, if_false, hr, he, hnew]
      obtain h | h := h
      · rw [h]
        exact ite_self _
      · rw [h]
        cases r.find (numAt (dBody d) 0 4) <;> exact ite_self _
  · intro d r r1 o slot base l got s u v hg ht hr he hb hn hw hf hs hadv hr1 hu hv
    rw [he] at hr1
    have hnew : (decide (dPseq d < r.base) || r.got.contains (dPseq d)) = false := by simpa [hn] using hb
    cases hx : u.mig.rx.find? (fun (x : MigRx) => x.slot = r.slot) <;> rw [hx] at hv <;> simp only at hv <;>
      simp only [exec_data, execData, State.migGate_running hg, ht, Bool.not_true, Bool.false_eq_true, if_false, hr, he, hnew, ge_iff_le,
        Nat.not_le.mpr hw, hf, hs, hadv, ← hr1, ← hu, hx]
    · simp only [← hv, State.done, apply_ite Host.Outcome.next]
    · have hv : v = if (decide (16 ≤ _) || dPseq d != _) = true then _ else u := hv.trans (by
        simp only [Bool.or_eq_true, decide_eq_true_eq, bne_iff_ne, ge_iff_le]; rfl)
      simp only [← hv, State.done, apply_ite Host.Outcome.next]
  · intro p obj s hg h
    rw [exec_receiveDurable, execReceiveDurable, State.migGate_running hg]
    cases hr : s.mig.rx.find? (fun r => r.slot = p) with
    | none => rfl
    | some r =>
      cases ho : r.find obj with
      | none => simp only [ho]
      | some o => simp only [ho, bne_iff_ne.mpr (h r o hr ho), if_true]
  · intro p obj failed r o s a b hg hr ho h2 hfailed ha hb
    cases hv : s.version o.key o.ver <;> rw [hv] at ha <;> simp only at ha <;>
      simp only [exec_receiveDurable, execReceiveDurable, State.migGate_running hg, hr, ho, h2, bne_self_eq_false, Bool.false_eq_true,
        if_false, ← hfailed, hv, ← hb, Bool.or_eq_true, Bool.not_eq_true', State.done, apply_ite Host.Outcome.next] <;>
      rw [← ha]
  · intro d base t t1 lost s hg ht hx hp hbase ht1 hlost
    have hphase : (t.phase != 2 && t.phase != 3) = false := by obtain h | h := hp <;> simp [h]
    simp only [exec_sack, execSack, State.migGate_running hg, ht, Bool.not_true, Bool.false_eq_true, if_false, hx, hphase, ← hbase, ← ht1,
      State.done]
    rw [hlost, ht1]
  · intro d t b at_ s hg ht hx hp hb hat
    have hphase : (t.phase != 2 && t.phase != 3) = false := by obtain h | h := hp <;> simp [h]
    refine ⟨fun hm => ?_, fun hm hf => ?_, fun hm o hf hcode => ?_⟩
    · rw [hat]
      cases ho : (t.offers.find? (fun o => o.obj = numAt b 0 4)).orElse (fun _ => t.offers.head?) <;>
        simp only [exec_result, execResult, State.migGate_running hg, ht, Bool.not_true, Bool.false_eq_true, if_false, hx, hphase, ← hb, ho,
          bne_iff_ne.mpr hm, if_true, State.done]
    · simp only [exec_result, execResult, State.migGate_running hg, ht, Bool.not_true, Bool.false_eq_true, if_false, hx, hphase, ← hb,
        hm, bne_self_eq_false, hf]
    · rw [hf] at hat
      simp only [Option.orElse_some] at hat
      simp only [exec_result, execResult, State.migGate_running hg, ht, Bool.not_true, Bool.false_eq_true, if_false, hx, hphase, ← hb,
        hm, bne_self_eq_false, hf, Option.orElse_some, ← hat, show ¬ numAt b 4 1 ≤ 1 by omega, Bool.or_eq_true, decide_eq_true_eq, State.done]
  · intro d t t1 b o s a u hg ht hx hp hb hm hf hcode ht1 ha hu
    have hphase : (t.phase != 2 && t.phase != 3) = false := by obtain h | h := hp <;> simp [h]
    simp only [exec_result, execResult, State.migGate_running hg, ht, Bool.not_true, Bool.false_eq_true, if_false, hx, hphase, ← hb,
      hm, bne_self_eq_false, hf, hcode, if_true, ← ht1, ← ha, ← hu, State.done, apply_ite Host.Outcome.next]
    rw [show t1.back = _ from congrArg MigTx.back ht1]
  · intro p s hg
    refine ⟨fun h => ?_, fun r h => ?_⟩
    · simp only [exec_sackTimer, execSackTimer, State.migGate_running hg, h]
    · simp only [exec_sackTimer, execSackTimer, State.migGate_running hg, h, gt_iff_lt, Bool.and_eq_true, decide_eq_true_eq]
  · intro pseq s hg
    simp only [exec_retransmitTimeout, execRetransmitTimeout, State.migGate_running hg, State.done]
  · intro pseq t u o sent s v hx hu ho hs
    simp only [State.resend, hx, hu, ho, hs]
  · intro pseq s h
    obtain h | ⟨t, hx, hu⟩ := h
    · simp only [State.resend, h]
    · simp only [State.resend, hx, hu]
  · intro s hg
    refine ⟨fun h => ?_, fun t h => ?_⟩
    · simp only [exec_keepaliveTimer, execKeepaliveTimer, State.migGate_running hg, h]
    · simp only [exec_keepaliveTimer, execKeepaliveTimer, State.migGate_running hg, h, Bool.or_eq_true, Bool.and_eq_true, decide_eq_true_eq]
  · intro d r s hg ht hr he
    simp only [exec_keepalive, execKeepalive, State.migGate_running hg, ht, Bool.not_true, Bool.false_eq_true, if_false, hr, he, if_true]

end

section

open Sys2Proof Sys2Proof.Machine

/-- Settles O41: what ends a MIGRATE at once, in the order of the checks, and what one that goes on does. -/
theorem migrateCommandsRunTheirEffect : Obligations.MigrateCommandsRunTheirEffect := by
  unfold Obligations.MigrateCommandsRunTheirEffect
  refine ⟨?_, ?_, ?_, ?_, ?_⟩
  · intro q t session h ns s hg
    refine ⟨?_, ?_⟩
    · rintro (hc | ⟨x, hc, hx⟩)
      · simp only [exec_migrate, execMigrate, State.migGate_running hg, hc]
      · have hx : (migToHost x.entry || decide (x.stage = 3)) = true := by simpa using hx
        simp only [exec_migrate, execMigrate, State.migGate_running hg, hc, hx, if_true]
    · rintro (hc | ⟨x, hc, hx⟩)
      · simp only [exec_migrateToHost, execMigrateToHost, State.migGate_running hg, hc]
      · simp only [exec_migrateToHost, execMigrateToHost, State.migGate_running hg, hc, hx, Bool.not_false, if_true]
  · intro q t session st h ns x s hg hc hx hstage hst
    have hpeer : (migToHost x.entry || decide (x.stage = 3)) = false := by simp [hx, hstage]
    refine ⟨fun h0 => ?_, fun h0 ht => ?_, fun h0 ht hp => ?_⟩ <;>
      simp only [exec_migrate, execMigrate, State.migGate_running hg, hc, hpeer, Bool.false_eq_true, if_false, ← hst]
    · simp only [bne_iff_ne.mpr h0, if_true, State.done]
    · simp only [h0, bne_self_eq_false, Bool.false_eq_true, if_false, ht, if_true]
    · simp only [h0, bne_self_eq_false, Bool.false_eq_true, if_false, ht, Option.isSome_none, hp, State.done]
  · intro q t session h ns x p s a hg hc hx hstage hst ht hp ha
    have hpeer : (migToHost x.entry || decide (x.stage = 3)) = false := by simp [hx, hstage]
    simp only [exec_migrate, execMigrate, State.migGate_running hg, hc, hpeer, Bool.false_eq_true, if_false, hst, bne_self_eq_false, ht,
      Option.isSome_none, hp, ← ha, Option.isNone_iff_eq_none, Bool.not_eq_true', List.isEmpty_iff, State.done,
      apply_ite Host.Outcome.next]
  · intro q t st h x s hg hc hx hst
    refine ⟨fun h0 => ?_, fun h0 ht => ?_, fun h0 ht hp => ?_⟩ <;>
      simp only [exec_migrateToHost, execMigrateToHost, State.migGate_running hg, hc, hx, Bool.not_true, Bool.false_eq_true, if_false, ← hst]
    · simp only [bne_iff_ne.mpr h0, if_true, State.done]
    · simp only [h0, bne_self_eq_false, Bool.false_eq_true, if_false, ht, if_true]
    · simp only [h0, bne_self_eq_false, Bool.false_eq_true, if_false, ht, Option.isSome_none, hp, State.done]
  · intro q t skip st1 n h x p l b stop s u w hg hc hx hst ht hp hl hskip hu hw
    simp only [exec_migrateToHost, execMigrateToHost, State.migGate_running hg, hc, hx, Bool.not_true, Bool.false_eq_true, if_false, hst,
      bne_self_eq_false, ht, Option.isSome_none, hp, ← hl]
    cases l <;> simp only at hskip <;>
      simp only [← hskip, hu, hw, State.done, apply_ite Host.Outcome.next, Bool.not_eq_true']

end

section
/-!
SUPPORT. A frame that reaches a node that serves GDP (R584, R587), case by case.
-/
namespace Sys2Proof.Machine
open Sys2Proof

variable {s : State} {cmd : Nat} {f : List Byte} {act : State → State}

theorem State.gdpFrame_silent (h : s.gdpServes = false) : s.gdpFrame cmd f act = s := by
  rw [State.gdpFrame, h]
  rfl

theorem State.gdpFrame_short (h : s.gdpServes = true) (hf : f.length ≠ 64) : s.gdpFrame cmd f act = s.bumpF Fld.CAN_CNT_ERRFRM 1 := by
  simp only [State.gdpFrame, h, Bool.not_true, Bool.false_eq_true, if_false, bne_iff_ne.mpr hf, if_true]

theorem State.gdpFrame_taken (h : s.gdpServes = true) (hf : f.length = 64) (hc : numAt f 0 1 = cmd) :
    s.gdpFrame cmd f act = act (s.stat 0x8010 1 1) := by
  simp only [State.gdpFrame, h, Bool.not_true, Bool.false_eq_true, if_false, hf, bne_self_eq_false, hc, if_true]

/-- A command of the list that is another one: another event, and this one does not occur. -/
theorem State.gdpFrame_other (h : s.gdpServes = true) (hf : f.length = 64) (hc : numAt f 0 1 ≠ cmd) (h1 : 1 ≤ numAt f 0 1)
    (h8 : numAt f 0 1 ≤ 8) : s.gdpFrame cmd f act = s := by
  simp only [State.gdpFrame, h, Bool.not_true, Bool.false_eq_true, if_false, hf, bne_self_eq_false, hc, h1, h8, decide_true, Bool.and_self,
    if_true]

theorem State.gdpFrame_unknown (h : s.gdpServes = true) (hf : f.length = 64) (hc : numAt f 0 1 ≠ cmd)
    (hu : numAt f 0 1 = 0 ∨ 8 < numAt f 0 1) : s.gdpFrame cmd f act =
      (s.stat 0x8010 1 1).gdpRespond (numAt f 0 1 ||| 0x80) (frTid f) (frIndex f) (frSub f) Dr.protocol [] := by
  have hlist : (decide (1 ≤ numAt f 0 1) && decide (numAt f 0 1 ≤ 8)) = false := by
    simp only [Bool.and_eq_false_iff, decide_eq_false_iff_not]
    omega
  simp only [State.gdpFrame, h, Bool.not_true, Bool.false_eq_true, if_false, hf, bne_self_eq_false, hc, hlist]

/-- What no command of the list does with a frame: it is not served, not whole, of another command, or of none. -/
theorem State.gdpFrame_common (s : State) (cmd : Nat) (f : List Byte) (act : State → State) (hcmd : 1 ≤ cmd ∧ cmd ≤ 8) :
    (s.gdpServes = false → Host.Outcome.next (s.gdpFrame cmd f act) = (.next s : Res)) ∧
    (s.gdpServes = true → f.length ≠ 64 → Host.Outcome.next (s.gdpFrame cmd f act) = (.next (s.bumpF Fld.CAN_CNT_ERRFRM 1) : Res)) ∧
    (s.gdpServes = true → f.length = 64 → numAt f 0 1 ≠ cmd → 1 ≤ numAt f 0 1 → numAt f 0 1 ≤ 8 →
      Host.Outcome.next (s.gdpFrame cmd f act) = (.next s : Res)) ∧
    (s.gdpServes = true → f.length = 64 → numAt f 0 1 = 0 ∨ 8 < numAt f 0 1 → Host.Outcome.next (s.gdpFrame cmd f act) =
      (.next ((s.stat 0x8010 1 1).gdpRespond (numAt f 0 1 ||| 0x80) (frTid f) (frIndex f) (frSub f) Dr.protocol []) : Res)) := by
  refine ⟨fun h => ?_, fun h hf => ?_, fun h hf hc h1 h8 => ?_, fun h hf hu => ?_⟩
  · rw [State.gdpFrame_silent h]
  · rw [State.gdpFrame_short h hf]
  · rw [State.gdpFrame_other h hf hc h1 h8]
  · rw [State.gdpFrame_unknown h hf (by omega) hu]

end Sys2Proof.Machine

open Sys2Proof Sys2Proof.Machine

/-- Settles O43: each command is the frame's one reading, and with a whole frame of its own its row of R588 to R591. -/
theorem gdpRequestsRunTheirEffect : Obligations.GdpRequestsRunTheirEffect := by
  unfold Obligations.GdpRequestsRunTheirEffect
  refine ⟨?_, ?_, ?_, ?_, ?_, ?_, ?_, ?_, ?_⟩
  · intro f a s p hp
    simp only [List.mem_cons, List.not_mem_nil, or_false] at hp
    obtain rfl | rfl | rfl | rfl | rfl | rfl | rfl | rfl := hp
    all_goals exact s.gdpFrame_common _ f _ (by decide)
  · intro f v c s t hs hf hc ht hr
    simp only [exec_read, execRead, State.gdpFrame_taken hs hf hc, ← ht, hr, Host.Outcome.next.injEq]
    by_cases hok : c = Dr.ok
    · by_cases hl : 56 < v.length
      · simp [hok, hl, Dr.ok, Dr.tooLong]
      · simp [hok, hl]
    · simp [hok]
  · intro f a c s t u hs hf hc ht hw
    simp only [exec_write, execWrite, State.gdpFrame_taken hs hf hc, ← ht, hw, gt_iff_lt]
  · intro f v c s t u hs hf hc ht hu hr
    simp only [exec_readInit, execReadInit, State.gdpFrame_taken hs hf hc, ← ht, State.makeRoom, ← hu, hr, bne_iff_ne]
  · intro f a c x s t u v hs hf hc ht hu hc1 hv hx
    simp only [exec_writeInit, execWriteInit, State.gdpFrame_taken hs hf hc, ← ht, State.makeRoom, ← hu, ← hc1, ← hv, ← hx, bne_iff_ne]
    by_cases ha : c = Dr.access
    · simp [ha, Dr.access, Dr.ok]
    · simp only [ha, if_false]
  · intro f a s t hs hf ht hn
    refine ⟨fun hc => ?_, fun hc => ?_, fun hc => ?_, fun hc => ?_⟩
    · simp only [exec_segment, execSegment, State.gdpFrame_taken hs hf hc, ← ht, hn]
    · simp only [exec_segAck, execSegAck, State.gdpFrame_taken hs hf hc, ← ht, hn]
    · simp only [exec_gdpAbort, execGdpAbort, State.gdpFrame_taken hs hf hc, ← ht, hn]
    · simp only [exec_keep, execKeep, State.gdpFrame_taken hs hf hc, ← ht, hn, Bool.false_eq_true, if_false]
  · intro f a x x1 s t u v hs hf hc ht hn hx hu hv
    have hnext : x1.next = x.next + 1 := by rw [hx]
    have hack : v = if (x.since + 1) % 16 = 0 then u.gdpAck (frTid f) (x.next + 1) else u := by rw [hv, hx]
    simp only [exec_segment, execSegment, State.gdpFrame_taken hs hf hc, ← ht, hn, ← hx, ← hu, ← hack, hnext, Bool.or_eq_true,
      Bool.not_eq_true', bne_iff_ne, decide_eq_true_eq, ge_iff_le]
  · intro f x s t hs hf hc ht hn
    simp only [exec_segAck, execSegAck, State.gdpFrame_taken hs hf hc, ← ht, hn, Bool.or_eq_true, bne_iff_ne, gt_iff_lt]
  · intro f x s t hs hf ht hn
    refine ⟨fun hc => ?_, fun hc => ?_⟩
    · simp only [exec_gdpAbort, execGdpAbort, State.gdpFrame_taken hs hf hc, ← ht, hn]
      rfl
    · simp only [exec_keep, execKeep, State.gdpFrame_taken hs hf hc, ← ht, hn, decide_eq_true_eq]
      by_cases h : x.tid = frTid f
      · simp only [h, if_true]
      · simp only [h, if_false]

/-- Settles O44: the session's two timers, the node's bus states, and the restore of the stored values. -/
theorem gdpTimersAndBusStatesRunTheirEffect : Obligations.GdpTimersAndBusStatesRunTheirEffect := by
  unfold Obligations.GdpTimersAndBusStatesRunTheirEffect
  refine ⟨?_, ?_, ?_, ?_, ?_, ?_, ?_, ?_⟩
  · intro s h
    simp only [exec_sessionTimeout, execSessionTimeout, exec_segmentResend, execSegmentResend, h, and_self]
  · intro x s h
    simp only [exec_sessionTimeout, execSessionTimeout, exec_segmentResend, execSegmentResend, h, Bool.or_eq_true, and_self]
  · intro s
    rw [exec_busOff, execBusOff]
    by_cases hn : s.canNode = true <;> by_cases hs : s.getF Fld.CAN_STATUS_STATE = 2 <;> simp [hn, hs]
  · intro s h
    simp only [exec_busOffRecovery, execBusOffRecovery, bne_iff_ne.mpr h, if_true]
  · intro s u h hu
    simp only [exec_busOffRecovery, execBusOffRecovery, h, bne_self_eq_false, Bool.false_eq_true, if_false, ← hu]
  · intro s
    rw [exec_errorPassiveTimeout, execErrorPassiveTimeout]
    by_cases hn : s.canNode = true <;> by_cases hs : s.getF Fld.CAN_STATUS_STATE < 2 <;> simp [hn, hs, Nat.not_le.mpr, not_lt.mp]
  · intro s h
    simp only [exec_restoreDefaults, execRestoreDefaults, h, Bool.not_false, if_true]
  · intro s h
    simp only [exec_restoreDefaults, execRestoreDefaults, h, Bool.not_true, Bool.false_eq_true, if_false]
    rfl

end

section
/-!
SUPPORT. What a password attempt gives (R635, R636), and the rest after the unit of a flash program (R625).
-/
namespace Sys2Proof.Machine
open Sys2Proof

theorem State.tryUnlock_lockedOut {s : State} {pw : List Byte} (h : s.isSet Fld.NVC_PROT_LOCKOUT = true) : (s.tryUnlock pw).1 = s := by
  rw [State.tryUnlock, h]
  rfl

theorem State.tryUnlock_open {s : State} {pw : List Byte} {n : Nat} (h : s.isSet Fld.NVC_PROT_LOCKOUT = false)
    (hn : n = s.getF Fld.NVC_PROT_ATTEMPTS + 1) : (s.tryUnlock pw).1 =
      if s.nvc.pwdHash = some (s.passwordHash pw) then (s.setF Fld.NVC_PROT_LOCKED 0).setF Fld.NVC_PROT_ATTEMPTS 0
      else if n < 8 then s.setF Fld.NVC_PROT_ATTEMPTS n
      else ((s.setF Fld.NVC_PROT_ATTEMPTS n).setF Fld.NVC_PROT_LOCKOUT 1).raise 116 0 0 := by
  simp only [State.tryUnlock, h, Bool.false_eq_true, if_false, ← hn, apply_ite Prod.fst, ge_iff_le]
  by_cases h8 : n < 8
  · simp only [h8, if_true, Nat.not_le.mpr h8, if_false]
  · simp only [h8, if_false, not_lt.mp h8, if_true]

/-- A unit that was never programmed takes the bytes; every other unit keeps what it held, shipped or programmed. -/
theorem State.programUnit_of_blank {s : State} {u : Nat} {bs : List Byte} (h : s.programmed u = none) :
    (s.programUnit u bs).flashUnit u = bs ∧ ∀ w, w ≠ u → (s.programUnit u bs).flashUnit w = s.flashUnit w := by
  have hunit : s.programUnit u bs = { s with nvc := { s.nvc with units := Assoc.put s.nvc.units u bs } } := by
    simp only [State.programUnit, h]
  refine ⟨?_, fun w hw => ?_⟩
  · simp only [hunit, State.flashUnit, State.programmed, Assoc.find_put_same, Option.getD_some]
  · simp only [hunit, State.flashUnit, State.programmed, Assoc.find_put_other _ _ _ _ hw]

end Sys2Proof.Machine

open Sys2Proof Sys2Proof.Machine

/-- Settles O45: transitions, passwords, scan and the random generator, each by what allows it. -/
theorem lifeCycleAndPasswordRowsRunTheirEffect : Obligations.LifeCycleAndPasswordRowsRunTheirEffect := by
  unfold Obligations.LifeCycleAndPasswordRowsRunTheirEffect
  refine ⟨?_, ?_, ?_, ?_, ?_, ?_, ?_, ?_, ?_, ?_, ?_⟩
  · intro req cut i s h
    simp only [exec_lifecycleTransition, execLifecycleTransition, h, if_false]
  · intro req i s h
    simp only [exec_lifecycleTransition, execLifecycleTransition, h, if_true, State.transitionRun, implies_true, and_self]
  · intro t s u hu
    simp only [State.lifeCycleSteps, hu, implies_true, and_self]
  · intro pw s h
    rw [exec_unlock, execUnlock]
    obtain ⟨hm, hr⟩ | hl := h
    · simp only [hm, hr, Bool.or_self, Bool.false_eq_true, if_false]
    · rw [State.tryUnlock_lockedOut hl, ite_self]
  · intro pw n s h hl hn
    rw [exec_unlock, execUnlock, if_pos (Bool.or_eq_true _ _ ▸ h), State.tryUnlock_open hl hn]
  · intro pw s
    simp only [exec_newPassword, execNewPassword, State.newPasswordAllowed, State.setPassword, Bool.and_eq_true, Bool.or_eq_true,
      Option.isNone_iff_eq_none, decide_eq_true_eq]
  · intro s
    rfl
  · intro s h
    have hoff : (!(s.manufacture || s.returned) || s.lcm.scanOpen) = true := by simpa using h
    rw [exec_scanEnable, execScanEnable, hoff, if_pos rfl]
  · intro s a b c h ho ha hb hc
    have hon : (!(s.manufacture || s.returned) || s.lcm.scanOpen) = false := by simpa [ho, or_iff_not_imp_left] using h
    simp only [exec_scanEnable, execScanEnable, hon, Bool.false_eq_true, if_false, ← ha, ← hb, ← hc]
  · intro s
    rfl
  · intro s
    rfl

/-- Settles O46: tests and loopbacks start where they are allowed, and end with their result. -/
theorem testsAndLoopbacksRunTheirEffect : Obligations.TestsAndLoopbacksRunTheirEffect := by
  unfold Obligations.TestsAndLoopbacksRunTheirEffect
  refine ⟨?_, ?_, ?_, ?_, ?_, ?_, ?_, ?_, ?_, ?_, ?_⟩
  · intro test u s h
    simp only [exec_testStart, execTestStart, exec_extendedMemoryTest, execExtendedMemoryTest, State.startTest, bne_iff_ne.mpr h, if_true,
      and_self]
  · intro test u s a b h ha hb
    simp only [exec_testStart, execTestStart, State.startTest, h, bne_self_eq_false, Bool.false_eq_true, if_false, ← ha, ← hb,
      Bool.or_eq_true, Bool.not_eq_true', decide_eq_true_eq, or_assoc, gt_iff_lt, State.testRefused]
  · intro s a h ha
    simp only [exec_extendedMemoryTest, execExtendedMemoryTest, State.startTest, h, bne_self_eq_false, Bool.false_eq_true, if_false, ← ha,
      Bool.or_eq_true, Bool.not_eq_true', decide_eq_true_eq, gt_iff_lt, State.testRefused, Nat.not_lt_zero, or_false, true_or, if_true]
  · intro pass detail entries s h
    rw [exec_testComplete, execTestComplete, if_pos h]
  · intro pass detail entries s u v h h3 hu hv
    simp only [exec_testComplete, execTestComplete, h, if_false, h3, decide_false, Bool.false_and, Bool.not_false, Bool.and_true,
      ← hu, ← hv]
  · intro pass good detail entries s u v h hgood hu hv
    have hroom : (pass && !(true && decide (s.lcm.repairFuses + entries > 1024))) = good := by
      simp only [hgood, Bool.true_and, gt_iff_lt, ← Nat.not_le, decide_not, Bool.not_not]
    simp only [exec_testComplete, execTestComplete, h, decide_true, hroom, if_true, ← hu, ← hv]
    rfl
  · intro cfg path ti s h
    simp only [exec_loopbackStart, execLoopbackStart, State.startLoop, h, if_true]
  · intro cfg path iface depth ti s u v h hu hi hd hv
    simp only [exec_loopbackStart, execLoopbackStart, State.startLoop, h, Bool.false_eq_true, if_false, ← hu, ← hi, ← hd, ← hv,
      Bool.not_eq_true', Bool.and_eq_true, bne_iff_ne]
  · intro errors bits ok s
    exact ⟨rfl, rfl⟩
  · intro errors bits ok good s a b c hgood ha hb hc
    have hlink : (if (s.getF Fld.TST_LBCTL_IF != 0) = true then s
        else s.setF Fld.CXC_LINK_LTSSM (if s.isSet Fld.CXC_LINK_UP = true then 0x18 else 0)) = a := by
      simp only [ha, bne, ite_bnot, beq_iff_eq]
    simp only [State.endLoop, ge_iff_le, ← hgood, hlink, ← hb, ← hc, Bool.not_eq_true']
  · intro enter i s
    rfl

/-- Settles O47: what the flash controller takes, what the end of an operation leaves, and what a programmed unit reads. -/
theorem flashOperationsRunTheirEffect : Obligations.FlashOperationsRunTheirEffect := by
  unfold Obligations.FlashOperationsRunTheirEffect
  refine ⟨?_, ?_, ?_, ?_, ?_, ?_, ?_⟩
  · intro block s h
    have hoff : (s.nvc.op.isSome || decide (block ≥ 2048)) = true := by simpa using h
    rw [exec_nvcErase, execNvcErase, hoff, if_pos rfl]
  · intro block s u hop hb hu
    have hon : (s.nvc.op.isSome || decide (block ≥ 2048)) = false := by simpa [hop] using hb
    refine ⟨fun h => ?_, fun r h => ?_⟩ <;>
      simp only [exec_nvcErase, execNvcErase, hon, Bool.false_eq_true, if_false, ← hu, State.startFlash, h, if_true]
  · intro block page first data s h
    have hoff : (s.nvc.op.isSome || decide (block ≥ 2048) || decide (page ≥ 256) || data.length % 32 != 0 ||
        decide (data.length / 32 = 0) || decide (first + data.length / 32 > 8)) = true := by
      simpa only [Bool.or_eq_true, decide_eq_true_eq, bne_iff_ne, or_assoc, ge_iff_le, gt_iff_lt] using h
    simp only [exec_nvcProgram, execNvcProgram, hoff, if_true]
  · intro block page first n data s u hop hb hp hd hn h1 h8 hu
    have hon : (s.nvc.op.isSome || decide (block ≥ 2048) || decide (page ≥ 256) || data.length % 32 != 0 || decide (n = 0) ||
        decide (first + n > 8)) = false := by
      simp [hop, hd, hb, hp, h8, Nat.ne_of_gt h1]
    refine ⟨fun h => ?_, fun r h => ?_⟩ <;>
      simp only [exec_nvcProgram, execNvcProgram, ← hn, hon, Bool.false_eq_true, if_false, ← hu, State.startFlash, h]
  · intro ok pulses s h
    simp only [exec_nvcOperationDone, execNvcOperationDone, h]
  · intro pulses o s u h hu
    refine ⟨?_, ?_⟩
    · simp only [exec_nvcOperationDone, execNvcOperationDone, h, ← hu, Bool.not_false, if_true]
    · simp only [exec_nvcOperationDone, execNvcOperationDone, h, ← hu, Bool.not_true, Bool.false_eq_true, if_false, apply_ite State.drainLog]
  · intro u bs s h
    exact State.programUnit_of_blank h

end

section
/-!
SUPPORT. The register file and the sources right after reset (R5, R601).
-/
namespace Sys2Proof.Machine
open Sys2Proof

theorem State.reset_reg (a : Nat) : State.reset.reg a = resetWord a := rfl

/-- No sticky word resets to a value other than 0. -/
theorem resetWord_sticky : ∀ n ∈ List.range 16, (resetWord (0x300200 + 4 * n)).toNat = 0 := by decide

theorem State.reset_stickySources : State.reset.stickySources = [] := by
  rw [State.stickySources, List.flatMap_eq_nil_iff]
  intro n hn
  simp only [State.reset_reg, resetWord_sticky n hn, if_true]

-- ---------------------------------------------------------------------------------------------------------------
-- A pair that fails (R26, R77, R617)

theorem State.pairFails_domain {s : State} {src p : Nat} {cause : FieldRef} {i : SlateInputs} (hp : p ∈ [1, 2, 3]) :
    s.pairFails src p cause i = (s.raise src 0 0).requestDomain (3 + p) := by
  simp only [List.mem_cons, List.not_mem_nil, or_false] at hp
  obtain rfl | rfl | rfl := hp <;> rfl

theorem execWatchdog_running {s : State} {w : Nat} {i : SlateInputs} (h : s.coreRuns = true) (hw : w ≤ 4) :
    exec (.watchdogExpiry w i) s = .next (s.pairFails (9 + w) w Fld.PLT_RSTCAUSE_WDOG i) := by
  simp only [exec_watchdogExpiry, execWatchdogExpiry, h, Bool.not_true, Bool.false_or, gt_iff_lt, Nat.not_lt.mpr hw, decide_false,
    Bool.false_eq_true, if_false]

theorem execLockstep_booted {s : State} {p : Nat} {i : SlateInputs} (h : s.coreRuns = true) (hd : s.boot.slateDone = true) (hp : p ≤ 3) :
    exec (.lockstepMismatch p i) s = .next (s.pairFails (4 + p) p Fld.PLT_RSTCAUSE_LOCKSTEP i) := by
  simp only [exec_lockstepMismatch, execLockstepMismatch, h, hd, Bool.not_true, Bool.false_or, gt_iff_lt, Nat.not_lt.mpr hp, decide_false,
    Bool.false_eq_true, if_false]

end Sys2Proof.Machine

open Sys2Proof Sys2Proof.Machine

/-- Settles O48: messages by their source and copies, reactions by their severity, and the clearing of sticky bits. -/
theorem faultMessagesRunTheirEffect : Obligations.FaultMessagesRunTheirEffect := by
  unfold Obligations.FaultMessagesRunTheirEffect
  refine ⟨?_, ?_, ?_, ?_, ?_, ?_, ?_, ?_, ?_⟩
  · intro src kind addr ok1 ok2 s h
    have hoff : (!namedSource src || decide (kind > 63) || decide (addr ≥ 2 ^ 48) ||
        !(decide (352 < src && src < 368) || decide (src ≥ 448) || s.coreRuns)) = true := by
      obtain h | h | h | ⟨hc, h1, h2⟩ := h
      · simp only [h, Bool.not_false, Bool.true_or]
      · simp only [gt_iff_lt, h, decide_true, Bool.or_true, Bool.true_or]
      · simp only [ge_iff_le, h, decide_true, Bool.or_true, Bool.true_or]
      · have hmotion : ¬ (352 < src ∧ src < 368) := by omega
        simp only [hc, Bool.and_eq_true, decide_eq_true_eq, hmotion, Nat.not_le.mpr h1, ge_iff_le, decide_false, Bool.or_self,
          Bool.not_false, Bool.or_true]
    simp only [exec_faultMessage, execFaultMessage, hoff, if_true]
  · intro src kind addr ok1 ok2 s a b c hn hk ha hrun hA hB hC
    have hon : (!namedSource src || decide (kind > 63) || decide (addr ≥ 2 ^ 48) ||
        !(decide (352 < src && src < 368) || decide (src ≥ 448) || s.coreRuns)) = false := by
      simp only [hn, gt_iff_lt, Nat.not_lt.mpr hk, ge_iff_le, Nat.not_le.mpr ha, decide_false, Bool.not_true, Bool.or_self, Bool.false_or,
        Bool.not_eq_false', Bool.or_eq_true, Bool.and_eq_true, decide_eq_true_eq]
      tauto
    simp only [exec_faultMessage, execFaultMessage, hon, Bool.false_eq_true, if_false, ← hA, ← hB, ← hC]
    simp only [Bool.and_eq_true, Bool.not_eq_true', decide_eq_true_eq]
  · intro s h
    simp only [exec_reactionEnd, execReactionEnd, exec_reactionTimeout, execReactionTimeout, h, and_self]
  · intro r s h
    refine ⟨?_, fun h2 => ?_⟩
    · simp only [exec_reactionEnd, execReactionEnd, h, Bool.and_eq_true, decide_eq_true_eq]
    · simp only [exec_reactionTimeout, execReactionTimeout, h, bne_iff_ne.mpr h2, if_true]
  · intro r s u h h2 hu
    refine ⟨fun hn => ?_, fun q hq => ?_⟩
    · simp only [exec_reactionTimeout, execReactionTimeout, h, h2, bne_self_eq_false, Bool.false_eq_true, if_false, ← hu, hn]
    · simp only [exec_reactionTimeout, execReactionTimeout, h, h2, bne_self_eq_false, Bool.false_eq_true, if_false, ← hu, hq]
  · intro s
    rfl
  · intro s
    rfl
  · intro src s
    rw [exec_clearSticky, execClearSticky, State.clearSticky]
    by_cases h : s.coreRuns = true ∧ src ≤ 511 ∧ s.sticky src = true ∧ s.mayClear src = true
    · obtain ⟨hc, hs, hb, hm⟩ := h
      simp [hc, hs, hb, hm, Nat.not_lt.mpr hs]
    · rw [if_neg h]
      split
      · next hc =>
        have hkept : (decide (src > 511) || !s.sticky src || !s.mayClear src) = true := by
          simp only [Bool.or_eq_true, decide_eq_true_eq, Bool.not_eq_true', gt_iff_lt, ← Nat.not_le, ← Bool.not_eq_true]
          tauto
        rw [hkept, if_pos rfl]
      · rfl
  · intro s
    rfl

/-- Settles O49: the pair's source, then the reset of its domain; with the core die held, or of no pair, nothing. -/
theorem watchdogsAndLockstepRunTheirEffect : Obligations.WatchdogsAndLockstepRunTheirEffect := by
  unfold Obligations.WatchdogsAndLockstepRunTheirEffect
  refine ⟨?_, ?_, ?_, ?_, ?_, ?_, ?_⟩
  · intro i s h
    simp only [execWatchdog_running h (show 0 ≤ 4 by decide), State.pairFails]
  · intro w i s h hw
    rw [execWatchdog_running h (by simp only [List.mem_cons, List.not_mem_nil, or_false] at hw; omega), State.pairFails_domain hw]
  · intro i s h
    simp only [execWatchdog_running h (show 4 ≤ 4 by decide), State.pairFails]
  · intro i s h hd
    simp only [execLockstep_booted h hd (show 0 ≤ 3 by decide), State.pairFails]
  · intro p i s h hd hp
    rw [execLockstep_booted h hd (by simp only [List.mem_cons, List.not_mem_nil, or_false] at hp; omega), State.pairFails_domain hp]
  · intro p i s h hd hp
    simp only [exec_lockstepMismatch, execLockstepMismatch, h, hd, Bool.not_true, Bool.not_false, gt_iff_lt, Nat.not_lt.mpr hp, decide_false,
      Bool.or_self, Bool.false_eq_true, if_false, if_true]
  · intro w i s h
    have hw : (!s.coreRuns || decide (w > 4)) = true := by simpa using h
    have hp : (!s.coreRuns || decide (w > 3)) = true := by
      simp only [Bool.or_eq_true, Bool.not_eq_true', decide_eq_true_eq]
      exact h.imp_right (by omega)
    refine ⟨?_, ?_⟩
    · rw [exec_watchdogExpiry, execWatchdogExpiry, hw, if_pos rfl]
    · rw [exec_lockstepMismatch, execLockstepMismatch, hp, if_pos rfl]

/-- Settles O50: an access by its BAR, its shape and its offset, and the two statistics commands. -/
theorem registerAccessesRunTheirEffect : Obligations.RegisterAccessesRunTheirEffect := by
  unfold Obligations.RegisterAccessesRunTheirEffect
  refine ⟨?_, ?_, ?_, ?_, ?_, ?_, ?_, ?_, ?_⟩
  · intro bar off width data s h
    simp only [exec_rcRegisterRead, execRcRegisterRead, exec_registerWrite, execRegisterWrite, h, Bool.not_false, if_true, and_self]
  · intro bar off width s hb h
    rw [exec_rcRegisterRead, execRcRegisterRead, hb]
    by_cases hf : accessFits off width = true
    · obtain h | ⟨rfl, h⟩ | ⟨rfl, h⟩ | ⟨rfl, h⟩ | ⟨rfl, h⟩ | ⟨h0, h2, h4⟩ := h
      · simp [h] at hf
      · simp [hf, Nat.not_lt.mpr h]
      · simp [hf, h]
      · simp [hf, Nat.not_lt.mpr h]
      · simp [hf, h]
      · simp [h0, h2, h4]
    · simp [hf]
  · intro off width s hb hf
    refine ⟨fun h hm => ?_, fun h => ?_, fun h => ?_⟩
    · simp only [exec_rcRegisterRead, execRcRegisterRead, hb, hf, Bool.not_true, Bool.false_eq_true, if_false, h, decide_true,
        Bool.and_self, if_true, hm]
    · simp only [exec_rcRegisterRead, execRcRegisterRead, hb, hf, Bool.not_true, Bool.false_eq_true, if_false, h, decide_true,
        Bool.and_self, if_true, show ¬ (2 : Nat) = 0 by decide, decide_false, Bool.false_and]
    · simp only [exec_rcRegisterRead, execRcRegisterRead, hb, hf, Bool.not_true, Bool.false_eq_true, if_false, h, decide_true,
        Bool.and_self, if_true, show ¬ (4 : Nat) = 0 by decide, show ¬ (4 : Nat) = 2 by decide, decide_false, Bool.false_and]
  · intro off width data ws s hb hws
    refine ⟨fun h => ?_, ?_⟩
    · simp only [exec_registerWrite, execRegisterWrite, hb, Bool.not_true, Bool.false_eq_true, if_false, h, decide_true, Bool.and_self,
        if_true, Bool.not_eq_true', ← hws]
    · simp only [exec_registerWrite, execRegisterWrite, hb, Bool.not_true, Bool.false_eq_true, if_false, show ¬ (4 : Nat) = 0 by decide,
        decide_false, Bool.false_and, decide_true, Bool.true_and, ← hws]
  · intro bar off width data s hb h4 h
    have hout : (decide (bar = 0) && decide (off < 256 * mib)) = false := by
      simp only [Bool.and_eq_false_iff, decide_eq_false_iff_not]
      omega
    simp only [exec_registerWrite, execRegisterWrite, hb, Bool.not_true, Bool.false_eq_true, if_false, hout, h4, decide_false,
      Bool.false_and]
  · intro a v s hr hc
    simp only [State.readReg, State.writeReg, State.clearRead, hr, hc, and_self]
  · intro links s h
    simp only [exec_counterAccumulate, execCounterAccumulate, exec_statisticsStore, execStatisticsStore, h, Bool.not_false, Bool.true_or,
      if_true, and_self]
  · intro links s a b c h ha hb hc
    simp only [exec_counterAccumulate, execCounterAccumulate, h, Bool.not_true, Bool.false_eq_true, if_false, gt_iff_lt, ← ha, ← hb, ← hc]
  · intro s h
    simp only [exec_statisticsStore, execStatisticsStore, h, Bool.not_true, Bool.false_or, apply_ite Host.Outcome.next]

/-- Settles O51: the two cases of the queue, and what a microsecond does. -/
theorem stepRunsTheFrontCommand : Obligations.StepRunsTheFrontCommand := by
  unfold Obligations.StepRunsTheFrontCommand
  refine ⟨fun c rest s h => ?_, fun s h => ?_, fun s => ?_⟩
  · simp only [step, h]
  · simp only [step, h]
  · rw [State.tick]
    by_cases h : s.pwr.good = true
    · rw [if_pos h, if_pos h]
    · rw [if_neg h, if_neg h]
      rfl

/-- Settles O52: each register and entry is absent from the stores, and so reads its reset word or default. -/
theorem resetStateIsAsStated : Obligations.ResetStateIsAsStated := by
  unfold Obligations.ResetStateIsAsStated
  refine ⟨State.reset_reg, fun i j => ?_, fun a => ?_, rfl, rfl, State.reset_stickySources, ?_, ?_, ?_, ?_, ?_⟩
  · cases h : dictRowAt i j <;> simp [State.dictBytes, State.reset, Assoc.find, h]
  · rfl
  · decide
  · decide
  · decide
  · decide
  · exact Sys2Proof.Tests.reset_wellKept

end

section
/-!
SUPPORT. The CAN node at the end of Slate (R61).
-/
namespace Sys2Proof.Machine
open Sys2Proof

theorem State.canUp_node (s : State) : s.canUp.getF Fld.CAN_STATUS_NODE = s.ash.nodeId.toNat % 128 := by
  rw [State.canUp, State.getF_setF_apart _ _ _ _ (by decide), State.getF_setF_apart _ _ _ _ (by decide), State.getF_setF_same _ _ _ (by decide)]
  rfl

theorem State.canUp_beacon (s : State) : s.canUp.getF Fld.CAN_STATUS_BEACON = b2n (s.ash.nodeId != 0) := by
  have hnode : (s.ash.nodeId.toNat != 0) = (s.ash.nodeId != 0) := by
    rw [Bool.eq_iff_iff, bne_iff_ne, bne_iff_ne, ne_eq, ne_eq, ← BitVec.toNat_inj]
    rfl
  rw [State.canUp, State.getF_setF_same _ _ _ (by decide), hnode]
  cases s.ash.nodeId != 0 <;> rfl

end Sys2Proof.Machine

open Sys2Proof Sys2Proof.Machine

/-- Settles O3: the end of Slate, the beacon that is due, and the delay of the spin-up. -/
theorem slateEndAndBeaconRunTheirEffect : Obligations.SlateEndAndBeaconRunTheirEffect := by
  unfold Obligations.SlateEndAndBeaconRunTheirEffect
  refine ⟨?_, ?_, ?_, ?_, ?_, ?_, ?_, ?_⟩
  · intro s u hc hd hs hu
    have hend : (!s.coreRuns || s.boot.slateDone || !(decide (s.boot.slateStep = 9) || (decide (s.boot.slateStep = 7) && s.tst.hold))) =
        false := by simpa [hc, hd, or_iff_not_imp_left] using hs
    refine ⟨fun h => ?_, fun h => ?_⟩
    · simp only [exec_slateComplete, execSlateComplete, hend, Bool.false_eq_true, if_false, ← hu, h, if_true]
    · simp only [exec_slateComplete, execSlateComplete, hend, Bool.false_eq_true, if_false, ← hu, h]
  · exact fun s => ⟨s.canUp_node, s.canUp_beacon, rfl⟩
  · intro v12 vbus temp s u h hu
    simp only [exec_beacon, execBeacon, h, Bool.not_true, Bool.false_eq_true, if_false, ← hu, Bool.not_false, if_true]
  · intro v12 vbus temp s u t h hu ht
    have hash : u.ash = s.ash := by rw [hu]; rfl
    refine ⟨fun ho => ?_, fun ho => ?_⟩ <;>
      simp only [exec_beacon, execBeacon, h, Bool.not_true, Bool.false_eq_true, if_false, ← hu, hash, ho, if_true, ht]
  · intro v12 vbus temp wins s h
    simp only [exec_beacon, execBeacon, h, Bool.not_false, if_true]
  · intro s
    rfl
  · intro s hd h1
    simp only [exec_spinUpDelayEnd, execSpinUpDelayEnd, hd, h1, decide_true, Bool.and_self, if_true]
  · intro s h
    have hno : (s.boot.slateDone && decide (s.stage = 1)) = false := by simpa [or_iff_not_imp_left] using h
    simp only [exec_spinUpDelayEnd, execSpinUpDelayEnd, hno, Bool.false_eq_true, if_false]

end

section
/-!
SUPPORT. What an event leaves alone (R399, R456, R502): it writes host memory, the event ring, the coherent cache, the rings' counts and
tokens, and of the registers only the counts of EVT and HCC.
-/
namespace Sys2Proof.Machine
open Sys2Proof

/-- The registers that an event can write: EVT_STAT, HCC_OCC and HCC_CNT. -/
def eventRegs : List Nat := [0x400000, 0x1400004, 0x1400020]

/-- s differs from a at most in what an event writes. -/
structure EventFrame (a s : State) : Prop where
  parts : ∃ r d h e q o t c, s = { a with regs := r, dict := d, hcc := h, evt := e, qmg := q, out := o, tint := t, cxc := c }
  reg : ∀ x, x ∉ eventRegs → s.reg x = a.reg x

namespace EventFrame

variable {a s t : State}

theorem refl (a : State) : EventFrame a a := ⟨⟨_, _, _, _, _, _, _, _, rfl⟩, fun _ _ => rfl⟩

theorem trans (h : EventFrame a s) (h' : EventFrame s t) : EventFrame a t := by
  refine ⟨?_, fun x hx => (h'.reg x hx).trans (h.reg x hx)⟩
  obtain ⟨⟨_, _, _, _, _, _, _, _, rfl⟩, _⟩ := h
  obtain ⟨⟨_, _, _, _, _, _, _, _, rfl⟩, _⟩ := h'
  exact ⟨_, _, _, _, _, _, _, _, rfl⟩

/-- An update of the parts that leaves the registers alone. -/
theorem parts_ (a : State) (d : List (Nat × List Byte)) (h : Hcc) (e : Evt) (q : Qmg) (o : List Out) (t : Tint) (c : Cxc) :
    EventFrame a { a with dict := d, hcc := h, evt := e, qmg := q, out := o, tint := t, cxc := c } :=
  ⟨⟨_, _, _, _, _, _, _, _, rfl⟩, fun _ _ => rfl⟩

theorem setF (a : State) (f : FieldRef) (v : Nat) (h : f.addr ∈ eventRegs) : EventFrame a (a.setF f v) :=
  ⟨⟨_, _, _, _, _, _, _, _, rfl⟩, fun _ hx => State.reg_setReg_other _ _ _ _ (fun e => hx (e ▸ h))⟩

theorem bumpF (a : State) (f : FieldRef) (n : Nat) (h : f.addr ∈ eventRegs) : EventFrame a (a.bumpF f n) := setF a f _ h

theorem ite {c : Prop} [Decidable c] (h : EventFrame a s) (h' : EventFrame a t) : EventFrame a (if c then s else t) := by
  split
  · exact h
  · exact h'

theorem foldl {α : Type} {g : State → α → State} (hg : ∀ t x, EventFrame t (g t x)) (l : List α) (h : EventFrame a s) :
    EventFrame a (l.foldl g s) := by
  induction l generalizing s with
  | nil => exact h
  | cons x l ih => exact ih (h.trans (hg s x))

theorem boot (h : EventFrame a s) : s.boot = a.boot := by obtain ⟨⟨_, _, _, _, _, _, _, _, rfl⟩, _⟩ := h; rfl
theorem pwr (h : EventFrame a s) : s.pwr = a.pwr := by obtain ⟨⟨_, _, _, _, _, _, _, _, rfl⟩, _⟩ := h; rfl
theorem spm (h : EventFrame a s) : s.spm = a.spm := by obtain ⟨⟨_, _, _, _, _, _, _, _, rfl⟩, _⟩ := h; rfl
theorem mfe (h : EventFrame a s) : s.mfe = a.mfe := by obtain ⟨⟨_, _, _, _, _, _, _, _, rfl⟩, _⟩ := h; rfl
theorem disk (h : EventFrame a s) : s.disk = a.disk := by obtain ⟨⟨_, _, _, _, _, _, _, _, rfl⟩, _⟩ := h; rfl

theorem getF (h : EventFrame a s) (f : FieldRef) (hf : f.addr ∉ eventRegs := by decide) : s.getF f = a.getF f := by
  rw [State.getF, State.getF, h.reg _ hf]

end EventFrame

theorem State.hccCount_eventFrame (s : State) : EventFrame s s.hccCount :=
  (EventFrame.setF s _ _ (by decide)).trans (.setF _ _ _ (by decide))

theorem State.emit_eventFrame (s : State) (o : Out) : EventFrame s (s.emit o) := .parts_ s _ _ _ _ _ _ _

theorem State.charge_eventFrame (s : State) (c n : Nat) : EventFrame s (s.charge c n) := .parts_ s _ _ _ _ _ _ _

theorem State.stat_eventFrame (s : State) (i j d : Nat) : EventFrame s (s.stat i j d) := .parts_ s _ _ _ _ _ _ _

theorem State.hostWrite_eventFrame (s : State) (x : Nat) (bs : List Byte) : EventFrame s (s.hostWrite x bs) :=
  .ite (s.emit_eventFrame _) (.parts_ s _ _ _ _ _ _ _)

theorem State.hccWriteback_eventFrame (s : State) (line : Nat) : EventFrame s (s.hccWriteback line) := by
  unfold State.hccWriteback
  split
  · exact .refl s
  · refine .ite (.refl s) (.ite (.parts_ s _ _ _ _ _ _ _) ?_)
    exact ((((EventFrame.parts_ s _ _ _ _ _ _ _).trans (State.charge_eventFrame _ 10 1)).trans (State.stat_eventFrame _ 0x8330 4 1)).trans
      (State.emit_eventFrame _ _)).trans (State.hccCount_eventFrame _)

/-- A line that takes its place in a way of the cache. -/
theorem EventFrame.placed (s : State) (h : Hcc) (o : Out) :
    EventFrame s ((((({ s with hcc := h } : State).charge 10 1).emit o).bumpF Fld.HCC_CNT_MISSES 1).hccCount) :=
  ((((EventFrame.parts_ s _ _ _ _ _ _ _).trans (State.charge_eventFrame _ 10 1)).trans (State.emit_eventFrame _ _)).trans
    (.bumpF _ _ _ (by decide))).trans (State.hccCount_eventFrame _)

theorem State.hccFill_eventFrame (s : State) (op kind st line : Nat) (pin : Bool) : EventFrame s (s.hccFill op kind st line pin).1 := by
  unfold State.hccFill
  dsimp only
  split
  · exact .refl s
  split
  · exact .placed s _ _
  split
  · exact .refl s
  split
  · exact s.hccWriteback_eventFrame _
  · exact (EventFrame.parts_ s _ _ _ _ _ _ _).trans (.placed _ _ _)

theorem State.hccStore_eventFrame (s : State) (l : HLine) (off : Nat) (bs : List Byte) : EventFrame s (s.hccStore l off bs) := by
  unfold State.hccStore
  dsimp only
  have h0 := EventFrame.ite (c := l.st = 0) ((s.charge_eventFrame 10 1).trans (State.emit_eventFrame _ (.cacheReq opRdOwn (64 * l.line))))
    (.refl s)
  have h1 (t : State) : EventFrame t (match t.hcc.oldestDirty with | some o => t.hccWriteback o.line | none => t) := by
    split
    · exact t.hccWriteback_eventFrame _
    · exact .refl t
  have h2 (t : State) (h : Hcc) : EventFrame t ({ t with hcc := h } : State).hccCount :=
    (EventFrame.parts_ t _ _ _ _ _ _ _).trans (State.hccCount_eventFrame _)
  refine EventFrame.trans (h0.trans (.trans (.ite ?_ (.refl _)) (h2 _ _))) (.ite (State.hccWriteback_eventFrame _ _) (.refl _))
  exact h1 _

theorem State.ringWrite_eventFrame (s : State) (kind addr : Nat) (bs : List Byte) : EventFrame s (s.ringWrite kind addr bs) := by
  unfold State.ringWrite
  dsimp only
  refine .ite (s.hostWrite_eventFrame _ _) ?_
  split
  · exact (EventFrame.bumpF s _ _ (by decide)).trans (State.hccStore_eventFrame _ _ _ _)
  · refine .ite (s.hostWrite_eventFrame _ _) ?_
    have h := s.hccFill_eventFrame opRdOwn kind 1 (addr / 64) false
    split
    · exact .ite (h.trans (State.hccStore_eventFrame _ _ _ _)) h
    · exact h.trans (.parts_ _ _ _ _ _ _ _ _)

theorem State.ringFlush_eventFrame (s : State) (base depth : Nat) : EventFrame s (s.ringFlush base depth) :=
  .foldl (fun t _ => t.hccWriteback_eventFrame _) _ (.refl s)

theorem State.signalVector_eventFrame (s : State) (v : Nat) : EventFrame s (s.signalVector v) :=
  .ite (s.emit_eventFrame _) (.parts_ s _ _ _ _ _ _ _)

theorem State.postRing_eventFrame (s : State) (id sev kind addr data : Nat) : EventFrame s (s.postRing id sev kind addr data) :=
  .ite ((s.ringWrite_eventFrame _ _ _).trans (.parts_ _ _ _ _ _ _ _ _)) ((EventFrame.bumpF s _ _ (by decide)).trans (.parts_ _ _ _ _ _ _ _ _))

theorem State.route_eventFrame (s : State) (id sev kind addr data : Nat) : EventFrame s (s.route id sev kind addr data) := by
  have h : EventFrame s (if s.isSet (Fld.EVT_ROUTE_TO_RING (id % 1024)) then s.postRing (id % 1024) sev kind addr data else s) :=
    .ite (s.postRing_eventFrame _ _ _ _ _) (.refl s)
  exact .ite (h.trans (State.signalVector_eventFrame _ _)) h

theorem State.groupEvent_eventFrame (s : State) (g : Nat) : EventFrame s (s.groupEvent g) := by
  have hrings : EventFrame s (s.qmg.crings.foldl
      (fun t r => if r.group = g && r.uncounted != 0 then t.ringFlush r.base (16 * r.depth) else t) s) :=
    .foldl (fun t _ => .ite (t.ringFlush_eventFrame _ _) (.refl t)) _ (.refl s)
  have hring (t : State) : EventFrame t
      ((if t.evt.group = g && t.evt.ringDepth != 0 then t.ringFlush t.evt.ringBase (32 * t.evt.ringDepth) else t).route (768 + g) 0 0 0 0) :=
    EventFrame.trans (.ite (t.ringFlush_eventFrame _ _) (.refl t)) (State.route_eventFrame _ _ _ _ _ _)
  have hroute := hrings.trans (hring _)
  exact .ite ((hroute.trans (.parts_ _ _ _ _ _ _ _ _)).trans (.parts_ _ _ _ _ _ _ _ _)) (hroute.trans (.parts_ _ _ _ _ _ _ _ _))

theorem State.postEvent_eventFrame (s : State) (id sev kind addr data : Nat) : EventFrame s (s.postEvent id sev kind addr data) := by
  have h := s.route_eventFrame id sev kind addr data
  exact .ite (h.trans (State.groupEvent_eventFrame _ _)) h

theorem State.event_eventFrame (s : State) (id data : Nat) : EventFrame s (s.event id data) := s.postEvent_eventFrame id 0 0 0 data

/-- A change of the stage: its field, and an event. -/
theorem State.setStage_eventFrame (s : State) (st : Nat) (h : s.stage ≠ st) :
    EventFrame (s.setF Fld.PLT_STAGE_STAGE st) (s.setStage st) := by
  rw [State.setStage, if_neg h]
  exact State.event_eventFrame _ _ _

theorem State.setStage_stage (s : State) (st : Nat) (h : st < 4) : (s.setStage st).stage = st := by
  by_cases hs : s.stage = st
  · rw [State.setStage, if_pos hs, hs]
  · rw [State.stage, (s.setStage_eventFrame st hs).getF _, State.getF_setF_same _ _ _ (by decide)]
    exact Nat.mod_eq_of_lt h

/-- Every field but the stage's keeps its value, where no event writes it. -/
theorem State.setStage_getF (s : State) (st : Nat) (f : FieldRef) (hf : f.addr ∉ eventRegs := by decide)
    (ha : fieldsApart Fld.PLT_STAGE_STAGE f = true := by decide) : (s.setStage st).getF f = s.getF f := by
  by_cases hs : s.stage = st
  · rw [State.setStage, if_pos hs]
  · rw [(s.setStage_eventFrame st hs).getF _ hf, State.getF_setF_apart _ _ _ _ ha]

theorem State.setStage_boot (s : State) (st : Nat) : (s.setStage st).boot = s.boot := by
  by_cases hs : s.stage = st
  · rw [State.setStage, if_pos hs]
  · rw [(s.setStage_eventFrame st hs).boot, State.setF_boot]

end Sys2Proof.Machine
end

section
/-!
SUPPORT. The start of Ochre from standstill, its restart and Cobalt (R70 to R75): what each leaves in the start-up's state.
-/
namespace Sys2Proof.Machine
open Sys2Proof

/-- What a first attempt sets up before the spindle starts (R70). -/
def State.ochreFirst (s : State) : State :=
  let s1 := (s.setF Fld.PLT_STAGE_ATTEMPT (s.getF Fld.PLT_STAGE_ATTEMPT + 1)).setStage 2
  { s1 with boot := { s1.boot with ochreRunning := true, retryWait := false, ochreStep := 0 },
            spm := { s1.spm with spinDown := false, blackBraked := false } }

theorem State.beginOchre_first {s : State} (h1 : s.stage = 1) (hk : s.boot.stageKept = false)
    (hs : s.isSet Fld.SPM_STATUS_AT_SPEED = false) (ha : s.getF Fld.PLT_STAGE_ATTEMPT < 255) :
    s.beginOchre true = s.ochreFirst.startSpin.settle := by
  have hmin : min (s.getF Fld.PLT_STAGE_ATTEMPT + 1) 255 = s.getF Fld.PLT_STAGE_ATTEMPT + 1 := by omega
  have hspeed : ((s.setF Fld.PLT_STAGE_ATTEMPT (s.getF Fld.PLT_STAGE_ATTEMPT + 1)).setStage 2).isSet Fld.SPM_STATUS_AT_SPEED = false := by
    rw [State.isSet, State.setStage_getF _ _ _, State.getF_setF_apart _ _ _ _ (by decide)]
    exact hs
  simp only [State.beginOchre, h1, show ¬ (1 : Nat) = 2 by decide, show ¬ (1 : Nat) = 3 by decide, hk, hmin, if_false, Bool.false_eq_true,
    hspeed, Bool.false_and, Bool.not_false, Bool.not_true, if_true]
  rfl

theorem State.ochreFirst_attempt (s : State) (ha : s.getF Fld.PLT_STAGE_ATTEMPT < 255) :
    s.ochreFirst.getF Fld.PLT_STAGE_ATTEMPT = s.getF Fld.PLT_STAGE_ATTEMPT + 1 := by
  refine (State.setStage_getF _ _ _).trans ?_
  rw [State.getF_setF_same _ _ _ (by decide)]
  exact Nat.mod_eq_of_lt (by omega : s.getF Fld.PLT_STAGE_ATTEMPT + 1 < 256)

theorem State.ochreFirst_stage (s : State) : s.ochreFirst.stage = 2 := State.setStage_stage _ 2 (by decide)

theorem State.restartOchre_fail (s : State) : s.restartOchre.getF Fld.PLT_STAGE_OCHRE_FAIL = 0 := by
  refine (State.setStage_getF _ _ _).trans ?_
  rw [State.getF_setF_apart _ _ _ _ (by decide), State.getF_setF_same _ _ _ (by decide)]
  rfl

theorem State.restartOchre_attempt (s : State) : s.restartOchre.getF Fld.PLT_STAGE_ATTEMPT = 0 := by
  refine (State.setStage_getF _ _ _).trans ?_
  rw [State.getF_setF_same _ _ _ (by decide)]
  rfl

/-- COBALT has its step 3 on both actuators (R73). -/
theorem cobalt_ready {s : State} (hr : s.boot.ochreRunning = true) (h3 : 3 ≤ s.boot.ochreStep) (hb : s.bothInService = true) :
    (!s.boot.ochreRunning || decide (s.boot.ochreStep < 3) || !s.bothInService) = false := by
  simp only [hr, Nat.not_lt.mpr h3, hb, decide_false, Bool.not_true, Bool.or_self]

/-- The start-up's own state as the object service opens (R75). -/
def State.cobaltBoot (s : State) : State :=
  { s with boot := { s.boot with
      ochreRunning := false, ochreStep := 7, restore := false, stageKept := false,
      cobaltMs := if !s.boot.restore then s.pwr.timeUs / 1000 % 2 ^ 32 else s.boot.cobaltMs } }

/-- The object service opens at a start: no return from the safe state to tell of. -/
theorem State.openCobalt_start {s : State} (h : s.boot.reopen = false) :
    s.openCobalt = (s.cobaltBoot.setF Fld.PLT_STAGE_FAILCODE 0).setStage 3 := by
  have hstart : (!s.boot.restore && !s.boot.reopen) = !s.boot.restore := by rw [h, Bool.not_false, Bool.and_true]
  have hno : ((s.cobaltBoot.setF Fld.PLT_STAGE_FAILCODE 0).setStage 3).boot.reopen = false := by
    rw [State.setStage_boot]
    exact h
  rw [State.openCobalt, hstart]
  exact if_neg (Bool.eq_false_iff.mp hno)

end Sys2Proof.Machine

open Sys2Proof Sys2Proof.Machine

/-- Settles O5: the requests by what allows them, the start from standstill, the restart, and Cobalt by the step that it ends with. -/
theorem spinUpAndOchreRunTheirEffect : Obligations.SpinUpAndOchreRunTheirEffect := by
  unfold Obligations.SpinUpAndOchreRunTheirEffect
  refine ⟨?_, ?_, ?_, ?_, ?_, ?_, ?_, ?_, ?_, ?_, ?_, ?_, ?_⟩
  · intro s hd h1 ha
    simp only [exec_spinUpNow, execSpinUpNow, State.spinUpNow, hd, h1, ha, decide_true, Bool.not_false, Bool.and_self, if_true]
  · intro s h
    simp only [exec_spinUpNow, execSpinUpNow, State.spinUpNow, h, decide_false, Bool.and_false, Bool.false_and, Bool.false_eq_true, if_false]
  · intro ok s h
    simp only [exec_ochreStart, execOchreStart, h, if_true]
  · intro s h1 hk hs ha
    exact ⟨s.ochreFirst, rfl, rfl, rfl, s.ochreFirst_stage, s.ochreFirst_attempt ha, rfl, State.beginOchre_first h1 hk hs ha⟩
  · intro s h hs
    have hon : ((decide (s.stage = 2) || (s.boot.stageKept && s.boot.ochreRunning)) && !s.isSet Fld.FCL_STATUS_SAFE) = true := by
      simpa [hs] using h
    simp only [exec_ochreDeadline, execOchreDeadline, hon, if_true]
  · intro ok s hw h1 hd hl h0 h1' hb
    simp only [exec_ochreRetry, execOchreRetry, hw, h1, hd, hl, h0, h1', hb, decide_true, Bool.not_false, Bool.and_self, if_true]
  · intro s hd h
    have hon : s.restartAccess = true := by simpa [State.restartAccess, hd] using h
    refine ⟨?_, rfl, rfl, rfl, rfl, s.restartOchre_fail, s.restartOchre_attempt⟩
    simp only [exec_restartOchre, execRestartOchre, hon, if_true]
  · intro s h
    have hno : s.restartAccess = false := by simp [State.restartAccess, h]
    simp only [exec_restartOchre, execRestartOchre, hno, Bool.false_eq_true, if_false]
  · intro lost stale offsets s u v hr h3 hb hi hv ho
    simp only [exec_cobalt, execCobalt, cobalt_ready hr h3 hb, Bool.false_eq_true, if_false, hi, bne_self_eq_false, ← hv, ho, if_true]
  · intro lost stale offsets s u v w hr h3 hb hi hv ho hw
    simp only [exec_cobalt, execCobalt, cobalt_ready hr h3 hb, Bool.false_eq_true, if_false, hi, bne_self_eq_false, ← hv, ho, hw]
  · intro lost stale offsets s u v hr h3 hb hi hv ho hw
    simp only [exec_cobalt, execCobalt, cobalt_ready hr h3 hb, Bool.false_eq_true, if_false, hi, bne_self_eq_false, ← hv, ho, hw]
  · intro lost stale offsets s u code hr h3 hb hi hcode
    simp only [exec_cobalt, execCobalt, cobalt_ready hr h3 hb, Bool.false_eq_true, if_false, hi, bne_iff_ne.mpr hcode, if_true]
  · intro s h
    rw [State.openCobalt_start h]
    refine ⟨?_, State.setStage_stage _ 3 (by decide), ?_, ?_, fun hr => ?_⟩
    · rw [State.setStage_boot]; rfl
    · rw [State.setStage_getF _ _ _, State.getF_setF_same _ _ _ (by decide)]; rfl
    · rw [State.setStage_boot]; rfl
    · rw [State.setStage_boot, State.setF_boot, State.cobaltBoot, hr]; rfl

end

section
/-!
SUPPORT. The die-to-die link goes down while both actuators are parked (R19, R20): nothing is retracted, and the bridge stays as it is.
-/
namespace Sys2Proof.Machine
open Sys2Proof

/-- What the motion die and the core die hold once the link is down. -/
def State.linkGone (s : State) : State :=
  { s.setF Fld.MFE_STATUS_LINK 0 with
    ash := { s.ash with declaredDown := true, beaconOn := true }, mfe := { s.mfe with pllOnLink := false },
    d2d := { s.d2d with coreUp := false } }

theorem State.linkGone_motionLinkUp (s : State) : s.linkGone.motionLinkUp = false := by
  have h : (s.setF Fld.MFE_STATUS_LINK 0).getF Fld.MFE_STATUS_LINK = 0 := State.getF_setF_same _ _ _ (by decide)
  exact bne_eq_false_iff_eq.mpr h

theorem State.motionLinkDown_parked {s : State} (hl : s.motionLinkUp = true) (h0 : s.parked 0 = true) (h1 : s.parked 1 = true)
    (hm : s.spinMode ≠ 5) : s.motionLinkDown = { s.setF Fld.MFE_STATUS_LINK 0 with
      ash := { s.ash with declaredDown := true, beaconOn := true }, mfe := { s.mfe with pllOnLink := false } } := by
  have hp (k : Nat) : (s.setF Fld.MFE_STATUS_LINK 0).parked k = s.parked k := by
    rw [State.parked, State.parked, State.isSet, State.isSet, State.getF_setF_apart]
    split <;> decide
  have hramp : (s.setF Fld.MFE_STATUS_LINK 0).offRamp = false := by
    rw [State.offRamp, hp, hp, h0, h1]
    rfl
  have hmode : (s.setF Fld.MFE_STATUS_LINK 0).getF Fld.SPM_CTRL_MODE ≠ 5 := by
    rw [State.getF_setF_apart _ _ _ _ (by decide)]
    exact hm
  rw [State.motionLinkDown, hl]
  exact (if_neg (Bool.eq_false_iff.mp hramp)).trans (if_neg hmode)

theorem State.linkLost_parked {s : State} (hl : s.motionLinkUp = true) (hc : s.d2d.coreUp = true) (h0 : s.parked 0 = true)
    (h1 : s.parked 1 = true) (hm : s.spinMode ≠ 5) : s.linkLost = ((s.linkGone.inhibitBoth 6).send 352 0 0).settle := by
  rw [State.linkLost, State.motionLinkDown_parked hl h0 h1 hm, State.coreLinkDown]
  exact congrArg State.settle (if_neg (by simp [hc]))

/-- The link is back, with media service left to a repeated Ochre (R21, R60). -/
def State.linkBack (s : State) : State :=
  ({ s.linkUp with
      ash := { s.linkUp.ash with beaconOn := s.linkUp.ash.beaconOn && !s.linkUp.boot.slateDone },
      boot := { s.linkUp.boot with ochreRunning := false, stageKept := false,
                                   restore := s.linkUp.boot.restore || decide (s.linkUp.stage = 3) } } : State).setF
    Fld.SPM_STATUS_AT_SPEED 0

end Sys2Proof.Machine

open Sys2Proof Sys2Proof.Machine

/-- Settles O6: each flit by its CRC and the resends before it, the loss of the link and its return, and the two timeouts. -/
theorem dieLinkEventsRunTheirEffect : Obligations.DieLinkEventsRunTheirEffect := by
  unfold Obligations.DieLinkEventsRunTheirEffect
  refine ⟨?_, ?_, ?_, ?_, ?_, ?_, ?_, ?_, ?_, ?_, ?_, ?_, ?_⟩
  · intro s h
    simp only [exec_d2dFlitReceive, execD2dFlitReceive, State.setResends, h, Bool.not_true, Bool.false_eq_true, if_false, if_true, and_self]
  · intro s h h4
    simp only [exec_d2dFlitReceive, execD2dFlitReceive, State.setResends, h, Bool.not_true, Bool.false_eq_true, if_false, h4, if_true]
  · intro s h h4
    simp only [exec_d2dFlitReceive, execD2dFlitReceive, State.setResends, h, Bool.not_true, Bool.false_eq_true, if_false, h4, if_true]
  · intro s h h4
    simp only [exec_d2dFlitReceive, execD2dFlitReceive, State.setResends, h, Bool.not_true, Bool.false_eq_true, if_false, Nat.not_lt.mpr h4]
  · intro s h h4
    simp only [exec_d2dFlitReceive, execD2dFlitReceive, State.setResends, h, Bool.not_true, Bool.false_eq_true, if_false, if_true,
      Nat.not_lt.mpr h4]
  · intro s h
    have h4 : (decide (s.d2d.resends = 4) || decide (s.d2d.motionResends = 4)) = true := by simpa using h
    rw [exec_d2dResendLimit, execD2dResendLimit, if_pos h4]
    rfl
  · intro s
    rfl
  · intro s hl hc h0 h1 hm
    exact ⟨s.linkGone, s.linkGone_motionLinkUp, rfl, rfl, rfl, rfl, State.linkLost_parked hl hc h0 h1 hm⟩
  · intro s hc h7 hdown
    have hon : (!s.coreRuns || decide (s.boot.slateStep < 7) || s.motionLinkUp && s.d2d.coreUp) = false := by
      obtain h | h := hdown <;> simp [hc, h, h7]
    refine ⟨s.linkBack, ?_, rfl, State.getF_setF_same _ _ _ (by decide), rfl, rfl⟩
    rw [exec_d2dLinkUp, execD2dLinkUp, hon]
    rfl
  · intro s h
    simp only [exec_referenceDeviation, execReferenceDeviation, h, Bool.not_true, Bool.false_eq_true, if_false]
  · intro s h
    simp only [exec_referenceDeviationCleared, execReferenceDeviationCleared, h, if_true]
  · intro k s u h hu
    have hq : u.qmg = s.qmg := by rw [hu]
    simp only [exec_mediaServiceTimeout, execMediaServiceTimeout, h, Bool.not_true, Bool.false_eq_true, if_false, ← hu, hq, State.done]
  · intro k s h
    simp only [exec_mediaServiceTimeout, execMediaServiceTimeout, h, Bool.not_false, if_true]

end

section
/-!
SUPPORT. Clock domains in a gate (R90), and a Tint period (R95, R96, R100).
-/
namespace Sys2Proof.Machine
open Sys2Proof

/-- One domain below the 112 is outside. -/
theorem clockOutside_single (d : Nat) (h : d < 112) :
    (List.range 112).filter (fun x => [d].contains x && !([] : List Nat).contains x) = [d] := by
  have hpred : (fun x => [d].contains x && !([] : List Nat).contains x) = (· == d) := by
    funext x
    simp [Bool.beq_eq_decide_eq]
  rw [hpred, List.filter_beq, List.count_eq_one_of_mem List.nodup_range (List.mem_range.mpr h)]
  rfl

/-- No class may take a transfer: the rounds go by and nothing is served. -/
theorem tintServe_idle (fuel room n idle : Nat) (may : Nat → Bool) (left : List Nat) (h : ∀ m, (may m && left.getD m 0 != 0) = false) :
    (tintServe fuel room n idle may left).1 = left := by
  induction fuel generalizing n idle with
  | zero => rfl
  | succ fuel ih =>
    rw [tintServe, h n]
    split
    · rfl
    · exact ih _ _

theorem getD_map_range (g : Nat → Nat) {n : Nat} (h : n < 16) : ((List.range 16).map g).getD n 0 = g n := by
  rw [List.getD_eq_getElem?_getD, List.getElem?_map, List.getElem?_range h]
  rfl

theorem getD_map_range_beyond (g : Nat → Nat) {n : Nat} (h : ¬ n < 16) : ((List.range 16).map g).getD n 0 = 0 :=
  List.getD_eq_default _ _ (by rw [List.length_map, List.length_range]; omega)

/-- Within the ceiling and with no class that may borrow, each class is served up to its own tokens (R95, R96). -/
theorem State.tintBudgeted_within {s : State} (tok asked : List Nat) (hslack : ∀ n, n < 16 → s.isSet (Fld.TNT_CLASS_SLACK n) = false)
    (hroom : tintSum ((List.range 16).map (fun n => min (asked.getD n 0) (tok.getD n 0))) false ≤
      s.getF Fld.TNT_TOTAL_TOTAL - tintSum tok true) :
    (s.tintBudgeted tok asked).left =
      (List.range 16).map (fun n => asked.getD n 0 - min (asked.getD n 0) (tok.getD n 0)) := by
  have hown (n : Nat) (hn : n ∈ List.range 16) : (if tintMedia n then
      ((List.range 16).map (fun n => min (asked.getD n 0) (tok.getD n 0))).getD n 0
      else ((List.range 16).map (fun n => min (asked.getD n 0) (tok.getD n 0))).getD n 0 - (List.replicate 16 0).getD n 0) =
        min (asked.getD n 0) (tok.getD n 0) := by
    rw [getD_map_range _ (List.mem_range.mp hn), List.getD_replicate _ (List.mem_range.mp hn), Nat.sub_zero, ite_self]
  have hleft (n : Nat) (hn : n ∈ List.range 16) : asked.getD n 0 -
      ((List.range 16).map (fun n => min (asked.getD n 0) (tok.getD n 0))).getD n 0 =
        asked.getD n 0 - min (asked.getD n 0) (tok.getD n 0) := by
    rw [getD_map_range _ (List.mem_range.mp hn)]
  simp only [State.tintBudgeted, if_pos hroom]
  rw [List.map_congr_left hown, List.map_congr_left hleft]
  refine tintServe_idle _ _ _ _ _ _ (fun m => ?_)
  by_cases hm : m < 16
  · rw [hslack m hm, Bool.and_false, Bool.false_and]
  · rw [getD_map_range_beyond _ hm, bne_self_eq_false, Bool.and_false]

theorem RegsOnly.obj {a s : State} (h : RegsOnly a s) : s.obj = a.obj := by obtain ⟨r, rfl⟩ := h; rfl

theorem State.tintRecord_regsOnly (s : State) (n issued left : Nat) : RegsOnly s (s.tintRecord n issued left) :=
  .ite ((RegsOnly.refl s).setF _ _) (((RegsOnly.refl s).setF _ _).setF _ _)

/-- What a period with budgets records of the sixteen classes. -/
def State.tintRecords (s : State) (asked left : List Nat) : State :=
  (List.range 16).foldl (fun x n => x.tintRecord n (asked.getD n 0 - left.getD n 0) (left.getD n 0)) s

theorem State.tintRecords_regsOnly (s : State) (asked left : List Nat) : RegsOnly s (s.tintRecords asked left) :=
  .foldl (fun t _ => t.tintRecord_regsOnly _ _ _) _ (.refl s)

/-- The budgets as they stand. -/
def State.tintBudgets (s : State) : List Nat := (List.range 16).map (fun n => s.getF (Fld.TNT_CLASS_TOKENS n))

/-- What a period leaves in Tint's own state: the budgets in both copies, what waits still, and the class that is next. -/
def State.tintLoaded (s x : State) (t : Tint) (fresh : List Nat) (r : TintServed) : State :=
  { x with tint := { x.tint with
      tokens := fresh, copy := fresh, asked := r.left,
      askedHost := t.askedHost - s.hostIssued t.askedHost (t.asked.getD 11 0 - t.askedHost) (t.asked.getD 11 0 - r.left.getD 11 0),
      next := r.next } }

/-- The state after a period with budgets, before a difference of the copies is told. -/
def State.tintPassed (s : State) (firmware : Nat) : State :=
  let t := (s.charge 12 firmware).tint
  let r := s.tintBudgeted t.tokens t.asked
  let x := s.tintRecords t.asked r.left
  x.tintLoaded x t x.tintBudgets r

theorem State.tintBudgets_length (s : State) : s.tintBudgets.length = 16 := by rw [State.tintBudgets, List.length_map]; rfl

section

variable (s x : State) (t : Tint) (fresh : List Nat) (r : TintServed)

theorem State.tintLoaded_pwr : (s.tintLoaded x t fresh r).pwr = x.pwr := rfl
theorem State.tintLoaded_obj : (s.tintLoaded x t fresh r).obj = x.obj := rfl
theorem State.tintLoaded_tokens : (s.tintLoaded x t fresh r).tint.tokens = fresh := rfl
theorem State.tintLoaded_copy : (s.tintLoaded x t fresh r).tint.copy = fresh := rfl
theorem State.tintLoaded_asked : (s.tintLoaded x t fresh r).tint.asked = r.left := rfl

end

theorem State.tintPassed_copy (s : State) (n : Nat) : (s.tintPassed n).tint.copy = (s.tintPassed n).tint.tokens := by
  rw [State.tintPassed, State.tintLoaded_copy, State.tintLoaded_tokens]

theorem State.tintPassed_length (s : State) (n : Nat) : (s.tintPassed n).tint.tokens.length = 16 := by
  rw [State.tintPassed, State.tintLoaded_tokens, State.tintBudgets_length]

theorem State.tintPassed_asked (s : State) (n : Nat) :
    (s.tintPassed n).tint.asked = (s.tintBudgeted s.tint.tokens (s.charge 12 n).tint.asked).left := by
  rw [State.tintPassed, State.tintLoaded_asked]
  rfl

theorem State.tintPassed_pwr (s : State) (n : Nat) : (s.tintPassed n).pwr = s.pwr := by
  rw [State.tintPassed, State.tintLoaded_pwr, (State.tintRecords_regsOnly _ _ _).pwr]

theorem State.tintPassed_obj (s : State) (n : Nat) : (s.tintPassed n).obj = s.obj := by
  rw [State.tintPassed, State.tintLoaded_obj, (State.tintRecords_regsOnly _ _ _).obj]

theorem State.tntReset_false {s : State} (h : s.tntReset = false) : (s.pwr.held || s.pwr.porstLow) = false := by
  simp only [State.tntReset, Bool.or_eq_false_iff] at h
  simp only [h, Bool.or_self]

/-- The second copy of the counter cells, with the cell that is found to differ (R95). -/
def State.tintCopy (s : State) (upset : Option (Nat × Nat)) : List Nat := (upset.map (fun u => s.tint.copy.set u.1 u.2)).getD s.tint.copy

theorem execTintPeriod_budgets {s : State} (firmware : Nat) (upset : Option (Nat × Nat)) (h : s.tntReset = false) :
    exec (.tintPeriod firmware upset) s = .next (
      if s.tintCopy upset = s.tint.tokens then s.tintPassed firmware else (s.tintPassed firmware).raise 32 0 0) := by
  simp only [exec_tintPeriod, execTintPeriod, h, State.tntReset_false h, Bool.false_eq_true, if_false, Bool.or_false]
  refine congrArg Host.Outcome.next (if_congr ?_ ?_ ?_)
  · rw [decide_eq_true_eq]
    cases upset <;> rfl
  · simp only [State.tintPassed, State.tintLoaded, State.tintRecords, State.tintBudgets]
  · simp only [State.tintPassed, State.tintLoaded, State.tintRecords, State.tintBudgets]

theorem execTintPeriod_reset {s : State} (firmware : Nat) (h : s.tntReset = true) :
    exec (.tintPeriod firmware none) s = .next (s.tintLoaded s (s.charge 12 firmware).tint
      (if s.pwr.held || s.pwr.porstLow then [] else s.tintBudgets) (s.tintUnbudgeted (s.charge 12 firmware).tint.asked)) := by
  simp only [exec_tintPeriod, execTintPeriod, h, if_true, Bool.or_true, State.tintLoaded, State.tintBudgets]

end Sys2Proof.Machine

open Sys2Proof Sys2Proof.Machine

/-- Settles O7: the gate of the monitors, the three kinds of period, FLOOR, and the window of the cores. -/
theorem budgetEventsRunTheirEffect : Obligations.BudgetEventsRunTheirEffect := by
  unfold Obligations.BudgetEventsRunTheirEffect
  refine ⟨?_, ?_, ?_, ?_, ?_, ?_, ?_, ?_, ?_, ?_, ?_, ?_, ?_⟩
  · intro out gated s h
    have hnone : ((List.range 112).filter (fun d => out.contains d && !gated.contains d)).filter
        (fun d => s.clk.outside.contains d) = [] := by
      rw [List.filter_eq_nil_iff]
      intro d hd hout
      simp only [List.mem_filter, Bool.and_eq_true, List.contains_iff_mem] at hd hout
      exact h d hd.2.1 hout
    simp only [exec_clockMonitorGate, execClockMonitorGate, hnone, List.foldl_nil]
  · intro d s hd ho
    have htwice : [d].filter (fun x => s.clk.outside.contains x) = [d] := by simp [ho]
    simp only [exec_clockMonitorGate, execClockMonitorGate, clockOutside_single d hd, htwice, List.foldl_cons, List.foldl_nil]
    rfl
  · intro firmware s h
    exact ⟨_, execTintPeriod_reset firmware h, rfl, rfl, rfl, rfl, rfl⟩
  · intro firmware s h hc
    refine ⟨s.tintPassed firmware, ?_, s.tintPassed_length _, s.tintPassed_copy _, s.tintPassed_asked _, s.tintPassed_pwr _,
      s.tintPassed_obj _⟩
    rw [execTintPeriod_budgets firmware none h]
    exact congrArg Host.Outcome.next (if_pos hc)
  · intro firmware n v s h hn hlen hc hv
    have hset : s.tint.copy.set n v ≠ s.tint.tokens := by
      intro he
      apply hv
      rw [← he, hc, List.getD_eq_getElem?_getD, List.getElem?_set_self (hlen ▸ hn), Option.getD_some]
    refine ⟨s.tintPassed firmware, s.tintPassed_copy _, s.tintPassed_length _, ?_⟩
    rw [execTintPeriod_budgets firmware _ h]
    exact congrArg _ (if_neg hset)
  · intro tok asked s hslack hroom n hn
    rw [State.tintBudgeted_within tok asked hslack hroom, getD_map_range _ hn]
  · intro k milliRevs f s hk hf
    refine ⟨fun h => ?_, fun h => ?_⟩
    · simp only [exec_floorRecompute, execFloorRecompute, hf, Nat.mod_eq_of_lt hk, gt_iff_lt, Nat.not_lt.mpr h, if_false]
    · simp only [exec_floorRecompute, execFloorRecompute, hf, Nat.mod_eq_of_lt hk, gt_iff_lt, h, if_true]
  · intro k milliRevs s hk hf
    simp only [exec_floorRecompute, execFloorRecompute, hf, Nat.mod_eq_of_lt hk]
  · intro s h
    simp only [exec_coreWindow, execCoreWindow, h, if_false]
  · intro s h
    simp only [exec_coreWindow, execCoreWindow, h, if_true]
  · intro c ran s hc hran
    refine ⟨?_, ?_⟩
    · simp only [exec_hostShareSwitch, execHostShareSwitch, hc, hran, decide_true, Bool.and_self, if_true]
    · simp only [exec_hostShareSwitch, execHostShareSwitch, Bool.and_false, Bool.false_and, Bool.false_eq_true, if_false]
  · intro ran s h
    simp only [exec_migrationCap, execMigrationCap, ge_iff_le, h, if_true]
  · intro ran s h
    simp only [exec_migrationCap, execMigrationCap, ge_iff_le, Nat.not_le.mpr h, if_false]

end

section
/-!
SUPPORT. Write-inhibit while a gate is low, where nothing is cut (R263, R264); the retracts of actuators whose gates are low; the first
move off the ramp (R292).
-/
namespace Sys2Proof.Machine
open Sys2Proof

/-- A source of write-inhibit is active exactly where its bit of PRE_WINH is set. -/
theorem State.bitOf_inhibits (s : State) (k bit : Nat) (h : bit ≤ 12) :
    bitOf (s.inhibits k) bit = s.isSet ⟨(Fld.PRE_WINH_ACTIVE k).addr, bit, bit⟩ := by
  have hw : bit + 1 - bit = 1 := by omega
  have h13 : bit < 13 := by omega
  rw [State.inhibits, State.isSet, State.getF, Word.get, Word.get, bitsOf, bitsOf, bitOf_testBit, pow_zero, Nat.div_one, hw,
    Nat.testBit_mod_two_pow]
  simp only [h13, decide_true, Bool.true_and, Nat.testBit_eq_decide_div_mod_eq, pow_one]
  rcases Nat.mod_two_eq_zero_or_one ((s.reg (Fld.PRE_WINH_ACTIVE k).addr).toNat / 2 ^ bit) with h | h <;> rw [h] <;> rfl

theorem State.inhibit_of_low {s : State} {k : Nat} (h : (s.chn k).wgate = false) (bit : Nat) :
    s.inhibit k bit = s.setF ⟨(Fld.PRE_WINH_ACTIVE k).addr, bit, bit⟩ 1 := by
  unfold State.inhibit
  simp [h]

theorem State.inhibit_sets_of_low {s : State} {k bit : Nat} (h : (s.chn k).wgate = false) (hb : bit ≤ 12) :
    bitOf ((s.inhibit k bit).inhibits k) bit = true := by
  have hw : bit + 1 - bit = 1 := by omega
  rw [State.inhibit_of_low h, State.bitOf_inhibits _ _ _ hb, State.isSet, State.getF_setF_same _ _ _ (by dsimp only; omega)]
  dsimp only
  rw [hw]
  rfl

@[simp] theorem State.chn_setRet (s : State) (k j : Nat) (r : Retract) : (s.setRet k r).chn j = s.chn j := by
  unfold State.setRet
  split <;> rfl

@[simp] theorem State.dict_setRet (s : State) (k : Nat) (r : Retract) : (s.setRet k r).dict = s.dict := by
  unfold State.setRet
  split <;> rfl

@[simp] theorem State.chn_setRetracting (s : State) (k j : Nat) (b : Bool) : (s.setRetracting k b).chn j = s.chn j := rfl

theorem State.holdMedia_of_low {s : State} {k : Nat} (h : (s.chn k).wgate = false) :
    (s.holdMedia k).dict = s.dict ∧ ∀ j, (s.holdMedia k).chn j = s.chn j := by
  unfold State.holdMedia
  split
  · exact ⟨rfl, fun _ => rfl⟩
  · rw [State.inhibit_of_low h]
    exact ⟨rfl, fun _ => rfl⟩

/-- A retract with the gate low cuts nothing: entries and channels stay. -/
theorem State.retract_of_low {s : State} {k : Nat} (h : (s.chn k).wgate = false) (cause : Nat) :
    (s.retract k cause).dict = s.dict ∧ ∀ j, (s.retract k cause).chn j = s.chn j := by
  obtain ⟨hd, hc⟩ := State.holdMedia_of_low h
  unfold State.retract
  split
  · exact ⟨rfl, fun _ => rfl⟩
  · refine ⟨?_, fun j => ?_⟩
    · split <;> simp [hd]
    · split <;> exact (State.chn_setRetracting _ k j true).trans ((State.chn_setRet _ k j _).trans (hc j))

theorem State.retractBoth_dict_of_low {s : State} (h0 : (s.chn 0).wgate = false) (h1 : (s.chn 1).wgate = false) (cause : Nat) :
    (s.retractBoth cause).dict = s.dict := by
  obtain ⟨hd, hc⟩ := State.retract_of_low h0 cause
  have h1' : ((s.retract 0 cause).chn 1).wgate = false := by rw [hc, h1]
  exact (State.retract_of_low h1' cause).1.trans hd

-- ---------------------------------------------------------------------------------------------------------------
-- Off the ramp (R292)

/-- An actuator that leaves the ramp, before its servo mode and write-inhibit bit 3. -/
def State.offTheRamp (s : State) (k : Nat) : State :=
  let s1 := (((s.emit (.vcmVelocity k (s.getF (Fld.MFE_PUSH_LOAD_VEL k)))).setParked k false).setDacZero k false).setRet k ⟨0, 0⟩
  if k = 0 then { s1 with mfe := { s1.mfe with coilShorted0 := false } } else { s1 with mfe := { s1.mfe with coilShorted1 := false } }

theorem State.leaveRamp_eq (s : State) (k : Nat) : s.leaveRamp k = ((s.offTheRamp k).setF (Fld.SRV_CTRL_MODE k) 2).inhibit k 3 := rfl

theorem State.offTheRamp_spec (s : State) (k : Nat) : (s.offTheRamp k).parked k = false ∧ (s.offTheRamp k).dict = s.dict ∧
    (s.offTheRamp k).chn k = s.chn k := by
  have hset : (s.setParked k false).parked k = false := by
    unfold State.parked State.setParked State.isSet
    rw [State.getF_setF_same _ _ _ (by split <;> decide)]
    split <;> rfl
  by_cases hk : k = 0
  · subst hk
    exact ⟨hset, rfl, rfl⟩
  · unfold State.offTheRamp State.setDacZero State.setRet
    simp only [if_neg hk]
    exact ⟨hset, rfl, rfl⟩

theorem State.leaveRamp_of_low {s : State} {k : Nat} (hk : k < 2) (h : (s.chn k).wgate = false) :
    (s.leaveRamp k).parked k = false ∧ (s.leaveRamp k).dict = s.dict ∧ bitOf ((s.leaveRamp k).inhibits k) 3 = true := by
  obtain ⟨hp, hd, hc⟩ := s.offTheRamp_spec k
  have hlow : (((s.offTheRamp k).setF (Fld.SRV_CTRL_MODE k) 2).chn k).wgate = false := (congrArg Chn.wgate hc).trans h
  rw [State.leaveRamp_eq]
  refine ⟨?_, ?_, State.inhibit_sets_of_low hlow (by decide)⟩
  · rw [State.inhibit_of_low hlow, ← hp]
    unfold State.parked State.isSet
    obtain rfl | rfl : k = 0 ∨ k = 1 := by omega
    · rw [State.getF_setF_apart _ _ _ _ (by decide), State.getF_setF_apart _ _ _ _ (by decide)]
    · rw [State.getF_setF_apart _ _ _ _ (by decide), State.getF_setF_apart _ _ _ _ (by decide)]
  · rw [State.inhibit_of_low hlow]
    exact hd

end Sys2Proof.Machine

open Sys2Proof Sys2Proof.Machine

/-- Settles O19: a load by what the marks and the plant model allow, a missed lock, and the two ends of an injection. -/
theorem headLoadsAndInjectionsRunTheirEffect : Obligations.HeadLoadsAndInjectionsRunTheirEffect := by
  unfold Obligations.HeadLoadsAndInjectionsRunTheirEffect
  refine ⟨?_, ?_, ?_, ?_, ?_, ?_, ?_, ?_, ?_, ?_, ?_, ?_⟩
  · intro k ws ident rcoil s h
    have hno : (!s.mayLoad k || !lockRun ws) = true := by simpa using h
    simp only [exec_headLoad, execHeadLoad, hno, if_true]
  · intro k ws ident rcoil s u hm hl hu hd hc
    have hon : (!s.mayLoad k || !lockRun ws) = false := by rw [hm, hl]; rfl
    simp only [exec_headLoad, execHeadLoad, hon, Bool.false_eq_true, if_false, ← hu, hd, hc, decide_true, Bool.and_self, if_true]
  · intro k ws ident rcoil w p s u a b c d e f hm hl hw hu hok hp ha hb hc hd he hf
    have hon : (!s.mayLoad k || !lockRun ws) = false := by rw [hm, hl]; rfl
    have hlast : ws.getLastD ⟨[], 0, [], [], 0, 0, 0, []⟩ = w := by
      rw [List.getLastD_eq_getLast?, hw]; rfl
    have hgoes : (u.deployed && decide (u.modelCoef k 2 = 0)) = false := by obtain h | h := hok <;> simp [h]
    simp only [exec_headLoad, execHeadLoad, hon, Bool.false_eq_true, if_false, ← hu, hgoes, hlast, ← hp, ← ha, ← hb, ← hc, ← hd,
      Bool.and_eq_true, decide_eq_true_eq, and_assoc, ← he, ← hf]
  · intro k s hk h
    exact State.leaveRamp_of_low hk h
  · intro k rcoil s h
    simp only [exec_loadNoLock, execLoadNoLock, h, Bool.not_false, if_true]
  · intro k rcoil s u h hu
    simp only [exec_loadNoLock, execLoadNoLock, h, Bool.not_true, Bool.false_eq_true, if_false, ← hu, ge_iff_le,
      apply_ite Host.Outcome.next]
  · intro code s
    rfl
  · intro s h
    rw [exec_injectionStart, execInjectionStart, State.startInjection, State.injectAllowed]
    obtain ⟨hm, hr⟩ | h | ⟨hs, hn⟩ := h
    · simp only [hm, hr, Bool.or_self, Bool.not_false, Bool.true_or, if_true]
    · simp only [h, Bool.or_true, if_true]
    · simp only [hs, Bool.false_eq_true, if_false, gt_iff_lt, hn, if_true, ite_self]
  · intro s h hn hs
    have hon : (!s.injectAllowed || s.cle.inject.isSome) = false := by simpa [State.injectAllowed, hn, or_iff_not_imp_left] using h
    simp only [exec_injectionStart, execInjectionStart, State.startInjection, hon, Bool.false_eq_true, if_false, hs, if_true]
  · intro kind node s u h hn hs hk hnode h9 hu
    have hon : (!s.injectAllowed || s.cle.inject.isSome) = false := by simpa [State.injectAllowed, hn, or_iff_not_imp_left] using h
    simp only [exec_injectionStart, execInjectionStart, State.startInjection, hon, Bool.false_eq_true, if_false, hs, ← hk, ← hnode,
      gt_iff_lt, Nat.not_lt.mpr h9, ← hu, ge_iff_le, apply_ite State.settle]
  · intro s h
    simp only [exec_captureComplete, execCaptureComplete, h]
  · intro x s u h hu
    simp only [exec_captureComplete, execCaptureComplete, h, ← hu, ge_iff_le]
    split
    · rfl
    · split <;> rfl

end

section
/-!
SUPPORT. A sector that is acquired into the sample ring (R175, R187, R188).
-/
namespace Sys2Proof.Machine
open Sys2Proof

theorem State.setRing_chn (s : State) (k : Nat) (l : List RingSector) : (s.setRing_ k l).chn k = { s.chn k with ring := l } :=
  s.chn_setChn k _

theorem State.setRing_disk (s : State) (k : Nat) (l : List RingSector) : (s.setRing_ k l).disk = s.disk := s.setChn_disk k _

theorem State.enterRing_chn (s : State) (k psa kind : Nat) (r : SampleRec) : (s.enterRing k psa kind r).chn k =
    { s.chn k with ringAt := ((s.chn k).ringAt + r.bytes) % 524288,
                   ring := (s.chn k).ring ++ [⟨psa, kind, r, 0, 0, (s.chn k).ringAt, false⟩] } := by
  rw [State.enterRing, State.setRing_chn, State.chn_setChn]

theorem State.enterRing_disk (s : State) (k psa kind : Nat) (r : SampleRec) : (s.enterRing k psa kind r).disk = s.disk := by
  rw [State.enterRing, State.setRing_disk, State.setChn_disk]

theorem State.bgCharge_chn (s : State) (k wedges j : Nat) : (s.bgCharge k wedges).chn j = s.chn j := by
  unfold State.bgCharge
  split <;> rfl

/-- A sector that was acquired, as it enters the ring: no longer to be read again. -/
def State.acquired (s : State) (k psa kind : Nat) (r : SampleRec) : State :=
  let s1 := s.setChn k { s.chn k with slips := (s.chn k).slips.filter (· != psa), lost := (s.chn k).lost.filter (· != psa) }
  ({ s1 with dec := { s1.dec with again := s1.dec.again.filter (fun x => x.1 != psa) } } : State).enterRing k psa kind r

theorem State.acquired_chn (s : State) (k psa kind : Nat) (r : SampleRec) : (s.acquired k psa kind r).chn k =
    { s.chn k with
        slips := (s.chn k).slips.filter (· != psa), lost := (s.chn k).lost.filter (· != psa),
        ringAt := ((s.chn k).ringAt + r.bytes) % 524288,
        ring := (s.chn k).ring ++ [⟨psa, kind, r, 0, 0, (s.chn k).ringAt, false⟩] } := by
  have h := s.chn_setChn k { s.chn k with slips := (s.chn k).slips.filter (· != psa), lost := (s.chn k).lost.filter (· != psa) }
  refine (State.enterRing_chn _ k psa kind r).trans ?_
  rw [show ∀ (t : State) d, ({ t with dec := d } : State).chn k = t.chn k from fun _ _ => rfl, h]

theorem State.acquired_disk (s : State) (k psa kind : Nat) (r : SampleRec) : (s.acquired k psa kind r).disk = s.disk :=
  (State.enterRing_disk _ k psa kind r).trans (s.setChn_disk k _)

/-- What SECTOR_READ makes of a sector that it acquires. -/
theorem exec_sectorRead_acquires {k psa kind : Nat} {cap : Capture} {copied : Bool} {follow : Option Nat} {s s0 s1 : State} {r : SampleRec}
    (hb : s.readBlocked k psa = false) (hr : s.underRecovery psa = false)
    (hroom : ((s.chn k).ring.filter (fun r => !r.copied)).length < ringSize)
    (hbg : kind = 3 → s.bgAllowed k (s.sectorSpan psa) (s.foregroundQueued k) = true)
    (h0 : s0 = if kind = 3 then s.bgCharge k (s.sectorSpan psa) else s) (ha : s0.acquire k psa cap follow = (s1, r)) :
    exec (.sectorRead k psa kind cap copied follow) s = .next (
      if r.cands.isEmpty then (s1.acquired k psa kind r).erase k psa kind 1 ⟨psa, kind, r, 0, 1, (s1.chn k).ringAt, false⟩
      else (s1.acquired k psa kind r).addWork (firstTrial k psa kind r)) := by
  have hread : (s.readBlocked k psa || s.underRecovery psa) = false := by rw [hb, hr]; rfl
  have hfree : (decide (kind = 3) && !s.bgAllowed k (s.sectorSpan psa) (s.foregroundQueued k)) = false := by
    by_cases h3 : kind = 3
    · rw [hbg h3, Bool.not_true, Bool.and_false]
    · simp only [h3, decide_false, Bool.false_and]
  have hring : s0.ringRoom k copied = some s0 := by
    have hchn : s0.chn k = s.chn k := by
      rw [h0]
      split
      · exact s.bgCharge_chn k _ k
      · rfl
    rw [State.ringRoom, hchn, if_pos hroom]
  have hat : ∀ d, ({ s1.setChn k { s1.chn k with slips := (s1.chn k).slips.filter (· != psa), lost := (s1.chn k).lost.filter (· != psa) }
      with dec := d } : State).chn k = { s1.chn k with slips := (s1.chn k).slips.filter (· != psa), lost := (s1.chn k).lost.filter (· != psa) } :=
    fun _ => s1.chn_setChn k _
  simp only [exec_sectorRead, execSectorRead, hread, hfree, Bool.false_eq_true, if_false, ← h0, hring, ha, hat]
  rfl

end Sys2Proof.Machine

open Sys2Proof Sys2Proof.Machine

/-- Settles O11: a read by the room of the ring and what it acquires, and the decoder's own events. -/
theorem channelEventsRunTheirEffect : Obligations.ChannelEventsRunTheirEffect := by
  unfold Obligations.ChannelEventsRunTheirEffect
  refine ⟨?_, ?_, ?_, ?_, ?_, ?_, ?_, ?_, ?_⟩
  · intro k psa kind cap follow s hb hr h3 hfull
    have hread : (s.readBlocked k psa || s.underRecovery psa) = false := by rw [hb, hr]; rfl
    have hring : s.ringRoom k false = none := by
      rw [State.ringRoom, if_neg (Nat.not_lt.mpr hfull)]
      rfl
    refine ⟨(s.bumpF (Fld.CHN_ERRCNT1_REV_SLIP k) 1).setChn k { s.chn k with slips := insertNat psa (s.chn k).slips }, ?_,
      State.chn_setChn _ _ _, ?_, ?_, ?_⟩
    · simp only [exec_sectorRead, execSectorRead, hread, Bool.false_eq_true, if_false, h3, decide_false, Bool.false_and, hring]
    · rw [State.setChn_dec]; rfl
    · rw [State.setChn_dict]; rfl
    · rw [State.setChn_disk]; rfl
  · intro k psa kind cap copied follow s s0 s1 r hb hr hroom hbg h0 ha hc
    refine ⟨s1.acquired k psa kind r, State.acquired_chn .., State.acquired_disk .., ?_⟩
    rw [exec_sectorRead_acquires hb hr hroom hbg h0 ha, if_neg (by rw [List.isEmpty_iff]; exact hc)]
  · intro k psa kind cap copied follow s s0 s1 r hb hr hroom hbg h0 ha hc
    refine ⟨s1.acquired k psa kind r, congrArg Chn.ring (State.acquired_chn ..), State.acquired_disk .., ?_⟩
    rw [exec_sectorRead_acquires hb hr hroom hbg h0 ha, if_pos (by rw [List.isEmpty_iff]; exact hc)]
  · intro k psa cap copied follow s hb hr hbg
    simp only [exec_sectorRead, execSectorRead, hb, hr, hbg, Bool.or_self, Bool.false_eq_true, if_false, decide_true, Bool.not_false,
      Bool.and_self, if_true]
  · intro k psa kind cap copied follow s h
    have hread : (s.readBlocked k psa || s.underRecovery psa) = true := by simpa using h
    simp only [exec_sectorRead, execSectorRead, hread, if_true]
  · intro n s
    rfl
  · intro n w s h
    simp only [exec_decodeOvertime, execDecodeOvertime, h]
  · intro k r s u h hu
    simp only [exec_sampleCopyDone, execSampleCopyDone, h, State.copyDone, ← hu]
  · intro k psa kind r untried s h8 h1024
    rw [State.storeRev, if_neg (Nat.not_le.mpr h8), if_pos h1024]
    rfl

end

section
/-!
SUPPORT. What the fault collector leaves alone: a source that is raised, with every message that waits, its reaction and the resets of units
that it brings (R601 to R610), touches neither the object store's own state nor the copy of the defect list.
-/
namespace Sys2Proof.Machine
open Sys2Proof

/-- s has the object store's state of a, and its copy of the defect list. -/
structure ObjKept (a s : State) : Prop where
  obj : s.obj = a.obj
  copy : s.nvc.defectCopy = a.nvc.defectCopy

namespace ObjKept

variable {a s t : State}

theorem refl (a : State) : ObjKept a a := ⟨rfl, rfl⟩

theorem trans (h : ObjKept a s) (h' : ObjKept s t) : ObjKept a t := ⟨h'.obj.trans h.obj, h'.copy.trans h.copy⟩

/-- An update of other parts, before what h tells of. -/
theorem after (h : ObjKept s t) (ho : s.obj = a.obj) (hc : s.nvc.defectCopy = a.nvc.defectCopy) : ObjKept a t :=
  trans ⟨ho, hc⟩ h

theorem of_regs (h : RegsOnly a s) : ObjKept a s := by
  obtain ⟨_, rfl⟩ := h
  exact ⟨rfl, rfl⟩

theorem of_gate (h : GateFrame a s) : ObjKept a s := ⟨h.obj, congrArg Nvc.defectCopy h.nvc⟩

theorem of_event (h : EventFrame a s) : ObjKept a s := by
  obtain ⟨⟨_, _, _, _, _, _, _, _, rfl⟩, _⟩ := h
  exact ⟨rfl, rfl⟩

theorem ite {c : Prop} [Decidable c] (h : ObjKept a s) (h' : ObjKept a t) : ObjKept a (if c then s else t) := by
  split
  · exact h
  · exact h'

theorem foldl {α : Type} {g : State → α → State} (hg : ∀ t x, ObjKept t (g t x)) (l : List α) (h : ObjKept a s) :
    ObjKept a (l.foldl g s) := by
  induction l generalizing s with
  | nil => exact h
  | cons x l ih => exact ih (h.trans (hg s x))

theorem setF (a : State) (f : FieldRef) (v : Nat) : ObjKept a (a.setF f v) := ⟨rfl, rfl⟩
theorem setReg (a : State) (x : Nat) (w : Word) : ObjKept a (a.setReg x w) := ⟨rfl, rfl⟩
theorem stat (a : State) (i j d : Nat) : ObjKept a (a.stat i j d) := ⟨rfl, rfl⟩
theorem emit (a : State) (o : Out) : ObjKept a (a.emit o) := ⟨rfl, rfl⟩
theorem send (a : State) (x y z : Nat) : ObjKept a (a.send x y z) := ⟨rfl, rfl⟩

theorem setChn (a : State) (k : Nat) (c : Chn) : ObjKept a (a.setChn k c) := of_gate (a.setChn_gateFrame k c)

theorem setPre (a : State) (k : Nat) (p : Pre) : ObjKept a (a.setPre k p) := by
  unfold State.setPre
  exact ite ⟨rfl, rfl⟩ ⟨rfl, rfl⟩

theorem setSrv (a : State) (k : Nat) (v : Srv) : ObjKept a (a.setSrv k v) := by
  unfold State.setSrv
  exact ite ⟨rfl, rfl⟩ ⟨rfl, rfl⟩

end ObjKept

-- ---------------------------------------------------------------------------------------------------------------
-- The event log (R642)

theorem State.programUnit_objKept (s : State) (u : Nat) (bs : List Byte) : ObjKept s (s.programUnit u bs) := by
  unfold State.programUnit
  split <;> exact ⟨rfl, rfl⟩

theorem State.programUnits_objKept (s : State) (u : Nat) (bs : List Byte) : ObjKept s (s.programUnits u bs) :=
  .foldl (fun t _ => t.programUnit_objKept _ _) _ ⟨rfl, rfl⟩

theorem State.setImage_objKept (s : State) (b : Nat) (i : Option Image) : ObjKept s (s.setImage b i) :=
  .ite ⟨rfl, rfl⟩ ⟨rfl, rfl⟩

theorem State.dropRecord_objKept (s : State) (b : Nat) : ObjKept s (s.dropRecord b) :=
  .ite (s.setImage_objKept _ _) (.ite (s.setImage_objKept _ _) ⟨rfl, rfl⟩)

theorem State.blockErased_objKept (s : State) (b : Nat) : ObjKept s (s.blockErased b) := by
  have hdrop : ObjKept s (State.dropRecord { s with nvc := { s.nvc.erased b with
      areas := (s.nvc.erased b).areas.filter (fun (x : AreaBlock) => 1536 + x.block != b),
      records := (s.nvc.erased b).records.filter (fun (x : AreaRecord) => 1536 + x.block != b) } } b) :=
    (State.dropRecord_objKept _ b).after rfl rfl
  unfold State.blockErased
  dsimp only
  split <;> exact hdrop.trans ⟨rfl, rfl⟩

theorem State.areaPut_objKept (s : State) (h : AreaBlock) (bs : List Byte) : ObjKept s (s.areaPut h bs) :=
  ((s.programUnits_objKept _ _).trans (.stat _ _ _ _)).trans ⟨rfl, rfl⟩

theorem State.openBlock_objKept (s : State) (a : Nat) : ObjKept s (s.openBlock a) := by
  have herase (b : Nat) : ObjKept s (if (s.nvc.units.any fun p => decide (p.1 / 2048 = 1536 + b)) = true then
      (s.blockErased (1536 + b)).stat 0x8220 2 1 else s) := .ite ((s.blockErased_objKept _).trans ⟨rfl, rfl⟩) (.refl s)
  unfold State.openBlock
  split
  · exact .refl s
  · exact ((State.areaPut_objKept _ _ _).after rfl rfl).after (herase _).obj (herase _).copy

theorem State.logRoom_objKept (s : State) : ObjKept s s.logRoom := by
  unfold State.logRoom
  refine .ite (.refl s) (.ite (s.openBlock_objKept 4) ?_)
  split
  · exact .refl s
  · exact (State.openBlock_objKept _ 4).after rfl rfl

theorem State.drainBatch_objKept (s : State) : ObjKept s s.drainBatch := by
  unfold State.drainBatch
  dsimp only
  split
  · exact s.logRoom_objKept
  · exact (s.logRoom_objKept.trans (State.areaPut_objKept _ _ _)).trans ⟨rfl, rfl⟩

theorem State.drainLog_objKept (s : State) : ObjKept s s.drainLog :=
  .foldl (fun t _ => .ite ⟨rfl, rfl⟩ t.drainBatch_objKept) _ ⟨rfl, rfl⟩

theorem State.logFault_objKept (s : State) (m : FaultMsg) : ObjKept s (s.logFault m) :=
  .ite ((State.drainLog_objKept _).after rfl rfl) ⟨rfl, rfl⟩

-- ---------------------------------------------------------------------------------------------------------------
-- Forwarding (R592, R604)

theorem State.canSend_objKept (s : State) (id : Nat) (bs : List Byte) : ObjKept s (s.canSend id bs) := .ite ⟨rfl, rfl⟩ ⟨rfl, rfl⟩

theorem State.eventFrame_objKept (s : State) (m : FaultMsg) : ObjKept s (s.eventFrame m) :=
  .ite ⟨rfl, rfl⟩ (.ite ⟨rfl, rfl⟩ ((State.canSend_objKept _ _ _).after rfl rfl))

theorem State.forward_objKept (s : State) (m : FaultMsg) : ObjKept s (s.forward m) :=
  ((s.logFault_objKept m).trans (.ite (.of_event (State.postEvent_eventFrame _ _ _ _ _ _)) ⟨rfl, rfl⟩)).trans
    (State.eventFrame_objKept _ m)

-- ---------------------------------------------------------------------------------------------------------------
-- The decoder's pool (R210, R211)

theorem State.setInst_objKept (s : State) (n : Nat) (w : Option Work) (iter : Nat) : ObjKept s (s.setInst n w iter) := by
  unfold State.setInst
  cases w <;> exact ⟨rfl, rfl⟩

theorem State.takeWork_objKept (s : State) (i : Nat) (w : Work) : ObjKept s (s.takeWork i w) :=
  (State.setInst_objKept _ _ _ _).after rfl rfl

theorem State.fillPool_objKept (s : State) (n : Nat) : ObjKept s (s.fillPool n) := by
  induction n generalizing s with
  | zero => exact ⟨rfl, rfl⟩
  | succ n ih =>
    unfold State.fillPool
    split
    · exact ⟨rfl, rfl⟩
    · split
      · exact (s.takeWork_objKept _ _).trans (ih _)
      · exact ⟨rfl, rfl⟩

theorem State.showPool_objKept (s : State) : ObjKept s s.showPool :=
  ((ObjKept.foldl (fun t _ => .setF t _ _) _ ⟨rfl, rfl⟩).trans (.setF _ _ _)).trans (.setF _ _ _)

theorem State.refillPool_objKept (s : State) : ObjKept s s.refillPool := s.showPool_objKept.trans (State.fillPool_objKept _ _)

-- ---------------------------------------------------------------------------------------------------------------
-- Units that are reset (R608)

theorem State.chnReset_objKept (s : State) (k : Nat) : ObjKept s (s.chnReset k) :=
  (State.refillPool_objKept _).after (ObjKept.setChn s k _).obj (ObjKept.setChn s k _).copy

theorem State.preReset_objKept (s : State) (k : Nat) : ObjKept s (s.preReset k) := (ObjKept.setPre s k _).trans (.setChn _ k _)

theorem State.resetHidden_objKept (s : State) (u : Nat) : ObjKept s (s.resetHidden u) := by
  unfold State.resetHidden
  split
  case h_1 => exact s.chnReset_objKept 0
  case h_2 => exact s.chnReset_objKept 1
  case h_3 => exact s.preReset_objKept 0
  case h_4 => exact s.preReset_objKept 1
  case h_5 => exact .setSrv s 0 _
  case h_6 => exact .setSrv s 1 _
  all_goals exact ⟨rfl, rfl⟩

theorem State.resetRegsOf_objKept (s : State) (u : Nat) : ObjKept s (s.resetRegsOf u) := .of_regs (s.resetRegsOf_regsOnly u)

theorem State.canUp_objKept (s : State) : ObjKept s s.canUp := ((ObjKept.setF _ _ _).trans (.setF _ _ _)).trans (.setF _ _ _)

theorem State.resetUnit_objKept (s : State) (u : Nat) : ObjKept s (s.resetUnit u) := by
  unfold State.resetUnit
  extract_lets s1
  have h : ObjKept s s1 := (s.resetHidden_objKept u).trans (State.resetRegsOf_objKept _ u)
  exact .ite (h.trans ((ObjKept.setF _ _ _).trans (.setF _ _ _))) (.ite (h.trans (State.canUp_objKept _)) h)

theorem State.forgetRunout_objKept (s : State) (k : Nat) : ObjKept s (s.forgetRunout k) :=
  ObjKept.after (.setF _ _ _) rfl rfl

theorem State.inhibit_objKept (s : State) (k bit : Nat) : ObjKept s (s.inhibit k bit) := .of_gate (s.inhibit_gateFrame k bit)

theorem State.inhibitBoth_objKept (s : State) (bit : Nat) : ObjKept s (s.inhibitBoth bit) := .of_gate (s.inhibitBoth_gateFrame bit)

theorem State.retractBoth_objKept (s : State) (cause : Nat) : ObjKept s (s.retractBoth cause) := .of_gate (s.retractBoth_gateFrame cause)

theorem State.dropVolatile_objKept (s : State) (b : Nat) : ObjKept s (s.dropVolatile b) := ⟨rfl, rfl⟩

theorem State.mediaReset_objKept (s : State) (k : Nat) : ObjKept s (s.mediaReset k) := by
  unfold State.mediaReset
  extract_lets s0 s1 s2 s3 _ _ s4
  have h0 : ObjKept s s0 := (s.inhibit_objKept k 10).trans (.of_gate (State.retract_gateFrame _ k 0))
  have h1 : ObjKept s s1 := (h0.trans (State.resetUnit_objKept _ (13 + k))).trans (State.resetHidden_objKept _ (16 + k))
  have h2 : ObjKept s s2 := (h1.trans (State.resetRegsOf_objKept _ (16 + k))).trans (State.resetUnit_objKept _ (18 + k))
  have h4 : ObjKept s s4 := h2.trans ⟨rfl, rfl⟩
  exact (h4.trans (State.refillPool_objKept _)).trans (State.forgetRunout_objKept _ k)

theorem State.endInjection_objKept (s : State) : ObjKept s s.endInjection := by
  unfold State.endInjection
  split
  · exact .ite ⟨rfl, rfl⟩ ⟨rfl, rfl⟩
  · exact ⟨rfl, rfl⟩

theorem State.reverseBrake_objKept (s : State) : ObjKept s s.reverseBrake := by
  unfold State.reverseBrake
  extract_lets s1
  have h1 : ObjKept s s1 := .ite (.of_gate s.bridgeOff_gateFrame) ⟨rfl, rfl⟩
  exact h1.trans ⟨rfl, rfl⟩

theorem State.startSpin_objKept (s : State) : ObjKept s s.startSpin :=
  .ite (.refl s) (.ite ⟨rfl, rfl⟩ (.ite s.reverseBrake_objKept (.ite ⟨rfl, rfl⟩ ⟨rfl, rfl⟩)))

theorem State.setSpm_objKept (s : State) (m : Spm) : ObjKept s (s.setSpm m) := ⟨rfl, rfl⟩

theorem State.motionReset_objKept (s : State) : ObjKept s s.motionReset := by
  unfold State.motionReset
  extract_lets s0 s1 _ _ s2 s3
  have h0 : ObjKept s s0 := ((((s.inhibitBoth_objKept 10).trans (State.retractBoth_objKept _ 6)).trans
    (.of_gate (State.bridgeOff_gateFrame _))).trans (State.endInjection_objKept _)).trans (State.dropVolatile_objKept _ 6)
  have h1 : ObjKept s s1 :=
    ((h0.trans (State.resetUnit_objKept _ 20)).trans (State.resetUnit_objKept _ 21)).trans (State.resetRegsOf_objKept _ 22)
  have h2 : ObjKept s s2 := h1.trans ⟨rfl, rfl⟩
  have h3 : ObjKept s s3 := (h2.trans (State.forgetRunout_objKept _ 0)).trans (State.forgetRunout_objKept _ 1)
  exact .ite h3 (.ite (h3.trans (s3.setSpm_objKept _)) (.ite (h3.trans s3.startSpin_objKept) h3))

theorem State.cleReset_objKept (s : State) : ObjKept s s.cleReset := by
  unfold State.cleReset
  extract_lets s1
  have h1 : ObjKept s s1 := ((s.retractBoth_objKept 6).trans (State.endInjection_objKept _)).trans (State.resetUnit_objKept _ 20)
  exact h1.trans ⟨rfl, rfl⟩

-- ---------------------------------------------------------------------------------------------------------------
-- The preamplifier taken up again (R251)

theorem State.preampTakes_objKept (s : State) (k addr data : Nat) : ObjKept s (s.preampTakes k addr data) := by
  unfold State.preampTakes
  split
  · exact (ObjKept.setPre s k _).trans (.setF _ _ _)
  · exact (ObjKept.setPre s k _).trans (.setF _ _ _)
  · exact (ObjKept.setPre s k _).trans (.setF _ _ _)
  · exact .setPre s k _
  · exact .ite (.setPre s k _) (.refl s)

theorem State.preampFrame_objKept (s : State) (k : Nat) (read : Bool) (addr data : Nat) : ObjKept s (s.preampFrame k read addr data) :=
  .emit s _

theorem State.preampWrite_objKept (s : State) (k addr data : Nat) (back : List Nat) : ObjKept s (s.preampWrite k addr data back) := by
  unfold State.preampWrite
  extract_lets s1 s2 s3
  have h1 : ObjKept s s1 := (s.preampFrame_objKept k false addr data).trans (State.preampTakes_objKept _ k addr data)
  have h2 : ObjKept s s2 := h1.trans (State.preampFrame_objKept _ k true addr 0)
  have h3 : ObjKept s s3 := ((h2.trans (.send _ _ 0 0)).trans (State.preampFrame_objKept _ k false addr data)).trans
    (State.preampFrame_objKept _ k true addr 0)
  exact .ite h1 (.ite (h2.trans (.send _ _ 0 0)) (.ite h2 (.ite h3 ((h3.trans (.setPre _ k _)).trans (.send _ _ 0 0)))))

theorem ObjKept.setDictNum (s : State) (x sub n v : Nat) : ObjKept s (s.setDictNum x sub n v) := ⟨rfl, rfl⟩

theorem State.preampIdent_objKept (s : State) (k : Nat) : ObjKept s (s.preampIdent k) := by
  unfold State.preampIdent
  extract_lets s1 v
  have h1 : ObjKept s s1 := s.preampFrame_objKept k true 0 0
  have hfree : ObjKept s s1.useFree := h1.trans ⟨rfl, rfl⟩
  exact .ite ((h1.trans (.setDictNum _ _ _ _ _)).trans (.send _ _ 0 0))
    ((hfree.trans (.setPre _ k _)).trans (.setDictNum _ _ _ _ _))

theorem State.packLin_objKept (s : State) (k : Nat) : ObjKept s (s.packLin k) := .of_regs (s.packBytes_regsOnly _ _)

theorem State.preampInit_objKept (s : State) (k head : Nat) : ObjKept s (s.preampInit k head) := by
  unfold State.preampInit
  extract_lets s1
  have h1 : ObjKept s s1 := (((s.preampIdent_objKept k).trans (State.preampWrite_objKept _ k 2 head [])).trans
    (State.preampWrite_objKept _ k 3 7 [])).trans (State.preampWrite_objKept _ k 1 2 [])
  exact (h1.trans (.setPre _ k _)).trans (State.packLin_objKept _ k)

theorem State.resetPre_objKept (s : State) (k : Nat) : ObjKept s (s.resetPre k) := by
  unfold State.resetPre
  extract_lets act s1
  exact ((s.resetUnit_objKept (16 + k)).trans (.setReg _ _ _)).trans (State.preampInit_objKept _ k _)

-- ---------------------------------------------------------------------------------------------------------------
-- Reactions (R605 to R610)

theorem State.gateLow_objKept (s : State) (k : Nat) : ObjKept s (s.gateLow k) :=
  .ite (((ObjKept.setChn s k _).trans (.setF _ _ _)).trans (.emit _ _)) (.refl s)

theorem State.reactionReset_objKept (s : State) (u : Nat) : ObjKept s (s.reactionReset u) := by
  unfold State.reactionReset
  split
  · exact (((s.mediaReset_objKept 0).trans (State.mediaReset_objKept _ 1)).trans (State.resetHidden_objKept _ 15)).trans
      (State.resetRegsOf_objKept _ 15)
  · exact s.cleReset_objKept
  · exact s.motionReset_objKept
  · exact (s.gateLow_objKept 0).trans (State.resetUnit_objKept _ 13)
  · exact (s.gateLow_objKept 1).trans (State.resetUnit_objKept _ 14)
  · exact (s.gateLow_objKept 0).trans (State.resetPre_objKept _ 0)
  · exact (s.gateLow_objKept 1).trans (State.resetPre_objKept _ 1)
  · exact s.resetUnit_objKept u

theorem State.sourceReset_objKept (s : State) (src sev : Nat) : ObjKept s (s.sourceReset src sev) := by
  unfold State.sourceReset
  refine .ite (.refl s) ?_
  split
  · exact .refl s
  · exact s.reactionReset_objKept _

theorem State.testReset_objKept (s : State) (u : Nat) : ObjKept s (s.testReset u) := by
  unfold State.testReset
  split
  · exact s.resetRegsOf_objKept 22
  · exact s.reactionReset_objKept _

theorem State.testOver_objKept (s : State) (result detail : Nat) : ObjKept s (s.testOver result detail) := by
  unfold State.testOver
  extract_lets _ s1 s2 _ s3
  have h1 : ObjKept s s1 := by
    cases h : s.tst.took <;> simp only [s1, h] <;> exact ⟨rfl, rfl⟩
  have h2 : ObjKept s s2 := h1.foldl (fun t u => t.testReset_objKept u) _
  have h3 : ObjKept s s3 := h2.trans ⟨rfl, rfl⟩
  exact ((h3.trans (.setF _ _ _)).trans (.setF _ _ _)).trans (.setF _ _ _)

theorem State.abandonTest_objKept (s : State) : ObjKept s s.abandonTest := by
  unfold State.abandonTest
  split
  · exact .ite (s.testOver_objKept 4 0) (.refl s)
  · exact .refl s

theorem State.cxlFatal_objKept (s : State) (bit : Nat) : ObjKept s (s.cxlFatal bit) := ⟨rfl, rfl⟩

theorem State.enterSafe_objKept (s : State) (src : Nat) : ObjKept s (s.enterSafe src) := by
  unfold State.enterSafe
  extract_lets s1 s2 brake _ _ s3
  have h1 : ObjKept s s1 := (ObjKept.of_event (s.event_eventFrame 516 src)).trans (.setF _ _ _)
  have h2 : ObjKept s s2 := (h1.trans (State.inhibitBoth_objKept _ 8)).trans (State.retractBoth_objKept _ 8)
  have h3 : ObjKept s s3 := h2.trans ⟨rfl, rfl⟩
  exact h3.trans (State.cxlFatal_objKept _ 14)

theorem State.react_objKept (s : State) (src : Nat) : ObjKept s (s.react src) := by
  unfold State.react
  split
  · extract_lets sev s1 s2 s3 _ s4 s5
    have h2 : ObjKept s s2 := .ite (((ObjKept.setF _ _ _).trans (.setF _ _ _)).trans (.stat _ _ _ _))
      ((ObjKept.setF _ _ _).trans (.setF _ _ _))
    have h3 : ObjKept s s3 := h2.trans (.setF _ _ _)
    have h4 : ObjKept s s4 := h3.trans ⟨rfl, rfl⟩
    have h5 : ObjKept s s5 := .ite (h4.trans (State.enterSafe_objKept _ src)) h4
    exact .ite h2 ((h5.trans (State.sourceReset_objKept _ src sev)).trans (State.abandonTest_objKept _))
  · extract_lets sev top _ s1 s2 s3
    have h1 : ObjKept s s1 := ⟨rfl, rfl⟩
    have h2 : ObjKept s s2 := h1.trans (.setF _ _ _)
    have h3 : ObjKept s s3 := .ite ((h2.trans (.stat _ _ _ _)).trans (State.enterSafe_objKept _ _)) h2
    exact (h3.trans (State.sourceReset_objKept _ src sev)).trans (State.abandonTest_objKept _)

theorem State.captureMarked_objKept (s : State) (m : FaultMsg) : ObjKept s (s.captureMarked m) :=
  ((ObjKept.setF _ _ _).trans (.setF _ _ _)).trans (.setF _ _ _)

theorem State.arrive_objKept (s : State) (m : FaultMsg) : ObjKept s (s.arrive m) := by
  unfold State.arrive
  refine .ite (s.captureMarked_objKept m) (.ite (.setF _ _ _) ?_)
  extract_lets s1
  have h1 : ObjKept s s1 := .setF _ _ _
  exact .ite (h1.trans ⟨rfl, rfl⟩) ((h1.trans (State.forward_objKept _ m)).trans (State.react_objKept _ _))

theorem State.drain_objKept (s : State) (n : Nat) : ObjKept s (s.drain n) := by
  induction n generalizing s with
  | zero => exact .refl s
  | succ n ih =>
    unfold State.drain
    split
    · exact .refl s
    · refine .trans ?_ (ih _)
      exact (State.arrive_objKept _ _).after rfl rfl

theorem State.raise_objKept (s : State) (src kind addr : Nat) : ObjKept s (s.raise src kind addr) :=
  (ObjKept.send s src kind addr).trans (State.drain_objKept _ 16)

end Sys2Proof.Machine
end

section
/-!
SUPPORT. The journal and the checkpoint: what a full journal raises leaves the checkpoint as taken (R155, R157 to R159).
-/
namespace Sys2Proof.Machine
open Sys2Proof

/-- s has the last checkpoint and the defect list of a, and its copy of that list: what only the journal's streams changed leaves. -/
structure CheckpointKept (a s : State) : Prop where
  root : s.obj.root = a.obj.root
  sectors : s.obj.ckptSectors = a.obj.ckptSectors
  blocks : s.obj.blocksSince = a.obj.blocksSince
  recs : s.obj.recsSince = a.obj.recsSince
  defects : s.obj.defects = a.obj.defects
  copy : s.nvc.defectCopy = a.nvc.defectCopy

namespace CheckpointKept

variable {a s t : State}

theorem refl (a : State) : CheckpointKept a a := ⟨rfl, rfl, rfl, rfl, rfl, rfl⟩

theorem trans (h : CheckpointKept a s) (h' : CheckpointKept s t) : CheckpointKept a t :=
  ⟨h'.root.trans h.root, h'.sectors.trans h.sectors, h'.blocks.trans h.blocks, h'.recs.trans h.recs, h'.defects.trans h.defects,
    h'.copy.trans h.copy⟩

theorem of_objKept (h : ObjKept a s) : CheckpointKept a s :=
  ⟨congrArg Obj.root h.obj, congrArg Obj.ckptSectors h.obj, congrArg Obj.blocksSince h.obj, congrArg Obj.recsSince h.obj,
    congrArg Obj.defects h.obj, h.copy⟩

end CheckpointKept

theorem State.setStream_checkpointKept (s : State) (k : Nat) (x : Stream) : CheckpointKept s (s.setStream k x) := by
  unfold State.setStream
  split <;> exact ⟨rfl, rfl, rfl, rfl, rfl, rfl⟩

theorem State.journalCheck_checkpointKept (s : State) (k : Nat) : CheckpointKept s (s.journalCheck k) := by
  unfold State.journalCheck
  split
  · exact (s.setStream_checkpointKept k _).trans (.of_objKept (State.raise_objKept _ 193 0 k))
  · exact .refl s

theorem State.setStream_stream (s : State) (k : Nat) (x : Stream) : (s.setStream k x).stream k = x := by
  unfold State.setStream State.stream
  split <;> rfl

theorem State.setStream_disk (s : State) (k : Nat) (x : Stream) : (s.setStream k x).disk = s.disk := by
  unfold State.setStream
  split <;> rfl

/-- A tile that is written stands at its sector, and the write counter goes on by one. -/
theorem State.writeTile_disk (s : State) (psa : Nat) (mk : Nat → List Byte) :
    Assoc.find (s.writeTile psa mk).disk.sectors psa = some (mk s.disk.wseq) ∧
      (s.writeTile psa mk).disk.wseq = (s.disk.wseq + 1) % 2 ^ 32 := by
  simp [State.writeTile, State.writeTiles, State.putSectors, State.putSectorIn, Assoc.find_put_same]

/-- The records that are ready go into one block at the next free sector of the stream, and count as written (R155). -/
theorem State.writeJournal_block (s : State) {k pos psa : Nat} {w : WaitRec} {ws : List WaitRec} (hready : s.readyRecs k = w :: ws)
    (hj : s.nextJournal k = some (pos, psa)) :
    ∃ (u : State) (done : List WaitRec), s.writeJournal k = ((done.foldl State.recordWritten u).journalCheck k) ∧
      done = (w :: ws).take (journalFit ((w :: ws).map (fun w => (w.seq, w.body)))).length ∧
      (u.stream k).bseq = (s.stream k).bseq + 1 ∧ (Assoc.find u.disk.sectors psa).isSome = true ∧
      u.disk.wseq = (s.disk.wseq + 1) % 2 ^ 32 := by
  simp -zeta only [State.writeJournal, hready, hj]
  extract_lets x recs done s1 blk s2 _ s3
  obtain ⟨htile, hseq⟩ := s.writeTile_disk psa (journalTile k (s.stream k).bseq recs)
  have hdisk : (s3.charge 3 65).disk = s1.disk := s1.setStream_disk k _
  have hstream : (s3.charge 3 65).stream k = s2.stream k := rfl
  refine ⟨s3.charge 3 65, done, rfl, rfl, ?_, ?_, ?_⟩
  · rw [hstream, State.setStream_stream]
  · rw [hdisk, htile]
    rfl
  · rw [hdisk, hseq]

/-- A checkpoint of one tile, without a defect: its root stands for CKPT_SEQ, and the copy of the defect list is the list (R158, R159). -/
theorem State.takeCheckpoint_taken (s : State)
    (hck : (checkpointTiles ((s.snapshot s.ckptSeq).length + 1) (s.snapshot s.ckptSeq) 0 s.disk.wseq).length = 1)
    (hdef : s.obj.defects = []) (hplace : (s.ckptPlace 1).length = 1) :
    ∃ (t : State) (r : Root), CheckpointKept t s.takeCheckpoint ∧ t.obj.root = some r ∧ r.ckptSeq = s.ckptSeq ∧
      t.obj.ckptSectors = s.ckptPlace 1 ∧ t.obj.blocksSince = 0 ∧ t.obj.recsSince = false ∧ t.nvc.defectCopy = t.obj.defects := by
  have hnone (fuel i w : Nat) : defectTiles fuel [] i w = [] := by cases fuel <;> rfl
  unfold State.takeCheckpoint
  extract_lets q snap w ck df n psas s1 s2 after h0 h1 r s3 _ _ s4
  have hdf : df = [] := by rw [← hnone]; exact congrArg (fun l => defectTiles _ l 0 _) hdef
  have hn : n = 1 := by
    change ck.length + df.length = 1
    rw [hdf]
    exact hck
  have hpsas : psas = s.ckptPlace 1 := congrArg s.ckptPlace hn
  have hroom : ¬ psas.length < n := by rw [hpsas, hplace, hn]; exact Nat.lt_irrefl 1
  rw [if_neg hroom]
  exact ⟨s4, r, (s4.journalCheck_checkpointKept 0).trans (State.journalCheck_checkpointKept _ 1), rfl, rfl, hpsas, rfl, rfl, rfl⟩

end Sys2Proof.Machine

open Sys2Proof Sys2Proof.Machine

/-- Settles O9: the journal's block and the checkpoint as their steps give them; a full journal that is raised after a checkpoint leaves
it as taken. -/
theorem journalAndCheckpointRunTheirEffect : Obligations.JournalAndCheckpointRunTheirEffect := by
  unfold Obligations.JournalAndCheckpointRunTheirEffect
  refine ⟨?_, ?_, ?_, ?_, ?_, ?_, ?_, ?_, ?_, ?_⟩
  · intro k s hk hrec hw hwait
    simp [exec_journalRecordWrite, execJournalRecordWrite, hk, hrec, hw, hwait]
  · intro k c pos psa cs blk s hk hrec hw hj hu hb
    simp [exec_journalRecordWrite, execJournalRecordWrite, hk, hrec, hw, hj, hu, hb]
  · exact fun k pos psa s w ws hready hj => s.writeJournal_block hready hj
  · intro k s h
    simp [State.writeJournal, h]
  · intro k s hfull hj hw hwait
    simp [exec_journalResume, execJournalResume, hfull, hj, hw, hwait]
  · intro s hrec hdue h0 h1 hwait
    simp [exec_checkpoint, execCheckpoint, hrec, hdue, h0, h1, hwait]
  · intro i cuts psa blk s t ok hrec hdue h0 h1 hwait hi ht
    simp [exec_checkpoint, execCheckpoint, hrec, hdue, h0, h1, hwait, hi, ht]
  · intro s hck hdef hplace
    obtain ⟨t, r, ht, hroot, hseq, hsec, hblocks, hrecs, hcopy⟩ := s.takeCheckpoint_taken hck hdef hplace
    exact ⟨r, ht.root.trans hroot, hseq, ht.sectors.trans hsec, ht.blocks.trans hblocks, ht.recs.trans hrecs,
      ht.copy.trans (hcopy.trans ht.defects.symm)⟩
  · exact fun s => rfl
  · intro k cuts s hw
    simp [exec_journalRecordWrite, execJournalRecordWrite, exec_journalResume, execJournalResume, hw]

end

section
/-!
SUPPORT. A write that was cut too often, as the steps of execWriteRetriesExhausted give it (R37, R267).
-/
namespace Sys2Proof.Machine
open Sys2Proof

/-- What is left of actuator k's write and its job once no sector can take the tile: the job waits in the buffer without one (R267). -/
def State.withoutSector (s : State) (k seq : Nat) : State :=
  let s1 := s.setChn k { s.chn k with cut := false, ops := (s.chn k).ops.filter (fun (x : WriteOp) => x.seq != seq) }
  { s1 with obj := { s1.obj with jobs := s1.obj.jobs.map (fun (x : Job) =>
      if x.seq == seq then { x with noSector := true } else x) } }

theorem State.withoutSector_disk (s : State) (k seq : Nat) : (s.withoutSector k seq).disk = s.disk :=
  s.setChn_disk k _

theorem State.withoutSector_cut (s : State) (k seq : Nat) : ((s.withoutSector k seq).chn k).cut = false := by
  have h (t : State) (ob : Obj) : ({ t with obj := ob } : State).chn k = t.chn k := rfl
  rw [State.withoutSector, h, State.chn_setChn]

theorem State.withoutSector_jobs (s : State) (k seq : Nat) {x : Job} (hx : x ∈ (s.withoutSector k seq).obj.jobs) (hseq : x.seq = seq) :
    x.noSector = true := by
  obtain ⟨y, _, rfl⟩ := List.mem_map.mp hx
  by_cases h : (y.seq == seq) = true
  · rw [if_pos h]
  · rw [if_neg h] at hseq
    exact absurd (beq_iff_eq.mpr hseq) h

/-- The tile of operation o written to sector `dest`, its own sector on the defect list and its job told so (R161, R267). -/
def State.leftBehind (s : State) (k : Nat) (o : WriteOp) (rest : List WriteOp) (dest : Nat) (tile : Nat → List Byte) : State :=
  let s1 := s.writeTile dest tile
  let s2 := s1.setChn k { s1.chn k with cut := false, ops := rest }
  let dseq := s2.obj.nextSeq
  let s3 := s2.issue (1 - k) 0 (.defect o.psa 4)
  { s3 with obj := { s3.obj with
    defects := s3.obj.defects ++ [Defect.mk o.psa 4 s3.utc],
    jobs := s3.obj.jobs.map (fun (x : Job) => if x.seq == o.seq then
      { x with begun := true, after := x.after ++ [dseq], tiles := x.tiles.filter (fun (p : Nat × Nat × Nat) => p.1 != o.tile) }
      else x) } }

theorem State.leftBehind_chn (s : State) (k : Nat) (o : WriteOp) (rest : List WriteOp) (dest : Nat) (tile : Nat → List Byte) :
    ((s.leftBehind k o rest dest tile).chn k).cut = false ∧ ((s.leftBehind k o rest dest tile).chn k).ops = rest := by
  have h (c : Chn) : ((s.writeTile dest tile).setChn k c).chn k = c := State.chn_setChn _ k c
  exact ⟨congrArg Chn.cut (h _), congrArg Chn.ops (h _)⟩

theorem State.leftBehind_sector (s : State) (k : Nat) (o : WriteOp) (rest : List WriteOp) (dest : Nat) (tile : Nat → List Byte) :
    (Assoc.find (s.leftBehind k o rest dest tile).disk.sectors dest).isSome = true := by
  have h : (s.leftBehind k o rest dest tile).disk = (s.writeTile dest tile).disk := State.setChn_disk _ k _
  rw [h, (s.writeTile_disk dest tile).1]
  rfl

theorem State.leftBehind_defects (s : State) (k : Nat) (o : WriteOp) (rest : List WriteOp) (dest : Nat) (tile : Nat → List Byte) :
    ∃ d ∈ (s.leftBehind k o rest dest tile).obj.defects, d.psa = o.psa ∧ d.reason = 4 :=
  ⟨⟨o.psa, 4, _⟩, List.mem_append_right _ (List.mem_singleton.mpr rfl), rfl, rfl⟩

/-- The three ends of a write that was cut too often, once the tile has been read from the buffer. -/
theorem execWriteRetriesExhausted_eq {k : Nat} {s u : State} {o : WriteOp} {rest : List WriteOp} {j : Job} (hcut : (s.chn k).cut = true)
    (hops : (s.chn k).ops = o :: rest) (hno : s.dictNum (0x3500 + k) 5 ≤ o.rewrites) (hw : s.mediaWritable k = true)
    (hj : s.obj.jobs.find? (fun j => j.seq == o.seq) = some j) (hu : u = s.readSlot (j.slots.getD o.tile 0)) :
    exec (.writeRetriesExhausted k) s = .next (
      if !u.tileGood (j.slots.getD o.tile 0) (some (tagOf (keyHash (keyBytes j.key)) j.seg o.tile)) then
        (u.setChn k { s.chn k with cut := false }).refuseJob k o.seq (j.slots.getD o.tile 0)
      else match u.takeSpare o.psa 4 with
        | (none, w) => w.withoutSector k o.seq
        | (some dest, w) =>
          let x := w.leftBehind k o rest dest (tileStamp (w.tileAt (j.slots.getD o.tile 0)) true)
          let y := ((x.moveTile j o.tile dest).stat (0x8130 + k) 14 1).raise (262 + 16 * k) 0 0
          if (y.jobExtents j).length > 32 then y.rewriteSegment k j else y) := by
  have hgo : (!(s.chn k).cut || decide (o.rewrites < s.dictNum (0x3500 + k) 5) || !s.mediaWritable k) = false := by
    simp [hcut, hw, hno]
  simp only [exec_writeRetriesExhausted, execWriteRetriesExhausted, hops, hgo, hj, ← hu, Bool.false_eq_true, if_false]
  rfl

end Sys2Proof.Machine

open Sys2Proof Sys2Proof.Machine

/-- Settles O10: which due sector is taken and what becomes of it, the second read of a rewritten one, and the ends of a cut write. -/
theorem reallocationsRunTheirEffect : Obligations.ReallocationsRunTheirEffect := by
  unfold Obligations.ReallocationsRunTheirEffect
  refine ⟨?_, ?_, ?_, ?_, ?_, ?_, ?_, ?_, ?_, ?_⟩
  · intro psa wedges fg cuts s h
    simp only [exec_reallocation, execReallocation, h, Bool.false_eq_true, if_false]
  · intro psa wedges fg cuts s h
    simp only [exec_reallocation, execReallocation, h, if_true]
  · intro psa wedges cuts s hdue hpar hw hbg
    simp [exec_reallocation, execReallocation, hdue, hpar, hw, hbg]
  · intro psa cuts s u hu
    refine ⟨fun hpar => ?_, fun hpar hdata => ?_, fun hpar hdata => ?_⟩
    · simp only [State.reallocate, ← hu, hpar, if_true]
    · simp only [State.reallocate, ← hu, hpar, hdata, Bool.false_eq_true, if_false, if_true]
    · simp only [State.reallocate, ← hu, hpar, hdata, Bool.false_eq_true, if_false]
  · intro psa wedges fg cap cuts s hin hblk hrec hbg
    simp only [exec_scrubRecheck, execScrubRecheck, hin, hblk, hrec, hbg, Bool.not_true, Bool.not_false, Bool.or_self,
      Bool.false_eq_true, if_false, if_true]
  · intro psa wedges snr k fg cap cuts s s1 s2 u r hin hk hblk hrec hbg hacq hres hconf hw hu
    subst hk
    refine ⟨fun hm => ?_, fun hm => ?_⟩
    · simp only [exec_scrubRecheck, execScrubRecheck, hin, hblk, hrec, hbg, hacq, hres, hconf, hm, hu, Bool.not_true, Bool.not_false,
        Bool.or_self, Bool.false_eq_true, if_false, if_true]
    · simp only [exec_scrubRecheck, execScrubRecheck, hin, hblk, hrec, hbg, hacq, hres, hconf, hm, hw, hu, Bool.not_true, Bool.or_self,
        Bool.false_eq_true, if_false]
  · intro k s o rest hinh hcut hops hleft
    have hzero : s.inhibits k ≠ 4096 := by
      intro h
      simp [State.inhibited, h] at hinh
    simp [exec_inhibitRelease, execInhibitRelease, hzero, hinh, hcut, hops, hleft]
  · intro k s u w o rest j hcut hops hno hw hj hu hgood hspare
    refine ⟨w.withoutSector k o.seq, ?_, w.withoutSector_disk k _, w.withoutSector_cut k _,
      fun x hx hseq => w.withoutSector_jobs k _ hx hseq⟩
    simp only [execWriteRetriesExhausted_eq hcut hops hno hw hj hu, hgood, hspare, Bool.not_true, Bool.false_eq_true, if_false]
  · intro k dest s u w o rest j _ hcut hops hno hw hj hu hgood hspare
    obtain ⟨hc, ho⟩ := w.leftBehind_chn k o rest dest (tileStamp (w.tileAt (j.slots.getD o.tile 0)) true)
    refine ⟨_, _, rfl, hc, ho, w.leftBehind_sector k o rest dest _, w.leftBehind_defects k o rest dest _, ?_⟩
    simp only [execWriteRetriesExhausted_eq hcut hops hno hw hj hu, hgood, hspare, Bool.not_true, Bool.false_eq_true, if_false]
  · intro k s u o rest j hcut hops hno hw hj hu hgood
    simp only [execWriteRetriesExhausted_eq hcut hops hno hw hj hu, hgood, Bool.not_false, if_true]

end

section
/-!
SUPPORT. The reset of the core die: what it leaves of power, media, fuses and stored entries, and what it puts at reset (R50, R51, R79).
Ash: what the motion die starts with (R52).
-/
namespace Sys2Proof.Machine
open Sys2Proof

-- ---------------------------------------------------------------------------------------------------------------
-- Into reset

/-- A motion die that sees its link down changes beside its own latches what retracts and the bridge change. -/
theorem State.motionLinkDown_frame (s : State) : ∃ x, GateFrame { s with ash := x } s.motionLinkDown := by
  unfold State.motionLinkDown
  dsimp only
  split
  · exact ⟨s.ash, .refl s⟩
  · refine ⟨{ s.ash with declaredDown := true, beaconOn := true }, ?_⟩
    have h : GateFrame { s with ash := { s.ash with declaredDown := true, beaconOn := true } }
        { s.setF Fld.MFE_STATUS_LINK 0 with
          ash := { (s.setF Fld.MFE_STATUS_LINK 0).ash with declaredDown := true, beaconOn := true },
          mfe := { (s.setF Fld.MFE_STATUS_LINK 0).mfe with pllOnLink := false } } :=
      ⟨_, _, _, _, _, _, _, _, _, rfl⟩
    exact .ite ((h.trans (State.retractBoth_gateFrame _ 2)).trans (State.bridgeOff_gateFrame _))
      (.ite (h.trans (State.bridgeOff_gateFrame _)) h)

/-- s is a with other registers, flash contents and use of free values. -/
def FlashFrame (a s : State) : Prop := ∃ r n f, s = { a with regs := r, nvc := n, free := f }

theorem FlashFrame.trans {a s t : State} (h : FlashFrame a s) (h' : FlashFrame s t) : FlashFrame a t := by
  obtain ⟨_, _, _, rfl⟩ := h
  obtain ⟨_, _, _, rfl⟩ := h'
  exact ⟨_, _, _, rfl⟩

theorem State.spoilUnits_frame (s : State) (us : List Nat) : FlashFrame s (s.spoilUnits us) := by
  unfold State.spoilUnits
  induction us generalizing s with
  | nil => exact ⟨_, _, _, rfl⟩
  | cons u us ih => exact FlashFrame.trans ⟨_, _, _, rfl⟩ (ih _)

theorem State.setImage_frame (s : State) (bank : Nat) (i : Option Image) : FlashFrame s (s.setImage bank i) := by
  unfold State.setImage
  split <;> exact ⟨_, _, _, rfl⟩

theorem State.dropRecord_frame (s : State) (b : Nat) : FlashFrame s (s.dropRecord b) := by
  unfold State.dropRecord
  split
  · exact s.setImage_frame 1 none
  · split
    · exact s.setImage_frame 2 none
    · exact ⟨_, _, _, rfl⟩

theorem State.stopFlash_frame (s : State) : FlashFrame s s.stopFlash := by
  unfold State.stopFlash
  dsimp only
  split
  · exact ⟨_, _, _, rfl⟩
  · next o _ =>
    have h : FlashFrame s (State.spoilUnits (State.useFree { s with nvc := { s.nvc with download := none, logQueue := [], op := none } })
        (State.opUnits { s with nvc := { s.nvc with download := none, logQueue := [], op := none } } o)) :=
      FlashFrame.trans ⟨_, _, _, rfl⟩ (State.spoilUnits_frame _ _)
    split
    · exact (h.trans (State.dropRecord_frame _ _)).trans ⟨_, _, _, rfl⟩
    · exact h.trans ⟨_, _, _, rfl⟩

/-- What a reset of the core die leaves, and what it puts at reset: supplies, media, fuses and stored entries stay (R79). -/
structure CoreReset (a s : State) : Prop where
  pwr : s.pwr = a.pwr
  disk : s.disk = a.disk
  lcm : s.lcm = a.lcm
  bank3 : s.bank3 = a.bank3
  qmg : s.qmg = Qmg.reset
  d2d : s.d2d = D2d.reset
  slateDone : s.boot.slateDone = false
  chn0 : s.chn 0 = Chn.reset
  chn1 : s.chn 1 = Chn.reset

namespace CoreReset

variable {a b s : State}

theorem setMfe (h : CoreReset a s) (m : Mfe) : CoreReset a { s with mfe := m } :=
  ⟨h.pwr, h.disk, h.lcm, h.bank3, h.qmg, h.d2d, h.slateDone, h.chn0, h.chn1⟩

theorem bridgeOff (h : CoreReset a s) : CoreReset a s.bridgeOff :=
  ⟨h.pwr, h.disk, h.lcm, h.bank3, h.qmg, h.d2d, h.slateDone, h.chn0, h.chn1⟩

/-- The state before may differ in what the reset does not leave. -/
theorem before (h : CoreReset b s) (hpwr : b.pwr = a.pwr) (hdisk : b.disk = a.disk) (hlcm : b.lcm = a.lcm) (hbank3 : b.bank3 = a.bank3) :
    CoreReset a s :=
  ⟨h.pwr.trans hpwr, h.disk.trans hdisk, h.lcm.trans hlcm, h.bank3.trans hbank3, h.qmg, h.d2d, h.slateDone, h.chn0, h.chn1⟩

end CoreReset

theorem State.coreReset_spec (s : State) : CoreReset s s.coreReset := by
  have h := (s.gateLow_gateFrame 0).trans (State.gateLow_gateFrame _ 1)
  rw [State.coreReset]
  exact ⟨h.pwr, h.disk, h.lcm, h.bank3, rfl, rfl, rfl, rfl, rfl⟩

theorem State.intoReset_spec (s : State) : CoreReset s s.intoReset := by
  obtain ⟨x, hm⟩ := s.motionLinkDown_frame
  obtain ⟨r, n, f, hf⟩ := s.motionLinkDown.stopFlash_frame
  unfold State.intoReset
  extract_lets s0 _ s1
  have h0 : CoreReset s s0 := by
    refine s.motionLinkDown.stopFlash.coreReset_spec.before ?_ ?_ ?_ ?_ <;> rw [hf]
    · exact hm.pwr
    · exact hm.disk
    · exact hm.lcm
    · exact hm.bank3
  have h1 : CoreReset s s1 := h0.setMfe _
  split
  · exact h1.bridgeOff
  · exact h1

/-- The core die in reset, and held there (R51, R82). -/
def State.heldInReset (s : State) : State := { s.intoReset with pwr := { s.intoReset.pwr with held := true } }

/-- Held in reset at power p the core die has both gates low, no queue, its link down, and the media and the fuses as before. -/
theorem State.heldInReset_spec (s : State) (p : Power) : ∃ t, ({ s with pwr := p } : State).heldInReset = t ∧
    t.pwr = { p with held := true } ∧ t.boot.slateDone = false ∧ t.qmg = Qmg.reset ∧ t.disk = s.disk ∧ t.lcm = s.lcm ∧
    (t.chn 0).wgate = false ∧ (t.chn 1).wgate = false ∧ t.d2d.coreUp = false := by
  obtain ⟨hpwr, hdisk, hlcm, _, hqmg, hd2d, hdone, hc0, hc1⟩ := ({ s with pwr := p } : State).intoReset_spec
  refine ⟨_, rfl, ?_, hdone, hqmg, hdisk, hlcm, congrArg Chn.wgate hc0, congrArg Chn.wgate hc1, congrArg D2d.coreUp hd2d⟩
  rw [State.heldInReset, hpwr]

/-- A power-on reset: the entries are the stored ones (R50, R569). -/
theorem State.powerOnReset_spec (s : State) (vddAo : Bool) (cause : FieldRef) :
    (s.powerOnReset vddAo cause).pwr = s.pwr ∧ (s.powerOnReset vddAo cause).disk = s.disk ∧
    (s.powerOnReset vddAo cause).lcm.fuse = s.lcm.fuse ∧ (s.powerOnReset vddAo cause).bank3 = s.bank3 ∧
    (s.powerOnReset vddAo cause).dict = s.bank3 ∧ (s.powerOnReset vddAo cause).qmg = Qmg.reset ∧
    (s.powerOnReset vddAo cause).chn 0 = Chn.reset ∧ (s.powerOnReset vddAo cause).chn 1 = Chn.reset := by
  obtain ⟨hpwr, hdisk, hlcm, hbank3, hqmg, _, _, hc0, hc1⟩ := s.intoReset_spec
  have hfuse : s.intoReset.lcm.fuse = s.lcm.fuse := by rw [hlcm]
  unfold State.powerOnReset
  dsimp only
  split <;> exact ⟨hpwr, hdisk, hfuse, hbank3, hbank3, hqmg, hc0, hc1⟩

-- ---------------------------------------------------------------------------------------------------------------
-- Ash

/-- The motion die's own state as Ash begins. -/
def State.ashBegun (s : State) (node : BitVec 7) : Ash :=
  { Ash.reset with armed := true, nodeId := node, beaconOn := true, canStbyLow := true, temp := s.ash.temp }

/-- Ash begun: but for the motion die's own state only what retracts change changes. -/
theorem State.enterAsh_frame (s : State) (node : BitVec 7) (v12 : Nat) :
    GateFrame { s with ash := s.ashBegun node } (s.enterAsh node v12) := by
  unfold State.enterAsh
  extract_lets kept _ _ s1 s2
  have h1 : GateFrame { s with ash := s.ashBegun node } s1 := ⟨_, _, _, _, _, _, _, _, _, rfl⟩
  have h2 : GateFrame s1 s2 := (State.setF_gateFrame _ _ _).trans (State.setF_gateFrame _ _ _)
  exact ((h1.trans h2).trans (s2.retractBoth_gateFrame 1)).trans (.of_regs (State.uninhibitBoth_regsOnly _ 5))

/-- Ash begun with both gates low leaves the entries. -/
theorem State.enterAsh_dict_of_low {s : State} (h0 : (s.chn 0).wgate = false) (h1 : (s.chn 1).wgate = false) (node : BitVec 7)
    (v12 : Nat) : (s.enterAsh node v12).dict = s.dict := by
  unfold State.enterAsh
  extract_lets kept _ _ s1 s2
  rw [(State.uninhibitBoth_regsOnly _ 5).dict]
  exact State.retractBoth_dict_of_low (s := s2) h0 h1 1

end Sys2Proof.Machine
end

section
/-!
SUPPORT. What the resets leave in the registers of the island: the unlock count, its lockout and the cause of the reset (R50, R79).
-/
namespace Sys2Proof.Machine
open Sys2Proof

theorem Assoc.find_filter_none {α : Type} {p : Nat × α → Bool} {k : Nat} (h : ∀ v, p (k, v) = false) (m : List (Nat × α)) :
    Assoc.find (m.filter p) k = none := by
  induction m with
  | nil => rfl
  | cons x m ih =>
    by_cases hp : p x = true
    · have hk : x.1 ≠ k := by
        rintro rfl
        exact absurd hp (by rw [h x.2]; exact Bool.false_ne_true)
      rw [List.filter_cons_of_pos hp]
      simpa only [Assoc.find, if_neg hk] using ih
    · rwa [List.filter_cons_of_neg hp]

/-- A register that a power-on reset of its unit covers has its reset word. -/
theorem reg_of_unitReset {s : State} {u x : Nat} {m : List (Nat × Word)} (hregs : s.regs = resetUnitRegs u [] m)
    (hx : ((unitWindow u).1 ≤ x && x < (unitWindow u).1 + (unitWindow u).2) = true) : s.reg x = resetWord x := by
  have hgone : Assoc.find s.regs x = none := by
    rw [hregs]
    refine Assoc.find_filter_none (fun v => ?_) m
    simp only [Bool.and_eq_true, decide_eq_true_eq] at hx
    simp [hx]
  rw [State.reg, hgone]
  rfl

/-- A power-on reset by VDD_AO: the unit with the unlock count is at reset, but for the cause (R50). -/
theorem State.powerOnReset_protection (s : State) {f : FieldRef} (hf : f.addr = 0x700010) :
    (s.powerOnReset true Fld.PLT_RSTCAUSE_POWER_ON).getF f = Word.get (resetWord 0x700010) f.hi f.lo := by
  have hapart : fieldsApart Fld.PLT_RSTCAUSE_POWER_ON f = true := by simp [fieldsApart, hf, Fld.PLT_RSTCAUSE_POWER_ON]
  unfold State.powerOnReset
  extract_lets prot s1 regs counted _ _ _ _ _ _ s2 s3
  rw [State.getF_setF_apart _ _ _ _ hapart, State.getF, hf]
  exact congrArg (fun w => Word.get w f.hi f.lo) (reg_of_unitReset (s := s3) (u := 7) rfl (by decide))

end Sys2Proof.Machine

open Sys2Proof Sys2Proof.Machine

/-- Settles O2: each reset input by the frame of the reset it takes. -/
theorem resetInputsRunTheirEffect : Obligations.ResetInputsRunTheirEffect := by
  unfold Obligations.ResetInputsRunTheirEffect
  refine ⟨?_, ?_, ?_, ?_, ?_, ?_, ?_, ?_, ?_⟩
  · intro i s
    obtain ⟨_, _, _, _, hdict, _⟩ := s.powerOnReset_spec true Fld.PLT_RSTCAUSE_POWER_ON
    refine ⟨rfl, hdict, ?_, ?_⟩
    · rw [s.powerOnReset_protection rfl]
      decide
    · rw [s.powerOnReset_protection rfl]
      decide
  · exact fun i s => rfl
  · intro s hp
    obtain ⟨_, hdisk, hfuse, hbank3, hdict, hqmg, _⟩ := s.powerOnReset_spec false Fld.PLT_RSTCAUSE_PORST
    refine ⟨{ s.powerOnReset false Fld.PLT_RSTCAUSE_PORST with
      pwr := { (s.powerOnReset false Fld.PLT_RSTCAUSE_PORST).pwr with porstLow := true } }, ?_, rfl, ?_, hqmg, hdisk, hfuse, hdict,
      hbank3⟩
    · simp only [exec_porstNLow, execPorstNLow, hp, Bool.false_eq_true, if_false]
    · exact State.getF_setF_same _ Fld.PLT_RSTCAUSE_PORST 1 (by decide)
  · intro i s hp
    simp only [exec_porstNRelease, execPorstNRelease, hp, Bool.not_true, Bool.false_eq_true, if_false]
  · intro s hruns
    have hroot : ({ s with pwr := { s.pwr with rootOk := false } } : State).coreRuns = true := hruns
    obtain ⟨t, ht, hpwr, hdone, _, hdisk, _, _, _, hd2d⟩ := s.heldInReset_spec { s.pwr with rootOk := false }
    refine ⟨t, ?_, congrArg Power.held hpwr, congrArg Power.rootOk hpwr, hdone, hd2d, hdisk⟩
    simp only [exec_rootReferenceLoss, execRootReferenceLoss, hroot, Bool.not_true, Bool.false_eq_true, if_false, ← ht,
      State.heldInReset]
  · intro s hruns
    have hroot : ({ s with pwr := { s.pwr with rootOk := false } } : State).coreRuns = false := hruns
    simp only [exec_rootReferenceLoss, execRootReferenceLoss, hroot, Bool.not_false, if_true]
  · intro i s hp hheld hfail hroot hpwr hrails
    simp [exec_rootReferenceReturn, execRootReferenceReturn, hp, hheld, hfail, hroot, hpwr, hrails]
  · intro i s h
    have hoff : (s.pwr.porstLow || !s.pwr.held) = true := by simpa using h
    simp only [exec_rootReferenceReturn, execRootReferenceReturn, hoff, if_true]
  · intro s hrun hdone
    refine ⟨s.slateFail 0x0C, ?_, ?_, rfl, rfl⟩
    · simp only [exec_slateDeadline, execSlateDeadline, hrun, hdone, Bool.not_false, Bool.and_self, if_true]
    · exact State.getF_setF_same s.intoReset Fld.PLT_STAGE_FAILCODE 0x0C (by decide)

end

section
/-!
SUPPORT. The reset of the Motion domain: what it puts out of service, and the supply that it leaves as it is (R81, R337). The supply that
enters Ash (R46, R52).
-/
namespace Sys2Proof.Machine
open Sys2Proof

-- ---------------------------------------------------------------------------------------------------------------
-- Write-inhibit and retracts leave the low supply

@[simp] theorem State.mfe_setChn (s : State) (k : Nat) (c : Chn) : (s.setChn k c).mfe = s.mfe := by
  unfold State.setChn
  split <;> rfl

@[simp] theorem State.mfe_inhibit (s : State) (k bit : Nat) : (s.inhibit k bit).mfe = s.mfe := by
  have hlow (t : State) : (t.gateLow k).mfe = t.mfe := by
    unfold State.gateLow
    split
    · exact State.mfe_setChn _ k _
    · rfl
  have hcut (t : State) : (t.writeCut k).mfe = t.mfe := by
    unfold State.writeCut
    extract_lets act first s1 s2
    have h2 : s2.mfe = t.mfe := by
      refine Eq.trans ?_ (hlow t)
      dsimp only [s2]
      split <;> rfl
    exact (State.mfe_setChn s2 k _).trans h2
  unfold State.inhibit
  extract_lets a s1
  split
  · exact hcut s1
  · rfl

theorem State.retract_supplyLow (s : State) (k cause : Nat) : (s.retract k cause).mfe.supplyLow = s.mfe.supplyLow := by
  have hhold : (s.holdMedia k).mfe = s.mfe := by
    unfold State.holdMedia
    split
    · rfl
    · exact s.mfe_inhibit k 3
  have hret (t : State) : (t.setRet k ⟨1, cause⟩).mfe.supplyLow = t.mfe.supplyLow := by
    unfold State.setRet
    split <;> rfl
  unfold State.retract
  extract_lets s1
  have h1 : s1.mfe.supplyLow = s.mfe.supplyLow := (hret _).trans (congrArg Mfe.supplyLow hhold)
  split
  · rfl
  · split <;> exact h1

theorem State.retractBoth_supplyLow (s : State) (cause : Nat) : (s.retractBoth cause).mfe.supplyLow = s.mfe.supplyLow :=
  (State.retract_supplyLow _ 1 cause).trans (s.retract_supplyLow 0 cause)

-- ---------------------------------------------------------------------------------------------------------------
-- Units that lie outside the motion die

/-- s and t hold the same of the motion die's state and of the start-up. -/
def MotionKept (s t : State) : Prop := t.mfe = s.mfe ∧ t.boot = s.boot

theorem MotionKept.trans {s t u : State} (h : MotionKept s t) (h' : MotionKept t u) : MotionKept s u :=
  ⟨h'.1.trans h.1, h'.2.trans h.2⟩

theorem MotionKept.of_regs {s t : State} (h : RegsOnly s t) : MotionKept s t := ⟨h.mfe, h.boot⟩

theorem State.resetUnit_motionKept (s : State) {u : Nat} (hu : u = 20 ∨ u = 21) : MotionKept s (s.resetUnit u) := by
  rcases hu with rfl | rfl
  · exact .trans (t := { s with cle := Cle.reset }) ⟨rfl, rfl⟩ (.of_regs (State.resetRegsOf_regsOnly _ 20))
  · exact .trans (t := { s with spm := Spm.reset }) ⟨rfl, rfl⟩ (.of_regs (State.resetRegsOf_regsOnly _ 21))

theorem State.mfe_bridgeOff (s : State) : s.bridgeOff.mfe = s.mfe := rfl

theorem State.dropVolatile_motionKept (s : State) (d : Nat) : MotionKept s (s.dropVolatile d) := ⟨rfl, rfl⟩

theorem State.endInjection_motionKept (s : State) : MotionKept s s.endInjection := by
  unfold State.endInjection
  split
  · dsimp only
    split <;> exact ⟨rfl, rfl⟩
  · exact ⟨rfl, rfl⟩

theorem State.forgetRunout_motionKept (s : State) (k : Nat) : MotionKept s (s.forgetRunout k) := by
  unfold State.forgetRunout
  extract_lets lo _ s1
  have h1 : MotionKept s s1 := ⟨rfl, rfl⟩
  exact h1.trans (.of_regs ((RegsOnly.refl s1).setF _ 0))

theorem State.setSpm_motionKept (s : State) (m : Spm) : MotionKept s (s.setSpm m) := ⟨rfl, rfl⟩

theorem State.startSpin_motionKept (s : State) : MotionKept s s.startSpin := by
  have hreverse : MotionKept s s.reverseBrake := by
    unfold State.reverseBrake
    split <;> exact ⟨rfl, rfl⟩
  unfold State.startSpin
  split
  · exact ⟨rfl, rfl⟩
  · split
    · exact ⟨rfl, rfl⟩
    · split
      · exact hreverse
      · split <;> exact ⟨rfl, rfl⟩

/-- The Motion domain after its reset: out of service, with no head locked and no set point taken; the supply stays as it was. -/
theorem State.motionReset_spec (s : State) : s.motionReset.mfe.setPointsIgnored = true ∧
    domMotion ∈ s.motionReset.boot.outOfService ∧ s.motionReset.boot.locked = [] ∧ s.motionReset.boot.ochreRunning = false ∧
    s.motionReset.mfe.supplyLow = s.mfe.supplyLow := by
  unfold State.motionReset
  extract_lets s0 s1 _ _ s2 s3
  have hlow : s1.mfe.supplyLow = s.mfe.supplyLow := by
    have hgates : ((s.inhibitBoth 10).retractBoth 6).mfe.supplyLow = s.mfe.supplyLow :=
      (State.retractBoth_supplyLow _ 6).trans (congrArg Mfe.supplyLow ((State.mfe_inhibit _ 1 10).trans (s.mfe_inhibit 0 10)))
    have h0 : s0.mfe = ((s.inhibitBoth 10).retractBoth 6).mfe :=
      ((State.endInjection_motionKept _).trans (State.dropVolatile_motionKept _ 6)).1.trans (State.mfe_bridgeOff _)
    have h1 : MotionKept s0 s1 := ((s0.resetUnit_motionKept (.inl rfl)).trans (State.resetUnit_motionKept _ (.inr rfl))).trans
      (.of_regs (State.resetRegsOf_regsOnly _ 22))
    exact (congrArg Mfe.supplyLow (h1.1.trans h0)).trans hgates
  clear_value s1
  have h3 : MotionKept s2 s3 := (s2.forgetRunout_motionKept 0).trans (State.forgetRunout_motionKept _ 1)
  have hkept (t : State) (ht : MotionKept s3 t) : t.mfe.setPointsIgnored = true ∧ domMotion ∈ t.boot.outOfService ∧ t.boot.locked = [] ∧
      t.boot.ochreRunning = false ∧ t.mfe.supplyLow = s.mfe.supplyLow := by
    rw [ht.1, ht.2, h3.1, h3.2]
    exact ⟨rfl, mem_insertNat.mpr (.inl rfl), rfl, rfl, hlow⟩
  split
  · exact hkept s3 ⟨rfl, rfl⟩
  · split
    · exact hkept _ (s3.setSpm_motionKept _)
    · split
      · exact hkept _ s3.startSpin_motionKept
      · exact hkept s3 ⟨rfl, rfl⟩

end Sys2Proof.Machine
end

section
/-!
SUPPORT. The supply that comes back: power as it stands then, and Ash entered with it (R46, R52, R337).
-/
namespace Sys2Proof.Machine
open Sys2Proof

/-- The supplies as both are good again, time from zero. -/
def State.supplyOn (s : State) : State :=
  { s with pwr := { s.pwr with v12Good := true, v33Good := true, good := true, timeUs := 0 },
           media := { s.media with passUs := [0, 0] } }

/-- Ash entered, with the cause that tells whether the motion die was armed before. -/
def State.ashWithCause (s : State) (node : BitVec 7) (v12 : Nat) (again : Bool) : State :=
  (s.enterAsh node v12).setF Fld.PLT_RSTCAUSE_MOTION_POR (b2n again)

theorem State.ashWithCause_frame (s : State) (node : BitVec 7) (v12 : Nat) (again : Bool) :
    GateFrame { s with ash := s.ashBegun node } (s.ashWithCause node v12 again) :=
  (s.enterAsh_frame node v12).trans (State.setF_gateFrame _ _ _)

theorem State.ashWithCause_ash (s : State) (node : BitVec 7) (v12 : Nat) (again : Bool) :
    (s.ashWithCause node v12 again).ash.armed = true ∧ (s.ashWithCause node v12 again).ash.nodeId = node ∧
      (s.ashWithCause node v12 again).ash.beaconOn = true ∧ (s.ashWithCause node v12 again).ash.canStbyLow = true := by
  rw [(s.ashWithCause_frame node v12 again).ash]
  exact ⟨rfl, rfl, rfl, rfl⟩

/-- The supply that returns after a loss. -/
theorem execSupplyGood_eq {v12 v33 : Nat} {s : State} (h12 : 10200 ≤ v12) (h33 : 3000 ≤ v33) (hgood : s.pwr.good = false)
    (node : BitVec 7) (i : SlateInputs) :
    exec (.supplyGood v12 v33 node i) s = .next (((if s.supplyOn.pwr.porstLow then s.supplyOn
      else s.supplyOn.powerOnReset false Fld.PLT_RSTCAUSE_MOTION_POR).ashWithCause node v12 s.ash.armed).intoSlate i) := by
  have hon : supplyIsGood v12 v33 = true := by simp [supplyIsGood, h12, h33]
  simp only [exec_supplyGood, execSupplyGood, hon, hgood, Bool.not_true, Bool.false_eq_true, if_false]
  rfl

/-- With PORST_N low the core die stays in reset beside Ash. -/
theorem execSupplyGood_porstLow {v12 v33 : Nat} {s : State} (h12 : 10200 ≤ v12) (h33 : 3000 ≤ v33) (hgood : s.pwr.good = false)
    (node : BitVec 7) (i : SlateInputs) (hp : s.pwr.porstLow = true) :
    exec (.supplyGood v12 v33 node i) s = .next (s.supplyOn.ashWithCause node v12 s.ash.armed) := by
  have hlow : (s.supplyOn.ashWithCause node v12 s.ash.armed).pwr.porstLow = true := by
    rw [(s.supplyOn.ashWithCause_frame node v12 s.ash.armed).pwr]
    exact hp
  have hon : s.supplyOn.pwr.porstLow = true := hp
  rw [execSupplyGood_eq h12 h33 hgood, if_pos hon, State.intoSlate, hlow, Bool.true_or, if_pos rfl]

/-- A supply that is good again, with nothing of R51 against it and no confirmed loss, lets go of write-inhibit bit 5 alone. -/
theorem State.supplyBack_dip {s : State} (hpwr : s.pwr.pwrGood = true) (hrails : s.pwr.railsOut = []) (hloss : s.mfe.lossConfirmed = false) :
    s.supplyBack = ({ s with mfe := { s.mfe with supplyLow := false } } : State).uninhibitBoth 5 := by
  have hgood : (s.pwr.pwrGood && s.pwr.railsOut.isEmpty) = true := by simp [hpwr, hrails]
  unfold State.supplyBack
  extract_lets _ s1 s2
  have h2 : s2 = s1.uninhibitBoth 5 := if_pos hgood
  have hloss2 : s2.mfe.lossConfirmed = false := by
    rw [h2, (s1.uninhibitBoth_regsOnly 5).mfe]
    exact hloss
  rw [hloss2, Bool.false_and, if_neg Bool.false_ne_true, h2]
  rfl

theorem State.supplyBack_supplyLow (s : State) : s.supplyBack.mfe.supplyLow = false := by
  unfold State.supplyBack
  extract_lets _ s1 s2 _
  have h2 : s2.mfe.supplyLow = false := by
    have h1 : s1.mfe.supplyLow = false := rfl
    dsimp only [s2]
    split
    · rwa [(s1.uninhibitBoth_regsOnly 5).mfe]
    · exact h1
  split
  · exact (State.motionReset_spec _).2.2.2.2.trans h2
  · exact h2

end Sys2Proof.Machine

open Sys2Proof Sys2Proof.Machine

/-- Settles O1: the supply that comes by the frames of the power-on reset and of Ash, a supply monitor by that of the held core die. -/
theorem supplyEdgesRunTheirEffect : Obligations.SupplyEdgesRunTheirEffect := by
  unfold Obligations.SupplyEdgesRunTheirEffect
  refine ⟨?_, ?_, ?_, ?_, ?_, ?_, ?_, ?_, ?_, ?_⟩
  · intro v12 v33 node i s u h12 h33 hgood hp hu
    have hu' : u = s.supplyOn.ashWithCause node v12 s.ash.armed := hu
    have hpwr := (s.supplyOn.ashWithCause_frame node v12 s.ash.armed).pwr
    obtain ⟨harmed, hnode, hbeacon, hstby⟩ := s.supplyOn.ashWithCause_ash node v12 s.ash.armed
    rw [hu']
    exact ⟨execSupplyGood_porstLow h12 h33 hgood node i hp, congrArg Power.good hpwr, congrArg Power.timeUs hpwr, harmed, hnode,
      hbeacon, hstby⟩
  · intro v12 v33 node i s u h12 h33 hgood hp hu
    obtain ⟨hrpwr, hrdisk, hrfuse, _, hrdict, hrqmg, hc0, hc1⟩ := s.supplyOn.powerOnReset_spec false Fld.PLT_RSTCAUSE_MOTION_POR
    have hu' : u = (s.supplyOn.powerOnReset false Fld.PLT_RSTCAUSE_MOTION_POR).ashWithCause node v12 s.ash.armed := hu
    have hframe := (s.supplyOn.powerOnReset false Fld.PLT_RSTCAUSE_MOTION_POR).ashWithCause_frame node v12 s.ash.armed
    have hash := (s.supplyOn.powerOnReset false Fld.PLT_RSTCAUSE_MOTION_POR).ashWithCause_ash node v12 s.ash.armed
    obtain ⟨harmed, hnode, hbeacon, _⟩ := hash
    rw [← hu'] at hframe harmed hnode hbeacon
    have hpwr : u.pwr = s.supplyOn.pwr := hframe.pwr.trans hrpwr
    have hdict : u.dict = s.bank3 := by
      rw [hu']
      exact (State.enterAsh_dict_of_low (congrArg Chn.wgate hc0) (congrArg Chn.wgate hc1) node v12).trans hrdict
    refine ⟨?_, congrArg Power.good hpwr, congrArg Power.timeUs hpwr, harmed, hnode, hbeacon, hdict, hframe.qmg.trans hrqmg,
      hframe.disk.trans hrdisk, (congrArg Lcm.fuse hframe.lcm).trans hrfuse⟩
    have hon : s.supplyOn.pwr.porstLow = false := hp
    have hlow : u.pwr.porstLow = false := (congrArg Power.porstLow hpwr).trans hp
    have hheld : u.pwr.held = s.pwr.held := by rw [hpwr]; rfl
    rw [execSupplyGood_eq h12 h33 hgood, hon, if_neg Bool.false_ne_true, ← hu', State.intoSlate, hlow, hheld, Bool.false_or]
  · intro v12 v33 node i s h12 h33 hgood
    have hon : supplyIsGood v12 v33 = true := by simp [supplyIsGood, h12, h33]
    simp only [exec_supplyGood, execSupplyGood, hon, hgood, Bool.not_true, Bool.false_eq_true, if_false, if_true, ite_bnot]
  · exact fun s => ⟨s.supplyBack_supplyLow, State.supplyBack_dip⟩
  · intro v12 v33 s h
    have hlost : supplyIsLost v12 v33 = true := by simpa [supplyIsLost] using h
    simp only [exec_supplyLost, execSupplyLost, hlost, Bool.not_true, Bool.false_eq_true, if_false]
  · intro s hpwr hruns
    have hruns' : ({ s with pwr := { s.pwr with pwrGood := false } } : State).coreRuns = true := hruns
    obtain ⟨t, ht, hp, hdone, hqmg, hdisk, hlcm, hc0, hc1, _⟩ := s.heldInReset_spec { s.pwr with pwrGood := false }
    refine ⟨t, ?_, congrArg Power.held hp, congrArg Power.pwrGood hp, hdone, hqmg, hdisk, hlcm, hc0, hc1⟩
    simp only [exec_pwrGoodFall, execPwrGoodFall, hpwr, hruns', Bool.not_true, Bool.false_eq_true, if_false, ← ht, State.heldInReset]
  · intro s hpwr hruns
    have hruns' : ({ s with pwr := { s.pwr with pwrGood := false } } : State).coreRuns = false := hruns
    simp only [exec_pwrGoodFall, execPwrGoodFall, hpwr, hruns', Bool.not_true, Bool.not_false, Bool.false_eq_true, if_false, if_true]
  · intro src s hlo hhi hruns
    have hin : (decide (src < 448) || decide (src > 456)) = false := by simp [hlo, hhi]
    have hruns' : ({ s with pwr := { s.pwr with railsOut := insertNat src s.pwr.railsOut } } : State).coreRuns = false := hruns
    simp only [exec_railOutOfRange, execRailOutOfRange, hin, hruns', Bool.not_false, Bool.false_eq_true, if_false, if_true]
  · intro src s hlo hhi hruns
    have hin : (decide (src < 448) || decide (src > 456)) = false := by simp [hlo, hhi]
    have hruns' : ({ s with pwr := { s.pwr with railsOut := insertNat src s.pwr.railsOut } } : State).coreRuns = true := hruns
    obtain ⟨t, ht, hp, hdone, hqmg, hdisk, hlcm, hc0, hc1, _⟩ :=
      s.heldInReset_spec { s.pwr with railsOut := insertNat src s.pwr.railsOut }
    refine ⟨t, congrArg Power.held hp, congrArg Power.railsOut hp, hdone, hqmg, hdisk, hlcm, hc0, hc1, ?_⟩
    simp only [exec_railOutOfRange, execRailOutOfRange, hin, hruns', Bool.not_true, Bool.false_eq_true, if_false, ← ht,
      State.heldInReset]
  · intro i s u hu
    subst hu
    rfl

end

section
/-!
SUPPORT. A media domain after its reset: out of service, unlocked and under write-inhibit bit 10 (R81).
-/
namespace Sys2Proof.Machine
open Sys2Proof

-- ---------------------------------------------------------------------------------------------------------------
-- The decoder's pool leaves write-inhibit and the start-up

/-- t stands as s in the start-up and in the active sources of write-inhibit of both actuators. -/
def InhibitKept (s t : State) : Prop := t.boot = s.boot ∧ ∀ k < 2, t.inhibits k = s.inhibits k

theorem InhibitKept.refl (s : State) : InhibitKept s s := ⟨rfl, fun _ _ => rfl⟩

theorem InhibitKept.trans {s t u : State} (h : InhibitKept s t) (h' : InhibitKept t u) : InhibitKept s u :=
  ⟨h'.1.trans h.1, fun k hk => (h'.2 k hk).trans (h.2 k hk)⟩

theorem InhibitKept.foldl {α : Type} {g : State → α → State} (l : List α) (hg : ∀ t, ∀ x ∈ l, InhibitKept t (g t x)) (s : State) :
    InhibitKept s (l.foldl g s) := by
  induction l generalizing s with
  | nil => exact .refl s
  | cons x l ih =>
    exact (hg s x List.mem_cons_self).trans (ih (fun t y hy => hg t y (List.mem_cons_of_mem x hy)) _)

/-- A field of a register below those of the preamplifiers. -/
theorem State.setF_inhibitKept (s : State) {f : FieldRef} (h : f.addr < 0x2600000) (v : Nat) : InhibitKept s (s.setF f v) := by
  refine ⟨rfl, fun k hk => ?_⟩
  have hne : (Fld.PRE_WINH_ACTIVE k).addr ≠ f.addr := by
    simp only [Fld.PRE_WINH_ACTIVE]
    omega
  exact State.getF_setF_apart s f ⟨(Fld.PRE_WINH_ACTIVE k).addr, 12, 0⟩ v (by simp [fieldsApart, hne])

theorem State.setInst_inhibitKept (s : State) {n : Nat} (hn : n < 4) (w : Work) (iter : Nat) : InhibitKept s (s.setInst n (some w) iter) := by
  have h (t : State) {f : FieldRef} (hf : f.addr = 0x2400100 + 4 * n) (v : Nat) : InhibitKept t (t.setF f v) :=
    t.setF_inhibitKept (by omega) v
  unfold State.setInst
  extract_lets _ s1
  have h1 : InhibitKept s s1 := ⟨rfl, fun _ _ => rfl⟩
  exact ((((h1.trans (h _ rfl _)).trans (h _ rfl _)).trans (h _ rfl _)).trans (h _ rfl _)).trans (h _ rfl _)

theorem State.idleInst_lt {s : State} {k n : Nat} (h : s.idleInst k = some n) : n < 4 := by
  obtain ⟨r, _, hr⟩ := List.exists_of_findSome?_eq_some h
  exact List.mem_range.mp (List.mem_filter.mp (List.mem_of_find?_eq_some hr)).1

theorem State.fillPool_inhibitKept (s : State) (n : Nat) : InhibitKept s (s.fillPool n) := by
  induction n generalizing s with
  | zero => exact .refl s
  | succ n ih =>
    unfold State.fillPool
    split
    · exact .refl s
    · next w _ =>
      split
      · next i hi =>
        refine InhibitKept.trans ?_ (ih _)
        exact (State.setInst_inhibitKept _ (State.idleInst_lt hi) w w.iters)
      · exact .refl s

theorem State.refillPool_inhibitKept (s : State) : InhibitKept s s.refillPool := by
  have hbusy := InhibitKept.foldl (List.range 4) (g := fun t n => t.setF (Fld.DEC_INST_BUSY n) (b2n (t.dec.inst.getD n none).isSome))
    (fun t n hn => t.setF_inhibitKept (by
      have hn' := List.mem_range.mp hn
      simp only [Fld.DEC_INST_BUSY]
      omega) _) s
  have hshow : InhibitKept s s.showPool :=
    (hbusy.trans (State.setF_inhibitKept _ (by decide) _)).trans (State.setF_inhibitKept _ (by decide) _)
  exact hshow.trans (State.fillPool_inhibitKept _ _)

-- ---------------------------------------------------------------------------------------------------------------
-- Write-inhibit after the reset of a preamplifier's registers (R81, R263)

theorem State.inhibits_inhibitAfterReset (s : State) (k : Nat) : bitOf ((s.inhibitAfterReset k).inhibits k) 10 = true := by
  have hkept : s.inhibitsKept k < 8192 := by
    have h : s.inhibits k < 8192 := Nat.mod_lt _ (by decide)
    unfold State.inhibitsKept
    dsimp only
    split <;> omega
  have hword (act : Nat) (h : act < 8192) :
      bitOf (Word.get (winhWord (0x400 + 8 + (act % 1024 - act % 16) + act / 4096 * 4096)) 12 0) 10 = true := by
    simp only [bitOf, Word.get, bitsOf, winhWord, BitVec.toNat_ofNat, beq_iff_eq, Nat.reducePow, Nat.reduceAdd, Nat.reduceSub]
    omega
  unfold State.inhibitAfterReset State.inhibits
  rw [State.reg_setReg_same]
  exact hword _ hkept

/-- A media domain after its reset, before the runout learned with it is forgotten. -/
theorem State.mediaReset_spec (s : State) {k : Nat} (hk : k < 2) : ∃ u : State, s.mediaReset k = u.forgetRunout k ∧
    domMedia k ∈ u.boot.outOfService ∧ k ∉ u.boot.locked ∧ bitOf (u.inhibits k) 10 = true := by
  unfold State.mediaReset
  extract_lets s0 s1 s2 s3 _ _ s4
  have hpool := s4.refillPool_inhibitKept
  have hbit : s4.inhibits k = (s2.inhibitAfterReset k).inhibits k := rfl
  refine ⟨s4.refillPool, rfl, ?_, ?_, ?_⟩
  · rw [hpool.1]
    exact mem_insertNat.mpr (.inl rfl)
  · rw [hpool.1]
    simp [s4]
  · rw [hpool.2 k hk, hbit]
    exact s2.inhibits_inhibitAfterReset k

end Sys2Proof.Machine

open Sys2Proof Sys2Proof.Machine

/-- Settles O4: each request as its execution takes it, and the domains by what their resets leave. -/
theorem resetRequestsRunTheirEffect : Obligations.ResetRequestsRunTheirEffect := by
  unfold Obligations.ResetRequestsRunTheirEffect
  refine ⟨?_, ?_, ?_, ?_, ?_, ?_, ?_, ?_, ?_, ?_, ?_, ?_⟩
  · intro i s h
    obtain ⟨_, hdisk, _, _, hqmg, _, hdone, _, _⟩ := s.intoReset_spec
    refine ⟨?_, State.getF_setF_same _ Fld.PLT_RSTCAUSE_WARM_REQ 1 (by decide), hdone, hqmg, hdisk⟩
    simp only [exec_rstreqWarm, execRstreqWarm, h, if_true, State.requestWarm]
  · intro i s h
    simp only [exec_rstreqBuffer, execRstreqBuffer, h, if_true, State.requestBuffer]
  · intro s h
    simp only [exec_rstreqHost, execRstreqHost, h, if_true]
  · intro s h
    simp only [exec_rstreqObject, execRstreqObject, h, if_true]
  · intro s h
    simp only [exec_rstreqMedia0, execRstreqMedia0, h, Bool.not_true, Bool.false_eq_true, if_false]
  · intro s h
    simp only [exec_rstreqMedia1, execRstreqMedia1, h, Bool.not_true, Bool.false_eq_true, if_false]
  · intro s h
    refine ⟨?_, ?_⟩
    · simp only [exec_rstreqMedia0, execRstreqMedia0, h, Bool.not_true, Bool.false_eq_true, if_false, if_true]
    · simp only [exec_rstreqMedia1, execRstreqMedia1, h, Bool.not_true, Bool.false_eq_true, if_false, if_true]
  · intro s h
    simp only [exec_rstreqMotion, execRstreqMotion, h, if_true]
  · intro d s
    exact ⟨_, rfl, State.getF_setF_same (s.domainReset d) Fld.PLT_RSTCAUSE_DOMAIN 1 (by decide), rfl⟩
  · intro k s hk
    have hk' : k = 0 ∨ k = 1 := by omega
    rcases hk' with rfl | rfl
    · exact s.mediaReset_spec hk
    · exact s.mediaReset_spec hk
  · intro s
    obtain ⟨hset, hout, hlock, hochre, _⟩ := s.motionReset_spec
    exact ⟨hset, hout, hlock, hochre⟩
  · intro both s hruns hdep
    have hcycle : s.lifeCycle = 2 := beq_iff_eq.mp hdep
    have hclosed : s.takesRequest false = false := by simp [State.takesRequest, State.manufacture, State.returned, hcycle]
    have hopen : s.takesRequest true = true := by simp [State.takesRequest, hruns]
    refine ⟨?_, ?_, ?_, hopen⟩
    · simp only [exec_rstreqMedia0, execRstreqMedia0, hclosed, Bool.not_false, if_true]
    · simp only [exec_rstreqMedia1, execRstreqMedia1, hclosed, Bool.not_false, if_true]
    · simp only [exec_rstreqMotion, execRstreqMotion, hclosed, Bool.false_eq_true, if_false]

end
